-- ==== Sys2Proof/Word.lean ====
section
/-! DEFINITION. The byte type and the fixed tables (256 cells, 48 rails, ...) that every other file uses. -/

namespace Sys2Proof

/-- One byte of a packet, a register or a buffer (R6). -/
abbrev Byte := BitVec 8

/-- The byte holding the low eight bits of a natural number. -/
def byte (n : Nat) : Byte := BitVec.ofNat 8 n

/-- One entry of a fixed table replaced. -/
def upd {α : Type} {n : Nat} (v : Vector α n) (i : Fin n) (x : α) : Vector α n := v.set i.val x i.isLt

/-- Every entry of a fixed table rewritten from its index and its value. -/
def listMapIdx {α β : Type} (f : Nat → α → β) : Nat → List α → List β
  | _, [] => []
  | k, x :: xs => f k x :: listMapIdx f (k + 1) xs

theorem listMapIdx_length {α β : Type} (f : Nat → α → β) (k : Nat) (xs : List α) :
    (listMapIdx f k xs).length = xs.length := by
  induction xs generalizing k with
  | nil => rfl
  | cons x xs ih => simp [listMapIdx, ih]

/-- Every entry of a fixed table rewritten from its index and its value. -/
def mapIdx {α β : Type} {n : Nat} (v : Vector α n) (f : Nat → α → β) : Vector β n :=
  ⟨⟨listMapIdx f 0 v.toArray.toList⟩, by simp [listMapIdx_length]⟩

/-- The entry of a table named by a natural number taken modulo the table's length. -/
def at? {α : Type} {n : Nat} (v : Vector α n) (i : Nat) (d : α) : α := if h : i < n then v[i] else d

/-- The index `i` of a table, taken modulo its length. -/
def fin48 (i : Nat) : Fin 48 := Fin.ofNat 48 i
/-- A cell number, taken modulo 256. -/
def fin256 (i : Nat) : Fin 256 := Fin.ofNat 256 i

/-- The list 0, 1, ..., n - 1. -/
def upto (n : Nat) : List Nat := List.range n

end Sys2Proof
end

