-- ==== Sys2Proof/Syntax.lean ====
section
/-! DEFINITION. The commands the module takes: one constructor of `Instr` for each row of spec/opcode_table.json.
A Zhoenne opcode row carries the request the manager is about to execute (`Req`). Every other row is a happening at
the module's lands, links, fabric or timers, and carries what that happening brings from outside: a cell, a rail, a
port, a frame, a measured value. -/

namespace Sys2Proof

/-- The two Seam ports (R414). -/
inductive Port where
  | a
  | b
  deriving DecidableEq, Repr

/-- Where a command came from (R370): the two-wire host port, a Seam source address, or a Seam source without
an address, answered hop-routed on its arrival port (R429). -/
inductive Source where
  | host
  | seam (addr : Nat)
  | hop (p : Port) (rem : Nat)
  deriving DecidableEq, Repr

/-- A Zhoenne command packet as the manager executes it (R358): its source, VERSION, TAG and PARAMS. The opcode is
the constructor it stands in. -/
structure Req where
  /-- The source of R370. -/
  src : Source
  /-- VERSION, 1 or 2. -/
  ver : Nat
  /-- TAG. -/
  tag : Nat
  /-- PARAMS. -/
  params : List Byte
  deriving DecidableEq, Repr

/-- How a rail-bus message arrived (R58): clean, with one bit corrected, or with an uncorrectable error. -/
inductive Ecc where
  | clean
  | corrected
  | uncorrectable
  deriving DecidableEq, Repr

/-- A Seam frame, read from its bytes (R421). -/
structure Frame where
  /-- FTYPE, bits 3:0. -/
  ftype : Nat
  /-- FFLAGS (R423). -/
  fflags : BitVec 8
  /-- DST, bits 11:0. -/
  dst : Nat
  /-- SRC, 16 bits; bit 15 SRC_NONE. -/
  src : BitVec 16
  /-- REM, bits 11:0. -/
  rem : Nat
  /-- HOPS, bits 11:0. -/
  hops : Nat
  /-- DOMAIN, bits 11:0. -/
  domain : Nat
  /-- SEQ, 16 bits. -/
  seq : Nat
  /-- The payload, LEN bytes. -/
  payload : List Byte
  deriving DecidableEq, Repr

/-- What a Seam port receives after /S/: the bytes of a frame, from offset 0x00 to the last one before its end, and whether it ends in
/T/ with no /V/ and no invalid code-group in it (R421, R424). -/
structure Wire where
  bytes : List Byte
  clean : Bool
  deriving DecidableEq, Repr

/-- Where AUXIN lies: in its range, present and out of range, or absent (R16, R25). -/
inductive AuxCond where
  | inRange
  | outOfRange
  | absent
  deriving DecidableEq, Repr

/-- The condition of the pack thermistor land BTH (R16). -/
inductive BthCond where
  | ok
  | opened
  | shorted
  deriving DecidableEq, Repr

/-- Which of the conditions of PG_RAW changes; a supervisor sample with its code (R233, R246). -/
inductive PgCause where
  | ov
  | uv
  | supervisor (code : Nat)
  deriving DecidableEq, Repr

/-- The charge sources of R308. -/
inductive ChgSource where
  | none
  | vin
  | auxin
  | seam
  deriving DecidableEq, Repr

/-- What ends SHIP (R327). -/
inductive ShipWake where
  | button
  | vin
  | auxin
  | seam
  deriving DecidableEq, Repr

/-- What wakes the module from HIBERNATE (R475, R476). -/
inductive WakeSource where
  | event (e : Fin 1023)
  | twoWire
  | seamFrame (p : Port)
  | seamSignal (p : Port)
  | wakeBtn
  | periodic
  | resetN
  deriving DecidableEq, Repr

/-- What a burn has set in its fuse row: every bit it was to set, at both margins, or the data and tail bits given, as they read at the
loose and at the tight margin (R484, R492). -/
inductive BurnResult where
  | good
  | took (loose tight : List Byte) (tail tightTail : BitVec 16)
  deriving DecidableEq, Repr

/-- A comparator's assertion: the cell, the PWM steps after the leading edge, the current in µA (R53, R54). -/
structure PeakCross where
  cell : Fin 256
  step : Nat
  microAmps : Int
  deriving DecidableEq, Repr

/-- What the millisecond's measurement of SYNC_IN finds: the frequency in 0.01 Hz and the phase error in picoseconds (R178). -/
structure SyncReading where
  hz100 : Nat
  phasePs : Nat
  deriving DecidableEq, Repr

/-- A telemetry timer and the fabric tick count of its instant (R267). -/
structure TimerInstant where
  timer : Fin 8
  tick : Nat
  deriving DecidableEq, Repr

/-- A telemetry sequence and the fabric tick count of its instant (R268 to R271). -/
structure SeqInstant where
  seq : Fin 8
  tick : Nat
  deriving DecidableEq, Repr

/-- A charge source in range, and the port it came into range on where it is Seam (R308). -/
structure SourceInRange where
  source : ChgSource
  port : Port
  deriving DecidableEq, Repr

/-- What wakes the module from SHIP, and the levels its straps then have (R23, R327). -/
structure ShipLeave where
  wake : ShipWake
  straps : BitVec 3
  ext : BitVec 3
  deriving DecidableEq, Repr

/-- The commands of spec/opcode_table.json, one constructor for each row. -/
inductive Instr where
  /-- HELLO (R375): Negotiates the highest common Zhoenne version with the host and returns the packet limits. -/
  | hello (q : Req)
  /-- IDENTIFY (R386): Returns the 48-byte identity record. -/
  | identify (q : Req)
  /-- GET_STATUS (R387): Returns the 32-byte status record. -/
  | getStatus (q : Req)
  /-- RESET_MODULE (R389): Replies DONE and arranges a manager restart or a full start after the reply has left. -/
  | resetModule (q : Req)
  /-- CONFIG_LOAD (R376): Writes data into the image buffer at an offset, clearing the buffer first when the offset is 0. -/
  | configLoad (q : Req)
  /-- CONFIG_APPLY (R382): Checks the buffered Eznuig image, replies STARTED and begins executing its sections. -/
  | configApply (q : Req)
  /-- CONFIG_READ (R376): Returns bytes from the image buffer or from the stored image. -/
  | configRead (q : Req)
  /-- CONFIG_DIGEST (R385): Returns the digests, IMAGE_ID and length of the buffer, the stored image or the image in force. -/
  | configDigest (q : Req)
  /-- RAILMAP_SET (R71): Writes staged rail-map entries and rechecks every entry of the staged map. -/
  | railmapSet (q : Req)
  /-- RAILMAP_GET (R93): Returns staged or active entries, or membership-status records. -/
  | railmapGet (q : Req)
  /-- TACK_PROBE (R83): Starts the tack probe of the output copper when every rail is OFF or LATCHED_OFF. -/
  | tackProbe (q : Req)
  /-- TACK_RESULT (R93): Returns the probe summary or the result words of 128 cells. -/
  | tackResult (q : Req)
  /-- RAILMAP_APPLY (R94): Copies the staged map into the active map and writes the cells' membership and configuration words. -/
  | railmapApply (q : Req)
  /-- MAP_STORE_DONE (R94): The configuration-store write of an apply completes; the reply is sent and waiting slot starts are judged. -/
  | mapStoreDone
  /-- RAIL_ENABLE (R113): Accepts or refuses a rail start and on acceptance enters STARTING. -/
  | railEnable (q : Req)
  /-- RAIL_DISABLE (R118): Stops a starting or running rail according to STOP_MODE. -/
  | railDisable (q : Req)
  /-- RAIL_SET_TARGET (R128): Sets the start target or retargets a running rail. -/
  | railSetTarget (q : Req)
  /-- RAIL_STORE_SETPOINT (R125): Writes a stored set-point and retargets when it writes the index in force. -/
  | railStoreSetpoint (q : Req)
  /-- RAIL_BIND_SELECT (R125): Writes MODE and SEL_BIND and forms the pin index at once when pin-bound. -/
  | railBindSelect (q : Req)
  /-- RAIL_SET_SLEW (R130): Writes the SLEW, START_SLEW and STOP_SLEW rates, in force from the next tick boundary. -/
  | railSetSlew (q : Req)
  /-- RAIL_SET_COMP (R109): Writes the compensator coefficients and REG_CFG and delivers them to every member. -/
  | railSetComp (q : Req)
  /-- RAIL_GET_STATE (R134): Returns the rail regulation record. -/
  | railGetState (q : Req)
  /-- PHASE_POLICY (R145): Applies a rail's phase policy record unless SHED_I is not below ADD_I. -/
  | phasePolicy (q : Req)
  /-- FIRING_ORDER (R154): Sets ORDER, TUMBLE_SRC and TUMBLE_INT of a rail. -/
  | firingOrder (q : Req)
  /-- CREASE_CONFIG (R160): Writes a crease context's configuration record and changes its state as the record requires. -/
  | creaseConfig (q : Req)
  /-- CREASE_READ (R170): Returns a crease context's status record or 64 table entries. -/
  | creaseRead (q : Req)
  /-- CREASE_CLEAR (R160): Clears a crease table and returns the context to ACQUIRING. -/
  | creaseClear (q : Req)
  /-- PHASE_STATUS (R167): Returns a rail's phase status record. -/
  | phaseStatus (q : Req)
  /-- CLOCK_SOURCE (R196): Sets the timebase MODE, an optional offset preset and the SYNC_OUT settings. -/
  | clockSource (q : Req)
  /-- SYNC_QUALIFY (R197): Sets F_NOM, QD, TOL, U_REF, D_HO and SLIDE_RATE. -/
  | syncQualify (q : Req)
  /-- KEEPOUT_SET (R188): Replaces the keep-out bands, refused under ENFORCE when the plan would not keep. -/
  | keepoutSet (q : Req)
  /-- SPUR_PLAN_CHECK (R189): Evaluates the spur plan at a selected uncertainty and reports H_MAX for every rail. -/
  | spurPlanCheck (q : Req)
  /-- CLOCK_STATUS (R198): Returns the clock status record. -/
  | clockStatus (q : Req)
  /-- RAIL_FSW_SET (R182): Sets a rail's switching frequency and PERIOD, refused when the plan would not keep. -/
  | railFswSet (q : Req)
  /-- LIMITS_SET (R200): Writes a rail's PK_LIM, RAMP, ILIM, NEG_ILIM and KLIM and delivers them to its cells. -/
  | limitsSet (q : Req)
  /-- WINDOW_SET (R203): Writes a rail's window margins, filters and AUTO_CLR. -/
  | windowSet (q : Req)
  /-- CELL_RETIRE (R213): Moves a cell to RETIRED, isolating it first when it is active. -/
  | cellRetire (q : Req)
  /-- CELL_RESTORE (R213): Moves a RETIRED cell to OFF and rechecks the map entries naming it. -/
  | cellRestore (q : Req)
  /-- FAULT_CLEAR (R220): Clears W1C bits of the field its scope names and optionally requests a cell restore. -/
  | faultClear (q : Req)
  /-- CELL_SELF_TEST_DONE (R212): The 200 µs restore self-test of an isolated cell ends; the cell returns to OFF or stays ISOLATED and FAULT_CLEAR replies. -/
  | cellSelfTestDone (passed : Bool)
  /-- COVERAGE_REPORT (R222): Returns the module coverage flags and rail coverage records. -/
  | coverageReport (q : Req)
  /-- SEQ_SLOT_SET (R231): Writes a sequence slot record, leaving out rails already named in another USED slot. -/
  | seqSlotSet (q : Req)
  /-- DOMAIN_UP (R228): Takes the domain from DOWN to RISING. -/
  | domainUp (q : Req)
  /-- DOMAIN_DOWN (R228): Takes a RISING or UP domain to FALLING. -/
  | domainDown (q : Req)
  /-- LATCH_RELEASE (R261): Returns LATCHED_OFF rails to OFF and a LATCHED domain to DOWN when FAULT_N is high and every cell is off. -/
  | latchRelease (q : Req)
  /-- PRESSING_READ (R255): Returns half a pressing record, optionally capturing a HOST pressing first. -/
  | pressingRead (q : Req)
  /-- SUPERVISOR_CONFIG (R256): Writes JUDGE_N and supervisor input records, in force from the next scan. -/
  | supervisorConfig (q : Req)
  /-- DOMAIN_CONFIG (R258): Writes the 16-byte domain configuration. -/
  | domainConfig (q : Req)
  /-- DOMAIN_STATUS (R260): Returns the domain status record. -/
  | domainStatus (q : Req)
  /-- TSEQ_SET (R278): Writes a telemetry sequence record, a timer record or SYS_CONV. -/
  | tseqSet (q : Req)
  /-- TSEQ_START (R269): Starts a telemetry sequence and its decimation count. -/
  | tseqStart (q : Req)
  /-- TSEQ_STOP (R281): Stops a telemetry sequence, letting a conversion in progress complete. -/
  | tseqStop (q : Req)
  /-- READ_CHANNEL (R282): Converts a channel now as a system request or returns its latest held result. -/
  | readChannel (q : Req)
  /-- DROP_COUNTS (R279): Returns the drop record and optionally clears it. -/
  | dropCounts (q : Req)
  /-- STREAM_CONFIG (R276): Configures a telemetry stream over Seam, ending an enabled stream at once. -/
  | streamConfig (q : Req)
  /-- TSEQ_READ (R274): Returns a sequence's result record. -/
  | tseqRead (q : Req)
  /-- TEMP_MEASURE (R284): Queues a host temperature reading and replies with its result. -/
  | tempMeasure (q : Req)
  /-- THERMAL_LIMITS (R295): Writes the thermal limits record, in force at the next scheduled evaluation. -/
  | thermalLimits (q : Req)
  /-- THROTTLE_POLICY (R296): Writes the throttle policy record, in force at the next scheduled evaluation. -/
  | throttlePolicy (q : Req)
  /-- THERMAL_STATUS (R298): Returns the thermal status record. -/
  | thermalStatus (q : Req)
  /-- CHARGER_CONFIG (R328): Applies the charger configuration record unless its temperature thresholds are out of order. -/
  | chargerConfig (q : Req)
  /-- CHARGER_START (R332): Sends the charger to QUALIFY. -/
  | chargerStart (q : Req)
  /-- CHARGER_STOP (R332): Sends the charger to IDLE. -/
  | chargerStop (q : Req)
  /-- CHARGER_STATUS (R330): Returns the charger status record. -/
  | chargerStatus (q : Req)
  /-- SHIP_ENTER (R325): Requests SHIP and arms it when every refuser permits. -/
  | shipEnter (q : Req)
  /-- HOLD_RAIL_SET (R302): Sets V_HOLD, I_HOLD, ENABLE and PACK_OK of the HOLD output. -/
  | holdRailSet (q : Req)
  /-- RTC_SET (R339): Replaces the time count, or holds the time for the next PPS edge. -/
  | rtcSet (q : Req)
  /-- RTC_GET (R357): Returns the time, HEM_FLAGS and discipline values. -/
  | rtcGet (q : Req)
  /-- RTC_MODE (R346): Sets the RTC mode, clearing both alarms' ENABLE on a change. -/
  | rtcMode (q : Req)
  /-- ALARM_SET (R345): Writes an alarm record. -/
  | alarmSet (q : Req)
  /-- PERIODIC_SET (R348): Sets or disables the periodic wake interval. -/
  | periodicSet (q : Req)
  /-- BACKUP_WRITE (R349): Writes backup bytes and recomputes the check byte. -/
  | backupWrite (q : Req)
  /-- BACKUP_READ (R349): Returns backup bytes and the result of a fresh CRC check. -/
  | backupRead (q : Req)
  /-- PPS_CONFIG (R341): Sets the PPS discipline's ENABLE, PPS_QUAL, TAU, PPS_STEP and optional DISC_F preset. -/
  | ppsConfig (q : Req)
  /-- WDOG_CONFIG (R355): Writes the watchdog configuration unless it is locked. -/
  | wdogConfig (q : Req)
  /-- ROLLCALL_CONFIG (R353): Writes the roll-call task mask unless the watchdog is locked. -/
  | rollcallConfig (q : Req)
  /-- TASK_CHECKIN (R353): Records a task's check-in for the next counted WDI change. -/
  | taskCheckin (q : Req)
  /-- WDOG_STATUS (R357): Returns the watchdog state and settings. -/
  | wdogStatus (q : Req)
  /-- EVENT_CONFIG (R456): Writes an event's ENABLE, sensing mode and target mask. -/
  | eventConfig (q : Req)
  /-- EVENT_CLAIM (R458): Claims the lowest claimable event on a channel or returns 1,023. -/
  | eventClaim (q : Req)
  /-- EVENT_DONE (R459): Releases a claim and clears the pending bit, or sets DONE_IGNORED. -/
  | eventDone (q : Req)
  /-- SOAK_SET (R461): Sets or clears Soak, the global hold of event delivery. -/
  | soakSet (q : Req)
  /-- MODERATION_SET (R462): Sets a channel's minimum presentation interval. -/
  | moderationSet (q : Req)
  /-- EVENT_PENDING_READ (R465): Returns the pending-bit bitmap. -/
  | eventPendingRead (q : Req)
  /-- STATE_ENTER (R470): Moves the module power state as deep as the request and every refuser permit. -/
  | stateEnter (q : Req)
  /-- STATE_VOTE (R471): Sets the deepest state a host refuser permits. -/
  | stateVote (q : Req)
  /-- STATE_ACCOUNTING (R473): Returns the refusal counts and optionally clears them. -/
  | stateAccounting (q : Req)
  /-- LAST_WAKE (R476): Returns the last-wake record. -/
  | lastWake (q : Req)
  /-- OTP_READ (R485): Reads fuse rows afresh at both margins and returns data and row status. -/
  | otpRead (q : Req)
  /-- OTP_PROGRAM (R491): Burns a fuse row and verifies it at both margins. -/
  | otpProgram (q : Req)
  /-- OTP_FINALISE (R495): Seals a fuse region by burning its digest and LOCK. -/
  | otpFinalise (q : Req)
  /-- OTP_DARN (R502): Redirects a fuse row to a spare row. -/
  | otpDarn (q : Req)
  /-- LIFECYCLE_ADVANCE (R489): Burns stage bytes to advance the life-cycle state. -/
  | lifecycleAdvance (q : Req)
  /-- OTP_HEALTH (R504): Returns the fuse health record. -/
  | otpHealth (q : Req)
  /-- FW_STAGE (R511): Writes firmware image bytes into the staging bank. -/
  | fwStage (q : Req)
  /-- FW_VERIFY (R512): Starts authentication of the staging bank. -/
  | fwVerify (q : Req)
  /-- FW_COMMIT (R513): Checks the commit conditions and replies STARTED to switch to the staging bank. -/
  | fwCommit (q : Req)
  /-- FW_STATUS (R520): Returns the firmware status record. -/
  | fwStatus (q : Req)
  /-- FW_REVERT (R516): Moves service to the verified staging bank by the hitless path. -/
  | fwRevert (q : Req)
  /-- SEAM_STATUS (R447): Returns the Seam status record. -/
  | seamStatus (q : Req)
  /-- DOMAIN_JOIN (R450): Sets the domain number and enters GATHERING or ALONE. -/
  | domainJoin (q : Req)
  /-- DOMAIN_AGREE_STATUS (R449): Returns the agreement record. -/
  | domainAgreeStatus (q : Req)
  /-- SEAM_ADDRESS_SET (R450): Sets the Seam address, effective once the reply has left. -/
  | seamAddressSet (q : Req)
  /-- TIME_MASTER (R440): Sets the TIME_MASTER setting, effective at the next evaluation. -/
  | timeMaster (q : Req)
  /-- TESTMUX_SELECT (R523): Connects an internal signal to a test land. -/
  | testmuxSelect (q : Req)
  /-- TESTMUX_RELEASE (R523): Returns one or every test land to high impedance. -/
  | testmuxRelease (q : Req)
  /-- DOORBELL_SUBMIT (R404): A DOORBELL write with LEN 1–512 submits the command window as a command and makes HP_STATE BUSY. -/
  | doorbellSubmit (v : BitVec 16)
  /-- DOORBELL_TAKE (R405): A DOORBELL write with LEN 0 and TAKE 1 marks the reply taken and returns HP_STATE to IDLE. -/
  | doorbellTake (v : BitVec 16)
  /-- COMMAND_WINDOW_WRITE (R405): A data byte written to the command window is stored within its page, or refused with NACK_BUSY while BUSY. -/
  | commandWindowWrite (b : Byte)
  /-- W1C_WRITE (R400): A 1 written to a W1C bit of the pointer space clears it unless its condition sets it in the same cycle. -/
  | w1cWrite (b : Byte)
  /-- POINTER_SET (R397): The second pointer byte of a write transaction is acknowledged and the pointer is taken. -/
  | pointerSet (lo hi : Byte)
  /-- REGISTER_WRITE (R400): A write to a pointer-space byte without behaviour of its own is stored or discarded. -/
  | registerWrite (b : Byte)
  /-- REPLY_READY (R405): The complete reply has been written to the reply window and HP_STATE becomes REPLY_READY. -/
  | replyReady
  /-- REPLY_TAKE_TIMEOUT (R541): 10 ms after REPLY_READY without TAKE, the reply counts as having left. -/
  | replyTakeTimeout
  /-- SCL_TIMEOUT (R409): SCL held low beyond T_SCL ends the transaction and resets the port state. -/
  | sclTimeout
  /-- SDA_TIMEOUT (R410): SDA driven low by the module for T_SDA is released and the port state reset. -/
  | sdaTimeout
  /-- BUS_ABORT (R410): A START or STOP inside a byte resets the port state and sets BUS_ABORT. -/
  | busAbort
  /-- RECOVERED (R410): SCL pulses seen before a START or STOP after a port reset set RECOVERED and are ignored. -/
  | recovered
  /-- TWO_WIRE_WAKE (R411): The Hem recogniser receives the module address while the engine is unpowered, holds SCL and requests a wake. -/
  | twoWireWake
  /-- ENGINE_HANDOVER (R411): The port engine runs and takes over the held transaction; SCL is released. -/
  | engineHandover
  /-- WAKE_SLOW (R411): 5 ms after a two-wire wake request without the engine running, SCL is released and WAKE_SLOW set. -/
  | wakeSlow
  /-- COMMAND (R429): A Seam COMMAND frame delivered to the module is queued for execution and later answered. -/
  | command (p : Port) (w : Wire)
  /-- BCAST_REPLY_DUE (R429): The per-address delay after a broadcast or DOMSCOPE command ends and its reply is sent. -/
  | bcastReplyDue
  /-- REPLY (R422): A Seam REPLY frame is received and delivered or forwarded. -/
  | reply (p : Port) (w : Wire)
  /-- EVENT (R463): A Seam EVENT frame is received and delivered or forwarded. -/
  | event (p : Port) (w : Wire)
  /-- SYNC (R439): A domain-time SYNC frame is delivered and the count is stepped or slewed toward the master. `phase` is the time passed
  since the last Hem tick and `resid` the frame's residence time in this module, both in 0.1 ns. -/
  | sync (p : Port) (w : Wire) (phase resid : Nat)
  /-- ANNOUNCE (R442): An ANNOUNCE frame is received and updates domain membership and member state. -/
  | announce (p : Port) (w : Wire)
  /-- TELEMETRY (R422): A telemetry stream frame is received and delivered or forwarded. -/
  | telemetry (p : Port) (w : Wire)
  /-- FAULT_ECHO (R434): A FAULT_ECHO frame is delivered; the first copy of each echo is acted on. -/
  | faultEcho (p : Port) (w : Wire)
  /-- WAKE (R435): A WAKE frame is delivered, requesting a wake, and forwarded, waking sleeping neighbours with the wake pattern. -/
  | wake (p : Port) (w : Wire)
  /-- WAKE_FORWARD_TIMEOUT (R435): A held WAKE frame's link has not come UP within 5 ms and the frame is dropped on that port. -/
  | wakeForwardTimeout (p : Port)
  /-- LINK_SYNC (R420): A port acquires clause 36 synchronisation and enters TRAINING. -/
  | linkSync (p : Port)
  /-- LINK_SYNC_LOST (R420): A port loses synchronisation, or receives /C1/ or /C2/ while UP, and enters DOWN. -/
  | linkSyncLost (p : Port)
  /-- LINK_WORD (R418): A training link word is received, answering MARK with ECHO, measuring LINK_DLY and bringing the port UP. `rt`
  is RT of R418, in 0.1 ns. -/
  | linkWord (p : Port) (w : BitVec 16) (rt : Nat)
  /-- TRAINING_TIMEOUT (R420): A port 10 ms in TRAINING without reaching UP returns to DOWN. -/
  | trainingTimeout (p : Port)
  /-- VER_RETRY (R420): The 1 s delay after VER_FAIL ends and training may resume. -/
  | verRetry (p : Port)
  /-- FAULTY (R420): The 16th CRC failure within 10 ms takes an UP port to FAULTY. -/
  | faulty (p : Port)
  /-- FAULTY_SEEN (R420): 100 ms after entry to FAULTY the port returns to TRAINING. -/
  | faultySeen (p : Port)
  /-- PROBE_BURST (R420): A DOWN port sends its 20 µs /C1/ /C2/ burst every 10 ms. -/
  | probeBurst (p : Port)
  /-- PH_OVERLOAD (R416): A port sourcing more than 150 mA for 1 ms turns its phantom source off for 1 s. -/
  | phOverload (p : Port)
  /-- PHANTOM_RESTORE (R416): 1 s after an overload the port's phantom source turns on again. -/
  | phantomRestore (p : Port)
  /-- SEAM_WAKE_SIGNAL (R436): A differential signal present 200 µs on a powered-down port requests a Seam wake. -/
  | seamWakeSignal (p : Port)
  /-- ANNOUNCE_DUE (R441): At its 100 ms slot an addressed module sends its ANNOUNCE. -/
  | announceDue
  /-- SYNC_DUE (R437): The time master sends a SYNC frame at each whole second of its count. -/
  | syncDue
  /-- AGREEMENT_EVAL (R444): Every 100 ms the module compares domain members, sets the agreement state and chooses the time master. -/
  | agreementEval
  /-- ECHO_REPEAT (R433): 10 µs after a fault echo the second copy with the same ECHO_ID is sent. -/
  | echoRepeat
  /-- VIN_RISE (R21): VIN rises above 8.6 V, allowing start-up or a restart. -/
  | vinRise
  /-- VIN_UV (R21): VIN falls below 8.0 V: switching stops, HOLD moves to the pack, rails go OFF and the domain DOWN. -/
  | vinUv
  /-- VIN_OV (R21): VIN rises above 16.5 V and every cell's input switch opens. -/
  | vinOv
  /-- VIN_OV_RECOVER (R212): VIN below 15.5 V for 1 ms returns cells isolated for VIN_OV to OFF. -/
  | vinOvRecover
  /-- VIN_RESTART (R244): 10 ms after VIN returns, a remembered RISING or UP domain re-enters RISING. -/
  | vinRestart
  /-- AUXIN_RANGE (R16): AUXIN enters or leaves its 8.5–31.0 V range. -/
  | auxinRange (c : AuxCond)
  /-- AUXID_READ (R309): Once per second with AUXIN present the AUXID code is read and AUXIN re-qualified on a change. -/
  | auxidRead (v : Nat)
  /-- BTH_OPEN (R16): The pack thermistor reads open or shorted, or returns to range. -/
  | bthOpen (c : BthCond)
  /-- WAKE_BTN (R475): WAKE_BTN is held low after its filter, waking the module or cancelling a SHIP arming. -/
  | wakeBtn
  /-- WAKE_STUCK (R16): WAKE_BTN low for more than 10 s is declared stuck and ignored. -/
  | wakeStuck
  /-- RESET_N (R518): The filtered falling edge of RESET_N starts a manager restart or a full-mode shutdown and start. -/
  | resetN
  /-- FULL_RESET_TIMEOUT (R518): 10 s after a FULL-mode reset edge, cells still switching are stopped and a full start is made. -/
  | fullResetTimeout
  /-- FULL_START (R384): The module resets every block but Hem, reads the straps, loads configuration and the rail map. -/
  | fullStart (straps ext : BitVec 3)
  /-- AUTO_UP (R384): After the automatic probe or image load, the module makes DOMAIN_UP itself. -/
  | autoUp
  /-- MANAGER_START (R517): The manager starts, runs its fuse checks and takes up its work, answering dropped commands. -/
  | managerStart
  /-- RESET_MODULE_ACT (R389): 1 ms after the RESET_MODULE reply has left, the restart or full start is made. -/
  | resetModuleAct
  /-- LOCKSTEP_MISMATCH (R519): The lockstep comparator stops both processors and a manager restart follows. -/
  | lockstepMismatch
  /-- FAULT_N_LOW (R240): FAULT_N accepted low shuts off every cell, latches every running rail and the domain. -/
  | faultNLow
  /-- FAULT_N_RELEASE (R239): Once every cell is off and FN_PULSE has passed the module releases FAULT_N. -/
  | faultNRelease
  /-- FN_OPEN (R239): 1 µs after driving FAULT_N low the line is read back, setting FN_OPEN if high. -/
  | fnOpen
  /-- FN_STUCK (R239): FAULT_N low for 100 ms without this module driving it sets FN_STUCK. -/
  | fnStuck
  /-- SQUI_HIGH (R232): SQUI is accepted high and a waiting rise starts its first slot. -/
  | squiHigh
  /-- SQDI_HIGH (R242): SQDI is accepted high and a waiting downward run starts. -/
  | sqdiHigh
  /-- CASCADE_DROP (R237): SQDI high for 100 µs while RISING or UP starts a latching fall. -/
  | cascadeDrop
  /-- CAS_TIMEOUT (R235): The cascade input has not been seen within CAS_TIMEOUT, failing the rise or proceeding down without it. -/
  | casTimeout
  /-- EN_PIN_EDGE (R230): An accepted edge on an EN pin acts as DOMAIN_UP or DOMAIN_DOWN, or opens a slot's gate. -/
  | enPinEdge (pin : Fin 4) (level : Bool)
  /-- UP_DELAY_END (R232): A slot's UP_DELAY ends and it starts its named rails. -/
  | upDelayEnd
  /-- SLOT_QUALIFIED (R234): Every named rail's PG_RAW has held for QUAL and the slot qualifies. -/
  | slotQualified
  /-- SLOT_TIMEOUT (R235): A slot's TIMEOUT expires before it qualifies and the rise fails. -/
  | slotTimeout
  /-- PG_FALL (R234): A counted fall of PG_RAW restarts qualification, counts chatter and raises the power-good event. -/
  | pgFall (r : Fin 48) (c : PgCause)
  /-- SUPERVISION_START (R234): A rail started by command becomes supervised after PG_RAW has held 1 ms. -/
  | supervisionStart (r : Fin 48)
  /-- DOWN_DELAY_END (R242): A slot's DOWN_DELAY ends and it stops its named rails. -/
  | downDelayEnd
  /-- SLOT_DOWN_DONE (R242): Every named rail of a down slot is OFF; the next slot runs or the domain ends DOWN or LATCHED. -/
  | slotDownDone
  /-- DOWN_TIMEOUT (R242): A rail not OFF within DOWN_TIMEOUT is turned off immediately. -/
  | downTimeout (r : Fin 48)
  /-- SUPERVISOR_JUDGEMENT (R248): JUDGE_N consecutive out-of-window samples judge an input and its action is taken. -/
  | supervisorJudgement (k : Fin 64) (code : Nat)
  /-- SUPERVISOR_SCAN_END (R209): At the end of each 64 µs scan the cross-check is made and AUTO_CLR trips are cleared. -/
  | supervisorScanEnd (codes : List Nat) (cross : Option (Fin 60 × Int))
  /-- PRESSING_WRITE (R251): The manager moves a captured pressing into the flash log. -/
  | pressingWrite
  /-- OV_TRIP (R206): The OV comparator holds for OV_FILT and the rail trips, forcing its members off. -/
  | ovTrip (r : Fin 48)
  /-- UV_TRIP (R206): The UV comparator holds for UV_FILT and the rail trips through the domain shut-off. -/
  | uvTrip (r : Fin 48)
  /-- THRESHOLD_READBACK (R208): Every 10 ms the threshold converters are read back and compared with their codes. -/
  | thresholdReadback (r : Fin 48) (ov uv : Nat)
  /-- SENSE_FAULT (R31): Sense and leader CO lands differ by more than 200 mV for 64 µs and every member selects LOCAL. -/
  | senseFault (r : Fin 48)
  /-- NEG_LIMIT_RELEASE (R202): After 8 ticks with i_rail at or above zero the sink limit's diode emulation is removed. -/
  | negLimitRelease (r : Fin 48)
  /-- CELL_FAULT (R211): A cell monitor detects a fault cause and the cell enters ISOLATED. -/
  | cellFault (c : Fin 256) (cause : BitVec 8)
  /-- INPUT_SWITCH (R38): The input switch has not closed 500 µs after precharge began and the cell isolates. -/
  | inputSwitch (c : Fin 256)
  /-- ISLAND_CLOCK (R55): Each 10 µs count of the island clock is judged and an out-of-range clock isolates the cell. -/
  | islandClock (c : Fin 256) (kHz : Nat)
  /-- INPUT_NODE_READY (R38): The input node comes within 0.3 V of VIN; the switch closes and the cell is ARMED. -/
  | inputNodeReady (c : Fin 256)
  /-- PEAK_TRIP (R54): The peak comparator ends a high-side pulse before its scheduled trailing edge. -/
  | peakTrip (p : PeakCross)
  /-- ZERO_CROSS (R40): In diode emulation the low-side switch turns off when inductor current reaches 0 A. -/
  | zeroCross (c : Fin 256)
  /-- PWM_PERIOD_BOUNDARY (R51): At a period boundary buffered words take effect and pending state changes of the cell commit. -/
  | pwmPeriodBoundary (c : Fin 256) (avg : Int)
  /-- ERROR_SAMPLE (R45): An error-converter result reaches the slice and is counted, saturated or compared with STEP_E. -/
  | errorSample (c : Fin 256) (diff : Int)
  /-- HEARTBEAT (R78): A HEARTBEAT is latched and judged against the leader, former leader and succession order. -/
  | heartbeat (c src : Fin 256) (count : Nat) (ecc : Ecc)
  /-- SHADOW (R48): A SHADOW word is latched and a complete set replaces the follower's shadow state. -/
  | shadow (c src : Fin 256) (index : Fin 8) (word : BitVec 32) (ecc : Ecc)
  /-- DUTY (R51): A DUTY message sets the ON_TIME for the next period boundary. -/
  | duty (c : Fin 256) (on : BitVec 16) (ecc : Ecc)
  /-- CURRENT (R42): A member's CURRENT message reaches the leader and phase manager. -/
  | current (c src : Fin 256) (word : BitVec 32) (ecc : Ecc)
  /-- STATUS_RD (R57): The manager asks a cell for four status-block bytes. -/
  | statusRd (c : Fin 256) (index : Nat) (ecc : Ecc)
  /-- STATUS_REPLY (R61): A cell's status bytes reach the manager and refresh the status block. -/
  | statusReply (c : Fin 256)
  /-- CONFIG_WR (R57): A configuration word reaches a cell and is stored by its INDEX. -/
  | configWr (c : Fin 256) (index : Nat) (word : BitVec 32) (ecc : Ecc)
  /-- ISOLATE (R36): An ISOLATE message puts the cell into ISOLATED with its cause. -/
  | isolate (c : Fin 256) (cause : BitVec 8) (ecc : Ecc)
  /-- REFERENCE (R44): A REFERENCE broadcast updates each member's copy of the instantaneous reference. -/
  | reference (c : Fin 256) (code : BitVec 16) (ecc : Ecc)
  /-- ARM (R150): An ARM message starts precharge of an OFF cell, or cancels a pending shed and re-adds SHED cells. -/
  | arm (c : Fin 256) (ecc : Ecc)
  /-- RESERVED_MESSAGE (R57): A rail-bus message of a reserved type is acknowledged, discarded and counted. -/
  | reservedMessage (c : Fin 256) (type : Nat) (ecc : Ecc)
  /-- HS_TIMEOUT (R60): A member that has not acknowledged within 256 ns is left out of the broadcast. -/
  | hsTimeout (c : Fin 256)
  /-- BUS_SILENT (R60): A member missing acknowledgements for two consecutive periods is isolated. -/
  | busSilent (c : Fin 256)
  /-- APPLY (R142): A phase control APPLY sets A, P and ROT at the next rail period boundary. -/
  | apply (c : Fin 256) (word : BitVec 32) (ecc : Ecc)
  /-- PEND_SHED (R149): A phase control PEND_SHED marks a shed pending and starts its dwell. -/
  | pendShed (c : Fin 256) (word : BitVec 32) (ecc : Ecc)
  /-- CANCEL (R141): A phase control CANCEL ends a pending shed. -/
  | cancel (c : Fin 256) (word : BitVec 32) (ecc : Ecc)
  /-- CONTROL_TICK (R105): At a control-tick boundary the leader runs the compensator, steps the reference and broadcasts. -/
  | controlTick (r : Fin 48)
  /-- CHECK_POINT (R78): At each check point every member and bank hub judges leader heartbeats. -/
  | checkPoint (r : Fin 48)
  /-- RANK_REWRITE (R78): After an isolation or takeover the manager rewrites ranks and indices and promotes a spare. -/
  | rankRewrite (r : Fin 48)
  /-- PRESTART_MEASURE_DONE (R114): The pre-start measurement completes; the start is abandoned or the leader is loaded and arming begins. -/
  | prestartMeasureDone (r : Fin 48) (vin : Nat) (sense co : Int)
  /-- ARM_GROUP_DUE (R114): Every 120 µs the next group of up to 32 cells is armed. -/
  | armGroupDue
  /-- DEM_HOLD_END (R114): DEM_HOLD ticks after reaching the start target, members disable diode emulation. -/
  | demHoldEnd (r : Fin 48)
  /-- RAIL_STOPPED (R117): Every member is OFF and the rail enters OFF, raising its power-good event. -/
  | railStopped (r : Fin 48)
  /-- SEL_CHANGE (R123): An accepted SEL change forms the index of each pin-bound rail and retargets it. -/
  | selChange (pin : Fin 12) (level : Bool)
  /-- DWELL_END (R149): A pending shed's dwell ends and the phase manager sends APPLY to commit it. -/
  | dwellEnd (r : Fin 48)
  /-- HOLDOFF_END (R155): The holdoff after a step ends and deferred rotation and sheds may proceed. -/
  | holdoffEnd (r : Fin 48)
  /-- TUMBLE_DUE (R155): TUMBLE_INT ticks pass and ROT advances in an APPLY. -/
  | tumbleDue (r : Fin 48)
  /-- FRAME_STROBE (R161): An accepted FRAME_IN strobe qualifies, starts or re-phases a crease context's frame. -/
  | frameStrobe (x : Fin 8) (t : Nat)
  /-- MISSED (R161): A predicted frame start passes without a strobe, lowering the weight. -/
  | missed (x : Fin 8)
  /-- FRAME_IN_ABSENT (R16): No FRAME_IN strobe for 200 ms declares the strobe absent. -/
  | frameInAbsent
  /-- TACK_DISCHARGE_LOOK (R85): Each millisecond of the discharge wait the outputs above 128 mV are looked at and probing begins when due. -/
  | tackDischargeLook (above : BitVec 256) (last : Bool)
  /-- TACK_SLOT_END (R85): A 1.0 ms probe slot ends and its cell's net is formed. -/
  | tackSlotEnd (c : Fin 256) (amps : List Nat) (fault : Bool)
  /-- TACK_DONE (R91): The probe completes, the active map is rechecked and TACK_DONE raised. -/
  | tackDone
  /-- SYNC_IN_PRESENT (R178): Edges appear on SYNC_IN and the reference starts QUALIFYING. -/
  | syncInPresent
  /-- SYNC_RANGE (R178): SYNC_IN has no edge for 4 µs or leaves range and the reference becomes ABSENT. -/
  | syncRange
  /-- SYNC_MEASUREMENT (R178): Each 1 ms SYNC_IN is measured against the XO and passes or fails. -/
  | syncMeasurement (m : SyncReading)
  /-- QUALIFIED (R178): The qualification delay completes and the reference becomes QUALIFIED. -/
  | qualified
  /-- LOCKED (R176): Frequency and phase within limits for 1 ms take PULL_IN to LOCKED. -/
  | locked
  /-- SLIDE_DONE (R176): OFFSET_NOW reaches its slide target and the timebase enters HOLDOVER or FREE. -/
  | slideDone
  /-- LOCKED_SECOND (R180): A whole second in LOCKED is recorded into OFFSET_LEARNED. -/
  | lockedSecond (mean : Int)
  /-- U_UPDATE (R181): Once per second U and HO_TIME are recomputed and the spur plan re-evaluated. -/
  | uUpdate
  /-- XO_FAIL (R192): An XO window with no edge or a bad count sets XO_BAD; the manager coasts. -/
  | xoFail
  /-- XO_RECOVERED (R191): XO good for 1 s clears XO_BAD and the PLL relocks. -/
  | xoRecovered
  /-- CLOCK_SWITCH (R193): A clock multiplexer completes a glitch-free switch to the new clock. -/
  | clockSwitch (coast : Bool)
  /-- CLKSW_FORCED (R193): The old clock's edges have not come within eight new cycles and it is removed. -/
  | clkswForced
  /-- LEVEL_REQUEST (R195): The firmware requests a manager level and the sequencer sets the supply target. -/
  | levelRequest (level : Fin 3)
  /-- VF_SWITCH (R195): The supply has held within 10 mV for 4 µs and the higher frequency is switched in. -/
  | vfSwitch
  /-- VF_FAIL (R195): The supply missed its target within 100 µs; the frequency is kept. -/
  | vfFail
  /-- SYNC_OUT_CYCLE_END (R184): A pending SO_MODE or DIV change takes effect at the end of the SYNC_OUT cycle. -/
  | syncOutCycleEnd
  /-- TIMER_FIRE (R267): A telemetry timer fires and triggers its sequences. -/
  | timerFire (k : TimerInstant)
  /-- SEQUENCE_TRIGGER (R269): A PWM event or frame start triggers a sequence, counted by DECIM or as an overrun. -/
  | sequenceTrigger (q : SeqInstant)
  /-- RUN_START (R271): A run's first sampling instant arrives; it starts, waits or is dropped. -/
  | runStart (q : SeqInstant)
  /-- CONVERSION_DONE (R274): A converter's busy window ends, results are held and waiting runs are served. -/
  | conversionDone (q : SeqInstant) (codes : List Int)
  /-- NO_EVENT (R268): A named PWM event has not occurred for 10 µs and NO_EVENT is set. -/
  | noEvent (q : Fin 8)
  /-- THERMAL_SCHEDULE (R286): Each schedule interval the die and one bank of cells are requested and rates, steps and stops evaluated. -/
  | thermalSchedule
  /-- TEMP_READING_DONE (R283): A temperature reading completes and is delivered to its requesters. -/
  | tempReadingDone (code : Nat) (reading : BitVec 16)
  /-- TEMP_READING_TIMEOUT (R284): A reading without result 2 ms after being served reads 0x8000 and faults its sensor. -/
  | tempReadingTimeout (code : Nat)
  /-- DIE_SENSE_FAULT (R285): A die sensor's monitor finds it open or shorted. -/
  | dieSenseFault (k : Fin 16) (bad : Bool)
  /-- TSD (R293): A die sensor above 135 °C for 20 µs trips the hardware shutdown. -/
  | tsd (k : Fin 16)
  /-- TSD_CLEAR (R294): Every sensor below 100 °C for 100 ms clears TSD_NOW. -/
  | tsdClear
  /-- HN_SAG (R304): HN below 7.0 V for 0.5 µs moves HOLD off VIN. -/
  | hnSag
  /-- HOLD_RETURN_VIN (R304): VIN usable for 10 ms moves HOLD back onto VIN. -/
  | holdReturnVin
  /-- HOLD_SHORT (R306): HOLD below 80 % of V_HOLD for 10 ms turns off and enters RETRY. -/
  | holdShort
  /-- HOLD_RETRY (R306): 1 s after entering RETRY, HOLD restarts as from OFF. -/
  | holdRetry
  /-- PACK_EXHAUSTED (R307): Mean cell voltage below VCUT_MV for 10 ms on the pack opens S_B and HOLD is LOST. -/
  | packExhausted
  /-- PACK_REMOVED (R312): Pack removal is detected, the charger stops and HOLD follows. -/
  | packRemoved
  /-- PACK_INSERTED (R312): BTH_OPEN clear for 1 s marks a pack inserted and may start QUALIFY. -/
  | packInserted
  /-- SOURCE_CHANGE (R308): A charge source has been in range 100 ms and the charger changes source. -/
  | sourceChange (e : SourceInRange)
  /-- CHARGER_SECOND (R316): Each second the charger reads pack and BTH and judges end of charge, faults, windows and its timer. -/
  | chargerSecond (packMv : Nat) (mA : Int) (limiting : Bool)
  /-- QUALIFY_DONE (R315): Qualification's 2 s ends and the charger enters PRECHARGE, FAST, FAULT or SUSPENDED. -/
  | qualifyDone (packMv : Nat)
  /-- PHASE_TIMER_EXPIRED (R321): A phase's full-rate timer or wall cap expires. -/
  | phaseTimerExpired (wall : Bool)
  /-- RECHARGE_CHECK (R319): Every 60 s in MAINTAIN the charger pauses, reads V16 and may restart QUALIFY. -/
  | rechargeCheck (packMv : Nat)
  /-- CHARGER_HW (R315): The charger stage fails to reach its target within 100 ms and enters FAULT. -/
  | chargerHw
  /-- SHIP_ENTRY (R326): SHIP_DELAY without a source passes; refusers are asked and SHIP is entered or cancelled. -/
  | shipEntry
  /-- SHIP_EXIT (R327): A WAKE_BTN hold or a source appearing leaves SHIP with a full start. -/
  | shipExit (e : ShipLeave)
  /-- HIBERNATE_ENTRY (R474): After the STATE_ENTER reply has left, entry to HIBERNATE begins. -/
  | hibernateEntry
  /-- HIBERNATE_ENTERED (R474): Supply and bias reach their HIBERNATE settings and the module is in HIBERNATE. -/
  | hibernateEntered
  /-- HIBERNATE_EXIT (R475): A wake leaves HIBERNATE for RUN, writing the last-wake record. -/
  | hibernateExit (src : WakeSource)
  /-- DOZE_RESUME (R468): New work resumes a clock-gated manager in DOZE. -/
  | dozeResume
  /-- WDI_CHANGE (R352): An accepted WDI change is judged as a service, early service or ignored. -/
  | wdiChange (level : Bool) (stamp : Nat)
  /-- WDOG_OPEN (R351): The closed window ends and the watchdog enters OPEN. -/
  | wdogOpen
  /-- WDOG_EXPIRY (R354): FIRST or OPEN ends without a counted change and WDO is driven low. -/
  | wdogExpiry
  /-- WDOG_PULSE_END (R354): The WDO pulse ends and the watchdog enters FIRST. -/
  | wdogPulseEnd
  /-- PPS_EDGE (R343): A PPS_IN edge is accepted or rejected and the discipline acts. -/
  | ppsEdge (inRange : Bool)
  /-- PPS_ABSENT (R341): No PPS_IN for 1.5 s: the discipline holds over and a held RTC_SET is discarded. -/
  | ppsAbsent
  /-- ALARM_FIRE (R345): The count reaches an alarm's time; the alarm fires and wakes the module. -/
  | alarmFire (k : Fin 2)
  /-- PERIODIC_WAKE (R348): The periodic wake interval ends and wakes the module. -/
  | periodicWake
  /-- CAL_WRAP (R338): The presented calendar passes 2099 and wraps to 2000. -/
  | calWrap
  /-- TIME_SUSPECT (R335): The Hem supply falls below 1.50 V and TIME_SUSPECT is set. -/
  | timeSuspect
  /-- HEM_POR (R335): Hem's power-on reset clears time, backup and every Hem setting. -/
  | hemPor
  /-- HOLDUP_LOW (R334): The hold-up cell crosses 2.00 V, setting or clearing HOLDUP_LOW. -/
  | holdupLow (low : Bool)
  /-- EVENT_LINE_EDGE (R453): An event line changes and its pending bit and rearm mark are set as sensing states. -/
  | eventLineEdge (e : Fin 1024) (level : Bool)
  /-- MODERATION_DUE (R462): A channel's moderation interval passes and the next event is presented. -/
  | moderationDue (ch : Fin 4)
  /-- CONFIG_DONE (R382): An apply finishes executing its sections, applies the map and stores the image. -/
  | configDone
  /-- FW_VERIFY_DONE (R512): Verification of the staging bank completes and the bank becomes VERIFIED or REJECTED. -/
  | fwVerifyDone
  /-- COMMIT_STOP (R514): 1 ms after a commit or revert reply has left, the manager stops and the boot selector is written. -/
  | commitStop
  /-- TRIAL_CONFIRM (R510): 60 s of running in TRIAL makes the bank ACTIVE. -/
  | trialConfirm
  /-- SEAM_FRAME_SENT (R541): The last byte of a frame has been sent on every port that carries it; the reply has left and the port serves its next
    queued frame. -/
  | seamFrameSent (p : Port)
  /-- OTP_BURN_DONE (R492): A fuse burn of about 2 ms per row completes,
    the row is read back at both margins and the command replies or continues with its next byte or row. -/
  | otpBurnDone (result : BurnResult)
  /-- FW_STAGE_WRITE_DONE (R511): A staging-bank sector erase and flash write complete, the write is verified,
    FLASH_ERR is set on failure and FW_STAGE replies. -/
  | fwStageWriteDone (ok : Bool)
  /-- PG_RAW_RISE (R234): PG_RAW returns to 1, when a supervisor sample is back in window or a window comparator releases,
    restarting the rail's qualification time and driving its PG outputs. -/
  | pgRawRise (r : Fin 48) (c : PgCause)
  /-- PHANTOM_POWER_LOST (R308): The phantom power a port receives leaves its 10–14 V range,
    so Seam stops being a charge source and the charger changes source or suspends with NO_SOURCE. -/
  | phantomPowerLost (p : Port)
  deriving DecidableEq, Repr

end Sys2Proof
end

