-- ==== Sys2Proof/Decode.lean ====
section
/-! DEFINITION. The decoder over the rows of spec/opcode_table.json that give bits. No row does: the table's `fields` are empty
for all 298 rows, since the module takes packets, frames and happenings, not instruction words. -/

namespace Sys2Proof

/-- The command a word spells by the table's bits: none, since no row of the table gives bits. (DESIGN
CHOICE 1, unsafe.) -/
def decodeTableWord (_nbits _w : Nat) : Option Instr := none

end Sys2Proof
end

