-- ==== Sys2Proof/Config.lean ====
section
/-! DEFINITION. What an implementation fixes and what the spec leaves open. Every opaque constant below is a FREE VALUE:
it has no body, nothing evaluates it, and a statement that mentions one holds for every value of it. The first
argument is the model's own counter `State.free`, so that two readings need not agree. -/

namespace Sys2Proof.Config

/-- The physical quantity at telemetry channel `ch` now, in the channel's unit (R263, R282). -/
opaque conversion (ctr ch : Nat) : Int
/-- A quotient by 0, where the spec states no result: no sample, no average (R42, R104, R107). -/
opaque quotient (num : Int) (den : Nat) : Int
/-- Whether a quotient that is not whole is rounded up, where the spec states no rounding (R42, R89, R104, R107, R161, R163, R252). -/
opaque roundsUp (num : Int) (den : Nat) : Bool
/-- A 16-bit value stored from a result outside the format, where the spec states no result (R163). -/
opaque overflow16 (value : Int) : Int
/-- Byte offset in the VID region of the 64-byte public key: not given (R508). -/
opaque vidKeyOffset : Nat
/-- Byte offset in the CID region of the 8-byte unique identity: not given (R386). -/
opaque cidIdOffset : Nat
/-- The duty preset of R114 when VIN reads 0 mV: the spec divides by VIN and states no result. -/
opaque presetVinZero (vpre : Nat) : Int
/-- One of several possible values where the spec leaves the order of two happenings open (R59). -/
opaque freeBool (ctr : Nat) : Bool
/-- The eight check bits of a rail-bus message over its bits 63:0: a SEC-DED code that the spec does not give (R56). -/
opaque secDed (word : BitVec 64) : BitVec 8
/-- The ten check bits of a fuse row over its 256 data bits: a SEC-DED code that the spec does not give (R481). -/
opaque rowCheck (data : List Byte) : Nat
/-- The INDEX of a configuration word to which the spec gives none (R109, R128, R131, R200). -/
opaque configIndex (word : Nat) : BitVec 8
/-- A natural number the spec does not fix. -/
opaque freeNat (ctr : Nat) : Nat
/-- An integer the spec does not fix. -/
opaque freeInt (ctr : Nat) : Int

end Sys2Proof.Config
end

