-- ==== Sys2Proof/Machine/Bits.lean ====
section
/-! DEFINITION. The little-endian field codecs of R6, two's complement codes, saturating counts, rounding, and the CRCs of
R349 and R359. -/

namespace Sys2Proof

/-- Little-endian field of `k` bytes (R6). -/
def leBytes : Nat → Nat → List Byte
  | 0, _ => []
  | k + 1, n => byte n :: leBytes k (n / 256)

/-- Little-endian 16-bit field. -/
def le16 (n : Nat) : List Byte := leBytes 2 n

/-- Little-endian 32-bit field. -/
def le32 (n : Nat) : List Byte := leBytes 4 n

/-- The natural number a little-endian byte list holds (R6). -/
def leNat : List Byte → Nat
  | [] => 0
  | b :: bs => b.toNat + 256 * leNat bs

/-- The field of `k` bytes at offset `o` of a byte list, little-endian; bytes beyond the end read as
zero. (DEDUCED 106, safe.) -/
def fieldAt (bs : List Byte) (o k : Nat) : Nat := leNat ((bs.drop o).take k)

/-- The byte at offset `o`, zero beyond the end. -/
def byteAt (bs : List Byte) (o : Nat) : Nat := (bs.getD o 0).toNat

/-- Two's complement code of `w` bits for an integer (R6). (DEDUCED 106, safe.) -/
def toCode (w : Nat) (i : Int) : Nat := (i % (2 ^ w : Int)).toNat

/-- The integer a two's-complement code of `w` bits holds (R6). -/
def ofCode (w : Nat) (n : Nat) : Int :=
  if n % 2 ^ w < 2 ^ (w - 1) then (n % 2 ^ w : Nat) else (n % 2 ^ w : Nat) - (2 ^ w : Int)

/-- Signed 16-bit little-endian field at offset `o`. -/
def s16At (bs : List Byte) (o : Nat) : Int := ofCode 16 (fieldAt bs o 2)

/-- Signed 32-bit little-endian field at offset `o`. -/
def s32At (bs : List Byte) (o : Nat) : Int := ofCode 32 (fieldAt bs o 4)

/-- A count that saturates at `m`. (DEDUCED 106, safe.) -/
def satInc (m n : Nat) : Nat := if n < m then n + 1 else m

/-- A value brought to the nearer end of a range. -/
def clampNat (lo hi n : Nat) : Nat := if n < lo then lo else if hi < n then hi else n

/-- An integer brought to the nearer end of a range. -/
def clampInt (lo hi n : Int) : Int := if n < lo then lo else if hi < n then hi else n

/-- Bit `k` of a natural number. -/
def natBit (n k : Nat) : Bool := n / 2 ^ k % 2 == 1

/-- One, when the flag is set. -/
def b2n (b : Bool) : Nat := if b then 1 else 0

/-- Rounding of a quotient to nearest, halves away from zero (R105). -/
def roundDiv (a : Int) (b : Nat) : Int :=
  if b = 0 then 0 else if 0 ≤ a then (2 * a + b) / (2 * b) else - ((2 * (-a) + b) / (2 * b))

/-- Quotient rounded up. -/
def ceilDiv (a b : Nat) : Nat := if b = 0 then 0 else (a + b - 1) / b

/-- Bytes XORed into the top of a register of `w` bits and shifted out through a polynomial, most significant bit first, not
reflected (R349, R359). -/
def crcBits (w poly : Nat) : Nat → Nat → Nat
  | 0, c => c
  | k + 1, c =>
    crcBits w poly k (if c / 2 ^ (w - 1) % 2 = 1 then Nat.xor (c * 2 % 2 ^ w) poly else c * 2 % 2 ^ w)

/-- CRC of `w` bits over a list of bytes from an initial value (R349, R359). -/
def crcOf (w poly : Nat) : Nat → List Byte → Nat
  | c, [] => c
  | c, b :: bs => crcOf w poly (crcBits w poly 8 (Nat.xor c (b.toNat * 2 ^ (w - 8)))) bs

/-- The packet CRC: CRC-16, polynomial 0x1021, initial value 0xFFFF (R359). -/
def crc16 (bs : List Byte) : Nat := crcOf 16 0x1021 0xFFFF bs

/-- The check byte of backup memory: CRC-8, polynomial 0x07, initial value 0xFF (R349). -/
def crc8 (bs : List Byte) : Nat := crcOf 8 0x07 0xFF bs

/-- Eight steps of the reflected CRC-32 register (R252). -/
def crc32Bits : Nat → Nat → Nat
  | 0, c => c
  | k + 1, c => crc32Bits k (if c % 2 = 1 then Nat.xor (c / 2) 0xEDB88320 else c / 2)

/-- The reflected CRC-32 register over a list of bytes. -/
def crc32Run : Nat → List Byte → Nat
  | c, [] => c
  | c, b :: bs => crc32Run (crc32Bits 8 (Nat.xor c b.toNat)) bs

/-- The CRC-32 of IEEE 802.3 (R252). -/
def crc32 (bs : List Byte) : Nat := Nat.xor (crc32Run 0xFFFFFFFF bs) 0xFFFFFFFF

end Sys2Proof
end

