-- ==== Sys2Proof/Machine/State.lean ====
section
/-! DEFINITION. The state of the module, as plain data, and its reset. Every field's docstring gives what it is, its width
in bits, the rule of spec/ that names it, and where its reset value comes from: `spec` (the rule gives it), `DC n` (a design
choice, assumption log entry n) or `model` (a field of the model's own, log entry n). -/

namespace Sys2Proof.Machine

/-- Cell states | R35. -/
inductive CellSt where
  | off | armed | switching | shed | isolated | retired
  deriving DecidableEq, Repr

/-- Roles of a cell within its rail | R65. -/
inductive Role where
  | none | leader | follower | spare
  deriving DecidableEq, Repr

/-- Rail states | R99. -/
inductive RailSt where
  | off | starting | regulating | slewing | stopping | latchedOff
  deriving DecidableEq, Repr

/-- Domain states | R227. -/
inductive DomSt where
  | down | rising | up | falling | latched
  deriving DecidableEq, Repr

/-- What the slot progression is doing | R232, R242. -/
inductive SlotPh where
  | idle | begin | waitSqui | gate | upDelay | waitApply | qualify | waitSqdi | downDelay | downWait
  deriving DecidableEq, Repr

/-- Timebase states | R174. -/
inductive TbSt where
  | free | pullIn | locked | slide | holdover | coast
  deriving DecidableEq, Repr

/-- Reference states | R175. -/
inductive RefSt where
  | absent | qualifying | qualified
  deriving DecidableEq, Repr

/-- Crease states | R159. -/
inductive CreaseSt where
  | disabled | acquiring | learning | frozen | fading
  deriving DecidableEq, Repr

/-- Probe states | R92. -/
inductive ProbeSt where
  | noResult | running | complete | aborted
  deriving DecidableEq, Repr

/-- HOLD states | R303. -/
inductive HoldSt where
  | off | onVin | onPack | retry | lost
  deriving DecidableEq, Repr

/-- Charger phases | R314. -/
inductive ChgPh where
  | idle | qualify | precharge | fast | topoff | maintain | suspended | fault
  deriving DecidableEq, Repr

/-- PPS discipline states | R340. -/
inductive DiscSt where
  | off | acquire | tracking | holdover
  deriving DecidableEq, Repr

/-- Watchdog states | R351. -/
inductive WdogSt where
  | disabled | first | closed | opened | pulse
  deriving DecidableEq, Repr

/-- Configuration states | R380. -/
inductive CfgSt where
  | empty | loading | applying | applied | abandoned
  deriving DecidableEq, Repr

/-- Host port states | R402. -/
inductive HpSt where
  | idle | busy | replyReady
  deriving DecidableEq, Repr

/-- Seam link states | R419. -/
inductive LinkSt where
  | down | training | up | faulty
  deriving DecidableEq, Repr

/-- Agreement states | R443. -/
inductive AgreeSt where
  | alone | gathering | agreed | disagree
  deriving DecidableEq, Repr

/-- Module power states | R466. -/
inductive PwrSt where
  | run | doze | hibernate | ship | safeHold
  deriving DecidableEq, Repr

/-- Firmware bank states | R509. -/
inductive BankSt where
  | empty | staged | verifying | verified | rejected | trial | active
  deriving DecidableEq, Repr

/-- Manager levels | R194. -/
inductive MgrLevel where
  | l0 | l1 | l2 | coast
  deriving DecidableEq, Repr

/-- The SRAM assist of the manager's memories | R468. -/
inductive Assist where
  | off | on | retention
  deriving DecidableEq, Repr

/-- What happens to a Zhoenne reply's bits that say the manager's state | R367. -/
inductive Status where
  | done | started | doneWithNote | refusedState | busy | unknownOpcode | badLength | badCheck
  | versionUnsupported | locked | notPresent | dropped | domainDisagree | planImpossible
  deriving DecidableEq, Repr

/-- Why a run stops. Raised only where R392 calls the behaviour undefined (safe: the hardware may go on, the model says
nothing of it). -/
inductive Fault where
  /-- A rail regulates to a set-point code of 1-799 or above 7,200 (R119, R392). Raised by CONTROL_TICK. Safe. -/
  | undefinedSetpoint
  /-- A map apply changes an entry, or moves a cell, of a rail that is not OFF or LATCHED_OFF (R95, R392). Raised by
  RAILMAP_APPLY and CONFIG_DONE. Safe. -/
  | undefinedMapApply
  /-- TEMP_MEASURE, FAULT_CLEAR scope 0 or READ_CHANNEL names a RETIRED cell (R66, R392). Raised by those commands. Safe. -/
  | undefinedRetiredCell
  /-- The enabled keep-out bands are not in ascending order of F_LO, or one has F_LO above F_HI (R185, R392). Raised by
  KEEPOUT_SET and by CONFIG_APPLY of such a section. Safe. -/
  | undefinedKeepout
  deriving DecidableEq, Repr

/-- Why the model gives no meaning to a command. -/
inductive Refusal where
  /-- The row has no meaning in the model yet. Raised by no arm. Safe. -/
  | notModelled (mnemonic : String)
  deriving DecidableEq, Repr

/-! ## The cell (chapter 02) -/

/-- The compensator coefficients and regulation configuration of a rail (R106, R111). -/
structure Coef where
  /-- KP | 16 | R106 | spec -/
  kp : Nat := 0x0100
  /-- KI | 16 | R106 | spec -/
  ki : Nat := 0x0400
  /-- KD | 16 | R106 | spec -/
  kd : Nat := 0
  /-- A1 | 16 | R106 | spec -/
  a1 : Nat := 0
  /-- A2 | 16 | R106 | spec -/
  a2 : Nat := 0
  /-- KFF, signed | 16 | R106 | spec -/
  kff : Int := 0
  /-- D_MIN | 16 | R106 | spec -/
  dMin : Nat := 0
  /-- D_MAX | 16 | R106 | spec -/
  dMax : Nat := 0xE000
  /-- STOP_MODE: immediate stop | 1 | R111 | spec -/
  stopImm : Bool := false
  /-- DEM_START | 1 | R111 | spec -/
  demStart : Bool := true
  /-- DEM_HOLD | 8 | R111 | spec -/
  demHold : Nat := 0x40
  /-- CTICK | 10 | R111 | spec -/
  ctick : Nat := 0x0C8
  deriving DecidableEq, Repr

/-- One power cell: its status block, its PWM words, its shadow of the compensator and its view of its rail. -/
structure Cell where
  /-- STATE | 3 | R35, R62 | spec -/
  st : CellSt := .off
  /-- ISO_SW, input switch closed | 1 | R62 | spec -/
  isoSw : Bool := false
  /-- DIODE_EM | 1 | R62, R40 | spec -/
  diodeEm : Bool := false
  /-- Diode-emulation change waiting for the next PWM period boundary | 2 | R114, R202 | model 3 -/
  demNext : Option Bool := none
  /-- Turn-off waiting for the next PWM period boundary (orderly stop) | 1 | R117 | model 3 -/
  stopNext : Bool := false
  /-- Switching to begin at the next PWM period boundary: the leader has released the rail | 1 | R36 | model 3 -/
  runNext : Bool := false
  /-- In diode emulation, the low-side switch is off until the next leading edge | 1 | R40 | DC 2 -/
  lsOff : Bool := false
  /-- MIN_ON | 1 | R62, R41 | spec -/
  minOn : Bool := false
  /-- A pulse has been omitted in the control tick in progress | 1 | R41, R62 | DC 2 -/
  omitted : Bool := false
  /-- SENSE_SEL, LOCAL selected | 1 | R62, R44 | spec -/
  senseLocal : Bool := false
  /-- ISO_CAUSE | 8 | R62, R63 | spec -/
  isoCause : BitVec 8 := 0
  /-- CURRENT, mA | 16 | R61 | DC 2 -/
  current : Int := 0
  /-- TEMP | 16 | R61 | spec -/
  temp : BitVec 16 := 0x8000
  /-- ON_TIME in force, as sent | 16 | R49, R61 | DC 2 -/
  onTime : Nat := 0
  /-- PERIOD in force, 16.16 | 32 | R49, R182 | spec -/
  period : Nat := 0x21555555
  /-- PHASE in force | 16 | R49 | DC 2 -/
  phase : Nat := 0
  /-- Fraction accumulator of PERIOD | 16 | R50 | DC 2 -/
  acc : Nat := 0
  /-- Whole steps of the period in progress | 16 | R50 | DC 2 -/
  steps : Nat := 8533
  /-- A pulse is being issued in the period in progress | 1 | R51, R54 | DC 2 -/
  pulse : Bool := false
  /-- PK_LIM in force | 8 | R53, R61, R200 | spec -/
  pkLim : Nat := 0xA0
  /-- RAMP in force | 8 | R53, R61, R200 | spec -/
  ramp : Nat := 0x10
  /-- Error-converter results taken in the period in progress | 8 | R46 | DC 2 -/
  sampCnt : Nat := 0
  /-- ON_TIME waiting for a boundary | 16 | R51 | DC 2 -/
  onTimeNext : Option Nat := none
  /-- PERIOD latched, waiting for the boundary count of index 0x34 | 32 | R183 | DC 2 -/
  periodNext : Option Nat := none
  /-- Boundary count byte of CONFIG_WR index 0x34 | 8 | R183 | DC 2 -/
  periodAt : Option Nat := none
  /-- Count of this cell's period boundaries, low byte | 8 | R183 | DC 2 -/
  boundary : Nat := 0
  /-- PK_LIM and RAMP waiting for a boundary | 16 | R200, R51 | DC 2 -/
  limNext : Option (Nat × Nat) := none
  /-- PEAK_TRIPS | 8 | R61 | DC 2 -/
  peakTrips : Nat := 0
  /-- BUS_ERRS | 8 | R61 | DC 2 -/
  busErrs : Nat := 0
  /-- ERR_SATS | 8 | R61 | DC 2 -/
  errSats : Nat := 0
  /-- FLAGS | 16 | R64 | spec -/
  flags : BitVec 16 := 0
  /-- ROLE of MEMBERSHIP | 2 | R65 | spec -/
  role : Role := .none
  /-- RAIL of MEMBERSHIP | 6 | R65 | spec -/
  rail : Nat := 0
  /-- Precharge source enabled | 1 | R38 | DC 2 -/
  precharge : Bool := false
  /-- Coefficients and REG_CFG stored by the slice | 176 | R47, R109 | spec -/
  coef : Coef := {}
  /-- Words of a coefficient set received so far, in the order sent | 160 | R109 | DC 2 -/
  coefPart : List (BitVec 32) := []
  /-- Instantaneous reference copy, set-point code | 16 | R44, R57 | DC 2 -/
  ref : Nat := 0
  /-- Target register | 16 | R131 | DC 2 -/
  target : Nat := 0
  /-- Last complete SHADOW set, words 0-7 | 256 | R48, R110 | DC 2 -/
  shadow : Vector (BitVec 32) 8 := Vector.replicate 8 0
  /-- SHADOW words of the tick in progress received so far, in INDEX order | 256 | R48 | DC 2 -/
  shadowPart : List (BitVec 32) := []
  /-- Leader as this member knows it | 8 | R78 | DC 2 -/
  leader : Nat := 0
  /-- Former leader | 9 | R78 | DC 2 -/
  former : Option Nat := none
  /-- Control-tick count of the last HEARTBEAT taken | 32 | R78 | DC 2 -/
  lastCount : Nat := 0
  /-- Missing heartbeats | 16 | R78 | DC 2 -/
  missing : Nat := 0
  /-- A heartbeat of the leader has been latched since the last check point | 1 | R78 | DC 2 -/
  heard : Bool := false
  /-- Rank in succession order | 9 | R78 | DC 2 -/
  rank : Nat := 0
  /-- MEMBERS map held from the configuration words | 256 | R77, R94 | DC 2 -/
  members : BitVec 256 := 0
  /-- Firing index f | 8 | R136 | DC 2 -/
  fIdx : Nat := 0
  /-- M as written with the firing index | 9 | R136 | DC 2 -/
  mCnt : Nat := 1
  /-- Active count A in force | 9 | R140 | DC 2 -/
  aCnt : Nat := 1
  /-- P in force | 7 | R140 | DC 2 -/
  pos : Nat := 16
  /-- ROT in force | 8 | R140 | DC 2 -/
  rot : Nat := 0
  /-- Pending shed target of PEND_SHED | 9 | R141 | DC 2 -/
  pendA : Option Nat := none
  /-- APPLY latched, waiting for a boundary: A, P, ROT | 24 | R142 | DC 2 -/
  applyNext : Option (Nat × Nat × Nat) := none
  /-- A broadcast ARM is latched, to act at the next boundary | 1 | R150 | DC 2 -/
  armNext : Bool := false
  /-- Took over leadership while SHED: enters SWITCHING at the next boundary and stays | 1 | R152 | DC 2 -/
  leadActive : Bool := false
  /-- Crease term word held (index 0x32): c and the tick count byte | 24 | R164 | DC 2 -/
  crease : Option (Int × Nat) := none
  /-- Sum of error samples of the tick in progress, e-LSB | 32 | R104 | DC 2 -/
  errSum : Int := 0
  /-- Count of error samples of the tick in progress | 16 | R104 | DC 2 -/
  errN : Nat := 0
  /-- Sum of switching-period current averages of the tick in progress, mA | 32 | R107 | DC 2 -/
  iSum : Int := 0
  /-- Count of those averages | 16 | R107 | DC 2 -/
  iN : Nat := 0
  /-- Mean error of the last tick closed, 16 fractional bits | 32 | R104 | DC 2 -/
  errMean : Int := 0
  /-- Sum and count of the current averages of the last tick closed | 48 | R107 | DC 2 -/
  iTick : Int × Nat := (0, 0)
  /-- Status-block bytes asked for by STATUS_RD and not yet delivered: offset and value | 40 | R57 | DC 2 -/
  replyDue : Option (Nat × Nat) := none
  /-- The manager's copy of CURRENT, mA | 16 | R61 | DC 2 -/
  mirCurrent : Int := 0
  /-- The manager's copy of the status block, 16 bytes: at reset the block of a cell at reset | 128 | R61, R399 | spec -/
  mirror : Vector Byte 16 := #v[0, 0, 0, 0, 0, 0x80, 0, 0, 0xA0, 0x10, 0, 0, 0, 0, 0, 0]
  deriving DecidableEq, Repr

/-- The types of a rail-bus message (R57). -/
inductive MsgType where
  | heartbeat | shadow | duty | current | statusRd | statusReply | configWr | isolate | reference | arm
  deriving DecidableEq, Repr

/-- A rail-bus message that its sender has raised and that some cells have not yet latched (R56, R60).
(DESIGN CHOICE 111, unsafe.) -/
structure Msg where
  /-- TYPE | 4 | R56, R57 | model 111 -/
  type : MsgType
  /-- SRC, sending cell; 0xFF is the manager port | 8 | R56 | model 111 -/
  src : Nat
  /-- DST, destination cell, or with BCAST the rail | 8 | R56 | model 111 -/
  dst : Nat
  /-- BCAST | 1 | R56 | model 111 -/
  bcast : Bool
  /-- INDEX; 256 and above name configuration words whose INDEX the spec does not give | 8 | R56 | model 111 -/
  index : Nat
  /-- PAYLOAD | 32 | R56 | model 111 -/
  payload : BitVec 32
  /-- The cells that have not latched it | 256 | R60 | model 111 -/
  waits : BitVec 256
  deriving DecidableEq, Repr

/-! ## The rail map (chapter 03) -/

/-- One rail-map entry (R69, R70). -/
structure MapEntry where
  /-- VALID | 1 | R70 | spec -/
  valid : Bool := false
  /-- PROBE_SKIP | 1 | R70 | spec -/
  skip : Bool := false
  /-- RATED | 16 | R69 | spec -/
  rated : Nat := 0
  /-- LEADER | 8 | R69 | spec -/
  leader : Nat := 0
  /-- MEMBERS | 256 | R69 | spec -/
  members : BitVec 256 := 0
  deriving DecidableEq, Repr

/-- One probe result word (R87). -/
structure ProbeWord where
  /-- CLASS | 3 | R88 | spec -/
  cls : Nat := 0
  /-- KEPT | 1 | R87 | spec -/
  kept : Bool := false
  /-- NET | 8 | R87 | spec -/
  net : Nat := 0
  /-- Capacitance estimate of the cell's net, µF code | 16 | R89 | DC 2 -/
  cap : Nat := 0
  deriving DecidableEq, Repr

/-- The rail maps and the tack probe. -/
structure MapState where
  /-- The active map | 48 x 320 | R68 | spec -/
  active : Vector MapEntry 48 := Vector.replicate 48 {}
  /-- The staged map | 48 x 320 | R68 | spec -/
  staged : Vector MapEntry 48 := Vector.replicate 48 {}
  /-- Check codes of the staged map | 48 x 8 | R71 | spec -/
  stagedChk : Vector Nat 48 := Vector.replicate 48 0
  /-- Check codes of the active map | 48 x 8 | R71, R91 | spec -/
  activeChk : Vector Nat 48 := Vector.replicate 48 0
  /-- PROBE_STATE | 4 | R92 | DC 2 -/
  probe : ProbeSt := .noResult
  /-- Probe result words in the making or held | 256 x 32 | R87 | spec -/
  words : Vector ProbeWord 256 := Vector.replicate 256 {}
  /-- Words of the previous complete result, kept for R540 | 256 x 32 | R90, R540 | DC 2 -/
  prev : Option (Vector ProbeWord 256) := none
  /-- Probing has begun (the discharge wait is over) | 1 | R85 | DC 2 -/
  probing : Bool := false
  /-- Looks made in the discharge wait | 7 | R85 | DC 2 -/
  looks : Nat := 0
  /-- Outputs above 128 mV at the last look | 256 | R85 | DC 2 -/
  above : BitVec 256 := 0
  /-- A RAILMAP_APPLY awaits the configuration-store write | 1 | R94 | DC 2 -/
  applying : Bool := false
  /-- Stored active map (configuration store) | 48 x 320 | R68, R94 | DC 2 -/
  stored : Option (Vector MapEntry 48) := none
  /-- Stored probe result (configuration store) | 256 x 32 | R90 | DC 2 -/
  storedProbe : Option (Vector ProbeWord 256) := none
  /-- Retired-cell set (configuration store) | 256 | R213 | DC 2 -/
  retiredSet : BitVec 256 := 0
  deriving DecidableEq, Repr

/-! ## The rail (chapters 03 to 07) -/

/-- The regulation loop of a rail, run by its leader (R104-R110, R127). -/
structure Loop where
  /-- Coefficients and REG_CFG in force | 176 | R106, R111 | spec -/
  coef : Coef := {}
  /-- A coefficient set delivered, in use from the next tick boundary | 176 | R109 | DC 2 -/
  coefNext : Option Coef := none
  /-- e_prev, 16 fractional bits | 32 | R110 | DC 2 -/
  ePrev : Int := 0
  /-- i, 14 fractional bits | 32 | R108 | DC 2 -/
  i : Int := 0
  /-- y1, 14 fractional bits | 32 | R108 | DC 2 -/
  y1 : Int := 0
  /-- y2, 14 fractional bits | 32 | R108 | DC 2 -/
  y2 : Int := 0
  /-- d_prev, D in force, D-LSB with 16 fractional bits | 32 | R105, R108, R110 | DC 2 -/
  dPrev : Int := 0
  /-- Present reference, set-point code with 16 fractional bits | 32 | R127 | DC 2 -/
  ref : Nat := 0
  /-- Target code in force | 16 | R134 | DC 2 -/
  target : Nat := 0
  /-- CLAMPED | 1 | R135 | spec -/
  clamped : Bool := false
  /-- DEM, diode emulation enabled in the members | 1 | R135 | spec -/
  dem : Bool := false
  /-- DEM_HOLD ticks remaining | 8 | R110 | DC 2 -/
  demLeft : Nat := 0
  /-- The leader's control-tick count | 32 | R57, R77 | DC 2 -/
  ticks : Nat := 0
  /-- i_rail of the last tick, 10 mA units | 32 | R107 | DC 2 -/
  iRail : Int := 0
  /-- e[k] of the last tick, 16 fractional bits | 32 | R104 | DC 2 -/
  e : Int := 0
  deriving DecidableEq, Repr

/-- Set-points, their selection and the slew rates of a rail (R119-R130). -/
structure SetPt where
  /-- Stored set-points | 8 x 16 | R119 | spec -/
  stored : Vector Nat 8 := Vector.replicate 8 0
  /-- The start target is set by direct code | 1 | R113, R120 | spec -/
  direct : Bool := false
  /-- Start target by direct code | 16 | R120 | DC 2 -/
  code : Nat := 0
  /-- Index in force; meaning nothing while direct | 3 | R120, R134 | spec -/
  index : Nat := 0
  /-- Pending index | 4 | R124 | DC 2 -/
  pending : Option Nat := none
  /-- MODE, pin-bound | 1 | R111, R120 | spec -/
  pinBound : Bool := false
  /-- SEL_BIND | 16 | R121 | spec -/
  selBind : BitVec 16 := 0x0FFF
  /-- SLEW | 16 | R126 | spec -/
  slew : Nat := 10
  /-- START_SLEW | 16 | R126 | spec -/
  startSlew : Nat := 10
  /-- STOP_SLEW | 16 | R126 | spec -/
  stopSlew : Nat := 10
  /-- RETARGETS | 16 | R134 | DC 2 -/
  retargets : Nat := 0
  /-- A target is under way whose reaching raises the event | 1 | R129 | DC 2 -/
  owed : Bool := false
  /-- START_FAIL | 1 | R135 | spec -/
  startFail : Bool := false
  /-- SEL_EMPTY | 1 | R135 | spec -/
  selEmpty : Bool := false
  deriving DecidableEq, Repr

/-- A rail's phase policy record (R144). -/
structure Policy where
  /-- MODE AUTO | 8 | R144 | spec -/
  auto : Bool := false
  /-- POS_MAX | 8 | R144 | spec -/
  posMax : Nat := 16
  /-- A_MIN | 16 | R144 | spec -/
  aMin : Nat := 1
  /-- ADD_I, mA | 16 | R144 | spec -/
  addI : Nat := 2800
  /-- SHED_I, mA | 16 | R144 | spec -/
  shedI : Nat := 1500
  /-- ADD_MARGIN | 8 | R144 | spec -/
  addMargin : Nat := 0
  /-- SHED_STEP | 8 | R144 | spec -/
  shedStep : Nat := 1
  /-- SHED_QUAL | 8 | R144 | spec -/
  shedQual : Nat := 8
  /-- STEP_E, e-LSB | 8 | R144 | spec -/
  stepE : Nat := 20
  /-- DWELL, µs | 16 | R144 | spec -/
  dwell : Nat := 50
  /-- HOLDOFF, control ticks | 16 | R144 | spec -/
  holdoff : Nat := 50
  deriving DecidableEq, Repr

/-- A rail's phase manager context (R136-R155, R167). -/
structure PhaseCtx where
  /-- Policy in force | 128 | R144 | spec -/
  pol : Policy := {}
  /-- Policy waiting for the next control-tick boundary or start | 128 | R145 | DC 2 -/
  polNext : Option Policy := none
  /-- A in force | 16 | R137, R167 | DC 2 -/
  a : Nat := 1
  /-- M as last written | 16 | R136, R167 | DC 2 -/
  m : Nat := 1
  /-- ROT | 8 | R155 | spec -/
  rot : Nat := 0
  /-- Pending shed target | 16 | R148, R167 | DC 2 -/
  pend : Option Nat := none
  /-- The dwell has ended: the APPLY of the pending shed is sent, and commits at the next rail period boundary | 1 | R149 | DC 2 -/
  committing : Bool := false
  /-- A of an APPLY that commits no shed, sent and in force from the next rail period boundary | 16 | R142, R147 | DC 2 -/
  aNext : Option Nat := none
  /-- Consecutive boundaries at which the shed condition has held | 8 | R148 | DC 2 -/
  qual : Nat := 0
  /-- A holdoff runs | 1 | R151 | DC 2 -/
  holdoff : Bool := false
  /-- SHEDS | 16 | R167 | DC 2 -/
  sheds : Nat := 0
  /-- CANCELS | 16 | R167 | DC 2 -/
  cancels : Nat := 0
  /-- READDS | 16 | R167 | DC 2 -/
  readds : Nat := 0
  /-- PREADD_NOW | 1 | R167 | DC 2 -/
  preaddNow : Bool := false
  /-- ORDER TUMBLE | 1 | R154 | spec -/
  tumble : Bool := false
  /-- TUMBLE_SRC on-time strobe | 1 | R154 | spec -/
  tumbleStrobe : Bool := false
  /-- TUMBLE_INT | 16 | R154 | spec -/
  tumbleInt : Nat := 500
  /-- Rotations due and deferred by a dwell, or made due by the end of a holdoff | 8 | R153, R155 | DC 2 -/
  rotDue : Nat := 0
  /-- Rotations due in the holdoff that runs | 8 | R155 | DC 2 -/
  rotHeld : Nat := 0
  /-- A firing order waits for the next control-tick boundary or start: tumble, source, interval | 32 | R171 | DC 2 -/
  orderNext : Option (Bool × Bool × Nat) := none
  /-- A broadcast ARM has been sent in this switching period | 1 | R150 | DC 2 -/
  armSent : Bool := false
  deriving DecidableEq, Repr

/-- Limits, window and protection of a rail (R200-R209, R221). -/
structure Prot where
  /-- PK_LIM set | 8 | R200 | spec -/
  pkLim : Nat := 0xA0
  /-- RAMP set | 8 | R200 | spec -/
  ramp : Nat := 0x10
  /-- ILIM set; none stands for the reset value 300 x RATED | 32 | R200 | spec -/
  ilim : Option Nat := none
  /-- NEG_ILIM set; none stands for the reset value 50 x MEMBER_N | 16 | R200 | spec -/
  negIlim : Option Nat := none
  /-- KLIM | 16 | R200 | spec -/
  klim : Nat := 0x0080
  /-- ILIM that the leader has latched, in force from its next tick boundary | 32 | R200 | DC 2 -/
  ilimNext : Option Nat := none
  /-- NEG_ILIM and KLIM that the leader has latched, in force from its next tick boundary | 32 | R200 | DC 2 -/
  sinkNext : Option (Nat × Nat) := none
  /-- THR_STEP | 3 | R201 | DC 2 -/
  thrStep : Nat := 0
  /-- Hem tick at which THR_STEP last changed or the policy was last restarted | 64 | R290, R299 | DC 2 -/
  thrAt : Nat := 0
  /-- OV_MV | 16 | R203 | spec -/
  ovMv : Nat := 50
  /-- UV_MV | 16 | R203 | spec -/
  uvMv : Nat := 50
  /-- OV_FILT | 8 | R204 | spec -/
  ovFilt : Nat := 4
  /-- UV_FILT | 16 | R204 | spec -/
  uvFilt : Nat := 100
  /-- AUTO_CLR | 1 | R207, R221 | spec -/
  autoClr : Bool := false
  /-- OV code in force | 10 | R203, R222 | DC 2 -/
  ovCode : Nat := 0
  /-- UV code in force | 10 | R203, R222 | DC 2 -/
  uvCode : Nat := 0
  /-- V_now: the reference at the last control-tick boundary, set-point code with 16 fractional bits | 32 | R203 | DC 2 -/
  vNow : Nat := 0
  /-- V_prev: the reference one tick before it | 32 | R203 | DC 2 -/
  vPrev : Nat := 0
  /-- OV_NOW | 1 | R221 | spec -/
  ovNow : Bool := false
  /-- UV_NOW | 1 | R221 | spec -/
  uvNow : Bool := false
  /-- OV_TRIP | 1 | R221 | spec -/
  ovTrip : Bool := false
  /-- UV_TRIP | 1 | R221 | spec -/
  uvTrip : Bool := false
  /-- THR_FAIL_OV | 1 | R221 | spec -/
  thrFailOv : Bool := false
  /-- THR_FAIL_UV | 1 | R221 | spec -/
  thrFailUv : Bool := false
  /-- SUP_XCHK | 1 | R221 | spec -/
  supXchk : Bool := false
  /-- LIMITING | 1 | R221 | spec -/
  limiting : Bool := false
  /-- NEG_LIMITING | 1 | R221 | spec -/
  negLimiting : Bool := false
  /-- Consecutive ticks with i_rail at or above zero under NEG_LIMITING | 4 | R202 | DC 2 -/
  negTicks : Nat := 0
  /-- SENSE_FAULT: members sense LOCAL until the next start | 1 | R31 | DC 2 -/
  senseFault : Bool := false
  deriving DecidableEq, Repr

/-- One rail. -/
structure Rail where
  /-- Rail state | 3 | R99 | DC 2 -/
  st : RailSt := .off
  /-- The leader has released the rail | 1 | R114 | DC 2 -/
  released : Bool := false
  /-- The pre-start measurement is awaited | 1 | R114 | DC 2 -/
  measuring : Bool := false
  /-- System converter of the pre-start measurement: that of SYS_CONV as it was asked for | 2 | R272 | DC 2 -/
  measOn : Nat := 3
  /-- Present leader | 8 | R76, R97 | DC 2 -/
  leader : Nat := 0
  /-- The regulation loop | - | R105 | spec -/
  loop : Loop := {}
  /-- Set-points and slews | - | R119 | spec -/
  sp : SetPt := {}
  /-- Phase manager context | - | R136 | spec -/
  ph : PhaseCtx := {}
  /-- Protection | - | R200 | spec -/
  prot : Prot := {}
  /-- FSW, Hz | 32 | R182 | spec -/
  fsw : Nat := 3000000
  /-- PERIOD set, 16.16 | 32 | R182 | spec -/
  period : Nat := 0x21555555
  /-- The leader stops sending (its silence), bank hub count of check points without HEARTBEAT | 2 | R81 | DC 2 -/
  hubMissing : Nat := 0
  /-- TAKEOVERS | 8 | R97 | DC 2 -/
  takeovers : Nat := 0
  /-- LEADER_SILENT | 1 | R98 | spec -/
  leaderSilent : Bool := false
  /-- LEADER_CONFLICT | 1 | R98 | spec -/
  leaderConflict : Bool := false
  /-- Manager's rank, role and index rewrite is due | 1 | R78, R217 | DC 2 -/
  rewriteDue : Bool := false
  /-- Former leaders to be sent ISOLATE, one for each takeover, oldest first | 9 each | R80, R82 | DC 2 -/
  formerDue : List Nat := []
  /-- The state from which the rail has entered OFF in the control tick in progress | 3 | R101 | DC 2 -/
  offFrom : Option RailSt := none
  /-- Chatter count | 8 | R234 | DC 2 -/
  chatter : Nat := 0
  /-- The rail is qualifying in a running slot | 1 | R234 | DC 2 -/
  qualifying : Bool := false
  /-- The rail is supervised | 1 | R234 | DC 2 -/
  supervised : Bool := false
  /-- A counted fall has already recorded its CHATTER pressing | 1 | R234 | DC 2 -/
  fallSeen : Bool := false
  /-- The supervisor's most recent sample of the rail lies inside its window | 1 | R233 | DC 2 -/
  supIn : Bool := true
  /-- Hem tick of the last rise of PG_RAW | 64 | R234 | DC 2 -/
  pgAt : Option Nat := none
  deriving DecidableEq, Repr

/-! ## The crease contexts (chapter 05) -/

/-- A crease context (R156-R169). -/
structure Crease where
  /-- RAIL; none stands for 0xFF | 8 | R158 | spec -/
  rail : Option Nat := none
  /-- ENABLE | 1 | R158 | spec -/
  enable : Bool := false
  /-- LEARN | 1 | R158 | spec -/
  learn : Bool := true
  /-- PREADD | 1 | R158 | spec -/
  preadd : Bool := true
  /-- BINS as a bin count | 8 | R158 | spec -/
  bins : Nat := 1024
  /-- LEAD_C | 8 | R158 | spec -/
  leadC : Nat := 2
  /-- LEAD_PH | 8 | R158 | spec -/
  leadPh : Nat := 10
  /-- FADE_FR | 8 | R158 | spec -/
  fadeFr : Nat := 4
  /-- CUR_SHIFT | 8 | R158 | spec -/
  curShift : Nat := 2
  /-- KL | 16 | R158 | spec -/
  kl : Nat := 0x0100
  /-- CLAMP | 16 | R158 | spec -/
  clamp : Nat := 0x2000
  /-- Crease state | 3 | R159 | DC 2 -/
  st : CreaseSt := .disabled
  /-- CUR of the table's entries, 20 mA; entries beyond the list are zero | 1024 x 16 | R157 | spec -/
  cur : List Nat := []
  /-- COR of the table's entries, 1/16 D-LSB; entries beyond the list are zero | 1024 x 16 | R157 | spec -/
  cor : List Int := []
  /-- F_L, fabric ticks; none while not known | 32 | R161, R168 | spec -/
  period : Option Nat := none
  /-- Period at which the table's profile was learned, F_S | 32 | R161 | DC 2 -/
  learnedAt : Option Nat := none
  /-- NB_E; none while not known | 16 | R162, R168 | spec -/
  nbE : Option Nat := none
  /-- Frame start, fabric count | 64 | R161 | DC 2 -/
  frameStart : Nat := 0
  /-- Times of the latest strobes of the qualification, newest first | 4 x 64 | R161 | DC 2 -/
  strobes : List Nat := []
  /-- Time of the last off-time strobe when the previous strobe was off time | 64 | R161 | DC 2 -/
  lastOdd : Option Nat := none
  /-- h | 8 | R165 | DC 2 -/
  h : Nat := 0
  /-- Frames learned | 16 | R163, R168 | spec -/
  frames : Nat := 0
  /-- ODD | 16 | R168 | spec -/
  odd : Nat := 0
  /-- MISSED | 16 | R168 | spec -/
  missed : Nat := 0
  /-- PERIOD_CHANGED | 1 | R169 | spec -/
  periodChanged : Bool := false
  /-- BIN_TOO_SHORT | 1 | R169 | spec -/
  binShort : Bool := false
  /-- TABLE_KEPT | 1 | R169 | spec -/
  tableKept : Bool := false
  /-- REPHASED | 1 | R169 | spec -/
  rephased : Bool := false
  /-- FADED | 1 | R169 | spec -/
  faded : Bool := false
  /-- Learning sums of the frame in progress: bin, sum_e, sum_i, n | - | R163 | DC 2 -/
  sums : List (Nat × Int × Int × Nat) := []
  /-- clean | 1 | R163 | DC 2 -/
  clean : Bool := true
  /-- The rail named was not VALID: the context waits until it runs | 1 | R171 | DC 2 -/
  waitRun : Bool := false
  deriving DecidableEq, Repr

/-! ## Clocks and the spur plan (chapter 06) -/

/-- A keep-out band (R185). -/
structure Band where
  /-- F_LO, Hz | 32 | R185 | spec -/
  fLo : Nat := 0
  /-- F_HI, Hz | 32 | R185 | spec -/
  fHi : Nat := 0
  /-- RAILS | 64 | R185 | spec -/
  rails : Nat := 0
  /-- GFIX, 10 Hz | 16 | R185 | spec -/
  gfix : Nat := 0
  /-- ENABLE | 1 | R185 | spec -/
  enable : Bool := false
  /-- HARM | 1 | R185 | spec -/
  harm : Bool := false
  /-- RIPPLE | 1 | R185 | spec -/
  ripple : Bool := false
  deriving DecidableEq, Repr

/-- Clocks, synchronisation and the manager's level. -/
structure Clk where
  /-- TB_STATE | 3 | R174 | DC 2 -/
  tb : TbSt := .free
  /-- REF_STATE | 3 | R175 | DC 2 -/
  ref : RefSt := .absent
  /-- CLOCK_SOURCE MODE: 0 AUTO, 1 HOLD, 2 XO_NOMINAL | 8 | R196 | spec -/
  mode : Nat := 0
  /-- OFFSET_NOW, ppb | 32 | R173 | DC 2 -/
  offNow : Int := 0
  /-- Hem tick at which OFFSET_NOW was held | 64 | R179 | DC 2 -/
  offAt : Nat := 0
  /-- Frequency of SYNC_IN against the XO, by which PULL_IN and LOCKED go, ppb | 32 | R178, R179 | DC 2 -/
  refOff : Int := 0
  /-- Target of the slide in progress; true when it is OFFSET_LEARNED | 1 | R176 | DC 2 -/
  slideLearned : Bool := false
  /-- OFFSET_LEARNED, ppb | 32 | R180 | spec -/
  offLearned : Int := 0
  /-- OFFSET_VALID | 1 | R199 | spec -/
  offValid : Bool := false
  /-- OFFSET_PRESET | 1 | R199 | spec -/
  offPreset : Bool := false
  /-- One-second means of the lock, newest first, up to 64 | 64 x 32 | R180 | spec -/
  means : List Int := []
  /-- XO_BAD has been set during the second in progress | 1 | R180 | DC 2 -/
  secBad : Bool := false
  /-- U_LRN, 0.01 ppm | 32 | R181 | DC 2 -/
  uLrn : Nat := 100
  /-- U, 0.01 ppm | 32 | R181 | spec -/
  u : Nat := 2000
  /-- HO_TIME, s | 32 | R181 | spec -/
  hoTime : Nat := 0
  /-- The timebase has been PULL_IN or LOCKED since the last full start | 1 | R181 | spec -/
  hoRun : Bool := false
  /-- F_NOM, Hz | 32 | R197 | spec -/
  fNom : Nat := 10000000
  /-- QD | 8 | R178 | spec -/
  qd : Nat := 10
  /-- TOL, ppm | 8 | R197 | spec -/
  tol : Nat := 30
  /-- U_REF | 16 | R197 | spec -/
  uRef : Nat := 5
  /-- D_HO | 16 | R197 | spec -/
  dHo : Nat := 50
  /-- SLIDE_RATE, ppm per ms | 8 | R179 | spec -/
  slideRate : Nat := 20
  /-- QUAL_LEFT, ms | 32 | R198 | spec -/
  qualLeft : Nat := 0
  /-- Edges are present on SYNC_IN | 1 | R178 | DC 2 -/
  edges : Bool := false
  /-- SO_MODE in force | 8 | R184 | DC 2 -/
  soMode : Nat := 0
  /-- SO_RAIL | 8 | R197 | DC 2 -/
  soRail : Nat := 0
  /-- DIV in force | 16 | R197 | spec -/
  soDiv : Nat := 100
  /-- Fabric tick count at which the settings of SYNC_OUT took effect | 64 | R184 | DC 2 -/
  soAt : Nat := 0
  /-- SO_MODE, SO_RAIL and DIV waiting for the end of the SYNC_OUT cycle | 32 | R184 | DC 2 -/
  soNext : Option (Nat × Nat × Nat) := none
  /-- Keep-out bands | 16 x 160 | R185 | spec -/
  bands : Vector Band 16 := Vector.replicate 16 {}
  /-- SPUR_VIOL | 1 | R199 | spec -/
  spurViol : Bool := false
  /-- LOCK_LOST, VF_FAIL, CLKSW_FORCED, XO_FAIL in bits 7, 6, 5, 4 | 16 | R199 | spec -/
  flags : BitVec 16 := 0
  /-- XO_BAD | 1 | R199 | spec -/
  xoBad : Bool := false
  /-- Manager level in force | 2 | R194, R198 | DC 2 -/
  level : MgrLevel := .l0
  /-- Manager level requested | 2 | R198 | DC 2 -/
  levelReq : MgrLevel := .l0
  /-- A level change is under way | 1 | R198 | DC 2 -/
  changing : Bool := false
  /-- A clock switch is requested and not complete: to the coast oscillator | 1 | R193 | DC 2 -/
  switching : Option MgrLevel := none
  /-- Manager supply target, mV | 16 | R195 | DC 2 -/
  supply : Nat := 900
  /-- Body bias, mV, forward positive | 16 | R468 | DC 2 -/
  bias : Int := 0
  /-- SRAM assist | 2 | R468 | DC 2 -/
  assist : Assist := .off
  deriving DecidableEq, Repr

/-! ## Sequencing, supervision and pressings (chapter 08) -/

/-- A sequence slot record (R231). -/
structure Slot where
  /-- RAILS, bit r names rail r | 48 | R231 | spec -/
  rails : Nat := 0
  /-- QUAL, 10 µs | 16 | R231 | spec -/
  qual : Nat := 0
  /-- TIMEOUT, 100 µs | 16 | R231 | spec -/
  timeout : Nat := 0
  /-- UP_DELAY, 10 µs | 16 | R231 | spec -/
  upDelay : Nat := 0
  /-- DOWN_TIMEOUT, 100 µs | 16 | R231 | spec -/
  downTimeout : Nat := 0
  /-- USED | 1 | R231 | spec -/
  used : Bool := false
  /-- GATE: 0 none, 1-4 EN0-EN3 | 3 | R231 | spec -/
  gate : Nat := 0
  /-- DOWN_DELAY, 10 µs | 16 | R231 | spec -/
  downDelay : Nat := 0
  deriving DecidableEq, Repr

/-- The sequencing domain, its pins and FAULT_N. -/
structure Dom where
  /-- Domain state | 8 | R227 | DC 2 -/
  st : DomSt := .down
  /-- LATCH_PEND | 1 | R259 | spec -/
  latchPend : Bool := false
  /-- Slot records | 16 x 192 | R231 | spec -/
  slots : Vector Slot 16 := Vector.replicate 16 {}
  /-- Slot records in force since the last entry to RISING | 16 x 192 | R257 | spec -/
  slotsNow : Vector Slot 16 := Vector.replicate 16 {}
  /-- CAS_ROLE: 0 SOLE, 1 FIRST, 2 MIDDLE, 3 LAST | 8 | R258 | spec -/
  role : Nat := 0
  /-- UP_SRC | 2 | R258 | spec -/
  upSrc : Nat := 0
  /-- EN_PIN | 2 | R258 | spec -/
  enPin : Fin 4 := 0
  /-- VIN_RESTART | 1 | R258 | spec -/
  vinRestart : Bool := true
  /-- CAS_TIMEOUT, ms | 16 | R258 | spec -/
  casTimeout : Nat := 1000
  /-- FN_PULSE, µs | 16 | R258 | spec -/
  fnPulse : Nat := 50
  /-- PG_MAP | 64 | R249, R258 | spec -/
  pgMap : Vector Nat 8 := #v[0, 1, 2, 3, 4, 5, 6, 7]
  /-- Slot in progress | 8 | R260 | DC 2 -/
  cur : Option Nat := none
  /-- What the slot progression waits for | - | R232, R242 | model 3 -/
  ph : SlotPh := .idle
  /-- Slots qualified in the present rise | 16 | R260 | DC 2 -/
  slotQual : BitVec 16 := 0
  /-- Slots that have left their time zero in the present rise | 16 | R242 | DC 2 -/
  leftZero : BitVec 16 := 0
  /-- Slots that have taken a rail out of OFF in the present rise | 16 | R242 | DC 2 -/
  ran : BitVec 16 := 0
  /-- W1C bits of SEQ_FLAGS | 16 | R259 | spec -/
  flags : BitVec 16 := 0
  /-- Memory of RISING or UP at loss of VIN, held in Hem | 1 | R244 | DC 2 -/
  vinMem : Bool := false
  /-- VIN_RESTART_DUE | 1 | R259 | spec -/
  restartDue : Bool := false
  /-- FN_SELF, this module drives FAULT_N | 1 | R259 | spec -/
  fnDrive : Bool := false
  /-- FN_LOW, FAULT_N reads low | 1 | R259 | spec -/
  fnLow : Bool := false
  /-- Hem tick at which FAULT_N was last accepted low | 64 | R241 | DC 2 -/
  fnAt : Option Nat := none
  /-- SQUI level as accepted | 1 | R260 | spec -/
  squi : Bool := false
  /-- SQDI level as accepted | 1 | R260 | spec -/
  sqdi : Bool := false
  /-- EN3-EN0 as accepted | 4 | R230, R260 | spec -/
  en : BitVec 4 := 0
  /-- SEL11-SEL0 as accepted | 12 | R123 | spec -/
  sel : BitVec 12 := 0
  /-- ECHO_ID of the last echo sent | 8 | R433 | DC 2 -/
  echoId : Nat := 0
  /-- Echo payloads whose second copies are due, oldest first | 64 each | R433 | DC 2 -/
  echoSecond : List (List Byte) := []
  /-- An EN_PIN edge or AUTO_UP start waits for the end of GATHERING | 1 | R445 | DC 2 -/
  upWait : Bool := false
  /-- A cause to enter DOWN or FALLING has acted in the manager cycle in progress | 1 | R229 | DC 2 -/
  cycle : Bool := false
  /-- The AUTO_UP of a full start, or the edge that an EN_PIN found high counts as, is still to be made | 1 | R230, R384 | DC 2 -/
  autoUp : Bool := false
  /-- A RESET_N or RESET_MODULE start in FULL mode waits for the end of the fall | 1 | R518 | DC 2 -/
  fullDue : Option Nat := none
  deriving DecidableEq, Repr

/-- One input of the supervisor converter (R246-R248). -/
structure SupIn where
  /-- Most recent sample | 12 | R246 | DC 2 -/
  code : Nat := 0
  /-- LO, or SUP_UV_MV | 16 | R247 | spec -/
  lo : Nat := 0
  /-- HI, or SUP_OV_MV | 16 | R247 | spec -/
  hi : Nat := 4095
  /-- Action: 0 REPORT, 1 FAULT, 2 IGNORE | 8 | R248 | spec -/
  act : Nat := 0
  /-- Consecutive samples inside the window since the judgement | 4 | R248 | DC 2 -/
  inCnt : Nat := 0
  /-- Consecutive samples outside the window, at most 8 | 4 | R248 | DC 2 -/
  outCnt : Nat := 0
  /-- Judged out of window | 1 | R248 | DC 2 -/
  judged : Bool := false
  deriving DecidableEq, Repr

/-- A pressing (R252). -/
structure Pressing where
  /-- PR_SEQ | 32 | R252 | spec -/
  seq : Nat
  /-- PR_TIME | 64 | R252 | spec -/
  time : List Byte
  /-- CAUSE | 8 | R250 | spec -/
  cause : Nat
  /-- Cause index | 8 | R250 | spec -/
  index : Nat
  /-- Domain state at capture | 8 | R252 | spec -/
  dom : Nat
  /-- PR_FLAGS | 8 | R253 | spec -/
  flags : Nat
  /-- Seam address | 16 | R252 | spec -/
  addr : Nat
  /-- Slot in progress | 8 | R252 | spec -/
  slot : Nat
  /-- Land status word | 32 | R252 | spec -/
  land : Nat
  /-- CLK_FLAGS | 16 | R252 | spec -/
  clk : Nat
  /-- SEQ_FLAGS | 16 | R252 | spec -/
  seqFlags : Nat
  /-- Inputs 0-63 | 64 x 16 | R252 | spec -/
  inputs : List Nat
  /-- Rail currents | 48 x 32 | R252 | spec -/
  currents : List Int
  /-- Rail states | 48 x 8 | R252 | spec -/
  rails : List Nat
  /-- PROT_FLAGS | 48 x 16 | R252 | spec -/
  prots : List Nat
  /-- Highest cell TEMP held | 16 | R252 | spec -/
  hiTemp : BitVec 16
  /-- Cell holding it | 8 | R252 | spec -/
  hiCell : Nat
  deriving DecidableEq, Repr

/-- The supervisor converter and the pressing log. -/
structure Sup where
  /-- Inputs 0-63 | 64 x 53 | R246 | spec -/
  inputs : Vector SupIn 64
  /-- JUDGE_N | 4 | R248 | spec -/
  judgeN : Nat := 2
  /-- A SUPERVISOR_CONFIG in force from the next scan: JUDGE_N and input records | - | R256 | DC 2 -/
  cfgNext : Option (Nat × List (Nat × Nat × Nat × Nat)) := none
  /-- The cross-check's rotating pointer | 6 | R273 | DC 2 -/
  xptr : Nat := 0
  /-- Capture buffers in use, oldest first, up to eight | 8 x 4096 | R251 | DC 2 -/
  bufs : List Pressing := []
  /-- Pressing log in flash, oldest first, up to 4,096 | 4096 x 4096 | R251 | spec -/
  log : List Pressing := []
  /-- PR_SEQ of the next pressing | 32 | R251 | spec -/
  next : Nat := 0
  deriving DecidableEq, Repr

/-! ## Telemetry (chapter 09) -/

/-- A telemetry sequence: record, state, results and counts (R265, R274, R279). -/
structure TSeq where
  /-- CONV | 4 | R265 | spec -/
  conv : Nat := 0
  /-- URGENT | 1 | R265 | spec -/
  urgent : Bool := false
  /-- SINGLE | 1 | R265 | spec -/
  single : Bool := false
  /-- TRIG_KIND: 0 command, 1 timer, 2 PWM event, 3 frame start | 8 | R265 | spec -/
  kind : Nat := 0
  /-- TRIG_SRC | 8 | R265 | spec -/
  trig : Nat := 0
  /-- PWM_EVT | 8 | R265 | spec -/
  evt : Nat := 0
  /-- Q | 8 | R265 | spec -/
  q : Nat := 0
  /-- DECIM, 0 acts as 256 | 8 | R265 | spec -/
  decim : Nat := 0
  /-- COUNT | 8 | R265 | spec -/
  count : Nat := 0
  /-- DELAY, fabric ticks | 16 | R265 | spec -/
  delay : Nat := 0
  /-- Entries 0-15: channel and AVG | 16 x 16 | R265 | spec -/
  entries : List (Nat × Nat) := []
  /-- RUNNING | 8 | R274 | DC 2 -/
  running : Bool := false
  /-- Triggers counted toward DECIM | 8 | R269 | DC 2 -/
  dec : Nat := 0
  /-- A run is delayed: triggered, its first sampling instant not reached | 1 | R269 | DC 2 -/
  delayed : Bool := false
  /-- A run waits for its converters | 1 | R271 | DC 2 -/
  waiting : Bool := false
  /-- A run is converting | 1 | R271 | DC 2 -/
  converting : Bool := false
  /-- The run in progress started late | 1 | R275 | DC 2 -/
  lateNow : Bool := false
  /-- TSEQ_STOP was taken while the run converts | 1 | R281 | DC 2 -/
  stopping : Bool := false
  /-- STAMP of the run in progress | 32 | R274 | DC 2 -/
  stampNow : Nat := 0
  /-- Fabric tick count of the first sampling instant of the delayed run | 64 | R269 | DC 2 -/
  dueAt : Nat := 0
  /-- Row of the run in progress | 5 | R266 | DC 2 -/
  row : Nat := 0
  /-- Conversions that each converter of the row has made | 8 | R266 | DC 2 -/
  step : Nat := 0
  /-- Sums of the conversions of the run's entries, with whether one saturated; a derived entry's value | 16 x 33 | R266 | DC 2 -/
  sums : List (Int × Bool) := []
  /-- RUN | 32 | R274 | DC 2 -/
  run : Nat := 0
  /-- STAMP | 32 | R274 | DC 2 -/
  stamp : Nat := 0
  /-- RES_FLAGS SAT | 1 | R275 | spec -/
  sat : Bool := false
  /-- RES_FLAGS LATE | 1 | R275 | spec -/
  late : Bool := false
  /-- RES_FLAGS NO_EVENT | 1 | R275 | spec -/
  noEvent : Bool := false
  /-- Results of the last completed run | 16 x 32 | R274 | DC 2 -/
  results : List Int := []
  /-- URGENT_DROPS | 16 | R279 | spec -/
  urgentDrops : Nat := 0
  /-- OVERRUNS | 16 | R279 | spec -/
  overruns : Nat := 0
  /-- LATE count | 16 | R279 | spec -/
  lates : Nat := 0
  deriving DecidableEq, Repr

/-- A telemetry stream (R276, R277). -/
structure Stream where
  /-- ENABLE | 1 | R276, R278 | DC 2 -/
  enable : Bool := false
  /-- BCAST | 1 | R278 | DC 2 -/
  bcast : Bool := false
  /-- Sequence | 8 | R278 | DC 2 -/
  seq : Nat := 0
  /-- SDECIM, 0 acts as 256 | 8 | R276 | DC 2 -/
  sdecim : Nat := 0
  /-- RECS | 8 | R276 | DC 2 -/
  recs : Nat := 0
  /-- Destination Seam address | 12 | R278 | DC 2 -/
  dest : Nat := 0
  /-- Completed runs counted toward SDECIM | 8 | R276 | DC 2 -/
  cnt : Nat := 0
  /-- Records of the frame in the making, oldest first: STAMP and results | - | R276 | DC 2 -/
  part : List (Nat × List Int) := []
  /-- RUN of the first record in the making | 32 | R276 | DC 2 -/
  firstRun : Nat := 0
  /-- GAP due in the next frame | 1 | R276 | DC 2 -/
  gap : Bool := false
  /-- STREAM_DROPS | 16 | R279 | spec -/
  drops : Nat := 0
  deriving DecidableEq, Repr

/-- The telemetry converters. -/
structure Tlm where
  /-- Sequences 0-7 | 8 | R265 | spec -/
  seqs : Vector TSeq 8 := Vector.replicate 8 {}
  /-- Timers 0-7: PERIOD and OFFSET | 8 x 64 | R267 | spec -/
  timers : Vector (Nat × Nat) 8 := Vector.replicate 8 (100000, 0)
  /-- SYS_CONV | 2 | R272 | spec -/
  sysConv : Nat := 3
  /-- The system converter of the requests made before the last change of SYS_CONV | 2 | R272 | DC 2 -/
  sysOld : Nat := 3
  /-- Streams 0-3 | 4 | R276 | DC 2 -/
  streams : Vector Stream 4 := Vector.replicate 4 {}
  /-- Sequence occupying each converter T0-T3 | 4 | R262 | DC 2 -/
  busy : Vector (Option Nat) 4 := Vector.replicate 4 none
  /-- XCHK_SKIPS | 16 | R279 | spec -/
  xchkSkips : Nat := 0
  /-- Newest held result of each channel: channel, value, STAMP, RES_FLAGS, source | - | R282 | DC 2 -/
  held : List (Nat × Int × Nat × Nat × Nat) := []
  deriving DecidableEq, Repr

/-! ## Thermal management (chapter 10) -/

/-- A temperature request that waits or is being read (R284). -/
structure TempReq where
  /-- Target code | 16 | R283 | DC 2 -/
  code : Nat
  /-- The thermal schedule asks for it | 1 | R284 | DC 2 -/
  sched : Bool := false
  /-- The charger asks for it | 1 | R284 | DC 2 -/
  chg : Bool := false
  /-- The host asks for it | 1 | R284 | DC 2 -/
  host : Bool := false
  /-- System converter of the request: that of SYS_CONV as it was made | 2 | R272 | DC 2 -/
  conv : Nat := 3
  /-- It has been served: its reading is in progress | 1 | R284 | DC 2 -/
  served : Bool := false
  deriving DecidableEq, Repr

/-- Thermal limits, policy and readings. -/
structure Therm where
  /-- WARN | 16 | R295 | spec -/
  warn : BitVec 16 := 0x1CC0
  /-- RISE_WARN limit | 16 | R295 | spec -/
  riseWarn : Nat := 0x0080
  /-- SCHED_MS | 16 | R295 | spec -/
  schedMs : Nat := 100
  /-- FAST_MS | 16 | R295 | spec -/
  fastMs : Nat := 10
  /-- STOP_LEAD, 0.1 s | 16 | R295 | spec -/
  stopLead : Nat := 100
  /-- STOP_MIN, 0.1 s | 16 | R295 | spec -/
  stopMin : Nat := 10
  /-- Limits record waiting for the next scheduled evaluation | 96 | R299 | DC 2 -/
  limNext : Option (List Byte) := none
  /-- THR_MODE | 8 | R296 | spec -/
  thrMode : Nat := 1
  /-- FIXED_STEP | 8 | R296 | spec -/
  fixedStep : Nat := 0
  /-- THR_ON | 16 | R296 | spec -/
  thrOn : BitVec 16 := 0x1CC0
  /-- THR_HYST | 16 | R296 | spec -/
  thrHyst : Nat := 0x0280
  /-- LOOKAHEAD, 0.1 s | 16 | R296 | spec -/
  lookahead : Nat := 50
  /-- STEP_DWELL, ms | 16 | R296 | spec -/
  stepDwell : Nat := 1000
  /-- EXEMPT | 48 | R296 | spec -/
  exempt : Nat := 0
  /-- Policy record waiting for the next scheduled evaluation | 128 | R299 | DC 2 -/
  polNext : Option (List Byte) := none
  /-- Newest die readings | 16 x 16 | R298 | spec -/
  die : Vector (BitVec 16) 16 := Vector.replicate 16 0x8000
  /-- Scheduled die readings, newest first, up to five: reading and Hem tick | 16 x 5 | R287 | spec -/
  hist : Vector (List (Int × Nat)) 16 := Vector.replicate 16 []
  /-- Hem tick of the newest reading of each die sensor | 16 x 64 | R287 | DC 2 -/
  dieAt : Vector (Option Nat) 16 := Vector.replicate 16 none
  /-- Hem tick of the newest reading of each cell | 256 x 64 | R287, R288 | DC 2 -/
  cellAt : Vector (Option Nat) 256 := Vector.replicate 256 none
  /-- rate_k, 1/64 °C per s | 16 x 16 | R287 | spec -/
  rate : Vector Int 16 := Vector.replicate 16 0
  /-- Die sensors found open or shorted | 16 | R285 | DC 2 -/
  dieBad : BitVec 16 := 0
  /-- Sensors in a fault state after a reading without result | 273 | R284 | DC 2 -/
  timedOut : List Nat := []
  /-- Next bank of cells to request | 4 | R286 | DC 2 -/
  bank : Nat := 0
  /-- Requests waiting or being read, oldest first, up to 32 | 32 x 20 | R284 | DC 2 -/
  queue : List TempReq := []
  /-- TSD_SEEN, STOPPED in bits 7, 5 | 16 | R297 | spec -/
  flags : BitVec 16 := 0
  /-- TSD_NOW | 1 | R297 | spec -/
  tsdNow : Bool := false
  /-- THROTTLING | 1 | R297 | spec -/
  throttling : Bool := false
  /-- RISE_WARN | 1 | R297 | spec -/
  rise : Bool := false
  /-- JUNC_WARN | 1 | R297 | spec -/
  junc : Bool := false
  /-- FAST | 1 | R297 | spec -/
  fast : Bool := false
  deriving DecidableEq, Repr

/-! ## Holdover and charger (chapter 11) -/

/-- The HOLD path and the pack charger. -/
structure Chg where
  /-- HOLD state | 3 | R303 | DC 2 -/
  hold : HoldSt := .off
  /-- V_HOLD, mV | 16 | R302 | spec -/
  vHold : Nat := 3300
  /-- I_HOLD, mA | 16 | R302 | spec -/
  iHold : Nat := 2000
  /-- ENABLE | 1 | R302 | spec -/
  enable : Bool := false
  /-- PACK_OK | 1 | R302 | spec -/
  packOk : Bool := true
  /-- SWITCHOVERS | 32 | R330 | DC 2 -/
  switchovers : Nat := 0
  /-- PSW closed | 1 | R300 | spec -/
  psw : Bool := true
  /-- N_CELLS | 8 | R328 | spec -/
  nCells : Nat := 0
  /-- AUTO | 1 | R328 | spec -/
  auto : Bool := true
  /-- DTDT_EN | 1 | R328 | spec -/
  dtdtEn : Bool := true
  /-- DV_EN | 1 | R328 | spec -/
  dvEn : Bool := true
  /-- SEAM_CHG | 1 | R328 | spec -/
  seamChg : Bool := false
  /-- CAP_MAH | 16 | R328 | spec -/
  cap : Nat := 0
  /-- FAST_I, mA | 16 | R328 | spec -/
  fastI : Nat := 1000
  /-- DV | 8 | R328 | spec -/
  dv : Nat := 10
  /-- DTDT | 8 | R328 | spec -/
  dtdt : Nat := 10
  /-- SAFE_MIN | 16 | R328 | spec -/
  safeMin : Nat := 0
  /-- PRE_MIN | 8 | R328 | spec -/
  preMin : Nat := 30
  /-- TOP_MIN | 8 | R328 | spec -/
  topMin : Nat := 30
  /-- DV_HOLD, 10 s | 8 | R328 | spec -/
  dvHold : Nat := 30
  /-- RED_PCT, eighths | 8 | R328 | spec -/
  redPct : Nat := 4
  /-- MAINT_I, mA | 16 | R328 | spec -/
  maintI : Nat := 0
  /-- T_SUSP_LO | 16 | R328 | spec -/
  tSuspLo : Int := 0
  /-- T_RED_LO | 16 | R328 | spec -/
  tRedLo : Int := 0x0280
  /-- T_RED_HI | 16 | R328 | spec -/
  tRedHi : Int := 0x0B40
  /-- T_SUSP_HI | 16 | R328 | spec -/
  tSuspHi : Int := 0x0F00
  /-- RECHG_MV | 16 | R328 | spec -/
  rechgMv : Nat := 1300
  /-- VCUT_MV | 16 | R328 | spec -/
  vcutMv : Nat := 950
  /-- VIN_CHG_ILIM, mA | 16 | R328 | spec -/
  vinIlim : Nat := 4000
  /-- NOID_ILIM, mA | 16 | R328 | spec -/
  noidIlim : Nat := 250
  /-- Charger phase | 8 | R314 | DC 2 -/
  ph : ChgPh := .idle
  /-- Phase left while SUSPENDED | 4 | R330 | spec -/
  left : ChgPh := .idle
  /-- Suspension cause | 4 | R322 | DC 2 -/
  susp : Nat := 0
  /-- Fault cause | 8 | R323 | DC 2 -/
  fault : Nat := 0
  /-- Charge source in use | 2 | R308, R330 | DC 2 -/
  source : ChgSource := .none
  /-- VIN has been in range for 100 ms | 1 | R308 | DC 2 -/
  vinOk : Bool := false
  /-- AUXIN has been in range for 100 ms with a code of 1-6 | 1 | R308 | DC 2 -/
  auxOk : Bool := false
  /-- AUXIN is present | 1 | R16, R309 | spec -/
  auxPresent : Bool := false
  /-- AUXIN is present and in range | 1 | R16 | spec -/
  auxIn : Bool := false
  /-- AUXID code; 7 while AUXIN is absent | 3 | R309, R330 | spec -/
  auxId : Nat := 7
  /-- Ports carrying 10-14 V phantom power, A and B | 2 | R308 | DC 2 -/
  phantomIn : Bool × Bool := (false, false)
  /-- Seam has been in range as a charge source for 100 ms, SEAM_CHG included | 1 | R308 | DC 2 -/
  seamOk : Bool := false
  /-- Voltage readings divided by N_CELLS, newest first, up to 16, 0.1 mV | 16 x 16 | R316 | DC 2 -/
  volts : List Nat := []
  /-- Peak of V16 in FAST, 0.1 mV | 16 | R317 | DC 2 -/
  peak : Nat := 0
  /-- Seconds for which -dV stays held off | 16 | R317 | DC 2 -/
  dvOff : Nat := 0
  /-- BTH readings since entry to FAST or the last change, newest first, up to 61 | 61 x 16 | R318 | DC 2 -/
  temps : List Int := []
  /-- Newest BTH temperature | 16 | R330 | spec -/
  bth : BitVec 16 := 0x8000
  /-- Hem tick of that reading | 64 | R320 | DC 2 -/
  bthAt : Option Nat := none
  /-- The reduced window is on its low side / high side | 2 | R320 | DC 2 -/
  redLo : Bool := false
  /-- As above, high side | 1 | R320 | DC 2 -/
  redHi : Bool := false
  /-- T lies below T_SUSP_LO, with its hysteresis | 1 | R320 | DC 2 -/
  suspLo : Bool := false
  /-- T lies above T_SUSP_HI, with its hysteresis | 1 | R320 | DC 2 -/
  suspHi : Bool := false
  /-- Consecutive readings at which V16 has lain above 1,750.0 mV | 8 | R316 | DC 2 -/
  ovSecs : Nat := 0
  /-- Phase timer, full-rate ms | 32 | R321, R330 | DC 2 -/
  timer : Nat := 0
  /-- Wall time since entry to the phase, s | 32 | R321, R330 | DC 2 -/
  wall : Nat := 0
  /-- Charge into the pack since the last QUALIFY, mA s | 64 | R330 | DC 2 -/
  charge : Nat := 0
  /-- RECHARGES | 8 | R330 | DC 2 -/
  recharges : Nat := 0
  /-- Last pack voltage read, mV | 16 | R330 | DC 2 -/
  packMv : Nat := 0
  /-- Last charge current read, mA | 16 | R330 | DC 2 -/
  mA : Int := 0
  /-- Current target in force, mA | 16 | R330 | DC 2 -/
  tgt : Nat := 0
  /-- IN_LIMITING | 1 | R329 | spec -/
  inLim : Bool := false
  /-- PACK_EXHAUSTED | 1 | R329 | spec -/
  exhausted : Bool := false
  /-- The pack has become usable since insertion; a pack fitted since before the start has | 1 | R303 | DC 2 -/
  packGood : Bool := true
  /-- The AUTO start of a full start waits for a source in range | 1 | R315 | DC 2 -/
  autoDue : Bool := true
  /-- HOLD_SHORT, HOLD_LOST, PACK_REMOVED, EOC_DTDT, EOC_DV in bits 4-0 | 16 | R329 | spec -/
  flags : BitVec 16 := 0
  /-- SHIP_ARMED | 1 | R329 | spec -/
  shipArmed : Bool := false
  /-- Charger paused in HIBERNATE | 1 | R472 | DC 2 -/
  paused : Bool := false
  deriving DecidableEq, Repr

/-! ## Hem (chapter 12) -/

/-- An alarm record (R344). -/
structure Alarm where
  /-- ENABLE | 1 | R344 | spec -/
  enable : Bool := false
  /-- MASK | 8 | R344 | spec -/
  mask : Nat := 0
  /-- TIME, in the form of the mode in force | 64 | R344 | spec -/
  time : List Byte := List.replicate 8 0
  /-- REPEAT, s | 32 | R344 | spec -/
  repeats : Nat := 0
  /-- Count at which the alarm last fired | 64 | R347 | DC 2 -/
  firedAt : Option Nat := none
  /-- A one-shot whose TIME an RTC_SET has passed over: it does not fire | 1 | R347 | DC 2 -/
  skipped : Bool := false
  /-- Hundredth in which the count stood when a CALENDAR alarm was set: it has not entered it since | 64 | R345 | model 142 -/
  setIn : Option Nat := none
  deriving DecidableEq, Repr

/-- A watchdog configuration (R350). -/
structure WdogCfg where
  /-- T, Hem ticks | 32 | R350 | spec -/
  t : Nat := 32768
  /-- C, Hem ticks | 32 | R350 | spec -/
  c : Nat := 16384
  /-- WDO_MS | 16 | R350 | spec -/
  wdoMs : Nat := 100
  /-- ENABLE | 1 | R350 | spec -/
  enable : Bool := false
  /-- LOCK | 1 | R350 | spec -/
  lock : Bool := false
  /-- Roll-call task mask | 16 | R353 | spec -/
  mask : BitVec 16 := 0
  deriving DecidableEq, Repr

/-- The always-on domain. -/
structure Hem where
  /-- Count of Hem ticks, by which the model dates | 64 | R348 | DC 2 -/
  ticks : Nat := 0
  /-- The time count, 1/65,536 s | 64 | R336 | spec -/
  count : Nat := 0
  /-- CALENDAR mode | 1 | R336 | spec -/
  calendar : Bool := false
  /-- Accumulator of DISC, 10^-8 fraction units | 32 | R342 | DC 2 -/
  discAcc : Int := 0
  /-- TIME_SUSPECT | 1 | R356 | spec -/
  suspect : Bool := true
  /-- CAL_WRAP, PPS_STEPPED, ALM_JUMP, ALM1, ALM0, HEM_POR in bits 7-3 and 1 | 16 | R356 | spec -/
  flags : BitVec 16 := 0x0002
  /-- BKP_BAD | 1 | R356 | spec -/
  bkpBad : Bool := false
  /-- HOLDUP_LOW | 1 | R356 | spec -/
  holdupLow : Bool := true
  /-- Discipline state | 3 | R340 | spec -/
  disc : DiscSt := .off
  /-- DISC, 0.01 ppm | 32 | R342 | spec -/
  discV : Int := 0
  /-- DISC_F, 0.01 ppm | 32 | R341 | DC 2 -/
  discF : Int := 0
  /-- PPS_QUAL | 8 | R357 | spec -/
  ppsQual : Nat := 8
  /-- TAU, s | 16 | R357 | spec -/
  tau : Nat := 256
  /-- PPS_STEP, µs | 32 | R357 | spec -/
  ppsStep : Nat := 1000
  /-- Consecutive accepted edges in ACQUIRE | 8 | R343 | DC 2 -/
  edges : Nat := 0
  /-- e_start | 16 | R343 | DC 2 -/
  eStart : Int := 0
  /-- e_start is to be set at the next accepted edge (preset in TRACKING) | 1 | R357 | DC 2 -/
  eStartDue : Bool := false
  /-- n | 16 | R343 | DC 2 -/
  n : Nat := 0
  /-- Held RTC_SET: the time count to apply at the next accepted edge | 64 | R339 | DC 2 -/
  heldSet : Option Nat := none
  /-- PPS_IN is declared absent | 1 | R16 | DC 2 -/
  ppsAbsent : Bool := true
  /-- Alarms 0 and 1 | 2 x 128 | R344 | spec -/
  alarms : Vector Alarm 2 := Vector.replicate 2 {}
  /-- Periodic wake interval, 1/64 s; 0 disabled | 32 | R348 | DC 2 -/
  periodic : Nat := 0
  /-- Backup memory, bytes 0-63 | 64 x 8 | R349 | spec -/
  backup : Vector Byte 64 := Vector.replicate 64 0
  /-- Check byte of backup memory | 8 | R349 | spec -/
  check : Byte := 0xDD
  /-- Watchdog configuration in force | - | R350 | spec -/
  wd : WdogCfg := {}
  /-- Watchdog configuration waiting for the next period or FIRST | - | R355 | DC 2 -/
  wdNext : Option WdogCfg := none
  /-- Watchdog state | 3 | R351 | spec -/
  wdSt : WdogSt := .disabled
  /-- Hem tick at which the present period or FIRST began | 64 | R352 | DC 2 -/
  wdStart : Nat := 0
  /-- Hem tick at which the pulse in progress began | 64 | R354 | DC 2 -/
  wdPulseAt : Nat := 0
  /-- Check-in set: each task checked in, with the Hem tick at which it was latched; earliest and newest kept | 16 | R353 | DC 2 -/
  checkins : List (Nat × Nat) := []
  /-- WDI level as accepted | 1 | R357 | DC 2 -/
  wdi : Bool := false
  /-- WAKE_HOLD, ms | 16 | R331, R472 | spec -/
  wakeHold : Nat := 1000
  /-- SHIP_DELAY, s | 8 | R331, R472 | spec -/
  shipDelay : Nat := 10
  /-- Refusal counts of refusers 0-15 | 16 x 32 | R473 | spec -/
  refusals : Vector Nat 16 := Vector.replicate 16 0
  /-- Last-wake record: source | 8 | R476 | spec -/
  wakeSrc : Nat := 0
  /-- Last-wake record: state left | 8 | R476 | DC 2 -/
  wakeLeft : Nat := 0
  /-- Last-wake record: detail | 16 | R476 | spec -/
  wakeDetail : Nat := 0
  /-- Last-wake record: RTC time of the wake | 64 | R476 | DC 2 -/
  wakeTime : List Byte := List.replicate 8 0
  /-- Last-wake record: WAKES | 16 | R476 | DC 2 -/
  wakes : Nat := 0
  /-- Last-wake record: PS_FLAGS | 16 | R476 | DC 2 -/
  wakeFlags : Nat := 0
  /-- Lockstep mismatches | 32 | R520 | DC 2 -/
  lockstep : Nat := 0
  /-- Slewing correction of domain time still to make, fraction units | 64 | R439 | DC 2 -/
  slewLeft : Int := 0
  /-- Accumulator of the slew: 65 per Hem tick, a unit at 32,768 | 16 | R439 | DC 2 -/
  slewWait : Nat := 0
  deriving DecidableEq, Repr

/-! ## Protocol, configuration and host port (chapters 13, 14) -/

/-- Byte memory in its one canonical form: addresses strictly rising, no entry equal to what an unlisted address reads as,
which is 0x00 (R376, R406). -/
abbrev Mem := List Host.Cell

/-- A packet received and waiting for execution (R369). -/
structure Packet where
  /-- Source | - | R370 | DC 2 -/
  src : Source
  /-- OPCODE | 16 | R358 | DC 2 -/
  op : Nat
  /-- VERSION | 8 | R358 | DC 2 -/
  ver : Nat
  /-- TAG | 8 | R358 | DC 2 -/
  tag : Nat
  /-- PARAMS | - | R358 | DC 2 -/
  params : List Byte
  /-- Hem tick at which its reception completed | 64 | R370 | DC 2 -/
  rx : Nat
  /-- It arrived by broadcast or DOMSCOPE, so its reply is delayed | 1 | R429 | DC 2 -/
  bcast : Bool
  /-- The first of checks 1 to 5 that its bytes fail, with the result it draws when its turn comes | - | R363, R369 | DC 2 -/
  fail : Option (Status × List Byte) := none
  deriving DecidableEq, Repr

/-- A Zhoenne reply (R360, R361). -/
structure Reply where
  /-- VERSION | 8 | R360 | spec -/
  ver : Nat
  /-- TAG | 8 | R360 | spec -/
  tag : Nat
  /-- STATUS code as sent | 8 | R367 | spec -/
  status : Nat
  /-- RFLAGS | 8 | R362 | spec -/
  rflags : Nat
  /-- RESULT | - | R360 | spec -/
  result : List Byte
  deriving DecidableEq, Repr

/-- One burn of a fuse operation: the row, and what it adds (R491, R495, R502, R489). -/
inductive BurnJob where
  /-- OTP_PROGRAM of a row with data. -/
  | program (row : Nat) (data : List Byte)
  /-- OTP_FINALISE of a region: digest, the burn in hand of the four of R495, and a burn made did not read as written. -/
  | finalise (code : Nat) (digest : List Byte) (step : Nat) (note : Bool)
  /-- OTP_DARN of a row into spare `k`: 0 the copy, 1-3 the copies of the entry; a burn of an entry did not read as written. -/
  | darn (row k step : Nat) (note : Bool)
  /-- LIFECYCLE_ADVANCE: target, stage byte and copy row 0-2 in hand; a burn made did not read as written. -/
  | advance (target stage copy : Nat) (note : Bool)
  deriving DecidableEq, Repr

/-- A command whose execution has begun and whose reply is awaited (R371). -/
inductive Deferred where
  /-- RAILMAP_APPLY, until MAP_STORE_DONE (R94). -/
  | mapStore
  /-- FAULT_CLEAR with RESTORE, until CELL_SELF_TEST_DONE (R219). -/
  | restore (cell : Fin 256)
  /-- TEMP_MEASURE, until its reading (R299). -/
  | temp (code : Nat)
  /-- READ_CHANNEL, until converter `conv` is free: channel and AVG (R282). -/
  | channel (ch avg conv : Nat)
  /-- A fuse burn (R492). -/
  | burn (job : BurnJob)
  /-- FW_STAGE, until its write (R511). -/
  | stage (offset : Nat) (data : List Byte)
  /-- RAIL_SET_COMP or LIMITS_SET, until every cell has latched the rail's words or is left out (R109, R200). -/
  | words (rail : Nat)
  deriving DecidableEq, Repr

/-- A kept reply (R370). -/
structure Kept where
  /-- The source | - | R370 | DC 2 -/
  src : Source
  /-- Its last executed command | - | R370 | DC 2 -/
  cmd : Packet
  /-- The kept reply | - | R370 | DC 2 -/
  reply : Reply
  /-- Hem tick of that reply | 64 | R370 | DC 2 -/
  at_ : Nat
  deriving DecidableEq, Repr

/-- What a configuration image says once checked (R377, R379). -/
structure ImageInfo where
  /-- IMAGE_ID | 32 | R377 | DC 2 -/
  id : Nat
  /-- IMAGE_LEN | 32 | R377 | DC 2 -/
  len : Nat
  /-- IMG_FLAGS | 16 | R377 | DC 2 -/
  flags : Nat
  /-- DIGEST | 64 | R379 | DC 2 -/
  digest : List Byte
  /-- DOMAIN_DIGEST | 64 | R379 | DC 2 -/
  domDigest : List Byte
  deriving DecidableEq, Repr

/-- The command interpreter and the configuration images. -/
structure Proto where
  /-- The manager runs | 1 | R369, R401 | DC 2 -/
  running : Bool := true
  /-- Commands waiting, oldest first, up to 8 | - | R369 | DC 2 -/
  waiting : List Packet := []
  /-- Packet bytes received while the manager did not run, not yet checked | - | R405 | DC 2 -/
  raw : List (Source × List Byte × Nat × Bool) := []
  /-- Commands discarded at a manager restart, to be answered DROPPED | - | R371 | DC 2 -/
  dropped : List Packet := []
  /-- The command in execution that awaits its reply | - | R371 | DC 2 -/
  exec : Option (Packet × Deferred) := none
  /-- Replies of host-port commands ready to be written to the reply window, each with its number | - | R405 | DC 2 -/
  outbox : List (Nat × Reply) := []
  /-- Number of the next reply, by which a rule waits for one reply to have left | - | R541 | model 97 -/
  replyNo : Nat := 0
  /-- Kept replies, one per source | - | R370 | DC 2 -/
  kept : List Kept := []
  /-- Sources already replied to since the manager started | - | R371 | DC 2 -/
  greeted : List Source := []
  /-- Version in use per source, most recently heard first, and whether HELLO chose it: host port and 64 Seam sources | - | R375 |
  DC 2 -/
  versions : List (Source × Nat × Bool) := []
  /-- W1C bits of GLOB_FLAGS | 16 | R388 | spec -/
  flags : BitVec 16 := 0x0001
  /-- CFG_FROM_FUSE | 1 | R388 | spec -/
  fromFuse : Bool := false
  /-- Image in force; none is CFG_DEFAULT | - | R384, R388 | DC 2 -/
  inForce : Option ImageInfo := none
  /-- Configuration state | 8 | R380 | DC 2 -/
  cfg : CfgSt := .empty
  /-- The buffer has been loaded since the manager started | 1 | R376, R380 | spec -/
  loaded : Bool := false
  /-- Image buffer, 262,144 bytes | 2097152 | R376 | spec -/
  buffer : Mem := []
  /-- Stored image (configuration store) | 2097152 | R376 | DC 2 -/
  stored : Option (List Byte) := none
  /-- STORE and MAP of the apply in progress | 2 | R382 | DC 2 -/
  applyBits : Bool × Bool := (false, false)
  /-- Sections of the apply in progress executed so far | 16 | R382, R383 | DC 2 -/
  applied : Nat := 0
  /-- Notes of the last apply | 8 | R387 | DC 2 -/
  notes : Nat := 0
  /-- FIRST_NOTE | 16 | R387 | DC 2 -/
  firstNote : Option Nat := none
  /-- Hem tick at which the manager last started | 64 | R387 | DC 2 -/
  startAt : Nat := 0
  /-- RESET_MODULE whose reply has not left or whose 1 ms runs: kind, and the number of its reply | 8 | R389 | DC 2 -/
  resetDue : Option (Nat × Nat) := none
  deriving DecidableEq, Repr

/-- The two-wire host port. -/
structure Hp where
  /-- HP_STATE | 8 | R401 | spec -/
  st : HpSt := .idle
  /-- Low byte last written to DOORBELL | 8 | R404 | spec -/
  doorLo : Byte := 0
  /-- Last LEN submitted | 10 | R404 | spec -/
  len : Nat := 0
  /-- RPL_LEN | 16 | R401 | spec -/
  rplLen : Nat := 0
  /-- HP_CTL RPL_ALERT, held in Hem | 3 | R403 | spec -/
  ctl : Nat := 7
  /-- T_SCL, held in Hem | 8 | R401 | spec -/
  tScl : Nat := 0x19
  /-- T_SDA, held in Hem | 8 | R401 | spec -/
  tSda : Nat := 0x19
  /-- HP_FLAGS | 16 | R403 | spec -/
  flags : BitVec 16 := 0
  /-- Pointer | 16 | R397 | DC 2 -/
  ptr : Nat := 0
  /-- Command window, 512 bytes from 0x8000 | 4096 | R406 | spec -/
  win : Mem := []
  /-- Reply window | 4096 | R406 | spec -/
  rpl : List Byte := []
  /-- Numbers of the replies placed in the reply window for which neither TAKE has been written nor 10 ms have passed, oldest first |
  - | R541 | model 97 -/
  untaken : List Nat := []
  /-- The mirror as it stood when the manager stopped: identity, status, rail records and bitmap, 976 bytes | 7808 | R400 | DC 2 -/
  mirror : List Byte := []
  /-- Record latched by the read in progress: its pointer and its 16 bytes | 144 | R400 | DC 2 -/
  snap : Option (Nat × List Byte) := none
  /-- A write transaction addressed to the module is in progress, its pointer taken | 1 | R397, R409 | DC 2 -/
  txn : Bool := false
  /-- A read has ended at a byte not acknowledged, and no START or STOP has been seen since | 1 | R410 | DC 2 -/
  nacked : Bool := false
  /-- The port waits for a START or STOP after a reset of port state | 1 | R395, R410 | spec -/
  await : Bool := true
  /-- The Hem recogniser holds SCL low | 1 | R411 | DC 2 -/
  held : Bool := false
  /-- The port engine is powered | 1 | R411, R467 | DC 2 -/
  engine : Bool := true
  /-- The rest of the transaction draws no acknowledgement | 1 | R411 | DC 2 -/
  deaf : Bool := false
  deriving DecidableEq, Repr

/-! ## Seam (chapter 15) -/

/-- A frame queued for sending: class, frame, and whether it carries a reply whose leaving is waited for. -/
structure QFrame where
  /-- Priority class | 2 | R422 | DC 2 -/
  cls : Nat
  /-- The frame | - | R421 | DC 2 -/
  frame : Frame
  /-- Number of the reply of this module that it carries | - | R541 | model 97 -/
  reply : Option Nat
  /-- Telemetry stream it belongs to | 2 | R277 | DC 2 -/
  stream : Option (Fin 4)
  /-- A copy begun before the incoming CRC failed: it ends with /V/ and /T/ | 1 | R427 | DC 2 -/
  spoiled : Bool := false
  deriving DecidableEq, Repr

/-- One Seam port. -/
structure PortSt where
  /-- Link state | 8 | R419 | DC 2 -/
  link : LinkSt := .down
  /-- Link version; 0 when not UP | 8 | R447 | spec -/
  ver : Nat := 0
  /-- LINK_DLY, 0.1 ns | 16 | R418 | spec -/
  dly : Nat := 0
  /-- LINK_DLY measured in this training | 1 | R420 | DC 2 -/
  dlyOk : Bool := false
  /-- Last link word received, and how many identical ones in a row | 18 | R417 | DC 2 -/
  lastWord : Option (BitVec 16 × Nat) := none
  /-- ACK set in the words sent | 1 | R417 | DC 2 -/
  ack : Bool := false
  /-- MARK sent, ECHO awaited | 1 | R418 | DC 2 -/
  marked : Bool := false
  /-- The word now sent carries MARK | 1 | R418 | DC 2 -/
  markNow : Bool := false
  /-- The word now sent carries ECHO | 1 | R418 | DC 2 -/
  echoNow : Bool := false
  /-- Words until the one with ECHO that a MARK received calls for; 0 when none | 4 | R418 | DC 2 -/
  echoIn : Nat := 0
  /-- VER_FAIL delay runs | 1 | R420 | DC 2 -/
  verWait : Bool := false
  /-- /C1/ and /C2/ burst being sent by a DOWN port | 1 | R420 | DC 2 -/
  burst : Bool := false
  /-- Clause 36 synchronisation is held | 1 | R420 | DC 2 -/
  sync : Bool := false
  /-- CRC_ERRS | 16 | R447 | spec -/
  crcErrs : Nat := 0
  /-- Frames queued, up to 16, in service order | - | R430 | DC 2 -/
  queue : List QFrame := []
  /-- Frame being sent | - | R430 | DC 2 -/
  sending : Option QFrame := none
  /-- Phantom overload time-off runs | 1 | R416 | DC 2 -/
  phOver : Bool := false
  /-- Port powered | 1 | R420, R467 | DC 2 -/
  powered : Bool := true
  /-- WAKE frames held until the link is UP, oldest first | - | R435 | DC 2 -/
  heldWake : List Frame := []
  /-- The wake pattern is being sent | 1 | R435 | DC 2 -/
  pattern : Bool := false
  /-- Hem tick at which the own ANNOUNCE last returned on this port | 64 | R432 | DC 2 -/
  ownBack : Option Nat := none
  deriving DecidableEq, Repr

/-- What a module has announced of itself (R441). -/
structure Member where
  /-- Address | 12 | R441 | DC 2 -/
  addr : Nat
  /-- Domain number | 12 | R441 | DC 2 -/
  domain : Nat
  /-- Domain state | 8 | R441 | DC 2 -/
  dom : Nat
  /-- Zhoenne versions | 8 | R441 | DC 2 -/
  vers : Nat
  /-- TIME_MASTER setting | 16 | R441 | DC 2 -/
  tm : Nat
  /-- DOMAIN_DIGEST | 64 | R441 | DC 2 -/
  digest : List Byte
  /-- Unique identity | 64 | R441 | DC 2 -/
  uid : List Byte
  /-- Hem tick of arrival | 64 | R442 | DC 2 -/
  at_ : Nat
  deriving DecidableEq, Repr

/-- The Seam link, domain time and agreement. -/
structure Seam where
  /-- Port A | - | R414 | DC 2 -/
  a : PortSt := {}
  /-- Port B | - | R414 | DC 2 -/
  b : PortSt := {}
  /-- Seam address, held in Hem; none is UNADDRESSED | 12 | R426 | spec -/
  addr : Option Nat := none
  /-- Address that takes effect once the SEAM_ADDRESS_SET reply has left, and the number of that reply | 12 | R450 | DC 2 -/
  addrNext : Option (Nat × Nat) := none
  /-- SEQ, held in Hem: after Hem's power-on reset the low 16 bits of the unique identity, which is zero at this reset | 16 | R428 |
  spec -/
  seq : Nat := 0
  /-- Duplicate windows: source, L, marks (bit k is L - k), Hem tick refreshed | - | R428 | DC 2 -/
  dups : List (Nat × Nat × BitVec 64 × Nat) := []
  /-- RX_BAD | 16 | R447 | spec -/
  rxBad : Nat := 0
  /-- FWD_DROPS | 16 | R447 | spec -/
  fwdDrops : Nat := 0
  /-- Streams with a frame that a port queue has lost since the last frame made | 4 | R276 | DC 2 -/
  gaps : BitVec 4 := 0
  /-- V1_DROPS | 16 | R447 | spec -/
  v1Drops : Nat := 0
  /-- W1C bits of SEAM_FLAGS | 16 | R448 | spec -/
  flags : BitVec 16 := 0
  /-- Modules heard, newest record per address | - | R442 | DC 2 -/
  members : List Member := []
  /-- Agreement state | 8 | R443 | DC 2 -/
  agree : AgreeSt := .alone
  /-- Causes: DIGEST, OVERSIZE, STATE in bits 0-2 | 8 | R449 | DC 2 -/
  causes : Nat := 0
  /-- Hem tick at which GATHERING ends | 64 | R443 | DC 2 -/
  gatherEnd : Nat := 0
  /-- Domain number | 12 | R450 | spec -/
  domain : Nat := 0
  /-- Domain number in the configuration store | 12 | R450 | spec -/
  domainStored : Nat := 0
  /-- TIME_MASTER setting | 16 | R450 | spec -/
  tm : Nat := 0xFFFF
  /-- Time master address in use | 16 | R449 | DC 2 -/
  master : Option Nat := none
  /-- MASTER_SUBST | 1 | R448 | spec -/
  subst : Bool := false
  /-- ofs at the last SYNC | 32 | R449 | DC 2 -/
  ofs : Int := 0
  /-- Hem tick of the last SYNC | 64 | R449 | DC 2 -/
  lastSync : Option Nat := none
  /-- Echoes delivered: SRC, ECHO_ID, Hem tick | - | R434 | DC 2 -/
  echoes : List (Nat × Nat × Nat) := []
  /-- Frames addressed to the module while the manager does not run, up to 8: port, frame, Hem tick of arrival, and what was found at
  arrival: ofs of a SYNC, and for a FAULT_ECHO 1 where FAULT_N had been accepted within 100 µs | - | R431, R241 | DC 2 -/
  rxBuf : List (Port × Frame × Nat × Int) := []
  /-- Replies of broadcast or DOMSCOPE commands whose delay runs, each with its number | - | R429 | DC 2 -/
  bcastDue : List (Source × Reply × Nat) := []
  deriving DecidableEq, Repr

/-! ## Events (chapter 16) -/

/-- One event of the router (R453-R459). -/
structure Ev where
  /-- ENABLE | 1 | R456 | spec -/
  enable : Bool := false
  /-- Sensing mode | 2 | R456 | spec -/
  sensing : Nat := 0
  /-- Target mask | 4 | R456 | spec -/
  mask : Nat := 0
  /-- Pending bit | 1 | R453 | DC 2 -/
  pending : Bool := false
  /-- Channel holding a claim | 3 | R458 | DC 2 -/
  claim : Option Nat := none
  /-- Rearm mark | 1 | R454 | DC 2 -/
  rearm : Bool := false
  /-- Line level as last sampled | 1 | R451 | DC 2 -/
  level : Bool := false
  deriving DecidableEq, Repr

/-- One alert channel (R457, R462, R463). -/
structure Chan where
  /-- MIN_INT, 10 µs | 16 | R462 | spec -/
  minInt : Nat := 0
  /-- The channel presents an event | 1 | R457 | DC 2 -/
  presenting : Bool := false
  /-- The moderation timer has not reached MIN_INT | 1 | R462 | DC 2 -/
  timing : Bool := false
  /-- Subscriber's Seam address | 12 | R463 | spec -/
  sub : Option Nat := none
  deriving DecidableEq, Repr

/-- The event router. -/
structure Router where
  /-- Events 0-1,023 | 1024 | R451 | spec -/
  ev : Vector Ev 1024 := Vector.replicate 1024 {}
  /-- Soak | 1 | R461 | spec -/
  soak : Bool := false
  /-- Channels 0-3 | 4 | R457 | spec -/
  ch : Vector Chan 4 := Vector.replicate 4 {}
  /-- SPURIOUS | 1 | R452, R460 | DC 2 -/
  spurious : Bool := false
  /-- DONE_IGNORED | 1 | R452, R459 | DC 2 -/
  doneIgnored : Bool := false
  /-- REARMED | 1 | R452, R454 | DC 2 -/
  rearmed : Bool := false
  /-- EVENT frames that wait while the manager does not run: subscriber, payload, Hem tick of the start | - | R463 | DC 2 -/
  notices : List (Nat × List Byte × Nat) := []
  deriving DecidableEq, Repr

/-! ## Power states (chapter 17) -/

/-- The module power state. -/
structure Pwr where
  /-- Module power state | 8 | R466 | DC 2 -/
  st : PwrSt := .run
  /-- Votes of refusers 8-15 (0 RUN to 3 SHIP) | 8 x 8 | R469 | spec -/
  votes : Vector Nat 8 := Vector.replicate 8 3
  /-- W1C bits of PS_FLAGS | 16 | R477 | spec -/
  flags : BitVec 16 := 0
  /-- HIBERNATE accepted, its reply has not left: the number of that reply | - | R474 | DC 2 -/
  hibDue : Option Nat := none
  /-- Entry to HIBERNATE is under way | 1 | R474 | DC 2 -/
  entering : Bool := false
  /-- A wake has been requested and not yet acted on | - | R475 | DC 2 -/
  wake : Option WakeSource := none
  /-- No source feeds the internal bias: everything but Hem and the HOLD path is without power | 1 | R301, R479 | DC 2 -/
  lost : Bool := false
  /-- The manager is clock-gated in DOZE | 1 | R468 | DC 2 -/
  gated : Bool := false
  deriving DecidableEq, Repr

/-! ## Fuses (chapter 18) -/

/-- A physical fuse row, as it reads at the two margins (R481, R484). -/
structure FuseRow where
  /-- Data bits at the loose margin | 256 | R481, R484 | spec -/
  loose : List Byte
  /-- Data bits at the tight margin | 256 | R481, R484 | spec -/
  tight : List Byte
  /-- Tail at the loose margin: SEC-DED check in bits 9-0, WRITTEN marker in bits 15-10 | 16 | R481, R484 | spec -/
  tail : BitVec 16
  /-- Tail at the tight margin | 16 | R481, R484 | spec -/
  tightTail : BitVec 16
  deriving DecidableEq, Repr

/-- A life-cycle row with the stage bytes of VENDOR and OPEN burned (R487). (DESIGN CHOICE 6, unsafe.) -/
def openRow : FuseRow :=
  { loose := [0xFF, 0xFF] ++ List.replicate 30 0, tight := [0xFF, 0xFF] ++ List.replicate 30 0, tail := 0, tightTail := 0 }

/-- The fuse memory and the life cycle. -/
structure Fuse where
  /-- Rows that are not BLANK, in rising order; life-cycle state OPEN | 2048 x 272 | R481, R538 | DC 6 -/
  rows : List (Nat × FuseRow) := [(0, openRow), (1, openRow), (2, openRow)]
  /-- Spare rows that are not BLANK, in rising order | 32 x 272 | R481 | DC 6 -/
  spares : List (Nat × FuseRow) := []
  /-- W1C bits of FUSE_FLAGS | 16 | R505 | spec -/
  flags : BitVec 16 := 0
  /-- INTEGRITY_ALARM | 1 | R505 | spec -/
  integrity : Bool := false
  /-- FPATCH_IGNORED | 1 | R505 | spec -/
  fpatchIgnored : Bool := false
  /-- CCONF_SKIPPED | 1 | R505 | spec -/
  cconfSkipped : Bool := false
  /-- SAFE_HOLD_VTRIM | 1 | R505 | spec -/
  safeHoldVtrim : Bool := false
  /-- Check results of regions 0-4 at the last start | 5 x 3 | R498 | spec -/
  checks : Vector Nat 5 := Vector.replicate 5 0
  /-- Trims, and the thresholds of R293, loaded from VTRIM at the last full start: its rows that are not BLANK; none is the untrimmed
  design values | 98304 | R293, R499, R500 | DC 6 -/
  trims : Option (List (Nat × List Byte)) := some []
  /-- Rows found MARGINAL at the last start and at reads since (spare k as 2,048 + k) | - | R485, R504 | DC 2 -/
  seen : List Nat := []
  /-- SAFE HOLD is to be entered at the next full start | 1 | R500 | DC 2 -/
  safeDue : Bool := false
  deriving DecidableEq, Repr

/-! ## Firmware (chapter 19) -/

/-- One copy of the boot selector (R514). (DESIGN CHOICE 169, unsafe.) -/
structure SelCopy where
  /-- Sequence number | - | R514 | DC 169 -/
  seq : Nat := 0
  /-- Bank marked to start next | 1 | R514 | DC 169 -/
  bank : Fin 2 := 0
  /-- Its CRC-32 checks | 1 | R514 | DC 169 -/
  good : Bool := true
  deriving DecidableEq, Repr

/-- Firmware banks, the boot selector and the test multiplexers. -/
structure Fw where
  /-- Running bank | 1 | R520 | DC 2 -/
  bank : Fin 2 := 0
  /-- The two copies of the boot selector, in flash; it also keeps the bank states and verify results | - | R506, R514 | DC 169 -/
  selector : Vector SelCopy 2 := Vector.replicate 2 {}
  /-- States of banks 0 and 1, kept in the boot selector | 2 x 8 | R509 | DC 2 -/
  st : Vector BankSt 2 := #v[.active, .empty]
  /-- VERSION of banks 0 and 1 | 2 x 24 | R520 | DC 2 -/
  ver : Vector (List Byte) 2 := #v[[3, 2, 0], [0, 0, 0]]
  /-- Contents of banks 0 and 1, each byte complemented: an erased byte, 0xFF, is unlisted | 2 x 16777216 | R506, R511 | DC 2 -/
  image : Vector Mem 2 := Vector.replicate 2 []
  /-- The bank holds the image the module was made with, which the spec does not give, where no sector has been erased since | 2 x 1 |
  R506 | DC 2 -/
  fitted : Vector Bool 2 := #v[true, false]
  /-- Sectors of each bank erased since it last entered STAGED | 2 x 512 | R511 | DC 2 -/
  erased : Vector (List Nat) 2 := Vector.replicate 2 []
  /-- Sectors of each bank erased since the module was made | 2 x 512 | R506, R511 | DC 2 -/
  cleared : Vector (List Nat) 2 := Vector.replicate 2 []
  /-- Highest byte offset written + 1 in each bank since it last entered STAGED | 2 x 32 | R520 | DC 2 -/
  high : Vector Nat 2 := Vector.replicate 2 0
  /-- Verify results of banks 0 and 1 | 2 x 8 | R508, R509 | spec -/
  verify : Vector Nat 2 := #v[1, 0]
  /-- VERIFY_FAIL, FLASH_ERR, LOCKSTEP_RESTART, AUTO_REVERTED in bits 3-0 | 16 | R521 | spec -/
  flags : BitVec 16 := 0
  /-- PATCHED | 1 | R521 | spec -/
  patched : Bool := false
  /-- KEY_ABSENT | 1 | R521 | spec -/
  keyAbsent : Bool := false
  /-- Cause of the last manager start | 8 | R522 | DC 2 -/
  cause : Nat := 0
  /-- Cause of the start now under way | 8 | R522 | DC 2 -/
  causeNext : Nat := 0
  /-- Manager starts since the last full start | 32 | R520 | DC 2 -/
  starts : Nat := 0
  /-- LOCKSTEP_OK | 1 | R223 | DC 2 -/
  lockstepOk : Bool := true
  /-- Hem tick at which the running bank entered TRIAL | 64 | R510, R520 | DC 2 -/
  trialAt : Option Nat := none
  /-- A commit or revert between its reply and its completion event: hitless, revert, the number of its reply | 2 | R513, R516 |
  DC 2 -/
  commit : Option (Bool × Bool × Nat) := none
  /-- The boot selector is being written with the staging bank marked to start next; true for a revert | 1 | R514, R516 | DC 2 -/
  switchDue : Option Bool := none
  /-- Signal codes selected on TMA0, TMA1, TMD0-TMD3 | 6 x 16 | R523 | spec -/
  mux : Vector (Option Nat) 6 := Vector.replicate 6 none
  deriving DecidableEq, Repr

/-! ## The module -/

/-- The lands and the supply (chapter 01). -/
structure Land where
  /-- W1C bits of the land status word: VIN_OV_SEEN 23, VIN_UV_SEEN 22, WAKE_STUCK 18, RESET_STUCK 17, FRAME_RANGE 16,
  PPS_RANGE 15, SYNC_RANGE 14 | 32 | R25 | spec -/
  flags : BitVec 32 := 0
  /-- AUXIN_RANGE | 1 | R25 | spec -/
  auxRange : Bool := false
  /-- BTH_SHORT | 1 | R25 | spec -/
  bthShort : Bool := false
  /-- BTH_OPEN | 1 | R25 | spec -/
  bthOpen : Bool := false
  /-- STRAP_EXT | 3 | R25 | spec -/
  strapExt : BitVec 3 := 0
  /-- STRAP | 3 | R25 | spec -/
  strap : BitVec 3 := 0
  /-- TWI_ADDR | 7 | R25 | spec -/
  twiAddr : Nat := 0
  /-- VIN below 8.0 V, or not yet risen above 8.6 V | 1 | R21 | DC 2 -/
  vinLow : Bool := false
  /-- The undervoltage signal has gone with VIN below 8.6 V, whose rise is still to come | 1 | R294 | DC 2 -/
  vinWait : Bool := false
  /-- VIN has been above 16.5 V, and not yet below 15.5 V for 1 ms | 1 | R21, R212 | DC 2 -/
  vinHigh : Bool := false
  /-- VIN is above 16.5 V, and has not been found usable since | 1 | R303 | DC 2 -/
  vinOver : Bool := false
  /-- WAKE_BTN is ignored until seen high | 1 | R16 | DC 2 -/
  wakeIgnored : Bool := false
  /-- RESET_N is ignored until seen high | 1 | R20 | DC 2 -/
  resetIgnored : Bool := false
  /-- RESET_N reads low | 1 | R20 | DC 2 -/
  resetLow : Bool := false
  /-- FRAME_IN is declared absent | 1 | R16 | DC 2 -/
  frameAbsent : Bool := true
  /-- Fabric count of the latest FRAME_IN strobe, and whether it was accepted | 65 | R16 | DC 2 -/
  frameLast : Option (Nat × Bool) := none
  deriving DecidableEq, Repr

/-- The whole module. -/
structure State where
  /-- Commands waiting, first in, first out | - | - | model 1 -/
  pending : List Instr
  /-- Counter of free values taken | - | - | model 4 -/
  free : Nat
  /-- Fabric tick count at the last Hem tick | 64 | R102, R173 | DC 2 -/
  fabric : Nat
  /-- Counter of free values at the last Hem tick | - | - | model 28 -/
  fabricFree : Nat
  /-- Cells 0-255 | - | R35 | spec -/
  cells : Vector Cell 256
  /-- Rails 0-47 | - | R99 | spec -/
  rails : Vector Rail 48
  /-- Rail-bus messages in flight, oldest first | - | R56, R60 | model 111 -/
  bus : List Msg
  /-- Members awaiting an ARM group, in the order in which they will be sent: rail and cell | - | R114 | DC 2 -/
  armQ : List (Nat × Nat)
  /-- Groups are being sent | 1 | R114 | DC 2 -/
  arming : Bool
  /-- Rail map and tack probe | - | R68 | spec -/
  map : MapState
  /-- Crease contexts 0-7 | - | R156 | spec -/
  crease : Vector Crease 8
  /-- Clocks | - | R172 | spec -/
  clk : Clk
  /-- Sequencing domain | - | R227 | spec -/
  dom : Dom
  /-- Supervisor and pressings | - | R246 | spec -/
  sup : Sup
  /-- Telemetry | - | R262 | spec -/
  tlm : Tlm
  /-- Thermal management | - | R283 | spec -/
  therm : Therm
  /-- HOLD and charger | - | R300 | spec -/
  chg : Chg
  /-- Hem | - | R333 | spec -/
  hem : Hem
  /-- Command interpreter | - | R358 | spec -/
  proto : Proto
  /-- Host port | - | R394 | spec -/
  hp : Hp
  /-- Seam | - | R414 | spec -/
  seam : Seam
  /-- Event router | - | R451 | spec -/
  router : Router
  /-- Power state | - | R466 | spec -/
  pwr : Pwr
  /-- Fuses | - | R481 | spec -/
  fuse : Fuse
  /-- Firmware | - | R506 | spec -/
  fw : Fw
  /-- Lands | - | R16 | spec -/
  land : Land
  deriving DecidableEq, Repr

/-- Reset windows and actions of the supervisor inputs (R246). -/
def supReset : Nat → SupIn := fun k =>
  if k < 48 then { lo := 75, hi := 75, act := 1 }
  else if k = 48 then { lo := 890, hi := 1550 }
  else if k = 52 then { lo := 1500, hi := 3800 }
  else if k = 53 then { lo := 680, hi := 960 }
  else if k = 54 then { lo := 3000, hi := 3600, act := 1 }
  else if k = 55 then { lo := 2250, hi := 2750, act := 1 }
  else if k = 56 then { lo := 2200, hi := 2800, act := 1 }
  else if k = 59 then { lo := 2475, hi := 2525 }
  else if k < 60 then {}
  else { act := 2 }

/-- The module right after a full start that follows Hem's power-on reset (R335, R384, R538), with VIN present, no image stored
and the manager running. -/
def State.reset : State where
  pending := []
  free := 0
  fabric := 0
  fabricFree := 0
  cells := Vector.replicate 256 {}
  rails := Vector.replicate 48 {}
  bus := []
  armQ := []
  arming := false
  map := {}
  crease := Vector.replicate 8 {}
  clk := {}
  dom := {}
  sup := { inputs := mapIdx (Vector.replicate 64 ({} : SupIn)) (fun k _ => supReset k) }
  tlm := {}
  therm := {}
  chg := {}
  hem := { wakeSrc := 9, wakeLeft := 255, wakes := 1 }
  proto := {}
  hp := {}
  seam := {}
  router := { ev := upd (Vector.replicate 1024 ({} : Ev)) 518 { level := true } }
  pwr := {}
  fuse := {}
  fw := {}
  land := {}

end Sys2Proof.Machine
end

