-- ==== Sys2Proof/Machine/Ops.lean ====
section
/-! DEFINITION. The named operations over the state that every family shares: one entry of a table changed, byte memory in its
canonical form (R376, R406), the calendar and the count of Hem (R336-R342), and the passing of one Hem tick. -/

namespace Sys2Proof.Machine

/-! ## One entry changed -/

/-- Cell `c` changed by `f`. -/
def modCell (s : State) (c : Fin 256) (f : Cell → Cell) : State :=
  { s with cells := upd s.cells c (f s.cells[c]) }

/-- Every cell changed from its number. -/
def mapCells (s : State) (f : Nat → Cell → Cell) : State := { s with cells := mapIdx s.cells f }

/-- Rail `r` changed by `f`. -/
def modRail (s : State) (r : Fin 48) (f : Rail → Rail) : State :=
  { s with rails := upd s.rails r (f s.rails[r]) }

/-- Every rail changed from its number. -/
def mapRails (s : State) (f : Nat → Rail → Rail) : State := { s with rails := mapIdx s.rails f }

/-- One free value taken: the next reading of a free value is another one. (DESIGN CHOICE 4, safe.) -/
def bump (s : State) : State := { s with free := s.free + 1 }

/-- The port named, and the other one (R427). -/
def Seam.port (x : Seam) : Port → PortSt
  | .a => x.a
  | .b => x.b

/-- A port changed by `f`. -/
def Seam.modPort (x : Seam) (p : Port) (f : PortSt → PortSt) : Seam :=
  match p with
  | .a => { x with a := f x.a }
  | .b => { x with b := f x.b }

/-- The port a frame is forwarded on (R427). -/
def Port.other : Port → Port
  | .a => .b
  | .b => .a

/-- A quotient: exact where the division is; otherwise one of the two whole numbers beside it, since
the spec states no rounding; a quotient by 0 is a free value (R42, R89, R104, R107, R161, R163,
R252). (DESIGN CHOICE 15, safe.) -/
def quot (num : Int) (den : Nat) : Int :=
  if den = 0 then Config.quotient num den
  else num / den + (if num % den ≠ 0 ∧ Config.roundsUp num den then 1 else 0)

/-! ## Byte memory -/

/-- What an unlisted address of a buffer or window reads as (R376, R406). (DESIGN CHOICE 108, safe.) -/
def Mem.fill : Byte := 0

/-- The byte an address reads as. (DESIGN CHOICE 108, safe.) -/
def Mem.read : Mem → Nat → Byte
  | [], _ => Mem.fill
  | (a, b) :: m, x => if x = a then b else Mem.read m x

/-- One byte written; the canonical form is kept: the list stays in rising order and holds no byte
equal to the fill. (DESIGN CHOICE 108, safe.) -/
def Mem.write : Mem → Nat → Byte → Mem
  | [], x, v => if v = Mem.fill then [] else [(x, v)]
  | (a, b) :: m, x, v =>
    if x < a then (if v = Mem.fill then (a, b) :: m else (x, v) :: (a, b) :: m)
    else if x = a then (if v = Mem.fill then m else (a, v) :: m)
    else (a, b) :: Mem.write m x v

/-- Bytes written from an address upward. -/
def Mem.writes (m : Mem) : Nat → List Byte → Mem
  | _, [] => m
  | x, b :: bs => Mem.writes (m.write x b) (x + 1) bs

/-- `n` bytes read from an address upward. -/
def Mem.reads (m : Mem) (x n : Nat) : List Byte := (upto n).map (fun k => m.read (x + k))

/-- The entries whose addresses pass a test. -/
def Mem.keep (keep : Nat → Bool) : Mem → Mem
  | [] => []
  | (a, b) :: m => if keep a then (a, b) :: Mem.keep keep m else Mem.keep keep m

/-- Entries above `lo`, strictly rising, none equal to the fill. -/
def Mem.okFrom : Nat → Mem → Bool
  | _, [] => true
  | lo, (a, b) :: m => decide (lo ≤ a) && decide (b ≠ Mem.fill) && Mem.okFrom (a + 1) m

/-- The canonical form: addresses strictly rising, no entry equal to what an unlisted address reads as. -/
def Mem.wf (m : Mem) : Bool := Mem.okFrom 0 m

/-! ## Flash banks -/

/-- The 4 KiB sectors a write reaches (R511). -/
def sectorsOf (off n : Nat) : List Nat := (upto 513).map (fun k => off / 4096 + k) |>.filter (fun x => decide (x * 4096 < off + n))

/-- Bytes written into a bank: its sectors not yet erased since it entered STAGED are erased first
(R511). (PRESUMED 84, unsafe; DEDUCED 87, unsafe.) -/
def Fw.program (f : Fw) (b : Fin 2) (off : Nat) (data : List Byte) : Fw :=
  let fresh := (sectorsOf off data.length).filter (fun x => !(f.erased[b]).contains x)
  { f with
    image := upd f.image b ((Mem.keep (fun a => !fresh.contains (a / 4096)) f.image[b]).writes off (data.map (fun x => ~~~x)))
    erased := upd f.erased b (fresh ++ f.erased[b])
    cleared := upd f.cleared b (fresh.filter (fun x => !(f.cleared[b]).contains x) ++ f.cleared[b])
    high := upd f.high b (max f.high[b] (off + data.length)) }

/-- The staging bank: the one that does not run (R509). -/
def Fw.other (f : Fw) : Fin 2 := if f.bank = 0 then 1 else 0

/-- Bytes of a bank. (PRESUMED 84, unsafe.) -/
def Fw.bytes (f : Fw) (b : Fin 2) (off n : Nat) : List Byte := ((f.image[b]).reads off n).map (fun x => ~~~x)

/-- The spec gives the first `n` bytes of a bank: no sector of them still holds the image the module
was made with. (PRESUMED 84, unsafe.) -/
def Fw.known (f : Fw) (b : Fin 2) (n : Nat) : Bool := !f.fitted[b] || (sectorsOf 0 n).all (fun x => (f.cleared[b]).contains x)

/-! ## Time (R336-R342) -/

/-- Days of the months of a year of 2000-2099 (R338). -/
def monthDays (leap : Bool) : List Nat := [31, if leap then 29 else 28, 31, 30, 31, 30, 31, 31, 30, 31, 30, 31]

/-- Month and day of a day of the year, both from 1. -/
def monthOf : List Nat → Nat → Nat → Nat × Nat
  | [], k, d => (k, d + 1)
  | n :: ns, k, d => if d < n then (k, d + 1) else monthOf ns (k + 1) (d - n)

/-- Two decimal digits. -/
def bcd (n : Nat) : Byte := byte (n / 10 % 10 * 16 + n % 10)

/-- The number two BCD digits hold, when they are digits. -/
def unbcd (b : Byte) : Option Nat :=
  if b.toNat / 16 ≤ 9 ∧ b.toNat % 16 ≤ 9 then some (b.toNat / 16 * 10 + b.toNat % 16) else none

/-- Seconds of the calendar's span, 36,525 days (R338). -/
def calSpan : Nat := 3155760000

/-- Year of 0-99, and day of the year from 0, of a day counted from 2000-01-01. -/
def yearOf (days : Nat) : Nat × Nat :=
  let r := days % 1461
  if r < 366 then (days / 1461 * 4, r) else (days / 1461 * 4 + 1 + (r - 366) / 365, (r - 366) % 365)

/-- The calendar form of a count (R338). -/
def calendarOf (count : Nat) : List Byte :=
  let sec := count / 65536 % calSpan
  let days := sec / 86400
  let y := yearOf days
  let m := monthOf (monthDays (y.1 % 4 == 0)) 1 y.2
  [bcd (count % 65536 * 100 / 65536), bcd (sec % 60), bcd (sec / 60 % 60), bcd (sec / 3600 % 24), bcd m.2, bcd m.1,
    bcd y.1, byte ((days + 5) % 7 + 1)]

/-- Days before the first of a month. -/
def daysBefore : List Nat → Nat → Nat
  | [], _ => 0
  | n :: ns, k => if k ≤ 1 then 0 else n + daysBefore ns (k - 1)

/-- The count a calendar time names; none when a field is not valid BCD or not a valid date (R339). -/
def calendarCount (t : List Byte) : Option Nat :=
  match unbcd (t.getD 0 0), unbcd (t.getD 1 0), unbcd (t.getD 2 0), unbcd (t.getD 3 0), unbcd (t.getD 4 0),
      unbcd (t.getD 5 0), unbcd (t.getD 6 0) with
  | some hu, some se, some mi, some ho, some da, some mo, some ye =>
    let md := monthDays (ye % 4 == 0)
    if se < 60 ∧ mi < 60 ∧ ho < 24 ∧ 1 ≤ mo ∧ mo ≤ 12 ∧ 1 ≤ da ∧ da ≤ md.getD (mo - 1) 0 then
      some (((((ye * 365 + (ye + 3) / 4 + daysBefore md mo + (da - 1)) * 24 + ho) * 60 + mi) * 60 + se) * 65536
        + hu * 65536 / 100)
    else none
  | _, _, _, _, _, _, _ => none

/-- The time in the form of the mode in force (R336-R338). -/
def Hem.rtc (h : Hem) : List Byte := if h.calendar then calendarOf h.count else leBytes 8 h.count

/-- The count moved by a signed number of fraction units, modulo its 64 bits. -/
def Hem.shift (h : Hem) (d : Int) : Hem := { h with count := (((h.count : Int) + d) % (2 ^ 64 : Int)).toNat }

/-- What DISC adds in one Hem tick beside the two units: the accumulator's new value and one unit, or none (R342). -/
def Hem.discUnit (h : Hem) : Int × Int :=
  let acc := h.discAcc + 2 * h.discV
  if 100000000 ≤ acc then (acc - 100000000, 1) else if acc ≤ -100000000 then (acc + 100000000, -1) else (acc, 0)

/-- One unit of a slew is due in this tick: 65 units per second (R439). -/
def Hem.slewUnit (h : Hem) : Int :=
  if h.slewLeft = 0 ∨ h.slewWait + 65 < 32768 ∨ h.discUnit.2 ≠ 0 then 0 else if 0 < h.slewLeft then 1 else -1

/-- One Hem tick passes: the count gains 2 fraction units, the unit of DISC, and the unit of a slew (R336, R342, R439). -/
def Hem.tick (h : Hem) : Hem :=
  let d := h.discUnit
  let w := h.slewUnit
  { h with
    ticks := h.ticks + 1
    count := (((h.count : Int) + 2 + d.2 + w) % (2 ^ 64 : Int)).toNat
    discAcc := d.1
    slewLeft := h.slewLeft - w
    slewWait := if h.slewLeft = 0 then 0 else if w ≠ 0 then h.slewWait + 65 - 32768 else min (h.slewWait + 65) 65535 }

/-- One second, in Hem ticks. -/
def oneSecond : Nat := 32768

/-- The manager's supply, body bias and SRAM assist for a setting of R468; while XO_BAD is set the supply is that of R192, and bias and
assist are those of the L2 row. -/
def setSupply (c : Clk) (mv : Nat) (bias : Int) (assist : Assist) : Clk :=
  if c.xoBad then { c with supply := 720, bias := 100, assist := .on } else { c with supply := mv, bias := bias, assist := assist }

/-- A clock-gated manager resumes (R468). -/
def resume (s : State) : State :=
  { s with
    pwr := { s.pwr with gated := false }
    clk := if s.pwr.gated then setSupply s.clk 720 100 .on else s.clk }

/-- No work waits for the manager (R467). -/
def noWork (s : State) : Bool := s.proto.waiting.isEmpty && s.proto.raw.isEmpty && s.proto.exec.isNone

/-- The module has no power but Hem's: it is in SHIP, or no source feeds the internal bias (R467, R479). -/
def State.off (s : State) : Bool := s.pwr.lost || decide (s.pwr.st = .ship)

/-- The telemetry and supervisor converters run: in every state but HIBERNATE and SHIP, with power (R467). -/
def State.converts (s : State) : Bool := !s.off && decide (s.pwr.st ≠ .hibernate)

/-- Fabric ticks of one Hem tick at the frequency held, less their part of a tick (R172, R173).
(DESIGN CHOICE 28, safe.) -/
def fabricPerHem (s : State) : Nat := ((1000000000 + s.clk.offNow) * 100000000 / (32768 * 1000000000)).toNat

/-- Fabric ticks that pass in the Hem tick that ends: those of the frequency held, up to four more or fewer for the two oscillators'
deviations (R172, R173). (DESIGN CHOICE 28, safe.) -/
def hemTicks (s : State) : Nat := fabricPerHem s - 4 + Config.freeNat s.free % 9

/-- What may have passed on the two-wire bus in a Hem tick without a row of its own: a STOP, or 50 µs without activity, that ends a
transaction and the waiting of a port whose state was reset; reads, which move the pointer; and the end of a read at a byte not
acknowledged. Whether it has is free (R395, R397, R398, R410). (DESIGN CHOICE 160, safe.) -/
def busTick (s : State) : Hp :=
  let h := s.hp
  let live := h.engine && !s.off && !h.await
  let p := if live then (h.ptr + Config.freeNat (s.free + 7)) % 65536 else h.ptr
  { h with
    await := h.await && Config.freeBool (s.free + 3)
    deaf := h.deaf && Config.freeBool (s.free + 4)
    txn := h.txn && Config.freeBool (s.free + 5)
    nacked := live && Config.freeBool (s.free + 6)
    snap := h.snap.filter (fun x => decide (p / 16 = x.1 / 16))
    ptr := p }

/-- What one Hem tick brings by itself: the count of Hem goes on, and the fabric where it is powered
(R173), another module may have released FAULT_N or lowered a cascade input, a probe burst ends,
the two-wire bus may have carried what no row tells, the time for which a rail has held PG_RAW in
its qualification pauses while the manager does not run, and the manager of a module in DOZE
without work is clock-gated (R239, R245, R336, R420, R467, R468). (DESIGN CHOICE 1, unsafe; DESIGN
CHOICE 28, safe; DESIGN CHOICE 34, safe.) (DESIGN CHOICE 126, safe.) (DESIGN CHOICE 160, safe.) -/
def passTick (s : State) : State :=
  { s with
    free := s.free + 8
    fabric := if s.off then s.fabric else s.fabric + hemTicks s
    fabricFree := s.free + 8
    hem := s.hem.tick
    hp := busTick s
    rails := if s.proto.running then s.rails
      else s.rails.map (fun x => if x.qualifying then { x with pgAt := x.pgAt.map (fun t => t + 1) } else x)
    seam := { s.seam with a := { s.seam.a with burst := false }, b := { s.seam.b with burst := false } }
    dom := { s.dom with
      cycle := false
      fnLow := s.dom.fnLow && (s.dom.fnDrive || Config.freeBool s.free)
      squi := s.dom.squi && Config.freeBool (s.free + 1)
      sqdi := s.dom.sqdi && Config.freeBool (s.free + 2) }
    pwr := { s.pwr with gated := s.pwr.gated || (decide (s.pwr.st = .doze) && s.proto.running && noWork s) }
    clk := if s.pwr.st = .doze ∧ s.pwr.gated = false ∧ s.proto.running = true ∧ noWork s = true then
        setSupply s.clk 720 (-200) .on else s.clk }

/-- A port that is powered down: its link is DOWN, and what it held is lost (R420). -/
def PortSt.unpowered (p : PortSt) : PortSt :=
  { p with link := .down, ver := 0, queue := [], sending := none, powered := false, burst := false, pattern := false, heldWake := [],
           sync := false, verWait := false }

/-- Both ports powered down; leaving UP sets LINK_LOST_A or LINK_LOST_B (R420, R448). -/
def Seam.unpowered (x : Seam) : Seam :=
  { x with
    a := x.a.unpowered, b := x.b.unpowered
    flags := x.flags ||| (if x.a.link = .up then 2 else 0) ||| (if x.b.link = .up then 4 else 0) }

/-- The internal bias goes, and the I/O supply with it: FAULT_N and SCL, open-drain outputs, are released, and the Seam ports are powered
down (R15, R301, R420). -/
def losePower (s : State) : State :=
  { s with
    pwr := { s.pwr with lost := true }, dom := { s.dom with fnDrive := false }, hp := { s.hp with held := false }
    seam := s.seam.unpowered }

/-- The loop of the DPLL is stopped: in HIBERNATE, during entry to it, and without power (R173, R474). -/
def State.loopStopped (s : State) : Bool := s.off || decide (s.pwr.st = .hibernate) || s.pwr.entering

/-- The fabric tick count as a happening reads it: past that of the last Hem tick, never below an earlier reading, and below that of the
next Hem tick; it stands still without power (R102, R173). (DESIGN CHOICE 28, safe.) -/
def fabricNow (s : State) : Nat :=
  if s.off then s.fabric
  else s.fabric + min (fabricPerHem s - 5) ((upto (s.free - s.fabricFree)).map (fun k => Config.freeNat (s.fabricFree + k))).sum

end Sys2Proof.Machine
end

