-- ==== Sys2Proof/Machine/Link.lean ====
section
/-! DEFINITION. Sending on Seam: which frames a link can carry, the port queues and their classes, and the frames the module
originates (R422-R430). -/

namespace Sys2Proof.Machine

/-- FFLAGS bits (R423). -/
def Frame.bcast (f : Frame) : Bool := f.fflags.getLsbD 0
/-- DOMSCOPE (R423). -/
def Frame.domscope (f : Frame) : Bool := f.fflags.getLsbD 1
/-- HOPR (R423). -/
def Frame.hopr (f : Frame) : Bool := f.fflags.getLsbD 2
/-- HPORT (R423): the originator sent the frame on port B. -/
def Frame.hport (f : Frame) : Bool := f.fflags.getLsbD 3
/-- SRC_NONE (R421). -/
def Frame.srcNone (f : Frame) : Bool := f.src.getLsbD 15
/-- The source address, bits 11:0 of SRC (R421). -/
def Frame.srcAddr (f : Frame) : Nat := f.src.toNat % 4096

/-- The bytes of a frame before its CRC-32 (R421). -/
def Frame.body (f : Frame) : List Byte :=
  [byte f.ftype, byte f.fflags.toNat] ++ le16 f.dst ++ le16 f.src.toNat ++ le16 f.payload.length ++ le16 f.rem ++ le16 f.hops ++
    le16 f.domain ++ le16 f.seq ++ f.payload

/-- The bytes of a frame as sent: its CRC-32 is over everything before it, and goes least significant byte first (R421, R424). -/
def Frame.bytes (f : Frame) : List Byte := Frame.body f ++ le32 (crc32 (Frame.body f))

/-- The fields of a frame, from its bytes (R421). -/
def frameAt (b : List Byte) : Frame :=
  { ftype := byteAt b 0 % 16, fflags := BitVec.ofNat 8 (byteAt b 1), dst := fieldAt b 2 2 % 4096, src := BitVec.ofNat 16 (fieldAt b 4 2)
    rem := fieldAt b 8 2 % 4096, hops := fieldAt b 0x0A 2 % 4096, domain := fieldAt b 0x0C 2 % 4096, seq := fieldAt b 0x0E 2
    payload := (b.drop 16).take (fieldAt b 6 2) }

/-- How a frame arrived (R424): whole, with a CRC failure, or failing another check. -/
inductive Arrival where
  | good (f : Frame)
  | badCrc (f : Frame)
  | badForm
  deriving DecidableEq, Repr

/-- The checks of R424 on what a port received. A frame without LEN + 20 bytes has no CRC to fail. -/
def Wire.read (w : Wire) : Arrival :=
  let n := w.bytes.length
  if w.clean = false ∨ n < 20 ∨ 512 < fieldAt w.bytes 6 2 ∨ n ≠ fieldAt w.bytes 6 2 + 20 then .badForm
  else if crc32 (w.bytes.take (n - 4)) ≠ fieldAt w.bytes (n - 4) 4 then .badCrc (frameAt w.bytes)
  else .good (frameAt w.bytes)

/-- Priority class of a frame type; 0 is served first (R422). -/
def classOf (ftype : Nat) (payload : List Byte) : Nat :=
  if ftype = 6 then 0 else if ftype = 7 then 1 else if ftype = 5 then 3
  else if ftype = 4 then (if byteAt payload 0 = 0 then 1 else 2) else 2

/-- A link trained at version 1 carries neither TELEMETRY nor HOPR frames nor payloads above 256 bytes (R425). -/
def PortSt.canCarry (p : PortSt) (f : Frame) : Bool :=
  decide (p.ver ≠ 1) || (decide (f.payload.length ≤ 256) && decide (f.ftype ≠ 5) && !Frame.hopr f)

/-- A frame placed behind every queued frame of its class or a higher one (R430). -/
def queueInsert (q : QFrame) : List QFrame → List QFrame
  | [] => [q]
  | x :: xs => if q.cls < x.cls then q :: x :: xs else x :: queueInsert q xs

/-- A frame given to an UP port: it starts at once on an idle port; a FAULT_ECHO cuts the frame being
sent and goes next; into a full queue a frame of a higher class displaces the newest of the lowest
class present, and any other is dropped. The number is what FWD_DROPS gains (R430). (DEDUCED 82,
unsafe.) -/
def PortSt.put (p : PortSt) (q : QFrame) : PortSt × Nat :=
  match p.sending with
  | none => ({ p with sending := some q }, 0)
  | some _ =>
    if q.cls = 0 then ({ p with sending := some q }, 1)
    else if p.queue.length < 16 then ({ p with queue := queueInsert q p.queue }, 0)
    else
      match p.queue.getLast? with
      | none => (p, 1)
      | some z => if q.cls < z.cls then ({ p with queue := queueInsert q p.queue.dropLast }, 1) else (p, 1)

/-- The frame that a port loses when it is given another: the one cut, displaced or not taken (R430). -/
def PortSt.loses (p : PortSt) (q : QFrame) : Option QFrame :=
  match p.sending with
  | none => none
  | some x =>
    if q.cls = 0 then some x
    else if p.queue.length < 16 then none
    else
      match p.queue.getLast? with
      | none => some q
      | some z => if q.cls < z.cls then some z else some q

/-- Lost frames of this module's own streams have the next frame of the stream carry GAP (R276). (DEDUCED 131, unsafe.) -/
def Seam.markGaps (x : Seam) (fs : List QFrame) : Seam :=
  { x with gaps := fs.foldl (fun g f => match f.stream with
      | some k => g ||| BitVec.ofNat 4 (2 ^ k.val)
      | none => g) x.gaps }

/-- A count that saturates at 65,535 gains `n` (R447). -/
def sat16 (n k : Nat) : Nat := min (n + k) 65535

/-- A frame given to one port. A port whose link is not UP takes none; a frame the link's version cannot carry counts in
V1_DROPS, and on a version 1 link DOMAIN, reserved there, is sent as 0 (R425, R427). -/
def Seam.onPort (x : Seam) (p : Port) (q0 : QFrame) : Seam :=
  let q := if (x.port p).ver = 1 then { q0 with frame := { q0.frame with domain := 0 } } else q0
  if (x.port p).link ≠ .up then x
  else if (x.port p).canCarry q.frame then
    ({ x.modPort p (fun t => (t.put q).1) with fwdDrops := sat16 x.fwdDrops ((x.port p).put q).2 }).markGaps ((x.port p).loses q).toList
  else { x with v1Drops := sat16 x.v1Drops 1 }

/-- A frame the module originates, not hop-routed: on both ports, REM 4,095, HOPS 0, one SEQ (R427,
R428). A module without an address originates none (R426). (DEDUCED 5, unsafe.) -/
def Seam.originate (x : Seam) (ftype : Nat) (fflags : BitVec 8) (dst dom : Nat) (payload : List Byte)
    (reply : Option Nat) (stream : Option (Fin 4)) : Seam :=
  match x.addr with
  | none => x
  | some a =>
    let q : QFrame :=
      { cls := classOf ftype payload, reply := reply, stream := stream
        frame := { ftype := ftype, fflags := fflags, dst := dst, src := BitVec.ofNat 16 a, rem := 4095,
                   hops := 0, domain := dom, seq := x.seq, payload := payload } }
    { (x.onPort .a q).onPort .b q with seq := (x.seq + 1) % 65536 }

/-- A hop-routed reply on the command's arrival port, REM being the command's HOPS; SRC_NONE is set while the module holds no
address (R426, R429). -/
def Seam.originateHop (x : Seam) (p : Port) (rem : Nat) (payload : List Byte) (reply : Nat) : Seam :=
  let q : QFrame :=
    { cls := 2, reply := some reply, stream := none
      frame := { ftype := 2, fflags := if p = .b then 12 else 4, dst := 0
                 src := match x.addr with
                   | none => 0x8000
                   | some a => BitVec.ofNat 16 a
                 rem := rem, hops := 0, domain := 0, seq := x.seq, payload := payload } }
  { x.onPort p q with seq := (x.seq + 1) % 65536 }

/-- MCOUNT of a SYNC frame of the module's own is the count at the instant its first byte leaves (R437). -/
def QFrame.stamped (count : Nat) (q : QFrame) : QFrame :=
  if q.frame.ftype = 4 ∧ byteAt q.frame.payload 0 = 0 ∧ q.frame.hops = 0 then
    { q with frame := { q.frame with payload := q.frame.payload.take 4 ++ leBytes 8 count ++ q.frame.payload.drop 12 } }
  else q

/-- The port serves its next queued frame (R430, R437). -/
def PortSt.serve (count : Nat) (p : PortSt) : PortSt :=
  { p with sending := p.queue.head?.map (QFrame.stamped count), queue := p.queue.tail }

/-- What a port sends of the frame in hand: its bytes, and whether it ends in /T/ alone or, cut off after a CRC failure, with /V/ and /T/
(R421, R424, R427). -/
def PortSt.sent (p : PortSt) : Option Wire := p.sending.map (fun q => { bytes := Frame.bytes q.frame, clean := !q.spoiled })

end Sys2Proof.Machine
end

