-- ==== Sys2Proof/Machine/Router.lean ====
section
/-! DEFINITION. The event router: pending bits by sensing mode, claims, presentation and moderation, notices over Seam and
wakes (R451-R465). -/

namespace Sys2Proof.Machine

/-- Event numbers that have a line (R451). -/
def eventExists (e : Nat) : Bool :=
  decide (e ≤ 455) || (decide (464 ≤ e) && decide (e ≤ 475)) || (decide (480 ≤ e) && decide (e ≤ 485)) ||
    (decide (496 ≤ e) && decide (e ≤ 498)) || (decide (512 ≤ e) && decide (e ≤ 519)) ||
    (decide (528 ≤ e) && decide (e ≤ 531)) || (decide (544 ≤ e) && decide (e ≤ 552)) ||
    (decide (560 ≤ e) && decide (e ≤ 574))

/-- An event number as an index of the router. -/
def evt (e : Nat) : Fin 1024 := Fin.ofNat 1024 e

/-- Event `e` is claimable on channel `c` (R457). -/
def Router.claimable (x : Router) (c : Nat) (e : Fin 1024) : Bool :=
  x.ev[e].enable && x.ev[e].pending && natBit x.ev[e].mask c && x.ev[e].claim.isNone && !x.soak

/-- The lowest event claimable on a channel (R458). -/
def Router.lowest (x : Router) (c : Nat) : Option (Fin 1024) := (List.finRange 1024).find? (x.claimable c)

/-- A channel is idle while no event is claimable on it and no claim of it awaits EVENT_DONE (R462). -/
def Router.idleCh (x : Router) (c : Nat) : Bool :=
  (x.lowest c).isNone && (List.finRange 1024).all (fun e => decide (x.ev[e].claim ≠ some c))

/-- What channel `c` presents after a change of the router, and the event whose presentation starts (R457, R462). -/
def settleCh (old new : Router) (c : Fin 4) : Chan × Option (Fin 1024) :=
  match new.lowest c.val with
  | none => ({ new.ch[c] with presenting := false }, none)
  | some e =>
    if new.ch[c].presenting then (new.ch[c], none)
    else if old.idleCh c.val || !new.ch[c].timing then
      ({ new.ch[c] with presenting := true, timing := decide (new.ch[c].minInt ≠ 0) }, some e)
    else (new.ch[c], none)

/-- The EVENT frame of a presentation start, when the channel has a subscriber: whom it tells, and its payload (R463). -/
def notice (start : Chan × Option (Fin 1024)) (c : Nat) (rtc : List Byte) : List (Nat × List Byte) :=
  match start.2, start.1.sub with
  | some e, some a => [(a, le16 e.val ++ [byte c, 0] ++ rtc)]
  | _, _ => []

/-- EVENT frames sent to their subscribers (R463). -/
def Seam.notify (x : Seam) (ns : List (Nat × List Byte)) : Seam := ns.foldl (fun y n => y.originate 3 0 n.1 0 n.2 none none) x

/-- The manager runs, and sends the module's own frames (R463, R467). -/
def sendsNotices (s : State) : Bool := s.proto.running && decide (s.pwr.st ≠ .hibernate)

/-- The router changed, with the channels presenting anew what has become claimable; an EVENT frame waits while the manager restarts (R457, R462, R463). -/
def settle (s : State) (new : Router) : State :=
  let c0 := settleCh s.router new 0
  let c1 := settleCh s.router new 1
  let c2 := settleCh s.router new 2
  let c3 := settleCh s.router new 3
  let ns := notice c0 0 s.hem.rtc ++ notice c1 1 s.hem.rtc ++ notice c2 2 s.hem.rtc ++ notice c3 3 s.hem.rtc
  { s with
    router := { new with
      ch := #v[c0.1, c1.1, c2.1, c3.1]
      notices := if sendsNotices s then new.notices else new.notices ++ ns.map (fun n => (n.1, n.2, s.hem.ticks)) }
    seam := if sendsNotices s then s.seam.notify ns else s.seam }

/-- The EVENT frames that waited are sent once the manager runs; those not sent within 1 ms of their start are discarded. A Hem tick
counts 30.5 µs, and whether one of 32 or 33 ticks is within 1 ms is free (R463). (DESIGN CHOICE 148, safe.) -/
def sendWaitingNotices (s : State) : State :=
  let fresh (n : Nat × List Byte × Nat) : Bool :=
    decide (s.hem.ticks ≤ n.2.2 + 31) || (decide (s.hem.ticks ≤ n.2.2 + 33) && Config.freeBool s.free)
  { s with
    free := s.free + 1
    router := { s.router with notices := [] }
    seam := s.seam.notify ((s.router.notices.filter fresh).map (fun n => (n.1, n.2.1))) }

/-- A wake is requested: in HIBERNATE, or during its entry, it waits for HIBERNATE_EXIT; in DOZE it
resumes the manager; in SHIP only R327 wakes (R464, R475). (DEDUCED 78, unsafe.) -/
def wakeReq (src : WakeSource) (s : State) : State :=
  if s.off then s else
  { s with
    pwr := { s.pwr with
      wake := if (s.pwr.st = .hibernate ∨ s.pwr.entering) ∧ s.pwr.wake = none then some src else s.pwr.wake
      gated := s.pwr.gated && decide (s.pwr.st ≠ .doze) }
    clk := if s.pwr.gated ∧ s.pwr.st = .doze then setSupply s.clk 720 100 .on else s.clk }

/-- The wake an event requests when its pending bit becomes set outside RUN (R464). -/
def eventWake (e : Fin 1024) (was : Bool) (s : State) : State :=
  if h : e.val < 1023 then
    if s.router.ev[e].pending ∧ ¬ was ∧ (s.pwr.st ≠ .run ∨ s.pwr.entering) then wakeReq (.event ⟨e.val, h⟩) s else s
  else s

/-- A pulse at an event: it sets the pending bit once in every mode, or, while the event is claimed, the rearm mark unless the
mode is level (R453, R454). -/
def Ev.pulse (x : Ev) : Ev :=
  if !x.enable then x
  else if x.claim.isNone then { x with pending := true }
  else if x.sensing = 1 then x else { x with rearm := true }

/-- A line's new level is an edge that the sensing mode counts (R453). -/
def Ev.edge (x : Ev) (b : Bool) : Bool :=
  match x.sensing with
  | 0 => b && !x.level
  | 2 => !b && x.level
  | 3 => b != x.level
  | _ => false

/-- A line's new level at an event (R453, R454). -/
def Ev.line (x : Ev) (b : Bool) : Ev :=
  if !x.enable then { x with level := b }
  else if x.claim.isNone then { x with level := b, pending := x.pending || x.edge b || (decide (x.sensing = 1) && b) }
  else { x with level := b, rearm := x.rearm || x.edge b }

/-- A line can rise: in HIBERNATE only those R475 names; without power, in SHIP and after a loss of
supply, none (R467, R479). (DEDUCED 57, unsafe.) -/
def lineLive (s : State) (e : Nat) : Bool :=
  !s.pwr.lost &&
    match s.pwr.st with
    | .ship => false
    | .hibernate => [450, 466, 484, 496, 497, 498, 512, 513, 514, 515, 516, 517, 518, 519, 528, 529, 569].contains e
    | _ => true

/-- The flag REARMED after an edge that a claimed event has counted, and its line, event 574, where that can rise (R454, R475). -/
def Router.noteRearm (counted live : Bool) (new : Router) : Router :=
  if counted && !new.rearmed then
    { new with rearmed := true, ev := if live then upd new.ev 574 (new.ev[574].line true) else new.ev }
  else new

/-- An event changed at its line or by a command, with the edges it counts, seen through the router. -/
def evChange (f : Ev → Ev) (counts : Ev → Bool) (e : Fin 1024) (s : State) : State :=
  let x := s.router.ev[e]
  eventWake 574 s.router.ev[574].pending
    (eventWake e x.pending
      (settle s (Router.noteRearm (x.enable && x.claim.isSome && counts x) (lineLive s 574)
        { s.router with ev := upd s.router.ev e (f x) })))

/-- A pulse line goes high for one fabric tick (R451). An event that is not enabled takes nothing
(R453). (DEDUCED 57, unsafe.) -/
def pulse (e : Fin 1024) (s : State) : State :=
  if s.router.ev[e].enable && lineLive s e.val then evChange Ev.pulse (fun x => decide (x.sensing ≠ 1)) e s else s

/-- A condition line takes the level of its flag (R451); one that cannot rise stays as it stands
(R475). (DEDUCED 57, unsafe.) (DEDUCED 159, unsafe.) -/
def setLine (e : Fin 1024) (b : Bool) (s : State) : State :=
  if lineLive s e.val = false then s
  else if s.router.ev[e].enable then evChange (fun x => x.line b) (fun x => x.edge b) e s
  else { s with router := { s.router with ev := upd s.router.ev e { s.router.ev[e] with level := b } } }

/-- The lines that follow a flag and cannot rise in HIBERNATE, with the levels of their flags (R451, R475). -/
def heldLines (s : State) : List (Nat × Bool) :=
  (List.finRange 48).flatMap (fun r => [(256 + 4 * r.val, s.rails[r].prot.ovTrip), (257 + 4 * r.val, s.rails[r].prot.uvTrip)]) ++
    [(467, s.clk.spurViol), (480, s.therm.rise), (481, s.therm.junc), (482, s.therm.throttling), (485, decide (s.therm.dieBad ≠ 0)),
      (572, s.router.spurious), (573, s.router.doneIgnored), (574, s.router.rearmed)]

/-- At the wake, every line that stood while it could not rise takes the level of its flag (R453, R475). (DEDUCED 159, unsafe.) -/
def releaseLines (s : State) : State :=
  (heldLines s).foldl (fun t x => if t.router.ev[evt x.1].level = x.2 then t else setLine (evt x.1) x.2 t) s

/-- A pulse when a condition holds. (DEDUCED 83, safe.) -/
def pulseIf (c : Bool) (e : Fin 1024) (s : State) : State := if c then pulse e s else s

/-- ALERTn_N is driven low (R413). -/
def State.alertLow (s : State) (c : Fin 4) : Bool :=
  (s.router.ch[c].presenting || (decide (s.hp.ctl % 8 = c.val) && decide (s.hp.st = .replyReady))) &&
    decide (s.pwr.st ≠ .ship) && !s.pwr.lost

end Sys2Proof.Machine
end

