-- ==== Sys2Proof/Machine/Flags.lean ====
section
/-! DEFINITION. Every flag word of the spec, formed from the state, with the codes of its states; and the setting of W1C bits with
the events they raise (R25, R62-R65, R98, R135, R169, R199, R221, R259, R297, R329, R356, R388, R448, R477, R505, R521). -/

namespace Sys2Proof.Machine

/-! ## Codes -/

/-- R35. -/
def CellSt.code : CellSt → Nat
  | .off => 0 | .armed => 1 | .switching => 2 | .shed => 3 | .isolated => 4 | .retired => 5
/-- R65. -/
def Role.code : Role → Nat
  | .none => 0 | .leader => 1 | .follower => 2 | .spare => 3
/-- R99. -/
def RailSt.code : RailSt → Nat
  | .off => 0 | .starting => 1 | .regulating => 2 | .slewing => 3 | .stopping => 4 | .latchedOff => 5
/-- R227. -/
def DomSt.code : DomSt → Nat
  | .down => 0 | .rising => 1 | .up => 2 | .falling => 3 | .latched => 4
/-- R174. -/
def TbSt.code : TbSt → Nat
  | .free => 0 | .pullIn => 1 | .locked => 2 | .slide => 3 | .holdover => 4 | .coast => 5
/-- R175. -/
def RefSt.code : RefSt → Nat
  | .absent => 0 | .qualifying => 1 | .qualified => 2
/-- R159. -/
def CreaseSt.code : CreaseSt → Nat
  | .disabled => 0 | .acquiring => 1 | .learning => 2 | .frozen => 3 | .fading => 4
/-- R92. -/
def ProbeSt.code : ProbeSt → Nat
  | .noResult => 0 | .running => 1 | .complete => 2 | .aborted => 3
/-- R303. -/
def HoldSt.code : HoldSt → Nat
  | .off => 0 | .onVin => 1 | .onPack => 2 | .retry => 3 | .lost => 4
/-- R314. -/
def ChgPh.code : ChgPh → Nat
  | .idle => 0 | .qualify => 1 | .precharge => 2 | .fast => 3 | .topoff => 4 | .maintain => 5 | .suspended => 6 | .fault => 7
/-- R340. -/
def DiscSt.code : DiscSt → Nat
  | .off => 0 | .acquire => 1 | .tracking => 2 | .holdover => 3
/-- R351. -/
def WdogSt.code : WdogSt → Nat
  | .disabled => 0 | .first => 1 | .closed => 2 | .opened => 3 | .pulse => 4
/-- R380. -/
def CfgSt.code : CfgSt → Nat
  | .empty => 0 | .loading => 1 | .applying => 2 | .applied => 3 | .abandoned => 4
/-- R402. -/
def HpSt.code : HpSt → Nat
  | .idle => 0 | .busy => 1 | .replyReady => 2
/-- R419. -/
def LinkSt.code : LinkSt → Nat
  | .down => 0 | .training => 1 | .up => 2 | .faulty => 3
/-- R443. -/
def AgreeSt.code : AgreeSt → Nat
  | .alone => 0 | .gathering => 1 | .agreed => 2 | .disagree => 3
/-- R466. -/
def PwrSt.code : PwrSt → Nat
  | .run => 0 | .doze => 1 | .hibernate => 2 | .ship => 3 | .safeHold => 4
/-- R509. -/
def BankSt.code : BankSt → Nat
  | .empty => 0 | .staged => 1 | .verifying => 2 | .verified => 3 | .rejected => 4 | .trial => 5 | .active => 6
/-- R308. -/
def chgSourceCode : ChgSource → Nat
  | .none => 0 | .vin => 1 | .auxin => 2 | .seam => 3
/-- R194, R198. -/
def MgrLevel.code : MgrLevel → Nat
  | .l0 => 0 | .l1 => 1 | .l2 => 2 | .coast => 3

/-! ## Words -/

/-- The land status word (R25). -/
def Land.word (l : Land) : Nat :=
  l.flags.toNat + b2n l.auxRange * 2 ^ 21 + b2n l.bthShort * 2 ^ 20 + b2n l.bthOpen * 2 ^ 19 +
    l.strapExt.toNat * 2 ^ 11 + l.strap.toNat * 2 ^ 8 + l.twiAddr % 128

/-- STATE_WORD (R62). -/
def Cell.stateWord (c : Cell) : Nat :=
  c.st.code * 2 ^ 13 + b2n c.isoSw * 2 ^ 12 + b2n c.diodeEm * 2 ^ 11 + b2n c.minOn * 2 ^ 10 + b2n c.senseLocal * 2 ^ 9 +
    c.isoCause.toNat

/-- MEMBERSHIP (R65). -/
def Cell.membership (c : Cell) : Nat := if c.role = .none then 0 else c.role.code * 64 + c.rail % 64

/-- The 16-byte status block (R61). -/
def Cell.block (c : Cell) : List Byte :=
  le16 c.stateWord ++ le16 (toCode 16 c.current) ++ le16 c.temp.toNat ++ le16 c.onTime ++
    [byte c.pkLim, byte c.ramp, byte c.peakTrips, byte c.busErrs] ++ le16 c.flags.toNat ++ [byte c.membership, byte c.errSats]

/-- CLK_FLAGS (R199). -/
def Clk.word (c : Clk) : Nat :=
  c.flags.toNat + b2n c.spurViol * 2 ^ 8 + b2n c.xoBad * 8 + b2n c.offValid * 4 + b2n (decide (c.soMode ≠ 0)) * 2 +
    b2n c.offPreset

/-- A restart is pending: the module remembered RISING or UP, VIN_RESTART is set, and a module that
goes up by its enable pin alone sees it high (R244). (DESIGN CHOICE 155, unsafe.) -/
def Dom.restartPending (d : Dom) : Bool := d.restartDue && d.vinRestart && (decide (d.upSrc ≠ 1) || d.en.getLsbD d.enPin.val)

/-- SEQ_FLAGS (R259). -/
def Dom.word (d : Dom) : Nat :=
  d.flags.toNat + b2n d.restartPending * 2 ^ 11 + b2n d.fnDrive * 2 ^ 10 + b2n d.fnLow * 2 ^ 9 + b2n d.latchPend * 2 ^ 8

/-- THERM_FLAGS (R297). -/
def Therm.word (t : Therm) : Nat :=
  t.flags.toNat + b2n t.tsdNow * 64 + b2n (decide (t.dieBad ≠ 0)) * 16 + b2n t.throttling * 8 + b2n t.rise * 4 +
    b2n t.junc * 2 + b2n t.fast

/-- AUXID_FAULT: AUXIN present with code 0 or 7 (R309, R329). -/
def Chg.auxidFault (c : Chg) : Bool := c.auxPresent && (decide (c.auxId = 0) || decide (c.auxId = 7))

/-- TEMP_REDUCED: a reduced window is in force in a phase to which the windows apply (R320, R329). -/
def Chg.reduced (c : Chg) : Bool :=
  (decide (c.ph = .precharge) || decide (c.ph = .fast) || decide (c.ph = .topoff) || decide (c.ph = .maintain)) &&
    ((c.redLo && !c.suspLo) || (c.redHi && !c.suspHi))

/-- PWR_FLAGS (R329). -/
def Chg.word (c : Chg) : Nat :=
  c.flags.toNat + b2n c.shipArmed * 2 ^ 10 + b2n c.auxidFault * 2 ^ 9 + b2n c.inLim * 2 ^ 8 +
    b2n c.reduced * 128 + b2n (decide (c.hold = .onPack)) * 64 + b2n c.exhausted * 32

/-- VIN is usable: it has last risen above 8.6 V, has not since fallen below 8.0 V, is not above 16.5 V,
  and TSD_NOW is clear (R303). It counts as above until a row says that it has come back. (DEDUCED 137, safe.) -/
def vinUsable (s : State) : Bool := !s.land.vinLow && !s.land.vinOver && !s.therm.tsdNow

/-- The pack feeds its pre-regulator with more than 3.5 V: surely not while PSW is open or the pack is away, surely while a usable pack's
cells lie above a VCUT that adds up to more; between, the voltage is not held (R303, R326, R333). -/
def packFeedsHem (s : State) : Option Bool :=
  if s.chg.psw = false ∨ s.land.bthOpen then some false
  else if s.chg.nCells ≠ 0 ∧ s.chg.packGood ∧ s.chg.exhausted = false ∧ 3500 < s.chg.vcutMv * s.chg.nCells then some true
  else none

/-- HEM_SRC (R333): the first of VIN above 4.5 V, a port with more than 8.0 V, and the pack that the OR finds, else the hold-up cell.
VIN between 4.5 V and 8.0 V, a port's voltage below its charge range and a pack's unread voltage are not held: whether such a source
feeds is free. (DESIGN CHOICE 29, safe.) -/
def hemSrc (s : State) : Nat :=
  let f := Config.freeNat s.free
  if s.land.vinLow = false ∨ natBit f 0 then 3
  else if s.chg.phantomIn.1 ∨ s.chg.phantomIn.2 ∨ natBit f 1 then 2
  else if (packFeedsHem s).getD (natBit f 2) then 1
  else 0

/-- HEM_FLAGS (R356). -/
def hemWord (s : State) : Nat :=
  hemSrc s * 2 ^ 9 + b2n s.hem.holdupLow * 2 ^ 8 + s.hem.flags.toNat + b2n s.hem.bkpBad * 4 + b2n s.hem.suspect

/-- GLOB_FLAGS (R388). -/
def globWord (s : State) : Nat :=
  s.proto.flags.toNat + b2n s.proto.fromFuse * 32 + b2n s.proto.inForce.isNone * 16 + b2n (decide (s.pwr.st = .safeHold)) * 8

/-- RING_CLOSED: the own ANNOUNCE has returned on both ports within the last 300 ms, 9,830 Hem ticks (R432). -/
def ringClosed (s : State) : Bool :=
  match s.seam.a.ownBack, s.seam.b.ownBack with
  | some x, some y => decide (s.hem.ticks ≤ x + 9830) && decide (s.hem.ticks ≤ y + 9830)
  | _, _ => false

/-- TIME_AGREED (R439). -/
def timeAgreed (s : State) : Bool :=
  decide (s.seam.agree = .alone) || (s.seam.addr.isSome && decide (s.seam.master = s.seam.addr)) ||
    (match s.seam.lastSync with
      | some t => decide (s.hem.ticks ≤ t + 3 * oneSecond) && decide (-2 ≤ s.seam.ofs) && decide (s.seam.ofs ≤ 2)
      | none => false)

/-- IS_MASTER (R440, R448). -/
def isMaster (s : State) : Bool := s.seam.addr.isSome && decide (s.seam.master = s.seam.addr)

/-- SEAM_FLAGS (R448). -/
def seamWord (s : State) : Nat :=
  b2n (isMaster s) * 2 ^ 13 + b2n s.seam.subst * 2 ^ 12 + b2n (timeAgreed s) * 2 ^ 11 + b2n (ringClosed s) * 2 ^ 10 +
    s.seam.flags.toNat + b2n s.seam.addr.isNone

/-- CR_FLAGS (R169). -/
def Crease.word (c : Crease) : Nat :=
  b2n c.periodChanged * 16 + b2n c.binShort * 8 + b2n c.tableKept * 4 + b2n c.rephased * 2 + b2n c.faded

/-- REG_FLAGS (R135). -/
def Rail.regFlags (r : Rail) : Nat :=
  b2n r.sp.startFail * 16 + b2n r.sp.selEmpty * 8 + b2n r.loop.clamped * 4 + b2n r.loop.dem * 2 + b2n r.sp.pinBound

/-- PROT_FLAGS (R221). -/
def Rail.protFlags (r : Rail) : Nat :=
  b2n r.prot.negLimiting * 512 + b2n r.prot.limiting * 256 + b2n r.prot.supXchk * 128 + b2n r.prot.thrFailUv * 64 +
    b2n r.prot.thrFailOv * 32 + b2n r.prot.autoClr * 16 + b2n r.prot.uvTrip * 8 + b2n r.prot.ovTrip * 4 +
    b2n r.prot.uvNow * 2 + b2n r.prot.ovNow

/-! ## Flags set, with their events -/

/-- Bits of the land status word set; event 569 when one was 0 (R25, R451). -/
def landSet (m : BitVec 32) (s : State) : State :=
  pulseIf (decide (m &&& ~~~ s.land.flags ≠ 0)) 569 { s with land := { s.land with flags := s.land.flags ||| m } }

/-- Bits of SEQ_FLAGS set; event 453 (R259, R451). -/
def seqSet (m : BitVec 16) (s : State) : State :=
  pulseIf (decide (m &&& ~~~ s.dom.flags ≠ 0)) 453 { s with dom := { s.dom with flags := s.dom.flags ||| m } }

/-- Bits of CLK_FLAGS set; event 466 (R177, R451). -/
def clkSet (m : BitVec 16) (s : State) : State :=
  pulseIf (decide (m &&& ~~~ s.clk.flags ≠ 0)) 466 { s with clk := { s.clk with flags := s.clk.flags ||| m } }

/-- Bits of PWR_FLAGS set; event 498 (R329, R451). -/
def pwrSet (m : BitVec 16) (s : State) : State :=
  pulseIf (decide (m &&& ~~~ s.chg.flags ≠ 0)) 498 { s with chg := { s.chg with flags := s.chg.flags ||| m } }

/-- CAL_WRAP, PPS_STEPPED, ALM_JUMP or HEM_POR set; event 519 (R356, R451). -/
def hemSet (m : BitVec 16) (s : State) : State :=
  pulseIf (decide (m &&& ~~~ s.hem.flags ≠ 0)) 519 { s with hem := { s.hem with flags := s.hem.flags ||| m } }

/-- Bits of HP_FLAGS set; event 570 (R403, R451). -/
def hpSet (m : BitVec 16) (s : State) : State :=
  pulseIf (decide (m &&& ~~~ s.hp.flags ≠ 0)) 570 { s with hp := { s.hp with flags := s.hp.flags ||| m } }

/-- Bits of SEAM_FLAGS other than DISAGREE_SEEN set; event 531 (R448, R451). -/
def seamSet (m : BitVec 16) (s : State) : State :=
  pulseIf (decide (m &&& ~~~ s.seam.flags ≠ 0)) 531 { s with seam := { s.seam with flags := s.seam.flags ||| m } }

/-- PROG_FAIL or MARGINAL_SEEN of FUSE_FLAGS set; event 568 for a row, 567 for a region (R505). -/
def fuseSet (m : BitVec 16) (s : State) : State :=
  pulseIf (decide (m &&& ~~~ s.fuse.flags ≠ 0)) 568 { s with fuse := { s.fuse with flags := s.fuse.flags ||| m } }

/-- Bits of FW_FLAGS set (R521). -/
def fwSet (m : BitVec 16) (s : State) : State := { s with fw := { s.fw with flags := s.fw.flags ||| m } }

/-- Bits of GLOB_FLAGS set (R388). -/
def globSet (m : BitVec 16) (s : State) : State := { s with proto := { s.proto with flags := s.proto.flags ||| m } }

/-- Bits of PS_FLAGS set (R477). -/
def psSet (m : BitVec 16) (s : State) : State := { s with pwr := { s.pwr with flags := s.pwr.flags ||| m } }

/-- Bits of THERM_FLAGS set (R297). -/
def thermSet (m : BitVec 16) (s : State) : State := { s with therm := { s.therm with flags := s.therm.flags ||| m } }

/-- ALM0 or ALM1 set, with the line of event 512 or 513 (R345, R451). -/
def almSet (k : Fin 2) (s : State) : State :=
  setLine (if k = 0 then 512 else 513) true
    { s with hem := { s.hem with flags := s.hem.flags ||| (if k = 0 then 0x8 else 0x10) } }

end Sys2Proof.Machine
end

