-- ==== Sys2Proof/Machine/Members.lean ====
section
/-! DEFINITION. Cells, rails and map entries by number; members, succession order and the states in which cells and rails serve (R73, R97). -/

namespace Sys2Proof.Machine

/-! ## Members and succession -/

/-- The cells of a MEMBERS map, in ascending order. -/
def cellsOf (m : BitVec 256) : List Nat := (upto 256).filter (fun n => m.getLsbD n)

/-- MEMBER_N (R70). -/
def memberN (m : BitVec 256) : Nat := (cellsOf m).length

/-- A cell by its number. -/
def State.cell (s : State) (n : Nat) : Cell := s.cells[fin256 n]

/-- A rail by its number. -/
def State.rail (s : State) (n : Nat) : Rail := s.rails[fin48 n]

/-- The active map entry of a rail. -/
def State.entry (s : State) (n : Nat) : MapEntry := s.map.active[fin48 n]

/-- The members of a rail in the active map as a set; an entry that is not VALID is ignored (R70). -/
def State.memberSet (s : State) (r : Nat) : BitVec 256 := if (s.entry r).valid then (s.entry r).members else 0

/-- The members of a rail in the active map. -/
def State.members (s : State) (r : Nat) : List Nat := cellsOf (s.memberSet r)

/-- A cell is neither ISOLATED nor RETIRED. -/
def Cell.healthy (c : Cell) : Bool := decide (c.st ≠ .isolated) && decide (c.st ≠ .retired)

/-- HEALTHY: members neither ISOLATED nor RETIRED (R97). -/
def State.healthyN (s : State) (r : Nat) : Nat := ((s.members r).filter (fun n => (s.cell n).healthy)).length

/-- Members that can serve in the rail's present start or run: healthy, and holding a role (R75, R116). -/
def State.servingN (s : State) (r : Nat) : Nat :=
  ((s.members r).filter (fun n => (s.cell n).healthy && decide ((s.cell n).role ≠ .none))).length

/-- Cells in succession order from a cell: ascending, wrapping from 255 to 0 (R73). -/
def succession (lead : Nat) (ms : List Nat) : List Nat := ms.filter (fun n => lead ≤ n) ++ ms.filter (fun n => n < lead)

/-- Cell `a` precedes cell `b` in succession order counted from `from_` (R78). -/
def precedes (from_ a b : Nat) : Bool := decide ((a + 256 - from_) % 256 < (b + 256 - from_) % 256)

/-- A rail state in which the rail runs: neither OFF nor LATCHED_OFF. -/
def RailSt.runs (x : RailSt) : Bool := decide (x ≠ .off) && decide (x ≠ .latchedOff)

/-- REGULATING or SLEWING. -/
def RailSt.regulates (x : RailSt) : Bool := decide (x = .regulating) || decide (x = .slewing)

/-- A cell state in which the cell serves: ARMED, SWITCHING or SHED. -/
def CellSt.serves (x : CellSt) : Bool := decide (x = .armed) || decide (x = .switching) || decide (x = .shed)

/-- The internal input-undervoltage signal: VIN below 8.0 V, or the hardware thermal shutdown (R21,
R293). (DEDUCED 60, unsafe.) -/
def State.undervolt (s : State) : Bool := s.land.vinLow || s.therm.tsdNow

/-- A rail is switching: it has been released, and one of its members switches (R184, R268). -/
def railSwitching (s : State) (r : Nat) : Bool :=
  (s.rail r).released && (s.members r).any (fun n => decide ((s.cell n).st = .switching))

/-- Every rail is OFF or LATCHED_OFF. -/
def allRailsOff (s : State) : Bool := (upto 48).all (fun r => !(s.rail r).st.runs)

/-- The lowest-numbered rail that is neither OFF nor LATCHED_OFF. -/
def lowestRunning (s : State) : Option Nat := (upto 48).find? (fun r => (s.rail r).st.runs)

/-- Every cell is OFF, ISOLATED or RETIRED (R239, R261). -/
def allCellsOff (s : State) : Bool := (upto 256).all (fun n => !(s.cell n).st.serves)

/-- A rail's sequence slot in force that is USED and names it, lowest first (R231, R257). -/
def slotOf (s : State) (r : Nat) : Option Nat :=
  (upto 16).find? (fun k => s.dom.slotsNow[Fin.ofNat 16 k].used && natBit s.dom.slotsNow[Fin.ofNat 16 k].rails r)

/-- The newest held result of a telemetry channel: value, STAMP, RES_FLAGS and source (R282). -/
def holdAt (ch : Nat) (value : Int) (stamp flags src : Nat) (t : Tlm) : Tlm :=
  { t with held := (ch, value, stamp, flags, src) :: t.held.filter (fun x => decide (x.1 ≠ ch)) }

/-! ## Telemetry channels and triggers (R263, R264, R269) -/

/-- A derived channel: it occupies no converter (R263). -/
def derivedChannel (ch : Nat) : Bool :=
  (decide (0xE0 ≤ ch) && decide (ch ≤ 0xEF)) || (decide (0x200 ≤ ch) && decide (ch ≤ 0x22F)) || decide (0x300 ≤ ch)

/-- A reserved channel, whose conversion is of the converter's own ground (R263). -/
def reservedChannel (ch : Nat) : Bool :=
  (decide (0xD1 ≤ ch) && decide (ch ≤ 0xDF)) || (decide (0xF0 ≤ ch) && decide (ch ≤ 0xFF)) ||
    (decide (0x230 ≤ ch) && decide (ch ≤ 0x2FF))

/-- A converted value held within its channel's 16-bit span; the flag says that it lay outside (R263,
R264). (PRESUMED 46, safe.) -/
def spanOf (ch : Nat) (v : Int) : Int × Bool :=
  if derivedChannel ch then (v, false)
  else if reservedChannel ch then (0, false)
  else
    let c := if 0xCC ≤ ch ∧ ch ≤ 0xCE then clampInt (-32768) 32767 v else clampInt 0 65535 v
    (c, decide (c ≠ v))

/-- A system request's result is held now, within its channel's span (R264, R272, R282). -/
def holdSystem (ch : Nat) (value : Int) (s : State) : State :=
  bump { s with tlm := holdAt ch (spanOf ch value).1 (fabricNow s % 2 ^ 32) (b2n (spanOf ch value).2) 0xFE s.tlm }

/-! ## The measurement service's queue (R284) -/

/-- The priority of a request: that of its first requester (R284). -/
def TempReq.rank (x : TempReq) : Nat := if x.sched then 0 else if x.chg then 1 else 2

/-- The request served next among those that may be: the first of the highest priority. -/
def nextTemp (ok : TempReq → Bool) : List TempReq → Option TempReq
  | [] => none
  | x :: xs =>
    match nextTemp ok xs with
    | some y => if ok x && decide (x.rank ≤ y.rank) then some x else some y
    | none => if ok x then some x else none

/-- That request served. -/
def serveTemp (ok : TempReq → Bool) (q : List TempReq) : List TempReq :=
  match nextTemp ok q with
  | some x => q.map (fun y => if y.code = x.code then { y with served := true } else y)
  | none => q

/-- A temperature reading in progress occupies the system converter `k` (R272, R283). -/
def tempOn (k : Nat) (q : List TempReq) : Bool := q.any (fun x => x.served && decide (0x100 ≤ x.code) && decide (x.conv = k))

/-- Requests are served: one at a time on the system converter that each was made for, once no host run occupies it, and up to 16 cells
at once (R272, R283, R284). (DESIGN CHOICE 55, safe.) -/
def serveTemps (s : State) : State :=
  let q := s.therm.queue
  let q1 := (List.finRange 4).foldl (fun a k =>
    if tempOn k.val a ∨ s.tlm.busy[k].isSome then a
    else serveTemp (fun x => !x.served && decide (0x100 ≤ x.code) && decide (x.conv = k.val)) a) q
  let room := 16 - (q1.filter (fun x => x.served && decide (x.code < 0x100))).length
  let q2 := (upto room).foldl (fun a _ => serveTemp (fun x => !x.served && decide (x.code < 0x100)) a) q1
  { s with therm := { s.therm with queue := q2 } }

/-- 32 requests wait, those being read not counted (R284). (DESIGN CHOICE 55, safe.) -/
def tempsFull (q : List TempReq) : Bool := decide (32 ≤ (q.filter (fun x => !x.served)).length)

/-- A temperature request joins the reading of its target that is pending, or the queue of 32; it is for the system converter of now
(R272, R284). (DESIGN CHOICE 55, safe.) -/
def joinTemp (r : TempReq) (s : State) : State :=
  let q := s.therm.queue
  let q' :=
    if q.any (fun x => decide (x.code = r.code)) then
      q.map (fun x => if x.code = r.code then { x with sched := x.sched || r.sched, chg := x.chg || r.chg, host := x.host || r.host } else x)
    else if tempsFull q then q else q ++ [{ r with conv := s.tlm.sysConv }]
  { s with therm := { s.therm with queue := q' } }

/-- A temperature request made now (R284). (DESIGN CHOICE 55, safe.) -/
def requestTemp (r : TempReq) (s : State) : State := serveTemps (joinTemp r s)

/-- DECIM as it acts: 0 acts as 256 (R265). -/
def TSeq.decimN (x : TSeq) : Nat := if x.decim = 0 then 256 else x.decim

/-- TRIG_KIND as it acts: 4-255 act as 0 (R265). -/
def TSeq.kindN (x : TSeq) : Nat := if x.kind ≤ 3 then x.kind else 0

/-- One sequence changed. -/
def modSeq (q : Fin 8) (f : TSeq → TSeq) (s : State) : State :=
  { s with tlm := { s.tlm with seqs := upd s.tlm.seqs q (f s.tlm.seqs[q]) } }

/-- A count of R279 gained one: event 552 when it leaves 0 (R271). -/
def countEvent (before : Nat) (s : State) : State := pulseIf (decide (before = 0)) 552 s

/-- A trigger of a running sequence at a fabric tick count: every DECIM-th is due DELAY later, and is an overrun while a run is delayed,
waiting or converting; a command-triggered sequence whose run is discarded returns to STOPPED (R269, R270). (DEDUCED 44, unsafe.) -/
def trigger (q : Fin 8) (tick : Nat) (s : State) : State :=
  let x := s.tlm.seqs[q]
  if x.running = false then s
  else
    let s1 := modSeq q (fun y => { y with dec := (y.dec + 1) % y.decimN }) s
    if x.dec ≠ 0 then s1
    else if x.delayed || x.waiting || x.converting then
      countEvent x.overruns (modSeq q (fun y => { y with overruns := satInc 65535 y.overruns, running := decide (y.kindN ≠ 0) }) s1)
    else modSeq q (fun y => { y with delayed := true, dueAt := tick + y.delay }) s1

/-- A frame start of a crease context, predicted or not, triggers the sequences that name it (R268). -/
def frameTrigger (c tick : Nat) (s : State) : State :=
  (List.finRange 8).foldl (fun t q => if t.tlm.seqs[q].kindN = 3 ∧ t.tlm.seqs[q].trig = c then trigger q tick t else t) s

end Sys2Proof.Machine
end

