-- ==== Sys2Proof/Machine/Bus.lean ====
section
/-! DEFINITION. The rail bus: the form of its messages (R56, R57), raising them, and their latching at a cell with the outcome of the
error correction (R58, R60). -/

namespace Sys2Proof.Machine

/-! ## The message word -/

/-- TYPE (R57). -/
def MsgType.code : MsgType → Nat
  | .heartbeat => 0 | .shadow => 1 | .duty => 2 | .current => 3 | .statusRd => 4 | .statusReply => 5 | .configWr => 6
  | .isolate => 7 | .reference => 8 | .arm => 9

/-- The type a TYPE field names; 0xA-0xF are reserved (R57). -/
def MsgType.ofCode : Nat → Option MsgType
  | 0 => some .heartbeat | 1 => some .shadow | 2 => some .duty | 3 => some .current | 4 => some .statusRd
  | 5 => some .statusReply | 6 => some .configWr | 7 => some .isolate | 8 => some .reference | 9 => some .arm
  | _ => none

/-- INDEX on the link. The spec gives no INDEX to the words of a target, of a coefficient set and of the leader's limits; theirs is free.
(DESIGN CHOICE 149, safe.) -/
def Msg.wire (m : Msg) : Nat := if m.index < 256 then m.index else (Config.configIndex (m.index - 256)).toNat

/-- Bits 63:0 of a message (R56). -/
def Msg.word (m : Msg) : BitVec 64 :=
  BitVec.ofNat 64 (m.type.code * 2 ^ 60 + m.src % 256 * 2 ^ 52 + m.dst % (if m.bcast then 64 else 256) * 2 ^ 44 + b2n m.bcast * 2 ^ 43 +
    m.wire * 2 ^ 32 + m.payload.toNat)

/-- The message that bits 63:0 spell; none for a reserved type (R56, R57). -/
def Msg.ofWord (w : BitVec 64) : Option Msg :=
  (MsgType.ofCode (w.toNat / 2 ^ 60)).map (fun t =>
    { type := t, src := w.toNat / 2 ^ 52 % 256, bcast := w.getLsbD 43
      dst := w.toNat / 2 ^ 44 % (if w.getLsbD 43 then 64 else 256)
      index := w.toNat / 2 ^ 32 % 256, payload := BitVec.ofNat 32 w.toNat, waits := 0 })

/-- The 72 bits on the link: the check in bits 71:64 (R56). The spec does not give the code, and its check bits are free.
(DESIGN CHOICE 112, safe.) -/
def Msg.link (m : Msg) : BitVec 72 := Config.secDed m.word ++ m.word

/-- The message bits of 72 bits meet their check. -/
def linkOk (w : BitVec 72) : Bool := decide (w.extractLsb' 64 8 = Config.secDed (w.extractLsb' 0 64))

/-- What a receiver reads from 72 bits: clean, corrected by turning the one bit that makes the check
good, or uncorrectable (R58). (DESIGN CHOICE 112, safe.) -/
def linkRead (w : BitVec 72) : Ecc × BitVec 64 :=
  if linkOk w then (.clean, w.extractLsb' 0 64)
  else
    match (upto 72).find? (fun k => linkOk (w ^^^ BitVec.ofNat 72 (2 ^ k))) with
    | some k => (.corrected, (w ^^^ BitVec.ofNat 72 (2 ^ k)).extractLsb' 0 64)
    | none => (.uncorrectable, w.extractLsb' 0 64)

/-! ## Raising -/

/-- The manager port and the hub as a sender (R56). -/
def managerPort : Nat := 0xFF

/-- The word of a target (R131). -/
def targetWord : Nat := 0x100

/-- The first of the five words of a coefficient set (R109). -/
def coefWord : Nat := 0x101

/-- The leader's ILIM, and its NEG_ILIM and KLIM (R200). -/
def ilimWord : Nat := 0x106
/-- NEG_ILIM and KLIM. -/
def sinkWord : Nat := 0x107

/-- OP of a phase control word (R140); 4 for every other message. -/
def Msg.op (m : Msg) : Nat := if m.type = .configWr ∧ m.index = 0x30 then m.payload.toNat / 2 ^ 30 else 4

/-- Two messages of one sender that are one word of its traffic: by the time the later is raised, the earlier one's broadcast has
completed, and cells that have not latched it are left out of it (R60). -/
def Msg.sameWord (m n : Msg) : Bool :=
  decide (m.type = n.type) && decide (m.src = n.src) && decide (m.dst = n.dst) && (m.bcast == n.bcast) && decide (m.index = n.index) &&
    decide (m.op = n.op)

/-- Messages raised: each supersedes an earlier one of its word. (DESIGN CHOICE 111, unsafe.) -/
def post (ms : List Msg) (s : State) : State :=
  { s with bus := s.bus.filter (fun m => !ms.any (fun n => n.sameWord m)) ++ ms.filter (fun m => decide (m.waits ≠ 0)) }

/-- The bit of a cell in a set of cells. -/
def cellBit (n : Nat) : BitVec 256 := BitVec.ofNat 256 (2 ^ (n % 256))

/-- The members of a rail that are not RETIRED, as a set: who latches a broadcast (R60, R66). -/
def listeners (s : State) (r : Nat) : BitVec 256 :=
  ((s.members r).filter (fun n => decide ((s.cell n).st ≠ .retired))).foldl (fun m n => m ||| cellBit n) 0

/-- A broadcast of a cell to the other members of its rail. (DESIGN CHOICE 111, unsafe.) -/
def castFrom (s : State) (r lead : Nat) (t : MsgType) (index : Nat) (payload : BitVec 32) : Msg :=
  { type := t, src := lead, dst := r, bcast := true, index := index, payload := payload, waits := listeners s r &&& ~~~ cellBit lead }

/-- A configuration word of the manager port or the hub to every member of a rail (R57). -/
def configCast (s : State) (r index : Nat) (payload : BitVec 32) : Msg :=
  { type := .configWr, src := managerPort, dst := r, bcast := true, index := index, payload := payload, waits := listeners s r }

/-- A configuration word to one cell (R57). -/
def configTo (index dst : Nat) (payload : BitVec 32) : Msg :=
  { type := .configWr, src := managerPort, dst := dst, bcast := false, index := index, payload := payload, waits := cellBit dst }

/-- A message to one cell. -/
def msgTo (t : MsgType) (src dst : Nat) (payload : BitVec 32) : Msg :=
  { type := t, src := src, dst := dst, bcast := false, index := 0, payload := payload, waits := cellBit dst }

/-! ## Latching -/

/-- The first message in flight that passes a test and that a cell has not latched, with what is left
of the traffic. (DESIGN CHOICE 111, unsafe.) -/
def takeFrom (sel : Msg → Bool) (c : Nat) : List Msg → Option (Msg × List Msg)
  | [] => none
  | m :: ms =>
    if sel m && m.waits.getLsbD c then
      let left := m.waits &&& ~~~ cellBit c
      some (m, if left = 0 then ms else { m with waits := left } :: ms)
    else (takeFrom sel c ms).map (fun x => (x.1, m :: x.2))

end Sys2Proof.Machine
end

