-- ==== Sys2Proof/Machine/Spur.lean ====
section
/-! DEFINITION. The spur plan: components, guards, violations and the flag SPUR_VIOL (R185-R190). -/

namespace Sys2Proof.Machine

/-- A component of a rail: its kind byte and its frequency in hertz (R186, R190). -/
abbrev Comp := Nat × Nat

/-- `n` times the switching frequency of a PERIOD, rounded to the nearest hertz (R186). -/
def timesFsw (n period : Nat) : Nat := (roundDiv (n * 25600000000 * 65536) period).toNat

/-- DEGRADED (R98). -/
def degraded (s : State) (r : Nat) : Bool := (s.entry r).valid && decide (s.healthyN r < (s.entry r).rated)

/-- The P_eff values whose ripple is checked (R186). -/
def peffs (s : State) (r : Nat) : List Nat :=
  let x := (s.rail r).ph
  let e := s.entry r
  let hi := min x.pol.posMax (memberN e.members)
  let lo := if x.pol.auto then min x.pol.posMax (min (max 1 x.pol.aMin) e.rated) else min x.pol.posMax e.rated
  let now := min x.pol.posMax x.a
  (upto 65).filter (fun k => (decide (lo ≤ k) && decide (k ≤ hi)) || (degraded s r && decide (k = now)))

/-- The component set of a rail at a PERIOD: harmonics 1-16, then ripple frequencies (R186). -/
def comps (s : State) (r period : Nat) : List Comp :=
  (upto 16).map (fun n => (n + 1, timesFsw (n + 1) period)) ++ (peffs s r).map (fun k => (128 + k, timesFsw k period))

/-- The guard of a component under an uncertainty in 0.01 ppm (R187). -/
def guardOf (f u gfix : Nat) : Nat := ceilDiv (f * u) 100000000 + 10 * gfix

/-- A band checks a component of a rail (R187). -/
def Band.checks (b : Band) (r kind : Nat) : Bool :=
  b.enable && natBit b.rails r && (if kind < 128 then b.harm else b.ripple)

/-- A component violates a band (R187). -/
def Band.violated (b : Band) (r u : Nat) (c : Comp) : Bool :=
  b.checks r c.1 && decide (b.fLo ≤ c.2 + guardOf c.2 u b.gfix) && decide (c.2 ≤ b.fHi + guardOf c.2 u b.gfix)

/-- The violations of a VALID rail at a PERIOD: rail, band, kind and f_c, in ascending order of band and kind (R188, R190). -/
def railViols (s : State) (bands : Vector Band 16) (u r period : Nat) : List (Nat × Nat × Comp) :=
  if (s.entry r).valid then
    let cs := comps s r period
    (upto 16).flatMap (fun k => (cs.filter (bands[Fin.ofNat 16 k].violated r u)).map (fun c => (r, k, c)))
  else []

/-- The violations of the whole plan (R187, R190). -/
def planViols (s : State) (bands : Vector Band 16) (u : Nat) : List (Nat × Nat × Comp) :=
  (upto 48).flatMap (fun r => railViols s bands u r (s.rail r).period)

/-- The plan is evaluated at the present U: SPUR_VIOL with its line, event 467 (R188, R199, R451). -/
def spurEval (s : State) : State :=
  let v := !(planViols s s.clk.bands s.clk.u).isEmpty
  if v = s.clk.spurViol then s else setLine 467 v { s with clk := { s.clk with spurViol := v } }

/-- A violation record (R190). -/
def violRecord (v : Nat × Nat × Comp) : List Byte := [byte v.1, byte v.2.1, byte v.2.2.1, 0] ++ le32 v.2.2.2

/-- The first 16 violation records (R190). -/
def violRecords (vs : List (Nat × Nat × Comp)) : List Byte := (vs.take 16).flatMap violRecord

end Sys2Proof.Machine
end

