-- ==== Sys2Proof/Machine/Fabric.lean ====
section
/-! DEFINITION. The shared operations of cells, rails, the sequencing domain and the pressing log: changes of cell state
(R36), captures (R250-R252), fault echoes (R433), force-off (R238-R243), starting and stopping a
rail (R113-R118), retargets (R128) and the slot progression (R232, R242). -/

namespace Sys2Proof.Machine

/-! ## The state of the maps (R92) -/

/-- MAP_STATE (R92): 0 CLEAN while the staged map equals the active map, 1 while it differs and checks OK, 2 otherwise. -/
def mapState (m : MapState) : Nat :=
  if m.staged = m.active then 0 else if m.stagedChk.toList.all (fun k => decide (k = 0)) then 1 else 2

/-- The rail-map state code: PROBE_STATE in bits 7:4, MAP_STATE in bits 3:0 (R92). -/
def mapCode (s : State) : Nat := s.map.probe.code * 16 + mapState s.map

/-! ## Checking the map (R71) -/

/-- The members of an entry lie on one net. -/
def oneNet (w : Vector ProbeWord 256) (ms : List Nat) : Bool :=
  match ms with
  | [] => true
  | n :: rest => rest.all (fun k => decide (w[fin256 k].net = w[fin256 n].net))

/-- The net of the members holds a cell that is neither a member nor RETIRED. (DEDUCED 21, unsafe.) -/
def netExtra (s : State) (e : MapEntry) (ms : List Nat) : Bool :=
  ms.any (fun n => (upto 256).any (fun k => !e.members.getLsbD k && decide (s.map.words[fin256 k].net = s.map.words[fin256 n].net) &&
    decide ((s.cell k).st ≠ .retired)))

/-- A member's class does not fit the entry: other than SINGLE or NETTED, NETTED alone, or SINGLE among several. -/
def classBad (w : Vector ProbeWord 256) (ms : List Nat) : Bool :=
  ms.any (fun n => decide (w[fin256 n].cls ≠ 1) && decide (w[fin256 n].cls ≠ 2)) ||
    (decide (ms.length = 1) && ms.any (fun n => decide (w[fin256 n].cls = 2))) ||
    (decide (2 ≤ ms.length) && ms.any (fun n => decide (w[fin256 n].cls = 1)))

/-- The check code of an entry of a map: the first condition that it meets (R71, R72). An ENERGISED member lies on no net found, and
its rail checks PROBE_CLASS whatever its other members show (R540). -/
def checkCode (s : State) (m : Vector MapEntry 48) (r : Nat) : Nat :=
  let e := m[fin48 r]
  let ms := cellsOf e.members
  if e.valid = false then 0
  else if ms = [] then 1
  else if (upto 48).any (fun k => decide (k ≠ r) && m[fin48 k].valid && decide (m[fin48 k].members &&& e.members ≠ 0)) then 2
  else if e.members.getLsbD e.leader = false then 3
  else if e.rated = 0 ∨ ms.length < e.rated then 4
  else if ms.any (fun n => decide ((s.cell n).st = .retired)) then 5
  else if e.skip then 0
  else if s.map.probe ≠ .complete then 9
  else if ms.any (fun n => decide ((s.map.words[fin256 n]).cls = 4)) then 8
  else if oneNet s.map.words ms = false then 6
  else if netExtra s e ms then 7
  else if classBad s.map.words ms then 8
  else 0

/-- The active map is rechecked (R91, R96). -/
def recheckActive (s : State) : State :=
  { s with map := { s.map with activeChk := mapIdx s.map.activeChk (fun r _ => checkCode s s.map.active r) } }

/-! ## Events of cells and rails -/

/-- Several pulses. -/
def pulses (es : List Nat) (s : State) : State := es.foldl (fun t e => pulse (evt e) t) s

/-- Event 258 + 4 × rail, the power-good event (R451). -/
def pgEvent (r : Nat) (s : State) : State := pulse (evt (258 + 4 * r)) s

/-- Event 259 + 4 × rail, the target event (R451). -/
def targetEvent (r : Nat) (s : State) : State := pulse (evt (259 + 4 * r)) s

/-- A change of a cell that raises its event: STATE changed, or a bit of FLAGS went from 0 to 1 (R61). -/
def cellEvent (old new : Cell) : Bool := decide (old.st ≠ new.st) || decide (new.flags &&& ~~~ old.flags ≠ 0)

/-- A cell changed, with its event; a RETIRED cell's block is frozen (R61, R66). A rail may become or stop being DEGRADED by it, and the
spur plan is then evaluated (R188). -/
def changeCell (s : State) (c : Fin 256) (f : Cell → Cell) : State :=
  if s.cells[c].st = .retired then s
  else
    let s1 := pulseIf (cellEvent s.cells[c] (f s.cells[c])) (evt c.val) (modCell s c f)
    if (f s.cells[c]).healthy = s.cells[c].healthy then s1 else spurEval s1

/-- Many cells changed, with their events; RETIRED cells keep their block (R61, R66). -/
def changeCells (s : State) (f : Nat → Cell → Cell) : State :=
  let s1 := mapCells s (fun n c => if c.st = .retired then c else f n c)
  let s2 := pulses ((upto 256).filter (fun n => cellEvent (s.cell n) (s1.cell n))) s1
  if (upto 256).all (fun n => (s1.cell n).healthy == (s.cell n).healthy) then s2 else spurEval s2

/-- The members of a rail changed, with their events. -/
def changeMembers (s : State) (r : Nat) (f : Nat → Cell → Cell) : State :=
  let m := s.memberSet r
  changeCells s (fun n c => if m.getLsbD n then f n c else c)

/-- Both switches off and the input switch open (R39, R117, R238). -/
def Cell.turnOff (c : Cell) : Cell :=
  { c with
    st := if c.st.serves then .off else c.st
    isoSw := false, precharge := false, pulse := false, lsOff := false
    stopNext := false, runNext := false, demNext := none, armNext := false, leadActive := false
    applyNext := none, pendA := none }

/-! ## Pressings -/

/-- The manager's reading of a rail's current, in mA: the sum of the members' latest CURRENT values (R252). -/
def State.railMa (s : State) (r : Nat) : Int := ((s.members r).map (fun n => (s.cell n).mirCurrent)).sum

/-- Milliamperes in units of 10 mA; where the value is not exact the spec states no rounding (R252). -/
def tenMa (x : Int) : Int := quot x 10

/-- The highest cell TEMP held, with the lowest-numbered cell holding it (R252). -/
def hottest (s : State) : BitVec 16 × Nat :=
  (upto 256).foldl (fun acc n =>
    let t := (s.cell n).temp
    if t ≠ 0x8000 ∧ (acc.1 = 0x8000 ∨ acc.1.toInt < t.toInt) then (t, n) else acc) (0x8000, 0xFF)

/-- The record captured for a cause (R252, R253). -/
def pressingOf (s : State) (cause index : Nat) : Pressing where
  seq := s.sup.next
  time := s.hem.rtc
  cause := cause
  index := index
  dom := s.dom.st.code
  flags := b2n (!s.proto.running) * 8 + b2n (!timeAgreed s) * 4 + b2n s.hem.suspect * 2 + b2n s.hem.calendar
  addr := s.seam.addr.getD 0
  slot := s.dom.cur.getD 0xFF
  land := s.land.word
  clk := s.clk.word
  seqFlags := s.dom.word
  inputs := s.sup.inputs.toList.map (fun x => x.code + b2n x.judged * 32768)
  currents := (upto 48).map (fun r => tenMa (s.railMa r))
  rails := (upto 48).map (fun r => (s.rail r).st.code)
  prots := (upto 48).map (fun r => (s.rail r).protFlags)
  hiTemp := (hottest s).1
  hiCell := (hottest s).2

/-- A cause is captured into one of eight buffers; with all full, PRESS_LOST is set (R251). (DEDUCED
40, safe.) -/
def capture (cause index : Nat) (s : State) : State :=
  if s.sup.bufs.length < 8 then
    { s with sup := { s.sup with bufs := s.sup.bufs ++ [pressingOf s cause index], next := (s.sup.next + 1) % 2 ^ 32 } }
  else seqSet 0x80 s

/-- PR_SEQ of the pressing a cause recorded just now, 0xFFFFFFFF when it was not captured (R433). -/
def lastSeq (before after : State) : Nat :=
  if before.sup.bufs.length < after.sup.bufs.length then before.sup.next else 0xFFFFFFFF

/-! ## Fault echoes -/

/-- A fault echo of a kind, its first copy sent and its second due; a module with domain number 0 or without an address sends
none (R433). One whose cause comes while the manager restarts is sent at once too. (DESIGN CHOICE 164, unsafe.) -/
def sendEcho (kind seq : Nat) (s : State) : State :=
  if s.seam.domain = 0 ∨ s.seam.addr = none then s
  else
    let id := (s.dom.echoId + 1) % 256
    let pay := [byte kind, byte id, byte s.dom.st.code, 0] ++ le32 seq
    { s with
      dom := { s.dom with echoId := id, echoSecond := s.dom.echoSecond ++ [pay] }
      seam := s.seam.originate 6 2 0 s.seam.domain pay none none }

/-! ## The domain state -/

/-- The event of entry to a domain state (R451). -/
def DomSt.event : DomSt → Fin 1024
  | .up => 448 | .down => 449 | .latched => 450 | .rising => 451 | .falling => 452

/-- Entry to a domain state, with its event and, for UP and DOWN, its pressing (R228, R250). -/
def enterDom (d : DomSt) (s : State) : State :=
  let s1 := pulse d.event { s with dom := { s.dom with st := d } }
  match d with
  | .up => capture 0x0C 0 s1
  | .down => capture 0x0C 1 s1
  | _ => s1

/-- A pending restart is cancelled and its memory cleared (R244). -/
def cancelRestart (s : State) : State := { s with dom := { s.dom with restartDue := false, vinMem := false } }

/-- Entry to LATCHED: slot progression ends, and a restart or a rise that waits, or that a full start left to be made, is cancelled (R228,
R230, R244). -/
def enterLatched (s : State) : State :=
  let s1 := cancelRestart { s with dom := { s.dom with cur := none, ph := .idle, upWait := false, autoUp := false } }
  if s.dom.st = .latched then s1 else enterDom .latched s1

/-- The domain goes DOWN without latching, and that it was RISING or UP is remembered; a memory that nothing has cleared is kept (R228,
R242, R244). -/
def domLoseVin (s : State) : State :=
  if s.dom.st = .latched then s
  else
    let s1 := { s with dom := { s.dom with
      vinMem := decide (s.dom.st = .rising) || decide (s.dom.st = .up) || s.dom.vinMem, cycle := true
      restartDue := false, latchPend := false, cur := none, ph := .idle, upWait := false } }
    if s.dom.st = .down then s1 else enterDom .down s1

/-! ## Rails leaving service -/

/-- A pending shed ends by a cancel, up to the rail period boundary at which it would commit (R149,
R167). (DEDUCED 146, unsafe.) -/
def PhaseCtx.cancel (p : PhaseCtx) : PhaseCtx :=
  match p.pend with
  | none => p
  | some _ => { p with pend := none, committing := false, qual := 0, cancels := satInc 65535 p.cancels }

/-- A phase control word: OP, A, P (64 sent as 0) and ROT (R140, R141). -/
def phaseCtl (op a pos rot : Nat) : BitVec 32 :=
  BitVec.ofNat 32 (op * 2 ^ 30 + rot % 256 * 2 ^ 20 + pos % 64 * 2 ^ 14 + a % 512)

/-- The hub's phase control word to the members of a rail (R140). -/
def hubWord (s : State) (r op a : Nat) : Msg :=
  configCast s r 0x30 (phaseCtl op a (s.rail r).ph.pol.posMax (s.rail r).ph.rot)

/-- A as the phase manager has last set it: that of an APPLY sent, or A in force (R147). -/
def PhaseCtx.aim (p : PhaseCtx) : Nat := p.aNext.getD p.a

/-- The words that a change of a rail's phase context calls for: CANCEL when a pending shed has ended otherwise than by a commit,
PEND_SHED when one has begun, APPLY when the shed commits, when A, ROT or P are set anew, or when a shed whose APPLY is out is
cancelled; an APPLY of a rail in FIXED order carries ROT 0 (R140, R141, R147-R149, R155). -/
def sendPhase (r : Nat) (before : PhaseCtx) (s0 : State) : State :=
  let q := (s0.rail r).ph
  let s := if (q.pol.posMax ≠ before.pol.posMax ∨ q.aNext.isSome ∧ q.aNext ≠ before.aNext ∨ q.committing ∧ before.committing = false) ∧
      q.tumble = false ∧ q.rot ≠ 0 then modRail s0 (fin48 r) (fun x => { x with ph := { x.ph with rot := 0 } }) else s0
  let p := (s.rail r).ph
  let ended := before.pend.isSome && decide (p.pend ≠ before.pend)
  let begun := p.pend.isSome && decide (p.pend ≠ before.pend)
  let anew := (p.aNext.isSome && decide (p.aNext ≠ before.aNext)) || decide (p.rot ≠ before.rot) ||
    decide (p.pol.posMax ≠ before.pol.posMax) || (ended && before.committing)
  let a := if p.committing then p.pend.getD p.a else p.aim
  post ((if ended then [hubWord s r 2 0] else []) ++ (if begun then [hubWord s r 1 (p.pend.getD 0)] else []) ++
    (if anew || (p.committing && !before.committing) then [hubWord s r 0 a] else [])) s

/-- A rail's phase context changed, with the words it sends. -/
def changePhase (r : Nat) (f : PhaseCtx → PhaseCtx) (s : State) : State :=
  sendPhase r (s.rail r).ph (modRail s (fin48 r) (fun x => { x with ph := f x.ph }))

/-- A rail leaves REGULATING and SLEWING, or its start is abandoned: its slew, its pending shed, its supervision and its arming
end (R118, R129, R149, R234). LIMITING and NEG_LIMITING keep the last tick's value until the next start. (DESIGN CHOICE 167, unsafe.) -/
def Rail.leave (x : Rail) (st : RailSt) : Rail :=
  { x with st := st, released := x.released && decide (st = .stopping), measuring := false
           offFrom := if st = .off then (if x.st.runs then some x.st else x.offFrom) else none
           sp := { x.sp with owed := false }, ph := x.ph.cancel, qualifying := false, supervised := false }

/-- Every rail that passes a test leaves for a state, each with the words that end its pending shed (R149). -/
def leaveRails (out : Rail → Bool) (st : RailSt) (s : State) : State :=
  ((upto 48).filter (fun r => out (s.rail r) && (s.rail r).ph.pend.isSome)).foldl (fun t r => sendPhase r (s.rail r).ph t)
    (mapRails s (fun _ x => if out x then x.leave st else x))

/-- A rail leaves for a state, with the words that end its pending shed (R149). -/
def leaveRail (r : Nat) (st : RailSt) (s : State) : State :=
  sendPhase r (s.rail r).ph (modRail s (fin48 r) (fun x => x.leave st))

/-- Result words without a result: NOT_PROBED, NET being the cell's own number (R87, R88). -/
def blankWords : Vector ProbeWord 256 := mapIdx (Vector.replicate 256 ({} : ProbeWord)) (fun n w => { w with net := n })

/-- A tack probe that runs is aborted, its results and the previous one discarded, and the active map rechecked (R71, R86, R113). -/
def abortProbe (s : State) : State :=
  if s.map.probe = .running then
    pulse 563 (recheckActive { s with map := { s.map with
      probe := .aborted, prev := none, words := blankWords, probing := false, storedProbe := none } })
  else s

/-- Arming stops at every rail (R118). (DEDUCED 151, unsafe.) -/
def stopAllArming (s : State) : State :=
  { s with armQ := [], arming := false, bus := s.bus.filter (fun m => decide (m.type ≠ .arm)) }

/-- Arming stops at a rail: neither a member that waits for its group nor one that has not latched its ARM is armed (R118). (DEDUCED 151,
unsafe.) -/
def stopArming (r : Nat) (s : State) : State :=
  { s with
    armQ := s.armQ.filter (fun q => decide (q.1 ≠ r))
    bus := s.bus.filter (fun m => decide (m.type ≠ .arm) || !(if m.bcast then decide (m.dst = r) else (s.memberSet r).getLsbD m.dst)) }

/-- Every cell of the module turned off, every rail not OFF entering LATCHED_OFF, and the domain
LATCHED (R238, R240). A rail that has entered OFF in the same control tick enters LATCHED_OFF too
(R101). (DEDUCED 145, unsafe.) -/
def shutOff (s : State) : State :=
  let s1 := abortProbe (changeCells s (fun _ c => c.turnOff))
  let s2 := leaveRails (fun x => decide (x.st ≠ .off) || x.offFrom.isSome) .latchedOff s1
  enterLatched (stopAllArming s2)

/-- A fault on a running rail outside R243: shut-off, FAULT_N driven low, the pressing and the echo (R238). -/
def faultRun (index : Nat) (s : State) : State :=
  let s1 := shutOff s
  let s2 := { s1 with dom := { s1.dom with fnDrive := true, fnLow := true, fnAt := some s1.hem.ticks } }
  let s3 := capture 1 index s2
  sendEcho 1 (lastSeq s2 s3) s3

/-- Event 256 + 4 × rail + 2 for each rail that has gone from running to OFF (R117). -/
def offEvents (before after : State) : State :=
  pulses (((upto 48).filter (fun r => (before.rail r).st.runs && decide ((after.rail r).st = .off))).map (fun r => 258 + 4 * r))
    after

/-- A fault on a running rail other than an overvoltage trip, confined to its rail while the module is FALLING (R243). -/
def faultConfined (r : Nat) (s : State) : State :=
  let s1 := changeMembers s r (fun _ c => if c.st.serves then { c with stopNext := true } else { c with precharge := false })
  capture 5 r (seqSet 0x2 (stopArming r (leaveRail r .latchedOff s1)))

/-- A fault on a running rail: confined while FALLING, unless it is an overvoltage (R238, R243). -/
def railFault (r : Nat) (ov : Bool) (s : State) : State :=
  if s.dom.st = .falling ∧ ov = false then faultConfined r s else faultRun r s

/-! ## Stopping a rail -/

/-- A rail's members turned off at once where they serve: before release, armed members return to OFF (R118). -/
def dropMembers (r : Nat) (s : State) : State := changeMembers s r (fun _ c => c.turnOff)

/-- A start is cut short before release: arming stops, armed members return to OFF, the rail enters
OFF and raises its event (R117, R118). (DEDUCED 145, unsafe.) (DEDUCED 151, unsafe.) -/
def abandonRail (r : Nat) (s : State) : State :=
  pgEvent r (leaveRail r .off (dropMembers r (stopArming r s)))

/-- An orderly stop, as RAIL_DISABLE makes it (R117, R118): before release the start is cut short; otherwise the rail enters
STOPPING, with diode emulation in a ramped stop and the members turning off at their next boundary in an immediate one. -/
def stopRail (r : Nat) (imm : Bool) (s : State) : State :=
  let x := s.rail r
  match x.st with
  | .starting | .regulating | .slewing =>
    if x.st = .starting ∧ x.released = false then abandonRail r s
    else
      let s1 := changeMembers s r (fun _ c =>
        if imm || x.loop.coef.stopImm then { c with stopNext := c.st.serves } else { c with diodeEm := true, demNext := none })
      sendPhase r x.ph (modRail s1 (fin48 r) (fun y =>
        let z := y.leave .stopping
        if imm || x.loop.coef.stopImm then z else { z with loop := { z.loop with dem := true, demLeft := 0 } }))
  | .stopping =>
    if imm then changeMembers s r (fun _ c => { c with stopNext := c.st.serves }) else s
  | _ => s

/-! ## Starting a rail -/

/-- The start target's code: the code given directly, or the stored set-point of the index in force (R113, R120). -/
def SetPt.start (p : SetPt) : Nat := if p.direct then p.code else p.stored[Fin.ofNat 8 p.index]

/-- Whether a start is accepted (R113, R207): none when it is; otherwise the state kind that a refused
RAIL_ENABLE carries, 1 the rail state or 2 the rail-map state. (DESIGN CHOICE 18, safe.) -/
def startRefused (s : State) (r : Nat) : Option Nat :=
  if s.map.probe = .running ∨ s.map.applying then some 2
  else if s.map.activeChk[fin48 r] ≠ 0 ∨ (s.entry r).valid = false ∨ (s.rail r).sp.start = 0 ∨ (s.rail r).prot.ovTrip ∨
      (s.rail r).prot.uvTrip then some 1
  else none

/-- OV code: ceil((max(V_now, V_prev) + OV_MV) / 4 mV), clamped to 0-1,023; V in 1/65,536 set-point codes of 0.5 mV (R203). -/
def ovCodeOf (now prev mv : Nat) : Nat := min 1023 (ceilDiv (max now prev + mv * 131072) 524288)

/-- UV code: floor((min(V_now, V_prev) - UV_MV) / 4 mV), clamped (R203). -/
def uvCodeOf (now prev mv : Nat) : Nat := min 1023 ((min now prev - mv * 131072) / 524288)

/-- The thresholds set from the present reference and the one a tick earlier (R203). -/
def Rail.setWindow (x : Rail) (now prev : Nat) : Rail :=
  { x with prot := { x.prot with vNow := now, vPrev := prev, ovCode := ovCodeOf now prev x.prot.ovMv, uvCode := uvCodeOf now prev x.prot.uvMv } }

/-- The OV code in force: while the rail is OFF or LATCHED_OFF the thresholds follow the start target (R203). -/
def Rail.ovInForce (x : Rail) : Nat :=
  if x.st.runs then x.prot.ovCode else ovCodeOf (x.sp.start * 65536) (x.sp.start * 65536) x.prot.ovMv

/-- The UV code in force (R203). -/
def Rail.uvInForce (x : Rail) : Nat :=
  if x.st.runs then x.prot.uvCode else uvCodeOf (x.sp.start * 65536) (x.sp.start * 65536) x.prot.uvMv

/-- The leader of a rail that starts: the LEADER cell, or the first healthy cell after it (R76). -/
def startLeader (s : State) (r : Nat) : Option Nat :=
  ((succession (s.entry r).leader (s.members r)).filter (fun n => (s.cell n).healthy)).head?

/-- Position of a cell in a list. -/
def posIn : List Nat → Nat → Nat → Option Nat
  | [], _, _ => none
  | x :: xs, n, k => if x = n then some k else posIn xs n (k + 1)

/-- Roles, ranks and firing indices by succession order: the first RATED cells take ROLE 1 and 2, the rest ROLE 3; rank and f are
the position (R73, R78, R136). -/
def assignRoles (s : State) (r lead : Nat) (order : List Nat) : State :=
  let e := s.entry r
  let m := s.memberSet r
  mapCells s (fun n c =>
    if m.getLsbD n && decide (c.st ≠ .retired) then
      match posIn order n 0 with
      | some k =>
        { c with role := if k = 0 then .leader else if k < e.rated then .follower else .spare, rail := r, rank := k, fIdx := k,
                 mCnt := order.length, leader := lead, members := m, missing := 0, heard := true }
      | none => if c.rail = r then { c with role := .none } else c
    else c)

/-- Limits that the leader has latched are in force (R200). -/
def Prot.takeLimits (p : Prot) : Prot :=
  { p with ilim := if p.ilimNext.isSome then p.ilimNext else p.ilim, ilimNext := none
           negIlim := (p.sinkNext.map Prod.fst).or p.negIlim, klim := (p.sinkNext.map Prod.snd).getD p.klim, sinkNext := none }

/-- A rail starts (R44, R73, R76, R114, R136, R137, R145, R167, R188): STARTING, leader and roles named, every member on the sense pair
but the leader, whose CO lands the comparison of R31 measures, A = M, and the records that wait for a start taken. -/
def beginRail (r : Nat) (s : State) : State :=
  match startLeader s r with
  | none => pgEvent r (modRail s (fin48 r) (fun x => { x with sp := { x.sp with startFail := true } }))
  | some lead =>
    let order := (succession lead (s.members r)).filter (fun n => (s.cell n).healthy)
    let s1 := assignRoles s r lead order
    let x := s.rail r
    let ord := x.ph.orderNext.getD (x.ph.tumble, x.ph.tumbleStrobe, x.ph.tumbleInt)
    let pol := x.ph.polNext.getD x.ph.pol
    let rot := if ord.1 then x.ph.rot else 0
    let coef := x.loop.coefNext.getD x.loop.coef
    let s2 := changeMembers s1 r (fun n c =>
      { c with senseLocal := decide (n = lead), aCnt := max 1 order.length, pos := pol.posMax, rot := rot, coef := coef, crease := none,
               shadowPart := [], pkLim := (s.rail r).prot.pkLim, ramp := (s.rail r).prot.ramp, limNext := none,
               period := (s.rail r).period, periodNext := none, periodAt := none, boundary := 0, coefPart := [], former := none, armNext := false,
               leadActive := false,
               target := (s.rail r).sp.start,
               pendA := none, applyNext := none })
    let s3 := modRail s2 (fin48 r) (fun x =>
      let v := x.sp.start * 65536
      Rail.setWindow { x with
        st := .starting, released := false, measuring := true, measOn := s.tlm.sysConv, leader := lead, hubMissing := 0, rewriteDue := false
        formerDue := [], qualifying := false, supervised := false, offFrom := none
        loop := { x.loop with clamped := false, demLeft := 0, ref := v, target := x.sp.start, coef := coef, coefNext := none }
        sp := { x.sp with owed := true }
        prot := { x.prot.takeLimits with senseFault := false, limiting := false, negLimiting := false, negTicks := 0 }
        ph := { x.ph with pol := pol, polNext := none, tumble := ord.1, tumbleStrobe := ord.2.1,
                          tumbleInt := ord.2.2, orderNext := none, a := order.length, m := order.length, pend := none, qual := 0,
                          holdoff := false, sheds := 0, cancels := 0, readds := 0, preaddNow := false, rotDue := 0,
                          armSent := false, rotHeld := 0, committing := false, aNext := none, rot := rot } } v v)
    if (s.rail r).ph.polNext.isSome then spurEval s3 else s3

/-- A rail starts; while the input-undervoltage signal is asserted nothing may switch, and the start ends at once in OFF (R21, R100,
R117). (DEDUCED 113, unsafe.) -/
def startRail (r : Nat) (s : State) : State :=
  if s.undervolt ∧ (startLeader s r).isSome then abandonRail r (beginRail r s) else beginRail r s

/-! ## Retargets -/

/-- A target arrives at a rail's leader (R123, R125, R128, R129): in STARTING and SLEWING it supersedes a target not yet reached;
in REGULATING it starts a slew unless it equals the present reference; in OFF, STOPPING and LATCHED_OFF it waits. A target equal to the one
under way supersedes nothing, and is not counted. (DESIGN CHOICE 152, unsafe.) -/
def Rail.retarget (x : Rail) (code : Nat) : Rail :=
  match x.st with
  | .starting | .slewing =>
    { x with loop := { x.loop with target := code }
             sp := { x.sp with owed := true, retargets := if x.sp.owed ∧ code ≠ x.loop.target then satInc 65535 x.sp.retargets
                                             else x.sp.retargets } }
  | .regulating =>
    if x.loop.ref = code * 65536 then { x with loop := { x.loop with target := code } }
    else { x with st := .slewing, loop := { x.loop with target := code }, sp := { x.sp with owed := true } }
  | _ => x

/-- A retarget: the leader takes it, and the word goes to every other member's target register (R128, R131). (DESIGN CHOICE 149, safe.) -/
def retarget (r code : Nat) (s : State) : State :=
  let s1 := modRail s (fin48 r) (fun x => x.retarget code)
  if (s.rail r).st = .starting ∨ (s.rail r).st = .slewing ∨ (s.rail r).st = .regulating then
    let lead := (s.rail r).leader
    post [{ configCast s r targetWord (BitVec.ofNat 32 code) with waits := listeners s r &&& ~~~ cellBit lead }]
      (modCell s1 (fin256 lead) (fun c => if c.st ≠ .retired then { c with target := code } else c))
  else s1

/-- The index a rail's bound pins form (R121, R122). -/
def SetPt.pinIndex (p : SetPt) (sel : BitVec 12) : Nat :=
  let pin (k : Nat) : Nat :=
    let f := p.selBind.toNat / 16 ^ k % 16
    if f ≤ 11 then b2n (sel.getLsbD f) else 0
  pin 0 + 2 * pin 1 + 4 * pin 2

/-- The pins of a pin-bound rail form its index: another index whose set-point is not empty becomes the target; an empty one sets
SEL_EMPTY, raises the event and is held as pending (R123, R124). -/
def formIndex (r : Nat) (s : State) : State :=
  let x := s.rail r
  let i := x.sp.pinIndex s.dom.sel
  if x.sp.pinBound = false then s
  else if x.sp.stored[Fin.ofNat 8 i] = 0 then
    pgEvent r (modRail s (fin48 r) (fun y => { y with sp := { y.sp with selEmpty := true, pending := some i } }))
  else if i = x.sp.index ∧ x.sp.direct = false then
    modRail s (fin48 r) (fun y => { y with sp := { y.sp with pending := none } })
  else
    retarget r x.sp.stored[Fin.ofNat 8 i]
      (modRail s (fin48 r) (fun y => { y with sp := { y.sp with pending := none, index := i, direct := false } }))

/-! ## Power-good -/

/-- PG_RAW (R233). -/
def Rail.pgRaw (x : Rail) : Bool := x.st.regulates && !x.prot.ovNow && !x.prot.uvNow && x.supIn

/-- A counted fall of PG_RAW of a rail that is qualifying or supervised (R234). -/
def countedFall (r : Nat) (s : State) : State :=
  let x := s.rail r
  if x.qualifying || x.supervised then
    let s1 := pgEvent r (modRail s (fin48 r) (fun y => { y with chatter := satInc 255 y.chatter, fallSeen := true }))
    if x.fallSeen then s1 else capture 4 r s1
  else s

/-- The time of a rise of PG_RAW is noted (R234). -/
def Rail.notePg (x : Rail) (now : Nat) (old : Rail) : Rail := if x.pgRaw && !old.pgRaw then { x with pgAt := some now } else x

/-- A change of one of PG_RAW's conditions at a rail; a fall of PG_RAW is counted (R233, R234). -/
def pgChange (r : Fin 48) (f : Rail → Rail) (s : State) : State :=
  let s1 := modRail s r (fun x => (f x).notePg s.hem.ticks x)
  if s.rails[r].pgRaw && !(f s.rails[r]).pgRaw then countedFall r.val s1 else s1

/-! ## Slot progression -/

/-- A sequence slot in force by its number (R257). (DEDUCED 38, safe.) -/
def Dom.slot (d : Dom) (k : Nat) : Slot := d.slotsNow[Fin.ofNat 16 k]

/-- The rails a slot names. -/
def Slot.railList (x : Slot) : List Nat := (upto 48).filter (natBit x.rails)

/-- The gate of a slot is open: no gate, or its EN pin reads high (R231, R232). -/
def gateOpen (d : Dom) (k : Nat) : Bool :=
  let g := (d.slot k).gate
  decide (g = 0) || decide (4 < g) || d.en.getLsbD (g - 1)

/-- The next slot upward starts at its time zero, or the rise is complete (R232, R228). -/
def nextUp (k : Nat) (s : State) : State :=
  match (upto 16).find? (fun j => decide (k ≤ j) && (s.dom.slot j).used) with
  | some j =>
    { s with dom := { s.dom with cur := some j, leftZero := s.dom.leftZero ||| BitVec.ofNat 16 (2 ^ j)
                                 ph := if gateOpen s.dom j then .upDelay else .gate } }
  | none => enterDom .up { s with dom := { s.dom with cur := none, ph := .idle } }

/-- The upward run begins: it waits for the cascade where the role does, and slot progression waits for a manager that restarts (R232,
R245). (DEDUCED 125, unsafe.) -/
def beginUp (s : State) : State :=
  if s.proto.running = false then { s with dom := { s.dom with ph := .begin } }
  else if (s.dom.role = 2 ∨ s.dom.role = 3) ∧ s.dom.squi = false then { s with dom := { s.dom with ph := .waitSqui } }
  else nextUp 0 s

/-- Entry to RISING; while the input-undervoltage signal is asserted the domain goes DOWN again at once (R21, R232, R244). (DEDUCED 38,
safe; DEDUCED 113, unsafe.) -/
def enterRising (s : State) : State :=
  let s1 := mapRails (cancelRestart s) (fun _ x => { x with chatter := 0 })
  let s2 := enterDom .rising { s1 with dom := { s1.dom with
    slotsNow := s1.dom.slots, slotQual := 0, leftZero := 0, ran := 0, latchPend := false, cur := none, ph := .idle } }
  if s.undervolt then domLoseVin s2 else beginUp s2

/-- The downward run ends: DOWN, or LATCHED with LATCH_PEND set (R228, R242). -/
def endRun (s : State) : State :=
  let s1 := { s with dom := { s.dom with cur := none, ph := .idle } }
  if s.dom.latchPend then enterLatched s1 else enterDom .down s1

/-- The next slot downward, from slot number `k - 1` on: the highest that has left its time zero and has a rail that has not
stayed OFF since the entry to RISING (R236, R242). -/
def nextDown (k : Nat) (s : State) : State :=
  match (upto 16).reverse.find? (fun j => decide (j < k) && s.dom.leftZero.getLsbD j && (s.dom.slot j).used &&
      (s.dom.ran.getLsbD j || (s.dom.slot j).railList.any (fun r => decide ((s.rail r).st ≠ .off)))) with
  | some j => { s with dom := { s.dom with cur := some j, ph := .downDelay } }
  | none => endRun s

/-- The downward run begins: it waits for the cascade where the role does, and slot progression waits for a manager that restarts (R242,
R245). (DEDUCED 125, unsafe.) -/
def beginDown (s : State) : State :=
  if s.proto.running = false then { s with dom := { s.dom with ph := .begin } }
  else if (s.dom.role = 1 ∨ s.dom.role = 2) ∧ s.dom.sqdi = false then { s with dom := { s.dom with ph := .waitSqdi } }
  else nextDown 16 s

/-- Entry to FALLING, with or without LATCH_PEND; a module already FALLING only takes LATCH_PEND (R228, R229, R242). -/
def enterFalling (latch : Bool) (s : State) : State :=
  if s.dom.st = .falling then { s with dom := { s.dom with latchPend := s.dom.latchPend || latch } }
  else if s.dom.st = .rising ∨ s.dom.st = .up then
    let s1 := mapRails s (fun _ x => { x with qualifying := false })
    beginDown (enterDom .falling { s1 with dom := { s1.dom with latchPend := latch, cur := none, ph := .idle, cycle := true } })
  else s

/-- A cause for a target behind one that has acted in the same manager cycle is discarded (R229); the length of a manager cycle is not
stated, and whether a cause that comes within the same Hem tick comes within the same cycle is free. (DESIGN CHOICE 126, safe.) -/
def outranked (s : State) : Bool := s.dom.cycle && Config.freeBool s.free

/-- A slot, or with 0xFF the cascade, fails to come up (R235). -/
def failStart (index : Nat) (s : State) : State :=
  if s.dom.st = .rising then
    let s1 := seqSet 0x1 s
    let s2 := capture 3 index s1
    sendEcho 2 (lastSeq s1 s2) (enterFalling true s2)
  else s

/-- A rail's start by its slot is accepted, as RAIL_ENABLE would accept it, and a member can reach
ARMED (R113, R116, R133). (DEDUCED 37, safe.) -/
def slotStarts (s : State) (r : Nat) : Bool :=
  decide ((s.rail r).st = .off) && (startRefused s r).isNone && (startLeader s r).isSome

/-- The slot in progress starts its rails, each as RAIL_ENABLE does; a start that is not accepted, or
is abandoned at once, is a failure to come up, and a map apply is waited for (R94, R113, R116,
R232, R235). (DEDUCED 33, safe; DEDUCED 37, safe.) -/
def startSlot (k : Nat) (s : State) : State :=
  let rs := (s.dom.slot k).railList
  if s.map.applying then { s with dom := { s.dom with ph := .waitApply } }
  else
    let s1 := { s with dom := { s.dom with
      ph := .qualify, ran := if rs.any (slotStarts s) then s.dom.ran ||| BitVec.ofNat 16 (2 ^ k) else s.dom.ran } }
    let s2 := rs.foldl (fun t r => if (s.rail r).st = .off ∧ (startRefused s r).isNone then startRail r t else t) s1
    let s3 := mapRails s2 (fun n x => if natBit (s.dom.slot k).rails n then { x with qualifying := true, fallSeen := false } else x)
    if rs.all (slotStarts s) then s3 else failStart k s3

/-- SQUO: driven high while the domain is UP; low without the I/O supply (R15, R226). -/
def State.squo (s : State) : Bool := !s.off && decide (s.dom.st = .up)

/-- SQDO: driven high while the domain is DOWN or LATCHED; low without the I/O supply (R15, R226). -/
def State.sqdo (s : State) : Bool := !s.off && (decide (s.dom.st = .down) || decide (s.dom.st = .latched))

/-- A rail of the slot in progress has qualified: its PG_RAW has held for QUAL. The time is held in Hem ticks of 30.5 µs; where these do
not settle it, it is free (R234). (DESIGN CHOICE 32, safe.) -/
def railQualified (s : State) (r : Nat) : Bool :=
  match (s.rail r).pgAt, s.dom.cur with
  | some t, some k =>
    let need := max 1 (s.dom.slot k).qual * 1024
    let held := s.hem.ticks - t
    (s.rail r).qualifying && (decide (need + 3125 ≤ held * 3125) || (decide (need < (held + 1) * 3125) && Config.freeBool s.free))
  | _, _ => false

/-- PGn follows the source its PG_MAP byte names; low without the I/O supply (R15, R249). (DESIGN
CHOICE 32, safe.) -/
def State.pgOut (s : State) (n : Fin 8) : Bool :=
  let b := s.dom.pgMap[n]
  let i := b % 64
  !s.off && match b / 64 % 4 with
  | 0 => decide (i < 48) && (s.rail i).pgRaw && ((s.rail i).supervised || railQualified s i)
  | 1 => decide (i < 16) && s.dom.slotQual.getLsbD i && (s.dom.slot i).railList.all (fun r => (s.rail r).pgRaw)
  | 2 => (decide (i = 0) && decide (s.dom.st = .up)) || (decide (i = 1) && decide (s.dom.st ≠ .latched)) ||
      (decide (i = 2) && decide (s.dom.st = .down))
  | _ => false

end Sys2Proof.Machine
end

