-- ==== Sys2Proof/Machine/Operands.lean ====
section
/-! DEFINITION. The operand forms of Zhoenne commands: the parameter lengths an opcode takes, the range checks of its fields, and the
checks 3-7 of R363 with their results (R358, R363-R368, R390, R539). -/

namespace Sys2Proof.Machine

/-- What a command's execution comes to. -/
inductive Ans where
  /-- A reply with its result (R367). -/
  | reply (st : Status) (result : List Byte)
  /-- The reply waits for the end of an operation begun (R371). -/
  | defer (d : Deferred)
  /-- The case leaves the module's behaviour undefined (R392). -/
  | undef (f : Fault)
  deriving DecidableEq, Repr

/-- The codes of R367. -/
def Status.code : Status → Nat
  | .done => 0x00 | .started => 0x01 | .doneWithNote => 0x02 | .refusedState => 0x10 | .busy => 0x11
  | .unknownOpcode => 0x12 | .badLength => 0x13 | .badCheck => 0x14 | .versionUnsupported => 0x15 | .locked => 0x16
  | .notPresent => 0x17 | .dropped => 0x18 | .domainDisagree => 0x20 | .planImpossible => 0x30

/-- The status code a version sends: version 1 has no DONE_WITH_NOTE, DOMAIN_DISAGREE or PLAN_IMPOSSIBLE (R374). -/
def Status.sent (ver : Nat) (st : Status) : Nat :=
  if ver = 1 then
    match st with
    | .doneWithNote => 0x00
    | .domainDisagree | .planImpossible => 0x10
    | x => x.code
  else st.code

/-- A status that says the command was executed (R370). -/
def Status.executed : Status → Bool
  | .done | .started | .doneWithNote => true
  | _ => false

/-- A status of check 9 (R363). -/
def Status.stateRule : Status → Bool
  | .refusedState | .busy | .locked | .domainDisagree => true
  | _ => false

/-- DONE with a result. -/
def done (s : State) (result : List Byte) : State × Ans := (s, .reply .done result)
/-- DONE without a result. -/
def done0 (s : State) : State × Ans := (s, .reply .done [])
/-- STARTED without a result (R372). -/
def started (s : State) : State × Ans := (s, .reply .started [])
/-- DONE_WITH_NOTE. -/
def noted (s : State) (result : List Byte) : State × Ans := (s, .reply .doneWithNote result)
/-- DONE, or DONE_WITH_NOTE when a note applies. -/
def doneOr (note : Bool) (s : State) (result : List Byte) : State × Ans :=
  (s, .reply (if note then .doneWithNote else .done) result)
/-- The refusal record (R368). -/
def refuse (s : State) (kind code subject : Nat) : State × Ans :=
  (s, .reply .refusedState [byte kind, byte code, byte subject, 0])
/-- BUSY with its cause (R367). -/
def busy (s : State) (cause : Nat) : State × Ans := (s, .reply .busy [byte cause])
/-- LOCKED with its cause (R367). -/
def locked (s : State) (cause : Nat) : State × Ans := (s, .reply .locked [byte cause])
/-- NOT_PRESENT with a PARAMS offset, or 0xFFFF for an object that holds nothing (R367). -/
def absent (s : State) (offset : Nat) : State × Ans := (s, .reply .notPresent (le16 offset))

/-- The parameter lengths an opcode takes (R390). -/
inductive Plen where
  /-- One fixed length. -/
  | fixed (n : Nat)
  /-- A range of lengths. -/
  | range (lo hi : Nat)
  /-- `base + per` times the count byte at offset `at_`. -/
  | counted (base per at_ : Nat)
  /-- A length by the byte at offset 0, for TSEQ_SET: 52 for a sequence, 12 for a timer (0x80 on), 8 for the global record (0xF0 on)
  (R278). -/
  | target
  deriving DecidableEq, Repr

/-- The length expected of parameters of a wrong length; none when the length is one the opcode takes (R363 check 6, R539). -/
def Plen.expected (x : Plen) (p : List Byte) : Option Nat :=
  match x with
  | .fixed n => if p.length = n then none else some n
  | .range lo hi => if lo ≤ p.length ∧ p.length ≤ hi then none else some 0xFFFF
  | .counted base per at_ =>
    if p.length ≤ at_ then some 0xFFFF
    else if p.length = base + per * byteAt p at_ then none else some (base + per * byteAt p at_)
  | .target =>
    if p.length = 0 then some 0xFFFF
    else
      let n := if byteAt p 0 < 0x80 then 52 else if byteAt p 0 < 0xF0 then 12 else 8
      if p.length = n then none else some n

/-- A field of the parameters that selects an object: its offset, its width in bytes, its range, and the setting under which it is
checked (R364). -/
structure Fld where
  /-- PARAMS offset. -/
  off : Nat
  /-- Width in bytes. -/
  width : Nat := 1
  /-- Lowest value in range. -/
  lo : Nat := 0
  /-- Highest value in range. -/
  hi : Nat
  deriving DecidableEq, Repr

/-- The PARAMS offset of the first field out of range (R364). -/
def firstBad (p : List Byte) : List Fld → Option Nat
  | [] => none
  | f :: fs =>
    if f.lo ≤ fieldAt p f.off f.width ∧ fieldAt p f.off f.width ≤ f.hi then firstBad p fs else some f.off

/-- One Zhoenne opcode: its row of R390 and its handler. -/
structure OpSpec where
  /-- OPCODE. -/
  op : Nat
  /-- First version that has it. -/
  v : Nat := 1
  /-- Permitted in SAFE HOLD. -/
  sh : Bool := true
  /-- Lengths of its parameters. -/
  plen : Plen
  /-- Offset of the first field out of range, for a version and parameters (R364). -/
  bad : Nat → List Byte → Option Nat := fun _ _ => none
  /-- Refused while the configuration state is APPLYING (R383). -/
  app : Bool := false
  /-- Result length fixed by the opcode and its parameters, where it can exceed 240 bytes (R363 check 10). -/
  big : List Byte → Option Nat := fun _ => none
  /-- Its effect. -/
  run : Req → State → State × Ans

/-- The PLEN limit of a version (R358). -/
def plenLimit (ver : Nat) : Nat := if ver = 1 then 240 else 496

/-- Opcodes of the opcode table with the first version that has each (R390). -/
def opcodes : List (Nat × Nat) :=
  [(0x0001, 1), (0x0002, 1), (0x0003, 1), (0x0004, 1), (0x0101, 1), (0x0102, 1), (0x0103, 1), (0x0104, 1), (0x0201, 1),
    (0x0202, 1), (0x0203, 1), (0x0204, 1), (0x0205, 2), (0x0301, 1), (0x0302, 1), (0x0303, 1), (0x0304, 1), (0x0305, 1),
    (0x0306, 1), (0x0307, 1), (0x0308, 1), (0x0401, 1), (0x0402, 1), (0x0403, 2), (0x0404, 2), (0x0405, 2), (0x0406, 2)] ++
  [(0x0501, 1), (0x0502, 1), (0x0503, 1), (0x0504, 1), (0x0505, 1), (0x0506, 2), (0x0601, 1), (0x0602, 1), (0x0603, 1),
    (0x0604, 1), (0x0605, 1), (0x0606, 1), (0x0701, 1), (0x0702, 1), (0x0703, 1), (0x0704, 1), (0x0705, 1), (0x0706, 1),
    (0x0707, 2), (0x0708, 2), (0x0801, 1), (0x0802, 1), (0x0803, 1), (0x0804, 1), (0x0805, 1), (0x0806, 1), (0x0807, 2)] ++
  [(0x0901, 1), (0x0902, 1), (0x0903, 1), (0x0904, 1), (0x0A01, 1), (0x0A02, 1), (0x0A03, 1), (0x0A04, 1), (0x0A05, 1),
    (0x0A06, 1), (0x0B01, 1), (0x0B02, 1), (0x0B03, 1), (0x0B04, 1), (0x0B05, 1), (0x0B06, 1), (0x0B07, 1), (0x0B08, 1),
    (0x0C01, 1), (0x0C02, 1), (0x0C03, 1), (0x0C04, 2), (0x0D01, 1), (0x0D02, 1), (0x0D03, 1), (0x0D04, 1), (0x0D05, 1)] ++
  [(0x0D06, 1), (0x0E01, 1), (0x0E02, 1), (0x0E03, 1), (0x0E04, 1), (0x0F01, 1), (0x0F02, 1), (0x0F03, 1), (0x0F04, 1),
    (0x0F05, 1), (0x0F06, 1), (0x1001, 1), (0x1002, 1), (0x1003, 1), (0x1004, 1), (0x1005, 1), (0x1101, 1), (0x1102, 1),
    (0x1103, 1), (0x1104, 1), (0x1105, 1), (0x1201, 2), (0x1202, 2)]

/-- Check 5: the opcode is in the table and available in the version (R363). -/
def opKnown (ver op : Nat) : Bool := opcodes.any (fun x => decide (x.1 = op) && decide (x.2 ≤ ver))

/-- Checks 1 to 5 of R363 over the bytes received: the first that fails, with its result (R539). -/
def receiveCheck (bs : List Byte) : Option (Status × List Byte) :=
  let n := bs.length
  let crc := crc16 (bs.take (n - 2))
  let plen := fieldAt bs 4 2
  let ver := byteAt bs 0
  if n < 8 then some (.badLength, le16 8 ++ le16 n)
  else if crc ≠ fieldAt bs (n - 2) 2 then some (.badCheck, le16 crc ++ le16 (fieldAt bs (n - 2) 2))
  else if ver ≠ 1 ∧ ver ≠ 2 then some (.versionUnsupported, [1, 2])
  else if plenLimit ver < plen then some (.badLength, le16 (plenLimit ver) ++ le16 plen)
  else if plen ≠ n - 8 then some (.badLength, le16 (plen + 8) ++ le16 n)
  else if opKnown ver (fieldAt bs 2 2) then none
  else some (.unknownOpcode, [])

/-- Checks 3 to 7 of R363 of a request under its opcode: the first that fails, with its result (R539). -/
def OpSpec.paramCheck (o : OpSpec) (ver : Nat) (p : List Byte) : Option (Status × List Byte) :=
  if ver ≠ 1 ∧ ver ≠ 2 then some (.versionUnsupported, [1, 2])
  else if plenLimit ver < p.length then some (.badLength, le16 (plenLimit ver) ++ le16 p.length)
  else if ver < o.v then some (.unknownOpcode, [])
  else
    match o.plen.expected p with
    | some n => some (.badLength, le16 n ++ le16 p.length)
    | none =>
      match o.bad ver p with
      | some off => some (.notPresent, le16 off)
      | none => none

end Sys2Proof.Machine
end

