-- ==== Sys2Proof/Machine/Protocol.lean ====
section
/-! DEFINITION. The command interpreter: order, repetition, checks 8-10, replies and their delivery, and commands whose reply waits
for an operation (R360-R371, R374, R375, R541). -/

namespace Sys2Proof.Machine

/-- The bytes of a reply (R360, R361). -/
def Reply.bytes (r : Reply) : List Byte :=
  let body := [byte r.ver, byte r.tag, byte r.status] ++ (if r.ver = 1 then [] else [byte r.rflags]) ++
    le16 r.result.length ++ r.result
  body ++ le16 (crc16 body)

/-- The bytes of a command packet (R358). -/
def commandBytes (ver tag op : Nat) (params : List Byte) : List Byte :=
  let body := [byte ver, byte tag] ++ le16 op ++ le16 params.length ++ params
  body ++ le16 (crc16 body)

/-- At least one event pending bit is set (R362). -/
def anyPending (s : State) : Bool := (List.finRange 1024).any (fun e => s.router.ev[e].pending)

/-- RFLAGS of a reply that is sent now (R362). (DEDUCED 9, safe.) -/
def rflagsOf (s : State) (src : Source) (repeated : Bool) : Nat :=
  b2n repeated * 4 + b2n (!s.proto.greeted.contains src) * 2 + b2n (anyPending s)

/-- The version in use towards a source: what its HELLO chose, or else that of its latest command (R375). Beyond 64 Seam sources the
least recently heard is forgotten. -/
def noteVersion (src : Source) (ver : Nat) (byHello : Bool) (l : List (Source × Nat × Bool)) : List (Source × Nat × Bool) :=
  let old := l.find? (fun x => decide (x.1 = src))
  let new : Source × Nat × Bool :=
    match old with
    | some x => if x.2.2 && !byHello then x else (src, ver, byHello)
    | none => (src, ver, byHello)
  let rest := l.filter (fun x => decide (x.1 ≠ src))
  new :: (rest.filter (fun x => decide (x.1 = .host)) ++ (rest.filter (fun x => decide (x.1 ≠ .host))).take (if src = .host then 64 else 63))

/-- A numbered reply on its way: to the host port's reply window, to the Seam address, or hop-routed to a source without address; the
reply of a broadcast command waits its delay (R371, R405, R429, R541). -/
def deliver (p : Packet) (r : Reply) (s : State) : State :=
  let n := s.proto.replyNo
  let s1 : State := { s with proto := { s.proto with replyNo := n + 1 } }
  match p.src with
  | .host =>
    { s1 with
      proto := { s1.proto with outbox := s1.proto.outbox ++ [(n, r)] }, hp := { s1.hp with st := .busy, rplLen := 0 } }
  | .seam a =>
    if p.bcast then { s1 with seam := { s1.seam with bcastDue := s1.seam.bcastDue ++ [(p.src, r, n)] } }
    else { s1 with seam := s1.seam.originate 2 0 a 0 r.bytes (some n) none }
  | .hop q rem =>
    if p.bcast then { s1 with seam := { s1.seam with bcastDue := s1.seam.bcastDue ++ [(p.src, r, n)] } }
    else { s1 with seam := s1.seam.originateHop q rem r.bytes n }

/-- BAD_CHECK, once drawn, is kept in CRC_ERR_SEEN (R366, R388). -/
def noteCheck (st : Status) (s : State) : State := if st = .badCheck then globSet 0x2 s else s

/-- A command is answered: the reply is formed and delivered, and kept when the command was executed; BAD_CHECK sets CRC_ERR_SEEN (R360,
R362, R366, R370, R371, R388). -/
def answer (p : Packet) (st : Status) (result : List Byte) (s0 : State) : State :=
  let s := noteCheck st s0
  let r : Reply :=
    { ver := if p.ver = 1 then 1 else 2, tag := p.tag, status := st.sent p.ver, rflags := rflagsOf s p.src false, result := result }
  let t := deliver p r s
  { t with
    free := t.free + 1
    proto := { t.proto with
      greeted := p.src :: t.proto.greeted.filter (fun x => decide (x ≠ p.src))
      versions := if p.ver = 1 ∨ p.ver = 2 then noteVersion p.src p.ver false t.proto.versions else t.proto.versions
      kept := if st.executed then
          { src := p.src, cmd := p, reply := r, at_ := s.hem.ticks } :: t.proto.kept.filter (fun k => decide (k.src ≠ p.src))
        else t.proto.kept } }

/-- A command is answered with the reply kept, with REPEATED set; it counts as its source's latest (R370, R375). (DEDUCED 9, safe.) -/
def answerKept (p : Packet) (k : Reply) (s : State) : State :=
  let t := deliver p { k with rflags := rflagsOf s p.src true } s
  { t with
    free := t.free + 1
    proto := { t.proto with
      greeted := p.src :: t.proto.greeted.filter (fun x => decide (x ≠ p.src))
      versions := if p.ver = 1 ∨ p.ver = 2 then noteVersion p.src p.ver false t.proto.versions else t.proto.versions } }

/-- The bytes of two commands are equal (R370). -/
def Packet.same (a b : Packet) : Bool :=
  decide (a.src = b.src) && decide (a.op = b.op) && decide (a.ver = b.ver) && decide (a.tag = b.tag) &&
    decide (a.params = b.params)

/-- The kept reply that a command repeats: the last executed command of its source, equal to it, answered within 1 s (R370). -/
def keptFor (s : State) (p : Packet) : Option Reply :=
  (s.proto.kept.find? (fun k => decide (k.src = p.src) && k.cmd.same p && decide (p.rx ≤ k.at_ + oneSecond))).map Kept.reply

/-- The packet a request stands for, received now. -/
def Req.packet (q : Req) (op : Nat) (s : State) : Packet :=
  { src := q.src, op := op, ver := q.ver, tag := q.tag, params := q.params, rx := s.hem.ticks, bcast := false }

/-- RAIL_ENABLE during a map apply: it is refused at once, though RAILMAP_APPLY has not replied (R84, R94, R113). (DEDUCED 156, safe.) -/
def refusedInApply (p : Packet) (s : State) : Bool :=
  decide (p.op = 0x0301) && s.map.applying && (match s.proto.exec with
    | some (_, .mapStore) => true
    | _ => false)

/-- A submission over the host port: BUSY, and any unread reply is discarded (R405). -/
def submitted (s : State) : State := { s with hp := { s.hp with st := .busy, rplLen := 0, rpl := [] } }

/-- A byte of the command window or DOORBELL is refused in BUSY (R403, R405). -/
def nackBusy (s : State) : State := hpSet 0x40 s

/-- A command's turn: the manager runs, executes none, and this one is the first waiting; with none
waiting it is received and executed now, from the host port only where no command of it is under
way (R369, R405). (DEDUCED 8, safe.) (DEDUCED 156, safe.) -/
def takeTurn (p : Packet) (s : State) : Option (Packet × State) :=
  if s.proto.running ∧ (s.proto.exec = none ∨ refusedInApply p s = true) then
    match s.proto.waiting with
    | [] =>
      if p.src ≠ .host then some (p, s)
      else if s.hp.st = .busy then none
      else some (p, submitted s)
    | h :: t => if h.same p ∧ h.fail = none then some (h, { s with proto := { s.proto with waiting := t } }) else none
  else none

/-- A command that arrives by Seam while the manager does not run waits in the receive buffer of 8 frames, beyond which it is dropped
and counted (R431). The port it came by is known of a source without an address only, and stands as A else. (DEDUCED 8, safe.) -/
def bufferCommand (p : Packet) (s : State) : State :=
  let x : Port × Nat := match p.src with
    | .hop q rem => (q, rem)
    | _ => (.a, 0)
  let f : Frame :=
    { ftype := 1, fflags := if p.bcast then 1 else 0, dst := s.seam.addr.getD 0
      src := match p.src with
        | .seam a => BitVec.ofNat 16 a
        | _ => 0x8000
      rem := 1, hops := x.2, domain := 0, seq := 0, payload := commandBytes p.ver p.tag p.op p.params }
  wakeReq (.seamFrame x.1)
    (if s.seam.rxBuf.length < 8 then { s with seam := { s.seam with rxBuf := s.seam.rxBuf ++ [(x.1, f, s.hem.ticks, 0)] } }
    else { s with seam := { s.seam with fwdDrops := sat16 s.seam.fwdDrops 1 } })

/-- A command that has not its turn. Over the host port it is refused in BUSY, since one at a time is under way. While the manager runs it
joins the 8 that may wait, and beyond them draws BUSY with cause 1; while it does not, a host command waits unchecked, and one by Seam in
the receive buffer (R369, R405, R431). (DEDUCED 8, safe.) -/
def joinQueue (p : Packet) (s : State) : State :=
  if p.src = .host ∧ s.hp.st = .busy then nackBusy s
  else if s.proto.running = false then
    if p.src = .host then
      let t := submitted s
      { t with proto := { t.proto with raw := t.proto.raw ++ [(.host, commandBytes p.ver p.tag p.op p.params, s.hem.ticks, false)] } }
    else bufferCommand p s
  else
    let t := if p.src = .host then submitted s else s
    if t.proto.waiting.length < 8 then { t with proto := { t.proto with waiting := t.proto.waiting ++ [p] } }
    else answer p .busy [1] (globSet 0x4 t)

/-- The packets at the head of those waiting that fail a check of 1 to 5. -/
def failedHead (s : State) : List Packet := s.proto.waiting.takeWhile (fun p => p.fail.isSome)

/-- Packets that fail a check of 1 to 5 are answered in their turn, once no command before them is in execution (R363, R369). -/
def serveFailed (s : State) : State :=
  if s.proto.running ∧ s.proto.exec = none then
    (failedHead s).foldl (fun t p => answer p (p.fail.getD (.badLength, [])).1 (p.fail.getD (.badLength, [])).2 t)
      { s with proto := { s.proto with waiting := s.proto.waiting.dropWhile (fun p => p.fail.isSome) } }
  else s

/-- Check 8 and the part of check 9 that R383 states (R363, R478). -/
def OpSpec.gate (o : OpSpec) (s : State) : Option (List Byte) :=
  if s.pwr.st = .safeHold ∧ o.sh = false then some [6, 4, 0xFF, 0]
  else if s.proto.cfg = .applying ∧ o.app then some [7, 2, 0xFF, 0]
  else none

/-- What executing a command's handler comes to, with check 10 (R363, R374). (DEDUCED 10, safe.) -/
def OpSpec.finish (o : OpSpec) (p : Packet) (s : State) (out : State × Ans) : Host.Outcome State Fault Refusal :=
  match out.2 with
  | .undef f => .fault f
  | .defer d => .next { out.1 with proto := { out.1.proto with exec := some (p, d) } }
  | .reply st result =>
    if st.stateRule then .next (answer p st result out.1)
    else
      match (if p.ver = 1 then (if 240 < (o.big p.params).getD 0 then o.big p.params
          else if (st.executed ∨ st = .planImpossible) ∧ 240 < result.length then some result.length else none) else none) with
      | some n => .next (answer p .badLength (le16 240 ++ le16 n) s)
      | none => .next (answer p st result out.1)

/-- A command that has its turn: the kept reply, a failed check, or its execution (R363, R370). -/
def OpSpec.process (o : OpSpec) (p : Packet) (s : State) : Host.Outcome State Fault Refusal :=
  match keptFor s p with
  | some k => .next (answerKept p k s)
  | none =>
    match o.paramCheck p.ver p.params with
    | some (st, result) => .next (answer p st result s)
    | none =>
      match o.gate s with
      | some record => .next (answer p .refusedState record s)
      | none => o.finish p s (o.run { src := p.src, ver := p.ver, tag := p.tag, params := p.params } s)

/-- A Zhoenne command row: the manager, resumed in DOZE, executes the command in its turn; otherwise
the command waits (R369, R468). A module without power receives none, and a host port without its engine none (R411, R412, R467,
R479). (DEDUCED 8, safe.) -/
def runOp (o : OpSpec) (q : Req) (s : State) : Host.Outcome State Fault Refusal :=
  if s.off ∨ (q.src = .host ∧ s.hp.engine = false) then .next s
  else
    match takeTurn (Req.packet q o.op s) (resume s) with
    | some (p, s1) =>
      match o.process p s1 with
      | .next t => .next (serveFailed t)
      | x => x
    | none => .next (joinQueue (Req.packet q o.op s) (resume s))

/-- The command in execution is answered: its operation has ended (R371). -/
def complete (st : Status) (result : List Byte) (s : State) : State :=
  match s.proto.exec with
  | some (p, _) => serveFailed (answer p st result { s with proto := { s.proto with exec := none } })
  | none => s

/-- The packet that received bytes are, with the first of checks 1 to 5 that they fail (R358, R363). -/
def packetOf (src : Source) (bcast : Bool) (rx : Nat) (bs : List Byte) : Packet :=
  { src := src, op := fieldAt bs 2 2, ver := byteAt bs 0, tag := byteAt bs 1, params := (bs.drop 6).take (fieldAt bs 4 2)
    rx := rx, bcast := bcast, fail := receiveCheck bs }

/-- A packet received whole: it waits for its turn, in which its checks are made; those of its bytes alone are noted with it (R363,
R369). (DEDUCED 8, safe.) -/
def receive (src : Source) (bcast : Bool) (rx : Nat) (bs : List Byte) (s : State) : State :=
  let p := packetOf src bcast rx bs
  if s.proto.waiting.length < 8 then serveFailed { s with proto := { s.proto with waiting := s.proto.waiting ++ [p] } }
  else answer p .busy [1] (globSet 0x4 s)

/-- The manager stops: every waiting command, and the one in execution where the stop does not wait for it, is discarded, with the
kept replies (R371). -/
def discardCommands (s : State) : State :=
  { s with proto := { s.proto with
      running := false
      dropped := s.proto.dropped ++ (match s.proto.exec with
        | some (p, _) => [p]
        | none => []) ++ s.proto.waiting
      waiting := []
      exec := none
      kept := []
      greeted := [] } }

/-- The commands discarded are answered DROPPED once the manager runs (R371). -/
def answerDropped (s : State) : State :=
  s.proto.dropped.foldl (fun t p => answer p .dropped [] t) { s with proto := { s.proto with dropped := [] } }

/-- The packets received while the manager did not run are checked, in order of reception (R369, R405). -/
def receiveRaw (s : State) : State :=
  s.proto.raw.foldl (fun t x => receive x.1 x.2.2.2 x.2.2.1 x.2.1 t) { s with proto := { s.proto with raw := [] } }

/-- The frame that carries reply `n` is still queued or being sent on a port (R541). -/
def PortSt.replyOut (p : PortSt) (n : Nat) : Bool := (p.queue ++ p.sending.toList).any (fun q => decide (q.reply = some n))

/-- Reply `n` has left the module: by Seam, no port still carries it and it waits for no delay; by the host port, it has been placed in the
window, and TAKE has been written or 10 ms have passed (R541). (DEDUCED 97, safe.) -/
def replyLeft (n : Nat) (s : State) : Bool :=
  !s.proto.outbox.any (fun x => decide (x.1 = n)) && !s.hp.untaken.contains n && !s.seam.a.replyOut n && !s.seam.b.replyOut n &&
    !s.seam.bcastDue.any (fun x => decide (x.2.2 = n))

/-- The address of SEAM_ADDRESS_SET takes effect once its reply has left (R450). -/
def adoptAddress (s : State) : State :=
  match s.seam.addrNext with
  | some (a, n) =>
    if replyLeft n s then { s with seam := { s.seam with addr := some a, addrNext := none } } else s
  | none => s

end Sys2Proof.Machine
end

