-- ==== Sys2Proof/Machine/Cells.lean ====
section
/-! DEFINITION. One power cell: its monitors, its PWM boundary, its error converter and the messages of the rail bus as they reach it
(chapter 02, R78, R140-R142, R150, R183, R211). -/

namespace Sys2Proof.Machine

/-! ## Messages -/

/-- A corrected message: BUS_CORR (R58). -/
def Cell.noteCorr (c : Cell) : Cell := { c with flags := c.flags ||| 0x40 }

/-- A discarded message: BUS_UNCORR and BUS_ERRS (R58). -/
def Cell.noteUncorr (c : Cell) : Cell := { c with flags := c.flags ||| 0x80, busErrs := satInc 255 c.busErrs }

/-- A message reaches a cell: a corrected one is acted on, an uncorrectable one is discarded (R58). -/
def busRx (c : Fin 256) (ecc : Ecc) (act : State → State) (s : State) : State :=
  match ecc with
  | .clean => act s
  | .corrected => act (changeCell s c Cell.noteCorr)
  | .uncorrectable => changeCell s c Cell.noteUncorr

/-- A cell latches the first message in flight to it that passes a test (R56-R58, R60); where there is none, nothing arrives. -/
def latch (sel : Msg → Bool) (c : Fin 256) (ecc : Ecc) (act : Msg → State → State) (s : State) : State :=
  match takeFrom sel c.val s.bus with
  | some (m, rest) => busRx c ecc (act m) { s with bus := rest }
  | none => s

/-! ## Isolation -/

/-- The rail whose VALID active entry names a cell (R70). -/
def railOf (s : State) (c : Nat) : Option Nat := (upto 48).find? (fun r => (s.memberSet r).getLsbD c)

/-- A start is abandoned: START_FAIL, the rail OFF with its event, and the slot that qualifies it fails (R116, R235). -/
def abandonStart (r : Nat) (s : State) : State :=
  let s1 := abandonRail r (modRail s (fin48 r) (fun x => { x with sp := { x.sp with startFail := true } }))
  if (s.rail r).qualifying then failStart (s.dom.cur.getD 0xFF) s1 else s1

/-- What the fabric does after a member has left service: the pending shed is cancelled, the rewrite of ranks is due, and a start
none of whose members can reach ARMED is abandoned (R78, R116, R149, R211). -/
def memberLost (r : Nat) (s : State) : State :=
  let s1 := changePhase r PhaseCtx.cancel (modRail s (fin48 r) (fun x => { x with rewriteDue := true }))
  if (s1.rail r).st = .starting ∧ (s1.rail r).released = false ∧ s1.servingN r = 0 then abandonStart r s1 else s1

/-- The cell is ISOLATED: switches off, cause kept, ISO_EVENT set (R36, R39, R211). -/
def Cell.isolated (cause : BitVec 8) (c : Cell) : Cell :=
  { c.turnOff with st := .isolated, isoCause := cause, flags := c.flags ||| 0x100 }

/-- A cell enters ISOLATED from OFF, ARMED, SWITCHING or SHED (R36); a tack probe in progress is aborted (R86). -/
def isolateCell (c : Fin 256) (cause : BitVec 8) (s : State) : State :=
  if s.cells[c].st = .off ∨ s.cells[c].st.serves then
    let s1 := abortProbe (changeCell s c (Cell.isolated cause))
    match railOf s1 c.val with
    | some r => memberLost r s1
    | none => s1
  else s

/-- CELL_FAULT: a cause of R63 that a monitor detects isolates the cell (R210, R211). COMMANDED is no
monitor's cause. (DESIGN CHOICE 14, unsafe.) -/
def execCellFault (c : Fin 256) (cause : BitVec 8) (s : State) : Host.Outcome State Fault Refusal :=
  .next (if 1 ≤ cause.toNat ∧ cause.toNat ≤ 11 ∧ cause ≠ 8 then isolateCell c cause s else s)

/-- INPUT_SWITCH: the node has not come within 0.3 V of VIN 500 µs after precharge began (R38); closed, it lies more than 0.6 V below
VIN (R210). -/
def execInputSwitch (c : Fin 256) (s : State) : Host.Outcome State Fault Refusal :=
  .next (if s.cells[c].precharge || s.cells[c].isoSw then isolateCell c 0x0A s else s)

/-- ISLAND_CLOCK: a count outside 150-350 MHz sets CLK_FAULT and isolates the cell (R55). -/
def execIslandClock (c : Fin 256) (kHz : Nat) (s : State) : Host.Outcome State Fault Refusal :=
  .next (if kHz < 150000 ∨ 350000 < kHz then
      isolateCell c 0x09 (changeCell s c (fun x => { x with flags := x.flags ||| 0x200 }))
    else s)

/-- INPUT_NODE_READY: the main switch closes and the cell is ARMED (R36, R38). -/
def execInputNodeReady (c : Fin 256) (s : State) : Host.Outcome State Fault Refusal :=
  .next (changeCell s c (fun x =>
    if x.precharge ∧ x.st = .off then { x with st := .armed, isoSw := true, precharge := false } else x))

/-- BUS_SILENT: acknowledgements missed for two consecutive periods are a cell fault, from OFF as from service (R36, R60, R210). -/
def execBusSilent (c : Fin 256) (s : State) : Host.Outcome State Fault Refusal := .next (isolateCell c 0x0B s)

/-- An ISOLATE with a cause code, the low byte of its payload (R57). -/
def Msg.isolates (cause : BitVec 8) (m : Msg) : Bool := decide (m.type = .isolate) && decide (m.payload.setWidth 8 = cause)

/-- ISOLATE: the message isolates the cell with its cause code; a reserved code is never reported, and
counts as COMMANDED (R36, R57, R63). (DESIGN CHOICE 14, unsafe; DESIGN CHOICE 107, safe.) -/
def execIsolate (c : Fin 256) (cause : BitVec 8) (ecc : Ecc) (s : State) : Host.Outcome State Fault Refusal :=
  let left := ((takeFrom (Msg.isolates cause) c.val s.bus).map Prod.snd).getD s.bus
  .next (busRx c ecc (isolateCell c (if 1 ≤ cause.toNat ∧ cause.toNat ≤ 11 then cause else 8)) { s with bus := left })

/-- Words of a coefficient set or of limits that some cell has not latched (R109, R200). -/
def wordsOut (s : State) (r : Nat) : Bool :=
  s.bus.any (fun m => decide (m.type = .configWr) && (!m.bcast || decide (m.dst = r)) &&
    (decide (m.index = 0x35) || (decide (coefWord ≤ m.index) && decide (m.index ≤ sinkWord))))

/-- RAIL_SET_COMP or LIMITS_SET is answered once every cell has latched its words or is left out (R109, R200). -/
def settleWords (s : State) : State :=
  match s.proto.exec with
  | some (_, .words r) => if wordsOut s r then s else complete .done [] s
  | _ => s

/-- HS_TIMEOUT: the oldest broadcast in flight completes without the cell (R60). -/
def execHsTimeout (c : Fin 256) (s : State) : Host.Outcome State Fault Refusal :=
  let left := ((takeFrom (fun m => m.bcast) c.val s.bus).map Prod.snd).getD s.bus
  .next (settleWords (changeCell { s with bus := left } c (fun x => { x with flags := x.flags ||| 0x20, busErrs := satInc 255 x.busErrs })))

/-- RESERVED_MESSAGE: types 0xA-0xF are discarded and counted in BUS_ERRS (R57). -/
def execReservedMessage (c : Fin 256) (type : Nat) (ecc : Ecc) (s : State) : Host.Outcome State Fault Refusal :=
  .next (if 0xA ≤ type ∧ type ≤ 0xF then busRx c ecc (fun t => changeCell t c (fun x => { x with busErrs := satInc 255 x.busErrs })) s
    else s)

/-! ## The PWM generator -/

/-- I_pk in µA: PK_LIM × 31.25 mA, reserved codes acting as the nearest end (R53). -/
def Cell.peakLimit (c : Cell) : Nat := clampNat 0x40 0xC0 c.pkLim * 31250

/-- S in mA per µs: RAMP × 0.5 A/µs, reserved codes acting as 0x3F (R53). -/
def Cell.slope (c : Cell) : Nat := min 0x3F c.ramp * 500

/-- 32 × I_th(t) in µA, t in PWM steps of 39.0625 ps after the leading edge (R49, R53): a step is 5/128 ns, and S × t is S × 5/128 µA. -/
def Cell.threshold32 (c : Cell) (t : Nat) : Int := 32 * (c.peakLimit : Int) - (c.slope * t * 5 / 4 : Nat)

/-- An ON_TIME limited to PERIOD - 462 (R49). (DEDUCED 114, safe.) -/
def limitOn (period on : Nat) : Nat := min on (period / 65536 - 462)

/-- The pulse that the ON_TIME in force gives: limited when it is issued (R49). -/
def Cell.issued (c : Cell) : Nat := limitOn c.period c.onTime

/-- PEAK_TRIP: the comparator asserts some steps after the leading edge at a current in µA. It ends the pulse where the current reaches the
threshold before the scheduled trailing edge; at or after that edge it ends nothing and is not counted (R53, R54). -/
def execPeakTrip (p : PeakCross) (s : State) : Host.Outcome State Fault Refusal :=
  .next (changeCell s p.cell (fun x =>
    if x.pulse ∧ p.step < x.issued ∧ x.threshold32 p.step ≤ 32 * p.microAmps then
      { x with pulse := false, peakTrips := satInc 255 x.peakTrips, flags := x.flags ||| 0x8 }
    else x))

/-- ZERO_CROSS: in diode emulation the low-side switch turns off until the next leading edge (R40). -/
def execZeroCross (c : Fin 256) (s : State) : Host.Outcome State Fault Refusal :=
  .next (changeCell s c (fun x => if x.diodeEm ∧ x.st = .switching then { x with lsOff := true } else x))

/-- An active count: 0 acts as 1, values above M act as M (R140). -/
def actCount (m a : Nat) : Nat := clampNat 1 (max 1 m) a

/-- P_eff (R138). -/
def Cell.pEff (c : Cell) : Nat := min c.pos c.aCnt

/-- PHASE, floor(q × PERIOD / P_eff) with q = (f + ROT) mod P_eff (R138). -/
def Cell.phaseWord (c : Cell) : Nat := (c.fIdx + c.rot) % c.pEff * c.period / (c.pEff * 65536)

/-- N, the samples the error converter takes in a switching period: the largest whose rate does not exceed 12 MS/s at the rail's
frequency in whole hertz (R46). -/
def sampleCount (period : Nat) : Nat := 12000000 / (roundDiv (25600000000 * 65536) period).toNat

/-- The words that take effect at a period boundary: limits, PERIOD at the boundary counted, with
which N is formed anew, ON_TIME (R46, R51, R183, R200). (DEDUCED 114, safe.) -/
def Cell.takeWords (c : Cell) : Cell :=
  let n := (c.boundary + 1) % 256
  let due := decide (c.periodAt = some n) && c.periodNext.isSome
  let period := if due then c.periodNext.getD c.period else c.period
  { c with
    boundary := n
    pkLim := (c.limNext.getD (c.pkLim, c.ramp)).1, ramp := (c.limNext.getD (c.pkLim, c.ramp)).2, limNext := none
    period := period
    periodNext := if due then none else c.periodNext, periodAt := if c.periodAt = some n then none else c.periodAt
    onTime := c.onTimeNext.getD c.onTime, onTimeNext := none, sampCnt := 0 }

/-- The ARM or APPLY latched takes effect: the ARM governs A, and an APPLY beside it gives P and ROT (R142, R150, R153). (DEDUCED 150,
safe.) -/
def Cell.takePhase (c : Cell) : Cell :=
  match c.armNext, c.applyNext with
  | false, none => c
  | arm, x =>
    let y := x.getD (c.aCnt, c.pos, c.rot)
    { c with aCnt := if arm then max 1 c.mCnt else actCount c.mCnt y.1, pos := y.2.1, rot := y.2.2, armNext := false, applyNext := none, pendA := none }

/-- The PHASE that the words latched so far give the cell at its next boundaries (R138). -/
def Cell.phaseNext (c : Cell) : Nat :=
  { c.takePhase with period := if c.periodAt.isSome then c.periodNext.getD c.period else c.period }.phaseWord

/-- A PHASE change that moves the leading edge to before the present time within the period leaves the pulse of that period unissued; how
far the period has run is not held, and is free (R52). (DESIGN CHOICE 117, safe.) -/
def Cell.movePhase (before : Cell) (past : Bool) (c : Cell) : Cell :=
  { c with pulse := c.pulse && !(decide (c.phaseNext ≠ before.phaseNext) && decide (c.phaseNext < c.phase) && past) }

/-- A cell changed by a word that may move its PHASE (R52). -/
def changePhasing (c : Fin 256) (f : Cell → Cell) (s : State) : State :=
  bump (changeCell s c (fun x => Cell.movePhase x (Config.freeBool s.free) (f x)))

/-- SHED and SWITCHING by the active count; a cell that took over the lead while SHED switches whatever A says (R137, R152). -/
def Cell.takeShed (c : Cell) : Cell :=
  if c.st = .switching ∨ c.st = .shed then
    { c with st := if c.fIdx < c.aCnt ∨ c.leadActive then .switching else .shed }
  else c

/-- The pulse in progress lies beyond the end of the period in progress: its trailing edge falls in the next (R49, R142). -/
def Cell.spills (c : Cell) : Bool := c.pulse && decide (c.st = .switching) && decide (c.steps < c.phase + c.issued)

/-- The period that begins: its length by the fraction accumulator, and its pulse; an ON_TIME of 1-230 steps is omitted; a cell entering
SHED completes a pulse already started (R41, R49, R50, R142). -/
def Cell.openPeriod (spill : Bool) (c : Cell) : Cell :=
  let sum := c.acc + c.period % 65536
  let on := decide (c.st = .switching) && decide (231 ≤ c.issued)
  let short := decide (c.st = .switching) && decide (1 ≤ c.issued) && decide (c.issued < 231)
  { c with
    acc := sum % 65536, steps := c.period / 65536 + sum / 65536
    pulse := on || (decide (c.st = .shed) && spill), lsOff := c.lsOff && !on
    omitted := c.omitted || short
    flags := if short then c.flags ||| 0x10 else c.flags }

/-- A PWM period boundary of a cell: the average of the period that ends is taken, buffered words and pending changes take effect, and
the next period begins (R36, R42, R50, R51, R114, R117, R138, R142). -/
def Cell.periodBoundary (avg : Int) (c : Cell) : Cell :=
  let c1 := c.takeWords
  let c2 := { c1 with iSum := c1.iSum + clampInt (-4000) 8000 avg, iN := c1.iN + 1 }
  if c2.stopNext then c2.turnOff
  else
    let c3 := c2.takePhase
    let c4 := if c3.runNext ∧ c3.st = .armed then { c3 with st := .switching, runNext := false } else c3
    let c5 := c4.takeShed
    let c6 := { c5 with diodeEm := c5.demNext.getD c5.diodeEm, demNext := none }
    ({ c6 with phase := c6.phaseWord }).openPeriod c.spills

/-- A rail period boundary at the hub: a shed whose APPLY is out commits and counts, another A sent is in force, and a broadcast ARM may
be sent again (R142, R149, R150, R167). -/
def PhaseCtx.boundary (p : PhaseCtx) : PhaseCtx :=
  match p.committing, p.pend with
  | true, some a => { p with a := a, pend := none, committing := false, aNext := none, qual := 0, sheds := satInc 65535 p.sheds,
                             armSent := false }
  | _, _ => { p with a := p.aim, aNext := none, armSent := false }

/-- An APPLY of a rail that some member has not latched (R142). -/
def applyFlies (s : State) (r : Nat) : Bool := s.bus.any (fun m => decide (m.op = 0) && decide (m.dst = r))

/-- PWM_PERIOD_BOUNDARY. The boundary of a leader is that of its rail: its period begins with the rail's, and what an APPLY brings is in
force at the first that follows its latching by every member that has not been left out (R60, R142, R149). -/
def execPwmPeriodBoundary (c : Fin 256) (avg : Int) (s : State) : Host.Outcome State Fault Refusal :=
  let s1 := changeCell s c (Cell.periodBoundary avg)
  .next (match railOf s c.val with
    | some r =>
      if (s.rail r).leader = c.val then
        modRail s1 (fin48 r) (fun x => { x with ph := if applyFlies s r then { x.ph with armSent := false } else x.ph.boundary })
      else s1
    | none => s1)

/-! ## The error converter -/

/-- A code of 9 bits in steps of 0.5 mV (R45). -/
def errCode (diff : Int) : Int := clampInt (-256) 255 diff

/-- A saturated sample is counted (R45). -/
def Cell.saturation (diff : Int) (c : Cell) : Cell :=
  if 255 < diff then { c with errSats := satInc 255 c.errSats, flags := c.flags ||| 1 }
  else if diff < -256 then { c with errSats := satInc 255 c.errSats, flags := c.flags ||| 2 }
  else c

/-- One sample of a serving cell: the code joins the tick's mean, and a saturated one is counted (R45, R46, R104). -/
def Cell.sample (diff : Int) (c : Cell) : Cell :=
  Cell.saturation diff { c with errSum := c.errSum + errCode diff, errN := c.errN + 1, sampCnt := c.sampCnt + 1 }

/-- A result of the error converter is due: a serving cell has taken fewer than N in the period in progress (R46). -/
def Cell.sampleDue (c : Cell) : Bool := c.st.serves && decide (c.sampCnt < sampleCount c.period)

/-- Another cell listens in the tack probe: every cell that is not RETIRED (R85). -/
def probeListens (s : State) (c : Cell) : Bool := decide (s.map.probe = .running) && !c.st.serves

/-- A shed is pending or a member is SHED (R150). -/
def shedding (s : State) (r : Nat) : Bool :=
  (s.rail r).ph.pend.isSome || (s.members r).any (fun n => decide ((s.cell n).st = .shed))

/-- The phase manager sees a broadcast ARM: A = M, a holdoff, READDS; a pending shed is cancelled, with an APPLY of A = M where an
APPLY is out (R149, R151, R153). -/
def PhaseCtx.seeArm (out : Bool) (p : PhaseCtx) : PhaseCtx :=
  { p.cancel with a := p.m, aNext := if out then some p.m else none, holdoff := decide (p.pol.holdoff ≠ 0), readds := satInc 65535 p.readds, armSent := true }

/-- ARM: an OFF member begins precharge (R38); in any other, a pending shed ends and every SHED member returns at the next boundary
(R150). An OFF cell without a role is no member of a started rail (R75). -/
def Cell.arm (c : Cell) : Cell :=
  match c.st with
  | .off => { c with precharge := c.precharge || decide (c.role ≠ .none) }
  | .armed | .switching | .shed => { c with pendA := none, armNext := true }
  | _ => c

/-- An APPLY sent is not in force: it flies, or a member has latched it and awaits its boundary (R142, R153). -/
def applyOut (s : State) (r : Nat) : Bool :=
  (s.rail r).ph.committing || (s.rail r).ph.aNext.isSome || applyFlies s r || (s.members r).any (fun n => (s.cell n).applyNext.isSome)

/-- The leader's step detector: a sample of STEP_E or more while a shed is pending or a member is SHED is a load step. The leader acts,
and sends a broadcast ARM, which the phase manager sees; at most one per period (R150, R151). -/
def stepDetect (r : Nat) (code : Int) (s : State) : State :=
  let p := (s.rail r).ph
  if (s.rail r).st.runs ∧ p.pol.stepE ≠ 0 ∧ (p.pol.stepE : Int) ≤ code ∧ shedding s r ∧ p.armSent = false then
    let lead := (s.rail r).leader
    let s1 := changePhasing (fin256 lead) Cell.arm (post [castFrom s r lead .arm 0 0] s)
    let s2 := modRail s1 (fin48 r) (fun x => { x with ph := x.ph.seeArm (applyOut s r) })
    if applyOut s r then post [hubWord s2 r 0 p.m] s2 else s2
  else s

/-- ERROR_SAMPLE: a result of the error converter, the difference in e-LSB before the window (R45, R46, R85, R150). The converter runs in
members of a running rail, N times a period, and in every cell that listens in the tack probe. -/
def execErrorSample (c : Fin 256) (diff : Int) (s : State) : Host.Outcome State Fault Refusal :=
  let due := s.cells[c].sampleDue
  let s1 := changeCell s c (fun x => if due then x.sample diff else if probeListens s x then x.saturation diff else x)
  .next (match railOf s c.val with
    | some r => if (s.rail r).leader = c.val ∧ due then stepDetect r (errCode diff) s1 else s1
    | none => s1)

/-! ## Messages from the leader -/

/-- What a HEARTBEAT makes of the cell that latches it (R78): the cell, and whether LEADER_CONFLICT is set and the cell yields. While no
takeover has named a former leader, succession is counted from the present one. (DESIGN CHOICE 115, unsafe.) -/
def Cell.heartbeat (self src count : Nat) (c : Cell) : Cell × Bool × Bool :=
  let former := c.former.getD c.leader
  if c.former = some src then (c, false, false)
  else if src = c.leader then ({ c with lastCount := count, missing := 0, heard := true }, false, false)
  else if c.leader = self then
    if precedes former src self then
      ({ c with former := some self, leader := src, role := .follower, lastCount := count, missing := 0, heard := true }, true, true)
    else (c, true, false)
  else if 1 ≤ c.missing ∨ precedes former src c.leader then
    ({ c with former := some c.leader, leader := src, lastCount := count, missing := 0, heard := true }, false, false)
  else (c, false, false)

/-- A message of a type from a cell. -/
def Msg.isFrom (t : MsgType) (src : Nat) (m : Msg) : Bool := decide (m.type = t) && decide (m.src = src)

/-- A message of a type. -/
def Msg.isType (t : MsgType) (m : Msg) : Bool := decide (m.type = t)

/-- A message with a payload: the row names the message it brings by what that message holds. -/
def Msg.saying (w : BitVec 32) (m : Msg) : Bool := decide (m.payload = w)

/-- HEARTBEAT (R78): the count is the one its sender has put in it. A message of a cell outside the member's rail is none for this rail. -/
def execHeartbeat (c src : Fin 256) (count : Nat) (ecc : Ecc) (s : State) : Host.Outcome State Fault Refusal :=
  .next (latch (fun m => m.isFrom .heartbeat src.val && m.saying (BitVec.ofNat 32 count)) c ecc (fun m t =>
    let out := t.cells[c].heartbeat c.val src.val m.payload.toNat
    if t.cells[c].role = .none ∨ t.cells[c].members.getLsbD src.val = false then t
    else
      let t1 := changeCell t c (fun _ => out.1)
      if out.2.1 ∧ t.cells[c].st ≠ .retired then
        modRail t1 (fin48 t.cells[c].rail) (fun x =>
          { x with leaderConflict := true, leader := if out.2.2 then src.val else x.leader })
      else t1) s)

/-- SHADOW: words are taken in INDEX order from the leader; the eighth completes the set (R47, R48, R110). -/
def Cell.shadowIn (self src index : Nat) (word : BitVec 32) (c : Cell) : Cell :=
  if src ≠ c.leader ∨ c.leader = self then c
  else
    let part := if index = 0 then [word] else if index = c.shadowPart.length then c.shadowPart ++ [word] else []
    if h : part.length = 8 then { c with shadow := ⟨part.toArray, by simpa using h⟩, shadowPart := [] }
    else { c with shadowPart := part }

/-- SHADOW: the word is the one its sender has formed from its state (R47, R110). -/
def execShadow (c src : Fin 256) (index : Fin 8) (word : BitVec 32) (ecc : Ecc) (s : State) : Host.Outcome State Fault Refusal :=
  .next (latch (fun m => m.isFrom .shadow src.val && decide (m.index = index.val) && m.saying word) c ecc
    (fun m t => changeCell t c (Cell.shadowIn c.val src.val index.val m.payload)) s)

/-- DUTY: ON_TIME for the next period boundary; of two values before one boundary the later is in force (R51, R52). -/
def execDuty (c : Fin 256) (on : BitVec 16) (ecc : Ecc) (s : State) : Host.Outcome State Fault Refusal :=
  .next (latch (fun m => m.isType .duty && m.saying (on.setWidth 32)) c ecc
    (fun m t => changeCell t c (fun x => { x with onTimeNext := some (m.payload.toNat % 65536) })) s)

/-- REFERENCE: the member's copy of the instantaneous reference (R44). -/
def execReference (c : Fin 256) (code : BitVec 16) (ecc : Ecc) (s : State) : Host.Outcome State Fault Refusal :=
  .next (latch (fun m => m.isType .reference && m.saying (code.setWidth 32)) c ecc
    (fun m t => changeCell t c (fun x => { x with ref := m.payload.toNat % 65536 })) s)

/-- Bytes of the manager's copy of a status block replaced from an offset. -/
def putMirror (m : Vector Byte 16) (o : Nat) (bs : List Byte) : Vector Byte 16 :=
  mapIdx m (fun k b => if o ≤ k ∧ k < o + bs.length then bs.getD (k - o) 0 else b)

/-- CURRENT: the member's control-tick average and FLAGS, as it sent them at the boundary, reach the leader, the phase manager and, while
it runs, the manager (R42, R57, R61). -/
def execCurrent (c src : Fin 256) (word : BitVec 32) (ecc : Ecc) (s : State) : Host.Outcome State Fault Refusal :=
  .next (latch (fun m => m.isFrom .current src.val && m.saying word) c ecc (fun m t => changeCell t src (fun x =>
    { x with
      mirCurrent := ofCode 16 (m.payload.toNat % 65536)
      mirror := if s.proto.running then
          putMirror (putMirror x.mirror 2 (le16 m.payload.toNat)) 12 (le16 (m.payload.toNat / 65536))
        else x.mirror })) s)

/-! ## Messages from the manager -/

/-- STATUS_RD: the cell has four status-block bytes to send; RETIRED cells answer from their frozen block (R34, R57, R66). An INDEX that is
no multiple of 4 or lies beyond the block asks for nothing. (DESIGN CHOICE 116, safe.) -/
def execStatusRd (c : Fin 256) (index : Nat) (ecc : Ecc) (s : State) : Host.Outcome State Fault Refusal :=
  .next (busRx c ecc (fun t =>
    if index % 4 = 0 ∧ index < 16 then
      modCell t c (fun x => { x with replyDue := some (index, fieldAt x.block index 4) })
    else t) s)

/-- STATUS_REPLY: the manager's copy is refreshed while it runs (R57, R61). -/
def execStatusReply (c : Fin 256) (s : State) : Host.Outcome State Fault Refusal :=
  .next (modCell s c (fun x =>
    match x.replyDue with
    | some (o, v) => { x with replyDue := none, mirror := if s.proto.running then putMirror x.mirror o (le32 v) else x.mirror }
    | none => x))

/-- The phase control word: P as sent, 0 standing for 64 (R140). -/
def wordPos (w : Nat) : Nat := if w / 2 ^ 14 % 64 = 0 then 64 else w / 2 ^ 14 % 64

/-- The phase control word acts on a member by its OP (R140, R141). -/
def Cell.phaseControl (w : Nat) (c : Cell) : Cell :=
  match w / 2 ^ 30 % 4 with
  | 0 => { c with applyNext := some (w % 512, wordPos w, w / 2 ^ 20 % 256), pendA := none }
  | 1 => { c with pendA := some (w % 512) }
  | 2 => { c with pendA := none }
  | _ => { c with busErrs := satInc 255 c.busErrs }

/-- The five words of a coefficient set (R106, R109, R111): KP and KI, KD and A1, A2 and KFF, D_MIN and D_MAX, REG_CFG. The spec does not
lay them out. (DESIGN CHOICE 149, safe.) -/
def Coef.words (c : Coef) : List (BitVec 32) :=
  [BitVec.ofNat 32 (c.kp % 65536 + c.ki % 65536 * 65536), BitVec.ofNat 32 (c.kd % 65536 + c.a1 % 65536 * 65536),
    BitVec.ofNat 32 (c.a2 % 65536 + toCode 16 c.kff % 65536 * 65536), BitVec.ofNat 32 (c.dMin % 65536 + c.dMax % 65536 * 65536),
    BitVec.ofNat 32 (b2n c.stopImm * 2 ^ 26 + b2n c.demStart * 2 ^ 25 + c.demHold % 256 * 2 ^ 16 + c.ctick % 1024)]

/-- The coefficient set that five words spell. (DESIGN CHOICE 149, safe.) -/
def Coef.ofWords (ws : List (BitVec 32)) : Coef :=
  let w (k : Nat) : Nat := (ws.getD k 0).toNat
  { kp := w 0 % 65536, ki := w 0 / 65536, kd := w 1 % 65536, a1 := w 1 / 65536, a2 := w 2 % 65536, kff := ofCode 16 (w 2 / 65536)
    dMin := w 3 % 65536, dMax := w 3 / 65536
    stopImm := natBit (w 4) 26, demStart := natBit (w 4) 25, demHold := w 4 / 2 ^ 16 % 256, ctick := w 4 % 1024 }

/-- A word of a coefficient set: the set is held until complete (R47, R109). (DESIGN CHOICE 149,
safe.) -/
def Cell.coefIn (k : Nat) (w : BitVec 32) (c : Cell) : Cell :=
  let part := if k = 0 then [w] else if k = c.coefPart.length then c.coefPart ++ [w] else []
  if part.length = 5 then { c with coef := Coef.ofWords part, coefPart := [] } else { c with coefPart := part }

/-- A configuration word stored by its INDEX: phase control, firing index and M, crease term, PERIOD, its boundary, limits, the target,
coefficients (R109, R131, R136, R140, R164, R183, R200). The spec lays out no other index. -/
def Cell.config (index w : Nat) (c : Cell) : Cell :=
  match index with
  | 0x30 => c.phaseControl w
  | 0x31 => { c with fIdx := w % 256, mCnt := w / 65536 % 512, leadActive := c.leadActive && decide (w % 256 ≠ 0) }
  | 0x32 => { c with crease := some (ofCode 16 w, w / 65536 % 256) }
  | 0x33 => { c with periodNext := some w }
  | 0x34 => { c with periodAt := some (w % 256) }
  | 0x35 => { c with limNext := some (w % 256, w / 256 % 256) }
  | 0x100 => { c with target := w % 65536 }
  | _ => if coefWord ≤ index ∧ index < ilimWord then c.coefIn (index - coefWord) (BitVec.ofNat 32 w) else c

/-- What the leader of a rail takes from a configuration word: the last word of a coefficient set in use from the next tick boundary, and
its limits (R109, R200). -/
def Rail.config (before : Cell) (c : Cell) (index w : Nat) (x : Rail) : Rail :=
  if index = coefWord + 4 ∧ before.coefPart.length = 4 then
    (if x.st.runs then { x with loop := { x.loop with coefNext := some c.coef } }
      else { x with loop := { x.loop with coef := c.coef, coefNext := none } })
  else if index = ilimWord then { x with prot := { x.prot with ilimNext := some w } }
  else if index = sinkWord then { x with prot := { x.prot with sinkNext := some (w % 65536, w / 65536) } }
  else x

/-- A configuration word reaches a cell, and its rail where the cell leads it. -/
def configWord (c : Fin 256) (m : Msg) (s : State) : State :=
  let s1 := changePhasing c (Cell.config m.index m.payload.toNat) s
  match railOf s c.val with
  | some r =>
    if (s.rail r).leader = c.val then modRail s1 (fin48 r) (Rail.config s.cells[c] s1.cells[c] m.index m.payload.toNat) else s1
  | none => s1

/-- A configuration word of an INDEX on the link. -/
def Msg.isConfig (index : Nat) (m : Msg) : Bool := decide (m.type = .configWr) && decide (m.wire = index)

/-- CONFIG_WR: a configuration word that the manager or the hub has sent reaches the cell (R57). -/
def execConfigWr (c : Fin 256) (index : Nat) (word : BitVec 32) (ecc : Ecc) (s : State) : Host.Outcome State Fault Refusal :=
  let sel (m : Msg) : Bool := m.isConfig index && m.saying word
  .next (if (takeFrom sel c.val s.bus).isSome then settleWords (latch sel c ecc (configWord c) s) else s)

/-- ARM: the message that the manager or the leader has sent reaches the cell. -/
def execArm (c : Fin 256) (ecc : Ecc) (s : State) : Host.Outcome State Fault Refusal :=
  .next (latch (Msg.isType .arm) c ecc (fun _ t => changePhasing c Cell.arm t) s)

/-- APPLY: the hub's phase control word with OP 0 (R140-R142). -/
def execApply (c : Fin 256) (word : BitVec 32) (ecc : Ecc) (s : State) : Host.Outcome State Fault Refusal :=
  .next (latch (fun m => decide (m.op = 0) && m.saying word) c ecc (fun m => changePhasing c (Cell.phaseControl m.payload.toNat)) s)

/-- PEND_SHED: OP 1 (R141). -/
def execPendShed (c : Fin 256) (word : BitVec 32) (ecc : Ecc) (s : State) : Host.Outcome State Fault Refusal :=
  .next (latch (fun m => decide (m.op = 1) && m.saying word) c ecc (fun m t => changeCell t c (Cell.phaseControl m.payload.toNat)) s)

/-- CANCEL: OP 2 (R141). -/
def execCancel (c : Fin 256) (word : BitVec 32) (ecc : Ecc) (s : State) : Host.Outcome State Fault Refusal :=
  .next (latch (fun m => decide (m.op = 2) && m.saying word) c ecc (fun m t => changeCell t c (Cell.phaseControl m.payload.toNat)) s)

end Sys2Proof.Machine
end

