-- ==== Sys2Proof/Machine/Clear.lean ====
section
/-! DEFINITION. Clearing W1C bits: one operation for each flag word, shared by FAULT_CLEAR (R220, R391) and by writes through the
pointer space (R400). -/

namespace Sys2Proof.Machine

/-- Bits of a word cleared: those in the mask that are W1C. -/
def w1c {n : Nat} (word : BitVec n) (w1cBits mask : Nat) : BitVec n := word &&& ~~~ (BitVec.ofNat n mask &&& BitVec.ofNat n w1cBits)

/-- A flag after a mask: cleared where bit `k` is 1. -/
def keepFlag (b : Bool) (mask k : Nat) : Bool := b && !natBit mask k

/-- FLAGS of a cell, with the counts named with its bits (R61, R64). -/
def clearCell (c : Fin 256) (mask : Nat) (s : State) : State :=
  changeCell s c (fun x =>
    { x with
      flags := w1c x.flags 0x3FF mask
      peakTrips := if natBit mask 3 then 0 else x.peakTrips
      busErrs := if natBit mask 5 then 0 else x.busErrs
      errSats := if natBit mask 0 ∨ natBit mask 1 then 0 else x.errSats })

/-- PROT_FLAGS, with the lines of OV_TRIP and UV_TRIP (R221, R451). -/
def clearProt (r : Nat) (mask : Nat) (s : State) : State :=
  let p := (s.rail r).prot
  let s1 := modRail s (fin48 r) (fun x => { x with prot := { x.prot with
    ovTrip := keepFlag x.prot.ovTrip mask 2, uvTrip := keepFlag x.prot.uvTrip mask 3, thrFailOv := keepFlag x.prot.thrFailOv mask 5
    thrFailUv := keepFlag x.prot.thrFailUv mask 6, supXchk := keepFlag x.prot.supXchk mask 7 } })
  let s2 := if p.ovTrip && natBit mask 2 then setLine (evt (256 + 4 * r)) false s1 else s1
  if p.uvTrip && natBit mask 3 then setLine (evt (257 + 4 * r)) false s2 else s2

/-- RM_FLAGS; TAKEOVERS is cleared with LEADER_SILENT (R97, R98). -/
def clearRm (r : Nat) (mask : Nat) (s : State) : State :=
  modRail s (fin48 r) (fun x =>
    { x with leaderSilent := keepFlag x.leaderSilent mask 2, leaderConflict := keepFlag x.leaderConflict mask 1
             takeovers := if natBit mask 2 then 0 else x.takeovers })

/-- REG_FLAGS; RETARGETS is cleared with SEL_EMPTY (R134, R135). -/
def clearReg (r : Nat) (mask : Nat) (s : State) : State :=
  modRail s (fin48 r) (fun x => { x with sp := { x.sp with
    startFail := keepFlag x.sp.startFail mask 4, selEmpty := keepFlag x.sp.selEmpty mask 3
    retargets := if natBit mask 3 then 0 else x.sp.retargets } })

/-- CR_FLAGS (R169). -/
def clearCrease (k : Nat) (mask : Nat) (s : State) : State :=
  let x : Fin 8 := Fin.ofNat 8 k
  { s with crease := upd s.crease x { s.crease[x] with
    periodChanged := keepFlag s.crease[x].periodChanged mask 4, rephased := keepFlag s.crease[x].rephased mask 1
    faded := keepFlag s.crease[x].faded mask 0 } }

/-- CLK_FLAGS (R199). -/
def clearClk (mask : Nat) (s : State) : State := { s with clk := { s.clk with flags := w1c s.clk.flags 0xF0 mask } }

/-- The land status word (R25). -/
def clearLand (mask : Nat) (s : State) : State := { s with land := { s.land with flags := w1c s.land.flags 0xC7C000 mask } }

/-- SEQ_FLAGS (R259). -/
def clearSeq (mask : Nat) (s : State) : State := { s with dom := { s.dom with flags := w1c s.dom.flags 0x10FF mask } }

/-- THERM_FLAGS (R297). -/
def clearTherm (mask : Nat) (s : State) : State := { s with therm := { s.therm with flags := w1c s.therm.flags 0xA0 mask } }

/-- PWR_FLAGS; RECHARGES is cleared with EOC_DV (R329, R330). -/
def clearPwr (mask : Nat) (s : State) : State :=
  { s with chg := { s.chg with flags := w1c s.chg.flags 0x1F mask, recharges := if natBit mask 0 then 0 else s.chg.recharges } }

/-- HEM_FLAGS, with the lines of ALM0 and ALM1 (R356, R451). -/
def clearHem (mask : Nat) (s : State) : State :=
  let s1 := { s with hem := { s.hem with flags := w1c s.hem.flags 0xFA mask } }
  let s2 := if s.hem.flags.getLsbD 3 && natBit mask 3 then setLine 512 false s1 else s1
  if s.hem.flags.getLsbD 4 && natBit mask 4 then setLine 513 false s2 else s2

/-- SEAM_FLAGS; mask bit 16 clears the counts of the status record (R447, R448). -/
def clearSeam (mask : Nat) (s : State) : State :=
  let x := { s.seam with flags := w1c s.seam.flags 0x3FE mask }
  { s with seam := if natBit mask 16 then
      { x with rxBad := 0, fwdDrops := 0, v1Drops := 0, a := { x.a with crcErrs := 0 }, b := { x.b with crcErrs := 0 } } else x }

/-- The router's flags, with their lines (R452). -/
def clearRouter (mask : Nat) (s : State) : State :=
  let r := s.router
  let s0 := { s with router := { r with
    spurious := keepFlag r.spurious mask 0, doneIgnored := keepFlag r.doneIgnored mask 1, rearmed := keepFlag r.rearmed mask 2 } }
  let s1 := if r.spurious && natBit mask 0 then setLine 572 false s0 else s0
  let s2 := if r.doneIgnored && natBit mask 1 then setLine 573 false s1 else s1
  if r.rearmed && natBit mask 2 then setLine 574 false s2 else s2

/-- PS_FLAGS (R477). -/
def clearPs (mask : Nat) (s : State) : State := { s with pwr := { s.pwr with flags := w1c s.pwr.flags 0x7 mask } }

/-- FUSE_FLAGS (R505). -/
def clearFuse (mask : Nat) (s : State) : State := { s with fuse := { s.fuse with flags := w1c s.fuse.flags 0xC0 mask } }

/-- FW_FLAGS (R521). -/
def clearFw (mask : Nat) (s : State) : State := { s with fw := { s.fw with flags := w1c s.fw.flags 0xF mask } }

/-- HP_FLAGS (R403). -/
def clearHp (mask : Nat) (s : State) : State := { s with hp := { s.hp with flags := w1c s.hp.flags 0x7F mask } }

/-- GLOB_FLAGS (R388). -/
def clearGlob (mask : Nat) (s : State) : State := { s with proto := { s.proto with flags := w1c s.proto.flags 0xC7 mask } }

/-- The field that a FAULT_CLEAR scope names, cleared by the mask; none for a reserved scope (R220, R391). -/
def clearScope (scope index mask : Nat) (s : State) : Option State :=
  match scope with
  | 0 => some (clearCell (fin256 index) mask s)
  | 1 => some (clearProt index mask s)
  | 2 => some (clearRm index mask s)
  | 3 => some (clearReg index mask s)
  | 4 => some (clearCrease index mask s)
  | 5 => some (clearClk mask s)
  | 6 => some (clearLand mask s)
  | 7 => some (clearSeq mask s)
  | 8 => some (clearTherm mask s)
  | 9 => some (clearPwr mask s)
  | 10 => some (clearHem mask s)
  | 11 => some (clearSeam mask s)
  | 12 => some (clearRouter mask s)
  | 13 => some (clearPs mask s)
  | 14 => some (clearFuse mask s)
  | 15 => some (clearFw mask s)
  | 16 => some (clearHp mask s)
  | 17 => some (clearGlob mask s)
  | _ => none

end Sys2Proof.Machine
end

