-- ==== Sys2Proof/Machine/Sha.lean ====
section
/-! DEFINITION. SHA-256 (FIPS 180-4) over a list of bytes, and ECDSA verification on the curve P-256 (FIPS 186-5), as R379, R494,
R507 and R508 use them. -/

namespace Sys2Proof

/-- The first 64 primes. -/
def primes64 : List Nat :=
  [2, 3, 5, 7, 11, 13, 17, 19, 23, 29, 31, 37, 41, 43, 47, 53, 59, 61, 67, 71, 73, 79, 83, 89, 97, 101, 103, 107, 109, 113,
    127, 131, 137, 139, 149, 151, 157, 163, 167, 173, 179, 181, 191, 193, 197, 199, 211, 223, 227, 229, 233, 239, 241, 251,
    257, 263, 269, 271, 277, 281, 283, 293, 307, 311]

/-- The root of degree `deg` of `x` rounded down, searched over `k` bits from the highest, above the part `r` found so far. -/
def rootDown (deg x : Nat) : Nat → Nat → Nat
  | 0, r => r
  | k + 1, r => rootDown deg x k (if (r + 2 ^ k) ^ deg ≤ x then r + 2 ^ k else r)

/-- The first 32 fraction bits of the root of degree `deg` of a prime below 343: what FIPS 180-4 makes its constants of. -/
def rootFraction (deg p : Nat) : Nat := rootDown deg (p * 2 ^ (32 * deg)) 35 0 % 2 ^ 32

/-- The exclusive or of `x` turned right by each of the counts. -/
def turns (x : BitVec 32) (counts : List Nat) : BitVec 32 := counts.foldl (fun acc n => acc ^^^ x.rotateRight n) 0

/-- The eight working variables of FIPS 180-4. -/
structure ShaVars where
  /-- The variables a to d. -/
  lo : BitVec 32 × BitVec 32 × BitVec 32 × BitVec 32
  /-- The variables e to h. -/
  hi : BitVec 32 × BitVec 32 × BitVec 32 × BitVec 32
  deriving DecidableEq, Repr

/-- One round with what the schedule and the round constant bring it: b to d and f to h take their neighbours' values. -/
def ShaVars.turn (v : ShaVars) (bring : BitVec 32) : ShaVars :=
  let choice := v.hi.2.2.1 ^^^ (v.hi.1 &&& (v.hi.2.1 ^^^ v.hi.2.2.1))
  let most := (v.lo.1 &&& (v.lo.2.1 ||| v.lo.2.2.1)) ||| (v.lo.2.1 &&& v.lo.2.2.1)
  let fresh := bring + choice + v.hi.2.2.2 + turns v.hi.1 [6, 11, 25]
  ⟨(most + fresh + turns v.lo.1 [2, 13, 22], v.lo.1, v.lo.2.1, v.lo.2.2.1),
    (fresh + v.lo.2.2.2, v.hi.1, v.hi.2.1, v.hi.2.2.1)⟩

/-- The variables of two states added word by word. -/
def ShaVars.plus (u v : ShaVars) : ShaVars :=
  ⟨(u.lo.1 + v.lo.1, u.lo.2.1 + v.lo.2.1, u.lo.2.2.1 + v.lo.2.2.1, u.lo.2.2.2 + v.lo.2.2.2),
    (u.hi.1 + v.hi.1, u.hi.2.1 + v.hi.2.1, u.hi.2.2.1 + v.hi.2.2.1, u.hi.2.2.2 + v.hi.2.2.2)⟩

/-- The variables at the start: square roots of the first eight primes. -/
def ShaVars.first : ShaVars :=
  let q (p : Nat) : BitVec 32 := BitVec.ofNat 32 (rootFraction 2 p)
  ⟨(q 2, q 3, q 5, q 7), (q 11, q 13, q 17, q 19)⟩

/-- The 32 bytes of the variables, most significant byte first. -/
def ShaVars.bytes (v : ShaVars) : List Byte :=
  [v.lo.1, v.lo.2.1, v.lo.2.2.1, v.lo.2.2.2, v.hi.1, v.hi.2.1, v.hi.2.2.1, v.hi.2.2.2].flatMap
    (fun x => (leBytes 4 x.toNat).reverse)

/-- The rounds of one block: the 16 schedule words in use, oldest first, and one round for each constant. -/
def shaRounds : List Nat → List (BitVec 32) → ShaVars → ShaVars
  | k :: ks, w :: ws, v =>
    let back (n : Nat) : BitVec 32 := (w :: ws).getD (16 - n) 0
    let mixed := w + (turns (back 15) [7, 18] ^^^ (back 15 >>> 3)) + back 7 + (turns (back 2) [17, 19] ^^^ (back 2 >>> 10))
    shaRounds ks (ws ++ [mixed]) (v.turn (w + BitVec.ofNat 32 k))
  | _, _, v => v

/-- A message with the padding of FIPS 180-4: the bit 1, zeros to 56 bytes modulo 64, the length in bits in 8 bytes. -/
def shaPad (bs : List Byte) : List Byte :=
  bs ++ 0x80 :: List.replicate ((119 - bs.length % 64) % 64) 0 ++ (leBytes 8 (8 * bs.length)).reverse

/-- A list cut into pieces of `n` elements, at most `fuel` of them. -/
def pieces {α : Type} (n : Nat) : Nat → List α → List (List α)
  | 0, _ => []
  | _, [] => []
  | fuel + 1, l => l.take n :: pieces n fuel (l.drop n)

/-- The variables after one more block of 64 bytes. -/
def ShaVars.block (constants : List Nat) (v : ShaVars) (bs : List Byte) : ShaVars :=
  v.plus (shaRounds constants ((pieces 4 16 bs).map (fun b => BitVec.ofNat 32 (leNat b.reverse))) v)

/-- SHA-256 of a list of bytes, 32 bytes. (PRESUMED 89, unsafe.) -/
def sha256 (bs : List Byte) : List Byte :=
  let m := shaPad bs
  ((pieces 64 m.length m).foldl (ShaVars.block (primes64.map (rootFraction 3))) ShaVars.first).bytes

/-- The first 64 bits of SHA-256, first byte first (R379, R494). -/
def digest64 (bs : List Byte) : List Byte := (sha256 bs).take 8

/-! ## ECDSA on P-256 -/

/-- The field prime of P-256. -/
def p256p : Nat := 0xffffffff00000001000000000000000000000000ffffffffffffffffffffffff
/-- The order of P-256. -/
def p256n : Nat := 0xffffffff00000000ffffffffffffffffbce6faada7179e84f3b9cac2fc632551
/-- The coefficient b of P-256; a is -3. -/
def p256b : Nat := 0x5ac635d8aa3a93e7b3ebbd55769886bc651d06b0cc53b0f63bce3c3e27d2604b
/-- The base point of P-256. -/
def p256g : Nat × Nat :=
  (0x6b17d1f2e12c4247f8bce6e563a440f277037d812deb33a0f4a13945d898c296,
    0x4fe342e2fe1a7f9b8ee7eb4a7c0f9e162bce33576b315ececbb6406837bf51f5)

/-- `a` to the power `e` modulo `m`, over the low `k` bits of `e`. -/
def powMod (m : Nat) : Nat → Nat → Nat → Nat → Nat
  | 0, _, _, acc => acc
  | k + 1, a, e, acc => powMod m k (a * a % m) (e / 2) (if e % 2 = 1 then acc * a % m else acc)

/-- Inverse modulo a prime of at most 256 bits. -/
def invMod (m a : Nat) : Nat := powMod m 256 (a % m) (m - 2) 1

/-- Addition of points of the curve; none is the point at infinity. -/
def p256add (x y : Option (Nat × Nat)) : Option (Nat × Nat) :=
  match x, y with
  | none, q => q
  | q, none => q
  | some (x1, y1), some (x2, y2) =>
    if x1 = x2 ∧ (y1 + y2) % p256p = 0 then none
    else
      let l := if x1 = x2 then (3 * x1 * x1 + (p256p - 3)) * invMod p256p (2 * y1) % p256p
        else (y2 + (p256p - y1)) * invMod p256p (x2 + (p256p - x1)) % p256p
      let x3 := (l * l + (p256p - x1) + (p256p - x2)) % p256p
      some (x3, (l * (x1 + (p256p - x3)) + (p256p - y1)) % p256p)

/-- A multiple of a point, over the low `k` bits of the factor. -/
def p256mul : Nat → Nat → Option (Nat × Nat) → Option (Nat × Nat) → Option (Nat × Nat)
  | 0, _, _, acc => acc
  | k + 1, e, q, acc => p256mul k (e / 2) (p256add q q) (if e % 2 = 1 then p256add acc q else acc)

/-- The natural number of a byte list, most significant byte first. -/
def beNat (bs : List Byte) : Nat := leNat bs.reverse

/-- ECDSA verification with SHA-256 of a message under a public key X, Y (R508, FIPS 186-5). (PRESUMED
89, unsafe.) -/
def ecdsaVerify (key message sigR sigS : List Byte) : Bool :=
  let qx := beNat (key.take 32)
  let qy := beNat (key.drop 32)
  let r := beNat sigR
  let s := beNat sigS
  let onCurve := decide (qx < p256p) && decide (qy < p256p) &&
    decide (qy * qy % p256p = (qx * qx * qx + (p256p - 3) * qx + p256b) % p256p)
  if onCurve ∧ 0 < r ∧ r < p256n ∧ 0 < s ∧ s < p256n then
    let w := invMod p256n s
    match p256add (p256mul 256 (beNat (sha256 message) * w % p256n) (some p256g) none)
        (p256mul 256 (r * w % p256n) (some (qx, qy)) none) with
    | some (x, _) => decide (x % p256n = r)
    | none => false
  else false

end Sys2Proof
end

