-- ==== Sys2Proof/Machine/Fuse.lean ====
section
/-! DEFINITION. The fuse memory and the life cycle: rows, redirection, the life-cycle word, seals and their checks, burns, the
start-time checks, and the opcodes of group 0x0F (R481-R505). -/

namespace Sys2Proof.Machine

/-! ## Rows and redirection -/

/-- An entry of a sparse table. -/
def lookupRow (l : List (Nat × FuseRow)) (n : Nat) : Option FuseRow := (l.find? (fun x => decide (x.1 = n))).map Prod.snd

/-- An entry of a sparse table replaced, in rising order. -/
def insertRow (n : Nat) (r : FuseRow) : List (Nat × FuseRow) → List (Nat × FuseRow)
  | [] => [(n, r)]
  | x :: xs => if n < x.1 then (n, r) :: x :: xs else if n = x.1 then (n, r) :: xs else x :: insertRow n r xs

/-- The physical row at a place: rows 0-2,047, and spare k at 2,048 + k; none is BLANK (R481). -/
def Fuse.at (f : Fuse) (loc : Nat) : Option FuseRow :=
  if loc < 2048 then lookupRow f.rows loc else lookupRow f.spares (loc - 2048)

/-- A physical row replaced. -/
def Fuse.put (f : Fuse) (loc : Nat) (r : FuseRow) : Fuse :=
  if loc < 2048 then { f with rows := insertRow loc r f.rows } else { f with spares := insertRow (loc - 2048) r f.spares }

/-- 32 bytes of 0x00, as a blank row reads (R481). -/
def blank32 : List Byte := List.replicate 32 0

/-- A row no bit of which is burned (R481). -/
def blankRow : FuseRow := { loose := blank32, tight := blank32, tail := 0, tightTail := 0 }

/-- The WRITTEN marker of a tail counts as written: at least 4 of its 6 bits read 1 (R481). -/
def tailWritten (t : BitVec 16) : Bool := decide (4 ≤ ((upto 6).filter (fun k => t.getLsbD (10 + k))).length)

/-- The check bits that belong to 32 data bytes; those of all-zero data are zero (R481). -/
def checkOf (d : List Byte) : Nat := if d = blank32 then 0 else Config.rowCheck d % 1024

/-- One bit of the data inverted. -/
def flipBit (d : List Byte) (k : Nat) : List Byte := d.set (k / 8) (d.getD (k / 8) 0 ^^^ byte (2 ^ (k % 8)))

/-- The loose value of a row through its SEC-DED check: how many of its bits are in error, two standing for more, and the data, with one
bit in error corrected (R481, R484). -/
def FuseRow.decode (r : FuseRow) : Nat × List Byte :=
  let c := r.tail.toNat % 1024
  if checkOf r.loose = c then (0, r.loose)
  else if (upto 10).any (fun k => decide (Nat.xor (checkOf r.loose) (2 ^ k) = c)) then (1, r.loose)
  else
    match (upto 256).find? (fun k => decide (checkOf (flipBit r.loose k) = c)) with
    | some k => (1, flipBit r.loose k)
    | none => (2, r.loose)

/-- A row's data or tail differs between the two margins (R484). -/
def FuseRow.marginal (r : FuseRow) : Bool := decide (r.loose ≠ r.tight) || decide (r.tail ≠ r.tightTail)

/-- The 32 data bytes at a place as the module uses them: rows 0-31 carry no ECC, and read as they do at the loose margin (R482, R484,
R487). -/
def Fuse.dataAt (f : Fuse) (loc : Nat) : List Byte :=
  match f.at loc with
  | some r => if loc < 32 then r.loose else r.decode.2
  | none => blank32

/-- The ECC field of a place: 0 BLANK, 1 CLEAN, 2 CORRECTED, 3 UNCORRECTABLE, 4 NO_ECC (R482, R484, R485). -/
def Fuse.eccAt (f : Fuse) (loc : Nat) : Nat :=
  if loc < 32 then 4
  else
    match f.at loc with
    | some r =>
      match r.decode.1 with
      | 0 => b2n (tailWritten r.tail)
      | 1 => b2n (tailWritten r.tail) * 2
      | _ => 3
    | none => 0

/-- Entry `k` of copy `c` of the darn table: the row it names when it is VALID and matches its complement (R501). -/
def Fuse.darnCopy (f : Fuse) (c k : Nat) : Option Nat :=
  let d := f.dataAt (16 + 4 * c + k / 8)
  let w := fieldAt d (4 * (k % 8)) 2
  if 32768 ≤ w ∧ fieldAt d (4 * (k % 8) + 2) 2 = 65535 - w then some w else none

/-- The row an entry that counts redirects: two copies VALID, equal and matching their complements (R501). -/
def Fuse.darnEntry (f : Fuse) (k : Nat) : Option Nat :=
  let a := f.darnCopy 0 k
  let b := f.darnCopy 1 k
  let c := f.darnCopy 2 k
  (if a = b ∨ a = c then a else if b = c then b else none).map (fun w => w % 2048)

/-- The spare a row is redirected to: of several entries the one with the highest k governs (R501). -/
def Fuse.redirect (f : Fuse) (row : Nat) : Option Nat :=
  if row < 32 then none else (upto 32).reverse.find? (fun k => decide (f.darnEntry k = some row))

/-- The place a row is read from (R484). -/
def Fuse.place (f : Fuse) (row : Nat) : Nat :=
  match f.redirect row with
  | some k => 2048 + k
  | none => row

/-- A row as the module uses it, through the darn table (R484); none is BLANK. -/
def Fuse.row (f : Fuse) (row : Nat) : Option FuseRow := f.at (f.place row)

/-- The 32 data bytes of a row as the module uses it (R484). -/
def Fuse.rowData (f : Fuse) (row : Nat) : List Byte := f.dataAt (f.place row)

/-- The place reads BLANK: its WRITTEN marker does not count as written, and stray bits, if any, are corrected (R481, R485, R503). -/
def Fuse.blankAt (f : Fuse) (loc : Nat) : Bool :=
  match f.at loc with
  | some r => !tailWritten r.tail && decide (r.decode.1 ≤ 1)
  | none => true

/-- A row, as redirected, reads BLANK (R491). -/
def Fuse.blank (f : Fuse) (row : Nat) : Bool := f.blankAt (f.place row)

/-- A row, as the module uses it, is UNCORRECTABLE (R484). -/
def Fuse.unreadable (f : Fuse) (row : Nat) : Bool := decide (f.eccAt (f.place row) = 3)

/-- The place reads MARGINAL (R484). -/
def Fuse.marginalAt (f : Fuse) (loc : Nat) : Bool :=
  match f.at loc with
  | some r => r.marginal
  | none => false

/-- A row read afresh: bits that were strongly burned may have weakened, and no longer read 1 at the tight margin. How a row drifts is not
stated; what reads 1 at the loose margin goes on to. (R484, R485.) (DESIGN CHOICE 171, unsafe.) -/
def FuseRow.drift (ctr : Nat) (r : FuseRow) : FuseRow :=
  { r with
    tight := List.zipWith (· &&& ·) r.tight (leBytes 32 (Config.freeNat ctr))
    tightTail := r.tightTail &&& BitVec.ofNat 16 (Config.freeNat (ctr + 1)) }

/-- The places that pass a test read afresh (R484, R485). (DESIGN CHOICE 171, unsafe.) -/
def Fuse.drift (ctr : Nat) (p : Nat → Bool) (f : Fuse) : Fuse :=
  { f with
    rows := f.rows.map (fun x => (x.1, if p x.1 then x.2.drift (ctr + 2 * x.1) else x.2))
    spares := f.spares.map (fun x => (x.1, if p (2048 + x.1) then x.2.drift (ctr + 2 * (2048 + x.1)) else x.2)) }

/-- The free values that a reading of rows may take. -/
def driftCount : Nat := 4160

/-- Spares whose entry does not count and whose row reads BLANK, lowest first (R502). -/
def Fuse.freeSpares (f : Fuse) : List Nat :=
  (upto 32).filter (fun k => decide (f.darnEntry k = none) && f.blankAt (2048 + k))

/-! ## The life cycle -/

/-- A byte counts as burned when at least 5 of its bits read 1 (R487, R493). -/
def burnedByte (b : Nat) : Bool := decide (5 ≤ ((upto 8).filter (natBit b)).length)

/-- A stage byte of a copy of the life-cycle word (R487). -/
def Fuse.lcCopy (f : Fuse) (copy stage : Nat) : Bool := burnedByte (byteAt (f.dataAt copy) stage)

/-- A stage taken as burned: two copies agree that it is (R487). -/
def Fuse.lcStage (f : Fuse) (stage : Nat) : Bool :=
  decide (2 ≤ b2n (f.lcCopy 0 stage) + b2n (f.lcCopy 1 stage) + b2n (f.lcCopy 2 stage))

/-- The life-cycle state (R486, R487). -/
def Fuse.lcState (f : Fuse) : Nat :=
  if f.lcStage 3 then 4 else if f.lcStage 2 then 3 else if f.lcStage 1 then 2 else if f.lcStage 0 then 1 else 0

/-- LC_INCONSISTENT (R487). -/
def Fuse.lcInconsistent (f : Fuse) : Bool :=
  (upto 4).any (fun k => !(f.lcCopy 0 k == f.lcCopy 1 k && f.lcCopy 1 k == f.lcCopy 2 k)) ||
    (upto 3).any (fun k => f.lcStage (k + 1) && !f.lcStage k)

/-! ## Regions and seals -/

/-- First row and last row of a region by code (R482, R483). -/
def regionSpan : Nat → Nat × Nat
  | 0 => (32, 415) | 1 => (416, 543) | 2 => (1024, 2047) | 3 => (544, 575) | _ => (576, 703)

/-- The rows of a region, in ascending order. -/
def regionRows (code : Nat) : List Nat :=
  (upto ((regionSpan code).2 + 1 - (regionSpan code).1)).map (fun k => (regionSpan code).1 + k)

/-- The region a row belongs to; none outside every region (R482). -/
def regionOf (row : Nat) : Option Nat :=
  (upto 5).find? (fun c => decide ((regionSpan c).1 ≤ row) && decide (row ≤ (regionSpan c).2))

/-- The seal state of a region (R493). -/
def Fuse.sealState (f : Fuse) (code : Nat) : Nat :=
  let d := f.dataAt (8 + code)
  let lock := burnedByte (byteAt d 8)
  let dset := burnedByte (byteAt d 9)
  if lock ∧ dset then 1
  else if lock then 3
  else if dset ∨ fieldAt d 0 8 ≠ 0 ∨ fieldAt d 16 8 ≠ 0 then 2
  else 0

/-- The bytes of a region as the module uses them. -/
def Fuse.regionBytes (f : Fuse) (code : Nat) : List Byte := (regionRows code).flatMap f.rowData

/-- The region digest (R494). -/
def Fuse.digest (f : Fuse) (code : Nat) : List Byte := digest64 (f.regionBytes code)

/-- Both digest copies of a region's seal record equal the digest computed now (R495, R498). -/
def Fuse.digestOk (f : Fuse) (code : Nat) : Bool :=
  let d := f.dataAt (8 + code)
  decide (d.take 8 = f.digest code) && decide ((d.drop 16).take 8 = f.digest code)

/-- The check result of a region (R498). -/
def Fuse.checkRegion (f : Fuse) (code : Nat) : Nat :=
  if f.sealState code = 0 then 0
  else if f.sealState code = 3 then 3
  else if (regionRows code).any f.unreadable then 4
  else if f.digestOk code then 1
  else 2

/-- A check result that is a failure (R498). -/
def checkFails (x : Nat) : Bool := decide (2 ≤ x) && decide (x ≤ 4)

/-- A region may be programmed or sealed in a life-cycle state (R488). -/
def regionOpenIn (code lc : Nat) : Bool :=
  if code = 0 ∨ code = 1 ∨ code = 3 then decide (lc ≤ 1) else decide (1 ≤ lc) && decide (lc ≤ 2)

/-- A row's area is programmable by OTP_PROGRAM in a life-cycle state (R488). -/
def rowOpenIn (row lc : Nat) : Bool :=
  if 8 ≤ row ∧ row ≤ 12 then decide (lc = 1)
  else
    match regionOf row with
    | some c => regionOpenIn c lc
    | none => false

/-- The unique identity, eight 0x00 bytes while CID fails its check (R386, R499). (DESIGN CHOICE 6,
unsafe.) -/
def uniqueId (s : State) : List Byte :=
  if checkFails s.fuse.checks[(3 : Fin 5)] then List.replicate 8 0
  else (upto 8).map (fun k => (s.fuse.regionBytes 3).getD (Config.cidIdOffset + k) 0)

/-! ## Flags and health -/

/-- FUSE_FLAGS (R505). -/
def Fuse.word (f : Fuse) : Nat :=
  f.flags.toNat + b2n f.lcInconsistent * 32 + b2n f.freeSpares.isEmpty * 16 + b2n f.integrity * 8 + b2n f.fpatchIgnored * 4 +
    b2n f.cconfSkipped * 2 + b2n f.safeHoldVtrim

/-- MARGINAL rows not redirected, lowest first (R504). -/
def Fuse.marginal (f : Fuse) : List Nat :=
  (upto 2048).filter (fun r => f.seen.contains r && (f.redirect r).isNone)

/-- Places that read MARGINAL, spares included (R484). -/
def Fuse.allMarginal (f : Fuse) : List Nat :=
  (f.rows.filter (fun x => x.2.marginal)).map Prod.fst ++ (f.spares.filter (fun x => x.2.marginal)).map (fun x => 2048 + x.1)

/-- Rows found MARGINAL are noted: each that had not been found so before raises event 568, and MARGINAL_SEEN is set (R485). -/
def noteMarginal (locs : List Nat) (s : State) : State :=
  locs.foldl (fun t l =>
    if t.fuse.seen.contains l then t
    else pulse 568 { t with fuse := { t.fuse with seen := l :: t.fuse.seen, flags := t.fuse.flags ||| 0x40 } }) s

/-! ## Start-time checks -/

/-- The rows of VTRIM that are not BLANK, as the module uses them (R482, R484, R500). (DESIGN CHOICE
6, unsafe.) -/
def Fuse.trimRows (f : Fuse) : List (Nat × List Byte) :=
  ((f.rows.map Prod.fst).filter (fun r => decide (regionOf r = some 0))).map (fun r => (r, f.rowData r))

/-- The checks of every manager start, on every row read afresh, with the decisions of R499 at a full start and of R500 otherwise; a module
in RETIRED enters SAFE HOLD at any (R484, R489, R497-R500, R504). -/
def fuseChecks (full : Bool) (s : State) : State :=
  let f := s.fuse.drift s.free (fun _ => true)
  let chk := #v[f.checkRegion 0, f.checkRegion 1, f.checkRegion 2, f.checkRegion 3, f.checkRegion 4]
  let any := chk.toList.any checkFails
  let hold := checkFails chk[0] || (full && f.safeDue)
  let holds := (full && hold) || decide (f.lcState = 4)
  let t := pulseIf any 567
    { s with
      free := s.free + driftCount
      fuse := { f with
        seen := f.allMarginal
        trims := if full then (if checkFails chk[0] then none else some f.trimRows) else f.trims
        checks := chk
        integrity := any
        fpatchIgnored := checkFails chk[4]
        cconfSkipped := checkFails chk[2]
        safeHoldVtrim := if full then hold else f.safeHoldVtrim
        safeDue := if full then false else f.safeDue || checkFails chk[0] }
      fw := { s.fw with patched := decide (chk[4] = 1) && decide (f.sealState 4 = 1) }
      pwr := if holds then { s.pwr with st := .safeHold } else s.pwr }
  let u := pulseIf (holds && decide (s.pwr.st ≠ .safeHold)) 571 t
  if f.allMarginal.isEmpty then u else pulse 568 { u with fuse := { u.fuse with flags := u.fuse.flags ||| 0x40 } }

/-! ## Burns -/

/-- Bytes laid into a row of zeros at an offset. -/
def rowBytes (off : Nat) (bs : List Byte) : List Byte :=
  (List.replicate off 0 ++ bs ++ List.replicate (32 - off - bs.length) 0).take 32

/-- The place a burn writes and the bits it adds there (R491, R495, R502, R489). -/
def burnPlan (f : Fuse) : BurnJob → Nat × List Byte
  | .program row data => (f.place row, data)
  | .finalise code digest step _ =>
    (8 + code, if step = 0 then rowBytes 0 digest else if step = 1 then rowBytes 16 digest
      else if step = 2 then rowBytes 9 [0xFF] else rowBytes 8 [0xFF])
  | .darn row k step _ =>
    if step = 0 then (2048 + k, f.rowData row)
    else
      let w := 32768 + row
      (16 + 4 * (step - 1) + k / 8, rowBytes (4 * (k % 8)) (le16 w ++ le16 (65535 - w)))
  | .advance _ stage copy _ => (copy, rowBytes stage [0xFF])

/-- Bits burned stay burned (R481). -/
def orBytes (a b : List Byte) : List Byte := List.zipWith (· ||| ·) a b

/-- Bits common to two rows. -/
def andBytes (a b : List Byte) : List Byte := List.zipWith (· &&& ·) a b

/-- The tail that a burn writes: an ECC row takes its check and its WRITTEN marker with its data (R481, R491, R502). -/
def burnTail (loc : Nat) (data : List Byte) : BitVec 16 := if loc < 32 then 0 else BitVec.ofNat 16 (0xFC00 + checkOf data)

/-- The bits a burn has set: data and tail at the loose margin, and at the tight one (R492). -/
def burnTook (loc : Nat) (data : List Byte) : BurnResult → (List Byte × BitVec 16) × (List Byte × BitVec 16)
  | .good => ((data, burnTail loc data), (data, burnTail loc data))
  | .took loose tight tail tightTail => ((rowBytes 0 loose, tail), (rowBytes 0 tight, tightTail))

/-- A row after a burn: bits burned stay burned, and what reads 1 at the tight margin does so at the loose one (R481, R484, R491). -/
def FuseRow.burnt (r : FuseRow) (lo ti : List Byte × BitVec 16) : FuseRow :=
  let loose := orBytes r.loose lo.1
  { loose := loose, tail := r.tail ||| lo.2
    tight := andBytes (orBytes r.tight ti.1) loose, tightTail := (r.tightTail ||| ti.2) &&& (r.tail ||| lo.2) }

/-- What a burn comes to (R492). -/
inductive BurnVerdict where
  | asWritten | marginal | failed
  deriving DecidableEq, Repr

/-- A burnt row judged at both margins against what was to be written: an ECC row by its whole value, a row without ECC by the bits that
were to be burned in it (R482, R489, R492). -/
def FuseRow.verdict (r : FuseRow) (loc : Nat) (data : List Byte) : BurnVerdict :=
  if loc < 32 then
    if andBytes r.loose data ≠ data then .failed else if andBytes r.tight data = data then .asWritten else .marginal
  else if r.marginal = false ∧ r.loose = data ∧ r.tail = burnTail loc data then .asWritten
  else if r.marginal = true ∧ r.decode.1 ≤ 1 ∧ r.decode.2 = data then .marginal
  else .failed

/-- The row of a burn, burnt, with its place. -/
def burntRow (job : BurnJob) (r : BurnResult) (f : Fuse) : Nat × FuseRow :=
  let plan := burnPlan f job
  let took := burnTook plan.1 plan.2 r
  (plan.1, ((f.at plan.1).getD blankRow).burnt took.1 took.2)

/-- What a burn comes to (R492). -/
def burnVerdict (job : BurnJob) (r : BurnResult) (f : Fuse) : BurnVerdict :=
  (burntRow job r f).2.verdict (burntRow job r f).1 (burnPlan f job).2

/-- A burn's effect on its row, which is read at both margins afterwards (R492, R504). -/
def burn (job : BurnJob) (r : BurnResult) (s : State) : State :=
  let row := burntRow job r s.fuse
  let f := s.fuse.put row.1 row.2
  let rest := f.seen.filter (· ≠ row.1)
  let g : Fuse := { f with seen := if row.2.marginal then row.1 :: rest else rest }
  match burnVerdict job r s.fuse with
  | .asWritten => { s with fuse := g }
  | .marginal => pulse 568 { s with fuse := { g with flags := g.flags ||| 0x40 } }
  | .failed => fuseSet 0x80 { s with fuse := g }

/-- A burn cut short: some of its bits are burned, more or less strongly, and which is not fixed. An OTP_PROGRAM leaves a row that does not
read CLEAN at both margins, and a copy for OTP_DARN a spare that is no longer BLANK (R503). (DESIGN CHOICE 85, safe.) -/
def cutBurn (job : BurnJob) (s : State) : State :=
  let plan := burnPlan s.fuse job
  let mask (k : Nat) : List Byte := leBytes 32 (Config.freeNat (s.free + k))
  let bits (k : Nat) : BitVec 16 := BitVec.ofNat 16 (Config.freeNat (s.free + k))
  let marker : BitVec 16 := match job with
    | .darn _ _ 0 _ => 0xFC00
    | _ => 0
  let tail := burnTail plan.1 plan.2
  let lo := andBytes plan.2 (mask 0)
  let lt := (tail &&& bits 1) ||| marker
  let row := ((s.fuse.at plan.1).getD blankRow).burnt (lo, lt) (andBytes lo (mask 2), lt &&& bits 3)
  let whole := decide (32 ≤ plan.1) && !row.marginal && tailWritten row.tail && decide (row.decode.1 = 0)
  { s with
    free := s.free + 4
    fuse := s.fuse.put plan.1 (if whole then { row with tightTail := row.tightTail &&& 0x7FFF } else row) }

/-- Free bytes, `n` of them. -/
def freeBytes (s : State) (n : Nat) : List Byte := (upto n).map (fun k => byte (Config.freeNat (s.free + k)))

/-- A command in execution is cut short by a stop that does not wait for it: of a burn, a flash write
or the store of a map, what has been done is not fixed (R371, R503). (DESIGN CHOICE 85, safe.) -/
def cutShort (s : State) : State :=
  match s.proto.exec with
  | some (_, .burn job) => cutBurn job s
  | some (_, .stage off data) =>
    { s with free := s.free + data.length, fw := s.fw.program s.fw.other off (freeBytes s data.length) }
  | some (_, .mapStore) =>
    { s with
      free := s.free + 1
      map := { s.map with applying := false, stored := if Config.freeBool s.free then some s.map.active else s.map.stored } }
  | _ => s

/-! ## The opcodes -/

/-- R490: burns only while VIN is usable and every rail is OFF or LATCHED_OFF. -/
def burnRefused (s : State) : Option (List Byte) :=
  if vinUsable s = false then some [8, byte s.fuse.lcState, 0xFF, 0]
  else
    match lowestRunning s with
    | some r => some [1, byte (s.rail r).st.code, byte r, 0]
    | none => none

/-- A burn command behind R490. (DESIGN CHOICE 13, unsafe.) -/
def withBurn (s : State) (k : State × Ans) : State × Ans :=
  match burnRefused s with
  | some rec => (s, .reply .refusedState rec)
  | none => k

/-- The row's status byte (R485). -/
def Fuse.status (f : Fuse) (row : Nat) : Nat :=
  let lockedRow := !rowOpenIn row f.lcState || (match regionOf row with
    | some c => decide (f.sealState c ≠ 0)
    | none => false)
  b2n (f.redirect row).isSome * 32 + b2n lockedRow * 16 + b2n (f.marginalAt (f.place row)) * 8 + f.eccAt (f.place row)

/-- OTP_READ: the rows are read afresh (R485). (DESIGN CHOICE 171, unsafe.) -/
def otpReadOp : OpSpec where
  op := 0x0F01
  plen := .fixed 4
  bad := fun _ p =>
    (firstBad p [{ off := 0, width := 2, hi := 2047 }, { off := 2, lo := 1, hi := 7 }]).or
      (if 2048 < fieldAt p 0 2 + byteAt p 2 then some 2 else none)
  run := fun q s0 =>
    let rows := (upto (byteAt q.params 2)).map (fun k => fieldAt q.params 0 2 + k)
    let places := rows.map s0.fuse.place
    let s : State := { s0 with free := s0.free + driftCount, fuse := s0.fuse.drift s0.free places.contains }
    let out := rows.flatMap (fun r =>
      (if natBit (byteAt q.params 3) 0 then ((s.fuse.at r).getD blankRow).loose else s.fuse.rowData r) ++ [byte (s.fuse.status r)])
    done (noteMarginal (places.filter s.fuse.marginalAt) s) out

/-- OTP_PROGRAM (R491). -/
def otpProgramOp : OpSpec where
  op := 0x0F02
  plen := .fixed 36
  bad := fun _ p => firstBad p [{ off := 0, width := 2, hi := 2047 }]
  run := fun q s =>
    let row := fieldAt q.params 0 2
    withBurn s
      (if rowOpenIn row s.fuse.lcState = false then refuse s 8 s.fuse.lcState 0xFF
      else if (match regionOf row with
        | some c => decide (s.fuse.sealState c ≠ 0) || !s.fuse.blank row
        | none => false) then locked s 1
      else (s, .defer (.burn (.program row (q.params.drop 4)))))

/-- OTP_FINALISE (R495). (DESIGN CHOICE 13, unsafe.) -/
def otpFinaliseOp : OpSpec where
  op := 0x0F03
  plen := .fixed 4
  run := fun q s =>
    let code := byteAt q.params 0
    withBurn s
      (if 5 ≤ code then noted s (List.replicate 8 0)
      else if regionOpenIn code s.fuse.lcState = false then refuse s 8 s.fuse.lcState 0xFF
      else if s.fuse.sealState code = 0 then (s, .defer (.burn (.finalise code (s.fuse.digest code) 0 false)))
      else if s.fuse.sealState code = 2 ∧ s.fuse.digestOk code then
        (s, .defer (.burn (.finalise code (s.fuse.digest code) (if burnedByte (byteAt (s.fuse.dataAt (8 + code)) 9) then 3 else 2) false)))
      else locked s 1)

/-- OTP_DARN (R502). -/
def otpDarnOp : OpSpec where
  op := 0x0F04
  plen := .fixed 2
  bad := fun _ p => firstBad p [{ off := 0, width := 2, hi := 2047 }]
  run := fun q s =>
    let row := fieldAt q.params 0 2
    withBurn s
      (if s.fuse.lcState = 4 then refuse s 8 4 0xFF
      else if row < 32 then absent s 0
      else
        if s.fuse.blank row ∧ s.fuse.marginalAt (s.fuse.place row) = false then
          noted s [byte ((s.fuse.redirect row).getD 0xFF), byte s.fuse.freeSpares.length]
        else
          match s.fuse.freeSpares.head? with
          | none => absent s 0xFFFF
          | some k => (s, .defer (.burn (.darn row k (if s.fuse.unreadable row then 1 else 0) false))))

/-- The condition of a life-cycle target (R489). -/
def advanceAllowed (s : State) (target : Nat) : Bool :=
  let ok (c : Nat) : Bool := decide (s.fuse.sealState c = 1) && decide (at? s.fuse.checks c 0 = 1)
  if target = 2 then ok 0 && ok 1 && ok 3
  else if target = 3 then
    (upto 5).all (fun c => ok c ||
      ((regionRows c).all s.fuse.blank && !checkFails (at? s.fuse.checks c 0)))
  else true

/-- LIFECYCLE_ADVANCE (R489). -/
def lifecycleAdvanceOp : OpSpec where
  op := 0x0F05
  plen := .fixed 4
  run := fun q s =>
    let t := byteAt q.params 0
    withBurn s
      (if q.params.drop 1 ≠ [0x4C, 0x43, byte t] then noted s []
      else if t ≤ s.fuse.lcState ∨ 4 < t ∨ advanceAllowed s t = false then refuse s 8 s.fuse.lcState 0xFF
      else (s, .defer (.burn (.advance t s.fuse.lcState 0 false))))

/-- The health record (R504). -/
def healthRecord (s : State) : List Byte :=
  let f := s.fuse
  [byte f.lcState, 0] ++ le16 f.word ++ [byte f.freeSpares.length, byte (min 255 f.marginal.length)] ++
    le16 (f.marginal.head?.getD 0xFFFF) ++
    (upto 5).map (fun c => byte (f.sealState c + 16 * at? f.checks c 0)) ++ [(0 : Byte)] ++
    le16 (min 65535 ((upto 2048).filter f.unreadable).length)

/-- OTP_HEALTH (R504). -/
def otpHealthOp : OpSpec where
  op := 0x0F06
  plen := .fixed 0
  run := fun _ s => done s (healthRecord s)

/-- OTP_READ. -/
def execOtpRead (q : Req) (s : State) : Host.Outcome State Fault Refusal := runOp otpReadOp q s
/-- OTP_PROGRAM. -/
def execOtpProgram (q : Req) (s : State) : Host.Outcome State Fault Refusal := runOp otpProgramOp q s
/-- OTP_FINALISE. -/
def execOtpFinalise (q : Req) (s : State) : Host.Outcome State Fault Refusal := runOp otpFinaliseOp q s
/-- OTP_DARN. -/
def execOtpDarn (q : Req) (s : State) : Host.Outcome State Fault Refusal := runOp otpDarnOp q s
/-- LIFECYCLE_ADVANCE. -/
def execLifecycleAdvance (q : Req) (s : State) : Host.Outcome State Fault Refusal := runOp lifecycleAdvanceOp q s
/-- OTP_HEALTH. -/
def execOtpHealth (q : Req) (s : State) : Host.Outcome State Fault Refusal := runOp otpHealthOp q s

/-- A signal code marked power-critical (R524). -/
def powerCritical (code : Nat) : Bool :=
  (decide (0x1000 ≤ code) && decide (code ≤ 0x12FF)) || (decide (0x1300 ≤ code) && decide (code < 0x1330)) ||
    (decide (0x1340 ≤ code) && decide (code < 0x1370)) || (decide (0x9000 ≤ code) && decide (code ≤ 0x90FF)) ||
    (decide (0x9100 ≤ code) && decide (code < 0x9130)) || (decide (0x9140 ≤ code) && decide (code < 0x9170)) ||
    (decide (0x9200 ≤ code) && decide (code ≤ 0x92FF))

/-- The lands that carry a power-critical signal are released (R525). -/
def releaseCritical (s : State) : State :=
  { s with fw := { s.fw with mux := mapIdx s.fw.mux (fun _ x => match x with
      | some c => if powerCritical c then none else some c
      | none => none) } }

/-- The next burn of the command in execution. -/
def nextBurn (job : BurnJob) (s : State) : State :=
  { s with proto := { s.proto with exec := s.proto.exec.map (fun x => (x.1, .burn job)) } }

/-- DONE, or DONE_WITH_NOTE when a burn did not read as written (R492). -/
def burnStatus (note : Bool) : Status := if note then .doneWithNote else .done

/-- The burn in hand ends: the command goes on with its next burn or is answered (R489, R492, R495, R502). -/
def burnDone (job : BurnJob) (r : BurnResult) (s : State) : State :=
  let t := burn job r s
  let v := burnVerdict job r s.fuse
  let bad := decide (v ≠ .asWritten)
  match job with
  | .program _ _ => complete (burnStatus (bad)) [] t
  | .finalise code digest step note =>
    if v = .failed ∨ step = 3 then complete (burnStatus (note || bad)) digest t
    else nextBurn (.finalise code digest (step + 1) (note || bad)) t
  | .darn row k step note =>
    if step = 0 then
      if bad then
        match t.fuse.freeSpares.find? (fun j => decide (k < j)) with
        | some j => nextBurn (.darn row j 0 note) t
        | none => complete .notPresent (le16 0xFFFF) t
      else nextBurn (.darn row k 1 note) t
    else if step < 3 then nextBurn (.darn row k (step + 1) (note || bad)) t
    else complete (burnStatus (note || bad)) [byte k, byte t.fuse.freeSpares.length] t
  | .advance target stage copy note =>
    if copy < 2 then nextBurn (.advance target stage (copy + 1) (note || bad)) t
    else if stage + 1 < target then nextBurn (.advance target (stage + 1) 0 (note || bad)) t
    else complete (burnStatus (note || bad)) [] (if target = 3 then releaseCritical t else t)

/-- OTP_BURN_DONE: the burn of the command in execution ends (R492). -/
def execOtpBurnDone (result : BurnResult) (s : State) : Host.Outcome State Fault Refusal :=
  match s.proto.exec with
  | some (_, .burn job) => .next (burnDone job result s)
  | _ => .next s

end Sys2Proof.Machine
end

