-- ==== Sys2Proof/Machine/Regulation.lean ====
section
/-! DEFINITION. Set-points, selection, slews and coefficients of a rail; starting, arming and stopping it (chapter 04, R31). -/

namespace Sys2Proof.Machine

/-- CTICK as it acts: 100-1,000 (R111). -/
def Coef.tick (c : Coef) : Nat := clampNat 100 1000 c.ctick

/-- The rail a parameter block names in byte 0. -/
def railOp (p : List Byte) : Nat := byteAt p 0

/-- The check of byte 0 as a rail number (R364). -/
def railBad (_ : Nat) (p : List Byte) : Option Nat := firstBad p [{ off := 0, hi := 47 }]

/-- REFUSED_STATE with the rail state (R99, R368). -/
def refuseRail (s : State) (r : Nat) : State × Ans := refuse s 1 (s.rail r).st.code r

/-- A rail named in a sequence slot while the domain is not DOWN (R133). -/
def slotBound (s : State) (r : Nat) : Bool := (slotOf s r).isSome && decide (s.dom.st ≠ .down)

/-! ## Start and stop commands -/

/-- RAIL_ENABLE: during a probe or an apply it is refused with the rail-map state whatever else holds (R84, R113, R133). (DESIGN CHOICE
18, safe.) -/
def railEnableOp : OpSpec where
  op := 0x0301
  sh := false
  app := true
  plen := .fixed 1
  bad := railBad
  run := fun q s =>
    let r := railOp q.params
    if s.map.probe = .running ∨ s.map.applying then refuse s 2 (mapCode s) 0xFF
    else if (s.rail r).st ≠ .off then refuseRail s r
    else if slotBound s r then refuse s 3 s.dom.st.code 0xFF
    else
      match startRefused s r with
      | some 1 => refuseRail s r
      | some _ => refuse s 2 (mapCode s) 0xFF
      | none => started (startRail r s)

/-- RAIL_DISABLE: a refusal by the rail state is judged before one by the slot (R117, R118, R133). (DESIGN CHOICE 18, safe.) -/
def railDisableOp : OpSpec where
  op := 0x0302
  sh := false
  plen := .fixed 1
  bad := railBad
  run := fun q s =>
    let r := railOp q.params
    if (s.rail r).st ≠ .starting ∧ (s.rail r).st.regulates = false then refuseRail s r
    else if slotBound s r then refuse s 3 s.dom.st.code 0xFF
    else started (stopRail r false s)

/-! ## Targets -/

/-- The target named by a kind and a code: the set-point selection it makes and its code; none for a reserved kind, an empty set-point
or code 0 (R132). -/
def targetOf (p : SetPt) (kind code : Nat) : Option (SetPt × Nat) :=
  if kind < 8 then
    if p.stored[Fin.ofNat 8 kind] = 0 then none
    else some ({ p with direct := false, index := kind }, p.stored[Fin.ofNat 8 kind])
  else if kind = 0xFF then (if code = 0 then none else some ({ p with direct := true, code := code }, code))
  else none

/-- A target at a command-driven or pin-bound rail, with its selection (R120, R123, R128). -/
def setTarget (r : Nat) (sp : SetPt) (code : Nat) (s : State) : State :=
  retarget r code (modRail s (fin48 r) (fun x => { x with sp := sp }))

/-- RAIL_SET_TARGET (R128, R129, R132, R133). -/
def railSetTargetOp : OpSpec where
  op := 0x0303
  sh := false
  app := true
  plen := .fixed 4
  bad := railBad
  run := fun q s =>
    let r := railOp q.params
    let x := s.rail r
    if x.sp.pinBound ∨ x.st = .stopping then refuseRail s r
    else
      match targetOf x.sp (byteAt q.params 1) (fieldAt q.params 2 2) with
      | none => noted s []
      | some (sp, code) =>
        if x.st = .regulating ∧ x.loop.ref = code * 65536 then done0 s else
        let t := setTarget r sp code s
        if x.st = .off ∨ x.st = .latchedOff then done0 t else started t

/-- A stored set-point written: the pending index takes effect when its set-point is filled, and the index in force acts as a new
target in a running rail (R124, R125). Code 0 stored at the index in force leaves the target as it is. (DESIGN CHOICE 118, unsafe.) -/
def storeSetpoint (r i code : Nat) (s : State) : State :=
  let s1 := modRail s (fin48 r) (fun x => { x with sp := { x.sp with stored := upd x.sp.stored (Fin.ofNat 8 i) code } })
  let p := (s1.rail r).sp
  if p.pinBound ∧ p.pending = some i ∧ code ≠ 0 then
    setTarget r { p with pending := none, index := i, direct := false } code s1
  else if p.direct = false ∧ p.index = i ∧ code ≠ 0 then setTarget r p code s1
  else s1

/-- RAIL_STORE_SETPOINT (R125, R132). -/
def railStoreSetpointOp : OpSpec where
  op := 0x0304
  sh := false
  app := true
  plen := .fixed 4
  bad := railBad
  run := fun q s => done0 (storeSetpoint (railOp q.params) (byteAt q.params 1 % 8) (fieldAt q.params 2 2) s)

/-- RAIL_BIND_SELECT (R121, R125): the index is formed at once on a change to pin-bound, and on a new
binding of a pin-bound rail; a change to command-driven drops a pending index. (DEDUCED 19, safe; DESIGN CHOICE 119, unsafe.) -/
def railBindSelectOp : OpSpec where
  op := 0x0305
  sh := false
  app := true
  plen := .fixed 4
  bad := railBad
  run := fun q s =>
    let r := railOp q.params
    let pin := natBit (byteAt q.params 1) 0
    let bind := BitVec.ofNat 16 (fieldAt q.params 2 2) &&& 0x0FFF
    let old := (s.rail r).sp
    let s1 := modRail s (fin48 r) (fun x =>
      { x with sp := { x.sp with pinBound := pin, selBind := bind, pending := if pin then x.sp.pending else none } })
    done0 (if pin ∧ (old.pinBound = false ∨ old.selBind ≠ bind) then formIndex r s1 else s1)

/-- SEL_CHANGE: an accepted change of a select pin forms the index of every rail bound to it (R123). -/
def execSelChange (pin : Fin 12) (level : Bool) (s : State) : Host.Outcome State Fault Refusal :=
  let s1 := { s with dom := { s.dom with sel := if level then s.dom.sel ||| BitVec.ofNat 12 (2 ^ pin.val)
                                             else s.dom.sel &&& ~~~ BitVec.ofNat 12 (2 ^ pin.val) } }
  let bound (r : Nat) : Bool :=
    (s.rail r).sp.pinBound && (upto 3).any (fun k => decide ((s.rail r).sp.selBind.toNat / 16 ^ k % 16 = pin.val))
  .next (if s1.dom.sel = s.dom.sel then s1 else ((upto 48).filter bound).foldl (fun t r => formIndex r t) s1)

/-! ## Slews and coefficients -/

/-- A slew code as it acts (R126). -/
def slewAct (code : Nat) : Nat := clampNat 1 500 code

/-- RAIL_SET_SLEW (R126, R130). -/
def railSetSlewOp : OpSpec where
  op := 0x0306
  sh := false
  app := true
  plen := .fixed 8
  bad := railBad
  run := fun q s =>
    done0 (modRail s (fin48 (railOp q.params)) (fun x =>
      { x with sp := { x.sp with slew := fieldAt q.params 2 2, startSlew := fieldAt q.params 4 2, stopSlew := fieldAt q.params 6 2 } }))

/-- The coefficients and REG_CFG of RAIL_SET_COMP (R106, R111, R132). -/
def coefOf (p : List Byte) : Coef :=
  let w := fieldAt p 20 4
  { kp := fieldAt p 4 2, ki := fieldAt p 6 2, kd := fieldAt p 8 2, a1 := fieldAt p 10 2, a2 := fieldAt p 12 2, kff := s16At p 14
    dMin := fieldAt p 16 2, dMax := fieldAt p 18 2
    stopImm := natBit w 26, demStart := natBit w 25, demHold := w / 2 ^ 16 % 256, ctick := w % 1024 }

/-- The reply to a command whose words go to the cells of a rail: once every cell has latched them or is left out, or at once where no
cell listens (R109, R200). -/
def afterWords (r : Nat) (s : State) : State × Ans := if wordsOut s r then (s, .defer (.words r)) else done0 s

/-- The words of a coefficient set to every member of a rail (R109). -/
def sendCoef (r : Nat) (c : Coef) (s : State) : State :=
  post (listMapIdx (fun k w => configCast s r (coefWord + k) w) 0 c.words) s

/-- RAIL_SET_COMP (R47, R109, R112): its words go to every member's slice; a running rail's leader uses them from the tick boundary after
it has latched the last, a stopped rail from its next start. -/
def railSetCompOp : OpSpec where
  op := 0x0307
  sh := false
  app := true
  plen := .fixed 24
  bad := railBad
  run := fun q s =>
    let r := railOp q.params
    let c := coefOf q.params
    if (s.rail r).st.runs ∧ c.tick ≠ (s.rail r).loop.coef.tick then refuseRail s r
    else
      afterWords r (sendCoef r c (modRail s (fin48 r) (fun x =>
        if x.st.runs then x else { x with loop := { x.loop with coef := c, coefNext := none } })))

/-- The target code in force: while the rail is stopped, the start target (R120, R134). -/
def Rail.targetNow (x : Rail) : Nat := if x.st.runs then x.loop.target else x.sp.start

/-- D in whole D-LSB, as SHADOW word 4 and the regulation record carry it (R110, R134). (DEDUCED 17, unsafe.) -/
def Loop.duty (l : Loop) : Int := roundDiv l.dPrev 65536

/-- The rail regulation record (R134). A stopped rail shows the reference and the duty of its last run, and a rail that starts its start
target as reference until its leader is loaded. (DESIGN CHOICE 120, unsafe.) -/
def regulationRecord (x : Rail) : List Byte :=
  [byte x.st.code, byte x.regFlags, byte (if x.sp.direct then 0xFF else x.sp.index), byte (x.sp.pending.getD 0xFF)] ++
    le16 x.targetNow ++ le16 (x.loop.ref / 65536) ++ le16 (toCode 16 x.loop.duty) ++ le16 (x.leader % 256) ++
    le16 x.sp.retargets ++ le16 x.loop.coef.tick

/-- RAIL_GET_STATE (R134). -/
def railGetStateOp : OpSpec where
  op := 0x0308
  plen := .fixed 1
  bad := railBad
  run := fun q s => done s (regulationRecord (s.rail (railOp q.params)))

/-- RAIL_ENABLE. -/
def execRailEnable (q : Req) (s : State) : Host.Outcome State Fault Refusal := runOp railEnableOp q s
/-- RAIL_DISABLE. -/
def execRailDisable (q : Req) (s : State) : Host.Outcome State Fault Refusal := runOp railDisableOp q s
/-- RAIL_SET_TARGET. -/
def execRailSetTarget (q : Req) (s : State) : Host.Outcome State Fault Refusal := runOp railSetTargetOp q s
/-- RAIL_STORE_SETPOINT. -/
def execRailStoreSetpoint (q : Req) (s : State) : Host.Outcome State Fault Refusal := runOp railStoreSetpointOp q s
/-- RAIL_BIND_SELECT. -/
def execRailBindSelect (q : Req) (s : State) : Host.Outcome State Fault Refusal := runOp railBindSelectOp q s
/-- RAIL_SET_SLEW. -/
def execRailSetSlew (q : Req) (s : State) : Host.Outcome State Fault Refusal := runOp railSetSlewOp q s
/-- RAIL_SET_COMP. -/
def execRailSetComp (q : Req) (s : State) : Host.Outcome State Fault Refusal := runOp railSetCompOp q s
/-- RAIL_GET_STATE. -/
def execRailGetState (q : Req) (s : State) : Host.Outcome State Fault Refusal := runOp railGetStateOp q s

/-! ## The start sequence -/

/-- The members of a rail placed in the arming queue: before sending begins in ascending rail number, afterwards behind those already
waiting (R114). -/
def queueArm (r : Nat) (ms : List Nat) (s : State) : List (Nat × Nat) :=
  let new := ms.map (fun n => (r, n))
  if s.arming then s.armQ ++ new else s.armQ.filter (fun q => q.1 ≤ r) ++ new ++ s.armQ.filter (fun q => r < q.1)

/-- The duty preset, round(V_pre × 65,536 / VIN), V_pre in codes of 0.5 mV and VIN in mV (R114).
(DESIGN CHOICE 30, safe.) -/
def dutyPreset (vpre vin : Nat) : Int := if vin = 0 then Config.presetVinZero vpre else roundDiv (vpre * 32768) vin

/-- A state of R108, saturated at its 32 bits. (DEDUCED 17, unsafe.) -/
def sat32 (x : Int) : Int := clampInt (-2147483648) 2147483647 x

/-- The leader is loaded: reference, presets and diode emulation (R114, R115). -/
def Rail.preload (x : Rail) (vpre vin : Nat) : Rail :=
  let d := dutyPreset vpre vin
  let q := sat32 (d * 16384)
  { x with
    measuring := false
    loop := { x.loop with ref := min vpre x.loop.target * 65536, i := q, y1 := q, y2 := q, dPrev := d * 65536, ePrev := 0,
                          dem := x.loop.coef.demStart } }

/-- PRESTART_MEASURE_DONE: VIN in mV, the sense pair against the CO lands in µV, each within its channel's span and the mean of eight
conversions; the results are held, and the start is abandoned on a
difference above 200 mV, otherwise the leader is loaded, every member selects SENSE and the members await arming. The measurement waits
while a host run occupies its converter (R31, R44, R114-R116, R264, R271, R272). -/
def execPrestartMeasureDone (r : Fin 48) (vin0 : Nat) (sense0 co0 : Int) (s0 : State) : Host.Outcome State Fault Refusal :=
  let x := s0.rails[r]
  let vin := min 65535 vin0
  let sense := clampInt 0 6553500 sense0
  let co := clampInt 0 6553500 co0
  let s := holdSystem (0x90 + r.val) (quot co0 100) (holdSystem r.val (quot sense0 100) (holdSystem 0xC0 vin0 s0))
  .next (if x.st ≠ .starting ∨ x.measuring = false ∨ (s0.tlm.busy[Fin.ofNat 4 x.measOn]).isSome then s0
    else if 200000 < (sense - co).natAbs then
      abandonStart r.val (changeMembers s r.val (fun _ c => { c with flags := c.flags ||| 0x4 }))
    else
      let vpre := (sense / 500).toNat
      let s1 := modRail s r (fun y => y.preload vpre vin)
      let s2 := changeMembers s1 r.val (fun _ c => { c with diodeEm := x.loop.coef.demStart, demNext := none, senseLocal := false })
      let ms := (succession x.leader (s2.members r.val)).filter (fun n => (s2.cell n).healthy)
      { s2 with armQ := queueArm r.val ms s2 })

/-- ARM_GROUP_DUE: ARM is sent to up to 32 cells of the queue (R38, R57, R114). -/
def execArmGroupDue (s : State) : Host.Outcome State Fault Refusal :=
  let now := (s.armQ.take 32).map Prod.snd
  let rest := s.armQ.drop 32
  .next { post (now.map (fun n => msgTo .arm managerPort n 0)) s with armQ := rest, arming := !rest.isEmpty }

/-- DEM_HOLD_END: members disable diode emulation at their next boundaries, unless the sink limit holds it (R114, R202). -/
def execDemHoldEnd (r : Fin 48) (s : State) : Host.Outcome State Fault Refusal :=
  let x := s.rails[r]
  .next (if x.st.regulates ∧ x.loop.dem ∧ x.loop.demLeft = 0 ∧ x.prot.negLimiting = false then
      changeMembers (modRail s r (fun y => { y with loop := { y.loop with dem := false } })) r.val
        (fun _ c => { c with demNext := some false })
    else s)

/-- RAIL_STOPPED: every member is off, and the rail enters OFF with its event (R117). (DEDUCED 145,
unsafe.) -/
def execRailStopped (r : Fin 48) (s : State) : Host.Outcome State Fault Refusal :=
  .next (if s.rails[r].st = .stopping ∧ (s.members r.val).all (fun n => !(s.cell n).st.serves) then
      pgEvent r.val (modRail s r (fun x => x.leave .off))
    else s)

end Sys2Proof.Machine
end

