-- ==== Sys2Proof/Machine/Phases.lean ====
section
/-! DEFINITION. The phase manager (active count, sheds, firing order) and the crease contexts (frame timing, learning, term and
pre-add) (chapter 05). -/

namespace Sys2Proof.Machine

/-! ## Crease tables -/

/-- The context that serves a rail (R156). -/
def creaseOf (s : State) (r : Nat) : Option (Fin 8) := (List.finRange 8).find? (fun x => decide (s.crease[x].rail = some r))

/-- A context changed, with its event when its state changes (R159, R451). -/
def changeCrease (x : Fin 8) (f : Crease → Crease) (s : State) : State :=
  pulseIf (decide ((f s.crease[x]).st ≠ s.crease[x].st)) (evt (468 + x.val)) { s with crease := upd s.crease x (f s.crease[x]) }

/-- The table and its counts are cleared (R157, R168). -/
def Crease.clearTable (c : Crease) : Crease :=
  { c with cur := [], cor := [], learnedAt := none, frames := 0, odd := 0, missed := 0, sums := [], clean := true }

/-- Entry to ACQUIRING: the frame is no longer known, and strobes are counted anew (R160, R161). -/
def Crease.acquire (c : Crease) (strobes : List Nat) : Crease :=
  { c with st := .acquiring, period := none, nbE := none, strobes := strobes, lastOdd := none, h := 0, sums := [], clean := true }

/-- Frame locked: LEARNING, FROZEN or FADING. -/
def CreaseSt.locked (x : CreaseSt) : Bool := decide (x = .learning) || decide (x = .frozen) || decide (x = .fading)

/-- LEARNING or FROZEN, as LEARN states (R160). -/
def Crease.lockedSt (c : Crease) : CreaseSt := if c.learn then .learning else .frozen

/-- FADE_FR as it acts (R158). -/
def Crease.fade (c : Crease) : Nat := max 1 c.fadeFr

/-- The weight w (R165); zero where no frame is locked. -/
def Crease.weight (c : Crease) : Nat := if c.st.locked then 256 * c.h / c.fade else 0

/-- The bin of a time, not yet reduced to the frame (R162). -/
def Crease.binRaw (c : Crease) (t : Int) : Int :=
  match c.period, c.nbE with
  | some f, some n => if f = 0 then 0 else (t - (c.frameStart : Int)) * n / f
  | _, _ => 0

/-- The bin of a time (R162). -/
def Crease.bin (c : Crease) (t : Int) : Nat := (c.binRaw t % (max 1 (c.nbE.getD 1) : Nat)).toNat

/-! ## Learning (R163) -/

/-- The context's frame holds a control tick of a rail that does not regulate: the frame will not be learned (R163). -/
def Crease.spoil (c : Crease) : Crease := if c.st.locked then { c with clean := false } else c

/-- The sums of one bin gain a tick. -/
def addSum (b : Nat) (e i : Int) : List (Nat × Int × Int × Nat) → List (Nat × Int × Int × Nat)
  | [] => [(b, e, i, 1)]
  | (k, x, y, n) :: l => if k = b then (k, x + e, y + i, n + 1) :: l else (k, x, y, n) :: addSum b e i l

/-- One control tick of learning (R163). -/
def Crease.learnTick (t : Int) (e i : Int) (regulating : Bool) (c : Crease) : Crease :=
  if c.st.locked then { c with sums := addSum (c.bin t) e i c.sums, clean := c.clean && regulating } else c

/-- A learned value held in 16 bits; outside them the spec states no result. (DESIGN CHOICE 16, safe.) -/
def fit16 (v : Int) : Int := if -32768 ≤ v ∧ v ≤ 32767 then v else Config.overflow16 v

/-- COR of a bin after a frame, before the mean is removed (R163). -/
def Crease.newCor (c : Crease) (b : Nat) : Int :=
  match c.sums.find? (fun x => decide (x.1 = b)) with
  | some (_, e, _, n) =>
    clampInt (-(min c.clamp 32767 : Nat)) (min c.clamp 32767 : Nat) (c.cor.getD b 0 + roundDiv (c.kl * e) (2 ^ 20 * n))
  | none => c.cor.getD b 0

/-- CUR of a bin after a frame (R163). -/
def Crease.newCur (c : Crease) (b : Nat) : Nat :=
  match c.sums.find? (fun x => decide (x.1 = b)) with
  | some (_, _, i, n) =>
    let mean := (max 0 (quot i (n * 20))).toNat
    let old := c.cur.getD b 0
    min 65535 (if c.frames = 0 then mean else ((old : Int) + roundDiv ((mean : Int) - old) (2 ^ c.curShift)).toNat)
  | none => c.cur.getD b 0

/-- Quotient rounded toward zero. -/
def towardZero (a : Int) (b : Nat) : Int := if b = 0 then 0 else if 0 ≤ a then a / b else -((-a) / b)

/-- A frame closes: the table learns a clean frame at full weight, the sums are cleared, and a change of LEARN takes effect (R160, R163). -/
def Crease.close (c : Crease) : Crease :=
  let n := c.nbE.getD 0
  let c1 :=
    if c.st = .learning ∧ c.h = c.fade ∧ c.clean then
      let cor := (upto n).map c.newCor
      let m := towardZero cor.sum n
      { c with cor := cor.map (fun v => fit16 (v - m)) ++ c.cor.drop n, cur := (upto n).map c.newCur ++ c.cur.drop n, frames := satInc 65535 c.frames
               learnedAt := c.period }
    else c
  { c1 with sums := [], clean := true, st := if c1.st = .learning ∨ c1.st = .frozen then c1.lockedSt else c1.st }

/-! ## Frame timing (R161) -/

/-- Two spans of fabric ticks agree within 1/1,024 of the second. -/
def within1024 (a b : Int) : Bool := decide ((a - b).natAbs * 1024 ≤ b.natAbs)

/-- NB_E: the largest power of two from BINS down to 64 for which F_L / NB_E is at least the control tick (R162). -/
def binsFor (f tick : Nat) : Nat → Nat → Option Nat
  | 0, _ => none
  | k + 1, n => if n < 64 then none else if tick * n ≤ f then some n else binsFor f tick k (n / 2)

/-- Three intervals of four strobes, newest first, qualify: the sum of the three, when each lies within 1/1,024 of their mean. -/
def qualifySum (ts : List Nat) : Option Nat :=
  match ts with
  | [d, c, b, a] =>
    let t : Int := (d : Int) - a
    if within1024 (3 * ((d : Int) - c)) t && within1024 (3 * ((c : Int) - b)) t && within1024 (3 * ((b : Int) - a)) t
      then some (d - a) else none
  | _ => none

/-- A qualified frame with its bins known is locked: the table kept or cleared, h full or 0 (R160, R161, R165). -/
def Crease.lock (c : Crease) (f nb t : Nat) : Crease :=
  let keep := match c.learnedAt with
    | some fs => within1024 f fs && decide (0 < c.frames)
    | none => false
  let c1 := if keep then c else c.clearTable
  { c1 with st := c.lockedSt, period := some f, nbE := some nb, frameStart := t, tableKept := keep, binShort := false
            h := if keep then 0 else c.fade, strobes := [], lastOdd := none, sums := [], clean := true }

/-- A strobe in ACQUIRING (R160-R162, R171); the mean of three intervals that is no whole number of ticks is one of its neighbours. -/
def Crease.qualify (c : Crease) (t tick : Nat) (ready : Bool) : Crease :=
  let ts := (t :: c.strobes).take 4
  match qualifySum ts with
  | some sum =>
    let f := (quot sum 3).toNat
    match binsFor f tick 5 c.bins with
    | some nb => if ready then { c.lock f nb t with waitRun := false } else { c with strobes := ts, period := some f, binShort := false }
    | none => { c with strobes := ts, period := some f, binShort := true }
  | none => { c with strobes := ts }

/-- An accepted strobe in a locked context: on time, off time, a re-phase or a period change (R160, R161, R165). -/
def Crease.strobe (c : Crease) (t : Nat) : Crease :=
  let f := c.period.getD 0
  if (((t : Int) - (c.frameStart + f : Nat)).natAbs * 1024 ≤ f) then
    let c1 := c.close
    { c1 with frameStart := t, lastOdd := none, h := min c.fade (c1.h + 1), st := if c1.st = .fading then c1.lockedSt else c1.st }
  else
    let c0 := { c with odd := satInc 65535 c.odd }
    match c.lastOdd with
    | none => { c0 with lastOdd := some t }
    | some u =>
      if within1024 ((t : Int) - u) f then
        let c1 := c0.close
        { c1 with frameStart := t, lastOdd := none, rephased := true, st := if c1.st = .fading then c1.lockedSt else c1.st }
      else { (c0.clearTable.acquire [t]) with periodChanged := true }

/-! ## The phase manager -/

/-- The conditions under which the policy is evaluated (R146). -/
def policyActs (x : Rail) : Bool := x.ph.pol.auto && x.st.regulates && !x.loop.dem

/-- ROT falls due: it advances in an APPLY, or waits for the end of a dwell or a holdoff, each rotation counted (R153, R155). -/
def rotate (x : Rail) : Rail :=
  if policyActs x = false ∨ x.ph.tumble = false then x
  else if x.ph.holdoff then { x with ph := { x.ph with rotHeld := x.ph.rotHeld + 1 } }
  else if x.ph.pend.isSome then { x with ph := { x.ph with rotDue := x.ph.rotDue + 1 } }
  else { x with ph := { x.ph with rot := (x.ph.rot + 1) % 256 } }

/-- The ROT that an APPLY carries: under TUMBLE with the rotations a dwell has deferred, which advance where the policy acts, and 0 under
FIXED (R153, R155). -/
def PhaseCtx.carryRot (acts : Bool) (p : PhaseCtx) : PhaseCtx :=
  if p.tumble = false then { p with rot := 0, rotDue := 0, rotHeld := 0 }
  else if acts then { p with rot := (p.rot + p.rotDue) % 256, rotDue := 0 }
  else p

/-- An APPLY with A, and the rotations deferred so far, is sent where it changes something (R140, R155). -/
def PhaseCtx.apply (acts : Bool) (p : PhaseCtx) (a : Nat) : PhaseCtx :=
  if p.aim = a then p else { p.carryRot acts with aNext := some a }

/-- The run of boundaries at which I has lain below (A - s) × SHED_I, with s = min(SHED_STEP, A - base), where A may lie below base
(R148). -/
def PhaseCtx.countLow (p : PhaseCtx) (i : Int) (base : Nat) : PhaseCtx :=
  let s : Int := min (max 1 p.pol.shedStep : Nat) ((p.aim : Int) - base)
  { p with qual := if i < ((p.aim : Int) - s) * p.pol.shedI then min 255 (p.qual + 1) else 0 }

/-- I: the sum of the CURRENT values of the members in SWITCHING, mA (R146). -/
def switchingMa (s : State) (r : Nat) : Int :=
  (((s.members r).filter (fun n => decide ((s.cell n).st = .switching))).map (fun n => (s.cell n).mirCurrent)).sum

/-- Quotient of an integer rounded up. -/
def ceilInt (a : Int) (b : Nat) : Int := -((-a) / b)

/-- Cells needed for a current in mA (R147). -/
def cellsFor (p : Policy) (i : Int) : Nat := (ceilInt i p.addI + p.addMargin).toNat

/-- A_pre and A_win at a boundary time (R166). -/
def preAdd (c : Option Crease) (p : Policy) (t : Int) (tick : Nat) : Nat × Nat :=
  match c with
  | none => (0, 0)
  | some x =>
    if x.preadd ∧ 0 < x.weight then
      let b0 := x.binRaw t
      let lead : Int := x.leadPh * tick
      let span := (x.binRaw (t + lead + (100 * clampNat 1 1000 p.dwell : Nat)) - b0).toNat
      let need (b : Nat) : Nat := cellsFor p ((x.cur.getD b 0 * 20 : Nat) : Int)
      (need (x.bin (t + lead)),
        ((upto (min (span + 1) (x.nbE.getD 1))).map (fun k : Nat => need ((b0 + (k : Int)) % (max 1 (x.nbE.getD 1) : Nat)).toNat)).foldl max 0)
    else (0, 0)

/-- A policy and a firing order that waited for a control-tick boundary are taken, and cancel a pending shed (R145, R149, R171). -/
def PhaseCtx.takeNew (p : PhaseCtx) : PhaseCtx :=
  let p1 := match p.polNext with
    | some n => { p.cancel with pol := n, polNext := none }
    | none => p
  match p1.orderNext with
  | some (tu, src, int) => { p1.cancel with tumble := tu, tumbleStrobe := src, tumbleInt := int, orderNext := none }
  | none => p1

/-- The phase manager at a control-tick boundary (R146-R148, R155): the add rule, the shed rule, or A
= M. A boundary at which the policy is not evaluated ends the run of R148. (DEDUCED 146, unsafe.) -/
def Rail.phaseTick (x : Rail) (i : Int) (pre win : Nat) : Rail :=
  let p := x.ph
  if x.st = .stopping then { x with ph := { p.cancel with preaddNow := false } }
  else if policyActs x = false then { x with ph := { (p.cancel.apply false (max 1 p.m)) with preaddNow := false, qual := 0 } }
  else
    let m := max 1 p.m
    let floor := min (max 1 p.pol.aMin) m
    let need := cellsFor p.pol i
    let req := min m (max floor (max need pre))
    let base := max floor (max need win)
    let p0 := if p.tumble = false ∧ p.rot ≠ 0 then { p with rot := 0 } else p
    let p1 := if p0.pend.isNone then p0.countLow i base else p0
    if p.aim < req then
      { x with ph := { (PhaseCtx.apply true { p1.cancel with qual := p1.qual } req) with preaddNow := decide (max floor need < pre) } }
    else
      let p2 := if p1.pend.isNone ∧ p1.holdoff = false ∧ p1.rotDue ≠ 0 then p1.carryRot true else p1
      let step := min (max 1 p2.pol.shedStep) (p2.aim - base)
      if p2.pend.isNone ∧ p2.holdoff = false ∧ base < p2.aim ∧ max 1 p2.pol.shedQual ≤ p2.qual then
        { x with ph := { p2 with pend := some (p2.aim - step), qual := 0, preaddNow := false } }
      else { x with ph := { p2 with preaddNow := false } }

/-- DWELL_END: the hub sends the APPLY of the pending shed, with the rotations that fell due in the dwell; the shed commits at the rail's
next period boundary, and an ARM or another cancel before it still ends it (R142, R149, R153). (DESIGN CHOICE 7, safe.) -/
def execDwellEnd (r : Fin 48) (s : State) : Host.Outcome State Fault Refusal :=
  .next (if s.rails[r].ph.pend.isSome ∧ s.rails[r].ph.committing = false then
      changePhase r.val (fun p => { p.carryRot (policyActs s.rails[r]) with committing := true }) s
    else s)

/-- HOLDOFF_END: sheds may begin again, and a rotation that fell due in the holdoff is made (R155). -/
def execHoldoffEnd (r : Fin 48) (s : State) : Host.Outcome State Fault Refusal :=
  .next (if s.rails[r].ph.holdoff then
      changePhase r.val (fun p =>
        let q := { p with holdoff := false, rotDue := p.rotDue + p.rotHeld, rotHeld := 0 }
        if q.pend.isNone ∧ q.rotDue ≠ 0 ∧ policyActs s.rails[r] then q.carryRot true else q) s
    else s)

/-- TUMBLE_DUE: TUMBLE_INT control ticks have passed (R154, R155). -/
def execTumbleDue (r : Fin 48) (s : State) : Host.Outcome State Fault Refusal :=
  .next (if s.rails[r].ph.tumbleStrobe = false then changePhase r.val (fun _ => (rotate s.rails[r]).ph) s else s)

/-! ## Strobes -/

/-- A strobe at FRAME_IN is accepted when its interval lies within 125 µs to 160 ms, 12,500 to 16,000,000 fabric ticks; the first after
absence has none (R16). A strobe at the time of the latest is that strobe, seen by another context. -/
def takeStrobe (t : Nat) (s : State) : State × Bool :=
  match s.land.frameAbsent, s.land.frameLast with
  | false, some (u, ok) =>
    if t = u then (s, ok)
    else
      let good := decide (u + 12500 ≤ t) && decide (t ≤ u + 16000000)
      let s1 := { s with land := { s.land with frameLast := some (t, good) } }
      (if good then s1 else landSet 0x10000 s1, good)
  | _, _ => ({ s with land := { s.land with frameAbsent := false, frameLast := some (t, true) } }, true)

/-- A frame has started: a context that is locked has a new frame start, or has become locked (R161). -/
def frameBegan (old new : Crease) : Bool := new.st.locked && (decide (new.frameStart ≠ old.frameStart) || !old.st.locked)

/-- A frame start of a context, if there was one, triggers its telemetry sequences (R161, R268). -/
def frameStarts (x : Fin 8) (old : Crease) (s : State) : State :=
  if frameBegan old s.crease[x] then frameTrigger x.val s.crease[x].frameStart s else s

/-- The rail a context serves. -/
def Crease.railNo (c : Crease) : Nat := c.rail.getD 0

/-- FRAME_STROBE: a strobe at fabric count t, as a context sees it; a frame that it starts triggers telemetry (R154, R160, R161, R165,
R268). -/
def execFrameStrobe (x : Fin 8) (t : Nat) (s : State) : Host.Outcome State Fault Refusal :=
  let (s1, ok) := takeStrobe t s
  let c := s.crease[x]
  let rail := s.rail c.railNo
  .next (frameStarts x c (if ok = false ∨ c.rail = none then s1
    else
      match c.st with
      | .acquiring =>
        changeCrease x (fun y => y.qualify t rail.loop.coef.tick (!y.waitRun || rail.st.runs)) s1
      | .learning | .frozen | .fading =>
        let on := decide (((t : Int) - (c.frameStart + c.period.getD 0 : Nat)).natAbs * 1024 ≤ c.period.getD 0)
        let s2 := changeCrease x (fun y => y.strobe t) s1
        if on ∧ c.st ≠ .fading ∧ rail.ph.tumbleStrobe then changePhase c.railNo (fun _ => (rotate (s2.rail c.railNo)).ph) s2 else s2
      | .disabled => s1))

/-- A prediction passes without a strobe: the frame closes at the predicted time and the weight falls; at 0 the context acquires anew with
its table kept (R160, R161, R165). -/
def Crease.miss (c : Crease) : Crease :=
  if c.st.locked then
    let c1 := c.close
    let c2 := { c1 with missed := satInc 65535 c1.missed, frameStart := c1.frameStart + c1.period.getD 0, h := c1.h - 1 }
    if c2.h = 0 then { (c2.acquire []) with faded := true } else { c2 with st := .fading }
  else c

/-- MISSED: the predicted start has been the frame start, and has triggered telemetry (R161, R268). (DESIGN CHOICE 7, safe.) -/
def execMissed (x : Fin 8) (s : State) : Host.Outcome State Fault Refusal :=
  let c := s.crease[x]
  let s1 := changeCrease x Crease.miss s
  .next (if c.st.locked then frameTrigger x.val (c.frameStart + c.period.getD 0) s1 else s1)

/-- FRAME_IN_ABSENT: no strobe for 200 ms (R16). -/
def execFrameInAbsent (s : State) : Host.Outcome State Fault Refusal :=
  .next { s with land := { s.land with frameAbsent := true } }

/-! ## Commands -/

/-- A policy record (R144). -/
def policyOf (b : List Byte) : Policy :=
  { auto := decide (byteAt b 0 = 1)
    posMax := if 1 ≤ byteAt b 1 ∧ byteAt b 1 ≤ 64 then byteAt b 1 else 64
    aMin := fieldAt b 2 2, addI := fieldAt b 4 2, shedI := fieldAt b 6 2, addMargin := byteAt b 8, shedStep := byteAt b 9
    shedQual := byteAt b 10, stepE := byteAt b 11, dwell := fieldAt b 12 2, holdoff := fieldAt b 14 2 }

/-- PHASE_POLICY (R145): SHED_I must lie below ADD_I; the record is in force from the next control-tick boundary or start. -/
def phasePolicyOp : OpSpec where
  op := 0x0401
  sh := false
  app := true
  plen := .fixed 20
  bad := railBad
  run := fun q s =>
    let n := policyOf (q.params.drop 4)
    if n.shedI < n.addI then
      done (modRail s (fin48 (railOp q.params)) (fun x =>
        { x with ph := { x.ph with polNext := some n } })) [0]
    else noted s [1]

/-- FIRING_ORDER (R154, R171). -/
def firingOrderOp : OpSpec where
  op := 0x0402
  sh := false
  app := true
  plen := .fixed 6
  bad := railBad
  run := fun q s =>
    let n := (decide (byteAt q.params 1 = 1), decide (byteAt q.params 2 = 1), max 1 (fieldAt q.params 4 2))
    done0 (modRail s (fin48 (railOp q.params)) (fun x =>
      { x with ph := { x.ph with orderNext := some n } }))

/-- Bytes 0 of a crease command (R364). -/
def creaseBad (_ : Nat) (p : List Byte) : Option Nat := firstBad p [{ off := 0, hi := 7 }]

/-- BINS as a bin count (R158). -/
def binsOf (b : Nat) : Nat := if b < 4 then 64 * 2 ^ b else 1024

/-- A configuration record written into a context (R158, R160, R171); RAIL beyond 47 names no rail. A context named another rail learns that
rail anew. A change of BINS clears the table of a context that is acquiring too, and keeps that of a DISABLED one. (DESIGN CHOICE 121,
unsafe.) -/
def Crease.configure (c : Crease) (b : List Byte) (valid : Bool) : Crease :=
  let rail := if byteAt b 0 ≤ 47 then some (byteAt b 0) else none
  let c1 : Crease :=
    { c with
      rail := rail, enable := natBit (byteAt b 1) 0, learn := natBit (byteAt b 1) 1, preadd := natBit (byteAt b 1) 2
      bins := binsOf (byteAt b 2), leadC := min 63 (byteAt b 3), leadPh := byteAt b 4, fadeFr := byteAt b 5
      curShift := min 7 (byteAt b 6), kl := fieldAt b 8 2, clamp := min 32767 (fieldAt b 10 2) }
  if rail = none ∨ c1.enable = false then { c1 with st := .disabled, period := none, nbE := none, strobes := [], lastOdd := none }
  else if c.st = .disabled then { (c1.acquire []) with waitRun := !valid }
  else if rail ≠ c.rail then { (c1.clearTable.acquire []) with waitRun := !valid }
  else if c1.bins ≠ c.bins then (c1.clearTable.acquire [])
  else { c1 with h := min c1.h c1.fade }

/-- CREASE_CONFIG (R156, R160, R171): naming a rail releases any other context that named it. -/
def creaseConfigOp : OpSpec where
  op := 0x0403
  v := 2
  sh := false
  app := true
  plen := .fixed 16
  bad := fun v p =>
    (creaseBad v p).or (if fieldAt p 4 1 ≤ 47 ∨ fieldAt p 4 1 = 0xFF then none else some 4)
  run := fun q s =>
    let x := Fin.ofNat 8 (byteAt q.params 0)
    let b := q.params.drop 4
    let valid := decide (byteAt b 0 ≤ 47) && (s.entry (byteAt b 0)).valid
    let s1 := changeCrease x (fun c => c.configure b valid) s
    done0 ((List.finRange 8).foldl (fun t y =>
      if y ≠ x ∧ byteAt b 0 ≤ 47 ∧ t.crease[y].rail = some (byteAt b 0) then
        changeCrease y (fun c => { c with rail := none, st := .disabled, period := none, nbE := none, strobes := [], lastOdd := none }) t
      else t) s1)

/-- The crease status record (R168). -/
def creaseRecord (c : Crease) : List Byte :=
  [byte c.st.code, byte c.word] ++ le16 (c.nbE.getD 0) ++ le32 (c.period.getD 0) ++ le16 c.weight ++ le16 c.frames ++ le16 c.odd ++
    le16 c.missed

/-- CREASE_READ (R157, R170). -/
def creaseReadOp : OpSpec where
  op := 0x0404
  v := 2
  plen := .fixed 2
  bad := creaseBad
  run := fun q s =>
    let c := s.crease[Fin.ofNat 8 (byteAt q.params 0)]
    let sel := byteAt q.params 1
    if 1 ≤ sel ∧ sel ≤ 16 then
      done s ((upto 64).flatMap (fun k =>
        le16 (c.cur.getD (64 * (sel - 1) + k) 0) ++ le16 (toCode 16 (c.cor.getD (64 * (sel - 1) + k) 0))))
    else done s (creaseRecord c)

/-- CREASE_CLEAR (R160): the table is cleared; a context that is not DISABLED acquires anew. -/
def creaseClearOp : OpSpec where
  op := 0x0405
  v := 2
  sh := false
  plen := .fixed 1
  bad := creaseBad
  run := fun q s =>
    done0 (changeCrease (Fin.ofNat 8 (byteAt q.params 0))
      (fun c => if c.st = .disabled then c.clearTable else c.clearTable.acquire []) s)

/-- The phase status record (R167). -/
def phaseRecord (s : State) (r : Nat) : List Byte :=
  let p := (s.rail r).ph
  le16 p.a ++ le16 p.m ++ [byte (min p.pol.posMax p.a), byte p.rot] ++ le16 (p.pend.getD 0) ++ le16 p.sheds ++ le16 p.cancels ++
    le16 p.readds ++
    [byte (b2n p.holdoff + b2n p.preaddNow * 2 + b2n p.pol.auto * 4 + b2n p.tumble * 8),
      byte (match creaseOf s r with
        | some x => x.val
        | none => 0xFF)]

/-- PHASE_STATUS (R167). -/
def phaseStatusOp : OpSpec where
  op := 0x0406
  v := 2
  plen := .fixed 1
  bad := railBad
  run := fun q s => done s (phaseRecord s (railOp q.params))

/-- PHASE_POLICY. -/
def execPhasePolicy (q : Req) (s : State) : Host.Outcome State Fault Refusal := runOp phasePolicyOp q s
/-- FIRING_ORDER. -/
def execFiringOrder (q : Req) (s : State) : Host.Outcome State Fault Refusal := runOp firingOrderOp q s
/-- CREASE_CONFIG. -/
def execCreaseConfig (q : Req) (s : State) : Host.Outcome State Fault Refusal := runOp creaseConfigOp q s
/-- CREASE_READ. -/
def execCreaseRead (q : Req) (s : State) : Host.Outcome State Fault Refusal := runOp creaseReadOp q s
/-- CREASE_CLEAR. -/
def execCreaseClear (q : Req) (s : State) : Host.Outcome State Fault Refusal := runOp creaseClearOp q s
/-- PHASE_STATUS. -/
def execPhaseStatus (q : Req) (s : State) : Host.Outcome State Fault Refusal := runOp phaseStatusOp q s

end Sys2Proof.Machine
end

