-- ==== Sys2Proof/Machine/RailMap.lean ====
section
/-! DEFINITION. The rail map: staging, checking and applying it, membership records, and the tack probe (chapter 03). -/

namespace Sys2Proof.Machine

/-! ## Entries and records -/

/-- A rail-map entry from its 40 bytes (R69, R70). -/
def entryOf (b : List Byte) : MapEntry :=
  { valid := natBit (fieldAt b 0 4) 31, skip := natBit (fieldAt b 0 4) 30, rated := fieldAt b 4 2, leader := byteAt b 6
    members := BitVec.ofNat 256 (fieldAt b 8 32) }

/-- The 40 bytes of an entry, MEMBER_N computed (R69, R70). -/
def MapEntry.bytes (e : MapEntry) : List Byte :=
  le32 (b2n e.valid * 2 ^ 31 + b2n e.skip * 2 ^ 30 + memberN e.members) ++ le16 e.rated ++ [byte e.leader, 0] ++
    leBytes 32 e.members.toNat

/-- A class that gives its net an estimate: SINGLE, NETTED or GROUNDED (R89). -/
def ProbeWord.measured (w : ProbeWord) : Bool := decide (1 ≤ w.cls) && decide (w.cls ≤ 3)

/-- The capacitance estimate of a rail: that of its members' net, read from the lowest-numbered member that lies on a net measured; 0
for a rail that is not VALID (R89, R93). (DEDUCED 21, unsafe; DESIGN CHOICE 122, unsafe.) -/
def railCap (s : State) (r : Nat) : Nat :=
  match (s.members r).find? (fun n => (s.map.words[fin256 n]).measured) with
  | some n => s.map.words[fin256 n].cap
  | none => 0

/-- RM_FLAGS (R89, R98): 0xFFFF says GROUNDED and is no estimate. -/
def rmFlags (s : State) (r : Nat) : Nat :=
  let c := railCap s r
  b2n ((s.entry r).valid && decide (c ≠ 0xFFFF) && decide (memberN (s.entry r).members * 122 < c)) * 16 + b2n (s.entry r).skip * 8 +
    b2n (s.rail r).leaderSilent * 4 + b2n (s.rail r).leaderConflict * 2 + b2n (degraded s r)

/-- The membership-status record (R97). -/
def membershipRecord (s : State) (r : Nat) : List Byte :=
  let h := s.healthyN r
  le16 (b2n (s.rail r).st.runs * 32768 + (s.rail r).leader % 256) ++ le16 h ++
    [byte (min 255 (h - (s.entry r).rated)), byte (s.rail r).takeovers, byte s.map.activeChk[fin48 r], byte (rmFlags s r)]

/-- Entries of both maps that name a cell are rechecked (R96). -/
def recheckNaming (c : Nat) (s : State) : State :=
  let again (m : Vector MapEntry 48) (old : Vector Nat 48) : Vector Nat 48 :=
    mapIdx old (fun r k => if m[fin48 r].members.getLsbD c then checkCode s m r else k)
  { s with map := { s.map with stagedChk := again s.map.staged s.map.stagedChk, activeChk := again s.map.active s.map.activeChk } }

/-- The check codes of a map, rails 0-47. -/
def codeBytes (v : Vector Nat 48) : List Byte := v.toList.map byte

/-! ## Staging -/

/-- The staged map is rechecked (R71). -/
def recheckStaged (s : State) : State :=
  { s with map := { s.map with stagedChk := mapIdx s.map.stagedChk (fun r _ => checkCode s s.map.staged r) } }

/-- Staged entries written from a rail upward (R71). -/
def stageEntries (first : Nat) (es : List MapEntry) (s : State) : State :=
  recheckStaged { s with map := { s.map with
    staged := mapIdx s.map.staged (fun r e => if first ≤ r ∧ r < first + es.length then es.getD (r - first) e else e) } }

/-- A first rail and a count within 48 rails (R364). -/
def rangeBad (p : List Byte) (first count hi : Nat) : Option Nat :=
  (firstBad p [{ off := first, hi := 47 }, { off := count, lo := 1, hi := hi }]).or
    (if 48 < byteAt p first + byteAt p count then some count else none)

/-- RAILMAP_SET (R71, R93). -/
def railmapSetOp : OpSpec where
  op := 0x0201
  sh := false
  app := true
  plen := .counted 2 40 1
  bad := fun _ p => rangeBad p 0 1 12
  run := fun q s =>
    let n := byteAt q.params 1
    let t := stageEntries (byteAt q.params 0) ((upto n).map (fun k => entryOf (q.params.drop (2 + 40 * k)))) s
    done t ([byte (mapCode t)] ++ codeBytes t.map.stagedChk)

/-- RAILMAP_GET (R93). The spec gives copies 0-2; of another copy the records are entries of free values with their reserved fields zero
(R7). (DESIGN CHOICE 20, safe.) -/
def railmapGetOp : OpSpec where
  op := 0x0202
  plen := .fixed 3
  bad := fun _ p => rangeBad p 1 2 (if byteAt p 0 = 2 then 48 else 12)
  big := fun p => some (1 + (if byteAt p 0 = 2 then 8 else 40) * byteAt p 2)
  run := fun q s =>
    let rs := (upto (byteAt q.params 2)).map (fun k => byteAt q.params 1 + k)
    let recs := match byteAt q.params 0 with
      | 0 => rs.flatMap (fun r => (s.map.staged[fin48 r]).bytes)
      | 1 => rs.flatMap (fun r => (s.entry r).bytes)
      | 2 => rs.flatMap (membershipRecord s)
      | _ => rs.flatMap (fun r => (entryOf (leBytes 40 (Config.freeNat (s.free + r)))).bytes)
    done { s with free := s.free + 48 } ([byte (mapCode s)] ++ recs)

/-! ## Applying -/

/-- The apply changes the entry of a rail that is neither OFF nor LATCHED_OFF (R95, R392). -/
def applyUndefined (s : State) : Bool :=
  (upto 48).any (fun r => decide (s.map.staged[fin48 r] ≠ s.entry r) && (s.rail r).st.runs)

/-- A stopped rail takes its entry: leading cell, and its members' membership and configuration words, roles as at a start from it
(R47, R73, R94). (DESIGN CHOICE 123, unsafe.) -/
def writeMembership (r : Nat) (s : State) : State :=
  if (s.rail r).st.runs ∨ (s.entry r).valid = false then s
  else
    let lead := (startLeader s r).getD (s.entry r).leader
    let order := (succession lead (s.members r)).filter (fun n => (s.cell n).healthy)
    modRail (changeMembers (assignRoles s r lead order) r (fun _ c => { c with coef := (s.rail r).loop.coef })) (fin48 r)
      (fun x => { x with leader := lead })

/-- The staged map becomes the active map, and the spur plan is evaluated (R94, R188). -/
def copyMap (s : State) : State :=
  let s1 := recheckActive { s with map := { s.map with active := s.map.staged } }
  let s2 := mapCells s1 (fun n c =>
    if c.st ≠ .retired ∧ (upto 48).all (fun r => !((s1.entry r).valid && (s1.entry r).members.getLsbD n)) then { c with role := .none }
    else c)
  spurEval ((upto 48).foldl (fun t r => writeMembership r t) s2)

/-- RAILMAP_APPLY (R84, R94, R95). -/
def railmapApplyOp : OpSpec where
  op := 0x0205
  v := 2
  sh := false
  app := true
  plen := .fixed 0
  run := fun _ s =>
    if s.map.probe = .running then refuse s 2 (mapCode s) 0xFF
    else if mapState s.map = 0 then done s [byte (mapCode s)]
    else if mapState s.map = 2 then refuse s 2 (mapCode s) 0xFF
    else if applyUndefined s then (s, .undef .undefinedMapApply)
    else
      let t := copyMap s
      ({ t with map := { t.map with applying := true } }, .defer .mapStore)

/-- The slot start that waited for an apply is judged (R94). -/
def judgeWaiting (s : State) : State :=
  match s.dom.ph, s.dom.cur with
  | .waitApply, some k => startSlot k s
  | _, _ => s

/-- MAP_STORE_DONE: the active map is stored, the command replies, and a waiting slot start is judged (R94). -/
def execMapStoreDone (s : State) : Host.Outcome State Fault Refusal :=
  if s.map.applying then
    let s1 := { s with map := { s.map with applying := false, stored := some s.map.active } }
    let s2 := match s1.proto.exec with
      | some (_, .mapStore) => complete .done [byte (mapCode s1)] s1
      | _ => s1
    .next (judgeWaiting s2)
  else .next s

/-! ## The tack probe -/

/-- The probe starts: every cell that is not RETIRED listens at its own lands with a reference of 0 mV, and the previous result is kept
for R540 (R85, R90). -/
def startProbe (s : State) : State :=
  let s1 := changeCells s (fun _ c => { c with senseLocal := true, ref := 0 })
  recheckActive { s1 with map := { s1.map with
    prev := if s1.map.probe = .complete then some s1.map.words else none
    probe := .running, words := blankWords, probing := false, looks := 0, above := 0, storedProbe := none } }

/-- TACK_PROBE (R83). -/
def tackProbeOp : OpSpec where
  op := 0x0203
  sh := false
  app := true
  plen := .fixed 0
  run := fun _ s =>
    if s.map.probe = .running then busy s 0
    else
      match lowestRunning s with
      | some r => refuse s 1 (s.rail r).st.code r
      | none => started (startProbe s)

/-- The word of a cell that takes no part: RETIRED, kept from the previous result, or ENERGISED (R88, R540). -/
def outWord (s : State) (above : BitVec 256) (n : Nat) (w : ProbeWord) : ProbeWord :=
  if (s.cell n).st = .retired then { cls := 5, kept := false, net := n, cap := 0 }
  else if above.getLsbD n then
    match s.map.prev with
    | some p =>
      if p[fin256 n].cls = 1 ∨ p[fin256 n].cls = 2 then { p[fin256 n] with kept := true }
      else { cls := 4, kept := false, net := n, cap := 0 }
    | none => { cls := 4, kept := false, net := n, cap := 0 }
  else w

/-- TACK_DISCHARGE_LOOK: probing begins at the first look that finds no output above 128 mV, or at 100 ms (R85, R540). -/
def execTackDischargeLook (above : BitVec 256) (last : Bool) (s : State) : Host.Outcome State Fault Refusal :=
  .next (if s.map.probe = .running ∧ s.map.probing = false then
      let up := (upto 256).any (fun n => above.getLsbD n && decide ((s.cell n).st ≠ .retired))
      let begin_ := !up || last || decide (100 ≤ s.map.looks)
      { s with map := { s.map with
        looks := s.map.looks + 1, above := above, probing := begin_
        words := if begin_ then mapIdx s.map.words (outWord s above) else s.map.words } }
    else s)

/-- A cell waits to be probed: it takes part and lies on no net yet. -/
def unplaced (s : State) (n : Nat) : Bool := decide (s.map.words[fin256 n].cls = 0)

/-- The next cell to be probed (R85). -/
def nextProbed (s : State) : Option Nat := (upto 256).find? (unplaced s)

/-- The capacitance estimate of an amplitude in 0.01 mV: 1,250,000 / amplitude µF; 0 where the window is saturated (R89). -/
def capOf (amp : Nat) : Nat := if 25600 ≤ amp then 0 else min 0xFFFE (quot 1250000 amp).toNat

/-- A cell that takes part in the probing and whose class leaves it free to lie on a net with others: not yet classed, or found SINGLE or
NETTED in this probe (R85, R540). -/
def ProbeWord.placeable (w : ProbeWord) : Bool := decide (w.cls ≤ 2) && !w.kept

/-- The words after the slot of cell `p`: a fault, GROUNDED, or its net of every cell taking part whose amplitude is at least half its
own, with the cells already found on that cell's net; NET is the lowest number on it (R85, R87-R89). Amplitudes in 0.01 mV. Cells that
hear a GROUNDED or faulty cell are left to be probed themselves. (DESIGN CHOICE 124, unsafe.) -/
def probeSlot (s : State) (p : Nat) (amps : List Nat) (fault : Bool) : Vector ProbeWord 256 :=
  let own := amps.getD p 0
  let w (n : Nat) : ProbeWord := s.map.words[fin256 n]
  let hears := (upto 256).filter (fun n => decide (n ≠ p) && (w n).placeable && decide (own ≤ 2 * amps.getD n 0))
  let nets := (hears.filter (fun n => decide ((w n).cls = 2))).map (fun n => (w n).net)
  let joins (n : Nat) : Bool := hears.contains n || (decide ((w n).cls = 2) && !(w n).kept && nets.contains (w n).net)
  let net := (((upto 256).find? joins).map (fun n => min n p)).getD p
  mapIdx s.map.words (fun n x =>
    if n = p then
      if fault then { cls := 6, kept := false, net := n, cap := 0 }
      else if own < 19 then { cls := 3, kept := false, net := n, cap := 0xFFFF }
      else { cls := if hears.isEmpty then 1 else 2, kept := false, net := net, cap := capOf own }
    else if !fault && decide (19 ≤ own) && joins n then { cls := 2, kept := false, net := net, cap := capOf own }
    else x)

/-- TACK_SLOT_END: the slot of the cell being probed ends (R85). -/
def execTackSlotEnd (c : Fin 256) (amps : List Nat) (fault : Bool) (s : State) : Host.Outcome State Fault Refusal :=
  .next (if s.map.probe = .running ∧ s.map.probing ∧ nextProbed s = some c.val then
      { s with map := { s.map with words := probeSlot s c.val amps fault } }
    else s)

/-- TACK_DONE: every cell is classed; the result is held and stored, and the active map rechecked (R83, R90, R91). -/
def execTackDone (s : State) : Host.Outcome State Fault Refusal :=
  .next (if s.map.probe = .running ∧ s.map.probing ∧ nextProbed s = none then
      pulse 563 (recheckActive { s with map := { s.map with
        probe := .complete, probing := false, prev := none, storedProbe := some s.map.words } })
    else s)

/-- The result word of a cell (R87). -/
def ProbeWord.word (w : ProbeWord) : Nat := w.cls * 8192 + b2n w.kept * 4096 + w.net % 256

/-- TACK_RESULT (R93). -/
def tackResultOp : OpSpec where
  op := 0x0204
  plen := .fixed 1
  big := fun p => some (if byteAt p 0 = 1 ∨ byteAt p 0 = 2 then 256 else 145)
  run := fun q s =>
    let sel := byteAt q.params 0
    if sel = 1 ∨ sel = 2 then
      done s ((upto 128).flatMap (fun k => le16 (s.map.words[fin256 (128 * (sel - 1) + k)]).word))
    else done s ([byte (mapCode s)] ++ codeBytes s.map.activeChk ++ (upto 48).flatMap (fun r => le16 (railCap s r)))

/-- RAILMAP_SET. -/
def execRailmapSet (q : Req) (s : State) : Host.Outcome State Fault Refusal := runOp railmapSetOp q s
/-- RAILMAP_GET. -/
def execRailmapGet (q : Req) (s : State) : Host.Outcome State Fault Refusal := runOp railmapGetOp q s
/-- TACK_PROBE. -/
def execTackProbe (q : Req) (s : State) : Host.Outcome State Fault Refusal := runOp tackProbeOp q s
/-- TACK_RESULT. -/
def execTackResult (q : Req) (s : State) : Host.Outcome State Fault Refusal := runOp tackResultOp q s
/-- RAILMAP_APPLY. -/
def execRailmapApply (q : Req) (s : State) : Host.Outcome State Fault Refusal := runOp railmapApplyOp q s

end Sys2Proof.Machine
end

