-- ==== Sys2Proof/Machine/Protection.lean ====
section
/-! DEFINITION. Limits, windows and trips; retiring, restoring and clearing; the coverage report (chapter 07, R31). -/

namespace Sys2Proof.Machine

/-! ## Limits and windows -/

/-- ILIM in force: the value set, or 300 × RATED (R200). -/
def ilimOf (s : State) (r : Nat) : Nat := (s.rail r).prot.ilim.getD (300 * (s.entry r).rated)

/-- NEG_ILIM in force: the value set, or 50 × MEMBER_N; 0 disables the sink limit (R200). -/
def negIlimOf (s : State) (r : Nat) : Nat := (s.rail r).prot.negIlim.getD (50 * memberN (s.entry r).members)

/-- ILIM_EFF (R201). -/
def ilimEff (s : State) (r : Nat) : Nat := ilimOf s r * (8 - (s.rail r).prot.thrStep) / 8

/-- The words of a LIMITS_SET: the peak limit to every member, to take effect at its next period boundary, and the other limits to the
leader of a running rail, to take effect at its next control-tick boundary (R200). -/
def limitWords (s : State) (r pk ramp ilim neg klim : Nat) : List Msg :=
  configCast s r 0x35 (BitVec.ofNat 32 (pk + ramp * 256)) ::
    (if (s.rail r).st.runs then
      [configTo ilimWord (s.rail r).leader (BitVec.ofNat 32 ilim), configTo sinkWord (s.rail r).leader (BitVec.ofNat 32 (neg + klim * 65536))]
    else [])

/-- LIMITS_SET (R200, R219). -/
def limitsSetOp : OpSpec where
  op := 0x0601
  sh := false
  app := true
  plen := .fixed 12
  bad := railBad
  run := fun q s =>
    let r := railOp q.params
    let pk := byteAt q.params 1
    let ramp := byteAt q.params 2
    let ilim := fieldAt q.params 4 4
    let neg := fieldAt q.params 8 2
    let klim := fieldAt q.params 10 2
    let s1 := modRail s (fin48 r) (fun x =>
      if x.st.runs then { x with prot := { x.prot with pkLim := pk, ramp := ramp } }
      else { x with prot := { x.prot with pkLim := pk, ramp := ramp, ilim := some ilim, negIlim := some neg, klim := klim
                                          ilimNext := none, sinkNext := none } })
    afterWords r (post (limitWords s r pk ramp ilim neg klim) s1)

/-- WINDOW_SET (R203, R204, R207, R219). -/
def windowSetOp : OpSpec where
  op := 0x0602
  sh := false
  app := true
  plen := .fixed 10
  bad := railBad
  run := fun q s =>
    done0 (modRail s (fin48 (railOp q.params)) (fun x => { x with prot := { x.prot with
      autoClr := natBit (byteAt q.params 1) 0, ovMv := min 1000 (fieldAt q.params 2 2), uvMv := min 1000 (fieldAt q.params 4 2)
      ovFilt := byteAt q.params 6, uvFilt := fieldAt q.params 8 2 } }))

/-! ## Trips -/

/-- OV_TRIP: the overvoltage comparator has been asserted for its filter time. The trip is latched
with its event; on a rail in STARTING, REGULATING, SLEWING or STOPPING, or one that has left them
for OFF in the same control tick, it is a fault on a running rail; without power the comparators
are off (R101, R204-R206, R467). (DEDUCED 145, unsafe.) -/
def execOvTrip (r : Fin 48) (s : State) : Host.Outcome State Fault Refusal :=
  let s1 := pgChange r (fun x => { x with prot := { x.prot with ovNow := true } }) s
  let s2 := modRail s1 r (fun x => { x with prot := { x.prot with ovTrip := true } })
  let s3 := setLine (evt (256 + 4 * r.val)) true s2
  .next (if s.off then s else if s.rails[r].st.runs ∨ s.rails[r].offFrom.any RailSt.runs then railFault r.val true s3 else s3)

/-- UV_TRIP: the undervoltage comparator is judged in REGULATING and SLEWING only; its trip is a fault on a running rail, and comes before
another cause of the same control tick that has turned the rail OFF (R101, R204-R206). -/
def execUvTrip (r : Fin 48) (s : State) : Host.Outcome State Fault Refusal :=
  .next (if s.off = false ∧ (s.rails[r].st.regulates ∨ s.rails[r].offFrom.any RailSt.regulates) then
      let s1 := pgChange r (fun x => { x with prot := { x.prot with uvNow := true } }) s
      let s2 := modRail s1 r (fun x => { x with prot := { x.prot with uvTrip := true } })
      railFault r.val false (setLine (evt (257 + 4 * r.val)) true s2)
    else s)

/-- A reading more than 3 LSB from the code in force (R208). -/
def thrOff (reading code : Nat) : Bool := decide (3 < ((reading : Int) - code).natAbs)

/-- THRESHOLD_READBACK: the readings of a VALID rail's two threshold converters, in codes of 4 mV, held and compared while the manager
runs; they wait while a host run occupies the system converter (R208, R271, R272). (DEDUCED 133, safe.) -/
def execThresholdReadback (r : Fin 48) (ov uv : Nat) (s0 : State) : Host.Outcome State Fault Refusal :=
  let x := s0.rails[r]
  let s := holdSystem (0x60 + r.val) (40 * uv : Nat) (holdSystem (0x30 + r.val) (40 * ov : Nat) s0)
  let badOv := thrOff ov x.ovInForce
  let badUv := thrOff uv x.uvInForce
  .next (if s0.map.active[r].valid ∧ s0.proto.running ∧ (s0.tlm.busy[Fin.ofNat 4 s0.tlm.sysConv]).isNone then
      if badOv ∨ badUv then
        pgEvent r.val (modRail s r (fun y => { y with prot := { y.prot with
          thrFailOv := y.prot.thrFailOv || badOv, thrFailUv := y.prot.thrFailUv || badUv } }))
      else s
    else s0)

/-- SENSE_FAULT: the sense pair has differed from the leader's CO lands by more than 200 mV for 64 µs; every member selects LOCAL until the
next start (R31, R44, R64). -/
def execSenseFault (r : Fin 48) (s : State) : Host.Outcome State Fault Refusal :=
  .next (if s.rails[r].st.regulates then
      changeMembers (modRail s r (fun x => { x with prot := { x.prot with senseFault := true } })) r.val
        (fun _ c => { c with senseLocal := true, flags := c.flags ||| 0x4 })
    else s)

/-- NEG_LIMIT_RELEASE: i_rail has been at or above zero for 8 consecutive control ticks. Diode emulation is removed unless a stop, a
start or DEM_HOLD holds it (R114, R117, R202). -/
def execNegLimitRelease (r : Fin 48) (s : State) : Host.Outcome State Fault Refusal :=
  let x := s.rails[r]
  .next (if x.prot.negLimiting ∧ 8 ≤ x.prot.negTicks then
      let s1 := modRail s r (fun y => { y with prot := { y.prot with negLimiting := false, negTicks := 0 } })
      if x.st = .stopping ∨ 0 < x.loop.demLeft ∨ (x.st = .starting ∧ x.loop.coef.demStart) then s1
      else
        changeMembers (modRail s1 r (fun y => { y with loop := { y.loop with dem := false } })) r.val
          (fun _ c => { c with demNext := some false })
    else s)

/-! ## Retiring and restoring -/

/-- A cell serves as the last healthy member of a running rail: the rail (R213). -/
def lastHealthy (s : State) (c : Nat) : Option Nat :=
  (upto 48).find? (fun r => (s.rail r).st.runs && (s.memberSet r).getLsbD c && (s.cell c).healthy && decide (s.healthyN r = 1))

/-- A cell enters RETIRED from OFF or ISOLATED; one in service is isolated first (R213). -/
def retireCell (c : Fin 256) (s : State) : State :=
  let s1 := if s.cells[c].st.serves then isolateCell c 8 s else s
  let s2 := changeCell s1 c (fun x => { x with st := .retired, precharge := false })
  let fromOff := decide (s.cells[c].st = CellSt.off)
  let s3 := match railOf s2 c.val with
    | some r => if fromOff then memberLost r s2 else s2
    | none => s2
  recheckNaming c.val { s3 with map := { s3.map with retiredSet := s3.map.retiredSet ||| BitVec.ofNat 256 (2 ^ c.val) } }

/-- CELL_RETIRE (R84, R213). -/
def cellRetireOp : OpSpec where
  op := 0x0603
  sh := false
  app := true
  plen := .fixed 1
  run := fun q s =>
    let c := fin256 (byteAt q.params 0)
    if s.map.probe = .running then refuse s 2 (mapCode s) 0xFF
    else if s.cells[c].st = .retired then done0 s
    else
      match lastHealthy s c.val with
      | some r => refuseRail s r
      | none => done0 (retireCell c s)

/-- A cell that is OFF while VIN lies above 16.5 V is ISOLATED for it (R21, R36). -/
def overIsolate (c : Fin 256) (s : State) : State := if s.land.vinOver ∧ s.cells[c].st = .off then changeCell s c (Cell.isolated 7) else s

/-- CELL_RESTORE (R21, R84, R96, R213). -/
def cellRestoreOp : OpSpec where
  op := 0x0604
  sh := false
  plen := .fixed 1
  run := fun q s =>
    let c := fin256 (byteAt q.params 0)
    if s.map.probe = .running then refuse s 2 (mapCode s) 0xFF
    else if s.cells[c].st ≠ .retired then noted s []
    else
      let s1 := pulse (evt c.val) (modCell s c (fun x => { x with st := .off, role := .none }))
      let s2 := recheckNaming c.val { s1 with map := { s1.map with retiredSet := s1.map.retiredSet &&& ~~~ BitVec.ofNat 256 (2 ^ c.val) } }
      done0 (overIsolate c (spurEval s2))

/-- The field of FAULT_CLEAR's index that its scope checks (R220, R364). -/
def clearBad (_ : Nat) (p : List Byte) : Option Nat :=
  if 1 ≤ byteAt p 0 ∧ byteAt p 0 ≤ 3 then firstBad p [{ off := 1, hi := 47 }]
  else if byteAt p 0 = 4 then firstBad p [{ off := 1, hi := 7 }]
  else none

/-- FAULT_CLEAR (R212, R219, R220, R391, R392). (DESIGN CHOICE 22, unsafe.) -/
def faultClearOp : OpSpec where
  op := 0x0605
  plen := .fixed 8
  bad := clearBad
  run := fun q s =>
    let scope := byteAt q.params 0
    let c := fin256 (byteAt q.params 1)
    let mask := fieldAt q.params 4 4
    if scope = 0 ∧ s.cells[c].st = .retired then (s, .undef .undefinedRetiredCell)
    else
      match clearScope scope (byteAt q.params 1) mask s with
      | none => noted s [0xFF]
      | some t =>
        if scope ≠ 0 ∨ natBit mask 16 = false then done t [0xFF]
        else if s.cells[c].st ≠ .isolated then noted t [3]
        else if s.cells[c].isoCause = 1 ∨ s.cells[c].isoCause = 2 then noted t [1]
        else (t, .defer (.restore c))

/-- A cell leaves ISOLATED for OFF without a role (R75, R212). -/
def restoreCell (c : Fin 256) (s : State) : State :=
  changeCell s c (fun x => if x.st = .isolated then { x with st := .off, role := .none } else x)

/-- CELL_SELF_TEST_DONE: the self-test of FAULT_CLEAR with RESTORE ends (R212, R219). -/
def execCellSelfTestDone (passed : Bool) (s : State) : Host.Outcome State Fault Refusal :=
  .next (match s.proto.exec with
    | some (_, .restore c) =>
      if passed then complete .done [0] (overIsolate c (restoreCell c s)) else complete .doneWithNote [2] s
    | _ => s)

/-! ## Coverage -/

/-- FUSE_OK: no MARGINAL row is left unmoved (R223, R504). -/
def fuseOk (s : State) : Bool := s.fuse.marginal.isEmpty

/-- RESPONSE_DUE: a masked fault awaits the manager's response (R217, R223). -/
def responseDue (s : State) : Bool := (upto 48).any (fun r => (s.rail r).rewriteDue && (s.rail r).st.runs)

/-- The module coverage flags (R223). -/
def coverageFlags (s : State) : Nat :=
  b2n (responseDue s) * 16 + b2n (fuseOk s) * 8 + b2n (!s.clk.xoBad) * 4 + b2n (ringClosed s) * 2 + b2n s.fw.lockstepOk

/-- A cell fault would be masked: a spare is left, and the rail current exceeds neither 3.0 A × (HEALTHY - 1) nor ILIM_EFF (R215). -/
def cellMasked (s : State) (r : Nat) : Bool :=
  decide ((s.entry r).rated < s.healthyN r) && decide (s.railMa r ≤ 3000 * (((s.healthyN r : Nat) : Int) - 1)) &&
    decide (s.railMa r ≤ 10 * (ilimEff s r : Int))

/-- The window meets R216: each margin is at least the larger of 20 mV and 3 % of the set-point, codes of 0.5 mV. -/
def windowMeets (x : Rail) : Bool :=
  let ok (mv : Nat) : Bool := decide (20 ≤ mv) && decide (3 * x.targetNow ≤ 200 * mv)
  ok x.prot.ovMv && ok x.prot.uvMv

/-- COV of a rail (R222). -/
def covOf (s : State) (r : Nat) : Nat :=
  b2n ((s.entry r).valid && (s.rail r).st.runs) * 8 + b2n (windowMeets (s.rail r)) * 4 + b2n (decide (2 ≤ s.healthyN r)) * 2 +
    b2n (cellMasked s r)

/-- A rail coverage record (R222). -/
def coverageRecord (s : State) (r : Nat) : List Byte :=
  [byte (covOf s r), byte (s.rail r).prot.thrStep] ++ le16 (s.rail r).protFlags ++ le32 (ilimEff s r) ++
    le16 (s.rail r).ovInForce ++ le16 (s.rail r).uvInForce

/-- COVERAGE_REPORT (R219, R222, R223). -/
def coverageReportOp : OpSpec where
  op := 0x0606
  plen := .fixed 2
  bad := fun _ p => rangeBad p 0 1 24
  big := fun p => some (4 + 12 * byteAt p 1)
  run := fun q s =>
    done s ([byte (coverageFlags s), 0, 0, 0] ++
      (upto (byteAt q.params 1)).flatMap (fun k => coverageRecord s (byteAt q.params 0 + k)))

/-- LIMITS_SET. -/
def execLimitsSet (q : Req) (s : State) : Host.Outcome State Fault Refusal := runOp limitsSetOp q s
/-- WINDOW_SET. -/
def execWindowSet (q : Req) (s : State) : Host.Outcome State Fault Refusal := runOp windowSetOp q s
/-- CELL_RETIRE. -/
def execCellRetire (q : Req) (s : State) : Host.Outcome State Fault Refusal := runOp cellRetireOp q s
/-- CELL_RESTORE. -/
def execCellRestore (q : Req) (s : State) : Host.Outcome State Fault Refusal := runOp cellRestoreOp q s
/-- FAULT_CLEAR. -/
def execFaultClear (q : Req) (s : State) : Host.Outcome State Fault Refusal := runOp faultClearOp q s
/-- COVERAGE_REPORT. -/
def execCoverageReport (q : Req) (s : State) : Host.Outcome State Fault Refusal := runOp coverageReportOp q s

end Sys2Proof.Machine
end

