-- ==== Sys2Proof/Machine/Tick.lean ====
section
/-! DEFINITION. The control tick of a rail: the compensator, the reference, the window, the phase manager and the crease term; the check
point with the takeover; and the manager's rewrite of ranks and roles (chapters 03-05, 07). -/

namespace Sys2Proof.Machine

/-! ## The compensator (R104-R108, R201) -/

/-- D_MIN as it acts: above D_MAX it is D_MAX (R108). -/
def Coef.lo (c : Coef) : Nat := min c.dMin c.dMax

/-- The integrator is not updated: D stands at an end that e drives on, or the current limit acts while e is above zero (R105, R201). -/
def Loop.holdI (l : Loop) (e exc : Int) : Bool :=
  (decide (l.dPrev = l.coef.dMax * 65536) && decide (0 < e)) || (decide (l.dPrev = l.coef.lo * 65536) && decide (e < 0)) ||
    (decide (0 < exc) && decide (0 < e))

/-- The integrator after a tick, 14 fractional bits; e has 16 (R105, R108). (DEDUCED 17, unsafe.) -/
def Loop.nextI (l : Loop) (e exc : Int) : Int :=
  if l.holdI e exc then l.i
  else sat32 (roundDiv (clampInt (l.coef.lo * 2 ^ 32) (l.coef.dMax * 2 ^ 32) (l.i * 2 ^ 18 + l.coef.ki * e)) (2 ^ 18))

/-- y1 after a tick, 14 fractional bits; u has 24 (R105, R108). -/
def Loop.nextY1 (l : Loop) (u : Int) : Int :=
  sat32 (if l.coef.a1 = 0 then roundDiv u (2 ^ 10) else roundDiv (l.y1 * 2 ^ 26 + l.coef.a1 * (u - l.y1 * 2 ^ 10)) (2 ^ 26))

/-- y2 after a tick, 14 fractional bits (R105, R108). -/
def Loop.nextY2 (l : Loop) (y1 : Int) : Int :=
  sat32 (if l.coef.a2 = 0 then y1 else roundDiv (l.y2 * 2 ^ 16 + l.coef.a2 * (y1 - l.y2)) (2 ^ 16))

/-- One run of the compensator: e with 16 fractional bits, i_rail and its excess over ILIM_EFF in 10
mA, KLIM, the crease term in D-LSB; d is kept exactly, in 1/65,536 D-LSB (R105-R108, R201). (DEDUCED 17, unsafe.) -/
def Loop.compensate (l : Loop) (e iRail exc : Int) (klim : Nat) (c : Int) : Loop :=
  let i := l.nextI e exc
  let y1 := l.nextY1 (l.coef.kp * e + i * 2 ^ 10 + l.coef.kd * (e - l.ePrev))
  let y2 := l.nextY2 y1
  let raw := y2 * 4 + l.coef.kff * iRail + c * 65536 - klim * max 0 exc * 256
  { l with
    i := i, y1 := y1, y2 := y2, ePrev := e, e := e, iRail := iRail
    dPrev := clampInt (l.coef.lo * 65536) (l.coef.dMax * 65536) raw
    clamped := decide (raw < l.coef.lo * 65536) || decide ((l.coef.dMax : Int) * 65536 < raw) }

/-- ON_TIME of a duty in 1/65,536 D-LSB and a period in 16.16 steps, the one rounding of R105.
(DEDUCED 17, unsafe.) -/
def onTimeOf (d : Int) (period : Nat) : Nat := (roundDiv (d * period) (2 ^ 48)).toNat

/-! ## What members and hub do at a boundary -/

/-- A member closes its tick: the mean error, the current average it sends, and MIN_ON; an incomplete SHADOW set is dropped (R41, R42, R48,
R62, R104, R107). -/
def Cell.closeTick (c : Cell) : Cell :=
  { c with
    errMean := quot (c.errSum * 65536) c.errN, errSum := 0, errN := 0
    current := clampInt (-4000) 8000 (quot c.iSum c.iN), iTick := (c.iSum, c.iN), iSum := 0, iN := 0
    minOn := c.omitted, omitted := false, shadowPart := [] }

/-- The CURRENT message of a member: its average of the tick closed, in the format of R6, and its FLAGS (R42, R57). -/
def currentMsg (s : State) (lead n : Nat) : Msg :=
  msgTo .current n lead (BitVec.ofNat 32 (toCode 16 (s.cell n).current + (s.cell n).flags.toNat * 65536))

/-- Every serving member sends its CURRENT to the leader, once per control tick (R42). -/
def sendCurrents (r : Nat) (s : State) : State :=
  let src (n : Nat) : Msg := currentMsg s (s.rail r).leader n
  post (((s.members r).filter (fun n => (s.cell n).st.serves)).map (fun n => { src n with dst := (s.rail r).leader })) s

/-- Members in SWITCHING (R107). -/
def switchingN (s : State) (r : Nat) : Nat := ((s.members r).filter (fun n => decide ((s.cell n).st = .switching))).length

/-- i_rail of a leader, 10 mA (R107). -/
def iRailOf (s : State) (r lead : Nat) : Int :=
  sat32 (quot ((s.cell lead).iTick.1 * switchingN s r) ((s.cell lead).iTick.2 * 10))

/-- The time of the boundary at which a tick runs: the fabric count, a multiple of CTICK (R102). -/
def boundaryTime (s : State) (tick : Nat) : Nat := fabricNow s / tick * tick

/-- The crease term the hub forms for a boundary time (R164). -/
def creaseTerm (x : Crease) (t tick : Nat) : Int :=
  if x.st.locked then roundDiv (x.weight * x.cor.getD (x.bin (t + x.leadC * tick : Nat)) 0) 4096 else 0

/-- The crease term a leader adds: its word for this boundary, in REGULATING or SLEWING (R164). -/
def termOf (s : State) (r lead : Nat) : Int :=
  match (s.cell lead).crease with
  | some (c, b) => if (s.rail r).st.regulates ∧ b = (s.rail r).loop.ticks % 256 then c else 0
  | none => 0

/-- The leader drops the word of the boundary served (R164). -/
def clearTerm (lead : Nat) (s : State) : State := modCell s (fin256 lead) (fun c => { c with crease := none })

/-- The hub's word for the next boundary is sent to the leader, formed from state, weight and COR as the boundary now past leaves them
(R164). (DESIGN CHOICE 153, unsafe.) -/
def sendTerm (r lead t : Nat) (s : State) : State :=
  match creaseOf s r with
  | some k =>
    let c := creaseTerm s.crease[k] (t + (s.rail r).loop.coef.tick) (s.rail r).loop.coef.tick
    post [configTo 0x32 lead (BitVec.ofNat 32 (toCode 16 c + ((s.rail r).loop.ticks + 1) % 256 * 65536))] s
  | none => s

/-! ## The reference (R114, R117, R127) -/

/-- The step of a rate code at a control tick, 1/65,536 set-point code (R127). -/
def refStep (rate tick : Nat) : Nat := slewAct rate * tick * 65536 / 500

/-- A reference moved toward a goal by at most a step, never past it (R127). -/
def moveRef (ref goal step : Nat) : Nat := if ref ≤ goal then min goal (ref + step) else max goal (ref - step)

/-- The rate code in use (R126, R127). -/
def Rail.rate (x : Rail) : Nat :=
  if x.st = .starting then x.sp.startSlew else if x.st = .stopping then x.sp.stopSlew else x.sp.slew

/-- Where the reference goes: the target, or in STOPPING the lower of its present value and code 800 (R117). -/
def Rail.goal (x : Rail) : Nat := if x.st = .stopping then min x.loop.ref (800 * 65536) else x.loop.target * 65536

/-- The reference after a tick (R127). -/
def Rail.nextRef (x : Rail) : Nat :=
  if x.st = .starting ∨ x.st = .slewing ∨ x.st = .stopping then moveRef x.loop.ref x.goal (refStep x.rate x.loop.coef.tick)
  else x.loop.ref

/-- The rail enters REGULATING at its target: DEM_HOLD begins after a start in diode emulation (R100, R111, R114, R115, R129). -/
def Rail.reach (x : Rail) : Rail :=
  { x with st := .regulating, sp := { x.sp with owed := false }
           loop := { x.loop with demLeft := if x.st ≠ .starting then x.loop.demLeft else if x.loop.coef.demStart then x.loop.coef.demHold else 0 } }

/-- A rail whose reference stands at its target enters REGULATING, with the event when one is owed (R114, R129). -/
def reached (r : Nat) (s : State) : State :=
  let x := s.rail r
  if (x.st = .starting ∨ x.st = .slewing) ∧ x.loop.ref = x.loop.target * 65536 then
    let s1 := modRail s (fin48 r) (fun x => x.reach.notePg s.hem.ticks x)
    if x.sp.owed then targetEvent r s1 else s1
  else if x.st = .stopping ∧ x.loop.ref ≤ 800 * 65536 then
    changeMembers s r (fun _ c => if c.st.serves then { c with stopNext := true } else c)
  else s

/-- One step of the reference, with what reaching the goal brings (R114, R117, R127, R129). -/
def stepReference (r : Nat) (s : State) : State :=
  reached r (modRail s (fin48 r) (fun x => { x with loop := { x.loop with ref := x.nextRef } }))

/-! ## The leader's tick -/

/-- The sink limit at a tick: below -NEG_ILIM diode emulation is enabled in every member and NEG_LIMITING set; at or above zero the ticks
are counted (R202). -/
def sinkLimit (r : Nat) (i : Int) (s : State) : State :=
  let lim := negIlimOf s r
  if lim ≠ 0 ∧ i < -(lim : Int) then
    changeMembers (modRail s (fin48 r) (fun x =>
      { x with prot := { x.prot with negLimiting := true, negTicks := 0 }, loop := { x.loop with dem := true } })) r
      (fun _ c => { c with demNext := some true })
  else
    modRail s (fin48 r) (fun x => { x with prot := { x.prot with
      negTicks := if x.prot.negLimiting ∧ 0 ≤ i then min 15 (x.prot.negTicks + 1) else 0 } })

/-- The crease context learns a tick (R163). -/
def creaseLearn (r t : Nat) (s : State) : State :=
  match creaseOf s r with
  | some k =>
    let x := s.crease[k].learnTick t (s.rail r).loop.e (switchingMa s r) (decide ((s.rail r).st = .regulating))
    { s with crease := upd s.crease k x }
  | none => s

/-- The SHADOW set a leader sends (R110). -/
def Rail.shadowSet (x : Rail) : Vector (BitVec 32) 8 :=
  #v[BitVec.ofInt 32 x.loop.ePrev, BitVec.ofInt 32 x.loop.i, BitVec.ofInt 32 x.loop.y1, BitVec.ofInt 32 x.loop.y2,
    BitVec.ofNat 32 (toCode 16 x.loop.duty), BitVec.ofNat 32 x.loop.ref, BitVec.ofNat 32 (x.loop.target + x.rate * 65536),
    BitVec.ofNat 32 (x.st.code + b2n x.loop.dem * 8 + x.loop.demLeft * 256)]

/-- What a leading cell sends in a tick: HEARTBEAT with its count, REFERENCE, DUTY, and the SHADOW words of its state (R47, R57, R77,
R102, R110, R114, R127). -/
def leaderWords (s : State) (r lead : Nat) : List Msg :=
  let x := s.rail r
  let cast := castFrom s r lead
  [cast .heartbeat 0 (BitVec.ofNat 32 x.loop.ticks), cast .reference 0 (BitVec.ofNat 32 (x.loop.ref / 65536)),
    cast .duty 0 (BitVec.ofNat 32 (onTimeOf x.loop.dPrev (s.cell lead).period % 65536))] ++
    (upto 8).map (fun k => cast .shadow k (x.shadowSet[Fin.ofNat 8 k]))

/-- The leader sends its words, and takes its own ON_TIME and reference (R47, R51, R127). -/
def leaderSends (r lead : Nat) (s : State) : State :=
  modCell (post (leaderWords s r lead) s) (fin256 lead) (fun c =>
    { c with onTimeNext := some (onTimeOf (s.rail r).loop.dPrev c.period), ref := (s.rail r).loop.ref / 65536 })

/-- The next boundary has the next count, and the hub's crease word for it is sent (R77, R164). -/
def endTick (r lead t : Nat) (s : State) : State :=
  modRail (sendTerm r lead t (clearTerm lead s)) (fin48 r) (fun x => { x with loop := { x.loop with ticks := (x.loop.ticks + 1) % 2 ^ 32 } })

/-- The tick of a leading cell: compensator, sink limit, reference, DEM_HOLD, learning, its messages and the next crease word
(R105, R110, R114, R127, R163, R164, R201, R202). -/
def leadTick (r lead t : Nat) (s : State) : State :=
  let i := iRailOf s r lead
  let exc := i - (ilimEff s r : Int)
  let c := termOf s r lead
  let s1 := modRail s (fin48 r) (fun x =>
    { x with loop := { x.loop.compensate (s.cell lead).errMean i exc x.prot.klim c with demLeft := x.loop.demLeft - 1 }
             prot := { x.prot with limiting := decide (0 < exc) }, hubMissing := 0 })
  endTick r lead t (leaderSends r lead (creaseLearn r t (stepReference r (sinkLimit r i s1))))

/-- Every member has reached ARMED or left service, and at least one is ARMED (R114, R116). -/
def armedAll (s : State) (r : Nat) : Bool :=
  let ms := s.members r
  !s.armQ.any (fun q => decide (q.1 = r)) && ms.all (fun n => decide ((s.cell n).st ≠ .off) || decide ((s.cell n).role = .none)) &&
    ms.any (fun n => decide ((s.cell n).st = .armed))

/-- The leader releases the rail: it sends HEARTBEAT, REFERENCE, DUTY and SHADOW, and the armed members switch from their next boundary
on, with the preset duty (R114, R115). -/
def releaseRail (r lead t : Nat) (s : State) : State :=
  let s1 := changeMembers s r (fun _ c => if c.st = .armed then { c with runNext := true } else c)
  let s2 := modRail s1 (fin48 r) (fun x => { x with released := true, hubMissing := 0 })
  endTick r lead t (leaderSends r lead (reached r s2))

/-- New coefficients, limits, policy and firing order taken at a boundary (R109, R145, R171, R200). -/
def Rail.takeWaiting (x : Rail) : Rail :=
  { x with loop := { x.loop with coef := x.loop.coefNext.getD x.loop.coef, coefNext := none }, prot := x.prot.takeLimits, ph := x.ph.takeNew }

/-- The phase manager and the window at a boundary (R146-R148, R166, R203). -/
def hubTick (r t : Nat) (s : State) : State :=
  let x := s.rail r
  let pre := preAdd ((creaseOf s r).map (fun k => s.crease[k])) x.ph.pol t x.loop.coef.tick
  let i := switchingMa s r
  modRail s (fin48 r) (fun y => let z := y.phaseTick i pre.1 pre.2; z.setWindow z.loop.ref z.prot.vNow)

/-- The context that serves a rail which is not REGULATING will not learn the frame in progress (R163). -/
def creaseSpoil (r : Nat) (s : State) : State :=
  match creaseOf s r with
  | some k => if (s.rail r).st = .regulating then s else { s with crease := upd s.crease k s.crease[k].spoil }
  | none => s

/-- A control-tick boundary of a running rail; a policy taken has the spur plan evaluated, and what the phase manager decides is sent
(R102, R105, R114, R140, R146, R163, R188, R203). -/
def tickRail (r : Nat) (s : State) : State :=
  let s0 := modRail s (fin48 r) Rail.takeWaiting
  let s1 := sendCurrents r (changeMembers (if (s.rail r).ph.polNext.isSome then spurEval s0 else s0) r (fun _ c => c.closeTick))
  let t := boundaryTime s1 (s1.rail r).loop.coef.tick
  let lead := (s1.rail r).leader
  let s2 :=
    if (s1.cell lead).st.serves then
      if (s1.rail r).released then leadTick r lead t s1
      else if (s1.rail r).measuring = false ∧ armedAll s1 r then creaseSpoil r (releaseRail r lead t s1)
      else creaseSpoil r s1
    else creaseSpoil r s1
  bump (sendPhase r (s.rail r).ph (hubTick r t s2))

/-- A set-point code outside 0.40-3.60 V, whose regulation is undefined (R119, R392). -/
def badTarget (code : Nat) : Bool := decide (code < 800) || decide (7200 < code)

/-- CONTROL_TICK: a control-tick boundary of a rail. One that does not run has nothing learned, and what stopped it lies in an earlier
tick (R101, R102, R163). -/
def execControlTick (r : Fin 48) (s : State) : Host.Outcome State Fault Refusal :=
  if s.rails[r].st.regulates ∧ badTarget s.rails[r].loop.target then .fault .undefinedSetpoint
  else if s.rails[r].st.runs then .next (tickRail r.val s)
  else .next (creaseSpoil r.val (modRail s r (fun x => { x with offFrom := none })))

/-! ## The check point (R77-R81) -/

/-- A SHADOW word as a signed number. -/
def shadowInt (v : Vector (BitVec 32) 8) (k : Fin 8) : Int := v[k].toInt

/-- The compensator and the reference taken from the last complete SHADOW set, with the coefficients the slice stores and the target of
the cell's target register (R47, R110, R131). -/
def Rail.loadShadow (x : Rail) (c : Cell) : Rail :=
  let w := c.shadow
  { x with
    loop := { x.loop with
      ePrev := shadowInt w 0, i := shadowInt w 1, y1 := shadowInt w 2, y2 := shadowInt w 3, dPrev := w[4].toNat % 65536 * 65536, coef := c.coef
      ref := w[5].toNat, target := c.target, demLeft := w[7].toNat / 256 % 256, ticks := (c.lastCount + c.missing) % 2 ^ 32 }
    st := if x.st = .regulating ∧ w[5].toNat ≠ c.target * 65536 then .slewing else x.st }

/-- A member's judgement of the leader at a check point (R78). -/
def Cell.judge (self : Nat) (c : Cell) : Cell :=
  if c.leader = self then c else { c with missing := if c.heard then 0 else c.missing + 1, heard := false }

/-- A member takes over at this check point (R78). -/
def Cell.takesOver (self : Nat) (c : Cell) : Bool :=
  decide (c.leader ≠ self) && c.st.serves && decide (1 + c.rank ≤ c.missing)

/-- The member takes the lead; one that is SHED switches from its next boundary on (R78, R152). -/
def Cell.lead (self : Nat) (c : Cell) : Cell :=
  { c with former := some c.leader, leader := self, role := .leader, heard := true, leadActive := decide (c.st = .shed) }

/-- The takeover by cell `n`: its tick runs from the last complete SHADOW set, and the manager owes the former leader an ISOLATE (R78,
R80, R131, R149). Before release no SHADOW set has been
sent, and the new leader takes the start as it stands. -/
def takeOver (r n : Nat) (s : State) : State :=
  let old := (s.rail r).leader
  let s1 := modRail s (fin48 r) (fun x =>
    { (if x.released then x.loadShadow (s.cell n) else x) with
      leader := n, formerDue := x.formerDue ++ [old], rewriteDue := true })
  let s1 := changePhase r PhaseCtx.cancel s1
  let s2 := mapCells s1 (fun k c => if k = n then { c with missing := 0 } else c)
  if (s.rail r).released then leadTick r n (boundaryTime s (s.rail r).loop.coef.tick) s2 else s2

/-- Two check points without a HEARTBEAT: LEADER_SILENT, and a fault when no other member serves (R81). -/
def hubJudge (r : Nat) (s : State) : State :=
  let x := s.rail r
  let s1 := modRail s (fin48 r) (fun y => { y with hubMissing := min 3 (y.hubMissing + 1) })
  if x.hubMissing < 2 then s1
  else
    let s2 := modRail s1 (fin48 r) (fun y => { y with leaderSilent := true })
    if (s2.members r).any (fun n => decide (n ≠ x.leader) && (s2.cell n).st.serves) then s2 else railFault r false s2

/-- Members that take over beside the first of them at one check point send a HEARTBEAT each, by which
they learn of each other (R78). (DESIGN CHOICE 111, unsafe.) -/
def rivalBeats (r : Nat) (ns : List Nat) (s : State) : State :=
  post (ns.map (fun n => castFrom s r n .heartbeat 0 (BitVec.ofNat 32 ((s.cell n).lastCount + (s.cell n).missing)))) s

/-- CHECK_POINT: members and hub judge the leader's HEARTBEAT once the rail is released, or its leader has left service. -/
def execCheckPoint (r : Fin 48) (s : State) : Host.Outcome State Fault Refusal :=
  let x := s.rails[r]
  .next (if x.st.runs ∧ (x.released ∨ (s.cell x.leader).healthy = false) then
      let m := s.memberSet r.val
      let s1 := mapCells s (fun n c => if m.getLsbD n ∧ c.st ≠ .retired then c.judge n else c)
      let new := (succession x.leader (s1.members r.val)).filter (fun n => decide (n ≠ x.leader) && (s1.cell n).takesOver n)
      let s2 := hubJudge r.val s1
      let s3 := mapCells s2 (fun n c => if new.contains n ∧ c.st.serves then c.lead n else c)
      match new with
      | n :: ns => if (s3.rail r.val).st.runs then bump (takeOver r.val n (rivalBeats r.val ns s3)) else s3
      | [] => s3
    else s)

/-! ## The manager's rewrite (R74, R78, R80, R136) -/

/-- The cells that hold ROLE 1 or 2 after the promotion: those that held it, and the first spares up to RATED (R74). -/
def promoted (s : State) (order : List Nat) (rated : Nat) : List Nat :=
  let act := order.filter (fun n => decide ((s.cell n).role = .leader) || decide ((s.cell n).role = .follower))
  let spares := order.filter (fun n => decide ((s.cell n).role = .spare))
  act ++ spares.take (rated - act.length)

/-- The ranks, roles and firing indices of a rail rewritten from its present leader, followed while it runs by an APPLY of the A in
force, which ends a shed still pending. Every healthy member is counted, one restored since the start too, which holds no role until the
next (R74, R75, R78, R97, R136, R140, R141, R153). (DEDUCED 154, unsafe.) -/
def rewriteRanks (r : Nat) (s : State) : State :=
  let lead := (s.rail r).leader
  let m := s.memberSet r
  let order := (succession lead (s.members r)).filter (fun n => (s.cell n).healthy)
  let act := promoted s order (s.entry r).rated
  let a := min (s.rail r).ph.aim (max 1 order.length)
  let move (n : Nat) (x y : Cell) : Cell := Cell.movePhase x (Config.freeBool (s.free + n)) y
  let s1 := mapCells s (fun n c =>
    if m.getLsbD n = false ∨ c.st = .retired then c
    else
      match posIn order n 0 with
      | some k =>
        move n c { c with
          role := if n = lead then .leader else if act.contains n then .follower else if c.role = .none then .none else .spare
          rank := if order.contains lead then k else k + 1
          fIdx := k, mCnt := order.length, leadActive := c.leadActive && decide (k ≠ 0) }
      | none => if c.st = .isolated then { c with role := .none } else c)
  let s2 := modRail { s1 with free := s1.free + 256 } (fin48 r) (fun x => { x with
    rewriteDue := false, formerDue := []
    ph := if x.st.runs then { x.ph.cancel.carryRot (policyActs x) with aNext := some a, m := order.length }
      else { x.ph with m := order.length } })
  if (s.rail r).st.runs then
    post ((if (s.rail r).ph.pend.isSome then [hubWord s2 r 2 0] else []) ++ [hubWord s2 r 0 a]) s2
  else s2

/-- Each former leader is sent ISOLATE with cause COMMANDED, unless it is already ISOLATED, and TAKEOVERS counts each takeover (R80,
R82). -/
def dropFormer (r : Nat) (s : State) : State :=
  (s.rail r).formerDue.foldl (fun t n =>
    modRail (if (t.cell n).healthy then post [msgTo .isolate managerPort n 8] t else t) (fin48 r)
      (fun x => { x with takeovers := satInc 255 x.takeovers })) s

/-- RANK_REWRITE: the manager's response to an isolation or a takeover, while it runs. -/
def execRankRewrite (r : Fin 48) (s : State) : Host.Outcome State Fault Refusal :=
  .next (if s.rails[r].rewriteDue ∧ s.proto.running then rewriteRanks r.val (dropFormer r.val s) else s)

end Sys2Proof.Machine
end

