-- ==== Sys2Proof/Machine/Clocks.lean ====
section
/-! DEFINITION. The fabric timebase and its reference, frequency uncertainty, SYNC_OUT, the spur plan commands, XO failure, and the
manager's clock and supply levels (chapter 06). -/

namespace Sys2Proof.Machine

/-! ## Uncertainty (R181) -/

/-- The target of a slide: OFFSET_LEARNED, or 0 (R176). -/
def Clk.target (c : Clk) : Int := if c.slideLearned then c.offLearned else 0

/-- The furthest OFFSET_NOW can have moved since it was held, in ppb: SLIDE_RATE ppm per ms, over the
Hem ticks that have passed (R179). (DESIGN CHOICE 25, safe.) -/
def offsetReach (s : State) : Nat := ceilDiv (s.clk.slideRate * 1000000 * (s.hem.ticks - s.clk.offAt)) 32768

/-- OFFSET_NOW at this Hem tick, from the value held: it moves at no more than SLIDE_RATE, in SLIDE toward its target and never past it,
in PULL_IN and LOCKED toward the frequency of SYNC_IN, from which the removal of a phase error takes it by at most 1 ppm; how far it has
come is free (R173, R179). (DESIGN CHOICE 25, safe.) -/
def offsetLive (s : State) : Int :=
  let c := s.clk
  let near := clampInt (c.offNow - offsetReach s) (c.offNow + offsetReach s) (Config.freeInt s.free)
  match c.tb with
  | .slide => clampInt (min c.offNow c.target) (max c.offNow c.target) near
  | .pullIn | .locked => clampInt (min c.offNow (c.refOff - 1000)) (max c.offNow (c.refOff + 1000)) near
  | _ => c.offNow

/-- OFFSET_NOW held as it is at this moment: what reads it holds it, so that the next reading goes on
from here (R179). (DESIGN CHOICE 25, safe.) -/
def holdOffset (s : State) : State :=
  bump { s with clk := { s.clk with offNow := offsetLive s, offAt := s.hem.ticks } }

/-- U in HOLDOVER (R181). -/
def Clk.uHoldover (c : Clk) : Nat := min 2000 (c.uRef + c.uLrn + c.dHo * c.hoTime / 3600)

/-- U of the timebase's state, at the OFFSET_NOW held (R181). (DESIGN CHOICE 25, safe.) -/
def uOf (s : State) : Nat :=
  let c := s.clk
  match c.tb with
  | .locked => c.uRef
  | .holdover => c.uHoldover
  | .free => 2000
  | .coast => 50000
  | .pullIn => c.uRef + (quot (c.offNow - c.refOff).natAbs 10).toNat
  | .slide => (if c.slideLearned then c.uHoldover else 2000) + (quot (c.offNow - c.target).natAbs 10).toNat

/-- U is recomputed; when it changes the spur plan is evaluated (R181, R188). -/
def updateU (s : State) : State :=
  let t := holdOffset s
  let u := uOf t
  let s1 := { t with clk := { t.clk with u := u } }
  if u = s.clk.u then s1 else spurEval s1

/-! ## The timebase (R174-R176) -/

/-- PULL_IN or LOCKED. -/
def TbSt.onRef (x : TbSt) : Bool := decide (x = .pullIn) || decide (x = .locked)

/-- The timebase enters a state, with its event; HO_TIME starts when it leaves PULL_IN and LOCKED (R177, R181). -/
def setTb (st : TbSt) (s : State) : State :=
  let c := s.clk
  let leaves := c.tb.onRef && !st.onRef
  let c1 := { c with
    tb := st, offNow := if st = .free then 0 else offsetLive s, offAt := s.hem.ticks
    hoRun := c.hoRun || st.onRef, hoTime := if leaves ∨ st.onRef then 0 else c.hoTime
    means := if st = .locked ∧ c.tb ≠ .locked then [] else c.means }
  updateU (pulseIf (decide (st ≠ c.tb)) 464 { s with clk := c1 })

/-- Entry to SLIDE: toward OFFSET_LEARNED, or toward 0 in XO_NOMINAL and without a valid offset (R176). -/
def enterSlide (s : State) : State :=
  setTb .slide { s with clk := { s.clk with slideLearned := decide (s.clk.mode ≠ 2) && s.clk.offValid } }

/-- PULL_IN begins where the reference is QUALIFIED, MODE is AUTO and XO_BAD is clear (R176). (DEDUCED
67, unsafe.) -/
def tbCheck (s : State) : State :=
  if s.clk.ref = .qualified ∧ s.clk.mode = 0 ∧ s.clk.xoBad = false ∧
      (s.clk.tb = .free ∨ s.clk.tb = .holdover ∨ s.clk.tb = .slide) then setTb .pullIn s else s

/-- The reference enters a state, with its event (R175, R177). -/
def setRef (st : RefSt) (left : Nat) (s : State) : State :=
  pulseIf (decide (st ≠ s.clk.ref)) 465 { s with clk := { s.clk with ref := st, qualLeft := left } }

/-- The reference becomes ABSENT; in PULL_IN and LOCKED it is lost (R176, R178, R199). -/
def loseRef (s : State) : State :=
  let s1 := setRef .absent 0 s
  if s.clk.ref = .qualified ∧ s.clk.tb.onRef then
    let s2 := clkSet 0x80 s1
    if s.clk.xoBad then setTb .coast s2 else enterSlide s2
  else s1

/-- The qualification delay in ms, 2^QD / 1,024 s (R178). -/
def Clk.qualMs (c : Clk) : Nat := (quot (1000 * 2 ^ c.qd : Nat) 1024).toNat

/-- The reference starts QUALIFYING (R178). Until its first measurement the frequency of SYNC_IN is
any within the tolerance. (DESIGN CHOICE 25, safe.) -/
def startQual (s : State) : State :=
  let span : Int := s.clk.tol * 1000
  setRef .qualifying s.clk.qualMs (bump { s with clk := { s.clk with refOff := clampInt (-span) span (Config.freeInt s.free) } })

/-- An ABSENT reference whose edges are present becomes QUALIFYING at once (R178). (DEDUCED 128, safe.) -/
def requalify (s : State) : State :=
  if s.clk.ref = .absent ∧ s.clk.edges ∧ s.clk.xoBad = false ∧ s.loopStopped = false then startQual s else s

/-- SYNC_IN_PRESENT: edges in range appear (R178). -/
def execSyncInPresent (s : State) : Host.Outcome State Fault Refusal :=
  .next (requalify { s with clk := { s.clk with edges := true } })

/-- SYNC_RANGE: no edge for 4 µs after edges have been present, or a frequency outside 1-100 MHz, also of edges that never were in
range: the flag, and the reference ABSENT (R16, R25, R178). The row is the condition's occurrence, which a land that has carried no edge
does not make. -/
def execSyncRange (s : State) : Host.Outcome State Fault Refusal :=
  .next (loseRef (landSet 0x4000 { s with clk := { s.clk with edges := false } }))

/-- A measurement, in 0.01 Hz, lies within TOL of F_NOM (R178). -/
def Clk.passes (c : Clk) (hz100 : Nat) : Bool :=
  decide (((hz100 : Int) - 100 * c.fNom).natAbs * 1000000 ≤ c.tol * 100 * c.fNom)

/-- The frequency of SYNC_IN against F_NOM, in ppb, from a measurement in 0.01 Hz (R173, R178). -/
def Clk.refOffset (c : Clk) (hz100 : Nat) : Int := quot (((hz100 : Int) - 100 * c.fNom) * 1000000000) (100 * c.fNom)

/-- SYNC_MEASUREMENT: SYNC_IN measured over 1 ms against the XO, and in LOCKED its phase error, in picoseconds, against 100 ns (R178,
R179). (DESIGN CHOICE 129, safe.) -/
def execSyncMeasurement (m : SyncReading) (s0 : State) : Host.Outcome State Fault Refusal :=
  let s := if s0.clk.ref = .absent ∨ s0.clk.xoBad ∨ s0.clk.passes m.hz100 = false then s0
    else let t := holdOffset s0
      { t with clk := { t.clk with refOff := t.clk.refOffset m.hz100 } }
  .next (if s.clk.ref = .absent ∨ s.clk.xoBad then s
    else if s.clk.passes m.hz100 = false ∨ (s.clk.tb = .locked ∧ 100000 < m.phasePs) then requalify (loseRef s)
    else if s.clk.ref = .qualifying then { s with clk := { s.clk with qualLeft := s.clk.qualLeft - 1 } }
    else s)

/-- QUALIFIED: every measurement has passed for the whole qualification delay (R178). -/
def execQualified (s : State) : Host.Outcome State Fault Refusal :=
  .next (if s.clk.ref = .qualifying then tbCheck (setRef .qualified 0 s) else s)

/-- LOCKED: frequency and phase have been within their limits for 1 ms (R176). -/
def execLocked (s : State) : Host.Outcome State Fault Refusal :=
  .next (if s.clk.tb = .pullIn then setTb .locked { s with clk := { s.clk with secBad := false } } else s)

/-- SLIDE_DONE: OFFSET_NOW reaches its target (R176). -/
def execSlideDone (s : State) : Host.Outcome State Fault Refusal :=
  .next (if s.clk.tb = .slide then
      setTb (if s.clk.slideLearned then .holdover else .free) { s with clk := { s.clk with offNow := s.clk.target } }
    else s)

/-- LOCKED_SECOND: a whole second of LOCKED ends with its mean; one with XO_BAD is not recorded (R180, R181). -/
def execLockedSecond (mean : Int) (s : State) : Host.Outcome State Fault Refusal :=
  let c := s.clk
  let ms := (mean :: c.means).take 64
  .next (if c.tb ≠ .locked then s
    else if c.xoBad ∨ c.secBad then { s with clk := { c with secBad := c.xoBad } }
    else
      { s with clk := { c with
        means := ms, offLearned := quot ms.sum ms.length, offValid := true, offPreset := false
        uLrn := if ms.length = 64 then 10 else 100 } })

/-- U_UPDATE: once per second (R181). (DEDUCED 24, unsafe.) -/
def execUUpdate (s : State) : Host.Outcome State Fault Refusal :=
  .next (updateU { s with clk := { s.clk with
    hoTime := if s.clk.hoRun ∧ s.clk.tb.onRef = false then min (s.clk.hoTime + 1) (2 ^ 32 - 1) else 0 } })

/-! ## XO failure (R191, R192) -/

/-- XO_FAIL: a window without edges or with a count out of range. The timebase coasts unless LOCKED, a qualifying reference is dropped,
and the manager's clock is switched to the coast oscillator. -/
def execXoFail (s : State) : Host.Outcome State Fault Refusal :=
  let s1 := clkSet 0x10 { s with clk := { s.clk with xoBad := true, secBad := true } }
  .next (if s.clk.xoBad then s1
    else
      let s2 := { s1 with clk := { s1.clk with changing := false, switching := some .coast } }
      let s3 := if s.clk.ref = .qualifying then setRef .absent 0 s2 else s2
      if s.clk.tb = .locked then s3 else setTb .coast s3)

/-! ## The manager's levels (R193-R195) -/

/-- The supply of a level, mV (R194). -/
def MgrLevel.mv : MgrLevel → Nat
  | .l0 => 900 | .l1 => 800 | .l2 => 720 | .coast => 720

/-- The frequency of a level, MHz (R194). -/
def MgrLevel.mhz : MgrLevel → Nat
  | .l0 => 200 | .l1 => 100 | .l2 => 50 | .coast => 12

/-- The body bias and SRAM assist of a running level (R468). -/
def MgrLevel.body (l : MgrLevel) : Int × Assist := if l = .l0 ∨ l = .l1 then (0, .off) else (100, .on)

/-- A supply target in mV, with the body bias of a level (R195, R468). -/
def Clk.supplyFor (c : Clk) (mv : Nat) (l : MgrLevel) : Clk := setSupply c mv l.body.1 l.body.2

/-- The level that the module power state selects: the one requested in RUN, L2 elsewhere and during entry to HIBERNATE (R194, R467,
R468, R474). (DEDUCED 63, unsafe.) -/
def levelGoal (s : State) : MgrLevel := if s.pwr.st = .run ∧ s.pwr.entering = false then s.clk.levelReq else .l2

/-- Supply, bias and assist of HIBERNATE, for a manager that does not run (R192, R468). -/
def Clk.retain (c : Clk) : Clk := { setSupply c 600 (-400) .retention with changing := false, switching := none }

/-- The sequencer moves toward the level selected: a lower frequency is switched at once, a higher one after the supply has been raised;
the supply target is the higher of the two voltages. While XO_BAD is set, or without power, nothing moves; in HIBERNATE the manager is in
retention, and is at L2 when it resumes (R192, R195, R468). -/
def moveLevel (s : State) : State :=
  let c := s.clk
  let l := levelGoal s
  if c.xoBad ∨ s.off then s
  else if s.pwr.st = .hibernate then { s with clk := { c.retain with level := .l2 } }
  else if l = c.level then { s with clk := ({ c with changing := false, switching := none }).supplyFor l.mv l }
  else if l.mhz < c.level.mhz then { s with clk := { (c.supplyFor c.level.mv c.level) with changing := false, switching := some l } }
  else { s with clk := { (c.supplyFor (max l.mv c.level.mv) (if c.level.mv < l.mv then l else c.level)) with
      changing := true, switching := none } }

/-- A level is requested of the sequencer (R194, R195). -/
def requestLevel (l : MgrLevel) (s : State) : State := moveLevel { s with clk := { s.clk with levelReq := l } }

/-- XO_RECOVERED: every window of 1 s has been good. The timebase slides, the reference may qualify,
and the manager returns to the level requested last (R176, R178, R191, R192). (DEDUCED 67, unsafe.) -/
def execXoRecovered (s : State) : Host.Outcome State Fault Refusal :=
  .next (if s.clk.xoBad then
      let s1 := moveLevel { s with clk := { s.clk with xoBad := false } }
      if s.loopStopped then (if s.clk.tb = .coast then setTb .free s1 else s1)
      else
        let s2 := if s.clk.tb = .coast then enterSlide s1 else s1
        tbCheck (requalify s2)
    else s)

/-- CLOCK_SWITCH: a multiplexer follows the new clock; the supply then falls to the voltage of the frequency in force (R192, R193, R195). -/
def execClockSwitch (coast : Bool) (s : State) : Host.Outcome State Fault Refusal :=
  .next (match s.clk.switching with
    | some l =>
      if decide (l = .coast) = coast then
        { s with clk := { (s.clk.supplyFor l.mv l) with level := l, switching := none, changing := false } }
      else s
    | none => s)

/-- CLKSW_FORCED: the old clock's edges have not come, and it is removed without them (R193). -/
def execClkswForced (s : State) : Host.Outcome State Fault Refusal := .next (clkSet 0x20 s)

/-- LEVEL_REQUEST: the firmware, where it runs, requests L0, L1 or L2 (R194, R195). -/
def execLevelRequest (level : Fin 3) (s : State) : Host.Outcome State Fault Refusal :=
  .next (if s.proto.running ∧ s.off = false then
      requestLevel (match level with
        | 0 => .l0
        | 1 => .l1
        | _ => .l2) s
    else s)

/-- VF_SWITCH: the supply has held within 10 mV of its target for 4 µs, and the higher frequency is switched in (R195). -/
def execVfSwitch (s : State) : Host.Outcome State Fault Refusal :=
  .next (if s.clk.changing then { s with clk := { s.clk with changing := false, switching := some (levelGoal s) } } else s)

/-- VF_FAIL: the supply has missed its target for 100 µs: the frequency is kept and the target returns to its voltage (R195). -/
def execVfFail (s : State) : Host.Outcome State Fault Refusal :=
  .next (if s.clk.changing then
      clkSet 0x40 { s with clk := { (s.clk.supplyFor s.clk.level.mv s.clk.level) with changing := false } }
    else s)

/-! ## SYNC_OUT (R184) -/

/-- SYNC_OUT_CYCLE_END: the settings that wait take effect; from OFF at a fabric tick count that is a multiple of DIV (R184). -/
def execSyncOutCycleEnd (s : State) : Host.Outcome State Fault Refusal :=
  .next (match s.clk.soNext with
    | some (m, r, d) =>
      let now := fabricNow s
      bump { s with clk := { s.clk with
        soMode := m, soRail := r, soDiv := d, soNext := none, soAt := if s.clk.soMode = 0 then now / d * d else now } }
    | none => s)

/-- SYNC_OUT: none while it is high impedance. In DIV the fabric divided by DIV, high for the first half of each cycle; in RAIL low while
the rail is not switching, and a pulse at each of its period starts, which the model holds to no finer time, so that whether one is in
progress is free. Without the I/O supply it is held low (R15, R184). (DESIGN CHOICE 28, safe.) -/
def State.syncOut (s : State) : Option Bool :=
  if s.off then some false
  else
    match s.clk.soMode with
    | 1 => some (decide ((fabricNow s - s.clk.soAt) % s.clk.soDiv < ceilDiv s.clk.soDiv 2))
    | 2 => some (railSwitching s s.clk.soRail && Config.freeBool s.free)
    | _ => none

/-! ## H_MAX (R189) -/

/-- The mode 1 uncertainty after a holdover of `h` seconds (R189). (DEDUCED 24, unsafe.) -/
def Clk.uAfter (c : Clk) (h : Nat) : Nat := min 2000 (c.uRef + 10 + c.dHo * h / 3600)

/-- The largest uncertainty the mode 1 formula reaches (R189). -/
def Clk.uTop (c : Clk) : Nat := if c.dHo = 0 then c.uAfter 0 else 2000

/-- A rail keeps under an uncertainty. -/
def railKeeps (s : State) (r u : Nat) : Bool := (railViols s s.clk.bands u r (s.rail r).period).isEmpty

/-- The largest uncertainty below `n + 1` above a start under which a rail keeps. -/
def lastKeep (s : State) (r base : Nat) : Nat → Nat
  | 0 => base
  | n + 1 => if railKeeps s r (base + n + 1) then base + n + 1 else lastKeep s r base n

/-- H_MAX of a rail: the largest whole number of seconds for which it keeps; the uncertainty grows with H, so it is the last second at
which the formula yields the largest uncertainty that keeps (R189). -/
def hMax (s : State) (r : Nat) : Nat :=
  let c := s.clk
  let u0 := c.uAfter 0
  if (s.entry r).valid = false ∨ railKeeps s r c.uTop then 0xFFFFFFFF
  else if railKeeps s r u0 = false then 0
  else (3600 * (lastKeep s r u0 (c.uTop - u0) - (c.uRef + 10) + 1) - 1) / c.dHo

/-! ## Commands -/

/-- CLOCK_SOURCE's MODE with its effect on the timebase (R176, R196). -/
def setMode (m : Nat) (s : State) : State :=
  let s1 := { s with clk := { s.clk with mode := m } }
  if m = s.clk.mode then s1
  else if m ≠ 0 ∧ s.clk.tb.onRef ∧ s.clk.xoBad = false then enterSlide s1
  else if m = 2 ∧ s.clk.tb = .holdover then enterSlide s1
  else tbCheck s1

/-- CLOCK_SOURCE's PRESET (R176, R196). Where MODE HOLD has just started a slide to 0, no valid offset having been there, R196 says both
that the slide takes the preset as its target and that a slide to 0 keeps its target: it keeps it. (DESIGN CHOICE 158, unsafe.) -/
def presetOffset (v : Int) (s : State) : State :=
  let s0 := if s.clk.tb = .slide then holdOffset s else s
  let s1 : State := { s0 with clk := { s0.clk with offLearned := v, offValid := true, offPreset := true, uLrn := 100 } }
  match s.clk.tb with
  | .holdover => enterSlide s1
  | .free => if s.clk.mode ≠ 2 then enterSlide s1 else s1
  | .slide => updateU s1
  | _ => s1

/-- CLOCK_SOURCE (R184, R196). -/
def clockSourceOp : OpSpec where
  op := 0x0501
  sh := false
  app := true
  plen := .fixed 10
  bad := fun _ p => if byteAt p 2 = 2 then firstBad p [{ off := 3, hi := 47 }] else none
  run := fun q s =>
    let p := q.params
    let so := if byteAt p 2 ≤ 2 then byteAt p 2 else 0
    let s1 := setMode (if byteAt p 0 ≤ 2 then byteAt p 0 else 0) s
    let s2 := { s1 with clk := { s1.clk with soNext := some (so, byteAt p 3, max 2 (fieldAt p 8 2)) } }
    if natBit (byteAt p 1) 0 = false then done0 s2
    else if s2.clk.tb.onRef then noted s2 []
    else done0 (presetOffset (s32At p 4) s2)

/-- SYNC_QUALIFY (R178, R197). -/
def syncQualifyOp : OpSpec where
  op := 0x0502
  sh := false
  app := true
  plen := .fixed 12
  run := fun q s =>
    let p := q.params
    let f := fieldAt p 0 4
    let qd := min 20 (byteAt p 4)
    let tol := max 1 (byteAt p 5)
    if f < 1000000 ∨ 100000000 < f then noted s []
    else
      let s0 := holdOffset s
      let s1 : State := { s0 with clk := { s0.clk with
        fNom := f, qd := qd, tol := tol, uRef := fieldAt p 6 2, dHo := fieldAt p 8 2, slideRate := clampNat 1 200 (byteAt p 10) } }
      done0 (if f ≠ s.clk.fNom ∨ tol ≠ s.clk.tol ∨ qd ≠ s.clk.qd then requalify (loseRef s1) else s1)

/-- A band record (R185). -/
def bandOf (b : List Byte) : Band :=
  let c := fieldAt b 18 2
  { fLo := fieldAt b 0 4, fHi := fieldAt b 4 4, rails := fieldAt b 8 8, gfix := fieldAt b 16 2
    enable := natBit c 0, harm := natBit c 1, ripple := natBit c 2 }

/-- The bands of a KEEPOUT_SET: those given, and the rest disabled (R197). -/
def bandsOf (p : List Byte) : Vector Band 16 :=
  mapIdx (Vector.replicate 16 ({} : Band)) (fun k b => if k < byteAt p 0 then bandOf (p.drop (4 + 20 * k)) else b)

/-- The enabled bands do not fall in F_LO, in order of band number, and none has F_LO above F_HI
(R185). (DEDUCED 23, unsafe.) -/
def bandsOrdered : List Band → Bool
  | [] => true
  | [a] => decide (a.fLo ≤ a.fHi)
  | a :: b :: l => decide (a.fLo ≤ a.fHi) && decide (a.fLo ≤ b.fLo) && bandsOrdered (b :: l)

/-- KEEPOUT_SET (R185, R188, R197). (DEDUCED 23, unsafe.) -/
def keepoutSetOp : OpSpec where
  op := 0x0503
  sh := false
  app := true
  plen := .counted 4 20 0
  bad := fun _ p => firstBad p [{ off := 0, hi := 16 }]
  run := fun q s =>
    let bands := bandsOf q.params
    if bandsOrdered (bands.toList.filter (fun b => b.enable)) = false then (s, .undef .undefinedKeepout)
    else
      let vs := planViols s bands s.clk.u
      if natBit (byteAt q.params 1) 0 ∧ vs ≠ [] then
        (s, .reply .planImpossible ([byte (min 255 vs.length)] ++ violRecords vs))
      else done0 (spurEval { s with clk := { s.clk with bands := bands } })

/-- The uncertainty that SPUR_PLAN_CHECK's mode selects (R189). -/
def checkU (s : State) (mode h : Nat) : Nat :=
  if mode = 1 then s.clk.uAfter h else if mode = 2 then 2000 else s.clk.u

/-- SPUR_PLAN_CHECK (R189, R190, R197). -/
def spurPlanCheckOp : OpSpec where
  op := 0x0504
  plen := .fixed 8
  run := fun q s =>
    let u := checkU s (byteAt q.params 0) (fieldAt q.params 4 4)
    let vs := planViols s s.clk.bands u
    let result := [byte (b2n (!vs.isEmpty)), byte (min 255 vs.length), 0, 0] ++ le32 u ++
      (upto 48).flatMap (fun r => le32 (hMax s r)) ++ violRecords vs
    (s, .reply (if vs.isEmpty then .done else .planImpossible) result)

/-- HO_MARGIN (R198). -/
def hoMargin (s : State) : Nat :=
  let vs := (upto 48).filter (fun r => (s.entry r).valid)
  let least := (vs.map (hMax s)).foldl min 0xFFFFFFFF
  if !(planViols s s.clk.bands s.clk.u).isEmpty then 0
  else
    match s.clk.tb with
    | .pullIn | .locked => least
    | .slide | .holdover => if least = 0xFFFFFFFF then least else least - s.clk.hoTime
    | _ => 0xFFFFFFFF

/-- The clock status record (R198). -/
def clockRecord (s : State) : List Byte :=
  let c := s.clk
  [byte c.tb.code, byte c.ref.code,
    byte (c.level.code + c.levelReq.code * 4 + b2n (c.changing || c.switching.isSome) * 16), 0] ++ le16 c.word ++ [0, 0] ++
    le32 (if c.xoBad then 0x80000000 else toCode 32 c.offNow) ++ le32 (if c.offValid then toCode 32 c.offLearned else 0) ++
    le32 c.u ++ le32 c.hoTime ++ le32 c.qualLeft ++ le32 (hoMargin s)

/-- CLOCK_STATUS (R198). -/
def clockStatusOp : OpSpec where
  op := 0x0505
  plen := .fixed 0
  run := fun _ s => done (holdOffset s) (clockRecord (holdOffset s))

/-- FSW as it acts (R182). -/
def fswAct (f : Nat) : Nat := clampNat 1000000 4000000 f

/-- PERIOD of a switching frequency, 16.16 steps (R182). -/
def periodOf (f : Nat) (whole : Bool) : Nat :=
  if whole then (roundDiv 25600000000 f).toNat * 65536 else (roundDiv (25600000000 * 65536) f).toNat

/-- The new PERIOD on its way to the members of a running rail: the word of index 0x33, and of index
0x34 with a boundary that the hub chooses, within the 255 that follow the leader's present one (R57, R60, R183). (DESIGN CHOICE 31,
safe.) -/
def sendPeriod (r p : Nat) (s : State) : State :=
  if (s.rail r).st.runs then
    let at_ := ((s.cell (s.rail r).leader).boundary + 1 + Config.freeNat s.free % 255) % 256
    post [configCast s r 0x33 (BitVec.ofNat 32 p), configCast s r 0x34 (BitVec.ofNat 32 at_)] (bump s)
  else s

/-- RAIL_FSW_SET (R182, R183, R188). -/
def railFswSetOp : OpSpec where
  op := 0x0506
  v := 2
  sh := false
  app := true
  plen := .fixed 8
  bad := railBad
  run := fun q s =>
    let r := railOp q.params
    let f := fieldAt q.params 4 4
    let p := periodOf (fswAct f) (natBit (byteAt q.params 1) 0)
    let vs := railViols s s.clk.bands s.clk.u r p
    if vs ≠ [] then
      (s, .reply .planImpossible (le32 (s.rail r).period ++ [byte (min 255 vs.length), 0, 0, 0] ++ violRecords vs))
    else
      let s1 := modRail s (fin48 r) (fun x => { x with fsw := fswAct f, period := p })
      doneOr (decide (fswAct f ≠ f)) (spurEval (sendPeriod r p s1)) (le32 p)

/-- CLOCK_SOURCE. -/
def execClockSource (q : Req) (s : State) : Host.Outcome State Fault Refusal := runOp clockSourceOp q s
/-- SYNC_QUALIFY. -/
def execSyncQualify (q : Req) (s : State) : Host.Outcome State Fault Refusal := runOp syncQualifyOp q s
/-- KEEPOUT_SET. -/
def execKeepoutSet (q : Req) (s : State) : Host.Outcome State Fault Refusal := runOp keepoutSetOp q s
/-- SPUR_PLAN_CHECK. -/
def execSpurPlanCheck (q : Req) (s : State) : Host.Outcome State Fault Refusal := runOp spurPlanCheckOp q s
/-- CLOCK_STATUS. -/
def execClockStatus (q : Req) (s : State) : Host.Outcome State Fault Refusal := runOp clockStatusOp q s
/-- RAIL_FSW_SET. -/
def execRailFswSet (q : Req) (s : State) : Host.Outcome State Fault Refusal := runOp railFswSetOp q s

end Sys2Proof.Machine
end

