-- ==== Sys2Proof/Machine/Session.lean ====
section
/-! DEFINITION. Session commands and the image buffer: HELLO, IDENTIFY, GET_STATUS, RESET_MODULE, CONFIG_LOAD, CONFIG_READ and
CONFIG_DIGEST, with the layout of an Eznuig image (R375-R379, R385-R389). -/

namespace Sys2Proof.Machine

/-! ## The Eznuig image -/

/-- A section of an image: TYPE, SEC_FLAGS, LEN, its offset in the image and its body (R378). -/
structure Section_ where
  /-- TYPE. -/
  ty : Nat
  /-- SEC_FLAGS. -/
  flags : Nat
  /-- LEN. -/
  len : Nat
  /-- Image offset of its header. -/
  off : Nat
  /-- The body. -/
  body : List Byte
  deriving DecidableEq, Repr

/-- A body length with its padding to a multiple of 4 (R378). -/
def padded (n : Nat) : Nat := (n + 3) / 4 * 4

/-- `n` sections from an offset on, as their headers describe them (R378). (DEDUCED 93, unsafe.) -/
def sectionsFrom (img : List Byte) : Nat → Nat → List Section_
  | 0, _ => []
  | n + 1, o =>
    let len := fieldAt img (o + 4) 2
    { ty := fieldAt img o 2, flags := fieldAt img (o + 2) 2, len := len, off := o, body := (img.drop (o + 8)).take len } ::
      sectionsFrom img n (o + 8 + padded len)

/-- The sections of an image (R377, R378). -/
def imageSections (img : List Byte) : List Section_ := sectionsFrom img (fieldAt img 0x0C 2) 32

/-- MAGIC, FORMAT and HDR_LEN are as R377 gives them. -/
def magicOk (img : List Byte) : Bool := decide (img.take 4 = [0x45, 0x5A, 0x4E, 0x47]) && decide (fieldAt img 6 2 = 32)

/-- IMAGE_LEN (R377). -/
def imageLen (img : List Byte) : Nat := fieldAt img 8 4

/-- IMAGE_LEN lies within its range (R377). -/
def imageLenOk (img : List Byte) : Bool :=
  decide (imageLen img % 4 = 0) && decide (48 ≤ imageLen img) && decide (imageLen img ≤ 262144)

/-- The header is one of R377. -/
def headerOk (img : List Byte) : Bool :=
  magicOk img && decide (fieldAt img 4 2 = 2) && imageLenOk img && decide (fieldAt img 0x0C 2 ≤ 4096) &&
    decide (fieldAt img 0x10 4 = 0x00010256)

/-- DIGEST computed over an image (R379). -/
def imageDigest (img : List Byte) : List Byte := digest64 (img.take (imageLen img - 16))

/-- DOMAIN_DIGEST computed over the sections with SHARED set (R379). -/
def imageDomDigest (img : List Byte) : List Byte :=
  digest64 (((imageSections img).filter (fun x => natBit x.flags 0)).flatMap (fun x => (img.drop x.off).take (8 + padded x.len)))

/-- What an image says of itself (R377, R379). -/
def imageInfo (img : List Byte) : ImageInfo :=
  { id := fieldAt img 0x18 4, len := imageLen img, flags := fieldAt img 0x0E 2
    digest := imageDigest img, domDigest := imageDomDigest img }

/-- DIGEST of an image checks (R382, R384). -/
def digestChecks (img : List Byte) : Bool := decide ((img.drop (imageLen img - 16)).take 8 = imageDigest img)

/-- The bytes of the image buffer up to a length (R376). -/
def bufferBytes (s : State) (n : Nat) : List Byte := Mem.reads s.proto.buffer 0 n

/-- The image in the buffer, as its header describes it. -/
def bufferImage (s : State) : List Byte := bufferBytes s (min 262144 (imageLen (bufferBytes s 32)))

/-- The buffer holds something loaded since the manager started (R376, R380). (DEDUCED 147, unsafe.) -/
def bufferHolds (s : State) : Bool := s.proto.loaded

/-! ## Records -/

/-- The firmware version running (R386). -/
def runningVersion (s : State) : List Byte := s.fw.ver[s.fw.bank]

/-- The identity record (R386). -/
def identityRecord (s : State) : List Byte :=
  [0x50, 0x59, 0x41, 0x2D, 0x32, 0x35, 0x36, 0x4D] ++ le32 0x00010256 ++ [0xA0] ++ runningVersion s ++
    [byte s.fw.bank.val, 1, 2, 0x21, 2, byte s.fuse.lcState] ++ le16 256 ++ [48, byte s.land.twiAddr] ++
    le16 (s.seam.addr.getD 0) ++ uniqueId s ++
    (match s.proto.inForce with
      | some i => le32 i.id
      | none => le32 0) ++ List.replicate 8 0

/-- A 48-bit map of the rails in a state. -/
def railMap48 (s : State) (f : RailSt → Bool) : Nat := (upto 48).foldl (fun a r => a + b2n (f (s.rail r).st) * 2 ^ r) 0

/-- The status record (R387). -/
def statusRecord (s : State) : List Byte :=
  [byte s.pwr.st.code, byte s.dom.st.code, byte s.proto.cfg.code, byte (mapCode s)] ++ le32 s.land.word ++
    le16 (globWord s) ++ [byte s.proto.waiting.length, byte (min 255 s.proto.notes)] ++ leBytes 6 (railMap48 s RailSt.runs) ++
    leBytes 6 (railMap48 s (fun x => decide (x = .latchedOff))) ++ le16 (s.proto.firstNote.getD 0xFFFF) ++ [0, 0] ++
    le32 ((s.hem.ticks - s.proto.startAt) / oneSecond)

/-! ## The opcodes -/

/-- HELLO (R375, R390). -/
def helloOp : OpSpec where
  op := 0x0001
  plen := .fixed 4
  run := fun q s =>
    let hi := byteAt q.params 0
    let lo := byteAt q.params 1
    let v := min hi 2
    if v < max lo 1 then (s, .reply .versionUnsupported [1, 2])
    else
      done { s with proto := { s.proto with versions := noteVersion q.src v true s.proto.versions } }
        ([byte v, 1, 2, 0] ++ le16 (plenLimit v) ++ le16 (plenLimit v))

/-- IDENTIFY (R386). -/
def identifyOp : OpSpec where
  op := 0x0002
  plen := .fixed 0
  run := fun _ s => done s (identityRecord s)

/-- GET_STATUS (R387). -/
def getStatusOp : OpSpec where
  op := 0x0003
  plen := .fixed 0
  run := fun _ s => done s (statusRecord s)

/-- RESET_MODULE (R389): kinds 2-255 act as 0. -/
def resetModuleOp : OpSpec where
  op := 0x0004
  plen := .fixed 1
  run := fun q s =>
    done0 { s with proto := { s.proto with resetDue := some (if byteAt q.params 0 = 1 then 1 else 0, s.proto.replyNo) } }

/-- CONFIG_LOAD (R376, R381). -/
def configLoadOp : OpSpec where
  op := 0x0101
  plen := .range 5 492
  bad := fun _ p => if 262144 < fieldAt p 0 4 + (p.length - 4) then some 0 else none
  app := true
  run := fun q s =>
    let off := fieldAt q.params 0 4
    let old := if off = 0 then [] else s.proto.buffer
    done0 { s with proto := { s.proto with buffer := Mem.writes old off (q.params.drop 4), loaded := true, cfg := .loading } }

/-- CONFIG_READ (R376). (DESIGN CHOICE 11, unsafe.) -/
def configReadOp : OpSpec where
  op := 0x0103
  plen := .fixed 8
  bad := fun ver p => firstBad p [{ off := 0, width := 4, hi := 262143 }, { off := 4, width := 2, lo := 1, hi := if ver = 1 then 240 else 488 }]
  run := fun q s =>
    let off := fieldAt q.params 0 4
    let n := fieldAt q.params 4 2
    let read (len : Nat) (out : List Byte) : State × Ans :=
      if len ≤ off then absent s 0 else if len < off + n then absent s 4 else done s out
    match byteAt q.params 6 with
    | 0 => if bufferHolds s then read 262144 (Mem.reads s.proto.buffer off n) else absent s 0xFFFF
    | 1 =>
      match s.proto.stored with
      | some img => read img.length ((img.drop off).take n)
      | none => absent s 0xFFFF
    | _ => absent s 0xFFFF

/-- The 24 bytes of CONFIG_DIGEST (R385). -/
def digestRecord (i : ImageInfo) : List Byte := i.digest ++ i.domDigest ++ le32 i.id ++ le32 i.len

/-- CONFIG_DIGEST (R385). (DESIGN CHOICE 11, unsafe; DEDUCED 12, safe.) -/
def configDigestOp : OpSpec where
  op := 0x0104
  plen := .fixed 1
  run := fun q s =>
    match byteAt q.params 0 with
    | 0 =>
      if bufferHolds s = false then absent s 0xFFFF
      else if headerOk (bufferImage s) then done s (digestRecord (imageInfo (bufferImage s)))
      else
        let crc := crc16 ((commandBytes q.ver q.tag 0x0104 q.params).take 7)
        (s, .reply .badCheck (le16 crc ++ le16 crc))
    | 1 =>
      match s.proto.stored with
      | some img => done s (digestRecord (imageInfo img))
      | none => absent s 0xFFFF
    | 2 =>
      match s.proto.inForce with
      | some i => done s (digestRecord i)
      | none => done s (List.replicate 24 0)
    | _ => absent s 0xFFFF

/-- HELLO. -/
def execHello (q : Req) (s : State) : Host.Outcome State Fault Refusal := runOp helloOp q s
/-- IDENTIFY. -/
def execIdentify (q : Req) (s : State) : Host.Outcome State Fault Refusal := runOp identifyOp q s
/-- GET_STATUS. -/
def execGetStatus (q : Req) (s : State) : Host.Outcome State Fault Refusal := runOp getStatusOp q s
/-- RESET_MODULE. -/
def execResetModule (q : Req) (s : State) : Host.Outcome State Fault Refusal := runOp resetModuleOp q s
/-- CONFIG_LOAD. -/
def execConfigLoad (q : Req) (s : State) : Host.Outcome State Fault Refusal := runOp configLoadOp q s
/-- CONFIG_READ. -/
def execConfigRead (q : Req) (s : State) : Host.Outcome State Fault Refusal := runOp configReadOp q s
/-- CONFIG_DIGEST. -/
def execConfigDigest (q : Req) (s : State) : Host.Outcome State Fault Refusal := runOp configDigestOp q s

end Sys2Proof.Machine
end

