-- ==== Sys2Proof/Machine/Mirror.lean ====
section
/-! DEFINITION. The mirror that the host port reads, and the stop of the manager, which leaves it as it stands (R371, R399-R401). -/

namespace Sys2Proof.Machine

/-- The port registers (R401). -/
def portRegisters (s : State) : List Byte :=
  let z : List Byte := [0, 0, 0, 0]
  [byte s.hp.st.code, byte (b2n s.proto.running)] ++ le16 s.hp.len ++ le16 s.hp.rplLen ++
    [byte s.hp.ctl, byte s.hp.tScl, byte s.hp.tSda, 0] ++ le16 s.hp.flags.toNat ++ z

/-- The event pending bitmap (R465). -/
def pendingBitmap (s : State) : List Byte :=
  (upto 128).map (fun k => byte ((upto 8).foldl (fun a j => a + b2n s.router.ev[evt (8 * k + j)].pending * 2 ^ j) 0))

/-- The records of the mirror that the manager refreshes, one after the other: identity, status, rails
and event pending bitmap (R399, R400). (DEDUCED 76, unsafe.) -/
def mirrorBytes (s : State) : List Byte :=
  identityRecord s ++ statusRecord s ++ (upto 48).flatMap (fun r => regulationRecord (s.rail r)) ++ pendingBitmap s

/-- Where a pointer lies among those records; none where it names none of them (R399). -/
def mirrorAt (p : Nat) : Option Nat :=
  if p < 0x0050 then some p
  else if 0x0100 ≤ p ∧ p < 0x0400 then some (80 + (p - 0x0100))
  else if 0x1400 ≤ p ∧ p < 0x1480 then some (848 + (p - 0x1400))
  else none

/-- A byte of the mirror: as the manager refreshes it, or, while the manager does not run, as it last
stood; a cell's block as the manager holds it; reserved bytes are 0 (R61, R399, R400, R465).
(DEDUCED 76, unsafe.) -/
def mirrorByte (s : State) (p : Nat) : Byte :=
  match mirrorAt p with
  | some k => (if s.proto.running then mirrorBytes s else s.hp.mirror).getD k 0
  | none => if 0x0400 ≤ p ∧ p < 0x1400 then (s.cell ((p - 0x0400) / 16)).mirror[Fin.ofNat 16 p] else 0

/-- The manager stops without completing the command it executes; its own operations end: a tack probe
is abandoned with no event, an apply is ABANDONED, a verification ends, and what it was still to
do for a reply it no longer does; the mirror keeps its last contents (R371, R373, R383, R400, R503, R510). (DEDUCED 62, safe; DEDUCED 104,
unsafe.) -/
def stopManager (s : State) : State :=
  let s0 := discardCommands (cutShort s)
  let s1 := if s0.map.probe = .running then
      recheckActive { s0 with map := { s0.map with
        probe := .aborted, prev := none, words := blankWords, probing := false, storedProbe := none } }
    else s0
  { s1 with
    hp := if s.proto.running then { s1.hp with mirror := mirrorBytes s } else s1.hp
    proto := if s1.proto.cfg = .applying then
        { s1.proto with cfg := .abandoned, flags := s1.proto.flags ||| 0x40, resetDue := none }
      else { s1.proto with resetDue := none }
    fw := { s1.fw with st := s1.fw.st.map (fun x => if x = .verifying then .staged else x), commit := none }
    pwr := { s1.pwr with hibDue := none, gated := false } }

end Sys2Proof.Machine
end

