-- ==== Sys2Proof/Machine/Ports.lean ====
section
/-! DEFINITION. The link states of the Seam ports and their power (R419, R420, R436, R448). -/

namespace Sys2Proof.Machine

/-- The event of a port (R451). -/
def portEvent (p : Port) : Fin 1024 := if p = .a then 528 else 529

/-- A port changed. -/
def modPort (p : Port) (f : PortSt → PortSt) (s : State) : State := { s with seam := s.seam.modPort p f }

/-- A count of frames dropped (R430, R447). (DEDUCED 77, unsafe.) -/
def countDrops (n : Nat) (s : State) : State := { s with seam := { s.seam with fwdDrops := sat16 s.seam.fwdDrops n } }

/-- A port that leaves UP loses the frames it still holds. (DEDUCED 77, unsafe.) -/
def PortSt.flush (t : PortSt) : PortSt := { t with queue := [], sending := none }

/-- A port enters a link state, with its event; leaving UP sets LINK_LOST, and a port that is DOWN in
HIBERNATE is powered down (R420, R448, R467). (DEDUCED 77, unsafe.) -/
def setLink (p : Port) (st : LinkSt) (s : State) : State :=
  let t := s.seam.port p
  let leaves := decide (t.link = .up) && decide (st ≠ .up)
  let sleeps := decide (st = .down) && decide (s.pwr.st = .hibernate)
  let s1 := modPort p (fun y =>
    let z := if leaves then y.flush else y
    { z with
      link := st, ver := if st = .up then y.ver else 0, powered := y.powered && !sleeps, burst := y.burst && !sleeps }) s
  let lost := t.queue ++ t.sending.toList
  let s2 := if leaves then adoptAddress (countDrops lost.length { s1 with seam := s1.seam.markGaps lost }) else s1
  pulseIf (decide (t.link ≠ st)) (portEvent p) (if leaves then seamSet (if p = .a then 0x2 else 0x4) s2 else s2)

/-- A port is powered down, and its link DOWN (R420, R467). -/
def powerDown (p : Port) (s : State) : State := modPort p PortSt.unpowered (setLink p .down s)

end Sys2Proof.Machine
end

