-- ==== Sys2Proof/Machine/Agreement.lean ====
section
/-! DEFINITION. The members of a sequencing domain and what their announcements agree on (R442-R444, R449). -/

namespace Sys2Proof.Machine

/-- 300 ms, in Hem ticks (R432, R442). -/
def hearing : Nat := 9830

/-- DOMAIN_DIGEST of the image in force; zero while none is (R379, R441). -/
def ownDomDigest (s : State) : List Byte :=
  match s.proto.inForce with
  | some i => i.domDigest
  | none => List.replicate 8 0

/-- The modules heard within the last 300 ms (R442, R447). (DEDUCED 56, safe.) -/
def heardNow (s : State) : List Member := s.seam.members.filter (fun m => decide (s.hem.ticks ≤ m.at_ + hearing))

/-- The other members of the domain: those heard with the same nonzero domain number; a module without an address gathers none (R426,
R433, R442). -/
def domPeers (s : State) : List Member :=
  (heardNow s).filter (fun m => s.seam.addr.isSome && decide (s.seam.domain ≠ 0) && decide (m.domain = s.seam.domain))

/-- Restriction of a domain state: LATCHED, FALLING, DOWN, RISING, UP from the most to the least (R444). -/
def restriction (code : Nat) : Nat :=
  match code with
  | 4 => 4
  | 3 => 3
  | 0 => 2
  | 1 => 1
  | _ => 0

/-- The agreed domain state: the most restrictive member state (R444). -/
def agreedState (s : State) : Nat :=
  (domPeers s).foldl (fun a m => if restriction a < restriction m.dom then m.dom else a) s.dom.st.code

/-- The disagreement causes found by comparing the members: DIGEST, OVERSIZE, STATE in bits 0-2 (R444, R449). -/
def disagreeCauses (s : State) : Nat :=
  b2n ((domPeers s).any (fun m => decide (m.digest ≠ ownDomDigest s))) + b2n (decide (32 < (domPeers s).length + 1)) * 2 +
    b2n (decide (3 ≤ restriction (agreedState s))) * 4

/-- Lowest address of a member whose digest or state differs from this module's; 0xFFFF when none (R449). -/
def differing (s : State) : Nat :=
  ((domPeers s).filter (fun m => decide (m.digest ≠ ownDomDigest s) || decide (m.dom ≠ s.dom.st.code))).foldl
    (fun a m => min a m.addr) 0xFFFF

/-- Seconds since the last SYNC; 0xFFFFFFFF when none has arrived (R449). -/
def syncAge (s : State) : Nat :=
  match s.seam.lastSync with
  | some t => (s.hem.ticks - t) / oneSecond
  | none => 0xFFFFFFFF

/-- The agreement record (R449). -/
def agreeRecord (s : State) : List Byte :=
  let alone := decide (s.seam.agree = .alone)
  let z : List Byte := [0, 0]
  [byte s.seam.agree.code, byte s.seam.causes] ++ le16 s.seam.domain ++
    [byte (min 255 ((domPeers s).length + 1)), byte (agreedState s)] ++ le16 (differing s) ++
    le16 (if alone then 0xFFFF else s.seam.master.getD 0xFFFF) ++ z ++
    le32 (if alone ∨ isMaster s then 0 else toCode 32 s.seam.ofs) ++ ownDomDigest s ++ le32 (syncAge s) ++ z ++ z

end Sys2Proof.Machine
end

