-- ==== Sys2Proof/Machine/Sequencer.lean ====
section
/-! DEFINITION. The sequencing domain: its commands, its pins, slots and FAULT_N (chapter 08, R445). -/

namespace Sys2Proof.Machine

/-! ## Going up and down -/

/-- A slot record from its 24 bytes (R231). -/
def slotOfBytes (b : List Byte) : Slot :=
  { rails := fieldAt b 0 6, qual := fieldAt b 8 2, timeout := fieldAt b 0x0A 2, upDelay := fieldAt b 0x0C 2
    downTimeout := fieldAt b 0x0E 2, used := natBit (byteAt b 0x10) 0, gate := byteAt b 0x10 / 2 % 8, downDelay := fieldAt b 0x12 2 }

/-- A record may be written: the domain is DOWN or LATCHED (R256). -/
def domIdle (s : State) : Bool := decide (s.dom.st = .down) || decide (s.dom.st = .latched)

/-- REFUSED_STATE with the domain state (R227, R368). -/
def refuseDom (s : State) : State × Ans := refuse s 3 s.dom.st.code 0xFF

/-- Rails that another USED slot record names (R231). -/
def namedElsewhere (s : State) (k : Nat) : Nat :=
  (upto 48).foldl (fun a r =>
    if (upto 16).any (fun j => decide (j ≠ k) && s.dom.slots[Fin.ofNat 16 j].used && natBit s.dom.slots[Fin.ofNat 16 j].rails r)
    then a + 2 ^ r else a) 0

/-- A slot record written, without the rails that another USED slot names; the rails left out (R231). -/
def writeSlot (k : Nat) (x : Slot) (s : State) : State × Nat :=
  let out := Nat.land x.rails (namedElsewhere s k)
  ({ s with dom := { s.dom with slots := upd s.dom.slots (Fin.ofNat 16 k) { x with rails := Nat.xor x.rails out } } }, out)

/-- SEQ_SLOT_SET (R231, R255, R256). -/
def seqSlotSetOp : OpSpec where
  op := 0x0701
  sh := false
  app := true
  plen := .fixed 28
  bad := fun _ p => firstBad p [{ off := 0, hi := 15 }]
  run := fun q s =>
    if domIdle s then
      let w := writeSlot (byteAt q.params 0) (slotOfBytes (q.params.drop 4)) s
      doneOr (decide (w.2 ≠ 0)) w.1 (leBytes 8 w.2)
    else refuseDom s

/-- A rail named by a USED slot whose active entry carries a check code of 6-9 (R91). -/
def badSlotRail (s : State) : Option Nat :=
  (upto 48).find? (fun r => decide (6 ≤ s.map.activeChk[fin48 r]) && decide (s.map.activeChk[fin48 r] ≤ 9) &&
    (upto 16).any (fun j => s.dom.slots[Fin.ofNat 16 j].used && natBit s.dom.slots[Fin.ofNat 16 j].rails r))

/-- DOMAIN_UP: a probe in progress refuses it in every domain state; one accepted whose target is outranked in its manager cycle is
discarded (R84, R91, R228-R230, R255, R256, R445). (DESIGN CHOICE 126, safe.) -/
def domainUpOp : OpSpec where
  op := 0x0702
  sh := false
  app := true
  plen := .fixed 0
  run := fun _ s =>
    if s.map.probe = .running then refuse s 2 (mapCode s) 0xFF
    else if s.dom.st ≠ .down ∨ s.dom.upSrc = 1 then refuseDom s
    else
      match badSlotRail s, s.seam.agree with
      | some r, _ => refuseRail s r
      | none, .gathering => refuse s 10 AgreeSt.gathering.code 0xFF
      | none, .disagree => (s, .reply .domainDisagree ((agreeRecord s).take 12))
      | none, _ => started (if outranked s then bump s else enterRising s)

/-- DOMAIN_DOWN (R228, R230, R255, R256). (DEDUCED 36, unsafe.) -/
def domainDownOp : OpSpec where
  op := 0x0703
  sh := false
  plen := .fixed 0
  run := fun _ s =>
    if (s.dom.st = .rising ∨ s.dom.st = .up) ∧ s.dom.upSrc ≠ 1 then started (enterFalling false (cancelRestart s))
    else refuseDom s

/-- An up edge of the enable pin, an AUTO_UP or a restart: as DOMAIN_UP, but waiting while GATHERING,
and ignored with UP_IGNORED in DISAGREE (R84, R91, R230, R383, R384, R445, R478). A rise that the
present state does not admit is not kept (R228). (DESIGN CHOICE 126, safe.) -/
def pinUp (s : State) : State :=
  if s.dom.st ≠ .down ∨ s.pwr.st = .safeHold then { s with dom := { s.dom with upWait := false } }
  else if outranked s then bump { s with dom := { s.dom with upWait := false } }
  else
    match s.seam.agree with
    | .gathering => { s with dom := { s.dom with upWait := true } }
    | .disagree => seamSet 0x100 (cancelRestart { s with dom := { s.dom with upWait := false } })
    | _ =>
      let s1 := cancelRestart { s with dom := { s.dom with upWait := false } }
      if s.map.probe = .running ∨ (badSlotRail s).isSome ∨ s.proto.cfg = .applying then s1 else enterRising s1

/-- What a wait of the slot progression finds on its pin (R232, R242). (DEDUCED 125, unsafe.) -/
def pollPins (s : State) : State :=
  if s.proto.running = false then s
  else
    match s.dom.ph, s.dom.cur with
    | .begin, _ => if s.dom.st = .rising then beginUp s else if s.dom.st = .falling then beginDown s else s
    | .waitSqui, _ => if s.dom.squi then nextUp 0 s else s
    | .waitSqdi, _ => if s.dom.sqdi then nextDown 16 s else s
    | .gate, some k => if gateOpen s.dom k then { s with dom := { s.dom with ph := .upDelay } } else s
    | _, _ => s

/-- EN_PIN_EDGE: the pin's level is taken; the enable pin acts on the domain, and a waiting gate may open. Without power and in HIBERNATE
the level alone is taken (R230-R232, R244, R245, R445). (DEDUCED 125, unsafe.) -/
def execEnPinEdge (pin : Fin 4) (level : Bool) (s : State) : Host.Outcome State Fault Refusal :=
  if s.dom.en.getLsbD pin.val = level then .next s
  else
    let s1 := { s with dom := { s.dom with en := if level then s.dom.en ||| BitVec.ofNat 4 (2 ^ pin.val)
                                              else s.dom.en &&& ~~~ BitVec.ofNat 4 (2 ^ pin.val) } }
    let acts := !s.off && decide (s.pwr.st ≠ .hibernate) && decide (s.dom.enPin = pin) && (decide (s.dom.upSrc = 1) || decide (s.dom.upSrc = 2))
    let s2 :=
      if acts && level then pinUp s1
      else if acts then enterFalling false (cancelRestart { s1 with dom := { s1.dom with upWait := false, autoUp := false } })
      else s1
    .next (pollPins s2)

/-- SQUI_HIGH (R232). -/
def execSquiHigh (s : State) : Host.Outcome State Fault Refusal :=
  .next (pollPins { s with dom := { s.dom with squi := true } })

/-- SQDI_HIGH (R242). -/
def execSqdiHigh (s : State) : Host.Outcome State Fault Refusal :=
  .next (pollPins { s with dom := { s.dom with sqdi := true } })

/-- CASCADE_DROP: SQDI has been high for 100 µs, more than 1 ms after entry to RISING (R237). (DEDUCED
125, unsafe.) -/
def execCascadeDrop (s : State) : Host.Outcome State Fault Refusal :=
  .next (if s.off = false ∧ (s.dom.role = 1 ∨ s.dom.role = 2) ∧ (s.dom.st = .rising ∨ s.dom.st = .up) then
      enterFalling true (capture 9 0 (seqSet 0x4 { s with dom := { s.dom with sqdi := true } }))
    else s)

/-- CAS_TIMEOUT: a rise that waits for SQUI fails; a run that waits for SQDI proceeds without it. The
wait is paused while the manager restarts (R235, R237, R245). (DESIGN CHOICE 7, safe.) -/
def execCasTimeout (s : State) : Host.Outcome State Fault Refusal :=
  .next (if s.proto.running = false then s
    else
      match s.dom.ph with
      | .waitSqui => failStart 0xFF (seqSet 0x8 s)
      | .waitSqdi => nextDown 16 (capture 9 1 (seqSet 0x8 s))
      | _ => s)

/-! ## Slots -/

/-- UP_DELAY_END (R232). -/
def execUpDelayEnd (s : State) : Host.Outcome State Fault Refusal :=
  .next (match s.dom.ph, s.dom.cur with
    | .upDelay, some k => if s.proto.running then startSlot k s else s
    | _, _ => s)

/-- SLOT_QUALIFIED: every named rail's PG_RAW has held for QUAL; the rails are supervised, and the next slot starts (R232, R234). -/
def execSlotQualified (s : State) : Host.Outcome State Fault Refusal :=
  .next (match s.dom.ph, s.dom.cur with
    | .qualify, some k =>
      if s.proto.running ∧ (s.dom.slot k).railList.all (fun r => (s.rail r).pgRaw) then
        let s1 := mapRails s (fun n x =>
          if natBit (s.dom.slot k).rails n then { x with qualifying := false, supervised := true, fallSeen := false } else x)
        nextUp (k + 1) { s1 with dom := { s1.dom with slotQual := s1.dom.slotQual ||| BitVec.ofNat 16 (2 ^ k) } }
      else s
    | _, _ => s)

/-- SLOT_TIMEOUT: the slot in progress has not qualified in time (R235). -/
def execSlotTimeout (s : State) : Host.Outcome State Fault Refusal :=
  .next (match s.dom.cur with
    | some k => if s.proto.running ∧ s.dom.st = .rising then failStart k s else s
    | none => s)

/-- SUPERVISION_START: PG_RAW of a rail that no slot names has held for 1 ms (R234). -/
def execSupervisionStart (r : Fin 48) (s : State) : Host.Outcome State Fault Refusal :=
  .next (if slotOf s r.val = none ∧ s.rails[r].pgRaw ∧ s.rails[r].supervised = false then
      modRail s r (fun x => { x with supervised := true, fallSeen := false })
    else s)

/-- A rail is OFF or LATCHED_OFF in every place of a slot. -/
def slotOff (s : State) (k : Nat) : Bool := (s.dom.slot k).railList.all (fun r => !(s.rail r).st.runs)

/-- DOWN_DELAY_END: the slot stops its rails, each as RAIL_DISABLE does (R242). -/
def execDownDelayEnd (s : State) : Host.Outcome State Fault Refusal :=
  .next (match s.dom.ph, s.dom.cur with
    | .downDelay, some k =>
      if s.proto.running then
        (s.dom.slot k).railList.foldl (fun t r => stopRail r false t) { s with dom := { s.dom with ph := .downWait } }
      else s
    | _, _ => s)

/-- SLOT_DOWN_DONE: every named rail is OFF or LATCHED_OFF; the next slot follows, or the run ends (R228, R242). -/
def execSlotDownDone (s : State) : Host.Outcome State Fault Refusal :=
  .next (match s.dom.ph, s.dom.cur with
    | .downWait, some k => if s.proto.running ∧ slotOff s k then nextDown k s else s
    | _, _ => s)

/-- DOWN_TIMEOUT: a named rail is turned off as STOP_MODE 1 does (R242). -/
def execDownTimeout (r : Fin 48) (s : State) : Host.Outcome State Fault Refusal :=
  .next (match s.dom.ph, s.dom.cur with
    | .downWait, some k =>
      if s.proto.running ∧ natBit (s.dom.slot k).rails r.val ∧ s.rails[r].st.runs then
        capture 6 r.val (seqSet 0x2 (stopRail r.val true s))
      else s
    | _, _ => s)

/-! ## FAULT_N -/

/-- A shut-off that another module asked for, by the line (index 0) or by an echo (index 1); a module that drives the line itself records
no pressing (R240, R241). -/
def faultIn (index : Nat) (s : State) : State := if s.dom.fnDrive then shutOff s else capture 2 index (shutOff s)

/-- FAULT_N_LOW: the line is accepted low; the module that drives it has acted already, and one without power accepts nothing (R240, R467,
R479). (DESIGN CHOICE 26, safe.) -/
def execFaultNLow (s : State) : Host.Outcome State Fault Refusal :=
  let s1 := { s with dom := { s.dom with fnLow := true, fnAt := some s.hem.ticks } }
  .next (if s.off then { s with dom := { s.dom with fnLow := true } } else if s.dom.fnDrive then s1 else faultIn 0 s1)

/-- FAULT_N_RELEASE: every cell is OFF, ISOLATED or RETIRED and FN_PULSE has passed; the line may
still be held low by another module (R239). (DESIGN CHOICE 34, safe.) -/
def execFaultNRelease (s : State) : Host.Outcome State Fault Refusal :=
  .next (if s.dom.fnDrive ∧ allCellsOff s then
      bump { s with dom := { s.dom with fnDrive := false, fnLow := s.dom.fnLow && Config.freeBool s.free } }
    else s)

/-- FN_OPEN: the line reads high 1 µs after the module began driving it low (R239). -/
def execFnOpen (s : State) : Host.Outcome State Fault Refusal :=
  .next (if s.dom.fnDrive then seqSet 0x40 { s with dom := { s.dom with fnLow := false } } else s)

/-- FN_STUCK: the line has stayed low for 100 ms without this module driving it (R239). -/
def execFnStuck (s : State) : Host.Outcome State Fault Refusal :=
  .next (if s.dom.fnLow ∧ s.dom.fnDrive = false ∧ s.off = false then capture 0x0E 0 (seqSet 0x20 s) else s)

/-- The lowest-numbered rail with a member ARMED, SWITCHING or SHED (R261). -/
def servingRail (s : State) : Option Nat := (upto 48).find? (fun r => (s.members r).any (fun n => (s.cell n).st.serves))

/-- LATCH_RELEASE; a cause to latch a rail in the same control tick still governs (R100, R101, R255, R256, R261). -/
def latchReleaseOp : OpSpec where
  op := 0x0704
  sh := false
  plen := .fixed 0
  run := fun _ s =>
    if domIdle s = false ∨ s.dom.fnLow then refuseDom s
    else if allCellsOff s = false then
      match servingRail s with
      | some r => refuseRail s r
      | none => refuse s 1 0 0xFF
    else
      let s1 := mapRails s (fun _ x => if x.st = .latchedOff then { x with st := .off, offFrom := some .latchedOff } else x)
      let s2 := { s1 with dom := { s1.dom with latchPend := false } }
      let s3 := if s.dom.st = .latched then enterDom .down s2 else s2
      done s3 [byte s3.dom.st.code]

/-! ## Configuration and status -/

/-- The domain configuration written (R225, R230, R258). -/
def domConfig (b : List Byte) (d : Dom) : Dom :=
  let ctl := byteAt b 1
  { d with
    role := if byteAt b 0 ≤ 3 then byteAt b 0 else 0
    upSrc := if ctl % 4 = 3 then 0 else ctl % 4
    enPin := Fin.ofNat 4 (ctl / 4)
    vinRestart := natBit ctl 7
    casTimeout := max 1 (fieldAt b 2 2)
    fnPulse := clampNat 10 10000 (fieldAt b 4 2)
    pgMap := #v[byteAt b 8, byteAt b 9, byteAt b 10, byteAt b 11, byteAt b 12, byteAt b 13, byteAt b 14, byteAt b 15] }

/-- DOMAIN_CONFIG (R255, R256, R258). -/
def domainConfigOp : OpSpec where
  op := 0x0707
  v := 2
  sh := false
  app := true
  plen := .fixed 16
  run := fun q s => if domIdle s then done0 { s with dom := domConfig q.params s.dom } else refuseDom s

/-- The pressings held: the log, then the capture buffers (R251, R255). (DEDUCED 40, safe.) -/
def pressings (s : State) : List Pressing := s.sup.log ++ s.sup.bufs

/-- Newest PR_SEQ; 0xFFFFFFFF while none is held (R251). -/
def newestSeq (s : State) : Nat :=
  match (pressings s).getLast? with
  | some x => x.seq
  | none => 0xFFFFFFFF

/-- The pins as read (R260). -/
def domPins (s : State) : Nat :=
  s.dom.en.toNat * 16 + b2n s.sqdo * 8 + b2n s.dom.sqdi * 4 + b2n s.squo * 2 + b2n s.dom.squi

/-- The domain status record (R260). -/
def domRecord (s : State) : List Byte :=
  [byte s.dom.st.code, byte s.dom.role] ++ le16 s.dom.word ++ [byte (s.dom.cur.getD 0xFF), byte (domPins s)] ++
    le16 s.dom.slotQual.toNat ++ le32 (newestSeq s) ++ [0, 0, 0, 0] ++ s.rails.toList.map (fun x => byte x.chatter) ++
    leBytes 8 ((upto 48).foldl (fun a r => a + b2n (s.rail r).pgRaw * 2 ^ r) 0)

/-- DOMAIN_STATUS (R255, R260). -/
def domainStatusOp : OpSpec where
  op := 0x0708
  v := 2
  plen := .fixed 0
  run := fun _ s => done s (domRecord s)

/-- SEQ_SLOT_SET. -/
def execSeqSlotSet (q : Req) (s : State) : Host.Outcome State Fault Refusal := runOp seqSlotSetOp q s
/-- DOMAIN_UP. -/
def execDomainUp (q : Req) (s : State) : Host.Outcome State Fault Refusal := runOp domainUpOp q s
/-- DOMAIN_DOWN. -/
def execDomainDown (q : Req) (s : State) : Host.Outcome State Fault Refusal := runOp domainDownOp q s
/-- LATCH_RELEASE. -/
def execLatchRelease (q : Req) (s : State) : Host.Outcome State Fault Refusal := runOp latchReleaseOp q s
/-- DOMAIN_CONFIG. -/
def execDomainConfig (q : Req) (s : State) : Host.Outcome State Fault Refusal := runOp domainConfigOp q s
/-- DOMAIN_STATUS. -/
def execDomainStatus (q : Req) (s : State) : Host.Outcome State Fault Refusal := runOp domainStatusOp q s

end Sys2Proof.Machine
end

