-- ==== Sys2Proof/Machine/Supervisor.lean ====
section
/-! DEFINITION. The supervisor converter, its judgements and cross-check, and the pressing log (chapter 08, R207, R209, R273). -/

namespace Sys2Proof.Machine

/-! ## Windows and judgements -/

/-- The window of a rail's input at a sense voltage code of 1 mV: the margins about the reference, which is the start target while the rail
is OFF or LATCHED_OFF (R203, R247). -/
def railWindow (x : Rail) (i : SupIn) (code : Nat) : Bool :=
  let now := if x.st.runs then x.prot.vNow else x.sp.start * 65536
  let prev := if x.st.runs then x.prot.vPrev else x.sp.start * 65536
  decide (min now prev ≤ (code + min 1000 i.lo) * 131072) && decide (code * 131072 ≤ max now prev + min 1000 i.hi * 131072)

/-- The sense voltage of a code lies inside the rail's declared regulation window, from the UV threshold to the OV threshold (R203). -/
def regWindow (x : Rail) (code : Nat) : Bool := decide (4 * x.uvInForce ≤ code) && decide (code ≤ 4 * x.ovInForce)

/-- A code lies inside the window of its input; inputs 60-63 are never judged (R246, R247). -/
def inWindow (s : State) (k code : Nat) : Bool :=
  let i := s.sup.inputs[Fin.ofNat 64 k]
  if k < 48 then railWindow (s.rail k) i code else if k < 60 then decide (i.lo ≤ code) && decide (code ≤ i.hi) else true

/-- One input of the supervisor changed. -/
def modInput (k : Fin 64) (f : SupIn → SupIn) (s : State) : State :=
  { s with sup := { s.sup with inputs := upd s.sup.inputs k (f s.sup.inputs[k]) } }

/-- A judgement on an input whose action is FAULT: a fault on a running rail; while FALLING no rail is
there to confine it to, and the run continues (R238, R243, R248). (DEDUCED 35, unsafe.) -/
def inputFault (k : Nat) (s : State) : State :=
  if s.dom.st = .falling then capture 5 (0x80 + k) (seqSet 0x2 s) else faultRun (0x80 + k) s

/-- What a judgement does, by the input and its action (R248). -/
def judge (k : Fin 64) (s : State) : State :=
  if k.val < 48 then
    if (s.rail k.val).supervised then railFault k.val false s else s
  else
    match s.sup.inputs[k].act with
    | 1 => inputFault k.val s
    | 2 => s
    | _ => pulse 454 (capture 7 k.val s)

/-- SUPERVISOR_JUDGEMENT: a sample outside the window of its input completes JUDGE_N consecutive ones; a judged input is judged again only
after its return (R246, R248, R467). -/
def execSupervisorJudgement (k : Fin 64) (code : Nat) (s : State) : Host.Outcome State Fault Refusal :=
  .next (if 60 ≤ k.val ∨ s.converts = false ∨ s.sup.inputs[k].judged ∨ inWindow s k.val (min 4095 code) ∨ s.sup.inputs[k].outCnt + 1 < s.sup.judgeN then s
    else
      let s1 := modInput k (fun i => { i with code := min 4095 code, judged := true, inCnt := 0, outCnt := 0 }) s
      judge k (if h : k.val < 48 then pgChange ⟨k.val, h⟩ (fun x => { x with supIn := false }) s1 else s1))

/-! ## The end of a scan -/

/-- An input after its sample of a scan (R246, R248). -/
def SupIn.sample (i : SupIn) (code judgeN : Nat) (inside : Bool) : SupIn :=
  let n := if inside then i.inCnt + 1 else 0
  let back := i.judged && decide (judgeN ≤ n)
  { i with code := min 4095 code, judged := i.judged && !back, inCnt := if i.judged && !back then n else 0
           outCnt := if inside || i.judged then 0 else min 8 (i.outCnt + 1) }

/-- One condition of PG_RAW fails or holds again; a supervisor sample is judged by the window (R233, R247). -/
def Rail.pgCond (c : PgCause) (fails : Bool) (x : Rail) : Rail :=
  match c with
  | .ov => { x with prot := { x.prot with ovNow := fails } }
  | .uv => { x with prot := { x.prot with uvNow := fails } }
  | .supervisor _ => { x with supIn := !fails }

/-- The sample that a change of PG_RAW comes from is the input's most recent one, and lies on the side of the window it says; the other
causes need no sample (R233, R246). -/
def pgSample (r : Fin 48) (c : PgCause) (fails : Bool) (s : State) : Option State :=
  match c with
  | .supervisor code =>
    if inWindow s r.val (min 4095 code) = fails ∨ s.converts = false then none
    else some (modInput (Fin.ofNat 64 r.val) (fun i => { i with code := min 4095 code }) s)
  | _ => some s

/-- PG_FALL: a condition of PG_RAW fails; a fall of PG_RAW is counted (R233, R234). -/
def execPgFall (r : Fin 48) (c : PgCause) (s : State) : Host.Outcome State Fault Refusal :=
  .next (match pgSample r c true s with
    | some t => pgChange r (Rail.pgCond c true) t
    | none => s)

/-- PG_RAW_RISE: a condition of PG_RAW holds again (R233, R234). -/
def execPgRawRise (r : Fin 48) (c : PgCause) (s : State) : Host.Outcome State Fault Refusal :=
  .next (match pgSample r c false s with
    | some t => pgChange r (Rail.pgCond c false) t
    | none => s)

/-- Whether the sample that a scan took of a rail lies inside its window. A rail that slews moves its window within the scan, by no more
than its rate makes in 64 µs: a code that lies inside, or outside, of every window that may have stood then is so judged, and one
between is free (R127, R233, R247). (DESIGN CHOICE 127, safe.) -/
def scanInside (s : State) (r code : Nat) : Bool :=
  let x := s.rail r
  let d := refStep x.sp.slew 6400
  let at_ (now prev : Nat) : Bool := railWindow { x with prot := { x.prot with vNow := now, vPrev := prev } } s.sup.inputs[Fin.ofNat 64 r] code
  let hi := max x.prot.vNow x.prot.vPrev + d
  let lo := min x.prot.vNow x.prot.vPrev - d
  if x.st ≠ .slewing then inWindow s r code
  else if at_ hi hi && at_ lo lo then true
  else if at_ hi lo = false then false
  else Config.freeBool (s.free + r)

/-- The samples of a scan: every input's code, the return of judged inputs to their windows, and of
every rail whether its sample lies inside (R233, R246, R248). (DESIGN CHOICE 127, safe.) -/
def takeSamples (codes : List Nat) (s : State) : State :=
  let codeOf (k : Nat) : Nat := if 60 ≤ k then 0 else min 4095 (codes.getD k (s.sup.inputs[Fin.ofNat 64 k]).code)
  let s1 := { s with sup := { s.sup with
    inputs := mapIdx s.sup.inputs (fun k i => i.sample (codeOf k) s.sup.judgeN (inWindow s k (codeOf k))) } }
  (upto 48).foldl (fun t r => pgChange (fin48 r) (fun x => { x with supIn := scanInside s r (codeOf r) }) t) { s1 with free := s1.free + 48 }

/-- AUTO_CLR: a trip clears where the sense voltage lies inside the declared regulation window and its comparator is released (R203,
R207). -/
def autoClear (r : Nat) (s : State) : State :=
  let x := s.rail r
  if x.prot.autoClr ∧ regWindow x (s.sup.inputs[Fin.ofNat 64 r]).code then
    clearProt r (b2n (x.prot.ovTrip && !x.prot.ovNow) * 4 + b2n (x.prot.uvTrip && !x.prot.uvNow) * 8) s
  else s

/-- Scale of an input, in 0.1 mV per code (R246). -/
def supScale (k : Nat) : Nat :=
  if k < 48 then 10 else [100, 20, 100, 50, 10, 10, 10, 20, 20, 100, 100, 10].getD (k - 48) 0

/-- Unit of the corresponding telemetry channel, in 0.1 mV (R263, R273). -/
def chanScale (k : Nat) : Nat := if k = 48 ∨ k = 50 ∨ k = 51 ∨ k = 57 ∨ k = 58 then 10 else 1

/-- The two readings differ by more than the larger of 20 mV and 2 % of the telemetry reading (R209). -/
def crossFails (k code : Nat) (reading : Int) : Bool :=
  let tele := reading * (chanScale k : Int)
  let d := ((code * supScale k : Nat) - tele : Int).natAbs
  decide (200 < d) && decide (tele.natAbs < 50 * d)

/-- The cross-check of one input (R209). (DEDUCED 39, unsafe.) -/
def crossCheck (k : Nat) (reading : Int) (s : State) : State :=
  if crossFails k (s.sup.inputs[Fin.ofNat 64 k]).code reading then
    if k < 48 then
      capture 8 k (pgEvent k (modRail s (fin48 k) (fun x => { x with prot := { x.prot with supXchk := true } })))
    else capture 8 (0x80 + k) (seqSet 0x1000 s)
  else s

/-- A scan in which no input could be compared (R273, R279): a count of R279 that leaves 0 raises its
event. (DEDUCED 39, unsafe.) -/
def skipScan (s : State) : State :=
  pulseIf (decide (s.tlm.xchkSkips = 0)) 552 { s with tlm := { s.tlm with xchkSkips := satInc 65535 s.tlm.xchkSkips } }

/-- One input record written; the judgement history of its input is cleared (R256). -/
def supRecord (s : State) (x : Nat × Nat × Nat × Nat) : State :=
  modInput (Fin.ofNat 64 x.1) (fun i =>
    { i with lo := x.2.1, hi := x.2.2.1, act := if x.1 < 48 then i.act else x.2.2.2, inCnt := 0, outCnt := 0, judged := false }) s

/-- A SUPERVISOR_CONFIG takes effect at the start of the next scan (R256). -/
def takeSupConfig (s : State) : State :=
  match s.sup.cfgNext with
  | some (n, recs) =>
    let t := recs.foldl supRecord s
    { t with sup := { t.sup with judgeN := n, cfgNext := none } }
  | none => s

/-- A host sequence names the system converter in CONV (R273). -/
def convShared (s : State) : Bool := s.tlm.seqs.toList.any (fun x => natBit x.conv s.tlm.sysConv)

/-- The input compared in a scan: the pointer's, or, where a host sequence shares the system converter, one that follows it in the same
scan, or none (R273). -/
def crossMay (s : State) (k : Option Nat) : Bool :=
  match k with
  | some k => decide (k = s.sup.xptr) || (convShared s && decide (s.sup.xptr < k))
  | none => convShared s

/-- SUPERVISOR_SCAN_END: the codes of the scan, and the telemetry reading, in its channel's unit, of
the input that was compared, none where none could be; a comparison that R273 does not make has no effect (R207, R209, R246, R256,
R273). (DEDUCED 39, unsafe.) -/
def execSupervisorScanEnd (codes : List Nat) (cross : Option (Fin 60 × Int)) (s : State) : Host.Outcome State Fault Refusal :=
  let s1 := takeSamples codes s
  let s2 := (upto 48).foldl (fun t r => autoClear r t) s1
  let s3 :=
    if s.proto.running ∧ crossMay s (cross.map (fun x => x.1.val)) then
      match cross with
      | some (k, reading) =>
        let ch := if k.val < 48 then k.val else 0xC0 + (k.val - 48)
        crossCheck k.val (spanOf ch reading).1 (holdSystem ch reading s2)
      | none => skipScan s2
    else s2
  .next (if s.converts then takeSupConfig { s3 with sup := { s3.sup with xptr := (s3.sup.xptr + 1) % 60 } } else s)

/-! ## Pressings -/

/-- The 512 bytes of a pressing (R252). -/
def Pressing.bytes (p : Pressing) : List Byte :=
  let z4 : List Byte := [0, 0, 0, 0]
  let head := le32 p.seq ++ p.time ++ [byte p.cause, byte p.index, byte p.dom, byte p.flags] ++ le16 p.addr ++
    [byte p.slot, 0] ++ le32 p.land ++ le16 p.clk ++ le16 p.seqFlags ++ z4
  let body := head ++ p.inputs.flatMap le16 ++ p.currents.flatMap (fun i => le32 (toCode 32 i)) ++ p.rails.map byte ++
    p.prots.flatMap le16 ++ le16 p.hiTemp.toNat ++ [byte p.hiCell] ++ List.replicate 9 0
  body ++ le32 (crc32 body)

/-- PRESSING_WRITE: the oldest buffer goes to the log; from a full log the oldest 128 records are erased together (R251). -/
def execPressingWrite (s : State) : Host.Outcome State Fault Refusal :=
  .next (match s.sup.bufs with
    | p :: rest =>
      if s.proto.running then
        let log := if s.sup.log.length < 4096 then s.sup.log else s.sup.log.drop 128
        pulse 455 { s with sup := { s.sup with bufs := rest, log := log ++ [p] } }
      else s
    | [] => s)

/-- PRESSING_READ (R251, R255, R366). (DEDUCED 40, safe.) -/
def pressingReadOp : OpSpec where
  op := 0x0705
  plen := .fixed 8
  big := fun _ => some 264
  run := fun q s =>
    let want := fieldAt q.params 0 4
    let t := if natBit (byteAt q.params 4) 1 then capture 0x0F 0 s else s
    let seq := if want = 0xFFFFFFFF then newestSeq t else want
    match (pressings t).find? (fun p => decide (p.seq = seq)), (pressings t).head? with
    | some p, some o =>
      done t (le32 o.seq ++ le32 (newestSeq t) ++ (p.bytes.drop (b2n (natBit (byteAt q.params 4) 0) * 256)).take 256)
    | _, _ => absent t 0xFFFF

/-- The input records of SUPERVISOR_CONFIG: input, LO, HI, action (R255). -/
def supRecords (p : List Byte) : List (Nat × Nat × Nat × Nat) :=
  (upto (byteAt p 2)).map (fun j =>
    (byteAt p 1 + j, fieldAt p (4 + 8 * j) 2, fieldAt p (6 + 8 * j) 2, byteAt p (8 + 8 * j)))

/-- Inputs within 64 (R255, R364). -/
def supBad (_ : Nat) (p : List Byte) : Option Nat :=
  (firstBad p [{ off := 1, hi := 63 }, { off := 2, lo := 1, hi := 48 }]).or (if 64 < byteAt p 1 + byteAt p 2 then some 2 else none)

/-- SUPERVISOR_CONFIG (R255, R256): in force from the next scan. -/
def supervisorConfigOp : OpSpec where
  op := 0x0706
  sh := false
  app := true
  plen := .counted 4 8 2
  bad := supBad
  run := fun q s =>
    let old := match s.sup.cfgNext with
      | some (_, l) => l
      | none => []
    done0 { s with sup := { s.sup with cfgNext := some (clampNat 1 8 (byteAt q.params 0), old ++ supRecords q.params) } }

/-- PRESSING_READ. -/
def execPressingRead (q : Req) (s : State) : Host.Outcome State Fault Refusal := runOp pressingReadOp q s
/-- SUPERVISOR_CONFIG. -/
def execSupervisorConfig (q : Req) (s : State) : Host.Outcome State Fault Refusal := runOp supervisorConfigOp q s

end Sys2Proof.Machine
end

