-- ==== Sys2Proof/Machine/Telemetry.lean ====
section
/-! DEFINITION. The telemetry converters: sequences, timers, streams and readings (chapter 09). -/

namespace Sys2Proof.Machine

/-! ## Records -/

/-- COUNT as it acts: 1-16 (R265). -/
def TSeq.entriesN (x : TSeq) : Nat := clampNat 1 16 x.count

/-- The channel of entry `i` (R265). -/
def TSeq.channel (x : TSeq) (i : Nat) : Nat := (x.entries.getD i (0, 0)).1

/-- A sequence record's fields, written from its 48 bytes; the PWM event now named has not yet failed to occur (R265, R275). -/
def TSeq.write (b : List Byte) (x : TSeq) : TSeq :=
  { x with
    conv := byteAt b 0 % 16, urgent := natBit (byteAt b 1) 0, single := natBit (byteAt b 1) 1, kind := byteAt b 2
    trig := byteAt b 3, evt := byteAt b 4, q := byteAt b 5, decim := byteAt b 6, count := byteAt b 7, delay := fieldAt b 8 2
    entries := (upto 16).map (fun i => (fieldAt b (0x10 + 2 * i) 2 % 1024, fieldAt b (0x10 + 2 * i) 2 / 1024 % 8))
    noEvent := false }

/-- Objects that a TSEQ_SET names: its target, and the TRIG_SRC of a record under its TRIG_KIND (R278, R364). -/
def tseqBad (_ : Nat) (p : List Byte) : Option Nat :=
  let t := byteAt p 0
  if t ≤ 7 then
    match byteAt p 6 with
    | 1 => firstBad p [{ off := 7, hi := 7 }]
    | 2 => firstBad p [{ off := 7, hi := 47 }]
    | 3 => firstBad p [{ off := 7, hi := 7 }]
    | _ => none
  else if (0x80 ≤ t ∧ t ≤ 0x87) ∨ t = 0xF0 then none
  else some 0

/-- A timer record as it acts: PERIOD at least 50, OFFSET modulo PERIOD (R267). -/
def timerOf (b : List Byte) : Nat × Nat := (max 50 (fieldAt b 0 4), fieldAt b 4 4 % max 50 (fieldAt b 0 4))

/-- TSEQ_SET (R265, R267, R272, R278, R280). A SYS_CONV above 3 names no converter: the one used is a
free value. (DESIGN CHOICE 41, safe.) (DESIGN CHOICE 43, safe.) -/
def tseqSetOp : OpSpec where
  op := 0x0801
  app := true
  plen := .target
  bad := tseqBad
  run := fun q s =>
    let p := q.params
    let t := byteAt p 0
    if t ≤ 7 then
      let k : Fin 8 := Fin.ofNat 8 t
      if s.tlm.seqs[k].running then refuse s 5 1 t else done0 (modSeq k (TSeq.write (p.drop 4)) s)
    else if t < 0xF0 then
      done0 { s with tlm := { s.tlm with timers := upd s.tlm.timers (Fin.ofNat 8 t) (timerOf (p.drop 4)) } }
    else
      done0 (bump { s with tlm := { s.tlm with
        sysOld := s.tlm.sysConv, sysConv := if byteAt p 4 ≤ 3 then byteAt p 4 else Config.freeNat s.free % 4 } })

/-- The entries of a list at the places given, changed. -/
def mapWhere {α : Type} (places : List Nat) (l : List α) (f : Nat → α → α) : List α :=
  listMapIdx (fun i z => if places.contains i then f i z else z) 0 l

/-! ## Triggers -/

/-- TSEQ_START (R269, R270, R280). (DEDUCED 44, unsafe.) -/
def tseqStartOp : OpSpec where
  op := 0x0802
  plen := .fixed 1
  bad := fun _ p => firstBad p [{ off := 0, hi := 7 }]
  run := fun q s =>
    let k : Fin 8 := Fin.ofNat 8 (byteAt q.params 0)
    let x := s.tlm.seqs[k]
    if x.running then refuse s 5 1 k.val
    else
      let s1 := modSeq k (fun y => { y with running := true, dec := 0, run := 0 }) s
      if x.kindN = 0 then started (bump (trigger k (fabricNow s) s1))
      else if x.single then started s1
      else done0 s1

/-- TSEQ_STOP: a conversion already sampling completes; a run that is delayed or waiting is discarded (R280, R281). -/
def tseqStopOp : OpSpec where
  op := 0x0803
  plen := .fixed 1
  bad := fun _ p => firstBad p [{ off := 0, hi := 7 }]
  run := fun q s =>
    done0 (modSeq (Fin.ofNat 8 (byteAt q.params 0))
      (fun y => { y with running := false, delayed := false, waiting := false, stopping := y.stopping || y.converting }) s)

/-- TIMER_FIRE: at the fabric tick count given, which is OFFSET modulo PERIOD, the timer triggers the running sequences that name it
(R267, R269). (DESIGN CHOICE 130, safe.) -/
def execTimerFire (k : TimerInstant) (s : State) : Host.Outcome State Fault Refusal :=
  .next (if k.tick % s.tlm.timers[k.timer].1 = s.tlm.timers[k.timer].2 then
      (List.finRange 8).foldl (fun t q =>
        if t.tlm.seqs[q].kindN = 1 ∧ t.tlm.seqs[q].trig = k.timer.val then trigger q k.tick t else t) s
    else s)

/-- P_eff of a rail (R138). -/
def railPEff (x : Rail) : Nat := min x.ph.pol.posMax x.ph.a

/-- The PWM event a sequence names can occur: its rail switches, and Q lies below P_eff (R268). -/
def pwmOccurs (s : State) (x : TSeq) : Bool := railSwitching s x.trig && decide (x.q < railPEff (s.rail x.trig))

/-- SEQUENCE_TRIGGER: the PWM event that a running sequence names, at the fabric tick count given; where it cannot occur NO_EVENT is set.
A frame start has triggered its sequences at its own strobe or prediction (R268, R269). (DESIGN CHOICE 130, safe.) -/
def execSequenceTrigger (q : SeqInstant) (s : State) : Host.Outcome State Fault Refusal :=
  .next (if s.tlm.seqs[q.seq].kindN ≠ 2 then s
    else if pwmOccurs s s.tlm.seqs[q.seq] then trigger q.seq q.tick (modSeq q.seq (fun y => { y with noEvent := false }) s)
    else modSeq q.seq (fun y => { y with noEvent := true }) s)

/-- NO_EVENT: the PWM event named has not occurred for 10 µs (R268, R275). -/
def execNoEvent (q : Fin 8) (s : State) : Host.Outcome State Fault Refusal :=
  .next (if s.tlm.seqs[q].kindN = 2 then modSeq q (fun y => { y with noEvent := true }) s else s)

/-! ## Runs -/

/-- What a derived channel reads: a die reading, a rail current in 10 mA, or a cell current in mA (R263, R264). -/
def derivedValue (s : State) (ch : Nat) : Int :=
  if ch < 0x100 then (s.therm.die[Fin.ofNat 16 ch]).toInt
  else if ch < 0x300 then tenMa (s.railMa (ch - 0x200))
  else (s.cell (ch - 0x300)).mirCurrent

/-- Converters named in CONV, ascending (R266). -/
def TSeq.convs (x : TSeq) : List Nat := (upto 4).filter (natBit x.conv)

/-- Converters that some row of the run uses for a converted entry (R266, R271). (DESIGN CHOICE 42,
unsafe.) -/
def TSeq.needs (x : TSeq) : List Nat :=
  let g := x.convs.length
  x.convs.filter (fun k => (upto x.entriesN).any (fun i => decide (x.convs.getD (i % g) 4 = k) && !derivedChannel (x.channel i)))

/-- The entries of a row (R266). -/
def TSeq.rowEntries (x : TSeq) (j : Nat) : List Nat :=
  (upto x.convs.length).filterMap (fun k => if x.convs.length * j + k < x.entriesN then some (x.convs.length * j + k) else none)

/-- Rows of a run (R266). -/
def TSeq.rows (x : TSeq) : Nat := if x.convs = [] then 1 else ceilDiv x.entriesN x.convs.length

/-- Conversions of an entry: 2^AVG for a converted one (R266). -/
def TSeq.convsOf (x : TSeq) (i : Nat) : Nat := if derivedChannel (x.channel i) then 0 else 2 ^ (x.entries.getD i (0, 0)).2

/-- Conversions that a row lasts: those of its longest entry; a row of derived entries alone lasts none, but the last row of a run lasts
until its results are due, 500 ns after it (R266, R274). -/
def TSeq.rowSteps (x : TSeq) (j : Nat) : Nat :=
  ((x.rowEntries j).map x.convsOf).foldl max (if j + 1 < x.rows then 0 else 1)

/-- A row samples: its derived entries are read now, and a row without conversions is followed by the next (R263, R266). -/
def beginRow (q : Fin 8) : Nat → Nat → State → State
  | 0, _, s => s
  | n + 1, j, s =>
    let s1 := modSeq q (fun y => { y with row := j, step := 0, sums := mapWhere (y.rowEntries j) y.sums (fun i z =>
      if derivedChannel (y.channel i) then (derivedValue s (y.channel i), false) else z) }) s
    if s.tlm.seqs[q].rowSteps j = 0 then beginRow q n (j + 1) s1 else s1

/-- No request of the manager occupies converter `k`: no temperature reading and no pre-start measurement is in progress on it; whether one
whose conversion has no row of its own does, a cross-check, a threshold readback or a READ_CHANNEL, is free where it is the system
converter (R271, R272). (DESIGN CHOICE 43, safe.) -/
def systemFree (s : State) (k : Nat) : Bool :=
  !tempOn k s.therm.queue && !s.rails.toList.any (fun x => x.measuring && decide (x.measOn = k)) &&
    ((decide (s.tlm.sysConv ≠ k) && decide (s.tlm.sysOld ≠ k)) || Config.freeBool s.free)

/-- The converters are free. Those that a host run has left at this instant are not occupied by a
request of the manager, which has yet to be served (R271, R272). (DESIGN CHOICE 43, safe.) -/
def convFree (s : State) (left ks : List Nat) : Bool :=
  ks.all (fun k => (s.tlm.busy[Fin.ofNat 4 k]).isNone && (left.contains k || systemFree s k))

/-- A run starts: it occupies its converters, and LATE counts a run that had to wait (R271, R274, R275). -/
def startRun (q : Fin 8) (tick : Nat) (s : State) : State :=
  let x := s.tlm.seqs[q]
  let s1 := modSeq q (fun y =>
    { y with delayed := false, waiting := false, converting := true, lateNow := y.waiting, stampNow := tick % 2 ^ 32
             sums := List.replicate 16 (0, false), lates := if y.waiting then satInc 65535 y.lates else y.lates }) s
  let s2 := { s1 with tlm := { s1.tlm with busy := mapIdx s1.tlm.busy (fun k b => if x.needs.contains k then some q.val else b) } }
  bump (beginRow q 17 0 (if x.waiting then countEvent x.lates s2 else s2))

/-- A run that cannot start is dropped when urgent, and waits otherwise. A command-triggered sequence
whose run is dropped returns to STOPPED (R270, R271). (DEDUCED 44, unsafe.) -/
def tryRun (left : List Nat) (q : Fin 8) (tick : Nat) (s : State) : State :=
  let x := s.tlm.seqs[q]
  if convFree s left x.needs then startRun q tick s
  else if x.urgent then
    bump (countEvent x.urgentDrops (modSeq q (fun y =>
      { y with delayed := false, running := y.running && decide (y.kindN ≠ 0), urgentDrops := satInc 65535 y.urgentDrops }) s))
  else bump (modSeq q (fun y => { y with delayed := false, waiting := true }) s)

/-- A run of a sequence is delayed, and its first sampling instant has come (R269). -/
def TSeq.due (x : TSeq) (tick : Nat) : Bool := x.delayed && decide (x.dueAt ≤ tick)

/-- The sampling instant `tick` for the urgent runs that are due, in ascending sequence number; they come before the requests that wait for
converters left now (R271). -/
def serveUrgent (left : List Nat) (tick : Nat) (s : State) : State :=
  (List.finRange 8).foldl (fun t q => if t.tlm.seqs[q].due tick ∧ t.tlm.seqs[q].urgent then tryRun left q tick t else t) s

/-- The sampling instant `tick` for the runs that wait and those that are due, in ascending sequence number. A run that waits for several
converters keeps its place by its number alone, and starts once all of them are free (R271). (DEDUCED 132, unsafe.) -/
def serveRuns (tick : Nat) (s : State) : State :=
  (List.finRange 8).foldl (fun t q =>
    if t.tlm.seqs[q].waiting then (if convFree t [] t.tlm.seqs[q].needs then startRun q tick t else bump t)
    else if t.tlm.seqs[q].due tick then tryRun [] q tick t else t) s

/-- RUN_START: the first sampling instant of a delayed run, or an instant at which a waiting run finds a system request ended (R269,
R271). (DESIGN CHOICE 130, safe.) -/
def execRunStart (q : SeqInstant) (s : State) : Host.Outcome State Fault Refusal :=
  .next (if s.tlm.seqs[q.seq].due q.tick || s.tlm.seqs[q.seq].waiting then serveRuns q.tick (serveUrgent [] q.tick s) else s)

/-! ## Streams -/

/-- Frames of a stream that await transmission on some port (R277). -/
def streamWaiting (s : State) (k : Fin 4) : Nat :=
  let of (p : PortSt) : List Nat :=
    ((p.queue ++ p.sending.toList).filter (fun f => decide (f.stream = some k))).map (fun f => f.frame.seq)
  ((of s.seam.a ++ of s.seam.b).dedup).length

/-- Some link is UP that carries TELEMETRY frames, and the module has an address (R277, R425, R426). -/
def streamReachable (s : State) : Bool :=
  let up (p : PortSt) : Bool := decide (p.link = .up) && decide (p.ver ≠ 1)
  s.seam.addr.isSome && (up s.seam.a || up s.seam.b)

/-- RECS as it acts for records of COUNT results (R276). -/
def recsN (x : Stream) (count : Nat) : Nat :=
  let m := 500 / (4 + 4 * count)
  if x.recs = 0 ∨ m < x.recs then m else x.recs

/-- One stream changed. -/
def modStream (k : Fin 4) (f : Stream → Stream) (s : State) : State :=
  { s with tlm := { s.tlm with streams := upd s.tlm.streams k (f s.tlm.streams[k]) } }

/-- The payload of a stream frame (R276). -/
def streamPayload (k : Nat) (x : Stream) : List Byte :=
  let z : List Byte := [0, 0, 0, 0]
  [byte k, byte x.seq, byte x.part.length, byte (b2n x.gap)] ++ le32 x.firstRun ++ z ++
    x.part.flatMap (fun r => le32 r.1 ++ r.2.flatMap (fun i => le32 (toCode 32 i)))

/-- A completed frame is sent, or dropped while two frames await transmission or its destination cannot be reached; GAP also tells of a
frame that a port has lost since (R276, R277). (DEDUCED 131, unsafe.) -/
def sendStream (k : Fin 4) (s : State) : State :=
  let x := s.tlm.streams[k]
  if 2 ≤ streamWaiting s k ∨ streamReachable s = false then
    countEvent x.drops (modStream k (fun y => { y with part := [], gap := true, drops := satInc 65535 y.drops }) s)
  else
    let s1 := modStream k (fun y => { y with part := [], gap := false }) s
    let full := { x with gap := x.gap || s.seam.gaps.getLsbD k.val }
    let clear := { s1.seam with gaps := s1.seam.gaps &&& ~~~ BitVec.ofNat 4 (2 ^ k.val) }
    { s1 with seam := clear.originate 5 (if x.bcast then 1 else 0) x.dest 0 (streamPayload k.val full) none (some k) }

/-- A completed run reaches a stream: every SDECIM-th becomes a record (R276). Records of a frame in the making stay in it when TSEQ_SET
changes COUNT of the stopped sequence, so that one frame may hold records of two sizes. (DESIGN CHOICE 165, unsafe.) -/
def feedStream (q : Fin 8) (k : Fin 4) (s : State) : State :=
  let x := s.tlm.streams[k]
  let r := s.tlm.seqs[q]
  if x.enable = false ∨ x.seq ≠ q.val then s
  else
    let n := if x.sdecim = 0 then 256 else x.sdecim
    if x.cnt + 1 < n then modStream k (fun y => { y with cnt := y.cnt + 1 }) s
    else
      let s1 := modStream k (fun y =>
        { y with cnt := 0, firstRun := if y.part.isEmpty then r.run else y.firstRun, part := y.part ++ [(r.stamp, r.results)] }) s
      if recsN x r.entriesN ≤ x.part.length + 1 then sendStream k s1 else s1

/-- STREAM_CONFIG: an enabled stream ends at once, and the next frame carries GAP (R276, R278, R281). -/
def streamConfigOp : OpSpec where
  op := 0x0806
  app := true
  plen := .fixed 8
  bad := fun _ p => firstBad p [{ off := 0, hi := 3 }, { off := 2, hi := 7 }]
  run := fun q s =>
    let p := q.params
    done0 (modStream (Fin.ofNat 4 (byteAt p 0)) (fun y =>
      { y with enable := natBit (byteAt p 1) 0, bcast := natBit (byteAt p 1) 1, seq := byteAt p 2, sdecim := byteAt p 3
               recs := byteAt p 4, dest := fieldAt p 6 2 % 4096, cnt := 0, part := [], gap := y.gap || y.enable }) s)

/-! ## Completion -/

/-- The results of a run: each converted entry the mean of its conversions, rounded to nearest, the derived ones as they
were read, and zero where CONV names no converter (R263, R264, R266). (DESIGN CHOICE 42, unsafe.) -/
def runResults (x : TSeq) : List (Int × Bool) :=
  (upto x.entriesN).map (fun i =>
    let z := x.sums.getD i (0, false)
    if x.convs = [] then (0, false) else if derivedChannel (x.channel i) then z else (roundDiv z.1 (x.convsOf i), z.2))

/-- Every result of a run becomes the newest of its channel (R282). (DESIGN CHOICE 45, unsafe.) -/
def holdRun (q : Nat) (x : TSeq) (t : Tlm) : Tlm :=
  if x.convs = [] then t
  else
    (upto x.entriesN).foldl (fun a i =>
      holdAt (x.channel i) (x.results.getD i 0) x.stamp (b2n (x.noEvent && decide (x.kindN = 2)) * 4 + b2n x.late * 2 + b2n x.sat) q a) t

/-- The conversions of a row that end now join their entries' sums: one of each converter whose entry has conversions left, its code by
its place in the row (R264, R266). -/
def TSeq.convert (codes : List Int) (x : TSeq) : TSeq :=
  let first := x.convs.length * x.row
  { x with step := x.step + 1, sums := mapWhere (x.rowEntries x.row) x.sums (fun i z =>
      if x.step < x.convsOf i then
        let v := spanOf (x.channel i) (codes.getD (i - first) 0)
        (z.1 + v.1, z.2 || v.2)
      else z) }

/-- The run in progress leaves its converters (R271). -/
def freeConvs (q : Fin 8) (s : State) : State :=
  { s with tlm := { s.tlm with busy := mapIdx s.tlm.busy (fun _ b => if b = some q.val then none else b) } }

/-- A run ends: its results replace those of the last; a command-triggered or SINGLE sequence returns to STOPPED with its event, unless
the run began before the present TSEQ_START; streams take the run (R270, R274-R277, R280-R282). -/
def endRunOf (q : Fin 8) (s : State) : State :=
  let x := s.tlm.seqs[q]
  let rs := runResults x
  let once := (decide (x.kindN = 0) || x.single) && !x.stopping
  let s1 := modSeq q (fun y =>
    { y with converting := false, stopping := false, running := y.running && !once, run := (y.run + 1) % 2 ^ 32
             stamp := y.stampNow, late := y.lateNow, sat := rs.any Prod.snd, results := rs.map Prod.fst }) s
  let s2 := freeConvs q { s1 with tlm := holdRun q.val s1.tlm.seqs[q] s1.tlm }
  (List.finRange 4).foldl (fun t k => feedStream q k t) (pulseIf (decide (x.kindN = 0) || x.single) (evt (544 + q.val)) s2)

/-- The 10 bytes of READ_CHANNEL (R278). -/
def channelResult (v : Int) (stamp flags src : Nat) : List Byte :=
  le32 (toCode 32 v) ++ le32 stamp ++ [byte flags, byte src]

/-- A conversion now: the mean of 2^AVG conversions of the quantity, which is a free value (R266, R282). (DESIGN CHOICE 45, unsafe;
PRESUMED 46, safe.) -/
def convertNow (s : State) (ch avg : Nat) : Int × Bool :=
  let vs := (upto (2 ^ avg)).map (fun i => spanOf ch (Config.conversion (s.free + i) ch))
  (roundDiv (vs.map Prod.fst).sum (2 ^ avg), vs.any Prod.snd)

/-- The result of a READ_CHANNEL that converts: held, and given (R272, R282). -/
def readNow (ch avg : Nat) (s : State) : State × List Byte :=
  let v := convertNow s ch avg
  let stamp := fabricNow s % 2 ^ 32
  ({ s with free := s.free + 2 ^ avg, tlm := holdAt ch v.1 stamp (b2n v.2) 0xFE s.tlm }, channelResult v.1 stamp (b2n v.2) 0xFE)

/-- The system requests that wait for their converter are served first once it is free: temperature readings, and a READ_CHANNEL (R271,
R272). -/
def serveSystem (s : State) : State :=
  match s.proto.exec with
  | some (_, .channel ch avg k) =>
    if (s.tlm.busy[Fin.ofNat 4 k]).isNone then
      let r := readNow ch avg s
      complete .done r.2 (serveTemps r.1)
    else serveTemps s
  | _ => serveTemps s

/-- CONVERSION_DONE: the busy window of a run's conversions in progress ends, with their codes. The row goes on, the next row samples, or
the run ends; a stopped run ends with its conversion, and is held only where it is whole. Converters that become free serve the urgent
runs due, the system requests and then the other runs (R262, R266, R271, R274, R281). (DESIGN CHOICE 130, safe.) -/
def execConversionDone (i : SeqInstant) (codes : List Int) (s : State) : Host.Outcome State Fault Refusal :=
  let q := i.seq
  let x := s.tlm.seqs[q]
  let s1 := modSeq q (TSeq.convert codes) s
  let freed (t : State) : State := serveRuns i.tick (serveSystem (serveUrgent x.needs i.tick t))
  .next (if x.converting = false then s
    else if x.rowSteps x.row ≤ x.step + 1 ∧ x.rows ≤ x.row + 1 then freed (endRunOf q s1)
    else if x.stopping then freed (freeConvs q (modSeq q (fun y => { y with converting := false, stopping := false }) s1))
    else if x.rowSteps x.row ≤ x.step + 1 then beginRow q 17 (x.row + 1) s1
    else s1)

/-! ## Reading -/

/-- The result record (R274, R275). -/
def resultRecord (x : TSeq) : List Byte :=
  [byte (b2n x.running), byte (b2n (x.noEvent && decide (x.kindN = 2)) * 4 + b2n x.late * 2 + b2n x.sat), 0, 0] ++ le32 x.run ++ le32 x.stamp ++
    (upto 16).flatMap (fun i => le32 (if i < x.entriesN then toCode 32 (x.results.getD i 0) else 0))

/-- TSEQ_READ (R274). -/
def tseqReadOp : OpSpec where
  op := 0x0807
  v := 2
  plen := .fixed 1
  bad := fun _ p => firstBad p [{ off := 0, hi := 7 }]
  run := fun q s => done s (resultRecord s.tlm.seqs[Fin.ofNat 8 (byteAt q.params 0)])

/-- The drop record (R279). -/
def dropRecord (t : Tlm) : List Byte :=
  t.seqs.toList.flatMap (fun x => le16 x.urgentDrops ++ le16 x.overruns ++ le16 x.lates) ++
    t.streams.toList.flatMap (fun x => le16 x.drops) ++ le16 t.xchkSkips ++ [0, 0]

/-- Every count of the drop record at zero (R279). -/
def Tlm.clearDrops (t : Tlm) : Tlm :=
  { t with seqs := mapIdx t.seqs (fun _ x => { x with urgentDrops := 0, overruns := 0, lates := 0 })
           streams := mapIdx t.streams (fun _ x => { x with drops := 0 }), xchkSkips := 0 }

/-- DROP_COUNTS (R279). -/
def dropCountsOp : OpSpec where
  op := 0x0805
  plen := .fixed 1
  run := fun q s =>
    done (if natBit (byteAt q.params 0) 0 then { s with tlm := s.tlm.clearDrops } else s) (dropRecord s.tlm)

/-- A channel of a RETIRED cell (R66, R392). -/
def retiredChannel (s : State) (ch : Nat) : Bool :=
  ((decide (0x100 ≤ ch) && decide (ch ≤ 0x1FF)) || decide (0x300 ≤ ch)) && decide ((s.cell (ch % 256)).st = .retired)

/-- READ_CHANNEL: in mode 0 a system request, which waits while a host run occupies the system converter (R263, R264, R272, R282,
R392). AVG above 7 is reserved, and acts as 0. (DESIGN CHOICE 45, unsafe; PRESUMED 46, safe; DEDUCED 134, unsafe.) -/
def readChannelOp : OpSpec where
  op := 0x0804
  plen := .fixed 4
  bad := fun _ p => firstBad p [{ off := 0, width := 2, hi := 0x3FF }]
  run := fun q s =>
    let ch := fieldAt q.params 0 2
    let avg := if byteAt q.params 2 ≤ 7 then byteAt q.params 2 else 0
    if retiredChannel s ch then (s, .undef .undefinedRetiredCell)
    else if byteAt q.params 3 = 1 then
      match s.tlm.held.find? (fun x => decide (x.1 = ch)) with
      | some (_, v, stamp, flags, src) => done s (channelResult v stamp flags src)
      | none => absent s 0xFFFF
    else if derivedChannel ch then done (bump s) (channelResult (derivedValue s ch) (fabricNow s % 2 ^ 32) 0 0xFF)
    else if (s.tlm.busy[Fin.ofNat 4 s.tlm.sysConv]).isNone then done (readNow ch avg s).1 (readNow ch avg s).2
    else (s, .defer (.channel ch avg s.tlm.sysConv))

/-- TSEQ_SET. -/
def execTseqSet (q : Req) (s : State) : Host.Outcome State Fault Refusal := runOp tseqSetOp q s
/-- TSEQ_START. -/
def execTseqStart (q : Req) (s : State) : Host.Outcome State Fault Refusal := runOp tseqStartOp q s
/-- TSEQ_STOP. -/
def execTseqStop (q : Req) (s : State) : Host.Outcome State Fault Refusal := runOp tseqStopOp q s
/-- READ_CHANNEL. -/
def execReadChannel (q : Req) (s : State) : Host.Outcome State Fault Refusal := runOp readChannelOp q s
/-- DROP_COUNTS. -/
def execDropCounts (q : Req) (s : State) : Host.Outcome State Fault Refusal := runOp dropCountsOp q s
/-- STREAM_CONFIG. -/
def execStreamConfig (q : Req) (s : State) : Host.Outcome State Fault Refusal := runOp streamConfigOp q s
/-- TSEQ_READ. -/
def execTseqRead (q : Req) (s : State) : Host.Outcome State Fault Refusal := runOp tseqReadOp q s

end Sys2Proof.Machine
end

