-- ==== Sys2Proof/Machine/Holdover.lean ====
section
/-! DEFINITION. The HOLD output, the charge sources and the pack charger (chapter 11). -/

namespace Sys2Proof.Machine

/-! ## The HOLD output -/

/-- The pack is usable (R303, R313). -/
def packUsable (s : State) : Bool :=
  decide (s.chg.nCells ≠ 0) && !s.land.bthOpen && s.chg.psw && !s.chg.exhausted && s.chg.packGood

/-- HOLD may continue on the pack. -/
def packFeeds (s : State) : Bool := s.chg.packOk && packUsable s

/-- The HOLD state as chosen from OFF (R304). -/
def holdChoice (s : State) : HoldSt := if vinUsable s then .onVin else if packFeeds s then .onPack else .lost

/-- HOLD enters a state, with its event, its count and its flags (R304, R306). -/
def setHold (h : HoldSt) (s : State) : State :=
  let old := s.chg.hold
  if old = h then s
  else
    let fed := decide (old = .onVin) || decide (old = .onPack)
    let moved := fed && (decide (h = .onVin) || decide (h = .onPack))
    let s1 := pulse 496 { s with chg := { s.chg with
      hold := h, switchovers := if moved then satInc 0xFFFFFFFF s.chg.switchovers else s.chg.switchovers } }
    if fed && decide (h = .lost) then pwrSet 0x8 s1 else if h = .retry then pwrSet 0x10 s1 else s1

/-- VIN stops being usable: HOLD leaves it (R304). -/
def holdOffVin (s : State) : State := if s.chg.hold = .onVin then setHold (if packFeeds s then .onPack else .lost) s else s

/-- The pack stops being usable, or becomes usable, having not been so before, while VIN is not (R304). -/
def holdOfPack (before s : State) : State :=
  match s.chg.hold with
  | .onPack => if packUsable s then s else setHold .lost s
  | .lost => if packUsable before = false ∧ vinUsable s = false ∧ packFeeds s then setHold .onPack s else s
  | _ => s

/-- HN_SAG: HN has been below 7.0 V for 0.5 µs (R304). -/
def execHnSag (s : State) : Host.Outcome State Fault Refusal := .next (holdOffVin s)

/-- HOLD_RETURN_VIN: VIN has been usable for 10 ms without a break (R304, R305). -/
def execHoldReturnVin (s : State) : Host.Outcome State Fault Refusal :=
  let t : State := { s with land := { s.land with vinOver := false } }
  .next (if vinUsable t ∧ (s.chg.hold = .onPack ∨ s.chg.hold = .lost) then setHold .onVin t else s)

/-- HOLD_SHORT: the output has been below 80 % of V_HOLD for 10 ms (R304, R306). -/
def execHoldShort (s : State) : Host.Outcome State Fault Refusal :=
  .next (if s.chg.hold = .onVin ∨ s.chg.hold = .onPack then setHold .retry s else s)

/-- HOLD_RETRY: 1 s after entry to RETRY, HOLD is chosen as from OFF (R304, R306). -/
def execHoldRetry (s : State) : Host.Outcome State Fault Refusal :=
  .next (if s.chg.hold = .retry then setHold (holdChoice s) s else s)

/-- PACK_EXHAUSTED: on the pack, the mean cell voltage has been below VCUT_MV for 10 ms (R307, R329). -/
def execPackExhausted (s : State) : Host.Outcome State Fault Refusal :=
  .next (if s.chg.hold = .onPack then
      setHold .lost (pulseIf (!s.chg.exhausted) 498 { s with chg := { s.chg with exhausted := true } })
    else s)

/-- The HOLD output's settings written; true when a value acts as the nearer end (R302). -/
def writeHold (b : List Byte) (s : State) : State × Bool :=
  let v := fieldAt b 0 2
  let i := fieldAt b 2 2
  let en := natBit (byteAt b 4) 0
  let s1 := { s with chg := { s.chg with
    vHold := clampNat 1800 5500 v, iHold := clampNat 100 2000 i, enable := en, packOk := natBit (byteAt b 4) 1 } }
  let s2 :=
    if en = false ∨ s.pwr.st = .ship then setHold .off s1
    else if s.chg.hold = .off then setHold (holdChoice s1) s1
    else s1
  (s2, decide (clampNat 1800 5500 v ≠ v) || decide (clampNat 100 2000 i ≠ i))

/-- HOLD_RAIL_SET (R302, R331). -/
def holdRailSetOp : OpSpec where
  op := 0x0A06
  sh := false
  app := true
  plen := .fixed 8
  run := fun q s =>
    let w := writeHold q.params s
    doneOr w.2 w.1 (le16 w.1.chg.vHold ++ [byte w.1.chg.hold.code])

/-! ## Charge currents and phases -/

/-- A phase in which the charger works: QUALIFY, PRECHARGE, FAST, TOPOFF, MAINTAIN. -/
def ChgPh.works (p : ChgPh) : Bool :=
  decide (p = .qualify) || decide (p = .precharge) || decide (p = .fast) || decide (p = .topoff) || decide (p = .maintain)

/-- I_PRE (R314). -/
def Chg.iPre (c : Chg) : Nat := min c.fastI (max 100 (quot c.cap 20).toNat)

/-- I_TOP (R314). -/
def Chg.iTop (c : Chg) : Nat := min c.fastI (quot c.cap 10).toNat

/-- The full-rate current of a phase (R314, R321). -/
def Chg.full (c : Chg) : Nat :=
  match c.ph with
  | .precharge => c.iPre
  | .fast => c.fastI
  | .topoff => c.iTop
  | .maintain => c.maintI
  | _ => 0

/-- The current target of the phase in the temperature window in force (R314, R320). -/
def Chg.target (c : Chg) : Nat :=
  if c.paused then 0
  else if c.reduced then (quot ((c.full * c.redPct : Nat) : Int) 8).toNat else c.full

/-- The end-of-charge detectors restart, held off for 60 s (R308, R317, R318). -/
def Chg.restart (c : Chg) : Chg := { c with volts := [], peak := 0, temps := [], dvOff := max 60 c.dvOff }

/-- The target in force; a change of it in FAST restarts the detectors (R317, R318, R320). (DEDUCED
51, unsafe.) -/
def Chg.retarget (c : Chg) : Chg :=
  let c1 := if c.target ≠ c.tgt ∧ c.ph = .fast then c.restart else c
  { c1 with tgt := c.target }

/-- The charger's current ends: none flows into the pack, and none is limited (R310, R314, R330). (DEDUCED 140, unsafe.) -/
def Chg.off (c : Chg) : Chg := { c with mA := 0, inLim := false }

/-- The charger enters a phase from another one: the counts start from zero; FAST and TOPOFF clear
PACK_EXHAUSTED (R307, R315, R321). (DEDUCED 51, unsafe.) (DEDUCED 140, unsafe.) -/
def Chg.enter (p : ChgPh) (c : Chg) : Chg :=
  let c1 := { c with ph := p, left := .idle, susp := 0, timer := 0, wall := 0, ovSecs := 0, paused := false }
  let c2 :=
    match p with
    | .qualify => ({ c1 with charge := 0, volts := [], fault := 0 }).off
    | .fast => { c1 with peak := 0, temps := [], dvOff := c.dvHold * 10, exhausted := false }
    | .topoff => { c1 with exhausted := false }
    | .idle | .fault => c1.off
    | _ => c1
  c2.retarget

/-- TOPOFF with TOP_MIN 0 passes to MAINTAIN at once (R315). -/
def setPhase (p : ChgPh) (s : State) : State :=
  let s1 := pulse 497 { s with chg := s.chg.enter p }
  let s2 := if p = .topoff ∧ s.chg.topMin = 0 then pulse 497 { s1 with chg := s1.chg.enter .maintain } else s1
  holdOfPack s (if p = .qualify then requestTemp { code := 0x110, chg := true } s2 else s2)

/-- The charger enters FAULT with a cause (R315, R323). -/
def chgFault (cause : Nat) (s : State) : State :=
  let s1 := setPhase .fault s
  { s1 with chg := { s1.chg with fault := cause } }

/-- The charger enters IDLE, when it is not there (R315). -/
def chgIdle (s : State) : State :=
  let s0 := { s with chg := { s.chg with autoDue := false } }
  if s.chg.ph = .idle then s0
  else
    let s1 := setPhase .idle s0
    { s1 with chg := { s1.chg with fault := 0 } }

/-- The BTH reading is none, or older than 2 s (R320). -/
def tempStale (s : State) : Bool :=
  decide (s.chg.bth = 0x8000) ||
    (match s.chg.bthAt with
      | some t => decide (t + 2 * oneSecond < s.hem.ticks)
      | none => true)

/-- The phase the charger is in, or has left for SUSPENDED. -/
def Chg.phaseOf (c : Chg) : ChgPh := if c.ph = .suspended then c.left else c.ph

/-- The suspension cause that holds, the lowest first; 0 when none does. In QUALIFY the temperature is
judged at its end; a charger that has left it for SUSPENDED returns only once no cause holds (R315, R319, R320, R322). (DEDUCED 52,
unsafe.) -/
def suspCause (s : State) (judgeTemp : Bool) : Nat :=
  let c := s.chg
  let windows := decide (c.phaseOf ≠ .maintain) || decide (c.maintI ≠ 0)
  if c.source = .none then 1
  else if judgeTemp = false ∧ c.ph ≠ .suspended then 0
  else if tempStale s then 2
  else if windows && c.suspLo then 3
  else if windows && c.suspHi then 4
  else 0

/-- The charger's phases do not run: it is paused in HIBERNATE, from the moment entry begins, and without power (R301, R467, R472). -/
def chargerStill (s : State) : Bool := s.off || decide (s.pwr.st = .hibernate) || s.pwr.entering

/-- Suspension and return judged, while the phases run (R307, R467, R315, R321, R322): the timer and the wall count continue across a suspension. -/
def judgeSusp (judgeTemp : Bool) (s : State) : State :=
  let cause := suspCause s judgeTemp
  if chargerStill s then s
  else if s.chg.ph = .suspended then
    if cause ≠ 0 then { s with chg := { s.chg with susp := cause } }
    else
      let c : Chg := { s.chg with
        ph := s.chg.left, left := .idle, susp := 0
        exhausted := s.chg.exhausted && decide (s.chg.left ≠ .fast) && decide (s.chg.left ≠ .topoff) }
      let s1 := holdOfPack s (pulse 497 { s with chg := c.retarget })
      if c.ph = .qualify then requestTemp { code := 0x110, chg := true } s1 else s1
  else if s.chg.ph.works ∧ cause ≠ 0 then
    let c : Chg := { s.chg with ph := .suspended, left := s.chg.ph, susp := cause }
    pulse 497 { s with chg := c.off.retarget }
  else s

/-! ## Sources -/

/-- AUXIN may serve: in range with an AUXID code of 1-6, and with no identity only within a NOID_ILIM that is not 0 (R308, R309). -/
def Chg.auxServes (c : Chg) : Bool :=
  c.auxIn && decide (1 ≤ c.auxId) && decide (c.auxId ≤ 6) && (decide (c.auxId ≠ 6) || decide (c.noidIlim ≠ 0))

/-- The charge source: VIN, then AUXIN, then Seam phantom power, of those in range for 100 ms (R308). -/
def chooseSource (s : State) : ChgSource :=
  if s.chg.vinOk && vinUsable s then .vin
  else if s.chg.auxOk && s.chg.auxServes then .auxin
  else if s.chg.seamChg && s.chg.seamOk && (s.chg.phantomIn.1 || s.chg.phantomIn.2) then .seam
  else .none

/-- An AUTO start is due and possible; none is made while the phases do not run, nor made up for (R312, R315, R467). (DESIGN CHOICE
172, unsafe.) -/
def autoStarts (s : State) : Bool :=
  !chargerStill s && s.chg.auto && decide (s.chg.nCells ≠ 0) && decide (s.chg.cap ≠ 0) && !s.land.bthOpen && decide (s.chg.source ≠ .none) &&
    decide (s.chg.ph = .idle)

/-- With VIN below 8.0 V and no charge source in use, nothing feeds the internal bias: everything but
Hem and the HOLD path loses power (R301, R479). (DEDUCED 58, unsafe; DEDUCED 59, unsafe.) -/
def powerCheck (s : State) : State :=
  if s.land.vinLow ∧ s.chg.source = .none ∧ s.pwr.lost = false then
    losePower (stopManager s)
  else s

/-- The source chosen anew: a change restarts the detectors; losing every source suspends; the first source after a full start makes its
AUTO start (R308, R315, R322). Temperatures are judged at the readings. -/
def reselect (s : State) : State :=
  let src := chooseSource s
  if src = s.chg.source then powerCheck s
  else powerCheck (
    let c : Chg := if s.chg.phaseOf = .fast then s.chg.restart else s.chg
    let s1 : State := { s with chg := { c with source := src } }
    if s1.chg.autoDue ∧ src ≠ .none then
      let s2 := { s1 with chg := { s1.chg with autoDue := false } }
      if autoStarts s2 then setPhase .qualify s2 else judgeSusp (s2.chg.ph ≠ .qualify) s2
    else judgeSusp (s1.chg.ph ≠ .qualify) s1)

/-- SOURCE_CHANGE: a source has been in range for 100 ms without a break; of Seam, at the port named (R303, R308). -/
def execSourceChange (e : SourceInRange) (s : State) : Host.Outcome State Fault Refusal :=
  let t : State := { s with land := { s.land with vinOver := false } }
  .next (reselect (match e.source with
    | .vin => { t with chg := { s.chg with vinOk := vinUsable t } }
    | .auxin => { s with chg := { s.chg with auxOk := s.chg.auxServes } }
    | .seam =>
      { s with chg := { s.chg with
        phantomIn := (s.chg.phantomIn.1 || decide (e.port = .a), s.chg.phantomIn.2 || decide (e.port = .b)), seamOk := s.chg.seamChg } }
    | .none => s))

/-- PHANTOM_POWER_LOST (R308). -/
def execPhantomPowerLost (p : Port) (s : State) : Host.Outcome State Fault Refusal :=
  let x := s.chg.phantomIn
  let y := (x.1 && decide (p ≠ .a), x.2 && decide (p ≠ .b))
  .next (reselect { s with chg := { s.chg with phantomIn := y, seamOk := s.chg.seamOk && (y.1 || y.2) } })

/-- AUXIN_RANGE: AUXIN enters its range, or leaves it; having left, it is absent, or present and out
of range (R16, R25, R309). (DEDUCED 47, safe.) -/
def execAuxinRange (c : AuxCond) (s : State) : Host.Outcome State Fault Refusal :=
  let inside := decide (c = .inRange)
  let out := decide (c = .outOfRange)
  let s1 := { s with
    land := { s.land with auxRange := out }
    chg := { s.chg with auxIn := inside, auxPresent := inside || out, auxOk := s.chg.auxOk && inside
                        auxId := if inside || out then s.chg.auxId else 7 } }
  .next (reselect (pulseIf (out && !s.land.auxRange) 569 s1))

/-- The AUXID code of a voltage in 0.1 mV (R309). (DEDUCED 47, safe.) -/
def auxCode (v : Nat) : Nat :=
  if v < 1000 then 0
  else if 1500 ≤ v ∧ v ≤ 2500 then 1
  else if 3400 ≤ v ∧ v ≤ 4600 then 2
  else if 6800 ≤ v ∧ v ≤ 8800 then 3
  else if 12000 ≤ v ∧ v ≤ 15200 then 4
  else if 21500 ≤ v ∧ v ≤ 26500 then 5
  else if 29000 < v then 6
  else 7

/-- AUXID_READ: the voltage of AUXID, in 0.1 mV, gives its code; a change of code re-qualifies AUXIN (R309). (DEDUCED 47, safe.) -/
def execAuxidRead (v : Nat) (s : State) : Host.Outcome State Fault Refusal :=
  .next (if s.chg.auxPresent = false ∨ auxCode v = s.chg.auxId then s
    else reselect { s with chg := { s.chg with auxId := auxCode v, auxOk := false } })

/-! ## The pack -/

/-- A pack's removal is detected: PACK_REMOVED, the charger IDLE, PACK_EXHAUSTED clear, and HOLD without the pack (R304, R307, R312,
R324). -/
def removePack (s : State) : State :=
  let s1 := chgIdle (pwrSet 0x4 s)
  holdOfPack s { s1 with chg := { s1.chg with exhausted := false, packGood := false, redLo := false, redHi := false
                                              suspLo := false, suspHi := false } }

/-- PACK_REMOVED: the voltage comparator, which is armed while N_CELLS is not 0; in SHIP the detector is off (R312, R313, R467). -/
def execPackRemoved (s : State) : Host.Outcome State Fault Refusal :=
  .next (if s.pwr.st ≠ .ship ∧ (s.chg.nCells ≠ 0 ∨ s.land.bthOpen) then removePack s else s)

/-- BTH_OPEN: the pack thermistor reads open, shorted or in range; in SHIP the detector is off (R16, R25, R312, R315, R467). -/
def execBthOpen (c : BthCond) (s : State) : Host.Outcome State Fault Refusal :=
  let o := decide (c = .opened)
  let h := decide (c = .shorted)
  let s1 := pulseIf ((o && !s.land.bthOpen) || (h && !s.land.bthShort)) 569
    { s with land := { s.land with bthOpen := o, bthShort := h } }
  .next (
    if s.pwr.st = .ship then s1
    else if o && !s.land.bthOpen then removePack s1
    else if h && (decide (s.chg.ph = .qualify) || decide (s.chg.ph = .precharge) || decide (s.chg.ph = .fast)) then chgFault 6 s1
    else s1)

/-- PACK_INSERTED: BTH_OPEN has been clear for 1 s. The pack becomes usable when its mean cell
voltage, a quantity not given here, exceeds VCUT_MV + 100 mV, which with N_CELLS 0 is not judged; an AUTO start is judged; in SHIP the
pack is parted from the module (R303, R312, R313, R315, R326, R467). (PRESUMED 46, safe.) -/
def execPackInserted (s : State) : Host.Outcome State Fault Refusal :=
  .next (if s.land.bthOpen ∨ s.pwr.st = .ship then s
    else
      let good := decide (s.chg.nCells ≠ 0) && decide ((((s.chg.vcutMv + 100) * s.chg.nCells : Nat) : Int) < Config.conversion s.free 0xC3)
      let s1 := holdOfPack s { bump s with chg := { s.chg with packGood := good } }
      if autoStarts s1 then setPhase .qualify s1 else s1)

/-! ## Readings -/

/-- Mean cell voltage of a pack voltage, 0.1 mV (R316). -/
def Chg.cellV (c : Chg) (packMv : Nat) : Nat := (quot ((packMv * 10 : Nat) : Int) c.nCells).toNat

/-- V16: the mean of the values held, up to 16, in 0.1 mV (R316). (DESIGN CHOICE 48, unsafe.) -/
def Chg.v16 (c : Chg) : Nat := if c.volts = [] then 0 else (quot ((c.volts.sum : Nat) : Int) c.volts.length).toNat

/-- A pack voltage reading: the pack becomes usable above VCUT_MV + 100 mV per cell, which with N_CELLS 0 is not judged (R303, R313). -/
def Chg.readPack (packMv : Nat) (c : Chg) : Chg :=
  { c with packMv := packMv, packGood := c.packGood || decide (c.nCells ≠ 0) && decide ((c.vcutMv + 100) * c.nCells < packMv) }

/-- The windows judged from a BTH temperature, each threshold with 2 °C of hysteresis (R320). -/
def Chg.windows (c : Chg) : Chg :=
  if c.bth = 0x8000 then c
  else
    let t := c.bth.toInt
    let h (b : Bool) : Int := if b then 128 else 0
    { c with
      suspLo := decide (t < c.tSuspLo + h c.suspLo), suspHi := decide (c.tSuspHi - h c.suspHi < t)
      redLo := decide (t < c.tRedLo + h c.redLo), redHi := decide (c.tRedHi - h c.redHi < t) }

/-- The nominal time of a phase in full-rate ms; 0 in untimed phases (R321, R330). -/
def Chg.nominal (c : Chg) : Nat :=
  match c.ph with
  | .precharge => c.preMin * 60000
  | .fast => if c.safeMin ≠ 0 then c.safeMin * 60000 else ceilDiv (90 * c.cap) c.fastI * 60000
  | .topoff => c.topMin * 60000
  | _ => 0

/-- What a second adds to the counts: the timer by the allowed share of the full rate, the wall time, the charge, and the hold-off of
-dV (R317, R321, R330). -/
def Chg.second (mA : Int) (limiting : Bool) (c : Chg) : Chg :=
  let allowed := if limiting then mA.toNat else c.tgt
  let timed := decide (c.ph = .precharge) || decide (c.ph = .fast) || decide (c.ph = .topoff)
  { c with
    mA := mA, inLim := limiting, wall := c.wall + 1
    timer := if timed ∧ c.full ≠ 0 then c.timer + min 1000 (allowed * 1000 / c.full) else c.timer
    charge := (((c.charge : Int) + mA).toNat), dvOff := if c.phaseOf = .fast then c.dvOff - 1 else c.dvOff }

/-- The readings of a second in PRECHARGE, FAST, TOPOFF and MAINTAIN: V16, its peak, and the
temperature history (R316-R318). (DESIGN CHOICE 48, unsafe; DEDUCED 49, unsafe.) -/
def Chg.readings (packMv : Nat) (c : Chg) : Chg :=
  let c1 := { c with volts := (c.cellV packMv :: c.volts).take 16 }
  { c1 with
    peak := if c.ph = .fast then max c.peak c1.v16 else c.peak
    temps := if c.ph = .fast ∧ c.bth ≠ 0x8000 then (c.bth.toInt :: c.temps).take 61 else c.temps
    ovSecs := if 17500 < c1.v16 then c.ovSecs + 1 else 0 }

/-- -dV is met (R317). -/
def Chg.endDv (c : Chg) : Bool :=
  decide (c.ph = .fast) && c.dvEn && decide (c.dvOff = 0) && decide (c.volts ≠ []) && decide (c.v16 + 5 * c.dv ≤ c.peak)

/-- dT/dt is met: the newest reading against that of 60 s before, once 60 readings exist (R318).
(DEDUCED 50, unsafe.) -/
def Chg.endDt (c : Chg) : Bool :=
  decide (c.ph = .fast) && c.dtdtEn && decide (60 ≤ c.temps.length) &&
    decide (64 * (c.dtdt : Int) ≤ 10 * (c.temps.headD 0 - c.temps.getLastD 0))

/-- The judgements of a second, in the order of R324: a fault, the end of charge, the end of
precharge, then suspension (R315-R324). (DEDUCED 49, unsafe.) -/
def judgeSecond (s : State) : State :=
  let c := s.chg
  if (c.ph = .precharge ∨ c.ph = .fast) ∧ (2 ≤ c.ovSecs ∨ s.land.bthShort) then chgFault (if 2 ≤ c.ovSecs then 4 else 6) s
  else if c.endDv || c.endDt then setPhase .topoff (pwrSet (BitVec.ofNat 16 (b2n c.endDv + b2n c.endDt * 2)) s)
  else if c.ph = .precharge ∧ 10000 ≤ c.v16 then setPhase .fast s
  else
    let s1 := judgeSusp (c.ph ≠ .qualify) s
    { s1 with chg := s1.chg.retarget }

/-- CHARGER_SECOND: the readings of a second, and what they bring about. In IDLE and FAULT the pack voltage alone is read, for the pack's
use by HOLD; while the phases do not run only the wall time passes, and without power nothing (R303, R313, R315-R322, R330, R467, R472). -/
def execChargerSecond (packMv : Nat) (mA : Int) (limiting : Bool) (s : State) : Host.Outcome State Fault Refusal :=
  let p := s.chg.phaseOf
  .next (if s.off then s
    else if chargerStill s then { s with chg := { s.chg with wall := s.chg.wall + 1 } }
    else if p = .idle ∨ p = .fault then
      holdOfPack s { s with chg := { s.chg.readPack packMv with wall := s.chg.wall + 1 } }
    else
      let c1 := (s.chg.readPack packMv).second mA limiting
      let c2 := if c1.ph.works ∧ c1.ph ≠ .qualify then c1.readings packMv else c1
      judgeSecond (requestTemp { code := 0x110, chg := true } (holdOfPack s { s with chg := if c2.ph = .qualify then c2 else c2.windows })))

/-- QUALIFY_DONE: 2 s of qualification have passed (R315, R324). -/
def execQualifyDone (packMv : Nat) (s : State) : Host.Outcome State Fault Refusal :=
  .next (if s.chg.ph ≠ .qualify then s
    else
      let s1 := holdOfPack s { s with chg := (s.chg.readPack packMv).windows }
      let n := s.chg.nCells
      if packMv < 500 * n ∨ 1750 * n < packMv then chgFault 5 s1
      else if s.land.bthShort then chgFault 6 s1
      else if suspCause s1 true ≠ 0 then judgeSusp true s1
      else setPhase (if packMv < 1000 * n then .precharge else .fast) s1)

/-- PHASE_TIMER_EXPIRED: the full-rate timer or the wall cap has reached its end (R315, R321, R323).
(DESIGN CHOICE 7, safe.) -/
def execPhaseTimerExpired (wall : Bool) (s : State) : Host.Outcome State Fault Refusal :=
  let c := s.chg
  let over_ := if wall then decide (3 * c.nominal ≤ c.wall * 1000) else decide (c.nominal ≤ c.timer)
  .next (if over_ = false then s
    else
      match c.ph with
      | .precharge => chgFault (if wall then 2 else 3) s
      | .fast => chgFault (if wall then 2 else 1) s
      | .topoff => setPhase .maintain s
      | _ => s)

/-- RECHARGE_CHECK: in MAINTAIN, V16 from four readings; below RECHG_MV the charger qualifies again (R319). -/
def execRechargeCheck (packMv : Nat) (s : State) : Host.Outcome State Fault Refusal :=
  .next (if s.chg.ph ≠ .maintain ∨ chargerStill s then s
    else
      let c := s.chg.readPack packMv
      let s1 := holdOfPack s { s with chg := { c with volts := [c.cellV packMv] } }
      if packMv < c.rechgMv * c.nCells then
        setPhase .qualify { s1 with chg := { s1.chg with recharges := satInc 255 s1.chg.recharges } }
      else s1)

/-- CHARGER_HW: the charger stage has failed to reach its target within 100 ms (R315, R323). -/
def execChargerHw (s : State) : Host.Outcome State Fault Refusal :=
  .next (if s.chg.ph = .idle ∨ s.chg.ph = .fault then s else chgFault 7 s)

/-! ## Commands -/

/-- REFUSED_STATE with the charger phase (R314, R332). -/
def refuseChg (s : State) : State × Ans := refuse s 4 s.chg.ph.code 0xFF

/-- The temperature thresholds of a record are in strictly ascending order (R328). -/
def thresholdsOk (b : List Byte) : Bool :=
  decide (s16At b 0x10 < s16At b 0x12) && decide (s16At b 0x12 < s16At b 0x14) && decide (s16At b 0x14 < s16At b 0x16)

/-- A charger configuration record in force; with N_CELLS 0 the pack is unconfigured, and is judged anew from the first reading after
N_CELLS is set (R313, R328). (DESIGN CHOICE 54, unsafe.) -/
def chgConfig (b : List Byte) (c : Chg) : Chg :=
  let n := byteAt b 0
  let ctl := byteAt b 1
  let safe := fieldAt b 8 2
  { c with
    nCells := if n = 0 then 0 else clampNat 4 10 n, packGood := c.packGood && decide (c.nCells ≠ 0) && decide (n ≠ 0)
    auto := natBit ctl 0, dtdtEn := natBit ctl 1, dvEn := natBit ctl 2, seamChg := natBit ctl 3
    cap := fieldAt b 2 2, fastI := clampNat 100 3000 (fieldAt b 4 2), dv := clampNat 4 40 (byteAt b 6), dtdt := max 1 (byteAt b 7)
    safeMin := if safe = 0 then 0 else clampNat 10 1440 safe, preMin := max 1 (byteAt b 0x0A), topMin := byteAt b 0x0B
    dvHold := byteAt b 0x0C, redPct := clampNat 1 8 (byteAt b 0x0D), maintI := min 200 (fieldAt b 0x0E 2)
    tSuspLo := s16At b 0x10, tRedLo := s16At b 0x12, tRedHi := s16At b 0x14, tSuspHi := s16At b 0x16
    rechgMv := clampNat 1150 1400 (fieldAt b 0x18 2), vcutMv := clampNat 900 1100 (fieldAt b 0x1A 2)
    vinIlim := clampNat 500 6000 (fieldAt b 0x1C 2), noidIlim := min 1000 (fieldAt b 0x1E 2) }

/-- Seam comes into range as SEAM_CHG becomes 1, and is a charge source 100 ms later; the configuration of a start finds it in range
already (R301, R308). (DEDUCED 141, safe.) -/
def seamWait (old new : Chg) : Chg :=
  { new with seamOk := old.seamOk && new.seamChg && (old.seamChg || (old.autoDue && decide (old.source = .none))) }

/-- A charger without N_CELLS or CAP_MAH stays IDLE, and enters it from MAINTAIN and FAULT (R313). (DEDUCED 139, unsafe.) -/
def unconfigured (s : State) : State := if s.chg.nCells = 0 ∨ s.chg.cap = 0 then (if s.chg.ph = .idle then s else chgIdle s) else s

/-- CHARGER_CONFIG (R313, R328, R331, R332). -/
def chargerConfigOp : OpSpec where
  op := 0x0A01
  sh := false
  app := true
  plen := .fixed 32
  run := fun q s =>
    match s.chg.ph with
    | .idle | .maintain | .fault =>
      if thresholdsOk q.params then
        done (holdOfPack s (reselect (unconfigured { s with chg := (seamWait s.chg (chgConfig q.params s.chg)).retarget }))) [0]
      else noted s [1]
    | _ => refuseChg s

/-- CHARGER_START (R331, R332). -/
def chargerStartOp : OpSpec where
  op := 0x0A02
  sh := false
  plen := .fixed 0
  run := fun _ s =>
    match s.chg.ph with
    | .idle | .maintain | .fault =>
      if s.chg.nCells = 0 ∨ s.chg.cap = 0 ∨ s.land.bthOpen then absent s 0xFFFF
      else done0 (judgeSusp false (setPhase .qualify s))
    | _ => refuseChg s

/-- CHARGER_STOP; in IDLE it has no effect (R332). -/
def chargerStopOp : OpSpec where
  op := 0x0A03
  plen := .fixed 0
  run := fun _ s => done0 (if s.chg.ph = .idle then s else chgIdle s)

/-- The input limit of the source in use (R309, R310, R330). (DEDUCED 53, unsafe.) -/
def Chg.inputLimit (c : Chg) : Nat :=
  match c.source with
  | .none => 0
  | .vin => c.vinIlim
  | .auxin => if c.auxId = 6 then c.noidIlim else [0, 500, 1000, 2000, 3000, 4000].getD c.auxId 0
  | .seam => 150

/-- The charger status record; HOLD's voltage and current are quantities read now (R330). (PRESUMED
46, safe.) -/
def chargerRecord (s : State) : List Byte :=
  let c := s.chg
  let z : List Byte := [0, 0]
  [byte c.ph.code, byte (c.susp * 16 + (if c.ph = .suspended then c.left.code else 0)), byte c.fault,
    byte (c.auxId * 16 + chgSourceCode c.source)] ++ le16 c.word ++ [byte c.hold.code, byte c.recharges] ++
    le16 c.packMv ++ le16 c.v16 ++ le16 c.peak ++ le16 (toCode 16 c.mA) ++ le16 c.bth.toNat ++ le16 c.tgt ++ le16 c.inputLimit ++
    le16 (toCode 16 (quot (Config.conversion s.free 0xC1) 10)) ++ le16 (toCode 16 (Config.conversion s.free 0xCD)) ++ z ++
    le32 c.timer ++ le32 c.nominal ++ le32 c.wall ++ le32 (c.charge / 3600) ++ le32 c.switchovers

/-- CHARGER_STATUS (R330). -/
def chargerStatusOp : OpSpec where
  op := 0x0A04
  plen := .fixed 0
  run := fun _ s => done (bump s) (chargerRecord s)

/-- CHARGER_CONFIG. -/
def execChargerConfig (q : Req) (s : State) : Host.Outcome State Fault Refusal := runOp chargerConfigOp q s
/-- CHARGER_START. -/
def execChargerStart (q : Req) (s : State) : Host.Outcome State Fault Refusal := runOp chargerStartOp q s
/-- CHARGER_STOP. -/
def execChargerStop (q : Req) (s : State) : Host.Outcome State Fault Refusal := runOp chargerStopOp q s
/-- CHARGER_STATUS. -/
def execChargerStatus (q : Req) (s : State) : Host.Outcome State Fault Refusal := runOp chargerStatusOp q s
/-- HOLD_RAIL_SET. -/
def execHoldRailSet (q : Req) (s : State) : Host.Outcome State Fault Refusal := runOp holdRailSetOp q s

end Sys2Proof.Machine
end

