-- ==== Sys2Proof/Machine/Vin.lean ====
section
/-! DEFINITION. The module supply VIN: its undervoltage and overvoltage, their effects on cells, rails, the domain and HOLD, and the
restart that follows (R21, R212, R244, R293, R301). -/

namespace Sys2Proof.Machine

/-- Switching stops at once: every cell is turned off, every rail not OFF or LATCHED_OFF enters OFF with its event, a probe is aborted, and
the domain goes DOWN (R21, R86, R100, R244). -/
def stopSwitching (s : State) : State :=
  let s1 := abortProbe (changeCells s (fun _ c => c.turnOff))
  domLoseVin (offEvents s (stopAllArming (leaveRails (fun x => x.st.runs) .off s1)))

/-- The undervoltage signal has become asserted: switching stops, an ORDERLY echo is sent, the
pressing is recorded, HOLD leaves VIN, and the charge source is chosen anew (R21, R244, R293,
R304, R308). (DEDUCED 60, unsafe.) -/
def undervoltage (s : State) : State :=
  let s1 := stopSwitching (landSet 0x400000 s)
  let s2 := capture 0x0B 0 s1
  let s3 := holdOffVin (sendEcho 3 (lastSeq s1 s2) s2)
  reselect { s3 with chg := { s3.chg with vinOk := false } }

/-- VIN_UV: VIN falls below 8.0 V (R21, R244). (DEDUCED 59, unsafe.) -/
def execVinUv (s : State) : Host.Outcome State Fault Refusal :=
  let s1 : State := { s with land := { s.land with vinLow := true, vinWait := false } }
  .next (if s.land.vinLow then s
    else if s.therm.tsdNow then reselect (abortProbe (landSet 0x400000 s1))
    else undervoltage s1)

/-- The undervoltage signal has gone: a remembered RISING or UP domain is due to restart. The restart counts as pending from here, or
from a full start that finds the memory (R244, R294). (DESIGN CHOICE 155, unsafe.) -/
def restartDue (s : State) : State := { s with dom := { s.dom with restartDue := s.dom.vinMem } }

/-- VIN_RISE: VIN rises above 8.6 V (R21, R244, R294). -/
def execVinRise (s : State) : Host.Outcome State Fault Refusal :=
  let s1 : State := { s with land := { s.land with vinLow := false, vinWait := false } }
  .next (if s.land.vinLow ∨ s.land.vinWait then (if s.therm.tsdNow then s1 else restartDue s1) else s)

/-- VIN_RESTART: 10 ms after VIN's rise, and once the configuration is loaded and no probe runs, the domain re-enters RISING where
VIN_RESTART is set and a module that goes up by its pin alone sees it high; otherwise the restart is given up (R244, R445). -/
def execVinRestart (s : State) : Host.Outcome State Fault Refusal :=
  .next (if s.dom.restartDue = false ∨ s.proto.running = false ∨ s.undervolt ∨ s.land.vinWait ∨ s.map.probe = .running ∨ s.proto.cfg = .applying then s
    else if s.dom.vinRestart ∧ (s.dom.upSrc ≠ 1 ∨ s.dom.en.getLsbD s.dom.enPin.val) then pinUp s
    else cancelRestart s)

/-- The rewrite of ranks is due on every rail a member of which has entered ISOLATED (R75, R78). -/
def markRewrites (before after : State) : State :=
  mapRails after (fun r x => if (after.members r).any (fun n => decide ((after.cell n).st = .isolated) && decide ((before.cell n).st ≠ .isolated))
    then { x with rewriteDue := true } else x)

/-- VIN_OV: VIN rises above 16.5 V. Every cell's input switch opens, and while a rail runs it is a
fault on a running rail (R21, R210, R238, R243). (DEDUCED 58, unsafe.) (DEDUCED 137, safe.) -/
def execVinOv (s : State) : Host.Outcome State Fault Refusal :=
  .next (if s.land.vinOver then s
    else
      let s1 := landSet 0x800000 { s with land := { s.land with vinHigh := true, vinOver := true } }
      let s2 := markRewrites s1 (abortProbe (changeCells s1 (fun _ c => if c.st = .isolated then c else c.isolated 7)))
      let s3 := holdOffVin (if allRailsOff s then s2 else faultRun 0xFF s2)
      reselect { s3 with chg := { s3.chg with vinOk := false } })

/-- VIN_OV_RECOVER: VIN has stayed below 15.5 V for 1 ms; the cells isolated for it return to OFF
(R75, R212). (DEDUCED 137, safe.) -/
def execVinOvRecover (s : State) : Host.Outcome State Fault Refusal :=
  .next (if s.land.vinHigh = false then s
    else
      changeCells { s with land := { s.land with vinHigh := false, vinOver := false } } (fun _ c =>
        if c.st = .isolated ∧ c.isoCause = 7 then { c with st := .off, role := .none } else c))

end Sys2Proof.Machine
end

