-- ==== Sys2Proof/Machine/Thermal.lean ====
section
/-! DEFINITION. Thermal management: the measurement service, rates of rise, throttling, the orderly stop, and the hardware shutdown
(chapter 10). Temperatures are in 1/64 °C (R6). -/

namespace Sys2Proof.Machine

/-! ## Readings and warnings -/

/-- `x` Hem ticks are no more than 2 s ago (R287, R288). -/
def recent (s : State) (x : Option Nat) : Bool :=
  match x with
  | some t => decide (s.hem.ticks ≤ t + 2 * oneSecond)
  | none => false

/-- A die sensor is faulty: open or shorted, or its last reading has had no result (R284, R285). (DEDUCED 135, unsafe.) -/
def dieFaulty (s : State) (k : Fin 16) : Bool := s.therm.dieBad.getLsbD k.val || s.therm.timedOut.contains (0x100 + k.val)

/-- A die sensor's newest reading, when it may be judged: neither unread nor faulty (R285). -/
def dieValue (s : State) (k : Fin 16) : Option Int :=
  if dieFaulty s k ∨ s.therm.die[k] = 0x8000 then none else some s.therm.die[k].toInt

/-- A cell's newest reading, when it is no older than 2 s (R287, R288). -/
def cellValue (s : State) (n : Nat) : Option Int :=
  if recent s s.therm.cellAt[fin256 n] ∧ (s.cell n).temp ≠ 0x8000 then some (s.cell n).temp.toInt else none

/-- A die or cell reading no older than 2 s is at least WARN (R287). -/
def juncHot (s : State) : Bool :=
  let hot (x : Option Int) : Bool :=
    match x with
    | some t => decide (s.therm.warn.toInt ≤ t)
    | none => false
  (List.finRange 16).any (fun k => recent s s.therm.dieAt[k] && hot (dieValue s k)) || (upto 256).any (fun n => hot (cellValue s n))

/-- Some die rate is at least the RISE_WARN limit; 0 acts as 1 (R287, R295). -/
def rateHot (s : State) : Bool :=
  (List.finRange 16).any (fun k => !dieFaulty s k && decide (((max 1 s.therm.riseWarn : Nat) : Int) ≤ s.therm.rate[k]))

/-- RISE_WARN, FAST and JUNC_WARN judged: the first two clear only at a scheduled evaluation (R287). -/
def judgeWarn (evaluation : Bool) (s : State) : State :=
  let rise := rateHot s || (s.therm.rise && !evaluation)
  let junc := juncHot s
  setLine 481 junc (setLine 480 rise { s with therm := { s.therm with rise := rise, fast := rise, junc := junc } })

/-- The rate over four scheduled readings, newest first: time in Hem ticks, 32,768 to the second; 0
until four earlier readings exist (R287). (DESIGN CHOICE 61, unsafe.) -/
def rateOf (h : List (Int × Nat)) : Int :=
  match h.head?, h[4]? with
  | some x, some y => fit16 (quot ((x.1 - y.1) * 32768) (x.2 - y.2))
  | _, _ => 0

/-- JUNC_WARN clears as the last reading that has kept it set grows older than 2 s (R287). -/
def ageWarn (s : State) : State :=
  if s.therm.junc ∧ juncHot s = false then setLine 481 false { s with therm := { s.therm with junc := false } } else s

/-- A die sensor's reading: a bad sensor reads 0x8000; a scheduled reading joins the history and makes the rate; it is held as the
system request of its derived channel (R263, R272, R283, R285, R287). -/
def takeDie (k : Fin 16) (reading : BitVec 16) (sched : Bool) (s : State) : State :=
  let t := s.therm
  let v : BitVec 16 := if t.dieBad.getLsbD k.val then 0x8000 else reading
  let h := if sched ∧ v ≠ 0x8000 then ((v.toInt, s.hem.ticks) :: t.hist[k]).take 5 else t.hist[k]
  holdSystem (0xE0 + k.val) v.toInt { s with therm := { t with
    die := upd t.die k v, dieAt := upd t.dieAt k (some s.hem.ticks), hist := upd t.hist k h, rate := upd t.rate k (rateOf h) } }

/-- A reading is held in its place: a cell's TEMP field, a die channel, or the charger's thermistor reading (R61, R263, R283). -/
def takeReading (code : Nat) (reading : BitVec 16) (sched : Bool) (s : State) : State :=
  if code < 0x100 then
    let s1 := changeCell s (fin256 code) (fun c => { c with temp := reading })
    if (s.cell code).st = .retired then s
    else { s1 with therm := { s1.therm with cellAt := upd s1.therm.cellAt (fin256 code) (some s1.hem.ticks) } }
  else if code < 0x110 then takeDie (Fin.ofNat 16 (code - 0x100)) reading sched s
  else
    { s with chg := { s.chg with bth := reading, bthAt := some s.hem.ticks } }

/-- A reading that has been served ends, for every requester, and the next request is served: it is held, it sets or
ends its sensor's fault state, and a TEMP_MEASURE that waits for it is answered (R284, R299). -/
def endReading (code : Nat) (reading : BitVec 16) (timedOut : Bool) (s : State) : State :=
  match s.therm.queue.find? (fun x => decide (x.code = code) && x.served) with
  | none => s
  | some x =>
    let rest := s.therm.timedOut.filter (fun y => decide (y ≠ code))
    let s1 := takeReading code reading x.sched { s with therm := { s.therm with
      queue := s.therm.queue.filter (fun y => decide (y.code ≠ code)), timedOut := if timedOut then code :: rest else rest } }
    let s2 := serveTemps (bump (judgeWarn false s1))
    let v : BitVec 16 :=
      if 0x100 ≤ code ∧ code < 0x110 ∧ s.therm.dieBad.getLsbD (code - 0x100) then 0x8000 else reading
    let z : List Byte := [0, 0]
    match s2.proto.exec with
    | some (_, .temp c) =>
      if c = code then
        complete (if timedOut then .doneWithNote else .done) (le16 v.toNat ++ z ++ le32 (fabricNow s1 % 2 ^ 32)) s2
      else s2
    | _ => s2

/-- The place of the highest bit of a number above 0. -/
def topBit (n : Nat) : Nat := ((upto 96).filter (fun k => decide (2 ^ k ≤ n))).length - 1

/-- The inverse hyperbolic tangent of z / 2^48, times 2^48, for z up to 2^48 / 3. -/
def atanhFix (z : Nat) : Nat :=
  ((upto 16).foldl (fun (a : Nat × Nat) k => (a.1 + a.2 / (2 * k + 1), a.2 * z / 2 ^ 48 * z / 2 ^ 48)) (0, z)).1

/-- The natural logarithm of a quotient, times 2^48. -/
def lnFix (num den : Nat) : Int :=
  let r := num * 2 ^ 64 / den
  let e := topBit r
  let m := r * 2 ^ 48 / 2 ^ e
  2 * (atanhFix ((m - 2 ^ 48) * 2 ^ 48 / (m + 2 ^ 48)) : Int) + ((e : Int) - 64) * (2 * (atanhFix (2 ^ 48 / 3) : Int))

/-- The temperature of a BTH voltage in 0.1 mV: the thermistor of 10 kΩ at 25 °C and B 3,435 K, biased through 10.0 kΩ from 2.500 V, by
the B-parameter equation 1 / T = 1 / 298.15 K + ln(R / 10 kΩ) / 3,435 K (R6, R311). The spec states no rounding, and no temperature of
an open or shorted input, or outside the format. (DESIGN CHOICE 138, safe.) -/
def bthTemp (s : State) (v : Nat) : BitVec 16 :=
  if v = 0 ∨ 25000 ≤ v then BitVec.ofInt 16 (Config.freeInt s.free)
  else
    let inv := 20 * 2 ^ 48 / 5963 + lnFix v (25000 - v) / 3435
    BitVec.ofInt 16 (fit16 (quot (640 * 2 ^ 48 - 174816 * inv) (10 * inv).toNat))

/-- TEMP_READING_DONE: of the pack thermistor the voltage of channel 0x0CF, which is held and converted; of the others the temperature
(R272, R283, R284, R311). -/
def execTempReadingDone (code : Nat) (reading : BitVec 16) (s : State) : Host.Outcome State Fault Refusal :=
  .next (if code = 0x110 ∧ s.therm.queue.any (fun x => decide (x.code = code) && x.served) then
      endReading code (bthTemp s reading.toNat) false (holdSystem 0x0CF reading.toNat s)
    else endReading code reading false s)

/-- TEMP_READING_TIMEOUT: 2 ms after it was served the reading has no result (R284). -/
def execTempReadingTimeout (code : Nat) (s : State) : Host.Outcome State Fault Refusal := .next (endReading code 0x8000 true s)

/-- DIE_SENSE_FAULT: the monitor of a die sensor finds it open or shorted, or sound again; a bad sensor is left out of every judgement
(R285). -/
def execDieSenseFault (k : Fin 16) (bad : Bool) (s : State) : Host.Outcome State Fault Refusal :=
  let t := s.therm
  let bit : BitVec 16 := BitVec.ofNat 16 (2 ^ k.val)
  let b := if bad then t.dieBad ||| bit else t.dieBad &&& ~~~ bit
  .next (setLine 485 (decide (b ≠ 0)) { s with therm := { t with
    dieBad := b
    die := if bad then upd t.die k 0x8000 else t.die
    hist := if bad then upd t.hist k [] else t.hist
    rate := if bad then upd t.rate k 0 else t.rate } })

/-! ## The scheduled evaluation -/

/-- Thermal limits of a record (R295). -/
def Therm.setLimits (b : List Byte) (t : Therm) : Therm :=
  { t with
    warn := BitVec.ofNat 16 (fieldAt b 0 2), riseWarn := max 1 (fieldAt b 2 2), schedMs := clampNat 10 10000 (fieldAt b 4 2)
    fastMs := clampNat 1 1000 (fieldAt b 6 2), stopLead := fieldAt b 8 2, stopMin := fieldAt b 10 2, limNext := none }

/-- A throttle policy of a record (R289, R296). -/
def Therm.setPolicy (b : List Byte) (t : Therm) : Therm :=
  { t with
    thrMode := if byteAt b 0 ≤ 2 then byteAt b 0 else 1, fixedStep := min 7 (byteAt b 1)
    thrOn := BitVec.ofNat 16 (fieldAt b 2 2), thrHyst := fieldAt b 4 2, lookahead := fieldAt b 6 2
    stepDwell := max 10 (fieldAt b 8 2), exempt := fieldAt b 10 6, polNext := none }

/-- The records that wait take effect, and STEP_DWELL restarts (R299). -/
def takeThermRecords (s : State) : State :=
  let t1 := match s.therm.limNext with
    | some b => s.therm.setLimits b
    | none => s.therm
  let t2 := match s.therm.polNext with
    | some b => t1.setPolicy b
    | none => t1
  let s1 : State := { s with therm := t2 }
  if s.therm.limNext.isSome ∨ s.therm.polNext.isSome then
    mapRails s1 (fun _ x => { x with prot := { x.prot with thrAt := s.hem.ticks } })
  else s1

/-- The larger of a value and what is known so far. -/
def maxOpt (a b : Option Int) : Option Int :=
  match a, b with
  | some x, some y => some (max x y)
  | some x, none => some x
  | none, y => y

/-- The banks that hold a member of a rail. -/
def railBanks (s : State) (r : Nat) : List (Fin 16) :=
  (List.finRange 16).filter (fun k => (s.members r).any (fun n => decide (n / 16 = k.val)))

/-- T_r (R288). -/
def railTemp (s : State) (r : Nat) : Option Int :=
  (s.members r).foldl (fun a n => maxOpt a (cellValue s n)) ((railBanks s r).foldl (fun a k => maxOpt a (dieValue s k)) none)

/-- R_r, not below 0 (R288). -/
def railRate (s : State) (r : Nat) : Int :=
  (railBanks s r).foldl (fun a k => if dieFaulty s k then a else max a s.therm.rate[k]) 0

/-- Ten times P_r (R288); LOOKAHEAD is in 0.1 s. (DESIGN CHOICE 61, unsafe.) -/
def predicted10 (s : State) (r : Nat) : Option Int :=
  (railTemp s r).map (fun t => 10 * t + railRate s r * s.therm.lookahead)

/-- STEP_DWELL has passed since a rail's THR_STEP last changed (R290). -/
def dwellOver (s : State) (x : Rail) : Bool := decide (s.therm.stepDwell * 32768 ≤ (s.hem.ticks - x.prot.thrAt) * 1000)

/-- The THR_STEP that a scheduled evaluation gives a rail (R289, R290). -/
def nextStep (s : State) (r : Nat) : Nat :=
  let x := s.rail r
  if natBit s.therm.exempt r then 0
  else if s.therm.thrMode = 0 then 0
  else if s.therm.thrMode = 2 then min 7 s.therm.fixedStep
  else if (s.entry r).valid = false ∨ dwellOver s x = false then x.prot.thrStep
  else
    match predicted10 s r with
    | none => x.prot.thrStep
    | some p =>
      if 10 * s.therm.thrOn.toInt ≤ p then min 7 (x.prot.thrStep + 1)
      else if p < 10 * (s.therm.thrOn.toInt - s.therm.thrHyst) then x.prot.thrStep - 1
      else x.prot.thrStep

/-- Every rail's THR_STEP is evaluated, and THROTTLING follows (R287, R289, R290). (DESIGN CHOICE 61,
unsafe.) -/
def evalThrottle (s : State) : State :=
  let s1 := mapRails s (fun r x =>
    { x with prot := { x.prot with
      thrStep := nextStep s r, thrAt := if nextStep s r = x.prot.thrStep then x.prot.thrAt else s.hem.ticks } })
  let on := (upto 48).any (fun r => decide ((s1.rail r).prot.thrStep ≠ 0))
  setLine 482 on { s1 with therm := { s1.therm with throttling := on } }

/-- A die sensor with a positive rate: 135 °C less its reading, and the rate (R292). -/
def tripOf (s : State) (k : Fin 16) : Option (Int × Int) :=
  match dieValue s k with
  | some t => if 0 < s.therm.rate[k] then some (135 * 64 - t, s.therm.rate[k]) else none
  | none => none

/-- The shortest predicted time to shutdown, as a quotient (R292). -/
def shortestTrip (s : State) : Option (Int × Int) :=
  ((List.finRange 16).filterMap (tripOf s)).foldl (fun a x =>
    match a with
    | none => some x
    | some y => if x.1 * y.2 < y.1 * x.2 then some x else some y) none

/-- The predicted time to shutdown lies within STOP_MIN and STOP_LEAD, in 0.1 s (R292). -/
def stopNow (s : State) : Bool :=
  decide (s.therm.stopLead ≠ 0) && (decide (s.dom.st = .rising) || decide (s.dom.st = .up)) &&
    (match shortestTrip s with
      | some x => decide (s.therm.stopMin * x.2 ≤ 10 * x.1) && decide (10 * x.1 ≤ s.therm.stopLead * x.2)
      | none => false)

/-- The orderly stop (R228, R241, R292). -/
def thermalStop (s : State) : State :=
  if stopNow s then
    let s1 := pulse 483 (thermSet 0x20 (enterFalling false s))
    let s2 := capture 0x0D 0 s1
    sendEcho 3 (lastSeq s1 s2) s2
  else s

/-- The readings that the schedule asks for: the 16 die sensors and the 16 cells of the next bank
(R286). (DESIGN CHOICE 55, safe.) -/
def requestSchedule (s : State) : State :=
  let s1 := (upto 16).foldl (fun t k => joinTemp { code := 0x100 + k, sched := true } t) s
  let s2 := serveTemps ((upto 16).foldl (fun t k => joinTemp { code := 16 * s.therm.bank + k, sched := true } t) s1)
  { s2 with therm := { s2.therm with bank := (s.therm.bank + 1) % 16 } }

/-- THERMAL_SCHEDULE: an interval of the thermal schedule begins, while the manager runs: the records that wait take effect, the readings
held are evaluated, and the next readings are asked for (R286-R292). -/
def execThermalSchedule (s : State) : Host.Outcome State Fault Refusal :=
  .next (if s.proto.running then
      requestSchedule (thermalStop (evalThrottle (judgeWarn true (takeThermRecords s))))
    else s)

/-! ## The hardware shutdown -/

/-- TSD: a sound die sensor has stayed above 135 °C for 20 µs; the undervoltage signal is driven
(R293). (DEDUCED 60, unsafe.) -/
def execTsd (k : Fin 16) (s : State) : Host.Outcome State Fault Refusal :=
  let s1 := setLine 484 true (thermSet 0x80 { s with therm := { s.therm with tsdNow := true } })
  .next (if s.therm.tsdNow ∨ s.therm.dieBad.getLsbD k.val then s
    else if s.land.vinLow then landSet 0x400000 s1
    else undervoltage s1)

/-- TSD_CLEAR: every sound sensor has read below 100 °C for 100 ms; with VIN above 8.6 V this counts
as its rise. Where VIN has not fallen below 8.0 V, whether it lies above 8.6 V is not held, and is
free; below it the restart waits for VIN's rise (R294). (DESIGN CHOICE 136, safe.) -/
def execTsdClear (s : State) : Host.Outcome State Fault Refusal :=
  let s1 := setLine 484 false { s with therm := { s.therm with tsdNow := false } }
  .next (if s.therm.tsdNow = false then s
    else if s.land.vinLow then s1
    else if Config.freeBool s.free then restartDue (bump s1)
    else bump { s1 with land := { s1.land with vinWait := true } })

/-! ## The opcodes -/

/-- TEMP_MEASURE (R284, R299). -/
def tempMeasureOp : OpSpec where
  op := 0x0901
  plen := .fixed 2
  bad := fun _ p => firstBad p [{ off := 0, width := 2, hi := 0x110 }]
  run := fun q s =>
    let code := fieldAt q.params 0 2
    if code < 0x100 ∧ (s.cell code).st = .retired then (s, .undef .undefinedRetiredCell)
    else if s.therm.queue.any (fun x => decide (x.code = code)) = false ∧ tempsFull s.therm.queue then busy s 2
    else (requestTemp { code := code, host := true } s, .defer (.temp code))

/-- THERMAL_LIMITS (R295, R299). -/
def thermalLimitsOp : OpSpec where
  op := 0x0902
  app := true
  plen := .fixed 12
  run := fun q s => done0 { s with therm := { s.therm with limNext := some q.params } }

/-- THROTTLE_POLICY (R296, R299). -/
def throttlePolicyOp : OpSpec where
  op := 0x0903
  app := true
  plen := .fixed 16
  run := fun q s => done0 { s with therm := { s.therm with polNext := some q.params } }

/-- The hottest readable die sensor, the lowest-numbered of equals. -/
def hottestDie (s : State) : Option (Nat × Int) :=
  (List.finRange 16).foldl (fun a k =>
    match dieValue s k, a with
    | some t, some y => if y.2 < t then some (k.val, t) else some y
    | some t, none => some (k.val, t)
    | none, y => y) none

/-- The thermal status record (R298). -/
def thermRecord (s : State) : List Byte :=
  let top := s.therm.rate.toList.foldl max s.therm.rate[0]
  le16 s.therm.word ++
    (match hottestDie s with
      | some x => [byte x.1, 0] ++ le16 (toCode 16 x.2)
      | none => [0xFF, 0] ++ le16 0x8000) ++
    le16 (toCode 16 top) ++ s.therm.die.toList.flatMap (fun x => le16 x.toNat) ++
    (upto 24).map (fun k => byte ((s.rail (2 * k)).prot.thrStep + 16 * (s.rail (2 * k + 1)).prot.thrStep))

/-- THERMAL_STATUS (R298). -/
def thermalStatusOp : OpSpec where
  op := 0x0904
  plen := .fixed 0
  run := fun _ s => done s (thermRecord s)

/-- TEMP_MEASURE. -/
def execTempMeasure (q : Req) (s : State) : Host.Outcome State Fault Refusal := runOp tempMeasureOp q s
/-- THERMAL_LIMITS. -/
def execThermalLimits (q : Req) (s : State) : Host.Outcome State Fault Refusal := runOp thermalLimitsOp q s
/-- THROTTLE_POLICY. -/
def execThrottlePolicy (q : Req) (s : State) : Host.Outcome State Fault Refusal := runOp throttlePolicyOp q s
/-- THERMAL_STATUS. -/
def execThermalStatus (q : Req) (s : State) : Host.Outcome State Fault Refusal := runOp thermalStatusOp q s

end Sys2Proof.Machine
end

