-- ==== Sys2Proof/Machine/PowerState.lean ====
section
/-! DEFINITION. The module power states: refusers, requests, entry to and exit from HIBERNATE, entry to SHIP, and the last-wake record
(chapter 17, R325, R326). -/

namespace Sys2Proof.Machine

/-! ## Refusers (R469) -/

/-- A firmware operation is under way: a bank is VERIFYING or TRIAL, or a commit or revert has not been announced (R516). -/
def fwBusy (s : State) : Bool :=
  s.fw.st.toList.any (fun x => decide (x = .verifying) || decide (x = .trial)) || s.fw.commit.isSome || s.fw.switchDue.isSome

/-- The deepest state a refuser permits: 0 RUN, 1 DOZE, 2 HIBERNATE, 3 SHIP (R469). -/
def permits (s : State) (i : Nat) : Nat :=
  let only (c : Bool) : Nat := if c then 1 else 3
  match i with
  | 0 => if s.dom.st = .rising ∨ s.dom.st = .falling then 0 else only (decide (s.dom.st = .up))
  | 1 => only (decide (s.chg.ph = .qualify) || decide (s.chg.ph = .precharge) || decide (s.chg.ph = .fast) || decide (s.chg.ph = .topoff))
  | 2 => only (s.therm.junc || s.therm.rise || s.therm.tsdNow)
  | 3 => if fwBusy s then 0 else 3
  | 4 => if s.proto.cfg = .applying then 0 else only (!allRailsOff s || decide (s.map.probe = .running))
  | 5 => only (s.tlm.seqs.toList.any (fun x => x.running) || s.tlm.streams.toList.any (fun x => x.enable))
  | 6 => only (decide (s.seam.agree = .gathering))
  | 7 => 3
  | k => s.pwr.votes[Fin.ofNat 8 (k - 8)]

/-- The refusers that permit only a state shallower than the one asked for. -/
def refusersOf (s : State) (target : Nat) : List Nat := (upto 16).filter (fun i => decide (permits s i < target))

/-- The deepest state no deeper than the one asked for that every refuser permits (R470). -/
def granted (s : State) (target : Nat) : Nat := (upto 16).foldl (fun a i => min a (permits s i)) target

/-- The refusals counted (R473). -/
def countRefusals (rs : List Nat) (s : State) : State :=
  { s with hem := { s.hem with
    refusals := mapIdx s.hem.refusals (fun i n => if rs.contains i then satInc 0xFFFFFFFF n else n) } }

/-- A request asked of every refuser: its refusals are counted, and REFUSED_SEEN is set when there is one (R470, R477). -/
def askRefusers (target : Nat) (s : State) : State :=
  let rs := refusersOf s target
  if rs.isEmpty then s else psSet 0x1 (countRefusals rs s)

/-! ## Changes of state -/

/-- The power state becomes another one, with its event (R470). -/
def setPwr (x : PwrSt) (s : State) : State :=
  pulseIf (decide (x ≠ s.pwr.st)) 571 { s with pwr := { s.pwr with st := x } }

/-- RUN or DOZE entered at once; the manager's level follows the state (R467, R470). (DEDUCED 63,
unsafe.) -/
def enterAwake (x : PwrSt) (s : State) : State :=
  let s1 := resume (setPwr x s)
  moveLevel { s1 with pwr := { s1.pwr with hibDue := none } }

/-- Source and detail of the last-wake record for a wake (R476). -/
def wakeCode : WakeSource → Nat × Nat
  | .event e => (1, e.val)
  | .twoWire => (2, 0)
  | .seamFrame p => (3, if p = .a then 0 else 1)
  | .seamSignal p => (4, if p = .a then 0 else 1)
  | .wakeBtn => (5, 0)
  | .periodic => (6, 0)
  | .resetN => (8, 0)

/-- The last-wake record written (R476). (DEDUCED 64, unsafe.) -/
def recordWake (src detail left : Nat) (s : State) : State :=
  { s with hem := { s.hem with
    wakeSrc := src, wakeLeft := left, wakeDetail := detail, wakeTime := s.hem.rtc, wakes := satInc 65535 s.hem.wakes
    wakeFlags := s.pwr.flags.toNat } }

/-- Every test land is released (R525). -/
def releaseAll (s : State) : State := { s with fw := { s.fw with mux := Vector.replicate 6 none } }

/-! ## HIBERNATE -/

/-- Entry to HIBERNATE begins: the manager stops at L2, its commands are discarded, the telemetry sequences stop, the loop of the DPLL
stops, the charger pauses in MAINTAIN, and the test lands are released (R173, R371, R472, R474, R525). Where XO_BAD is set already the
oscillator has no XO to be held to, and TB_STATE is COAST, as R173 states for an XO_BAD that comes later and R474 for the wake. (DEDUCED
166, unsafe.) -/
def beginHibernate (s : State) : State :=
  let s1 := releaseAll (stopManager (setRef .absent 0 (setTb (if s.clk.xoBad then .coast else .free) s)))
  { s1 with
    pwr := { s1.pwr with hibDue := none, entering := true, wake := none, gated := false }
    clk := if s1.clk.xoBad then s1.clk
      else { (setSupply s1.clk 720 100 .on) with level := .l2, changing := false, switching := none }
    rails := s1.rails.map (fun x => { x with offFrom := none })
    tlm := { s1.tlm with
      seqs := s1.tlm.seqs.map (fun x =>
        { x with running := false, delayed := false, waiting := false, converting := false, stopping := false })
      busy := Vector.replicate 4 none }
    chg := if s1.chg.ph = .maintain then ({ s1.chg with paused := true } : Chg).off.retarget else s1.chg }

/-- HIBERNATE_ENTRY: the STATE_ENTER reply has left; a command in execution is completed first (R371,
R474, R541). (DEDUCED 97, safe.) -/
def execHibernateEntry (s : State) : Host.Outcome State Fault Refusal :=
  .next (match s.pwr.hibDue with
    | some n => if replyLeft n s ∧ s.proto.exec = none ∧ s.off = false then beginHibernate s else s
    | none => s)

/-- HIBERNATE_ENTERED: supply and bias are at their HIBERNATE settings; the host-port engine and the ports that are DOWN lose power (R467,
R468, R474). -/
def execHibernateEntered (s : State) : Host.Outcome State Fault Refusal :=
  let down (p : PortSt) : PortSt := if p.link = .down then { p with powered := false, burst := false } else p
  .next (if s.pwr.entering ∧ s.off = false then
      let s1 := setPwr .hibernate { s with pwr := { s.pwr with entering := false } }
      { s1 with
        clk := s1.clk.retain
        hp := { s1.hp with engine := false }
        seam := { s1.seam with a := down s1.seam.a, b := down s1.seam.b } }
    else s)

/-- Leaving HIBERNATE, or giving up its entry: RUN at L2, the loop of the DPLL resuming, and the ports
powered; the manager then starts (R178, R472, R474, R475). (DEDUCED 63, unsafe; DEDUCED 64, unsafe.) -/
def leaveHibernate (s : State) : State :=
  let s1 := releaseLines (setPwr .run { s with pwr := { s.pwr with wake := none, entering := false } })
  let s2 : State := { s1 with
    clk := { (setSupply s1.clk 720 100 .on) with
      level := if s1.clk.xoBad then .coast else .l2, levelReq := .l2, changing := false, switching := none }
    chg := ({ s1.chg with paused := false } : Chg).retarget
    fw := { s1.fw with causeNext := 10 }
    seam := { s1.seam with a := { s1.seam.a with powered := true }, b := { s1.seam.b with powered := true } } }
  if s2.clk.edges ∧ s2.clk.xoBad = false then startQual s2 else s2

/-- HIBERNATE_EXIT: a wake leaves HIBERNATE, with its record; one that arrived during entry has the
entry abandoned (R475, R476, R480). (DEDUCED 64, unsafe.) -/
def execHibernateExit (src : WakeSource) (s : State) : Host.Outcome State Fault Refusal :=
  .next (if s.pwr.wake = some src ∧ s.off = false then
      let s1 := if s.pwr.entering then psSet 0x4 s else s
      leaveHibernate (recordWake (wakeCode src).1 (wakeCode src).2 s.pwr.st.code s1)
    else s)

/-- DOZE_RESUME: new work, and 30 µs later the clock-gated manager runs (R468). -/
def execDozeResume (s : State) : Host.Outcome State Fault Refusal :=
  .next (if s.pwr.st = .doze then resume s else s)

/-! ## SHIP -/

/-- An arming for SHIP is cancelled (R325). -/
def disarmShip (s : State) : State := { s with chg := { s.chg with shipArmed := false } }

/-- The watchdog configuration as last written (R355). -/
def Hem.wdLast (h : Hem) : WdogCfg := h.wdNext.getD h.wd

/-- SHIP is entered: the charger IDLE, HOLD OFF, PSW open, the watchdog DISABLED, its links down, and
everything but Hem off; a watchdog configuration that waits goes on waiting for FIRST (R326, R355,
R420, R467, R525). (DEDUCED 73, unsafe.) -/
def enterShip (s : State) : State :=
  let s1 := powerDown .a (powerDown .b (releaseAll (disarmShip (setHold .off (chgIdle (stopManager s))))))
  let s2 : State := { s1 with
    chg := { s1.chg with psw := false }
    dom := { s1.dom with fnDrive := false }
    hem := { s1.hem with wdSt := .disabled, wd := { s1.hem.wd with enable := s1.hem.wdLast.enable } }
    hp := { s1.hp with engine := false, held := false } }
  setPwr .ship s2

/-- A source is in range under R308, Seam whatever SEAM_CHG says, or VIN is above 8.0 V (R325). -/
def sourceInRange (s : State) : Bool :=
  !s.land.vinLow || (s.chg.auxIn && decide (1 ≤ s.chg.auxId) && decide (s.chg.auxId ≤ 6)) || s.chg.phantomIn.1 || s.chg.phantomIn.2

/-- SHIP_ENTRY: SHIP_DELAY has passed without a source: the refusers are asked again, and SHIP is
entered or its arming cancelled (R325, R472). (DEDUCED 66, unsafe.) -/
def execShipEntry (s : State) : Host.Outcome State Fault Refusal :=
  .next (if s.chg.shipArmed ∧ sourceInRange s = false ∧ s.pwr.st ≠ .ship then
      if (refusersOf s 3).isEmpty then enterShip s
      else psSet 0x2 (disarmShip (countRefusals (refusersOf s 3) s))
    else s)

/-- WAKE_BTN is held low: an arming for SHIP is cancelled, and a wake is requested; the hold that
leaves SHIP is SHIP_EXIT. A button found stuck has been seen high for its filter time before it
can be held low anew (R16, R325, R475). (DESIGN CHOICE 98, safe.) -/
def execWakeBtn (s : State) : Host.Outcome State Fault Refusal :=
  let s1 : State := { s with land := { s.land with wakeIgnored := false } }
  .next (if s.pwr.st = .ship then s1 else wakeReq .wakeBtn (disarmShip s1))

/-! ## The opcodes -/

/-- SHIP_ENTER (R325, R331, R472). -/
def shipEnterOp : OpSpec where
  op := 0x0A05
  sh := false
  plen := .fixed 4
  run := fun q s =>
    let s1 := askRefusers 3 s
    if (refusersOf s 3).isEmpty then
      done0 { s1 with
        chg := { s1.chg with shipArmed := true }
        hem := { s1.hem with
          wakeHold := clampNat 20 5000 (fieldAt q.params 0 2), shipDelay := max 1 (byteAt q.params 2) } }
    else refuse s1 6 s.pwr.st.code 0xFF

/-- The 16-bit map of the refusers that refused. -/
def refuserMap (s : State) (target : Nat) : Nat := (refusersOf s target).foldl (fun a i => a + 2 ^ i) 0

/-- The result of STATE_ENTER: the state in force and the refusers that refused; DONE when the state asked for is in force (R470). -/
def stateAnswer (s : State) (target inForce bits : Nat) : State × Ans :=
  doneOr (decide (inForce ≠ target)) s ([byte inForce, 0] ++ le16 bits)

/-- STATE_ENTER (R470, R472, R474, R478, R480). HIBERNATE counts as in force once its entry is
certain. (DEDUCED 65, unsafe.) -/
def stateEnterOp : OpSpec where
  op := 0x0E01
  plen := .fixed 1
  run := fun q s =>
    let target := byteAt q.params 0
    let now := s.pwr.st.code
    if s.pwr.st = .safeHold then refuse s 6 4 0xFF
    else if 4 ≤ target then stateAnswer s target now 0
    else
      let s0 := disarmShip s
      if target ≤ now then stateAnswer (enterAwake (if target = 0 then .run else .doze) s0) target target 0
      else
        let s1 := askRefusers target s0
        let bits := refuserMap s0 target
        if target = 3 then
          stateAnswer (if bits = 0 then { s1 with chg := { s1.chg with shipArmed := true } } else s1) target now bits
        else
          match granted s0 target with
          | 2 => stateAnswer { s1 with pwr := { s1.pwr with hibDue := some s.proto.replyNo } } target 2 bits
          | 1 => if now = 0 then stateAnswer (enterAwake .doze s1) target 1 bits else stateAnswer s1 target now bits
          | _ => stateAnswer s1 target now bits

/-- STATE_VOTE (R471). (DESIGN CHOICE 68, unsafe.) -/
def stateVoteOp : OpSpec where
  op := 0x0E02
  plen := .fixed 2
  run := fun q s =>
    let i := byteAt q.params 0
    if i < 8 ∨ 15 < i then noted s []
    else done0 { s with pwr := { s.pwr with votes := upd s.pwr.votes (Fin.ofNat 8 (i - 8)) (min 3 (byteAt q.params 1)) } }

/-- STATE_ACCOUNTING (R473). -/
def stateAccountingOp : OpSpec where
  op := 0x0E03
  plen := .fixed 1
  run := fun q s =>
    let out := s.hem.refusals.toList.flatMap le32
    if natBit (byteAt q.params 0) 0 then done { s with hem := { s.hem with refusals := Vector.replicate 16 0 } } out else done s out

/-- The last-wake record (R476). -/
def wakeRecord (s : State) : List Byte :=
  [byte s.hem.wakeSrc, byte s.hem.wakeLeft] ++ le16 s.hem.wakeDetail ++ s.hem.wakeTime ++ le16 s.hem.wakes ++ le16 s.hem.wakeFlags

/-- LAST_WAKE (R476). -/
def lastWakeOp : OpSpec where
  op := 0x0E04
  plen := .fixed 0
  run := fun _ s => done s (wakeRecord s)

/-- SHIP_ENTER. -/
def execShipEnter (q : Req) (s : State) : Host.Outcome State Fault Refusal := runOp shipEnterOp q s
/-- STATE_ENTER. -/
def execStateEnter (q : Req) (s : State) : Host.Outcome State Fault Refusal := runOp stateEnterOp q s
/-- STATE_VOTE. -/
def execStateVote (q : Req) (s : State) : Host.Outcome State Fault Refusal := runOp stateVoteOp q s
/-- STATE_ACCOUNTING. -/
def execStateAccounting (q : Req) (s : State) : Host.Outcome State Fault Refusal := runOp stateAccountingOp q s
/-- LAST_WAKE. -/
def execLastWake (q : Req) (s : State) : Host.Outcome State Fault Refusal := runOp lastWakeOp q s

end Sys2Proof.Machine
end

