-- ==== Sys2Proof/Machine/Hem.lean ====
section
/-! DEFINITION. Hem: the time count and its alarms, the PPS discipline, the periodic wake, backup memory, and the watchdog (chapter
12). -/

namespace Sys2Proof.Machine

/-! ## Alarms (R344-R347) -/

/-- The TIME of a BINARY alarm, a count. -/
def Alarm.at (a : Alarm) : Nat := leNat a.time

/-- The hundredth in which a count lies. (DEDUCED 72, unsafe.) -/
def hundredth (count : Nat) : Nat := count * 100 / 65536

/-- The calendar form of a count matches every byte whose MASK bit is clear; the reserved bits of the
weekday match anything (R338, R344, R345). (DEDUCED 71, unsafe.) -/
def Alarm.fits (a : Alarm) (count : Nat) : Bool :=
  (upto 8).all (fun k => natBit a.mask k ||
    decide (byteAt (calendarOf count) k % (if k = 7 then 8 else 256) = byteAt a.time k % (if k = 7 then 8 else 256)))

/-- An alarm is due at a count: BINARY, TIME is reached or passed; CALENDAR, the count has entered a
hundredth that matches, and not only stayed in the one in which the alarm was set. One that fired
at or after this count waits (R345, R347). (DEDUCED 142, unsafe.) -/
def Alarm.due (a : Alarm) (calendar : Bool) (count : Nat) : Bool :=
  a.enable && !a.skipped &&
    (if calendar then a.fits count && decide (a.setIn ≠ some (hundredth count)) else decide (a.at ≤ count)) &&
    (match a.firedAt with
      | some t => decide (t < count) && (!calendar || decide (hundredth t ≠ hundredth count))
      | none => true)

/-- A repeating alarm advances TIME by REPEAT until it lies after the count (R345). -/
def Alarm.advance (a : Alarm) (count : Nat) : Alarm :=
  let step := a.repeats * 65536
  if step = 0 ∨ count < a.at then a
  else { a with time := leBytes 8 (a.at + ((count - a.at) / step + 1) * step) }

/-- An alarm has fired: a one-shot BINARY alarm clears its ENABLE, a repeating one advances (R345). -/
def Alarm.fire (a : Alarm) (calendar : Bool) (count : Nat) : Alarm :=
  let b : Alarm := { a with firedAt := some count }
  if calendar then b else if a.repeats = 0 then { b with enable := false } else b.advance count

/-- Alarm `k` fires: its flag and its event (R345). -/
def fireAlarm (k : Fin 2) (s : State) : State :=
  almSet k { s with hem := { s.hem with
    alarms := upd s.hem.alarms k (s.hem.alarms[k].fire s.hem.calendar s.hem.count) } }

/-- ALARM_FIRE (R345). -/
def execAlarmFire (k : Fin 2) (s : State) : Host.Outcome State Fault Refusal :=
  .next (if s.hem.alarms[k].due s.hem.calendar s.hem.count then fireAlarm k s else s)

/-- An alarm falls due somewhere in the interval that a forward step skips, its end included (R347).
(DESIGN CHOICE 70, unsafe.) -/
def Alarm.skippedOver (a : Alarm) (calendar : Bool) (old new : Nat) : Bool :=
  if calendar then
    (upto (hundredth new - hundredth old)).any (fun k => a.due true (((hundredth old + k + 1) * 65536 + 99) / 100))
  else a.due false new

/-- The presented calendar has passed the end of its span between two counts: CAL_WRAP (R338).
(DEDUCED 144, unsafe.) -/
def wrapOver (old : Nat) (s : State) : State :=
  if s.hem.calendar ∧ old < s.hem.count ∧ old / (calSpan * 65536) ≠ s.hem.count / (calSpan * 65536) then hemSet 0x80 s else s

/-- An alarm after a step: one that RTC_SET has passed over lies ahead again where the count is
stepped back below its TIME, and a count that has left the hundredth in which the alarm was set
may enter it (R345, R347). (DESIGN CHOICE 70, unsafe; DEDUCED 142, unsafe.) -/
def Alarm.stepped (old new : Nat) (a : Alarm) : Alarm :=
  { a with
    skipped := a.skipped && decide (a.at < new)
    setIn := if hundredth old = hundredth new then a.setIn else none }

/-- The count stepped by PPS or by domain time: an alarm due in a skipped interval fires once, with ALM_JUMP (R347). -/
def stepCount (d : Int) (s : State) : State :=
  let hits (k : Fin 2) : Bool :=
    decide (0 < d) && s.hem.alarms[k].skippedOver s.hem.calendar s.hem.count (s.hem.count + d.toNat)
  let h := s.hem.shift d
  let s1 : State := wrapOver s.hem.count { s with hem := { h with alarms := h.alarms.map (Alarm.stepped s.hem.count h.count) } }
  let s2 := if hits 0 then fireAlarm 0 s1 else s1
  let s3 := if hits 1 then fireAlarm 1 s2 else s2
  if hits 0 || hits 1 then hemSet 0x20 s3 else s3

/-- An alarm re-armed from a new count (R347). (DESIGN CHOICE 70, unsafe.) (DEDUCED 142, unsafe.) -/
def Alarm.rearm (a : Alarm) (calendar : Bool) (count : Nat) : Alarm :=
  let b : Alarm := { a with firedAt := none, skipped := false, setIn := none }
  if calendar then b
  else if a.repeats = 0 then { b with skipped := decide (a.at < count) }
  else if a.at < count then b.advance count
  else b

/-! ## The PPS discipline (R340-R343) -/

/-- The discipline enters a state, with its event (R341). -/
def setDisc (d : DiscSt) (s : State) : State :=
  pulseIf (decide (d ≠ s.hem.disc)) 517 { s with hem := { s.hem with
    disc := d, edges := 0
    discV := match d with
      | .off => 0
      | .tracking => s.hem.discV
      | _ => s.hem.discF } }

/-- The discipline after a time set or step by the domain time master: TRACKING returns to ACQUIRE
(R341). (DEDUCED 69, unsafe.) -/
def leaveTracking (s : State) : State := if s.hem.disc = .tracking then setDisc .acquire s else s

/-- The discipline after RTC_SET: TRACKING returns to ACQUIRE, and the count of ACQUIRE restarts (R339, R341). (DEDUCED 69, unsafe.) -/
def restartDisc (s : State) : State := if s.hem.disc = .acquire then setDisc .acquire s else leaveTracking s

/-- TIME_SUSPECT cleared, with its line (R335, R339). -/
def clearSuspect (s : State) : State := setLine 518 false { s with hem := { s.hem with suspect := false } }

/-- RTC_SET takes effect (R339, R347). (DEDUCED 69, unsafe.) -/
def applyRtc (count : Nat) (s : State) : State :=
  let h := s.hem
  restartDisc (clearSuspect { s with hem := { h with
    count := count, heldSet := none
    alarms := h.alarms.map (fun a => a.rearm h.calendar count) } })

/-- Clamp of DISC and DISC_F (R342, R343). -/
def clampDisc (x : Int) : Int := clampInt (-20000) 20000 x

/-- round(e × 10^8 / (65,536 × tau)) (R343). (DEDUCED 72, unsafe.) -/
def phaseRate (e : Int) (tau : Nat) : Int := roundDiv (e * 100000000) (65536 * tau)

/-- The phase error at an accepted edge (R343). -/
def Hem.phase (h : Hem) : Int := ofCode 16 (h.count % 65536)

/-- |e| is at least PPS_STEP, compared in fraction units (R343). -/
def Hem.mustStep (h : Hem) : Bool := decide (h.ppsStep * 65536 ≤ h.phase.natAbs * 1000000)

/-- The count stepped to the nearest whole second, with PPS_STEPPED (R343). -/
def ppsStepNow (s : State) : State := hemSet 0x40 (stepCount (-s.hem.phase) s)

/-- ACQUIRE ends at the edge that completes PPS_QUAL (R343). -/
def enterTracking (s : State) : State :=
  let e := if s.hem.mustStep then 0 else s.hem.phase
  let s1 := if s.hem.mustStep then ppsStepNow s else s
  setDisc .tracking { s1 with hem := { s1.hem with
    eStart := e, n := 0, eStartDue := false, discV := clampDisc (s1.hem.discF - phaseRate e s1.hem.tau) } }

/-- An accepted edge counted in ACQUIRE (R341, R343). -/
def acquireEdge (s : State) : State :=
  if s.hem.edges + 1 < s.hem.ppsQual then { s with hem := { s.hem with edges := s.hem.edges + 1 } } else enterTracking s

/-- An accepted edge in TRACKING (R343, R357). -/
def trackEdge (s : State) : State :=
  let h := s.hem
  if h.mustStep then
    let s1 := ppsStepNow s
    { s1 with hem := { s1.hem with eStart := 0, n := 0, eStartDue := false, discV := s1.hem.discF } }
  else if h.eStartDue then { s with hem := { h with eStart := h.phase, n := 0, eStartDue := false } }
  else if h.n + 1 ≠ h.tau then { s with hem := { h with n := h.n + 1 } }
  else
    let f := clampDisc (-(phaseRate (h.phase - h.eStart) h.tau - h.discV))
    { s with hem := { h with discF := f, discV := clampDisc (f - phaseRate h.phase h.tau), eStart := h.phase, n := 0 } }

/-- An accepted edge: a held RTC_SET is applied at it, with the fraction zero; otherwise the
discipline acts (R339, R341, R343). (DEDUCED 69, unsafe.) -/
def acceptEdge (s : State) : State :=
  match s.hem.heldSet with
  | some t =>
    let s1 := if s.hem.disc = .holdover then setDisc .acquire s else s
    pulse 515 (applyRtc (t / 65536 * 65536) s1)
  | none =>
    match s.hem.disc with
    | .off => s
    | .acquire => acquireEdge s
    | .tracking => trackEdge s
    | .holdover => acquireEdge (setDisc .acquire s)

/-- PPS_EDGE: an edge whose interval passed or failed the range check of R16; a rejected one sets PPS_RANGE and restarts the count of
ACQUIRE (R16, R25, R341). -/
def execPpsEdge (inRange : Bool) (s : State) : Host.Outcome State Fault Refusal :=
  let s1 : State := { s with hem := { s.hem with ppsAbsent := false } }
  .next (if inRange then acceptEdge s1
    else
      let s2 := landSet 0x8000 s1
      if s.hem.disc = .acquire then { s2 with hem := { s2.hem with edges := 0 } } else s2)

/-- PPS_ABSENT: no edge for 1.5 s. TRACKING holds over, the count of ACQUIRE restarts, and a held RTC_SET is discarded (R16, R339, R341). -/
def execPpsAbsent (s : State) : Host.Outcome State Fault Refusal :=
  let s1 : State := { s with hem := { s.hem with ppsAbsent := true, heldSet := none } }
  let s2 := pulseIf s.hem.heldSet.isSome 516 s1
  .next (match s.hem.disc with
    | .tracking => setDisc .holdover s2
    | .acquire => { s2 with hem := { s2.hem with edges := 0 } }
    | _ => s2)

/-! ## The supply of Hem, and backup memory -/

/-- Backup memory compared with its check byte (R349). -/
def checkBackup (s : State) : State :=
  { s with hem := { s.hem with bkpBad := decide (crc8 s.hem.backup.toList ≠ s.hem.check.toNat) } }

/-- The time count and backup memory, its check byte with it, no longer guaranteed: whatever they hold is free (R335).
(DEDUCED 143, safe.) -/
def Hem.unkept (ctr : Nat) (h : Hem) : Hem :=
  { h with
    count := Config.freeNat ctr % 2 ^ 64
    backup := mapIdx h.backup (fun k _ => byte (Config.freeNat (ctr + 1 + k)))
    check := byte (Config.freeNat (ctr + 65)) }

/-- TIME_SUSPECT: the Hem supply has fallen below 1.50 V; the time count and backup memory are no
longer guaranteed (R335, R349). (DEDUCED 143, safe.) -/
def execTimeSuspect (s : State) : Host.Outcome State Fault Refusal :=
  .next (checkBackup (setLine 518 true { s with
    free := s.free + 66
    hem := { s.hem.unkept s.free with suspect := true } }))

/-- AUXIN feeds the internal bias: it is the charge source in use, and no source of the OR (R301,
R308, R333). (DEDUCED 74, unsafe.) -/
def State.onAux (s : State) : Bool := !s.off && decide (s.chg.source = .auxin)

/-- HEM_POR: Hem resets; time, backup memory and every Hem setting return to their reset values. Hem's supply is that of the highest
source of its OR, so nothing else has power either, but where AUXIN feeds the internal bias; there the lines of its flags follow them.
SEQ starts from the unique identity (R301, R333, R335, R356, R401, R426, R428, R451). The model's own count of ticks, by which it dates,
goes on. (DEDUCED 74, unsafe.) -/
def execHemPor (s : State) : Host.Outcome State Fault Refusal :=
  let s1 := if s.onAux then s else losePower (stopManager s)
  let s2 : State := { s1 with
    hem := { ticks := s.hem.ticks, wdStart := s.hem.ticks, flags := s.hem.flags &&& 0x0002 }
    dom := { s1.dom with vinMem := false, restartDue := false }
    hp := { s1.hp with ctl := 7, tScl := 0x19, tSda := 0x19 }
    seam := { s1.seam with addr := none, addrNext := none, seq := leNat (uniqueId s) % 65536 } }
  .next (setLine 513 false (setLine 512 false (setLine 518 true (hemSet 0x2 s2))))

/-- HOLDUP_LOW: the hold-up cell crosses 2.00 V (R334). -/
def execHoldupLow (low : Bool) (s : State) : Host.Outcome State Fault Refusal :=
  .next { s with hem := { s.hem with holdupLow := low } }

/-- CAL_WRAP: the presented calendar passes 2099. The count that passes the span sets the flag itself; the row acts while the calendar
shows the first hundredth of 2000 after it (R338). (DEDUCED 144, unsafe.) -/
def execCalWrap (s : State) : Host.Outcome State Fault Refusal :=
  .next (if s.hem.calendar ∧ calSpan * 65536 ≤ s.hem.count ∧ hundredth (s.hem.count % (calSpan * 65536)) = 0 then hemSet 0x80 s else s)

/-- PERIODIC_WAKE: the interval ends; the module wakes whether or not event 514 is enabled (R348, R475). -/
def execPeriodicWake (s : State) : Host.Outcome State Fault Refusal :=
  .next (if s.hem.periodic = 0 ∨ s.off then s else pulse 514 (wakeReq .periodic s))

/-! ## The watchdog (R350-R355) -/

/-- FIRST begins (R352, R353, R355). -/
def Hem.first (start : Nat) (h : Hem) : Hem := { h with wd := h.wdLast, wdNext := none, wdSt := .first, wdStart := start, checkins := [] }

/-- Every task of the mask has checked in before a stamp (R353). -/
def Hem.rollOk (h : Hem) (stamp : Nat) : Bool :=
  (upto 16).all (fun k => !h.wd.mask.getLsbD k || h.checkins.any (fun x => decide (x.1 = k) && decide (x.2 < stamp)))

/-- A service stamped `stamp` begins a new period; later check-ins belong to the next change (R352, R353, R355). -/
def Hem.service (stamp : Nat) (h : Hem) : Hem :=
  let c := h.wdLast
  { h with wd := c, wdNext := none, wdSt := if c.c = 0 then .opened else .closed, wdStart := stamp
           checkins := h.checkins.filter (fun x => decide (stamp ≤ x.2)) }

/-- Expiry: the pulse begins (R352, R354). -/
def Hem.expire (h : Hem) : Hem := { h with wdSt := .pulse, wdPulseAt := h.ticks }

/-- Hem tick at which the present period or FIRST ends (R352). -/
def Hem.wdEnd (h : Hem) : Nat := h.wdStart + (if h.wdSt = .first then 8 * h.wd.t else h.wd.t)

/-- The pulse in Hem ticks, ceil(WDO_MS × 32.768) (R354). -/
def WdogCfg.pulseTicks (c : WdogCfg) : Nat := (c.wdoMs * 32768 + 999) / 1000

/-- A WDI change judged by its stamp; one stamped before FIRST began is not stamped in FIRST (R352, R353). (DEDUCED 73, unsafe.) -/
def Hem.judgeWdi (stamp : Nat) (h : Hem) : Hem :=
  match h.wdSt with
  | .disabled | .pulse => h
  | .first => if h.wdStart ≤ stamp ∧ stamp < h.wdEnd ∧ h.rollOk stamp then h.service stamp else h
  | .closed | .opened =>
    if stamp < h.wdStart + h.wd.c then h.expire
    else if stamp < h.wdEnd ∧ h.rollOk stamp then h.service stamp
    else h

/-- WDI_CHANGE: a change of level accepted, with the Hem tick of its stamp (R17, R352). -/
def execWdiChange (level : Bool) (stamp : Nat) (s : State) : Host.Outcome State Fault Refusal :=
  .next (if level = s.hem.wdi then s
    else
      let h : Hem := { s.hem with wdi := level }
      { s with hem := h.judgeWdi stamp })

/-- WDOG_OPEN: the closed window ends at tick s + C (R351). -/
def execWdogOpen (s : State) : Host.Outcome State Fault Refusal :=
  .next (if s.hem.wdSt = .closed ∧ s.hem.wdStart + s.hem.wd.c ≤ s.hem.ticks then { s with hem := { s.hem with wdSt := .opened } } else s)

/-- WDOG_EXPIRY: at tick 8 × T of FIRST, or s + T, no counted change has been accepted; WDO is driven low (R352, R354). -/
def execWdogExpiry (s : State) : Host.Outcome State Fault Refusal :=
  .next (if (s.hem.wdSt = .first ∨ s.hem.wdSt = .closed ∨ s.hem.wdSt = .opened) ∧ s.hem.wdEnd ≤ s.hem.ticks then
      { s with hem := s.hem.expire }
    else s)

/-- WDOG_PULSE_END: the pulse has lasted its ticks; FIRST follows, or DISABLED where ENABLE has been cleared meanwhile (R354, R355). -/
def execWdogPulseEnd (s : State) : Host.Outcome State Fault Refusal :=
  .next (if s.hem.wdSt ≠ .pulse ∨ s.hem.ticks < s.hem.wdPulseAt + s.hem.wd.pulseTicks then s
    else if s.hem.wdLast.enable then { s with hem := s.hem.first s.hem.ticks }
    else { s with hem := { s.hem with wd := { s.hem.wd with enable := false }, wdSt := .disabled } })

/-- WDO is driven low (R354). -/
def State.wdoLow (s : State) : Bool := decide (s.hem.wdSt = .pulse)

/-- A watchdog configuration written (R355): ENABLE set from 0 starts FIRST at the next Hem tick;
ENABLE cleared acts at once, after a pulse; anything else waits for the next start of a period or
of FIRST. (DEDUCED 73, unsafe.) -/
def Hem.writeWdog (c : WdogCfg) (h : Hem) : Hem :=
  let n : Hem := { h with wdNext := some c }
  match h.wdSt with
  | .pulse => n
  | .disabled => if c.enable then n.first (h.ticks + 1) else n
  | _ => if c.enable then n else { n with wd := { h.wd with enable := false }, wdSt := .disabled }

/-! ## The opcodes of the clock -/

/-- The count that a written time names (R337, R339). -/
def countOf (calendar : Bool) (t : List Byte) : Option Nat := if calendar then calendarCount t else some (leNat t)

/-- RTC_SET (R339, R357). -/
def rtcSetOp : OpSpec where
  op := 0x0B01
  plen := .fixed 9
  run := fun q s =>
    if s.hem.heldSet.isSome then busy s 0
    else
      match countOf s.hem.calendar (q.params.take 8) with
      | none => noted s [1]
      | some n =>
        if natBit (byteAt q.params 8) 0 then
          ({ s with hem := { s.hem with heldSet := some n } }, .reply .started [0])
        else done (applyRtc n s) [0]

/-- RTC_GET (R357); the hold-up cell's voltage is a measurement, and free. (PRESUMED 46, safe.) -/
def rtcGetOp : OpSpec where
  op := 0x0B02
  plen := .fixed 0
  run := fun _ s =>
    let z : List Byte := [0, 0]
    done { s with free := s.free + 2 } (s.hem.rtc ++ le16 (hemWord s) ++ [byte (b2n s.hem.calendar), byte s.hem.disc.code] ++
      le32 (toCode 32 s.hem.discV) ++ le32 (toCode 32 s.hem.discF) ++ le16 (Config.freeNat (s.free + 1)) ++ z)

/-- RTC_MODE (R336, R346). -/
def rtcModeOp : OpSpec where
  op := 0x0B03
  app := true
  plen := .fixed 1
  run := fun q s =>
    let m := decide (byteAt q.params 0 = 1)
    done0 (if m = s.hem.calendar then s
      else { s with hem := { s.hem with
        calendar := m, alarms := s.hem.alarms.map (fun a => { a with enable := false }) } })

/-- ALARM_SET (R344, R345). -/
def alarmSetOp : OpSpec where
  op := 0x0B04
  plen := .fixed 20
  bad := fun _ p => firstBad p [{ off := 0, hi := 1 }]
  run := fun q s =>
    let b := q.params.drop 4
    done0 { s with hem := { s.hem with
      alarms := upd s.hem.alarms (Fin.ofNat 2 (byteAt q.params 0))
        { enable := natBit (byteAt b 0) 0, mask := byteAt b 1, time := (b.drop 4).take 8, repeats := fieldAt b 12 4
          setIn := some (hundredth s.hem.count) } } }

/-- PERIODIC_SET (R348). -/
def periodicSetOp : OpSpec where
  op := 0x0B05
  app := true
  plen := .fixed 4
  run := fun q s =>
    let n := fieldAt q.params 0 4
    doneOr (decide (5529600 < n)) { s with hem := { s.hem with periodic := min n 5529600 } } []

/-- A first backup byte and a count within bytes 0-63 (R357, R364). -/
def backupBad (_ : Nat) (p : List Byte) : Option Nat :=
  (firstBad p [{ off := 0, hi := 63 }, { off := 1, lo := 1, hi := 64 }]).or (if 64 < byteAt p 0 + byteAt p 1 then some 1 else none)

/-- BACKUP_WRITE (R349). -/
def backupWriteOp : OpSpec where
  op := 0x0B06
  plen := .counted 2 1 1
  bad := backupBad
  run := fun q s =>
    let first := byteAt q.params 0
    let n := byteAt q.params 1
    let m := mapIdx s.hem.backup (fun k b => if first ≤ k ∧ k < first + n then q.params.getD (2 + k - first) 0 else b)
    done0 { s with hem := { s.hem with backup := m, check := byte (crc8 m.toList) } }

/-- BACKUP_READ (R349). -/
def backupReadOp : OpSpec where
  op := 0x0B07
  plen := .fixed 2
  bad := backupBad
  run := fun q s =>
    let s1 := checkBackup s
    done s1 ((s.hem.backup.toList.drop (byteAt q.params 0)).take (byteAt q.params 1) ++ [byte (b2n s1.hem.bkpBad)])

/-- The discipline's settings written (R357). -/
def ppsWrite (p : List Byte) (s : State) : State :=
  let h := s.hem
  let en := natBit (byteAt p 0) 0
  let preset := natBit (byteAt p 0) 1
  let qual := max 2 (byteAt p 1)
  let tau := clampNat 16 4096 (fieldAt p 2 2)
  let f := if preset then clampDisc (s32At p 8) else h.discF
  let restart := decide (tau ≠ h.tau) || decide (qual ≠ h.ppsQual)
  let h1 : Hem := { h with
    ppsQual := qual, tau := tau, ppsStep := clampNat 100 500000 (fieldAt p 4 4), discF := f
    discV := if h.disc = .acquire ∨ h.disc = .holdover then f else h.discV
    edges := if restart then 0 else h.edges
    n := if preset || restart then 0 else h.n
    eStartDue := h.eStartDue || (decide (h.disc = .tracking) && (preset || restart)) }
  let s1 : State := { s with hem := h1 }
  if en = false then setDisc .off s1 else if h.disc = .off then setDisc .acquire s1 else s1

/-- PPS_CONFIG (R341, R357). -/
def ppsConfigOp : OpSpec where
  op := 0x0B08
  app := true
  plen := .fixed 12
  run := fun q s => done0 (ppsWrite q.params s)

/-! ## The opcodes of the watchdog -/

/-- The watchdog configuration is frozen (R350, R355). (DEDUCED 73, unsafe.) -/
def Hem.wdLocked (h : Hem) : Bool := h.wd.enable && h.wd.lock

/-- The watchdog fields of a record, and whether one acts as the nearer end (R350). -/
def wdogOf (b : List Byte) (mask : BitVec 16) : WdogCfg × Bool :=
  let t := clampNat 328 1966080 (fieldAt b 0 4)
  let c := min (fieldAt b 4 4) (t - 4)
  let w := clampNat 1 1000 (fieldAt b 8 2)
  ({ t := t, c := c, wdoMs := w, enable := natBit (byteAt b 10) 0, lock := natBit (byteAt b 10) 1, mask := mask },
    decide (t ≠ fieldAt b 0 4) || decide (c ≠ fieldAt b 4 4) || decide (w ≠ fieldAt b 8 2))

/-- WDOG_CONFIG (R350, R355). -/
def wdogConfigOp : OpSpec where
  op := 0x0C01
  app := true
  plen := .fixed 12
  run := fun q s =>
    if s.hem.wdLocked then locked s 0
    else
      let c := wdogOf q.params s.hem.wdLast.mask
      doneOr c.2 { s with hem := s.hem.writeWdog c.1 } []

/-- A roll-call mask written: it takes effect at the next start of a period or of FIRST (R353, R355).
(DEDUCED 73, unsafe.) -/
def Hem.writeMask (m : BitVec 16) (h : Hem) : Hem := { h with wdNext := some { h.wdLast with mask := m } }

/-- ROLLCALL_CONFIG (R353, R355). -/
def rollcallConfigOp : OpSpec where
  op := 0x0C02
  app := true
  plen := .fixed 2
  run := fun q s =>
    if s.hem.wdLocked then locked s 0
    else done0 { s with hem := s.hem.writeMask (BitVec.ofNat 16 (fieldAt q.params 0 2)) }

/-- A check-in latched: the earliest and the newest of each task are kept (R353). -/
def Hem.checkIn (k : Nat) (h : Hem) : Hem :=
  let mine := h.checkins.filter (fun x => decide (x.1 = k))
  let others := h.checkins.filter (fun x => decide (x.1 ≠ k))
  { h with checkins := others ++ mine.take 1 ++ [(k, h.ticks)] }

/-- TASK_CHECKIN (R353). -/
def taskCheckinOp : OpSpec where
  op := 0x0C03
  plen := .fixed 1
  bad := fun _ p => firstBad p [{ off := 0, hi := 15 }]
  run := fun q s =>
    let k := byteAt q.params 0
    if s.hem.wd.mask.getLsbD k = false then noted s []
    else if s.hem.wdSt = .pulse then done0 s
    else done0 { s with hem := s.hem.checkIn k }

/-- WDOG_STATUS (R357). -/
def wdogStatusOp : OpSpec where
  op := 0x0C04
  v := 2
  plen := .fixed 0
  run := fun _ s =>
    let h := s.hem
    let set := (upto 16).foldl (fun a k => a + (if h.checkins.any (fun x => decide (x.1 = k)) then 2 ^ k else 0)) 0
    let z : List Byte := [0, 0]
    done s ([byte h.wdSt.code, byte (b2n h.wd.enable + b2n h.wd.lock * 2 + b2n h.wdi * 4)] ++ le16 h.wd.mask.toNat ++ le16 set ++ z ++
      le32 (h.ticks - h.wdStart) ++ le32 h.wd.t ++ le32 h.wd.c ++ le16 h.wd.wdoMs)

/-- RTC_SET. -/
def execRtcSet (q : Req) (s : State) : Host.Outcome State Fault Refusal := runOp rtcSetOp q s
/-- RTC_GET. -/
def execRtcGet (q : Req) (s : State) : Host.Outcome State Fault Refusal := runOp rtcGetOp q s
/-- RTC_MODE. -/
def execRtcMode (q : Req) (s : State) : Host.Outcome State Fault Refusal := runOp rtcModeOp q s
/-- ALARM_SET. -/
def execAlarmSet (q : Req) (s : State) : Host.Outcome State Fault Refusal := runOp alarmSetOp q s
/-- PERIODIC_SET. -/
def execPeriodicSet (q : Req) (s : State) : Host.Outcome State Fault Refusal := runOp periodicSetOp q s
/-- BACKUP_WRITE. -/
def execBackupWrite (q : Req) (s : State) : Host.Outcome State Fault Refusal := runOp backupWriteOp q s
/-- BACKUP_READ. -/
def execBackupRead (q : Req) (s : State) : Host.Outcome State Fault Refusal := runOp backupReadOp q s
/-- PPS_CONFIG. -/
def execPpsConfig (q : Req) (s : State) : Host.Outcome State Fault Refusal := runOp ppsConfigOp q s
/-- WDOG_CONFIG. -/
def execWdogConfig (q : Req) (s : State) : Host.Outcome State Fault Refusal := runOp wdogConfigOp q s
/-- ROLLCALL_CONFIG. -/
def execRollcallConfig (q : Req) (s : State) : Host.Outcome State Fault Refusal := runOp rollcallConfigOp q s
/-- TASK_CHECKIN. -/
def execTaskCheckin (q : Req) (s : State) : Host.Outcome State Fault Refusal := runOp taskCheckinOp q s
/-- WDOG_STATUS. -/
def execWdogStatus (q : Req) (s : State) : Host.Outcome State Fault Refusal := runOp wdogStatusOp q s

end Sys2Proof.Machine
end

