-- ==== Sys2Proof/Machine/HostPort.lean ====
section
/-! DEFINITION. The two-wire host port: pointer, windows, DOORBELL, port registers, reads, timeouts and waking (chapter 14). -/

namespace Sys2Proof.Machine

/-- The port engine is powered (R411, R467, R479). -/
def portLive (s : State) : Bool := s.hp.engine && !s.off

/-- The port takes part in transactions: it is live, and awaits no STOP after a reset of its state (R395). -/
def portHears (s : State) : Bool := portLive s && !s.hp.await

/-- The port acknowledges what is written to it (R395, R411). -/
def portAnswers (s : State) : Bool := portHears s && !s.hp.deaf

/-- A write transaction whose bytes are acknowledged is in progress, its pointer taken (R395, R397, R411). -/
def portWrites (s : State) : Bool := portAnswers s && s.hp.txn

/-- Port state is reset: the port waits for a START or STOP (R395, R410). -/
def Hp.resetPort (h : Hp) : Hp := { h with txn := false, await := true, deaf := false, nacked := false, snap := none }

/-- The pointer after a data byte written: its low six bits increase, within the page (R398). -/
def pageNext (p : Nat) : Nat := p / 64 * 64 + (p % 64 + 1) % 64

/-- A written byte is acknowledged: the pointer moves on (R398). -/
def ackByte (s : State) : State := { s with hp := { s.hp with ptr := pageNext s.hp.ptr } }

/-! ## DOORBELL (R404, R405) -/

/-- The first LEN bytes of the command window are submitted as one command: any unread reply is discarded, and the command waits for the
manager (R404, R405). -/
def submit (len : Nat) (s : State) : State :=
  let bs := Mem.reads s.hp.win 0 len
  let s1 := submitted { s with hp := { s.hp with len := len } }
  if s.proto.running then receive .host false s.hem.ticks bs (resume s1)
  else { s1 with proto := { s1.proto with raw := s1.proto.raw ++ [(.host, bs, s.hem.ticks, false)] } }

/-- The reply is marked taken (R405). It has then left the module (R541). -/
def takeReply (s : State) : State :=
  if s.hp.st = .replyReady then adoptAddress { s with hp := { s.hp with st := .idle, untaken := s.hp.untaken.dropLast } } else s

/-- DOORBELL acts on a value (R404). -/
def doorbell (v : Nat) (s : State) : State :=
  let len := v % 1024
  if s.hp.st = .busy then nackBusy s
  else if 512 < len then hpSet 0x20 s
  else if len ≠ 0 then submit len s
  else if natBit v 15 then takeReply s
  else s

/-- DOORBELL written in one transaction: its pointer is taken, the low byte is kept, and the pointer moves on; in BUSY the low byte is the
first refused, and the pointer stays at it (R397, R398, R404, R405). (DEDUCED 75, safe.) -/
def writeDoorbell (v : Nat) (s : State) : State :=
  let s1 : State := { s with hp := { s.hp with txn := true, nacked := false, snap := none, ptr := 0x0052 } }
  if s.hp.st = .busy then nackBusy s1
  else doorbell v { s1 with hp := { s1.hp with doorLo := byte v, ptr := 0x0054 } }

/-- DOORBELL_SUBMIT: a value with LEN 1-512, or one with LEN 513-1,023, which submits nothing (R404). -/
def execDoorbellSubmit (v : BitVec 16) (s : State) : Host.Outcome State Fault Refusal :=
  .next (if portAnswers s ∧ 1 ≤ v.toNat % 1024 then writeDoorbell v.toNat s else s)

/-- DOORBELL_TAKE: a value with LEN 0 and TAKE 1, or one with LEN 513-1,023, which takes nothing (R404). -/
def execDoorbellTake (v : BitVec 16) (s : State) : Host.Outcome State Fault Refusal :=
  let len := v.toNat % 1024
  .next (if portAnswers s ∧ (len = 0 ∧ natBit v.toNat 15 ∨ 512 < len) then writeDoorbell v.toNat s else s)

/-! ## Bytes written at the pointer -/

/-- POINTER_SET: the second pointer byte is acknowledged, and the pointer is taken (R397). -/
def execPointerSet (lo hi : Byte) (s : State) : Host.Outcome State Fault Refusal :=
  .next (if portAnswers s then
      { s with hp := { s.hp with ptr := lo.toNat + 256 * hi.toNat, txn := true, nacked := false, snap := none } }
    else s)

/-- The pointer lies in the command window (R399). -/
def inCommandWindow (p : Nat) : Bool := decide (0x8000 ≤ p) && decide (p ≤ 0x81FF)

/-- COMMAND_WINDOW_WRITE: the byte is stored, or refused in BUSY (R398, R405, R406). -/
def execCommandWindowWrite (b : Byte) (s : State) : Host.Outcome State Fault Refusal :=
  .next (if portWrites s ∧ inCommandWindow s.hp.ptr then
      if s.hp.st = .busy then nackBusy s
      else ackByte { s with hp := { s.hp with win := s.hp.win.write (s.hp.ptr - 0x8000) b } }
    else s)

/-- What a W1C byte of the pointer space clears: the land status word, a cell's FLAGS, HP_FLAGS; none where the pointer names no such byte
(R25, R64, R399, R400, R403). -/
def w1cAt (p : Nat) (b : Byte) (s : State) : Option State :=
  if 0x0034 ≤ p ∧ p ≤ 0x0037 then some (clearLand (b.toNat * 256 ^ (p - 0x0034)) s)
  else if p = 0x005A ∨ p = 0x005B then some (clearHp (b.toNat * 256 ^ (p - 0x005A)) s)
  else if 0x0400 ≤ p ∧ p ≤ 0x13FF ∧ (p % 16 = 12 ∨ p % 16 = 13) then
    some (clearCell (fin256 ((p - 0x0400) / 16)) (b.toNat * 256 ^ (p % 16 - 12)) s)
  else none

/-- W1C_WRITE (R400). -/
def execW1cWrite (b : Byte) (s : State) : Host.Outcome State Fault Refusal :=
  .next (if portWrites s then
      match w1cAt s.hp.ptr b s with
      | some t => ackByte t
      | none => s
    else s)

/-- A byte that is neither in the command window nor W1C: DOORBELL and the port registers take it,
every other discards it (R400, R401, R404). (DEDUCED 75, safe.) -/
def writeRegister (p : Nat) (b : Byte) (s : State) : State :=
  match p with
  | 0x0052 => { s with hp := { s.hp with doorLo := b } }
  | 0x0053 => doorbell (s.hp.doorLo.toNat + 256 * b.toNat) s
  | 0x0056 => { s with hp := { s.hp with ctl := b.toNat % 8 } }
  | 0x0057 => { s with hp := { s.hp with tScl := b.toNat } }
  | 0x0058 => { s with hp := { s.hp with tSda := b.toNat } }
  | _ => s

/-- REGISTER_WRITE (R400, R405). -/
def execRegisterWrite (b : Byte) (s : State) : Host.Outcome State Fault Refusal :=
  let p := s.hp.ptr
  .next (if portWrites s ∧ inCommandWindow p = false ∧ (w1cAt p b s).isNone then
      if s.hp.st = .busy ∧ (p = 0x0052 ∨ p = 0x0053) then nackBusy s
      else writeRegister p b (ackByte s)
    else s)

/-! ## Replies -/

/-- REPLY_READY: the complete reply is in the reply window (R405, R406). -/
def execReplyReady (s : State) : Host.Outcome State Fault Refusal :=
  .next (match s.proto.outbox with
    | r :: rest =>
      if s.hp.st = .busy then
        { s with
          hp := { s.hp with
            st := .replyReady, rpl := r.2.bytes, rplLen := r.2.bytes.length, untaken := s.hp.untaken ++ [r.1] }
          proto := { s.proto with outbox := rest } }
      else s
    | [] => s)

/-- REPLY_TAKE_TIMEOUT: 10 ms have passed since the oldest reply without TAKE was placed, and it counts as having left, also where a
submission has discarded it (R405, R541). -/
def execReplyTakeTimeout (s : State) : Host.Outcome State Fault Refusal :=
  .next (if s.hp.untaken = [] then s else adoptAddress { s with hp := { s.hp with untaken := s.hp.untaken.tail } })

/-! ## Timeouts, recovery and waking -/

/-- SCL_TIMEOUT, in a transaction addressed to the module, be it a read or its first bytes; the module's own hold is not counted (R409). -/
def execSclTimeout (s : State) : Host.Outcome State Fault Refusal :=
  .next (if portHears s ∧ s.hp.held = false then hpSet 0x1 { s with hp := s.hp.resetPort } else s)

/-- SDA_TIMEOUT: the module drives SDA low, for an acknowledgement or a data bit that is 0 (R410, R411). -/
def execSdaTimeout (s : State) : Host.Outcome State Fault Refusal :=
  .next (if portAnswers s then hpSet 0x2 { s with hp := s.hp.resetPort } else s)

/-- BUS_ABORT, in a transaction addressed to the module (R403, R410). -/
def execBusAbort (s : State) : Host.Outcome State Fault Refusal :=
  .next (if portHears s then hpSet 0x4 { s with hp := s.hp.resetPort } else s)

/-- RECOVERED: pulses before a START or STOP, after a reset of port state or a byte read that was not acknowledged (R410). -/
def execRecovered (s : State) : Host.Outcome State Fault Refusal :=
  .next (if portLive s ∧ (s.hp.await ∨ s.hp.nacked) then hpSet 0x8 s else s)

/-- TWO_WIRE_WAKE: the recogniser receives the module's address, holds SCL and requests a wake (R411). -/
def execTwoWireWake (s : State) : Host.Outcome State Fault Refusal :=
  .next (if s.hp.engine = false ∧ s.off = false then
      wakeReq .twoWire { s with hp := { s.hp with held := true, await := false, deaf := false, nacked := false, snap := none } }
    else s)

/-- ENGINE_HANDOVER: the engine runs; a held transaction goes on and SCL is released, and otherwise the port waits for a START or STOP
(R395, R411, R467). -/
def execEngineHandover (s : State) : Host.Outcome State Fault Refusal :=
  .next (if s.hp.engine = false ∧ s.off = false ∧ s.pwr.st ≠ .hibernate then
      if s.hp.held then { s with hp := { s.hp with engine := true, held := false } }
      else
        let h : Hp := { s.hp with engine := true }
        { s with hp := if s.hp.deaf then h else h.resetPort }
    else s)

/-- WAKE_SLOW: the engine does not run 5 ms after the request: SCL is released, and the rest of the transaction draws no acknowledgement
(R411). -/
def execWakeSlow (s : State) : Host.Outcome State Fault Refusal :=
  .next (if s.hp.held then hpSet 0x10 { s with hp := { s.hp with held := false, deaf := true } } else s)

/-! ## The pointer space as read (R397-R406) -/

/-- The byte at a pointer, as a read finds it (R399-R401, R406). (DEDUCED 75, safe; DEDUCED 76,
unsafe.) -/
def pointerByte (s : State) (p : Nat) : Byte :=
  if 0x0050 ≤ p ∧ p < 0x0060 then (portRegisters s).getD (p - 0x0050) 0
  else if inCommandWindow p then s.hp.win.read (p - 0x8000)
  else if 0x8200 ≤ p then (if s.hp.st = .replyReady then s.hp.rpl.getD (p - 0x8200) 0 else 0)
  else mirrorByte s p

/-- A pointer names a byte of a record whose reads are latched in 16 bytes (R400). -/
def snapped (p : Nat) : Bool := (mirrorAt p).isSome || (decide (0x0400 ≤ p) && decide (p < 0x1400))

/-- The record latched for the byte read next: at its first byte as it stands, and later the one latched (R400). -/
def Hp.latch (h : Hp) (s : State) : Option (Nat × List Byte) :=
  if snapped h.ptr then
    if h.ptr % 16 = 0 then some (h.ptr, (upto 16).map (fun k => pointerByte s (h.ptr + k)))
    else h.snap.filter (fun x => decide (x.1 = h.ptr / 16 * 16))
  else none

/-- What a data byte read in a transaction addressed to the module returns, and the port after it: the byte at the pointer, which then
increases by one; 0xFF in the rest of a transaction that draws no answer; nothing from a port that takes no part (R395, R397, R398, R400,
R411). -/
def portRead (s : State) : Option Byte × State :=
  if portHears s = false then (none, s)
  else if s.hp.deaf then (some 0xFF, s)
  else
    let snap := s.hp.latch s
    let b := match snap with
      | some x => x.2.getD (s.hp.ptr % 16) 0
      | none => pointerByte s s.hp.ptr
    (some b, { s with hp := { s.hp with ptr := (s.hp.ptr + 1) % 65536, snap := snap, nacked := false } })

end Sys2Proof.Machine
end

