-- ==== Sys2Proof/Machine/Events.lean ====
section
/-! DEFINITION. Event commands and the router's own happenings (chapter 16). -/

namespace Sys2Proof.Machine

/-- Lines that follow a flag; every other event has a pulse line (R451). -/
def conditionLine (e : Nat) : Bool :=
  (decide (256 ≤ e) && decide (e ≤ 447) && decide (e % 4 < 2)) ||
    [467, 480, 481, 482, 484, 485, 512, 513, 518, 572, 573, 574].contains e

/-- An event with the setting a command gives it: clearing ENABLE, or another sensing mode, clears its pending bit, claim and rearm
mark, and level sensing then judges the line anew; another mask alone keeps them (R456). -/
def Ev.configure (x : Ev) (enable : Bool) (sensing mask : Nat) : Ev :=
  let keep := enable && x.enable && decide (sensing = x.sensing)
  { x with
    enable := enable, sensing := sensing, mask := mask
    pending := if keep then x.pending else enable && decide (sensing = 1) && x.level
    claim := if keep then x.claim else none
    rearm := keep && x.rearm }

/-- An event released by the channel that claimed it: a rearmed event stays pending, and so does a level event whose line is high
(R453, R454, R459). -/
def Ev.release (x : Ev) : Ev :=
  if x.rearm then { x with claim := none, rearm := false }
  else { x with claim := none, pending := decide (x.sensing = 1) && x.level }

/-- SPURIOUS set, and its line (R460). -/
def setSpurious (s : State) : State := setLine 572 true { s with router := { s.router with spurious := true } }

/-- DONE_IGNORED set, and its line (R459). -/
def setDoneIgnored (s : State) : State := setLine 573 true { s with router := { s.router with doneIgnored := true } }

/-- The subscriber a claim leaves its channel (R463). -/
def subscriberOf : Source → Option Nat
  | .seam a => some a
  | _ => none

/-- EVENT_CONFIG (R390, R456). -/
def eventConfigOp : OpSpec where
  op := 0x0D01
  plen := .fixed 4
  app := true
  bad := fun _ p => firstBad p [{ off := 0, width := 2, hi := 1023 }]
  run := fun q s =>
    let e := fieldAt q.params 0 2
    let b := byteAt q.params 2
    if eventExists e then done0 (evChange (fun x => x.configure (natBit b 0) (b / 2 % 4) (byteAt q.params 3 % 16)) (fun _ => false) (evt e) s)
    else noted s []

/-- EVENT_CLAIM (R458, R460, R461, R463). -/
def eventClaimOp : OpSpec where
  op := 0x0D02
  plen := .fixed 1
  run := fun q s =>
    let c : Fin 4 := Fin.ofNat 4 (byteAt q.params 0)
    let r : Router := { s.router with ch := upd s.router.ch c { s.router.ch[c] with sub := subscriberOf q.src } }
    match r.lowest c.val with
    | some e => done (settle s { r with ev := upd r.ev e { r.ev[e] with claim := some c.val } }) (le16 e.val)
    | none =>
      let t : State := { s with router := r }
      done (if s.router.soak then t else setSpurious t) (le16 1023)

/-- EVENT_DONE (R459). -/
def eventDoneOp : OpSpec where
  op := 0x0D03
  plen := .fixed 4
  bad := fun _ p => firstBad p [{ off := 0, width := 2, hi := 1023 }]
  run := fun q s =>
    let e := fieldAt q.params 0 2
    if s.router.ev[evt e].claim = some (byteAt q.params 2 % 4) then done0 (evChange Ev.release (fun _ => false) (evt e) s)
    else doneOr (decide (e ≠ 1023)) (setDoneIgnored s) []

/-- SOAK_SET (R461). -/
def soakSetOp : OpSpec where
  op := 0x0D04
  plen := .fixed 1
  run := fun q s => done0 (settle s { s.router with soak := natBit (byteAt q.params 0) 0 })

/-- MODERATION_SET (R462). -/
def moderationSetOp : OpSpec where
  op := 0x0D05
  plen := .fixed 4
  app := true
  run := fun q s =>
    let c : Fin 4 := Fin.ofNat 4 (byteAt q.params 0)
    done0 { s with router := { s.router with
      ch := upd s.router.ch c { s.router.ch[c] with minInt := fieldAt q.params 2 2 } } }

/-- EVENT_PENDING_READ (R465). -/
def eventPendingReadOp : OpSpec where
  op := 0x0D06
  plen := .fixed 0
  run := fun _ s => done s (pendingBitmap s)

/-- EVENT_CONFIG. -/
def execEventConfig (q : Req) (s : State) : Host.Outcome State Fault Refusal := runOp eventConfigOp q s
/-- EVENT_CLAIM. -/
def execEventClaim (q : Req) (s : State) : Host.Outcome State Fault Refusal := runOp eventClaimOp q s
/-- EVENT_DONE. -/
def execEventDone (q : Req) (s : State) : Host.Outcome State Fault Refusal := runOp eventDoneOp q s
/-- SOAK_SET. -/
def execSoakSet (q : Req) (s : State) : Host.Outcome State Fault Refusal := runOp soakSetOp q s
/-- MODERATION_SET. -/
def execModerationSet (q : Req) (s : State) : Host.Outcome State Fault Refusal := runOp moderationSetOp q s
/-- EVENT_PENDING_READ. -/
def execEventPendingRead (q : Req) (s : State) : Host.Outcome State Fault Refusal := runOp eventPendingReadOp q s

/-- EVENT_LINE_EDGE: the line of an event changes. A pulse line rises and falls within one fabric
tick, so its rise is the whole pulse; a reserved number has no line (R451, R453, R454). (DEDUCED
83, safe.) -/
def execEventLineEdge (e : Fin 1024) (level : Bool) (s : State) : Host.Outcome State Fault Refusal :=
  .next (if eventExists e.val = false then s
    else if conditionLine e.val then setLine e level s else pulseIf level e s)

/-- MODERATION_DUE: the moderation timer of a channel reaches MIN_INT, and the channel presents what
is claimable and not presented (R462, R465). Without power there is no router. (DEDUCED 83, safe.) -/
def execModerationDue (ch : Fin 4) (s : State) : Host.Outcome State Fault Refusal :=
  .next (if s.off then s else settle s { s.router with ch := upd s.router.ch ch { s.router.ch[ch] with timing := false } })

end Sys2Proof.Machine
end

