-- ==== Sys2Proof/Machine/Firmware.lean ====
section
/-! DEFINITION. Firmware service and test access (chapter 19): staging, verification, commit, trial and revert, the lockstep mismatch, and
the test multiplexers. -/

namespace Sys2Proof.Machine

/-! ## Verification (R507, R508) -/

/-- The public key in VID: 64 bytes, zero while VID fails its check (R499, R508). (DESIGN CHOICE 6,
unsafe.) -/
def publicKey (s : State) : List Byte :=
  if checkFails s.fuse.checks[(1 : Fin 5)] then List.replicate 64 0
  else ((s.fuse.regionBytes 1).drop Config.vidKeyOffset).take 64

/-- A usable public key is held (R508). -/
def keyUsable (s : State) : Bool := (publicKey s).any (fun x => decide (x ≠ 0))

/-- The result of the checks of R508 on a bank, in order; of bytes the spec does not give, the result is free among those that the key held
and the bytes staged admit. (DEDUCED 86, unsafe; DESIGN CHOICE 88, unsafe; DEDUCED 109, safe.) -/
def verifyBank (s : State) (b : Fin 2) : Nat :=
  let f := s.fw
  let h := f.bytes b 0 128
  let len := fieldAt h 8 4
  if f.known b 128 = false then
    let open_ := if 0 < f.high[b] ∧ f.high[b] < 4224 then [2, 3] else if keyUsable s then [1, 2, 3, 4, 6, 7] else [2, 3, 4, 5]
    open_.getD (Config.freeNat s.free % open_.length) 2
  else if h.take 4 ≠ [0x48, 0x55, 0x41, 0x46] ∨ fieldAt h 4 2 ≠ 1 ∨ fieldAt h 6 2 ≠ 128 then 2
  else if len < 4096 ∨ 2097024 < len ∨ len % 4 ≠ 0 ∨ f.high[b] < 128 + len then 3
  else if fieldAt h 0x0C 4 ≠ 0x00010256 then 4
  else if keyUsable s = false then 5
  else if ecdsaVerify (publicKey s) (h.take 0x40) ((h.drop 0x40).take 32) ((h.drop 0x60).take 32) = false then 6
  else if f.known b (128 + len) = false then (if Config.freeBool s.free then 1 else 7)
  else if (h.drop 0x20).take 32 = sha256 (f.bytes b 128 len) then 1
  else 7

/-- A bank's state changed. -/
def setBank (b : Fin 2) (x : BankSt) (s : State) : State := { s with fw := { s.fw with st := upd s.fw.st b x } }

/-- State kind 9 with the state of a bank (R509). -/
def refuseBank (s : State) (b : Fin 2) : State × Ans := refuse s 9 (s.fw.st[b]).code b.val

/-- FW_VERIFY_DONE: the staging bank becomes VERIFIED or REJECTED; KEY_ABSENT tells whether a key was
found when one was looked for (R508, R510, R512). (DESIGN CHOICE 88, unsafe.) -/
def execFwVerifyDone (s : State) : Host.Outcome State Fault Refusal :=
  let b := s.fw.other
  .next (if s.proto.running ∧ s.fw.st[b] = .verifying then
      let r := verifyBank s b
      let f := s.fw
      let s1 : State := bump { s with fw := { f with
        verify := upd f.verify b r
        st := upd f.st b (if r = 1 then .verified else .rejected)
        keyAbsent := if r = 1 ∨ 5 ≤ r then decide (r = 5) else f.keyAbsent } }
      pulse 564 (if r = 1 then s1 else fwSet 0x8 s1)
    else s)

/-! ## Status (R520, R521) -/

/-- RESET_N acts in FULL mode (R377, R518). -/
def resetFull (s : State) : Bool :=
  match s.proto.inForce with
  | some i => natBit i.flags 1
  | none => false

/-- FW_FLAGS (R521). -/
def fwWord (s : State) : Nat :=
  b2n s.fw.patched * 128 + b2n (resetFull s) * 64 + b2n s.fw.keyAbsent * 32 + b2n (decide (s.fw.st[s.fw.bank] = .trial)) * 16 +
    s.fw.flags.toNat

/-- VERSION as the status record gives it: zero while the bank is EMPTY or STAGED (R520). -/
def shownVersion (f : Fw) (b : Fin 2) : List Byte :=
  if f.st[b] = .empty ∨ f.st[b] = .staged then [0, 0, 0] else f.ver[b]

/-- Seconds left in TRIAL (R520). (DEDUCED 110, safe.) -/
def trialLeft (s : State) : Nat :=
  match s.fw.trialAt with
  | some t => (quot ((60 * oneSecond - min (60 * oneSecond) (s.hem.ticks - t) : Nat) : Int) oneSecond).toNat
  | none => 0

/-- The firmware status record (R520). -/
def firmwareRecord (s : State) : List Byte :=
  let z2 : List Byte := [0, 0]
  [byte s.fw.bank.val, byte (s.fw.st[(0 : Fin 2)]).code, byte (s.fw.st[(1 : Fin 2)]).code, byte s.fw.verify[s.fw.other]] ++
    shownVersion s.fw 0 ++ shownVersion s.fw 1 ++ le16 (fwWord s) ++ le32 s.fw.high[s.fw.other] ++ [byte s.fw.cause, 0] ++
    le16 (trialLeft s) ++ le32 s.fw.starts ++ le32 s.hem.lockstep ++ z2 ++ z2

/-! ## The opcodes -/

/-- FW_STAGE (R511): its reply waits for the write. (DEDUCED 86, unsafe.) -/
def fwStageOp : OpSpec where
  op := 0x1001
  plen := .range 5 492
  bad := fun _ p => if 2097152 < fieldAt p 0 4 + (p.length - 4) then some 0 else none
  run := fun q s =>
    let f := s.fw
    let b := f.other
    if f.st[b] = .verifying then busy s 0
    else if f.st[f.bank] = .trial then refuseBank s f.bank
    else
      let t : State :=
        if f.st[b] = .staged then s
        else { s with fw := { f with
          st := upd f.st b .staged, verify := upd f.verify b 0, erased := upd f.erased b [], high := upd f.high b 0 } }
      ({ t with fw := { t.fw with verify := upd t.fw.verify b 0 } }, .defer (.stage (fieldAt q.params 0 4) (q.params.drop 4)))

/-- FW_VERIFY (R512). -/
def fwVerifyOp : OpSpec where
  op := 0x1002
  plen := .fixed 0
  run := fun _ s =>
    let f := s.fw
    let b := f.other
    if f.st[b] = .empty then absent s 0xFFFF
    else if f.st[b] = .verifying then busy s 0
    else
      started { s with fw := { f with
        st := upd f.st b .verifying, ver := upd f.ver b (if f.known b 128 then f.bytes b 0x10 3 else f.ver[b]) } }

/-- The conditions of R513, and the commit or revert that waits for its reply to leave (R513, R514, R516). -/
def commitWhen (hitless revert : Bool) (s : State) : State × Ans :=
  let f := s.fw
  if f.st[f.bank] ≠ .active then refuseBank s f.bank
  else if f.st[f.other] ≠ .verified then refuseBank s f.other
  else if hitless ∧ (s.dom.st = .rising ∨ s.dom.st = .falling) then refuseDom s
  else if hitless = false ∧ s.dom.st ≠ .down ∧ s.dom.st ≠ .latched then refuseDom s
  else if s.proto.cfg = .applying then refuse s 7 2 0xFF
  else if s.map.probe = .running then refuse s 2 (mapCode s) 0xFF
  else started { s with fw := { f with commit := some (hitless, revert, s.proto.replyNo) } }

/-- FW_COMMIT (R513). -/
def fwCommitOp : OpSpec where
  op := 0x1003
  plen := .fixed 1
  run := fun q s => commitWhen (natBit (byteAt q.params 0) 0) false s

/-- FW_STATUS (R520). -/
def fwStatusOp : OpSpec where
  op := 0x1004
  plen := .fixed 0
  run := fun _ s => done (bump s) (firmwareRecord s)

/-- FW_REVERT (R516). -/
def fwRevertOp : OpSpec where
  op := 0x1005
  plen := .fixed 0
  run := fun _ s => commitWhen true true s

/-- A digital signal code (R524). -/
def digitalCode (c : Nat) : Bool :=
  decide (1 ≤ c ∧ c ≤ 3) || decide (0x10 ≤ c ∧ c < 0x40) || decide (0x40 ≤ c ∧ c < 0x4C) || decide (c = 0x50) ||
    decide (0x1000 ≤ c ∧ c < 0x1330) || decide (0x1340 ≤ c ∧ c < 0x1370)

/-- An analogue signal code (R524). -/
def analogueCode (c : Nat) : Bool :=
  decide (0x8001 ≤ c ∧ c ≤ 0x8003) || decide (0x8010 ≤ c ∧ c < 0x8020) || decide (0x9000 ≤ c ∧ c < 0x9130) ||
    decide (0x9140 ≤ c ∧ c < 0x9170) || decide (0x9200 ≤ c ∧ c < 0x9300)

/-- TESTMUX_SELECT (R523-R525). (DEDUCED 92, unsafe.) -/
def testmuxSelectOp : OpSpec where
  op := 0x1201
  v := 2
  plen := .fixed 4
  run := fun q s =>
    let land := byteAt q.params 0
    let c := fieldAt q.params 2 2
    if s.fuse.lcState = 3 ∧ powerCritical c then refuse s 8 3 0xFF
    else if land < 6 ∧ (if land < 2 then analogueCode c else digitalCode c) then
      done0 { s with fw := { s.fw with mux := upd s.fw.mux (Fin.ofNat 6 land) (some c) } }
    else noted s []

/-- TESTMUX_RELEASE (R523). -/
def testmuxReleaseOp : OpSpec where
  op := 0x1202
  v := 2
  plen := .fixed 1
  run := fun q s =>
    let land := byteAt q.params 0
    if land = 0xFF then done0 (releaseAll s)
    else if land < 6 then done0 { s with fw := { s.fw with mux := upd s.fw.mux (Fin.ofNat 6 land) none } }
    else noted s []

/-- FW_STAGE. -/
def execFwStage (q : Req) (s : State) : Host.Outcome State Fault Refusal := runOp fwStageOp q s
/-- FW_VERIFY. -/
def execFwVerify (q : Req) (s : State) : Host.Outcome State Fault Refusal := runOp fwVerifyOp q s
/-- FW_COMMIT. -/
def execFwCommit (q : Req) (s : State) : Host.Outcome State Fault Refusal := runOp fwCommitOp q s
/-- FW_STATUS. -/
def execFwStatus (q : Req) (s : State) : Host.Outcome State Fault Refusal := runOp fwStatusOp q s
/-- FW_REVERT. -/
def execFwRevert (q : Req) (s : State) : Host.Outcome State Fault Refusal := runOp fwRevertOp q s
/-- TESTMUX_SELECT. -/
def execTestmuxSelect (q : Req) (s : State) : Host.Outcome State Fault Refusal := runOp testmuxSelectOp q s
/-- TESTMUX_RELEASE. -/
def execTestmuxRelease (q : Req) (s : State) : Host.Outcome State Fault Refusal := runOp testmuxReleaseOp q s

/-- A digital test land: high impedance until a signal is selected on it; a selected signal is of the hardware, and its level is free.
Without the I/O supply it is held low (R15, R523). (DESIGN CHOICE 170, safe.) -/
def State.tmd (s : State) (n : Fin 4) : Option Bool :=
  if s.off then some false
  else
    match s.fw.mux[Fin.ofNat 6 (n.val + 2)] with
    | some c => some (Config.freeBool (s.free + c))
    | none => none

/-! ## What happens to the firmware -/

/-- FW_STAGE_WRITE_DONE: the write completes and FW_STAGE replies; of a write that does not verify,
the bytes in flash are not fixed, and FLASH_ERR is set (R511). (DESIGN CHOICE 85, safe.) -/
def execFwStageWriteDone (ok : Bool) (s : State) : Host.Outcome State Fault Refusal :=
  .next (match s.proto.exec with
    | some (_, .stage off data) =>
      if ok then complete .done [] { s with fw := s.fw.program s.fw.other off data }
      else
        complete .doneWithNote [] (fwSet 0x4 { s with
          free := s.free + data.length, fw := s.fw.program s.fw.other off (freeBytes s data.length) })
    | _ => s)

/-- The copy of the boot selector that governs: the one with the higher number whose CRC-32 checks
(R514). (DESIGN CHOICE 169, unsafe.) -/
def Fw.governing (f : Fw) : SelCopy :=
  let a := f.selector[(0 : Fin 2)]
  let b := f.selector[(1 : Fin 2)]
  if a.good && (!b.good || decide (b.seq ≤ a.seq)) then a else b

/-- Both copies of the boot selector written with a bank marked to start next (R514). (DESIGN CHOICE 169, unsafe.) -/
def Fw.mark (f : Fw) (b : Fin 2) : Fw :=
  { f with selector := Vector.replicate 2 { seq := f.governing.seq + 1, bank := b, good := true } }

/-- A supply loss while the selector is written: it is through and the bank is marked, or it leaves
the old bank in force, the copy it was at perhaps with a CRC-32 that fails (R514). (DEDUCED 90,
unsafe.) (DESIGN CHOICE 169, unsafe.) -/
def Fw.cutMark (f : Fw) (ctr : Nat) : Fw :=
  match f.switchDue with
  | none => f
  | some _ =>
    if Config.freeBool ctr then f
    else
      let k : Fin 2 := if f.selector[(0 : Fin 2)] = f.governing then 1 else 0
      { f with switchDue := none, selector := upd f.selector k { f.selector[k] with good := f.selector[k].good && Config.freeBool (ctr + 1) } }

/-- COMMIT_STOP: 1 ms after the reply has left, the manager stops, with the command in hand completed,
and the selector is written with the staging bank marked to start next (R514, R516). A commit without HITLESS goes
on to a full start. (DEDUCED 90, unsafe; DEDUCED 97, safe.) -/
def execCommitStop (s : State) : Host.Outcome State Fault Refusal :=
  .next (match s.fw.commit with
    | some (hitless, revert, n) =>
      if replyLeft n s ∧ s.proto.exec = none ∧ s.proto.running then
        let t := stopManager s
        { t with fw := { t.fw with switchDue := some revert, causeNext := if revert then 8 else if hitless then 6 else 7 } }
      else s
    | none => s)

/-- TRIAL_CONFIRM: 60 s of running in TRIAL (R510). -/
def execTrialConfirm (s : State) : Host.Outcome State Fault Refusal :=
  .next (if s.proto.running ∧ s.fw.st[s.fw.bank] = .trial then
      { s with fw := { s.fw with st := upd s.fw.st s.fw.bank .active, trialAt := none } }
    else s)

/-- LOCKSTEP_MISMATCH: both processors stop at once, and a manager restart on the running bank follows (R519). -/
def execLockstepMismatch (s : State) : Host.Outcome State Fault Refusal :=
  .next (if s.proto.running ∧ s.off = false then
      let t := pulse 561 (fwSet 0x2 (stopManager s))
      { t with
        fw := { t.fw with lockstepOk := false, causeNext := 5 }
        hem := { t.hem with lockstep := satInc 0xFFFFFFFF t.hem.lockstep } }
    else s)

/-- The boot code chooses the bank: a bank in TRIAL is abandoned for the other one, which becomes ACTIVE and is marked in the selector; a
commit or revert, whose selector has been written, starts the VERIFIED staging bank, which enters TRIAL (R510, R514-R516).
The cause of the start is noted (R522). (DEDUCED 90, unsafe.) -/
def bootBank (s : State) : State :=
  let f := s.fw
  let n : Fw := { f with switchDue := none, causeNext := 0, commit := none, trialAt := none, starts := satInc 0xFFFFFFFF f.starts,
                         lockstepOk := true }
  if f.st[f.bank] = .trial then
    { s with fw := { n.mark f.other with
      bank := f.other, st := upd (upd f.st f.bank .rejected) f.other .active, verify := upd f.verify f.bank 8
      flags := f.flags ||| 0x1, cause := 9 } }
  else if f.switchDue.isSome ∧ f.st[f.other] = .verified then
    { s with fw := { n.mark f.other with
      bank := f.other, st := upd (upd f.st f.bank .verified) f.other .trial, trialAt := some s.hem.ticks, cause := f.causeNext } }
  else { s with fw := { n with cause := f.causeNext } }

/-- The events of a start: MGR_START, and those of a commit, a revert or an abandoned trial, whatever brought the start about
(R514-R516). (DEDUCED 91, safe.) -/
def startEvents (revert : Bool) (s : State) : State :=
  let s1 := pulse 560 s
  let trial := decide (s1.fw.st[s1.fw.bank] = .trial)
  if s1.fw.cause = 9 ∨ (trial ∧ revert) then pulse 566 s1
  else if trial then pulse 565 s1
  else s1

end Sys2Proof.Machine
end

