-- ==== Sys2Proof/Machine/SeamLink.lean ====
section
/-! DEFINITION. The Seam link and multi-module domains: training, reception and forwarding of frames, domain time, membership and
agreement (chapter 15). -/

namespace Sys2Proof.Machine

/-! ## Link states (R417-R420) -/

/-- Training begins (R417, R418). -/
def startTraining (p : Port) (s : State) : State :=
  setLink p .training (modPort p (fun y =>
    { y with
      lastWord := none, ack := false, marked := false, markNow := false, echoNow := false, echoIn := 0, dlyOk := false, burst := false
      pattern := false }) s)

/-- LINK_SYNC: clause 36 synchronisation is acquired; a DOWN port trains, unless a failed version delays it (R420). -/
def execLinkSync (p : Port) (s : State) : Host.Outcome State Fault Refusal :=
  let t := s.seam.port p
  let s1 := modPort p (fun y => { y with sync := true }) s
  .next (if s.off ∨ t.powered = false then s
    else if t.link = .down ∧ t.verWait = false then startTraining p s1 else s1)

/-- Synchronisation is lost, or a link word arrives while UP: a port that trains or is UP enters DOWN
(R420). (DEDUCED 77, unsafe.) -/
def loseLink (p : Port) (s : State) : State :=
  let t := s.seam.port p
  let s1 := modPort p (fun y => { y with sync := false }) s
  if t.link = .training ∨ t.link = .up then setLink p .down s1 else s1

/-- LINK_SYNC_LOST (R420). -/
def execLinkSyncLost (p : Port) (s : State) : Host.Outcome State Fault Refusal := .next (loseLink p s)

/-- A link word taken: how many identical words have arrived in a row; ACK after three; one word with MARK, sent next, once ACK is set and
received; a word with ECHO 256 ns after the end of a MARK, which is eight words of 32 ns; and LINK_DLY = (RT - 288 ns) / 2 from an ECHO
(R417, R418). (DEDUCED 163, unsafe.) -/
def PortSt.takeWord (w : BitVec 16) (rt : Nat) (t : PortSt) : PortSt :=
  let n := match t.lastWord with
    | some x => if x.1 = w then min 3 (x.2 + 1) else 1
    | none => 1
  let ack := t.ack || decide (3 ≤ n)
  let echo := w.getLsbD 11 && t.marked && !t.dlyOk
  let mark := ack && w.getLsbD 8 && !t.marked
  { t with
    lastWord := some (w, n), ack := ack, marked := t.marked || mark, markNow := mark
    echoIn := if w.getLsbD 10 then 8 else t.echoIn - 1, echoNow := decide (t.echoIn = 1) && !w.getLsbD 10
    dly := if echo then (quot ((rt : Int) - 2880) 2).toNat else t.dly, dlyOk := t.dlyOk || echo }

/-- Three identical words have arrived. -/
def PortSt.steady (t : PortSt) : Bool :=
  match t.lastWord with
  | some x => decide (3 ≤ x.2)
  | none => false

/-- The highest version in both ranges of a link word; none where they share none (R417, R420). -/
def commonVersion (w : BitVec 16) : Option Nat :=
  let hi := min 2 (w.toNat % 16)
  if max 1 (w.toNat / 16 % 16) ≤ hi then some hi else none

/-- The WAKE frames held for the link leave once it is UP, oldest first (R435). -/
def sendHeldWake (p : Port) (s : State) : State :=
  let x := s.seam.modPort p (fun y => { y with heldWake := [] })
  { s with
    seam := (s.seam.port p).heldWake.foldl (fun x f => x.onPort p { cls := 1, frame := f, reply := none, stream := none }) x }

/-- LINK_WORD: in TRAINING, three identical words fail the link where no version is shared, and bring it UP where they carry ACK and
LINK_DLY is measured; in UP a link word takes the port DOWN (R417-R420). -/
def execLinkWord (p : Port) (w : BitVec 16) (rt : Nat) (s : State) : Host.Outcome State Fault Refusal :=
  let t := (s.seam.port p).takeWord w rt
  let s1 := modPort p (fun _ => t) s
  .next (match (s.seam.port p).link with
    | .up => loseLink p s
    | .training =>
      if t.steady then
        match commonVersion w with
        | none => setLink p .down (seamSet 0x10 (modPort p (fun y => { y with verWait := true }) s1))
        | some v =>
          if w.getLsbD 8 && t.dlyOk then sendHeldWake p (setLink p .up (modPort p (fun y => { y with ver := v }) s1)) else s1
      else s1
    | _ => s)

/-- TRAINING_TIMEOUT: 10 ms without reaching UP (R420). -/
def execTrainingTimeout (p : Port) (s : State) : Host.Outcome State Fault Refusal :=
  .next (if (s.seam.port p).link = .training then setLink p .down s else s)

/-- VER_RETRY: the delay of 1 s is over; a synchronised DOWN port trains (R420). -/
def execVerRetry (p : Port) (s : State) : Host.Outcome State Fault Refusal :=
  let t := s.seam.port p
  let s1 := modPort p (fun y => { y with verWait := false }) s
  .next (if t.verWait ∧ t.link = .down ∧ t.sync ∧ t.powered then startTraining p s1 else s1)

/-- FAULTY: the 16th CRC failure within 10 ms; entry to FAULTY sets the flag FAULTY_SEEN (R420, R448). -/
def execFaulty (p : Port) (s : State) : Host.Outcome State Fault Refusal :=
  .next (if (s.seam.port p).link = .up then seamSet 0x8 (setLink p .faulty s) else s)

/-- FAULTY_SEEN: 100 ms in FAULTY; the port trains again (R420). -/
def execFaultySeen (p : Port) (s : State) : Host.Outcome State Fault Refusal :=
  .next (if (s.seam.port p).link = .faulty then startTraining p s else s)

/-- PROBE_BURST: a powered port that is DOWN sends its burst (R420). -/
def execProbeBurst (p : Port) (s : State) : Host.Outcome State Fault Refusal :=
  let t := s.seam.port p
  .next (if t.link = .down ∧ t.powered ∧ s.off = false then modPort p (fun y => { y with burst := true }) s else s)

/-! ## Phantom power (R416) -/

/-- A port sources phantom power: while VIN is usable, outside the second after an overload (R416). -/
def phantomOn (s : State) (p : Port) : Bool := vinUsable s && !(s.seam.port p).phOver

/-- The link word that a training port sends: versions 1 to 2, ACK, PH_SRC, and MARK or ECHO in the
one word that carries it (R417, R418). (DEDUCED 163, unsafe.) -/
def State.linkWord (s : State) (p : Port) : BitVec 16 :=
  let t := s.seam.port p
  BitVec.ofNat 16 (0x12 + b2n t.ack * 0x100 + b2n (phantomOn s p) * 0x200 + b2n t.markNow * 0x400 + b2n t.echoNow * 0x800)

/-- PH_OVERLOAD: more than 150 mA for 1 ms (R416). -/
def execPhOverload (p : Port) (s : State) : Host.Outcome State Fault Refusal :=
  .next (if phantomOn s p then seamSet 0x20 (modPort p (fun y => { y with phOver := true }) s) else s)

/-- PHANTOM_RESTORE: 1 s later the source turns on again (R416). -/
def execPhantomRestore (p : Port) (s : State) : Host.Outcome State Fault Refusal :=
  .next (modPort p (fun y => { y with phOver := false }) s)

/-! ## What a delivered frame does -/

/-- The source of a COMMAND frame: its SRC, or its arrival port and hops (R429). -/
def Frame.source (p : Port) (f : Frame) : Source := if Frame.srcNone f then .hop p f.hops else .seam (Frame.srcAddr f)

/-- A COMMAND frame is queued for execution (R429). (DEDUCED 8, safe.) -/
def actCommand (p : Port) (f : Frame) (at_ : Nat) (s : State) : State :=
  receive (Frame.source p f) (Frame.bcast f || Frame.domscope f) at_ f.payload (resume s)

/-- The version that a HELLO reply names: a whole reply of status DONE (R360, R361, R375). -/
def helloVersion (bs : List Byte) : Option Nat :=
  let n := bs.length
  let off := if byteAt bs 0 = 1 then 5 else 6
  let v := byteAt bs off
  if off + 3 ≤ n ∧ crc16 (bs.take (n - 2)) = fieldAt bs (n - 2) 2 ∧ byteAt bs 2 = 0 ∧ (v = 1 ∨ v = 2) then some v else none

/-- A REPLY frame answers the HELLO this module sent to a member (R375, R442). -/
def actReply (f : Frame) (s : State) : State :=
  match helloVersion f.payload with
  | some v => { s with proto := { s.proto with versions := noteVersion (.seam (Frame.srcAddr f)) v true s.proto.versions } }
  | none => s

/-- FAULT_N has been accepted low within the 100 µs before now: it has where no more than 2 Hem ticks have passed, and has not where 5
have; between these it is free (R241). (DESIGN CHOICE 26, safe.) -/
def faultNRecent (s : State) : Bool :=
  match s.dom.fnAt with
  | some t => decide (s.hem.ticks ≤ t + 2) || (decide (s.hem.ticks ≤ t + 4) && Config.freeBool s.free)
  | none => false

/-- A fault echo of a kind acted on; a RUN_FAULT echo acts only where FAULT_N had not been accepted low shortly before it was received
(R228, R241, R244, R434). -/
def actEcho (kind : Nat) (recentLow : Bool) (s : State) : State :=
  match kind with
  | 1 => if recentLow then s else faultIn 1 (seqSet 0x10 s)
  | 2 =>
    let s1 := capture 0x0A 2 s
    if s.dom.st = .down then enterLatched s1 else enterFalling true s1
  | 3 => enterFalling false (capture 0x0A 3 s)
  | _ => s

/-- A FAULT_ECHO frame received at a Hem tick: the first of each SRC and ECHO_ID within 1 s is acted on (R241, R434). -/
def actFaultEcho (f : Frame) (at_ : Nat) (recentLow : Bool) (s : State) : State :=
  let key := (Frame.srcAddr f, byteAt f.payload 1)
  let live := s.seam.echoes.filter (fun x => decide (at_ ≤ x.2.2 + oneSecond))
  let kind := byteAt f.payload 0
  if kind = 0 ∨ 3 < kind then s
  else if live.any (fun x => decide ((x.1, x.2.1) = key)) then { s with seam := { s.seam with echoes := live } }
  else actEcho kind recentLow { s with seam := { s.seam with echoes := (key.1, key.2, at_) :: live } }

/-- What an ANNOUNCE says of its sender (R441). -/
def memberOf (f : Frame) (now : Nat) : Member :=
  let b := f.payload
  { addr := Frame.srcAddr f, dom := byteAt b 1, vers := byteAt b 2, domain := fieldAt b 4 2 % 4096, tm := fieldAt b 6 2
    digest := (b.drop 8).take 8, uid := (b.drop 16).take 8, at_ := now }

/-- The version of what this module originates to a source (R375). -/
def versionTo (src : Source) (s : State) : Nat :=
  match s.proto.versions.find? (fun x => decide (x.1 = src)) with
  | some x => x.2.1
  | none => 2

/-- HELLO sent to a member heard for the first time; its TAG is not stated, and is free (R442).
(DESIGN CHOICE 80, safe.) -/
def sendHello (a : Nat) (s : State) : State :=
  let pkt := commandBytes (versionTo (.seam a) s) (Config.freeNat s.free) 0x0001 [2, 1, 0, 0]
  bump { s with seam := s.seam.originate 1 0 a 0 pkt none none }

/-- A member state learned while RISING or UP: LATCHED acts as a FAIL_START echo, FALLING as an ORDERLY one (R446). -/
def learnState (code : Nat) (s : State) : State :=
  if s.dom.st ≠ .rising ∧ s.dom.st ≠ .up then s
  else if code = 4 then actEcho 2 true s
  else if code = 3 then actEcho 3 true s
  else s

/-- An ANNOUNCE: the sender's record is kept; a member of this domain heard for the first time is sent HELLO, and its state is acted on
(R442, R446). -/
def actAnnounce (f : Frame) (s : State) : State :=
  let m := memberOf f s.hem.ticks
  let mine := decide (s.seam.domain ≠ 0) && decide (m.domain = s.seam.domain) && s.seam.addr.isSome
  let known := (domPeers s).any (fun x => decide (x.addr = m.addr))
  let s1 : State := { s with seam := { s.seam with members := m :: s.seam.members.filter (fun x => decide (x.addr ≠ m.addr)) } }
  let s2 := if mine && !known then sendHello m.addr s1 else s1
  if mine then learnState m.dom s2 else s2

/-- A step that domain time makes (R339, R341, R347, R439). -/
def domainStep (d : Int) (s : State) : State := seamSet 0x200 (leaveTracking (stepCount d s))

/-- A SYNC with its offset (R439). -/
def actSync (f : Frame) (at_ : Nat) (ofs : Int) (s : State) : State :=
  if isMaster s then s
  else
    let good := decide (byteAt f.payload 1 % 2 = 0)
    let s1 : State := { s with
      seam := { s.seam with ofs := ofs, lastSync := some at_ }
      hem := { s.hem with slewLeft := 0 } }
    let secs := roundDiv ofs 65536
    let step (d : Int) : State :=
      let t := domainStep d s1
      if good then clearSuspect t else t
    if 65536 < ofs.natAbs then step (-ofs)
    else if s.hem.disc = .tracking ∧ secs ≠ 0 then step (-(secs * 65536))
    else
      let s2 : State := if s.hem.disc = .tracking then s1 else { s1 with hem := { s1.hem with slewLeft := -ofs } }
      if ofs.natAbs ≤ 2 ∧ good then clearSuspect s2 else s2

/-- A delivered frame acted on by the manager, with what was found at its arrival (R422). EVENT and TELEMETRY frames are for hosts, and do
nothing here. -/
def actFrame (p : Port) (f : Frame) (at_ : Nat) (ofs : Int) (s : State) : State :=
  match f.ftype with
  | 1 => actCommand p f at_ s
  | 2 => actReply f s
  | 4 => if byteAt f.payload 0 = 0 then actSync f at_ ofs s else if byteAt f.payload 0 = 1 then actAnnounce f s else s
  | 6 => actFaultEcho f at_ (decide (ofs = 1)) s
  | _ => s

/-- A frame is delivered: while the manager does not run it waits among 8 (R431). A WAKE frame, and a frame addressed to the module alone,
request a wake (R435, R475). -/
def deliverFrame (p : Port) (f : Frame) (ofs : Int) (addressed : Bool) (s : State) : State :=
  let s1 := if addressed || decide (f.ftype = 7) then wakeReq (.seamFrame p) s else s
  if f.ftype = 7 then s1
  else if s.proto.running then actFrame p f s.hem.ticks ofs s1
  else if s.seam.rxBuf.length < 8 then
    { s1 with seam := { s1.seam with rxBuf := s1.seam.rxBuf ++ [(p, f, s.hem.ticks, ofs)] } }
  else countDrops 1 s1

/-- A frame that waited for the manager: a command is answered DROPPED, and any other is acted on (R371, R431). (DEDUCED 81, unsafe.) -/
def actWaiting (x : Port × Frame × Nat × Int) (s : State) : State :=
  if x.2.1.ftype = 1 then
    answer (packetOf (Frame.source x.1 x.2.1) (Frame.bcast x.2.1 || Frame.domscope x.2.1) x.2.2.1 x.2.1.payload) .dropped [] s
  else actFrame x.1 x.2.1 x.2.2.1 x.2.2.2 s

/-- The frames that waited for the manager, in order (R371, R431). (DEDUCED 81, unsafe.) -/
def drainFrames (s : State) : State :=
  s.seam.rxBuf.foldl (fun t x => actWaiting x t) { s with seam := { s.seam with rxBuf := [] } }

/-! ## Reception and forwarding (R424-R428) -/

/-- The duplicate judgement of a source and SEQ: new or not, and the windows kept; one not refreshed
for 10 s is cleared (R428). (DEDUCED 79, safe.) -/
def Seam.judgeSeq (x : Seam) (src seq now : Nat) : Bool × Seam :=
  let live := x.dups.filter (fun d => decide (now ≤ d.2.2.2 + 10 * oneSecond))
  let rest := live.filter (fun d => decide (d.1 ≠ src))
  let keep (l : Nat) (m : BitVec 64) : Seam := { x with dups := (src, l, m, now) :: rest }
  match live.find? (fun d => decide (d.1 = src)) with
  | none => (true, keep seq 1)
  | some d =>
    let ahead := (seq + 65536 - d.2.1) % 65536
    let behind := (d.2.1 + 65536 - seq) % 65536
    if 1 ≤ ahead ∧ ahead ≤ 32767 then (true, keep seq ((d.2.2.1 <<< ahead) ||| 1))
    else if behind ≤ 63 then
      (!d.2.2.1.getLsbD behind, keep d.2.1 (d.2.2.1 ||| BitVec.ofNat 64 (2 ^ behind)))
    else (true, keep seq 1)

/-- The frame is forwarded on the port it did not arrive on; a WAKE frame for a link that is DOWN is held while the wake pattern is sent
(R427, R430, R435). -/
def forward (q : Port) (f : Frame) (s : State) : State :=
  if f.ftype = 7 ∧ (s.seam.port q).link = .down then
    modPort q (fun y => { y with heldWake := y.heldWake ++ [f], pattern := true, powered := true }) s
  else { s with seam := s.seam.onPort q { cls := classOf f.ftype f.payload, frame := f, reply := none, stream := none } }

/-- CORR of a SYNC frame gains what this module and its arrival link add (R438). -/
def addCorr (f : Frame) (add : Nat) : Frame :=
  if f.ftype = 4 ∧ byteAt f.payload 0 = 0 then
    { f with payload := f.payload.take 12 ++ le32 (fieldAt f.payload 12 4 + add) ++ f.payload.drop 16 }
  else f

/-- One of the module's own frames has come back: its ANNOUNCE is noted for RING_CLOSED, and one with another identity is an address clash
(R426, R427, R432). -/
def ownFrame (p : Port) (f : Frame) (s : State) : State :=
  if f.ftype = 4 ∧ byteAt f.payload 0 = 1 then
    if (memberOf f 0).uid = uniqueId s then modPort p (fun y => { y with ownBack := some s.hem.ticks }) s
    else seamSet 0x40 s
  else s

/-- FFLAGS combine as R423 allows. -/
def Frame.flagsOk (f : Frame) : Bool :=
  !(Frame.hopr f && (Frame.bcast f || Frame.domscope f)) && !(Frame.bcast f && Frame.domscope f)

/-- The type of a frame, its FFLAGS and its length are among those that exist on a link of a version; others count in RX_BAD (R422, R423,
R425). (DEDUCED 162, unsafe.) -/
def Frame.exists_ (ver : Nat) (f : Frame) : Bool :=
  decide (1 ≤ f.ftype) && decide (f.ftype ≤ 7) && Frame.flagsOk f && (decide (f.ftype ≠ 7) || f.payload.isEmpty) &&
    (decide (ver ≠ 1) || (decide (f.payload.length ≤ 256) && decide (f.ftype ≠ 5) && !Frame.hopr f))

/-- A TIME frame of a reserved kind, which is discarded (R422). -/
def Frame.reservedTime (f : Frame) : Bool := decide (f.ftype = 4) && decide (2 ≤ byteAt f.payload 0)

/-- A frame as a port takes it in: one hop more; on a version 1 link DOMAIN is reserved, and its modules hold one domain number, which a
DOMSCOPE frame is then for (R425, R427). (DEDUCED 162, unsafe.) -/
def Frame.taken (s : State) (p : Port) (f : Frame) : Frame :=
  { f with
    hops := (f.hops + 1) % 4096
    domain := if (s.seam.port p).ver = 1 then (if Frame.domscope f then s.seam.domain else 0) else f.domain }

/-- The frame is addressed to this module alone (R427). -/
def Frame.forMe (s : State) (f : Frame) : Bool :=
  decide (s.seam.addr = some f.dst) && !Frame.bcast f && !Frame.domscope f

/-- The frame is delivered here (R426, R427). -/
def Frame.here (s : State) (f : Frame) : Bool :=
  if Frame.hopr f then decide (f.rem = 1)
  else
    Frame.bcast f || decide (s.seam.addr = some f.dst) ||
      (Frame.domscope f && s.seam.addr.isSome && decide (f.domain = s.seam.domain))

/-- The copy that is forwarded, with REM rewritten and, of a SYNC frame, CORR (R427, R438). -/
def Frame.onward (s : State) (f : Frame) (corr : Nat) : Option Frame :=
  if Frame.hopr f then (if f.rem = 1 then none else some { f with rem := (f.rem + 4095) % 4096 })
  else if Frame.forMe s f || decide (f.rem ≤ 1) then none
  else some { (addCorr f corr) with rem := f.rem - 1 }

/-- A frame that is neither the module's own nor a duplicate is delivered and forwarded (R427). -/
def route (p : Port) (f : Frame) (ofs : Int) (corr : Nat) (s : State) : State :=
  let s1 := if Frame.here s f then deliverFrame p f ofs (Frame.hopr f || Frame.forMe s f) s else s
  match Frame.onward s f corr with
  | some g => forward (Port.other p) g s1
  | none => s1

/-- HOPR frames and frames with SRC_NONE are not judged by source and SEQ (R427, R428). -/
def Frame.unjudged (f : Frame) : Bool := Frame.hopr f || Frame.srcNone f

/-- A frame whose CRC fails has been sent on by then, as far as its header says so and the other port was idle or the frame pre-empts: that
copy ends with /V/ and /T/. It is judged as a duplicate but leaves no mark (R424, R427, R430). (DEDUCED 161, unsafe.) -/
def spoilCopy (p : Port) (f : Frame) (s : State) : State :=
  let q := Port.other p
  let cls := classOf f.ftype f.payload
  let goes := Frame.exists_ (s.seam.port p).ver f && !Frame.reservedTime f && (Frame.unjudged f ||
    (decide (s.seam.addr ≠ some (Frame.srcAddr f)) && (s.seam.judgeSeq (Frame.srcAddr f) f.seq s.hem.ticks).1))
  match Frame.onward s f 0 with
  | some g =>
    if goes ∧ ((s.seam.port q).sending.isNone ∨ cls = 0) then
      { s with seam := s.seam.onPort q { cls := cls, frame := g, reply := none, stream := none, spoiled := true } }
    else s
  | none => s

/-- ofs: the own count, with the time since its last Hem tick, less MCOUNT, CORR and the arrival
port's LINK_DLY; times in 0.1 ns, 10^10 to the second, rounded to the nearest fraction unit
(R438). (DEDUCED 81, unsafe.) -/
def syncOffset (s : State) (p : Port) (f : Frame) (phase : Nat) : Int :=
  let d := ofCode 64 (toCode 64 ((s.hem.count : Int) - fieldAt f.payload 4 8))
  let t : Int := (phase : Int) - fieldAt f.payload 12 4 - (s.seam.port p).dly
  roundDiv (d * 10000000000 + t * 65536) 10000000000

/-- What is found of a frame at its arrival: ofs of a SYNC, and of a FAULT_ECHO whether FAULT_N had been accepted low shortly before (R241,
R438). -/
def found (p : Port) (f : Frame) (phase : Nat) (s : State) : Int :=
  if f.ftype = 6 then (b2n (faultNRecent s) : Int) else if f.ftype = 4 then syncOffset s p f phase else 0

/-- What a port that is UP receives, with the phase of its first byte within the Hem tick and its
residence time: the checks of R424, then the handling of R427. (R422-R428, R438.) (DEDUCED 78,
unsafe.) (DEDUCED 161, unsafe.) -/
def arrive (p : Port) (w : Wire) (phase resid : Nat) (s : State) : State :=
  let bad : State := { s with seam := { s.seam with rxBad := sat16 s.seam.rxBad 1 } }
  if s.off ∨ (s.seam.port p).link ≠ .up then s
  else
    match Wire.read w with
    | .badForm => bad
    | .badCrc f0 => spoilCopy p (Frame.taken s p f0) (modPort p (fun y => { y with crcErrs := sat16 y.crcErrs 1 }) s)
    | .good f0 =>
      let f := Frame.taken s p f0
      let ofs := found p f phase s
      let corr := (s.seam.port p).dly + resid
      let t := bump s
      if Frame.exists_ (s.seam.port p).ver f0 = false then bad
      else if Frame.reservedTime f then s
      else if Frame.unjudged f then route p f ofs corr t
      else if s.seam.addr = some (Frame.srcAddr f) then ownFrame p f s
      else
        let j := s.seam.judgeSeq (Frame.srcAddr f) f.seq s.hem.ticks
        if j.1 then route p f ofs corr { t with seam := j.2 } else { s with seam := j.2 }

/-- COMMAND (R429). -/
def execCommand (p : Port) (w : Wire) (s : State) : Host.Outcome State Fault Refusal := .next (arrive p w 0 0 s)
/-- REPLY (R422). -/
def execReply (p : Port) (w : Wire) (s : State) : Host.Outcome State Fault Refusal := .next (arrive p w 0 0 s)
/-- EVENT (R463). -/
def execEvent (p : Port) (w : Wire) (s : State) : Host.Outcome State Fault Refusal := .next (arrive p w 0 0 s)
/-- TELEMETRY (R422). -/
def execTelemetry (p : Port) (w : Wire) (s : State) : Host.Outcome State Fault Refusal := .next (arrive p w 0 0 s)
/-- FAULT_ECHO (R434). -/
def execFaultEcho (p : Port) (w : Wire) (s : State) : Host.Outcome State Fault Refusal := .next (arrive p w 0 0 s)
/-- WAKE: a frame without payload (R422, R435). -/
def execWake (p : Port) (w : Wire) (s : State) : Host.Outcome State Fault Refusal := .next (arrive p w 0 0 s)
/-- ANNOUNCE (R442). -/
def execAnnounce (p : Port) (w : Wire) (s : State) : Host.Outcome State Fault Refusal := .next (arrive p w 0 0 s)
/-- SYNC (R438, R439). -/
def execSync (p : Port) (w : Wire) (phase resid : Nat) (s : State) : Host.Outcome State Fault Refusal := .next (arrive p w phase resid s)

/-- WAKE_FORWARD_TIMEOUT: the link has not come UP within 5 ms of the oldest frame held for it; a port that sleeps has no power again once
it holds none (R435, R467). -/
def execWakeForwardTimeout (p : Port) (s : State) : Host.Outcome State Fault Refusal :=
  .next (if (s.seam.port p).heldWake = [] then s
    else
      countDrops 1 (modPort p (fun y =>
        let rest := y.heldWake.tail
        { y with
          heldWake := rest, pattern := y.pattern && !rest.isEmpty
          powered := y.powered && !(rest.isEmpty && decide (y.link = .down) && decide (s.pwr.st = .hibernate)) }) s))

/-- SEAM_WAKE_SIGNAL: a signal on a port that is powered down (R436). -/
def execSeamWakeSignal (p : Port) (s : State) : Host.Outcome State Fault Refusal :=
  .next (if (s.seam.port p).powered = false ∧ s.off = false then wakeReq (.seamSignal p) s else s)

/-- SEAM_FRAME_SENT: the last byte of a frame has been sent; the port serves the next, and an address that waited for its reply may take
effect (R430, R450, R541). -/
def execSeamFrameSent (p : Port) (s : State) : Host.Outcome State Fault Refusal :=
  .next (if (s.seam.port p).sending.isSome then adoptAddress (modPort p (PortSt.serve s.hem.count) s) else s)

/-- BCAST_REPLY_DUE: the delay of the oldest reply to a broadcast or DOMSCOPE command ends (R429). -/
def execBcastReplyDue (s : State) : Host.Outcome State Fault Refusal :=
  .next (match s.seam.bcastDue with
    | [] => s
    | (src, r, n) :: rest =>
      let x : Seam := { s.seam with bcastDue := rest }
      match src with
      | .host => { s with seam := x }
      | .seam a => { s with seam := x.originate 2 0 a 0 r.bytes (some n) none }
      | .hop q rem => { s with seam := x.originateHop q rem r.bytes n })

/-! ## Domain time, announcements and agreement -/

/-- The manager runs and sends of its own accord (R467). (DEDUCED 81, unsafe.) -/
def speaks (s : State) : Bool := s.proto.running && decide (s.pwr.st ≠ .hibernate) && !s.off

/-- The ANNOUNCE payload (R441). -/
def announcePayload (s : State) : List Byte :=
  [1, byte s.dom.st.code, 0x21, byte (b2n s.hem.suspect + b2n (ringClosed s) * 2 + b2n s.proto.inForce.isNone * 4)] ++
    le16 s.seam.domain ++ le16 s.seam.tm ++ ownDomDigest s ++ uniqueId s ++ leBytes 8 s.hem.count ++ le32 (newestSeq s) ++
    List.replicate 12 0

/-- ANNOUNCE_DUE (R441). -/
def execAnnounceDue (s : State) : Host.Outcome State Fault Refusal :=
  .next (if speaks s then { s with seam := s.seam.originate 4 1 0 0 (announcePayload s) none none } else s)

/-- SYNC_DUE: the time master sends SYNC; a copy that waits takes MCOUNT as its first byte leaves (R437). -/
def execSyncDue (s : State) : Host.Outcome State Fault Refusal :=
  let payload : List Byte := [0, byte (b2n s.hem.suspect), 0, 0] ++ leBytes 8 s.hem.count ++ List.replicate 12 0
  .next (if speaks s ∧ isMaster s then { s with seam := s.seam.originate 4 2 0 s.seam.domain payload none none } else s)

/-- ECHO_REPEAT: 10 µs after the first copy of a fault echo, its second (R433). -/
def execEchoRepeat (s : State) : Host.Outcome State Fault Refusal :=
  .next (match s.dom.echoSecond with
    | pay :: rest =>
      { s with
        dom := { s.dom with echoSecond := rest }
        seam := s.seam.originate 6 2 0 s.seam.domain pay none none }
    | [] => s)

/-- The lowest-addressed member, the module itself included, with its TIME_MASTER setting (R440). -/
def lowestMember (s : State) (a : Nat) : Nat × Nat :=
  (domPeers s).foldl (fun x m => if m.addr < x.1 then (m.addr, m.tm) else x) (a, s.seam.tm)

/-- The time master and whether it is a substitute (R440). -/
def chooseMaster (s : State) (a : Nat) : Nat × Bool :=
  let low := lowestMember s a
  if low.2 = 0xFFFF then (low.1, false)
  else if low.2 = a ∨ (domPeers s).any (fun m => decide (m.addr = low.2)) then (low.2, false)
  else (low.1, true)

/-- The agreement state entered, with the event and flag of DISAGREE (R443, R448). -/
def setAgree (a : AgreeSt) (causes : Nat) (s : State) : State :=
  let s1 : State := { s with seam := { s.seam with
    agree := a, causes := causes
    flags := if a = .disagree ∧ s.seam.agree ≠ .disagree then s.seam.flags ||| 0x80 else s.seam.flags } }
  pulseIf (decide (a = .disagree) && decide (s.seam.agree ≠ .disagree)) 530 s1

/-- A rise that waited for the end of GATHERING is made or ignored (R445). -/
def endWait (s : State) : State := if s.dom.upWait ∧ s.seam.agree ≠ .gathering then pinUp s else s

/-- The agreement evaluated: membership, time master and comparison (R440, R442-R445). -/
def evalAgreement (s : State) : State :=
  match s.seam.addr with
  | none => setAgree .alone 0 { s with seam := { s.seam with master := none, subst := false, members := heardNow s } }
  | some a =>
    if s.seam.domain = 0 then setAgree .alone 0 { s with seam := { s.seam with master := none, subst := false, members := heardNow s } }
    else
      let m := chooseMaster s a
      let s1 : State := { s with seam := { s.seam with master := some m.1, subst := m.2, members := heardNow s } }
      if s.hem.ticks < s.seam.gatherEnd then setAgree .gathering 0 s1
      else setAgree (if disagreeCauses s = 0 then .agreed else .disagree) (disagreeCauses s) s1

/-- AGREEMENT_EVAL: every 100 ms (R442-R445). -/
def execAgreementEval (s : State) : Host.Outcome State Fault Refusal :=
  .next (if speaks s then endWait (evalAgreement s) else s)

/-- GATHERING begins, for 300 ms, or the module is ALONE (R443). (DEDUCED 56, safe.) -/
def startGathering (s : State) : State :=
  let s1 : State := { s with seam := { s.seam with gatherEnd := s.hem.ticks + hearing } }
  if s.seam.domain = 0 ∨ s.seam.addr = none then
    setAgree .alone 0 { s1 with seam := { s1.seam with master := none, subst := false } }
  else setAgree .gathering 0 s1

/-! ## The opcodes -/

/-- The Seam status record; the phantom voltages are measurements, and free (R447). (PRESUMED 46,
safe.) -/
def seamRecord (s : State) : List Byte :=
  let x := s.seam
  let z : List Byte := [0, 0, 0, 0]
  [byte x.a.link.code, byte x.b.link.code, byte x.a.ver, byte x.b.ver] ++ le16 (x.addr.getD 0) ++ le16 (seamWord s) ++
    le16 x.a.dly ++ le16 x.b.dly ++ le16 x.a.crcErrs ++ le16 x.b.crcErrs ++ le16 x.rxBad ++ le16 x.fwdDrops ++ le16 x.v1Drops ++
    le16 ((heardNow s).length + b2n x.addr.isSome) ++ le16 (Config.freeNat s.free) ++ le16 (Config.freeNat (s.free + 1)) ++ z

/-- SEAM_STATUS (R447). -/
def seamStatusOp : OpSpec where
  op := 0x1101
  plen := .fixed 0
  run := fun _ s => done (bump s) (seamRecord s)

/-- DOMAIN_JOIN (R450). -/
def domainJoinOp : OpSpec where
  op := 0x1102
  plen := .fixed 4
  run := fun q s =>
    if domIdle s = false then refuseDom s
    else if s.seam.agree = .gathering then refuse s 10 AgreeSt.gathering.code 0xFF
    else
      let n := fieldAt q.params 0 2 % 4096
      done0 (startGathering { s with seam := { s.seam with domain := n, domainStored := n } })

/-- DOMAIN_AGREE_STATUS (R449). -/
def domainAgreeStatusOp : OpSpec where
  op := 0x1103
  plen := .fixed 0
  run := fun _ s => done s (agreeRecord s)

/-- SEAM_ADDRESS_SET (R426, R450). -/
def seamAddressSetOp : OpSpec where
  op := 0x1104
  app := true
  plen := .fixed 2
  run := fun q s =>
    if domIdle s then done0 { s with seam := { s.seam with addrNext := some (fieldAt q.params 0 2 % 4096, s.proto.replyNo) } }
    else refuseDom s

/-- TIME_MASTER: 0xFFFF, or an address in bits 11:0 (R440, R450). -/
def timeMasterOp : OpSpec where
  op := 0x1105
  app := true
  plen := .fixed 2
  run := fun q s =>
    let n := fieldAt q.params 0 2
    done0 { s with seam := { s.seam with tm := if n = 0xFFFF then n else n % 4096 } }

/-- SEAM_STATUS. -/
def execSeamStatus (q : Req) (s : State) : Host.Outcome State Fault Refusal := runOp seamStatusOp q s
/-- DOMAIN_JOIN. -/
def execDomainJoin (q : Req) (s : State) : Host.Outcome State Fault Refusal := runOp domainJoinOp q s
/-- DOMAIN_AGREE_STATUS. -/
def execDomainAgreeStatus (q : Req) (s : State) : Host.Outcome State Fault Refusal := runOp domainAgreeStatusOp q s
/-- SEAM_ADDRESS_SET. -/
def execSeamAddressSet (q : Req) (s : State) : Host.Outcome State Fault Refusal := runOp seamAddressSetOp q s
/-- TIME_MASTER. -/
def execTimeMaster (q : Req) (s : State) : Host.Outcome State Fault Refusal := runOp timeMasterOp q s

end Sys2Proof.Machine
end

