-- ==== Sys2Proof/Machine/Image.lean ====
section
/-! DEFINITION. Applying an Eznuig image: its checks, the execution of its sections, CONFIG_APPLY and the end of an apply (R378-R384). -/

namespace Sys2Proof.Machine

/-- The opcodes an image section may carry (R378). -/
def sectionOps : List OpSpec :=
  [railmapSetOp, railSetTargetOp, railStoreSetpointOp, railBindSelectOp, railSetSlewOp, railSetCompOp, phasePolicyOp,
    firingOrderOp, creaseConfigOp, clockSourceOp, syncQualifyOp, keepoutSetOp, railFswSetOp, limitsSetOp, windowSetOp,
    cellRetireOp, seqSlotSetOp, supervisorConfigOp, domainConfigOp, tseqSetOp] ++
  [streamConfigOp, thermalLimitsOp, throttlePolicyOp, chargerConfigOp, holdRailSetOp, rtcModeOp, periodicSetOp, ppsConfigOp,
    wdogConfigOp, rollcallConfigOp, eventConfigOp, moderationSetOp, seamAddressSetOp, timeMasterOp]

/-- The opcode of a section. -/
def sectionOp (ty : Nat) : Option OpSpec := sectionOps.find? (fun o => decide (o.op = ty))

/-! ## The checks (R382 step 1) -/

/-- The apply failure record: section index, and image offset of the failing field. (DEDUCED 93,
unsafe.) -/
def failureRecord (index off : Nat) : List Byte := le16 index ++ [0, 0] ++ le32 off

/-- The sections checked in order from index `i` and offset `o`, of `n` more, up to the trailer at
`lim`. (DEDUCED 93, unsafe.) -/
def checkSections (img : List Byte) (lim : Nat) : Nat → Nat → Nat → Option (Status × List Byte)
  | 0, _, o => if o = lim then none else some (.badLength, failureRecord 0xFFFF 0x0C)
  | n + 1, i, o =>
    let len := fieldAt img (o + 4) 2
    let body := (img.drop (o + 8)).take len
    if lim < o + 8 then some (.badLength, failureRecord i (o + 4))
    else
      match sectionOp (fieldAt img o 2) with
      | none => some (.unknownOpcode, failureRecord i o)
      | some op =>
        if lim < o + 8 + padded len ∨ (op.plen.expected body).isSome then some (.badLength, failureRecord i (o + 4))
        else
          match op.bad 2 body with
          | some k => some (.notPresent, failureRecord i (o + 8 + k))
          | none => checkSections img lim n (i + 1) (o + 8 + padded len)

/-- A version, three bytes, is newer than another. -/
def newer (a b : List Byte) : Bool :=
  decide (byteAt b 0 * 65536 + byteAt b 1 * 256 + byteAt b 2 < byteAt a 0 * 65536 + byteAt a 1 * 256 + byteAt a 2)

/-- The first check of R382 that an image fails, with its reply. -/
def checkImage (s : State) (img : List Byte) : Option (Status × List Byte) :=
  if img.take 4 ≠ [0x45, 0x5A, 0x4E, 0x47] then some (.badCheck, failureRecord 0xFFFF 0)
  else if fieldAt img 4 2 ≠ 2 then some (.versionUnsupported, failureRecord 0xFFFF 4)
  else if fieldAt img 6 2 ≠ 32 then some (.badCheck, failureRecord 0xFFFF 6)
  else if imageLenOk img = false then some (.badLength, failureRecord 0xFFFF 8)
  else if digestChecks img = false then some (.badCheck, failureRecord 0xFFFF (imageLen img - 16))
  else if fieldAt img 0x10 4 ≠ 0x00010256 then some (.notPresent, failureRecord 0xFFFF 0x10)
  else if newer ((img.drop 0x14).take 3) (runningVersion s) then some (.versionUnsupported, failureRecord 0xFFFF 0x14)
  else checkSections img (imageLen img - 16) (fieldAt img 0x0C 2) 0 32

/-! ## Executing sections (R382 steps 3 and 4) -/

/-- A note of the apply, at section `i` (R382). (DEDUCED 94, unsafe.) -/
def noteSection (i : Nat) (s : State) : State :=
  globSet 0x80 { s with proto := { s.proto with notes := s.proto.notes + 1, firstNote := s.proto.firstNote.or (some i) } }

/-- A status that counts a note. -/
def notes (st : Status) : Bool := decide (st = .doneWithNote) || decide (st = .locked) || decide (st = .refusedState)

/-- An address set by a section takes effect at once: a section has no reply to leave (R382, R450).
(DEDUCED 94, unsafe.) -/
def adoptNow (s : State) : State :=
  match s.seam.addrNext with
  | some (a, _) => { s with seam := { s.seam with addr := some a, addrNext := none } }
  | none => s

/-- A section executed as a version 2 command of a source; one that the module's state refuses has no effect (R382, R478). -/
def runSection (src : Source) (i : Nat) (x : Section_) (s : State) : State × Option Fault :=
  match sectionOp x.ty with
  | none => (s, none)
  | some o =>
    if (o.paramCheck 2 x.body).isSome then (s, none)
    else if s.pwr.st = .safeHold ∧ o.sh = false then (noteSection i s, none)
    else
      match o.run { src := src, ver := 2, tag := 0, params := x.body } s with
      | (t, .reply st _) => (if notes st then noteSection i t else if x.ty = 0x1104 then adoptNow t else t, none)
      | (t, .defer _) => (t, none)
      | (t, .undef f) => (t, some f)

/-- Sections executed in order, from index `i`, until one leaves the behaviour undefined. (DEDUCED 73,
unsafe.) -/
def runSections (src : Source) : List Section_ → Nat → State → State × Option Fault
  | [], _, s => (s, none)
  | x :: xs, i, s =>
    match runSection src i x s with
    | (t, none) => runSections src xs (i + 1) t
    | (t, some f) => (t, some f)

/-- What an execution of sections comes to. -/
def applied (out : State × Option Fault) (k : State → State × Ans) : State × Ans :=
  match out with
  | (t, none) => k t
  | (t, some f) => (t, .undef f)

/-! ## CONFIG_APPLY -/

/-- CONFIG_APPLY (R381, R382). How far its sections have been executed while the state is APPLYING is
not fixed: a free number of them are executed with the command, and the rest at CONFIG_DONE
(R383). (DESIGN CHOICE 27, safe.) -/
def configApplyOp : OpSpec where
  op := 0x0102
  sh := false
  plen := .fixed 1
  run := fun q s =>
    let img := bufferBytes s (max 32 (min 262144 (imageLen (bufferBytes s 32))))
    if s.proto.cfg = .empty then absent s 0xFFFF
    else if s.proto.cfg = .applying then busy s 0
    else if s.dom.st ≠ .down ∧ s.dom.st ≠ .latched then refuseDom s
    else
      match lowestRunning s with
      | some r => refuseRail s r
      | none =>
        if s.map.probe = .running then refuse s 2 (mapCode s) 0xFF
        else
          match checkImage s img with
          | some (st, result) => (s, .reply st result)
          | none =>
            let secs := imageSections img
            let n := Config.freeNat s.free % (secs.length + 1)
            let b := byteAt q.params 0
            let s1 : State := bump { s with proto := { s.proto with
              cfg := .applying, applyBits := (natBit b 0, natBit b 1), applied := n, notes := 0, firstNote := none } }
            applied (runSections q.src (secs.take n) 0 s1) started

/-- CONFIG_APPLY. -/
def execConfigApply (q : Req) (s : State) : Host.Outcome State Fault Refusal := runOp configApplyOp q s

/-- Step 5 of R382: RAILMAP_APPLY, with its store written; its refusal is a note. (DEDUCED 95, unsafe.) -/
def applyMap (s : State) : State × Ans :=
  if mapState s.map = 0 then done0 s
  else if mapState s.map = 2 then done0 (globSet 0x80 { s with proto := { s.proto with notes := s.proto.notes + 1 } })
  else if applyUndefined s then (s, .undef .undefinedMapApply)
  else
    let t := copyMap s
    done0 { t with map := { t.map with stored := some t.map.active } }

/-- Steps 6 and 7 of R382: the image is stored, and becomes the image in force. -/
def finishApply (img : List Byte) (s : State) : State :=
  pulse 562 { s with proto := { s.proto with
    stored := if s.proto.applyBits.1 then some img else s.proto.stored
    cfg := .applied, applyBits := (false, false), applied := 0, inForce := some (imageInfo img), fromFuse := false } }

/-- CONFIG_DONE: the sections left are executed, the map applied, the image stored, and the state
APPLIED (R382). (DESIGN CHOICE 27, safe.) -/
def execConfigDone (s : State) : Host.Outcome State Fault Refusal :=
  if s.proto.cfg = .applying ∧ s.proto.running then
    let img := bufferImage s
    match runSections .host ((imageSections img).drop s.proto.applied) s.proto.applied s with
    | (_, some f) => .fault f
    | (t, none) =>
      match (if t.proto.applyBits.2 then applyMap t else done0 t) with
      | (_, .undef f) => .fault f
      | (u, _) => .next (finishApply img u)
  else .next s

end Sys2Proof.Machine
end

