-- ==== Sys2Proof/Machine/Start.lean ====
section
/-! DEFINITION. Resets and starts: RESET_N, RESET_MODULE, manager starts, full starts with their loading of map and image, the exit from
SHIP, and the module's own DOMAIN_UP (R16, R20, R68, R384, R389, R476, R497, R517, R518). -/

namespace Sys2Proof.Machine

/-! ## Resets -/

/-- A reset in FULL mode: the domain falls, and a full start follows; a restart remembered in Hem stays so (R228, R244, R518).
(DEDUCED 99, safe.) -/
def beginFull (cause : Nat) (s : State) : State :=
  enterFalling false { s with dom := { s.dom with fullDue := some cause, upWait := false, autoUp := false } }

/-- A manager restart that does not wait for the command in hand; a start that a commit or revert has begun goes on as it is (R371, R514,
R517). -/
def beginRestart (cause : Nat) (s : State) : State :=
  let t := stopManager s
  { t with fw := { t.fw with causeNext := if s.fw.switchDue.isSome then s.fw.causeNext else cause } }

/-- RESET_N: the filtered falling edge. It wakes a module in HIBERNATE, and in DOZE only resumes the manager (DEDUCED 168, unsafe);
otherwise it restarts the manager or, in FULL mode, the module. An ignored land has been seen high for its filter time
before a filtered edge can come (R16, R20, R475, R518). (DESIGN CHOICE 98, safe.) -/
def execResetN (s : State) : Host.Outcome State Fault Refusal :=
  let s1 : State := { s with land := { s.land with resetIgnored := false, resetLow := true } }
  .next (if s.off then s1
    else if s.pwr.st = .hibernate ∨ s.pwr.entering ∨ s.pwr.st = .doze then wakeReq .resetN s1
    else if resetFull s then beginFull 2 s1
    else beginRestart 1 s1)

/-- RESET_MODULE_ACT: 1 ms after the reply has left; a command in hand is completed first (R371, R389,
R541). (DEDUCED 97, safe.) -/
def execResetModuleAct (s : State) : Host.Outcome State Fault Refusal :=
  .next (match s.proto.resetDue with
    | some (kind, n) =>
      if replyLeft n s ∧ s.proto.exec = none ∧ s.proto.running then
        let t : State := { s with proto := { s.proto with resetDue := none } }
        if kind = 1 then beginFull 4 t else beginRestart 3 t
      else s
    | none => s)

/-- FULL_RESET_TIMEOUT: 10 s after a FULL-mode edge the cells still switching are turned off, and the
manager stops for the full start (R518). (DEDUCED 99, safe.) -/
def execFullResetTimeout (s : State) : Host.Outcome State Fault Refusal :=
  .next (if s.dom.fullDue.isSome ∧ s.off = false then
      let t := stopManager (stopSwitching s)
      { t with dom := { t.dom with vinMem := s.dom.vinMem, restartDue := s.dom.restartDue } }
    else s)

/-- WAKE_STUCK: WAKE_BTN has been low for more than 10 s (R16). -/
def execWakeStuck (s : State) : Host.Outcome State Fault Refusal :=
  .next (landSet 0x40000 { s with land := { s.land with wakeIgnored := true } })

/-! ## Manager starts -/

/-- RESET_N still low when a restart completes: whether it is, is not held, and is free (R20). (DESIGN CHOICE 98, safe.) -/
def resetStuck (s : State) : State :=
  if s.land.resetLow && Config.freeBool s.free then
    landSet 0x20000 (bump { s with land := { s.land with resetIgnored := true } })
  else bump { s with land := { s.land with resetLow := false } }

/-- The configuration state after a manager start has cleared the buffer: what was being loaded is
gone; an apply's end stays (R376, R380, R383). (DEDUCED 147, unsafe.) -/
def CfgSt.restarted (c : CfgSt) : CfgSt := if c = .loading then .empty else c

/-- MANAGER_START: the manager starts from the bank the boot code chooses, makes its checks, and takes
up its work. It does not start while the module sleeps, has no power, or waits for a full start
(R287, R349, R371, R376, R431, R443, R463, R497, R500, R514, R517). (DEDUCED 62, safe.) (DEDUCED
147, unsafe.) -/
def execManagerStart (s : State) : Host.Outcome State Fault Refusal :=
  if s.proto.running ∨ s.off ∨ s.pwr.st = .hibernate ∨ s.pwr.entering ∨ s.fw.causeNext = 7 ∨ s.dom.fullDue.isSome then .next s
  else
    let s0 := fuseChecks false (bootBank s)
    let s1 := checkBackup (if s0.pwr.st = .safeHold then moveLevel s0 else s0)
    let s2 : State := { s1 with
      proto := { s1.proto with
        running := true, buffer := [], loaded := false, cfg := s1.proto.cfg.restarted, startAt := s1.hem.ticks
        flags := s1.proto.flags ||| 1 }
      router := { s1.router with ch := s1.router.ch.map (fun c => { c with sub := none }) }
      therm := { s1.therm with hist := Vector.replicate 16 [], rate := Vector.replicate 16 0, queue := [] } }
    let s3 := startGathering (resetStuck (startEvents (decide (s.fw.switchDue = some true)) s2))
    .next (drainFrames (receiveRaw (answerDropped (judgeWaiting (pollPins (sendWaitingNotices s3))))))

/-! ## Full starts -/

/-- Every block but Hem at its reset, with what the flash, the fuses and the lands still hold; the
watchdog of a module that leaves SHIP enters FIRST where it is enabled (R68, R90, R213, R244,
R251, R335, R355, R401, R426, R450, R509, R518). (DEDUCED 101, unsafe.) (DEDUCED 141, safe.) -/
def resetBlocks (strap ext : BitVec 3) (s : State) : State :=
  let r := State.reset
  let retired (n : Nat) (c : Cell) : Cell := if s.map.retiredSet.getLsbD n then { c with st := .retired } else c
  let ev0 := upd (Vector.replicate 1024 ({} : Ev)) 518 { level := s.hem.suspect }
  let ev1 := upd ev0 512 { level := s.hem.flags.getLsbD 3 }
  { r with
    pending := s.pending
    free := s.free
    fabricFree := s.free
    cells := mapIdx r.cells retired
    map := { r.map with
      stored := s.map.stored, storedProbe := s.map.storedProbe, retiredSet := s.map.retiredSet
      probe := if s.map.storedProbe.isSome then .complete else .noResult
      words := s.map.storedProbe.getD r.map.words }
    dom := { r.dom with
      vinMem := s.dom.vinMem, restartDue := s.dom.vinMem, fnLow := s.dom.fnLow, squi := s.dom.squi, sqdi := s.dom.sqdi
      en := s.dom.en, sel := s.dom.sel }
    sup := { r.sup with log := s.sup.log, next := s.sup.next }
    chg := { r.chg with
      vinOk := s.chg.vinOk, auxOk := s.chg.auxOk, auxPresent := s.chg.auxPresent, auxIn := s.chg.auxIn, auxId := s.chg.auxId
      phantomIn := s.chg.phantomIn, seamOk := s.chg.phantomIn.1 || s.chg.phantomIn.2, exhausted := s.chg.exhausted }
    hem := if s.hem.wdSt = .disabled ∧ s.hem.wdLast.enable then s.hem.first s.hem.ticks else s.hem
    proto := { r.proto with stored := s.proto.stored, startAt := s.hem.ticks }
    hp := { r.hp with ctl := s.hp.ctl, tScl := s.hp.tScl, tSda := s.hp.tSda }
    seam := { r.seam with
      addr := s.seam.addr, seq := s.seam.seq, domain := s.seam.domainStored, domainStored := s.seam.domainStored }
    router := { r.router with ev := upd ev1 513 { level := s.hem.flags.getLsbD 4 } }
    fuse := { r.fuse with rows := s.fuse.rows, spares := s.fuse.spares, safeDue := s.fuse.safeDue }
    fw := { s.fw with flags := 0, patched := false, keyAbsent := false, mux := Vector.replicate 6 none }
    land := { r.land with
      auxRange := s.land.auxRange, bthShort := s.land.bthShort, bthOpen := s.land.bthOpen, strapExt := ext, strap := strap
      twiAddr := 0x58 + strap.toNat, vinLow := s.land.vinLow, vinWait := s.land.vinWait, vinHigh := s.land.vinHigh
      vinOver := s.land.vinOver, wakeIgnored := s.land.wakeIgnored, resetIgnored := s.land.resetIgnored, resetLow := s.land.resetLow } }

/-- The image of the CCONF region, from its first byte, when its header and DIGEST check (R384, R482).
(DEDUCED 96, unsafe.) -/
def cconfImage (s : State) : Option (List Byte) :=
  let bytes := s.fuse.regionBytes 2
  let img := bytes.take (max 32 (imageLen bytes))
  if imageLen bytes ≤ 32768 ∧ headerOk img ∧ digestChecks img then some img else none

/-- The image a full start applies, and whether it comes from CCONF (R384, R499). -/
def startImage (s : State) : Option (Bool × List Byte) :=
  if s.fuse.cconfSkipped then none
  else
    match s.proto.stored with
    | some img => if digestChecks img then some (false, img) else (cconfImage s).map (fun x => (true, x))
    | none => (cconfImage s).map (fun x => (true, x))

/-- The staged map of the RAILMAP_SET sections of an image (R68, R378). -/
def stageSections (img : List Byte) (s : State) : State :=
  ((imageSections img).filter (fun x => decide (x.ty = 0x0201) && (railmapSetOp.paramCheck 2 x.body).isNone)).foldl
    (fun t x => (railmapSetOp.run { src := .host, ver := 2, tag := 0, params := x.body } t).1) s

/-- The active map of a full start: the stored one, else the default map of CCONF, else every entry zero (R68, R499). -/
def loadMap (s : State) : State :=
  match s.map.stored with
  | some m => copyMap (recheckStaged { s with map := { s.map with staged := m } })
  | none =>
    if s.fuse.cconfSkipped then s
    else
      match cconfImage s with
      | some img => copyMap (recheckStaged (stageSections img s))
      | none => s

/-- The image of a full start applied: steps 3, 4 and 7 of R382 without its RAILMAP_SET sections
(R384). (DEDUCED 96, unsafe.) -/
def loadImage (s : State) : State × Option Fault :=
  match startImage s with
  | none => (s, none)
  | some (fuse, img) =>
    let skipped (ty : Nat) : Bool := decide (ty = 0x0201) || (decide (ty = 0x0C01) && s.hem.wd.lock)
    match runSections .host ((imageSections img).map (fun x => if skipped x.ty then { x with ty := 0 } else x)) 0 s with
    | (t, some f) => (t, some f)
    | (t, none) =>
      let u := finishApply img t
      ({ u with proto := { u.proto with fromFuse := fuse } }, none)

/-- A bit of IMG_FLAGS of the image in force (R377). -/
def imageBit (s : State) (k : Nat) : Bool :=
  match s.proto.inForce with
  | some i => natBit i.flags k
  | none => false

/-- The enable pin acts on the domain and reads high (R230). -/
def enableHigh (s : State) : Bool :=
  (decide (s.dom.upSrc = 1) || decide (s.dom.upSrc = 2)) && s.dom.en.getLsbD s.dom.enPin.val

/-- What a full start begins by itself: the automatic probe, the module's own DOMAIN_UP, and the
restart after a loss of VIN; nothing of it where CCONF fails (R90, R230, R244, R384, R499).
(DEDUCED 103, unsafe.) -/
def startWork (s : State) : State :=
  if s.fuse.cconfSkipped then cancelRestart s
  else
    let t : State := { s with dom := { s.dom with autoUp := (imageBit s 2 && decide (s.dom.upSrc ≠ 1)) || enableHigh s } }
    if imageBit s 0 ∨ s.pwr.st = .safeHold then t else startProbe t

/-- VIN above 16.5 V at a full start isolates the cells as its rise does (R21, R210). (DEDUCED 157, unsafe.) -/
def overAtStart (s : State) : State :=
  if s.land.vinOver then landSet 0x800000 (changeCells s (fun _ c => if c.st = .isolated then c else c.isolated 7)) else s

/-- A full start: every block but Hem is reset, the boot code chooses its bank, the fuses are checked,
the map and the image are loaded, and the manager runs; with the last-wake record (R68, R384,
R476, R497, R514, R518). (DEDUCED 59, unsafe; DEDUCED 91, safe; DEDUCED 96, unsafe.) -/
def fullStart (strap ext : BitVec 3) (src detail left : Nat) (s : State) : Host.Outcome State Fault Refusal :=
  let s1 := bootBank (overAtStart (resetBlocks strap ext (stopManager s)))
  let s2 := fuseChecks true { s1 with fw := { s1.fw with starts := 0 } }
  let s3 := recordWake src detail left (checkBackup s2)
  let s4 : State := { s3 with
    clk := if s3.pwr.st = .safeHold then { (setSupply s3.clk 720 100 .on) with level := .l2, levelReq := .l2 } else s3.clk }
  match loadImage (loadMap s4) with
  | (_, some f) => .fault f
  | (t, none) => .next (reselect (startEvents (decide (s.fw.switchDue = some true)) (startGathering (resetStuck (startWork t)))))

/-- A supply other than the pack feeds the module: VIN above its threshold, AUXIN in range for 100 ms
with a code of 1-6, or phantom power (R301, R308, R327, R479). (DEDUCED 59, unsafe.) -/
def supplied (s : State) : Bool :=
  !s.land.vinLow || (s.chg.auxIn && s.chg.auxOk && decide (1 ≤ s.chg.auxId) && decide (s.chg.auxId ≤ 6)) || s.chg.phantomIn.1 || s.chg.phantomIn.2

/-- Source, detail and state left of the record of a full start. A reset is RESET_N; a return of a
source is SOURCE while a pack had kept the HOLD path alive, and POWER_ON after the loss of every
supply but Hem, or Hem's power-on reset; for a commit the spec names no source (R476, R479, R514).
(DEDUCED 100, unsafe.) -/
def startRecord (s : State) : Nat × Nat × Nat :=
  if s.pwr.lost then
    if s.hem.wakeSrc ≠ 0 ∧ s.land.bthOpen = false then
      (7, (if s.land.vinLow = false then 0 else if s.chg.auxIn then 1 else 2), 0xFF)
    else (9, 0, 0xFF)
  else if s.fw.causeNext = 7 then (Config.freeNat s.free % 10, 0, s.pwr.st.code)
  else if s.dom.fullDue.isSome then (8, 0, s.pwr.st.code)
  else (9, 0, 0xFF)

/-- What is left of a reset or a commit when the module starts: after a loss of supply the start is
one from power-on, and whether the boot selector had been written is free (R514, R522). (DEDUCED
90, unsafe.) -/
def startCause (s : State) : Fw :=
  if s.pwr.lost then { s.fw.cutMark s.free with causeNext := 0 }
  else { s.fw with causeNext := s.dom.fullDue.getD s.fw.causeNext }

/-- FULL_START: a module that is not in SHIP and has a supply starts; after a FULL-mode reset, once
the fall has ended (R384, R478, R479, R514, R518). (DEDUCED 99, safe; DEDUCED 100, unsafe.) -/
def execFullStart (straps ext : BitVec 3) (s : State) : Host.Outcome State Fault Refusal :=
  if s.pwr.st = .ship ∨ supplied s = false ∨
      (s.dom.fullDue.isSome ∧ s.dom.st ≠ .down ∧ s.dom.st ≠ .latched ∧ s.pwr.lost = false) then .next s
  else
    fullStart straps ext (startRecord s).1 (startRecord s).2.1 (startRecord s).2.2
      { bump (bump s) with fw := startCause s }

/-- The lands and sources as the appearing of a source leaves them (R308, R327). (DESIGN CHOICE 102,
safe.) -/
def appear (src : ShipWake) (s : State) : State :=
  match src with
  | .button => s
  | .vin => { s with land := { s.land with vinLow := false, vinWait := false } }
  | .auxin =>
    bump { s with chg := { s.chg with
      auxPresent := true, auxIn := true, auxOk := true
      auxId := if 1 ≤ s.chg.auxId ∧ s.chg.auxId ≤ 6 then s.chg.auxId else 1 + Config.freeNat s.free % 6 } }
  | .seam =>
    bump { s with chg := { s.chg with phantomIn := if Config.freeBool s.free then (true, s.chg.phantomIn.2) else (s.chg.phantomIn.1, true) } }

/-- Source and detail of the record of an exit from SHIP (R476). -/
def shipCode : ShipWake → Nat × Nat
  | .button => (5, 0)
  | .vin => (7, 0)
  | .auxin => (7, 1)
  | .seam => (7, 2)

/-- SHIP_EXIT: PSW closes, and a full start follows. By the button alone, with no supply but the pack,
which never feeds the internal bias, the module leaves SHIP without power, and starts when a
source returns. A stuck button does not wake it. The straps are read again (R16, R23, R301, R327,
R475, R476). (DESIGN CHOICE 102, safe.) (DESIGN CHOICE 98, safe.) -/
def execShipExit (e : ShipLeave) (s : State) : Host.Outcome State Fault Refusal :=
  let s1 := appear e.wake s
  let s2 : State := bump { s1 with chg := { s1.chg with psw := true } }
  if s.pwr.st ≠ .ship ∨ (e.wake = .button ∧ s.land.wakeIgnored) then .next s
  else if supplied s2 then fullStart e.straps e.ext (shipCode e.wake).1 (shipCode e.wake).2 3 s2
  else
    .next (recordWake (shipCode e.wake).1 (shipCode e.wake).2 3 (losePower { s2 with pwr := { s2.pwr with st := .run } }))

/-- AUTO_UP: the module makes the DOMAIN_UP that its full start left to it, once no probe runs; an
automatic probe that was aborted has not completed, and leaves only the enable pin's edge (R230,
R384, R445). (DEDUCED 103, unsafe.) -/
def execAutoUp (s : State) : Host.Outcome State Fault Refusal :=
  .next (if s.dom.autoUp = false ∨ s.proto.running = false ∨ s.off ∨ s.map.probe = .running ∨ s.proto.cfg = .applying then s
    else
      let t : State := { s with dom := { s.dom with autoUp := false } }
      if s.map.probe = .aborted ∧ enableHigh s = false then t else pinUp t)

end Sys2Proof.Machine
end

