-- ==== Sys2Proof/Machine/Dispatch.lean ====
section
/-! DEFINITION. One arm per command: the arm calls the command's meaning, or rejects it by name. -/

namespace Sys2Proof.Machine

/-- The effect of a command on everything but the queue. -/
def exec (i : Instr) (s : State) : Host.Outcome State Fault Refusal :=
  match i with
  | .hello q => Sys2Proof.Machine.execHello q s
  | .identify q => Sys2Proof.Machine.execIdentify q s
  | .getStatus q => Sys2Proof.Machine.execGetStatus q s
  | .resetModule q => Sys2Proof.Machine.execResetModule q s
  | .configLoad q => Sys2Proof.Machine.execConfigLoad q s
  | .configApply q => Sys2Proof.Machine.execConfigApply q s
  | .configRead q => Sys2Proof.Machine.execConfigRead q s
  | .configDigest q => Sys2Proof.Machine.execConfigDigest q s
  | .railmapSet q => Sys2Proof.Machine.execRailmapSet q s
  | .railmapGet q => Sys2Proof.Machine.execRailmapGet q s
  | .tackProbe q => Sys2Proof.Machine.execTackProbe q s
  | .tackResult q => Sys2Proof.Machine.execTackResult q s
  | .railmapApply q => Sys2Proof.Machine.execRailmapApply q s
  | .mapStoreDone => Sys2Proof.Machine.execMapStoreDone s
  | .railEnable q => Sys2Proof.Machine.execRailEnable q s
  | .railDisable q => Sys2Proof.Machine.execRailDisable q s
  | .railSetTarget q => Sys2Proof.Machine.execRailSetTarget q s
  | .railStoreSetpoint q => Sys2Proof.Machine.execRailStoreSetpoint q s
  | .railBindSelect q => Sys2Proof.Machine.execRailBindSelect q s
  | .railSetSlew q => Sys2Proof.Machine.execRailSetSlew q s
  | .railSetComp q => Sys2Proof.Machine.execRailSetComp q s
  | .railGetState q => Sys2Proof.Machine.execRailGetState q s
  | .phasePolicy q => Sys2Proof.Machine.execPhasePolicy q s
  | .firingOrder q => Sys2Proof.Machine.execFiringOrder q s
  | .creaseConfig q => Sys2Proof.Machine.execCreaseConfig q s
  | .creaseRead q => Sys2Proof.Machine.execCreaseRead q s
  | .creaseClear q => Sys2Proof.Machine.execCreaseClear q s
  | .phaseStatus q => Sys2Proof.Machine.execPhaseStatus q s
  | .clockSource q => Sys2Proof.Machine.execClockSource q s
  | .syncQualify q => Sys2Proof.Machine.execSyncQualify q s
  | .keepoutSet q => Sys2Proof.Machine.execKeepoutSet q s
  | .spurPlanCheck q => Sys2Proof.Machine.execSpurPlanCheck q s
  | .clockStatus q => Sys2Proof.Machine.execClockStatus q s
  | .railFswSet q => Sys2Proof.Machine.execRailFswSet q s
  | .limitsSet q => Sys2Proof.Machine.execLimitsSet q s
  | .windowSet q => Sys2Proof.Machine.execWindowSet q s
  | .cellRetire q => Sys2Proof.Machine.execCellRetire q s
  | .cellRestore q => Sys2Proof.Machine.execCellRestore q s
  | .faultClear q => Sys2Proof.Machine.execFaultClear q s
  | .cellSelfTestDone passed => Sys2Proof.Machine.execCellSelfTestDone passed s
  | .coverageReport q => Sys2Proof.Machine.execCoverageReport q s
  | .seqSlotSet q => Sys2Proof.Machine.execSeqSlotSet q s
  | .domainUp q => Sys2Proof.Machine.execDomainUp q s
  | .domainDown q => Sys2Proof.Machine.execDomainDown q s
  | .latchRelease q => Sys2Proof.Machine.execLatchRelease q s
  | .pressingRead q => Sys2Proof.Machine.execPressingRead q s
  | .supervisorConfig q => Sys2Proof.Machine.execSupervisorConfig q s
  | .domainConfig q => Sys2Proof.Machine.execDomainConfig q s
  | .domainStatus q => Sys2Proof.Machine.execDomainStatus q s
  | .tseqSet q => Sys2Proof.Machine.execTseqSet q s
  | .tseqStart q => Sys2Proof.Machine.execTseqStart q s
  | .tseqStop q => Sys2Proof.Machine.execTseqStop q s
  | .readChannel q => Sys2Proof.Machine.execReadChannel q s
  | .dropCounts q => Sys2Proof.Machine.execDropCounts q s
  | .streamConfig q => Sys2Proof.Machine.execStreamConfig q s
  | .tseqRead q => Sys2Proof.Machine.execTseqRead q s
  | .tempMeasure q => Sys2Proof.Machine.execTempMeasure q s
  | .thermalLimits q => Sys2Proof.Machine.execThermalLimits q s
  | .throttlePolicy q => Sys2Proof.Machine.execThrottlePolicy q s
  | .thermalStatus q => Sys2Proof.Machine.execThermalStatus q s
  | .chargerConfig q => Sys2Proof.Machine.execChargerConfig q s
  | .chargerStart q => Sys2Proof.Machine.execChargerStart q s
  | .chargerStop q => Sys2Proof.Machine.execChargerStop q s
  | .chargerStatus q => Sys2Proof.Machine.execChargerStatus q s
  | .shipEnter q => Sys2Proof.Machine.execShipEnter q s
  | .holdRailSet q => Sys2Proof.Machine.execHoldRailSet q s
  | .rtcSet q => Sys2Proof.Machine.execRtcSet q s
  | .rtcGet q => Sys2Proof.Machine.execRtcGet q s
  | .rtcMode q => Sys2Proof.Machine.execRtcMode q s
  | .alarmSet q => Sys2Proof.Machine.execAlarmSet q s
  | .periodicSet q => Sys2Proof.Machine.execPeriodicSet q s
  | .backupWrite q => Sys2Proof.Machine.execBackupWrite q s
  | .backupRead q => Sys2Proof.Machine.execBackupRead q s
  | .ppsConfig q => Sys2Proof.Machine.execPpsConfig q s
  | .wdogConfig q => Sys2Proof.Machine.execWdogConfig q s
  | .rollcallConfig q => Sys2Proof.Machine.execRollcallConfig q s
  | .taskCheckin q => Sys2Proof.Machine.execTaskCheckin q s
  | .wdogStatus q => Sys2Proof.Machine.execWdogStatus q s
  | .eventConfig q => Sys2Proof.Machine.execEventConfig q s
  | .eventClaim q => Sys2Proof.Machine.execEventClaim q s
  | .eventDone q => Sys2Proof.Machine.execEventDone q s
  | .soakSet q => Sys2Proof.Machine.execSoakSet q s
  | .moderationSet q => Sys2Proof.Machine.execModerationSet q s
  | .eventPendingRead q => Sys2Proof.Machine.execEventPendingRead q s
  | .stateEnter q => Sys2Proof.Machine.execStateEnter q s
  | .stateVote q => Sys2Proof.Machine.execStateVote q s
  | .stateAccounting q => Sys2Proof.Machine.execStateAccounting q s
  | .lastWake q => Sys2Proof.Machine.execLastWake q s
  | .otpRead q => Sys2Proof.Machine.execOtpRead q s
  | .otpProgram q => Sys2Proof.Machine.execOtpProgram q s
  | .otpFinalise q => Sys2Proof.Machine.execOtpFinalise q s
  | .otpDarn q => Sys2Proof.Machine.execOtpDarn q s
  | .lifecycleAdvance q => Sys2Proof.Machine.execLifecycleAdvance q s
  | .otpHealth q => Sys2Proof.Machine.execOtpHealth q s
  | .fwStage q => Sys2Proof.Machine.execFwStage q s
  | .fwVerify q => Sys2Proof.Machine.execFwVerify q s
  | .fwCommit q => Sys2Proof.Machine.execFwCommit q s
  | .fwStatus q => Sys2Proof.Machine.execFwStatus q s
  | .fwRevert q => Sys2Proof.Machine.execFwRevert q s
  | .seamStatus q => Sys2Proof.Machine.execSeamStatus q s
  | .domainJoin q => Sys2Proof.Machine.execDomainJoin q s
  | .domainAgreeStatus q => Sys2Proof.Machine.execDomainAgreeStatus q s
  | .seamAddressSet q => Sys2Proof.Machine.execSeamAddressSet q s
  | .timeMaster q => Sys2Proof.Machine.execTimeMaster q s
  | .testmuxSelect q => Sys2Proof.Machine.execTestmuxSelect q s
  | .testmuxRelease q => Sys2Proof.Machine.execTestmuxRelease q s
  | .doorbellSubmit v => Sys2Proof.Machine.execDoorbellSubmit v s
  | .doorbellTake v => Sys2Proof.Machine.execDoorbellTake v s
  | .commandWindowWrite b => Sys2Proof.Machine.execCommandWindowWrite b s
  | .w1cWrite b => Sys2Proof.Machine.execW1cWrite b s
  | .pointerSet lo hi => Sys2Proof.Machine.execPointerSet lo hi s
  | .registerWrite b => Sys2Proof.Machine.execRegisterWrite b s
  | .replyReady => Sys2Proof.Machine.execReplyReady s
  | .replyTakeTimeout => Sys2Proof.Machine.execReplyTakeTimeout s
  | .sclTimeout => Sys2Proof.Machine.execSclTimeout s
  | .sdaTimeout => Sys2Proof.Machine.execSdaTimeout s
  | .busAbort => Sys2Proof.Machine.execBusAbort s
  | .recovered => Sys2Proof.Machine.execRecovered s
  | .twoWireWake => Sys2Proof.Machine.execTwoWireWake s
  | .engineHandover => Sys2Proof.Machine.execEngineHandover s
  | .wakeSlow => Sys2Proof.Machine.execWakeSlow s
  | .command p w => Sys2Proof.Machine.execCommand p w s
  | .bcastReplyDue => Sys2Proof.Machine.execBcastReplyDue s
  | .reply p w => Sys2Proof.Machine.execReply p w s
  | .event p w => Sys2Proof.Machine.execEvent p w s
  | .sync p w phase resid => Sys2Proof.Machine.execSync p w phase resid s
  | .announce p w => Sys2Proof.Machine.execAnnounce p w s
  | .telemetry p w => Sys2Proof.Machine.execTelemetry p w s
  | .faultEcho p w => Sys2Proof.Machine.execFaultEcho p w s
  | .wake p w => Sys2Proof.Machine.execWake p w s
  | .wakeForwardTimeout p => Sys2Proof.Machine.execWakeForwardTimeout p s
  | .linkSync p => Sys2Proof.Machine.execLinkSync p s
  | .linkSyncLost p => Sys2Proof.Machine.execLinkSyncLost p s
  | .linkWord p w rt => Sys2Proof.Machine.execLinkWord p w rt s
  | .trainingTimeout p => Sys2Proof.Machine.execTrainingTimeout p s
  | .verRetry p => Sys2Proof.Machine.execVerRetry p s
  | .faulty p => Sys2Proof.Machine.execFaulty p s
  | .faultySeen p => Sys2Proof.Machine.execFaultySeen p s
  | .probeBurst p => Sys2Proof.Machine.execProbeBurst p s
  | .phOverload p => Sys2Proof.Machine.execPhOverload p s
  | .phantomRestore p => Sys2Proof.Machine.execPhantomRestore p s
  | .seamWakeSignal p => Sys2Proof.Machine.execSeamWakeSignal p s
  | .announceDue => Sys2Proof.Machine.execAnnounceDue s
  | .syncDue => Sys2Proof.Machine.execSyncDue s
  | .agreementEval => Sys2Proof.Machine.execAgreementEval s
  | .echoRepeat => Sys2Proof.Machine.execEchoRepeat s
  | .vinRise => Sys2Proof.Machine.execVinRise s
  | .vinUv => Sys2Proof.Machine.execVinUv s
  | .vinOv => Sys2Proof.Machine.execVinOv s
  | .vinOvRecover => Sys2Proof.Machine.execVinOvRecover s
  | .vinRestart => Sys2Proof.Machine.execVinRestart s
  | .auxinRange c => Sys2Proof.Machine.execAuxinRange c s
  | .auxidRead v => Sys2Proof.Machine.execAuxidRead v s
  | .bthOpen c => Sys2Proof.Machine.execBthOpen c s
  | .wakeBtn => Sys2Proof.Machine.execWakeBtn s
  | .wakeStuck => Sys2Proof.Machine.execWakeStuck s
  | .resetN => Sys2Proof.Machine.execResetN s
  | .fullResetTimeout => Sys2Proof.Machine.execFullResetTimeout s
  | .fullStart straps ext => Sys2Proof.Machine.execFullStart straps ext s
  | .autoUp => Sys2Proof.Machine.execAutoUp s
  | .managerStart => Sys2Proof.Machine.execManagerStart s
  | .resetModuleAct => Sys2Proof.Machine.execResetModuleAct s
  | .lockstepMismatch => Sys2Proof.Machine.execLockstepMismatch s
  | .faultNLow => Sys2Proof.Machine.execFaultNLow s
  | .faultNRelease => Sys2Proof.Machine.execFaultNRelease s
  | .fnOpen => Sys2Proof.Machine.execFnOpen s
  | .fnStuck => Sys2Proof.Machine.execFnStuck s
  | .squiHigh => Sys2Proof.Machine.execSquiHigh s
  | .sqdiHigh => Sys2Proof.Machine.execSqdiHigh s
  | .cascadeDrop => Sys2Proof.Machine.execCascadeDrop s
  | .casTimeout => Sys2Proof.Machine.execCasTimeout s
  | .enPinEdge pin level => Sys2Proof.Machine.execEnPinEdge pin level s
  | .upDelayEnd => Sys2Proof.Machine.execUpDelayEnd s
  | .slotQualified => Sys2Proof.Machine.execSlotQualified s
  | .slotTimeout => Sys2Proof.Machine.execSlotTimeout s
  | .pgFall r c => Sys2Proof.Machine.execPgFall r c s
  | .supervisionStart r => Sys2Proof.Machine.execSupervisionStart r s
  | .downDelayEnd => Sys2Proof.Machine.execDownDelayEnd s
  | .slotDownDone => Sys2Proof.Machine.execSlotDownDone s
  | .downTimeout r => Sys2Proof.Machine.execDownTimeout r s
  | .supervisorJudgement k code => Sys2Proof.Machine.execSupervisorJudgement k code s
  | .supervisorScanEnd codes cross => Sys2Proof.Machine.execSupervisorScanEnd codes cross s
  | .pressingWrite => Sys2Proof.Machine.execPressingWrite s
  | .ovTrip r => Sys2Proof.Machine.execOvTrip r s
  | .uvTrip r => Sys2Proof.Machine.execUvTrip r s
  | .thresholdReadback r ov uv => Sys2Proof.Machine.execThresholdReadback r ov uv s
  | .senseFault r => Sys2Proof.Machine.execSenseFault r s
  | .negLimitRelease r => Sys2Proof.Machine.execNegLimitRelease r s
  | .cellFault c cause => Sys2Proof.Machine.execCellFault c cause s
  | .inputSwitch c => Sys2Proof.Machine.execInputSwitch c s
  | .islandClock c kHz => Sys2Proof.Machine.execIslandClock c kHz s
  | .inputNodeReady c => Sys2Proof.Machine.execInputNodeReady c s
  | .peakTrip p => Sys2Proof.Machine.execPeakTrip p s
  | .zeroCross c => Sys2Proof.Machine.execZeroCross c s
  | .pwmPeriodBoundary c avg => Sys2Proof.Machine.execPwmPeriodBoundary c avg s
  | .errorSample c diff => Sys2Proof.Machine.execErrorSample c diff s
  | .heartbeat c src count ecc => Sys2Proof.Machine.execHeartbeat c src count ecc s
  | .shadow c src index word ecc => Sys2Proof.Machine.execShadow c src index word ecc s
  | .duty c on ecc => Sys2Proof.Machine.execDuty c on ecc s
  | .current c src word ecc => Sys2Proof.Machine.execCurrent c src word ecc s
  | .statusRd c index ecc => Sys2Proof.Machine.execStatusRd c index ecc s
  | .statusReply c => Sys2Proof.Machine.execStatusReply c s
  | .configWr c index word ecc => Sys2Proof.Machine.execConfigWr c index word ecc s
  | .isolate c cause ecc => Sys2Proof.Machine.execIsolate c cause ecc s
  | .reference c code ecc => Sys2Proof.Machine.execReference c code ecc s
  | .arm c ecc => Sys2Proof.Machine.execArm c ecc s
  | .reservedMessage c type ecc => Sys2Proof.Machine.execReservedMessage c type ecc s
  | .hsTimeout c => Sys2Proof.Machine.execHsTimeout c s
  | .busSilent c => Sys2Proof.Machine.execBusSilent c s
  | .apply c word ecc => Sys2Proof.Machine.execApply c word ecc s
  | .pendShed c word ecc => Sys2Proof.Machine.execPendShed c word ecc s
  | .cancel c word ecc => Sys2Proof.Machine.execCancel c word ecc s
  | .controlTick r => Sys2Proof.Machine.execControlTick r s
  | .checkPoint r => Sys2Proof.Machine.execCheckPoint r s
  | .rankRewrite r => Sys2Proof.Machine.execRankRewrite r s
  | .prestartMeasureDone r vin sense co => Sys2Proof.Machine.execPrestartMeasureDone r vin sense co s
  | .armGroupDue => Sys2Proof.Machine.execArmGroupDue s
  | .demHoldEnd r => Sys2Proof.Machine.execDemHoldEnd r s
  | .railStopped r => Sys2Proof.Machine.execRailStopped r s
  | .selChange pin level => Sys2Proof.Machine.execSelChange pin level s
  | .dwellEnd r => Sys2Proof.Machine.execDwellEnd r s
  | .holdoffEnd r => Sys2Proof.Machine.execHoldoffEnd r s
  | .tumbleDue r => Sys2Proof.Machine.execTumbleDue r s
  | .frameStrobe x t => Sys2Proof.Machine.execFrameStrobe x t s
  | .missed x => Sys2Proof.Machine.execMissed x s
  | .frameInAbsent => Sys2Proof.Machine.execFrameInAbsent s
  | .tackDischargeLook above last => Sys2Proof.Machine.execTackDischargeLook above last s
  | .tackSlotEnd c amps fault => Sys2Proof.Machine.execTackSlotEnd c amps fault s
  | .tackDone => Sys2Proof.Machine.execTackDone s
  | .syncInPresent => Sys2Proof.Machine.execSyncInPresent s
  | .syncRange => Sys2Proof.Machine.execSyncRange s
  | .syncMeasurement m => Sys2Proof.Machine.execSyncMeasurement m s
  | .qualified => Sys2Proof.Machine.execQualified s
  | .locked => Sys2Proof.Machine.execLocked s
  | .slideDone => Sys2Proof.Machine.execSlideDone s
  | .lockedSecond mean => Sys2Proof.Machine.execLockedSecond mean s
  | .uUpdate => Sys2Proof.Machine.execUUpdate s
  | .xoFail => Sys2Proof.Machine.execXoFail s
  | .xoRecovered => Sys2Proof.Machine.execXoRecovered s
  | .clockSwitch coast => Sys2Proof.Machine.execClockSwitch coast s
  | .clkswForced => Sys2Proof.Machine.execClkswForced s
  | .levelRequest level => Sys2Proof.Machine.execLevelRequest level s
  | .vfSwitch => Sys2Proof.Machine.execVfSwitch s
  | .vfFail => Sys2Proof.Machine.execVfFail s
  | .syncOutCycleEnd => Sys2Proof.Machine.execSyncOutCycleEnd s
  | .timerFire k => Sys2Proof.Machine.execTimerFire k s
  | .sequenceTrigger q => Sys2Proof.Machine.execSequenceTrigger q s
  | .runStart q => Sys2Proof.Machine.execRunStart q s
  | .conversionDone q codes => Sys2Proof.Machine.execConversionDone q codes s
  | .noEvent q => Sys2Proof.Machine.execNoEvent q s
  | .thermalSchedule => Sys2Proof.Machine.execThermalSchedule s
  | .tempReadingDone code reading => Sys2Proof.Machine.execTempReadingDone code reading s
  | .tempReadingTimeout code => Sys2Proof.Machine.execTempReadingTimeout code s
  | .dieSenseFault k bad => Sys2Proof.Machine.execDieSenseFault k bad s
  | .tsd k => Sys2Proof.Machine.execTsd k s
  | .tsdClear => Sys2Proof.Machine.execTsdClear s
  | .hnSag => Sys2Proof.Machine.execHnSag s
  | .holdReturnVin => Sys2Proof.Machine.execHoldReturnVin s
  | .holdShort => Sys2Proof.Machine.execHoldShort s
  | .holdRetry => Sys2Proof.Machine.execHoldRetry s
  | .packExhausted => Sys2Proof.Machine.execPackExhausted s
  | .packRemoved => Sys2Proof.Machine.execPackRemoved s
  | .packInserted => Sys2Proof.Machine.execPackInserted s
  | .sourceChange e => Sys2Proof.Machine.execSourceChange e s
  | .chargerSecond packMv mA limiting => Sys2Proof.Machine.execChargerSecond packMv mA limiting s
  | .qualifyDone packMv => Sys2Proof.Machine.execQualifyDone packMv s
  | .phaseTimerExpired wall => Sys2Proof.Machine.execPhaseTimerExpired wall s
  | .rechargeCheck packMv => Sys2Proof.Machine.execRechargeCheck packMv s
  | .chargerHw => Sys2Proof.Machine.execChargerHw s
  | .shipEntry => Sys2Proof.Machine.execShipEntry s
  | .shipExit e => Sys2Proof.Machine.execShipExit e s
  | .hibernateEntry => Sys2Proof.Machine.execHibernateEntry s
  | .hibernateEntered => Sys2Proof.Machine.execHibernateEntered s
  | .hibernateExit src => Sys2Proof.Machine.execHibernateExit src s
  | .dozeResume => Sys2Proof.Machine.execDozeResume s
  | .wdiChange level stamp => Sys2Proof.Machine.execWdiChange level stamp s
  | .wdogOpen => Sys2Proof.Machine.execWdogOpen s
  | .wdogExpiry => Sys2Proof.Machine.execWdogExpiry s
  | .wdogPulseEnd => Sys2Proof.Machine.execWdogPulseEnd s
  | .ppsEdge inRange => Sys2Proof.Machine.execPpsEdge inRange s
  | .ppsAbsent => Sys2Proof.Machine.execPpsAbsent s
  | .alarmFire k => Sys2Proof.Machine.execAlarmFire k s
  | .periodicWake => Sys2Proof.Machine.execPeriodicWake s
  | .calWrap => Sys2Proof.Machine.execCalWrap s
  | .timeSuspect => Sys2Proof.Machine.execTimeSuspect s
  | .hemPor => Sys2Proof.Machine.execHemPor s
  | .holdupLow low => Sys2Proof.Machine.execHoldupLow low s
  | .eventLineEdge e level => Sys2Proof.Machine.execEventLineEdge e level s
  | .moderationDue ch => Sys2Proof.Machine.execModerationDue ch s
  | .configDone => Sys2Proof.Machine.execConfigDone s
  | .fwVerifyDone => Sys2Proof.Machine.execFwVerifyDone s
  | .commitStop => Sys2Proof.Machine.execCommitStop s
  | .trialConfirm => Sys2Proof.Machine.execTrialConfirm s
  | .seamFrameSent p => Sys2Proof.Machine.execSeamFrameSent p s
  | .otpBurnDone result => Sys2Proof.Machine.execOtpBurnDone result s
  | .fwStageWriteDone ok => Sys2Proof.Machine.execFwStageWriteDone ok s
  | .pgRawRise r c => Sys2Proof.Machine.execPgRawRise r c s
  | .phantomPowerLost p => Sys2Proof.Machine.execPhantomPowerLost p s

end Sys2Proof.Machine
end

