-- ==== Sys2Proof/Machine/Idle.lean ====
section
/-! DEFINITION. What passing time does by itself: one Hem tick on an empty queue of commands. -/

namespace Sys2Proof.Machine

/-- The queue of commands is empty: one Hem tick passes, a warning whose readings have grown old
clears, and a calendar that passes the end of its span says so (R287, R336, R338). (DESIGN CHOICE
1, unsafe.) (DESIGN CHOICE 34, safe; DEDUCED 144, unsafe.) -/
def idle (s : State) : State := wrapOver s.hem.count (ageWarn (passTick s))

end Sys2Proof.Machine
end

