-- ==== Sys2Proof/Safety.lean ====
section
/-! DEFINITION. The terms in which claims are made: the opcode of a command, when the interpreter executes a command at once, what an
executed command comes to, and the invariant that every step keeps. -/

namespace Sys2Proof.Machine

/-- The opcode row and the request of a Zhoenne command; none for a happening (R390). -/
def zhoenne : Instr → Option (OpSpec × Req)
  | .hello q => some (helloOp, q)
  | .identify q => some (identifyOp, q)
  | .getStatus q => some (getStatusOp, q)
  | .resetModule q => some (resetModuleOp, q)
  | .configLoad q => some (configLoadOp, q)
  | .configApply q => some (configApplyOp, q)
  | .configRead q => some (configReadOp, q)
  | .configDigest q => some (configDigestOp, q)
  | .railmapSet q => some (railmapSetOp, q)
  | .railmapGet q => some (railmapGetOp, q)
  | .tackProbe q => some (tackProbeOp, q)
  | .tackResult q => some (tackResultOp, q)
  | .railmapApply q => some (railmapApplyOp, q)
  | .railEnable q => some (railEnableOp, q)
  | .railDisable q => some (railDisableOp, q)
  | .railSetTarget q => some (railSetTargetOp, q)
  | .railStoreSetpoint q => some (railStoreSetpointOp, q)
  | .railBindSelect q => some (railBindSelectOp, q)
  | .railSetSlew q => some (railSetSlewOp, q)
  | .railSetComp q => some (railSetCompOp, q)
  | .railGetState q => some (railGetStateOp, q)
  | .phasePolicy q => some (phasePolicyOp, q)
  | .firingOrder q => some (firingOrderOp, q)
  | .creaseConfig q => some (creaseConfigOp, q)
  | .creaseRead q => some (creaseReadOp, q)
  | .creaseClear q => some (creaseClearOp, q)
  | .phaseStatus q => some (phaseStatusOp, q)
  | .clockSource q => some (clockSourceOp, q)
  | .syncQualify q => some (syncQualifyOp, q)
  | .keepoutSet q => some (keepoutSetOp, q)
  | .spurPlanCheck q => some (spurPlanCheckOp, q)
  | .clockStatus q => some (clockStatusOp, q)
  | .railFswSet q => some (railFswSetOp, q)
  | .limitsSet q => some (limitsSetOp, q)
  | .windowSet q => some (windowSetOp, q)
  | .cellRetire q => some (cellRetireOp, q)
  | .cellRestore q => some (cellRestoreOp, q)
  | .faultClear q => some (faultClearOp, q)
  | .coverageReport q => some (coverageReportOp, q)
  | .seqSlotSet q => some (seqSlotSetOp, q)
  | .domainUp q => some (domainUpOp, q)
  | .domainDown q => some (domainDownOp, q)
  | .latchRelease q => some (latchReleaseOp, q)
  | .pressingRead q => some (pressingReadOp, q)
  | .supervisorConfig q => some (supervisorConfigOp, q)
  | .domainConfig q => some (domainConfigOp, q)
  | .domainStatus q => some (domainStatusOp, q)
  | .tseqSet q => some (tseqSetOp, q)
  | .tseqStart q => some (tseqStartOp, q)
  | .tseqStop q => some (tseqStopOp, q)
  | .readChannel q => some (readChannelOp, q)
  | .dropCounts q => some (dropCountsOp, q)
  | .streamConfig q => some (streamConfigOp, q)
  | .tseqRead q => some (tseqReadOp, q)
  | .tempMeasure q => some (tempMeasureOp, q)
  | .thermalLimits q => some (thermalLimitsOp, q)
  | .throttlePolicy q => some (throttlePolicyOp, q)
  | .thermalStatus q => some (thermalStatusOp, q)
  | .chargerConfig q => some (chargerConfigOp, q)
  | .chargerStart q => some (chargerStartOp, q)
  | .chargerStop q => some (chargerStopOp, q)
  | .chargerStatus q => some (chargerStatusOp, q)
  | .shipEnter q => some (shipEnterOp, q)
  | .holdRailSet q => some (holdRailSetOp, q)
  | .rtcSet q => some (rtcSetOp, q)
  | .rtcGet q => some (rtcGetOp, q)
  | .rtcMode q => some (rtcModeOp, q)
  | .alarmSet q => some (alarmSetOp, q)
  | .periodicSet q => some (periodicSetOp, q)
  | .backupWrite q => some (backupWriteOp, q)
  | .backupRead q => some (backupReadOp, q)
  | .ppsConfig q => some (ppsConfigOp, q)
  | .wdogConfig q => some (wdogConfigOp, q)
  | .rollcallConfig q => some (rollcallConfigOp, q)
  | .taskCheckin q => some (taskCheckinOp, q)
  | .wdogStatus q => some (wdogStatusOp, q)
  | .eventConfig q => some (eventConfigOp, q)
  | .eventClaim q => some (eventClaimOp, q)
  | .eventDone q => some (eventDoneOp, q)
  | .soakSet q => some (soakSetOp, q)
  | .moderationSet q => some (moderationSetOp, q)
  | .eventPendingRead q => some (eventPendingReadOp, q)
  | .stateEnter q => some (stateEnterOp, q)
  | .stateVote q => some (stateVoteOp, q)
  | .stateAccounting q => some (stateAccountingOp, q)
  | .lastWake q => some (lastWakeOp, q)
  | .otpRead q => some (otpReadOp, q)
  | .otpProgram q => some (otpProgramOp, q)
  | .otpFinalise q => some (otpFinaliseOp, q)
  | .otpDarn q => some (otpDarnOp, q)
  | .lifecycleAdvance q => some (lifecycleAdvanceOp, q)
  | .otpHealth q => some (otpHealthOp, q)
  | .fwStage q => some (fwStageOp, q)
  | .fwVerify q => some (fwVerifyOp, q)
  | .fwCommit q => some (fwCommitOp, q)
  | .fwStatus q => some (fwStatusOp, q)
  | .fwRevert q => some (fwRevertOp, q)
  | .seamStatus q => some (seamStatusOp, q)
  | .domainJoin q => some (domainJoinOp, q)
  | .domainAgreeStatus q => some (domainAgreeStatusOp, q)
  | .seamAddressSet q => some (seamAddressSetOp, q)
  | .timeMaster q => some (timeMasterOp, q)
  | .testmuxSelect q => some (testmuxSelectOp, q)
  | .testmuxRelease q => some (testmuxReleaseOp, q)
  | _ => none

/-- The state in which a command that has its turn is executed: a clock-gated manager resumes, and of a command over the host port the port
is BUSY, its unread reply discarded (R405, R468). -/
def arrived (q : Req) (s : State) : State := if q.src = .host then submitted (resume s) else resume s

/-- It is a command's turn as it arrives: the module has power, the host port, where it comes that way, has its engine and is not BUSY, the
manager runs and executes none, none waits, and the command is no repetition (R369, R370, R405, R411). -/
structure Turn (op : Nat) (q : Req) (s : State) : Prop where
  /-- It has power. -/
  on : s.off = false
  /-- The host port takes a submission. -/
  host : q.src = .host → s.hp.engine = true ∧ s.hp.st ≠ .busy
  /-- The manager runs. -/
  running : s.proto.running = true
  /-- It executes no other command. -/
  free : s.proto.exec = none
  /-- No command waits. -/
  empty : s.proto.waiting = []
  /-- No reply kept answers it. -/
  fresh : keptFor s (Req.packet q op s) = none

/-- The module executes a Zhoenne command of this source as soon as it arrives: it has its turn, the power state is not SAFE HOLD, and no
image is being applied (R369, R370, R383, R478). -/
structure Ready (op : Nat) (q : Req) (s : State) : Prop extends Turn op q s where
  /-- Not SAFE HOLD. -/
  awake : s.pwr.st ≠ .safeHold
  /-- No image is being applied. -/
  still : s.proto.cfg ≠ .applying
  /-- A version 2 command. -/
  v2 : q.ver = 2

/-- A command that completes: `exec` answers the state in which its packet has been answered with a status and a result, after the
effects that `P` states. -/
def Completes (i : Instr) (op : Nat) (q : Req) (s : State) (st : Status) (result : List Byte) (P : State → Prop) : Prop :=
  ∃ t, exec i s = .next (answer (Req.packet q op s) st result t) ∧ P t

/-- A command whose reply waits for an operation begun: `exec` answers the state in which it is the command in execution, after the
effects that `P` states. -/
def Begins (i : Instr) (op : Nat) (q : Req) (s : State) (d : Deferred) (P : State → Prop) : Prop :=
  ∃ t, exec i s = .next { t with proto := { t.proto with exec := some (Req.packet q op s, d) } } ∧ P t

/-- A command that only reads: it is answered DONE with a record, and nothing else changes. -/
def Reads (i : Instr) (op : Nat) (q : Req) (s : State) (result : List Byte) : Prop :=
  exec i s = .next (answer (Req.packet q op s) .done result (arrived q s))

/-- What CONFIG_APPLY leaves before its sections are executed: APPLYING, with no note counted (R382). -/
def applyStart (q : Req) (n : Nat) (s : State) : State :=
  bump { arrived q s with proto := { s.proto with
    cfg := .applying, applyBits := (natBit (byteAt q.params 0) 0, natBit (byteAt q.params 0) 1), applied := n, notes := 0
    firstNote := none } }

/-- Slot `j` has left its time zero in this rise and has, or has had, a rail out of OFF: the fall turns it off (R242). -/
def SlotRan (s : State) (j : Fin 16) : Prop :=
  s.dom.leftZero.getLsbD j.val = true ∧ s.dom.slotsNow[j].used = true ∧
    (s.dom.ran.getLsbD j.val = true ∨ ∃ r : Fin 48, natBit s.dom.slotsNow[j].rails r.val = true ∧ s.rails[r].st ≠ .off)

/-- A sequence after a trigger at a tick: every DECIM-th of a running one makes a run due DELAY later, or counts as an overrun, by which
a command-triggered one stops (R269, R270). -/
def triggered (tick : Nat) (x : TSeq) : TSeq :=
  let busy := x.delayed || x.waiting || x.converting
  if x.running = false then x
  else if x.dec ≠ 0 then { x with dec := (x.dec + 1) % x.decimN }
  else if busy then { x with dec := 1 % x.decimN, overruns := satInc 65535 x.overruns, running := decide (x.kindN ≠ 0) }
  else { x with dec := 1 % x.decimN, delayed := true, dueAt := tick + x.delay }

/-- A sequence of which no run is due at a tick, and none waits (R271). -/
def Quiet (tick : Nat) (x : TSeq) : Prop := x.due tick = false ∧ x.waiting = false

/-- What the undervoltage signal leaves: every cell off, every rail that ran OFF, the domain DOWN unless it was latched, a rise
remembered, and VIN_UV_SEEN set (R21, R244). -/
def Unpowered (s t : State) : Prop :=
  t.land.flags = s.land.flags ||| 0x400000 ∧
  (∀ c : Fin 256, t.cells[c] = if s.cells[c].st = .retired then s.cells[c] else s.cells[c].turnOff) ∧
  (∀ r : Fin 48, t.rails[r].st = if s.rails[r].st = .latchedOff then .latchedOff else .off) ∧
  (s.dom.st = .latched → t.dom.st = .latched) ∧
  (s.dom.st ≠ .latched → t.dom.st = .down ∧
    (t.dom.vinMem = true ↔ s.dom.st = .rising ∨ s.dom.st = .up ∨ s.dom.vinMem = true))

/-- The fabric is unchanged: the cells, the rails, the domain and the crease contexts. -/
def Elsewhere (s t : State) : Prop := t.cells = s.cells ∧ t.rails = s.rails ∧ t.dom = s.dom ∧ t.crease = s.crease

/-- The fabric is unchanged, but that FAULT_N is released where the module loses its power (R15, R301). -/
def MayGoDark (s t : State) : Prop :=
  t.cells = s.cells ∧ t.rails = s.rails ∧ t.crease = s.crease ∧ (t.pwr.lost = s.pwr.lost → t.dom = s.dom) ∧
    (t.pwr.lost ≠ s.pwr.lost → t.dom = { s.dom with fnDrive := false })

/-- HOLD enters a state, and nothing else changes but its count, its flags and what an event changes (R304). -/
def HoldMoves (s t : State) (h : HoldSt) : Prop :=
  t = { s with chg := { s.chg with hold := h, switchovers := t.chg.switchovers, flags := t.chg.flags }
               router := t.router, seam := t.seam, pwr := t.pwr, clk := t.clk }

/-- Port state is reset and a flag of HP_FLAGS set (R403, R409, R410). -/
def PortReset (s t : State) (flag : BitVec 16) : Prop :=
  t = { s with hp := { s.hp with txn := false, await := true, deaf := false, nacked := false, snap := none, flags := s.hp.flags ||| flag }
               router := t.router, seam := t.seam, pwr := t.pwr, clk := t.clk }

/-- A port as it was, but for frames it may have been given to send (R430, R463). -/
def PortSame (x y : PortSt) : Prop := y = { x with queue := y.queue, sending := y.sending }

/-- Outside a port, its flags, counts and the address that waits for its reply, and what an event changes, nothing differs; the other port
differs in nothing but the EVENT frames it is given, where a channel has a subscriber (R463). -/
def OnePort (p : Port) (s t : State) : Prop :=
  PortSame (s.seam.port (Port.other p)) (t.seam.port (Port.other p)) ∧
  ((∀ c : Fin 4, s.router.ch[c].sub = none) → t.seam.port (Port.other p) = s.seam.port (Port.other p)) ∧
  Elsewhere s t ∧ t.proto = s.proto ∧ t.hem = s.hem ∧ t.chg = s.chg

/-- A good frame has arrived for the module alone, on an UP link of version 2, from an addressed source not yet heard (R424-R428). -/
structure ForUs (p : Port) (w : Wire) (f : Frame) (s : State) : Prop where
  /-- It has power. -/
  on : s.off = false
  /-- The link is UP. -/
  up : (s.seam.port p).link = .up
  /-- It was trained at version 2. -/
  version : (s.seam.port p).ver = 2
  /-- The bytes received meet the checks of R424, and are the frame. -/
  good : Wire.read w = .good f
  /-- No FFLAGS. -/
  plain : f.fflags = 0
  /-- It has a source address. -/
  source : Frame.srcNone f = false
  /-- It is addressed to the module. -/
  dst : s.seam.addr = some f.dst
  /-- It is not the module's own. -/
  other : f.dst ≠ Frame.srcAddr f
  /-- Nothing has been heard of the source. -/
  fresh : ∀ d ∈ s.seam.dups, d.1 ≠ Frame.srcAddr f

/-- A frame has been heard, and nothing else has changed but a wake (R428, R475). -/
def Heard (f : Frame) (s t : State) : Prop :=
  t = { s with free := s.free + 1, seam := { s.seam with dups := t.seam.dups }, proto := t.proto, pwr := t.pwr, clk := t.clk } ∧
    (Frame.srcAddr f, f.seq, 1, s.hem.ticks) ∈ t.seam.dups

/-- A full start that finds neither a stored map nor an image: every block at its reset, with Hem, the flash banks and the Seam address
kept, and the manager running (R68, R384, R450, R518). -/
structure FullyStarted (straps : BitVec 3) (s t : State) : Prop where
  /-- The manager runs. -/
  running : t.proto.running = true
  /-- It executes no command, and none waits. -/
  quiet : t.proto.exec = none ∧ t.proto.waiting = []
  /-- No image is held or in force. -/
  image : t.proto.cfg = .empty ∧ t.proto.buffer = [] ∧ t.proto.inForce = none
  /-- The domain is DOWN. -/
  domain : t.dom.st = .down
  /-- Every rail is OFF. -/
  rails : ∀ r : Fin 48, t.rails[r].st = .off
  /-- Every cell is OFF, or RETIRED. -/
  cells : ∀ c : Fin 256, t.cells[c].st = if s.map.retiredSet.getLsbD c.val = true then .retired else .off
  /-- The address latched from the straps. -/
  address : t.land.strap = straps ∧ t.land.twiAddr = 0x58 + straps.toNat
  /-- Hem has kept its time. -/
  hem : t.hem.ticks = s.hem.ticks ∧ t.hem.rtc = s.hem.rtc ∧ t.hem.wakes = satInc 65535 s.hem.wakes
  /-- The flash banks and the Seam address are kept. -/
  kept : t.fw.image = s.fw.image ∧ t.seam.addr = s.seam.addr
  /-- The starts are counted anew, and no commit is due. -/
  starts : t.fw.starts = 0 ∧ t.fw.commit = none

/-- Of the whole state only cell `c` differs, and what an event changes: the router, the Seam queues, the wake, the manager's supply and
the flag of the spur plan. -/
def OneCell (c : Fin 256) (s t : State) (x : Cell) : Prop :=
  t = { s with cells := t.cells, router := t.router, seam := t.seam, pwr := t.pwr, clk := t.clk } ∧ t.cells[c] = x ∧
    ∀ d : Fin 256, d ≠ c → t.cells[d] = s.cells[d]

/-- Of the whole state only rail `r` differs. -/
def OneRail (r : Fin 48) (s t : State) (x : Rail) : Prop :=
  t = { s with rails := t.rails } ∧ t.rails[r] = x ∧ ∀ k : Fin 48, k ≠ r → t.rails[k] = s.rails[k]

/-- Of the whole state only rail `r` differs, and the messages in flight on the rail bus. -/
def RailSends (r : Fin 48) (s t : State) (x : Rail) : Prop :=
  t = { s with rails := t.rails, bus := t.bus } ∧ t.rails[r] = x ∧ ∀ k : Fin 48, k ≠ r → t.rails[k] = s.rails[k]

/-- The rows by which a cell latches a message its sender has in flight, each with the test for that message (R57). -/
def InFlight (c src : Fin 256) (m : Ecc → Instr) (sel : Msg → Bool) : Prop :=
  (∃ v : BitVec 16, (m = (.duty c v ·) ∧ sel = fun x => x.isType .duty && x.saying (v.setWidth 32)) ∨
    (m = (.reference c v ·) ∧ sel = fun x => x.isType .reference && x.saying (v.setWidth 32))) ∨
  (∃ (k : Fin 8) (w : BitVec 32), m = (.shadow c src k w ·) ∧
    sel = fun x => x.isFrom .shadow src.val && decide (x.index = k.val) && x.saying w) ∨
  (∃ n : Nat, m = (.heartbeat c src n ·) ∧ sel = fun x => x.isFrom .heartbeat src.val && x.saying (BitVec.ofNat 32 n)) ∨
  (m = (.arm c ·) ∧ sel = Msg.isType .arm) ∨
  (∃ w : BitVec 32, (m = (.current c src w ·) ∧ sel = fun x => x.isFrom .current src.val && x.saying w) ∨
    (m = (.apply c w ·) ∧ sel = fun x => decide (x.op = 0) && x.saying w) ∨
    (m = (.pendShed c w ·) ∧ sel = fun x => decide (x.op = 1) && x.saying w) ∨
    (m = (.cancel c w ·) ∧ sel = fun x => decide (x.op = 2) && x.saying w))

/-- What every step keeps: the byte memories of the module are in their canonical form (R376, R406, R511), and at most eight commands
wait (R369). -/
structure Inv (s : State) : Prop where
  /-- The image buffer. -/
  buffer : s.proto.buffer.wf = true
  /-- The command window. -/
  window : s.hp.win.wf = true
  /-- The flash banks. -/
  banks : ∀ b : Fin 2, (s.fw.image[b]).wf = true
  /-- The commands waiting. -/
  waiting : s.proto.waiting.length ≤ 8

end Sys2Proof.Machine
end

