-- ==== Sys2Proof/Certificates/Slice0/Obligations.lean ====
section
/-! DEFINITION. The statements put to proof, family by family in the order of the opcode table. -/

open Sys2Proof Sys2Proof.Machine

/-! ## Every command -/

/-- A step takes the command at the front of the queue and runs it over the rest; with none waiting the block idles, which the model
reads as one Hem tick passing (assumption log 1). -/
def Obligations.StepTakesFrontCommand : Prop :=
  (∀ (c : Instr) (rest : List Instr) (s : State), step { s with pending := c :: rest } = exec c { s with pending := rest }) ∧
  (∀ s : State, s.pending = [] → step s = .next (idle s))

/-- Idling, and every happening that cannot leave the behaviour undefined. On an empty queue Hem counts one of its
32,768 ticks a second and, while no discipline or slew acts, two fraction units; a calendar that passes the end of its
span sets CAL_WRAP, and JUNC_WARN clears once no reading of the last 2 s reaches WARN; FAULT_N and the cascade inputs
are only released, the fabric tick count never falls and stands still without power, a probe burst ends, a transaction
of the two-wire bus may end, the time a rail has held PG_RAW pauses while the manager does not run, and nothing else
changes but what an event changes (R173, R245, R287, R336, R338, assumption log 1). A happening other than CONTROL_TICK,
CONFIG_DONE, FULL_START and SHIP_EXIT, which R392 leaves undefined on some paths, completes in every state. -/
def Obligations.IdleStepCountsOneHemTick : Prop :=
  (∀ s : State, s.pending = [] → ∃ t, step s = .next t ∧
    t = { s with free := t.free, fabric := t.fabric, fabricFree := t.free, rails := t.rails, hem := t.hem, dom := t.dom, therm := t.therm
                 hp := t.hp, router := t.router, seam := t.seam, pwr := t.pwr, clk := t.clk } ∧
    (s.proto.running = true → t.rails = s.rails) ∧ (∀ r : Fin 48, t.rails[r] = { s.rails[r] with pgAt := t.rails[r].pgAt }) ∧
    (∃ a b c : Bool, t.hp = { s.hp with
      await := s.hp.await && a, deaf := s.hp.deaf && b, txn := s.hp.txn && c, nacked := t.hp.nacked, ptr := t.hp.ptr
      snap := t.hp.snap }) ∧
    t.hem = { s.hem with ticks := s.hem.ticks + 1, count := t.hem.count, discAcc := t.hem.discAcc, slewLeft := t.hem.slewLeft
                         slewWait := t.hem.slewWait, flags := t.hem.flags } ∧
    t.hem.flags = (if s.hem.calendar = true ∧ s.hem.count < t.hem.count ∧
        s.hem.count / (calSpan * 65536) ≠ t.hem.count / (calSpan * 65536) then s.hem.flags ||| 0x80 else s.hem.flags) ∧
    t.therm = { s.therm with junc := s.therm.junc && juncHot { s with hem := t.hem } } ∧
    s.fabric ≤ t.fabric ∧ (s.off = true → t.fabric = s.fabric) ∧ s.free < t.free ∧
    (s.hem.discV = 0 → s.hem.discAcc = 0 → s.hem.slewLeft = 0 →
      t.hem.count = (s.hem.count + 2) % 2 ^ 64 ∧ t.hem.discAcc = 0 ∧ t.hem.slewLeft = 0) ∧
    (∃ a b c : Bool, t.dom = { s.dom with cycle := false, fnLow := s.dom.fnLow && a, squi := s.dom.squi && b, sqdi := s.dom.sqdi && c }) ∧
    (s.dom.fnDrive = true → t.dom.fnLow = s.dom.fnLow) ∧
    (s.hem.calendar = false → s.therm.junc = false → t.router = s.router ∧
      t.seam = { s.seam with a := { s.seam.a with burst := false }, b := { s.seam.b with burst := false } } ∧
      t.pwr = { s.pwr with gated := t.pwr.gated } ∧ (s.pwr.st ≠ .doze → t.pwr = s.pwr ∧ t.clk = s.clk))) ∧
  (∀ (i : Instr) (s : State), zhoenne i = none → (∀ r : Fin 48, i ≠ .controlTick r) → i ≠ .configDone →
    (∀ a b : BitVec 3, i ≠ .fullStart a b) → (∀ e : ShipLeave, i ≠ .shipExit e) →
    ∃ t, exec i s = .next t)

/-- A Zhoenne command that arrives while the manager executes another, or behind others, waits; beyond eight it draws BUSY with cause 1
and sets bit 2 of GLOB_FLAGS, whatever it is. While the manager does not run, a host command waits unchecked, and one by Seam takes a
place of the receive buffer, or is dropped and counted in FWD_DROPS. A module without power receives none, a host port without its engine
none, and one that is BUSY refuses it and sets bit 6 of HP_FLAGS. The command that waits first is executed when it is sent again as
itself: it leaves the queue before its handler runs, and a handler that answers DONE leaves the others waiting in order; those at their
head that fail a check are answered next (R369, R371, R388, R403, R405, R411, R412, R431). How a command's row stands for arrival and
execution is log entry 8 (the model's reading). -/
def Obligations.CommandsWaitForTheirTurn : Prop :=
  (∀ (i : Instr) (o : OpSpec) (q : Req) (s : State), zhoenne i = some (o, q) →
    (s.off = true ∨ (q.src = .host ∧ s.hp.engine = false) → exec i s = .next s) ∧
    (s.off = false → (q.src = .host → s.hp.engine = true) →
      (s.proto.running = false ∨ (s.proto.exec ≠ none ∧ (o.op ≠ 0x0301 ∨ s.map.applying = false)) ∨
        ∃ h rest, s.proto.waiting = h :: rest ∧ (h.same (Req.packet q o.op s) = false ∨ h.fail ≠ none)) →
      (q.src = .host → s.hp.st = .busy → ∃ t, exec i s = .next t ∧
        t = { resume s with hp := { s.hp with flags := s.hp.flags ||| 0x40 }, router := t.router, seam := t.seam, pwr := t.pwr
                            clk := t.clk }) ∧
      ((q.src = .host → s.hp.st ≠ .busy) → s.proto.running = true →
        (s.proto.waiting.length < 8 → exec i s = .next { arrived q s with
          proto := { s.proto with waiting := s.proto.waiting ++ [Req.packet q o.op s] } }) ∧
        (8 ≤ s.proto.waiting.length → ∃ t,
          exec i s = .next (answer (Req.packet q o.op s) .busy [1] t) ∧
          t = { arrived q s with proto := { s.proto with flags := s.proto.flags ||| 0x4 } })) ∧
      (q.src = .host → s.hp.st ≠ .busy → s.proto.running = false → ∃ bs, exec i s = .next { arrived q s with
        proto := { s.proto with raw := s.proto.raw ++ [(.host, bs, s.hem.ticks, false)] } }) ∧
      (q.src ≠ .host → s.proto.running = false → ∃ t, exec i s = .next t ∧
        t = { s with seam := t.seam, pwr := t.pwr, clk := t.clk } ∧
        (s.seam.rxBuf.length < 8 → t.seam.fwdDrops = s.seam.fwdDrops ∧ t.seam.rxBuf.length = s.seam.rxBuf.length + 1) ∧
        (8 ≤ s.seam.rxBuf.length → t.seam.rxBuf = s.seam.rxBuf ∧ t.seam.fwdDrops = sat16 s.seam.fwdDrops 1)))) ∧
  (∀ (i : Instr) (o : OpSpec) (q : Req) (s t : State) (h : Packet) (rest : List Packet) (l : List Byte), zhoenne i = some (o, q) →
    s.off = false → (q.src = .host → s.hp.engine = true) → s.proto.running = true → s.proto.exec = none →
    s.proto.waiting = h :: rest → h.same (Req.packet q o.op s) = true → h.fail = none → keptFor s h = none → h.ver = 2 →
    o.paramCheck 2 h.params = none →
    s.pwr.st ≠ .safeHold → s.proto.cfg ≠ .applying →
    o.run { src := h.src, ver := 2, tag := h.tag, params := h.params } { resume s with proto := { s.proto with waiting := rest } } =
      (t, .reply .done l) →
    exec i s = .next (serveFailed (answer h .done l t)) ∧
    (t.proto.waiting = rest → (∀ p, rest.head? = some p → p.fail = none) → (serveFailed (answer h .done l t)).proto.waiting = rest))

/-- A command equal to the last executed one of its source, within 1 s of its reply, is not executed:
it draws the reply kept, with the same status and result, and only the reply path changes (R370).
The RFLAGS formed anew are log entry 9 (the model's reading). -/
def Obligations.RepeatedCommandDrawsKeptReply : Prop :=
  ∀ (i : Instr) (o : OpSpec) (q : Req) (s : State) (k : Reply), zhoenne i = some (o, q) → s.off = false →
    (q.src = .host → s.hp.engine = true ∧ s.hp.st ≠ .busy) → s.proto.running = true → s.proto.exec = none → s.proto.waiting = [] →
    keptFor s (Req.packet q o.op s) = some k →
    ∃ t, exec i s = .next t ∧ t = { resume s with free := t.free, proto := t.proto, hp := t.hp, seam := t.seam } ∧
      t.proto.kept = s.proto.kept ∧ t.proto.waiting = [] ∧ t.proto.exec = none ∧
      (q.src = .host → t.seam = s.seam ∧ ∃ r : Reply, t.proto.outbox = s.proto.outbox ++ [(s.proto.replyNo, r)] ∧
        r.status = k.status ∧ r.result = k.result ∧ r.tag = k.tag ∧ r.rflags / 4 % 2 = 1)

/-- A command of a wrong fixed length draws BAD_LENGTH with the length expected and the length received, and a field out of range
NOT_PRESENT with its offset. Before the handler, in SAFE HOLD the opcodes of R478's list alone are executed, and while an image is being
applied those R383 names are refused, each with its refusal record. None of these has any effect (R363, R364, R367, R368, R383, R478). -/
def Obligations.ChecksRefuseWithoutEffect : Prop :=
  ∀ (i : Instr) (o : OpSpec) (q : Req) (s : State), zhoenne i = some (o, q) → Turn o.op q s → q.ver = 2 → q.params.length ≤ 496 →
    (∀ n, o.plen = .fixed n → q.params.length ≠ n →
      exec i s = .next (answer (Req.packet q o.op s) .badLength (le16 n ++ le16 q.params.length) (arrived q s))) ∧
    (∀ off, o.plen.expected q.params = none → o.bad 2 q.params = some off →
      exec i s = .next (answer (Req.packet q o.op s) .notPresent (le16 off) (arrived q s))) ∧
    (o.paramCheck 2 q.params = none → s.pwr.st = .safeHold → o.sh = false →
      exec i s = .next (answer (Req.packet q o.op s) .refusedState [6, 4, 0xFF, 0] (arrived q s))) ∧
    (o.paramCheck 2 q.params = none → s.pwr.st ≠ .safeHold → s.proto.cfg = .applying → o.app = true →
      exec i s = .next (answer (Req.packet q o.op s) .refusedState [7, 2, 0xFF, 0] (arrived q s)))

/-- Version 1: an opcode that came with version 2 is UNKNOWN_OPCODE; another runs the handler version
2 runs, and a result longer than 240 bytes draws BAD_LENGTH with 240 and its length in its place
(R363, R374). The order of checks 9 and 10 is log entry 10 (the model's reading). -/
def Obligations.VersionOneCommands : Prop :=
  ∀ (i : Instr) (o : OpSpec) (q : Req) (s : State), zhoenne i = some (o, q) → Turn o.op q s → q.ver = 1 → s.pwr.st ≠ .safeHold →
    s.proto.cfg ≠ .applying → q.params.length ≤ 240 →
    (o.v = 2 → exec i s = .next (answer (Req.packet q o.op s) .unknownOpcode [] (arrived q s))) ∧
    (∀ (t : State) (l : List Byte), o.paramCheck 1 q.params = none → o.run q (arrived q s) = (t, .reply .done l) →
      o.big q.params = none → t.proto.waiting = [] →
      (l.length ≤ 240 → exec i s = .next (answer (Req.packet q o.op s) .done l t)) ∧
      (240 < l.length →
        exec i s = .next (answer (Req.packet q o.op s) .badLength (le16 240 ++ le16 l.length) (arrived q s))))

/-- What an answer does: the host's reply joins those to be delivered and the port is BUSY, with version, tag, status code, RFLAGS and
result; the reply of an executed command is kept; BAD_CHECK sets bit 1 of GLOB_FLAGS; the block around the interpreter is unchanged (R360,
R362, R370, R371, R388, R402). -/
def Obligations.AnswerDeliversAndKeepsReply : Prop :=
  ∀ (p : Packet) (st : Status) (l : List Byte) (s : State),
    answer p st l s = { s with free := s.free + 1, proto := (answer p st l s).proto, hp := (answer p st l s).hp
                               seam := (answer p st l s).seam } ∧
    (answer p st l s).proto.waiting = s.proto.waiting ∧ (answer p st l s).proto.exec = s.proto.exec ∧
    (answer p st l s).proto.buffer = s.proto.buffer ∧ (answer p st l s).hp.win = s.hp.win ∧
    (answer p st l s).proto.flags = (if st = .badCheck then s.proto.flags ||| 0x2 else s.proto.flags) ∧
    (st.executed = false → (answer p st l s).proto.kept = s.proto.kept) ∧
    (st.executed = true → ∃ k rest, (answer p st l s).proto.kept = k :: rest ∧ k.cmd = p ∧ k.reply.result = l ∧
      k.at_ = s.hem.ticks ∧ ∀ x ∈ rest, x.src ≠ p.src) ∧
    (p.src = .host → (answer p st l s).seam = s.seam ∧ (answer p st l s).hp = { s.hp with st := .busy, rplLen := 0 } ∧
      ∃ r : Reply, (answer p st l s).proto.outbox = s.proto.outbox ++ [(s.proto.replyNo, r)] ∧ r.tag = p.tag ∧ r.result = l ∧
        (p.ver = 2 → r.ver = 2 ∧ r.status = st.code) ∧ r.rflags % 2 = b2n (anyPending s) ∧ r.rflags / 4 % 2 = 0)

/-! ## Session and configuration (chapter 13) -/

/-- Session commands. HELLO picks the highest version both sides have, and answers VERSION_UNSUPPORTED where there is none; RESET_MODULE
answers DONE and leaves a restart due with its reply's number, a full start for kind 1 and a manager restart for any other. CONFIG_LOAD puts
its data at its offset of the image buffer, which an offset of 0 clears first, and makes the configuration state LOADING; a block that would
pass the end of the buffer is NOT_PRESENT; and CONFIG_READ of the buffer returns what it holds (R375, R376, R380, R381, R389). -/
def Obligations.SessionAndImageBufferCommands : Prop :=
  ∀ (q : Req) (s : State),
    (Ready 0x0001 q s → q.params.length = 4 →
      (1 ≤ byteAt q.params 0 → byteAt q.params 1 ≤ 2 → byteAt q.params 1 ≤ byteAt q.params 0 →
        Completes (.hello q) 0x0001 q s .done
          ([byte (min (byteAt q.params 0) 2), 1, 2, 0] ++ le16 (if byteAt q.params 0 = 1 then 240 else 496) ++
            le16 (if byteAt q.params 0 = 1 then 240 else 496))
          (fun t => t = { arrived q s with proto := { s.proto with versions := t.proto.versions } } ∧
            ∃ rest, t.proto.versions = (q.src, min (byteAt q.params 0) 2, true) :: rest)) ∧
      (byteAt q.params 0 = 0 ∨ 2 < byteAt q.params 1 ∨ byteAt q.params 0 < byteAt q.params 1 →
        Completes (.hello q) 0x0001 q s .versionUnsupported [1, 2] (fun t => t = arrived q s))) ∧
    (Ready 0x0004 q s → q.params.length = 1 → Completes (.resetModule q) 0x0004 q s .done [] (fun t =>
      t = { arrived q s with proto := { s.proto with resetDue := some (if byteAt q.params 0 = 1 then 1 else 0, s.proto.replyNo) } })) ∧
    (Ready 0x0101 q s → 5 ≤ q.params.length → q.params.length ≤ 492 → s.proto.buffer.wf = true →
      (fieldAt q.params 0 4 + (q.params.length - 4) ≤ 262144 →
        Completes (.configLoad q) 0x0101 q s .done [] (fun t =>
          t = { arrived q s with proto := { s.proto with buffer := t.proto.buffer, loaded := true, cfg := .loading } } ∧ t.proto.buffer.wf = true ∧
          ∀ x, t.proto.buffer.read x =
            if fieldAt q.params 0 4 ≤ x ∧ x < fieldAt q.params 0 4 + (q.params.length - 4) then
              q.params.getD (x - fieldAt q.params 0 4 + 4) 0
            else if fieldAt q.params 0 4 = 0 then 0 else s.proto.buffer.read x)) ∧
      (262144 < fieldAt q.params 0 4 + (q.params.length - 4) →
        Completes (.configLoad q) 0x0101 q s .notPresent [0, 0] (fun t => t = arrived q s))) ∧
    (Ready 0x0103 q s → q.params.length = 8 → byteAt q.params 6 = 0 → 1 ≤ fieldAt q.params 4 2 → fieldAt q.params 4 2 ≤ 488 →
      fieldAt q.params 0 4 + fieldAt q.params 4 2 ≤ 262144 → s.proto.loaded = true →
      Reads (.configRead q) 0x0103 q s
        ((List.range (fieldAt q.params 4 2)).map (fun k => s.proto.buffer.read (fieldAt q.params 0 4 + k))))

/-- CONFIG_APPLY of an image that passes its checks, with the domain DOWN or LATCHED, every rail stopped and no probe running, answers
STARTED with the state APPLYING, some of its sections executed; CONFIG_DONE executes those left and ends APPLIED, the image being the one
in force, and stored when asked; both come to nothing else when their sections leave the behaviour undefined or the state is another (R382,
R383). Which sections are executed with the command is a free value (assumption log 27). -/
def Obligations.ConfigApplyThenDoneAppliesImage : Prop :=
  (∀ (q : Req) (s : State) (img : List Byte), Ready 0x0102 q s → q.params.length = 1 →
    img = bufferBytes (arrived q s) (max 32 (min 262144 (imageLen (bufferBytes (arrived q s) 32)))) →
    s.proto.cfg ≠ .empty → s.dom.st = .down ∨ s.dom.st = .latched → (∀ r : Fin 48, s.rails[r].st = .off ∨ s.rails[r].st = .latchedOff) →
    s.map.probe ≠ .running → checkImage (arrived q s) img = none →
    (∀ n, n ≤ (imageSections img).length →
      (runSections q.src ((imageSections img).take n) 0 (applyStart q n s)).2 = none) →
    Completes (.configApply q) 0x0102 q s .started [] (fun t => ∃ n, n ≤ (imageSections img).length ∧
      t = (runSections q.src ((imageSections img).take n) 0 (applyStart q n s)).1)) ∧
  (∀ (q : Req) (s : State), Ready 0x0102 q s → q.params.length = 1 →
    (s.proto.cfg = .empty → Completes (.configApply q) 0x0102 q s .notPresent [0xFF, 0xFF] (fun t => t = arrived q s)) ∧
    (s.proto.cfg ≠ .empty → s.dom.st ≠ .down → s.dom.st ≠ .latched →
      Completes (.configApply q) 0x0102 q s .refusedState [3, byte s.dom.st.code, 0xFF, 0] (fun t => t = arrived q s))) ∧
  (∀ s t : State, s.proto.cfg = .applying → s.proto.running = true → s.proto.applyBits.2 = false →
    runSections .host ((imageSections (bufferImage s)).drop s.proto.applied) s.proto.applied s = (t, none) →
    t.proto.applyBits = s.proto.applyBits →
    ∃ u, exec .configDone s = .next u ∧
      u = { t with proto := { t.proto with cfg := .applied, applyBits := (false, false), applied := 0
                                           inForce := some (imageInfo (bufferImage s)), fromFuse := false
                                           stored := if s.proto.applyBits.1 then some (bufferImage s) else t.proto.stored }
                   router := u.router, seam := u.seam, pwr := u.pwr, clk := u.clk }) ∧
  (∀ s : State, s.proto.cfg ≠ .applying → exec .configDone s = .next s)

/-! ## The rail map and the tack probe (chapter 03) -/

/-- RAILMAP_SET writes the staged entries it carries and rechecks every staged entry, answering the map state and the 48 codes; the active
map is unchanged. RAILMAP_APPLY of a map that checks answers only once the store is written: the staged map is active, the command is in
execution, and MAP_STORE_DONE stores the map and answers DONE. TACK_PROBE with every rail stopped and no probe running answers STARTED,
and the active map stays (R71, R83, R91, R93, R94). -/
def Obligations.RailMapIsStagedAppliedAndStored : Prop :=
  (∀ (q : Req) (s : State), Ready 0x0201 q s → 2 ≤ q.params.length → byteAt q.params 0 ≤ 47 → 1 ≤ byteAt q.params 1 →
    byteAt q.params 1 ≤ 12 → byteAt q.params 0 + byteAt q.params 1 ≤ 48 → q.params.length = 2 + 40 * byteAt q.params 1 →
    ∃ t, exec (.railmapSet q) s = .next (answer (Req.packet q 0x0201 s) .done
        ([byte (mapCode t)] ++ t.map.stagedChk.toList.map byte) t) ∧
      t = { arrived q s with map := { s.map with staged := t.map.staged, stagedChk := t.map.stagedChk } } ∧
      (∀ r : Fin 48, t.map.staged[r] =
        if byteAt q.params 0 ≤ r.val ∧ r.val < byteAt q.params 0 + byteAt q.params 1 then
          entryOf (q.params.drop (2 + 40 * (r.val - byteAt q.params 0)))
        else s.map.staged[r]) ∧
      (∀ r : Fin 48, t.map.stagedChk[r] = checkCode (arrived q s) t.map.staged r.val)) ∧
  (∀ (q : Req) (s : State), Ready 0x0205 q s → q.params.length = 0 →
    (s.map.probe = .running ∨ (s.map.probe ≠ .running ∧ s.map.staged ≠ s.map.active ∧ ∃ r : Fin 48, s.map.stagedChk[r] ≠ 0) →
      Completes (.railmapApply q) 0x0205 q s .refusedState [2, byte (mapCode s), 0xFF, 0] (fun t => t = arrived q s)) ∧
    (s.map.probe ≠ .running → s.map.staged = s.map.active →
      Completes (.railmapApply q) 0x0205 q s .done [byte (mapCode s)] (fun t => t = arrived q s)) ∧
    (s.map.probe ≠ .running → s.map.staged ≠ s.map.active → (∀ r : Fin 48, s.map.stagedChk[r] = 0) →
      (∀ r : Fin 48, s.map.staged[r] ≠ s.map.active[r] → s.rails[r].st = .off ∨ s.rails[r].st = .latchedOff) →
      Begins (.railmapApply q) 0x0205 q s .mapStore (fun t => t.map.active = s.map.staged ∧ t.map.staged = s.map.staged ∧
        t.map.applying = true ∧ t.proto = s.proto ∧ t.hem = s.hem ∧ t.chg = s.chg ∧ t.fuse = s.fuse))) ∧
  (∀ s : State, s.map.applying = true → s.dom.ph ≠ .waitApply → ∀ p, s.proto.exec = some (p, .mapStore) →
    ∃ t, exec .mapStoreDone s = .next (serveFailed (answer p .done [byte (mapCode s)] t)) ∧
      t = { s with map := { s.map with applying := false, stored := some s.map.active }, proto := { s.proto with exec := none } }) ∧
  (∀ s : State, s.map.applying = false → exec .mapStoreDone s = .next s) ∧
  (∀ (q : Req) (s : State), Ready 0x0203 q s → q.params = [] → s.map.probe ≠ .running → (∀ k : Fin 48, s.rails[k].st.runs = false) →
    Completes (.tackProbe q) 0x0203 q s .started [] (fun t => t.map.probe = .running ∧ t.map.active = s.map.active ∧
      t.map.staged = s.map.staged ∧ t.rails = s.rails ∧ t.proto = s.proto ∧ ∀ c : Fin 256, t.cells[c] =
        if s.cells[c].st = .retired then s.cells[c] else { s.cells[c] with senseLocal := true, ref := 0 }))

/-- The tack probe: TACK_PROBE is refused with the lowest-numbered running rail and otherwise starts with every cell NOT_PROBED; a look at
the discharge that finds no output above 128 mV, the last look, or one after a hundred, begins the probing, with RETIRED cells left out;
the slot of a cell classes it PROBE_FAULT, GROUNDED below 0.19 mV, SINGLE, or NETTED on one net with every cell that takes part and hears at
least half its amplitude, NET being no higher than any of them; and with no cell left the probe is COMPLETE, its words stored (R83, R85,
R87-R91). What cells hear of a GROUNDED or faulty one is log entry 124 (the model's choice). -/
def Obligations.TackProbeClassesEveryCell : Prop :=
  (∀ (q : Req) (s : State) (r : Fin 48), Ready 0x0203 q s → q.params.length = 0 → s.map.probe ≠ .running →
    s.rails[r].st ≠ .off → s.rails[r].st ≠ .latchedOff → (∀ k : Fin 48, k < r → s.rails[k].st = .off ∨ s.rails[k].st = .latchedOff) →
    Completes (.tackProbe q) 0x0203 q s .refusedState [1, byte s.rails[r].st.code, byte r.val, 0] (fun t => t = arrived q s)) ∧
  (∀ (q : Req) (s : State), Ready 0x0203 q s → q.params.length = 0 → s.map.probe ≠ .running →
    (∀ k : Fin 48, s.rails[k].st = .off ∨ s.rails[k].st = .latchedOff) →
    Completes (.tackProbe q) 0x0203 q s .started [] (fun t => t.map.probe = .running ∧ t.map.probing = false ∧ t.map.looks = 0 ∧
      t.map.storedProbe = none ∧ t.map.active = s.map.active ∧ t.rails = s.rails ∧ t.dom = s.dom ∧
      ∀ n : Fin 256, t.map.words[n].cls = 0 ∧ t.map.words[n].net = n.val ∧ t.map.words[n].kept = false)) ∧
  (∀ (above : BitVec 256) (last : Bool) (s : State), s.map.probe = .running → s.map.probing = false →
    ∃ t, exec (.tackDischargeLook above last) s = .next t ∧
      t = { s with map := { s.map with looks := s.map.looks + 1, above := above, probing := t.map.probing, words := t.map.words } } ∧
      (t.map.probing = true ↔ last = true ∨ 100 ≤ s.map.looks ∨ ∀ n : Fin 256, above.getLsbD n = true → s.cells[n].st = .retired) ∧
      (t.map.probing = false → t.map.words = s.map.words) ∧
      (t.map.probing = true → ∀ n : Fin 256, s.cells[n].st = .retired → t.map.words[n].cls = 5)) ∧
  (∀ (c : Fin 256) (amps : List Nat) (fault : Bool) (s : State), s.map.probe = .running → s.map.probing = true →
    s.map.words[c].cls = 0 → (∀ n : Fin 256, n < c → s.map.words[n].cls ≠ 0) →
    ∃ t, exec (.tackSlotEnd c amps fault) s = .next t ∧ t = { s with map := { s.map with words := t.map.words } } ∧
      (t.map.words[c].cls = 6 ↔ fault = true) ∧ (t.map.words[c].cls = 3 ↔ fault = false ∧ amps.getD c 0 < 19) ∧
      (fault = false → 19 ≤ amps.getD c 0 → t.map.words[c].net ≤ c.val ∧ t.map.words[c].cap = capOf (amps.getD c 0) ∧
        (∀ n : Fin 256, n ≠ c → s.map.words[n].placeable = true → amps.getD c 0 ≤ 2 * amps.getD n 0 →
          t.map.words[n].cls = 2 ∧ t.map.words[n].net = t.map.words[c].net ∧ t.map.words[c].net ≤ n.val ∧ t.map.words[c].cls = 2) ∧
        ((∀ n : Fin 256, n ≠ c → s.map.words[n].placeable = true → 2 * amps.getD n 0 < amps.getD c 0) →
          t.map.words[c].cls = 1 ∧ t.map.words[c].net = c.val ∧ ∀ n : Fin 256, n ≠ c → t.map.words[n] = s.map.words[n]))) ∧
  (∀ s : State, s.map.probe = .running → s.map.probing = true → (∀ n : Fin 256, s.map.words[n].cls ≠ 0) →
    ∃ t, exec .tackDone s = .next t ∧ t.map.probe = .complete ∧ t.map.words = s.map.words ∧ t.map.storedProbe = some s.map.words ∧
      t.rails = s.rails ∧ t.cells = s.cells ∧ t.dom = s.dom ∧ t.proto = s.proto)

/-! ## Regulation and set-points (chapter 04) -/

/-- RAIL_ENABLE starts an OFF rail with a VALID, checked entry, a set-point, no trip and a healthy
member: STARTED, and the rail is STARTING towards its start target with a healthy leader; a rail
in any other state, or in a slot while the domain is not DOWN, is refused with its state, and during a probe or an apply every rail with
the rail-map state, and nothing changes (R84, R113, R114, R133, R368); while the undervoltage signal is asserted the start ends at once in OFF
(R21, log entry 113). RAIL_DISABLE sends a released rail to STOPPING and returns one whose start
has not been released to OFF (R117, R118). The order of the refusals is log entry 18 (the model's
reading). -/
def Obligations.RailEnableAndDisableMoveTheRail : Prop :=
  (∀ (q : Req) (s : State) (r : Fin 48), Ready 0x0301 q s → q.params = [byte r.val] →
    (s.map.probe = .running ∨ s.map.applying = true →
      Completes (.railEnable q) 0x0301 q s .refusedState [2, byte (mapCode s), 0xFF, 0] (fun t => t = arrived q s)) ∧
    (s.map.probe ≠ .running → s.map.applying = false → s.rails[r].st ≠ .off →
      Completes (.railEnable q) 0x0301 q s .refusedState [1, byte s.rails[r].st.code, byte r.val, 0] (fun t => t = arrived q s)) ∧
    (s.map.probe ≠ .running → s.map.applying = false → s.rails[r].st = .off → slotOf s r.val ≠ none → s.dom.st ≠ .down →
      Completes (.railEnable q) 0x0301 q s .refusedState [3, byte s.dom.st.code, 0xFF, 0] (fun t => t = arrived q s)) ∧
    (s.rails[r].st = .off → slotOf s r.val = none ∨ s.dom.st = .down → s.map.probe ≠ .running → s.map.applying = false →
      s.map.activeChk[r] = 0 → s.map.active[r].valid = true → s.rails[r].sp.start ≠ 0 → s.rails[r].prot.ovTrip = false →
      s.rails[r].prot.uvTrip = false → ∀ lead, startLeader s r.val = some lead →
      (s.undervolt = true → Completes (.railEnable q) 0x0301 q s .started [] (fun t =>
        t.rails[r].st = .off ∧ (∀ k : Fin 48, k ≠ r → t.rails[k] = s.rails[k]) ∧ t.dom = s.dom ∧ t.map = s.map ∧ t.proto = s.proto)) ∧
      (s.undervolt = false → Completes (.railEnable q) 0x0301 q s .started [] (fun t =>
        t.rails[r].st = .starting ∧ t.rails[r].leader = lead ∧ t.rails[r].loop.target = s.rails[r].sp.start ∧
        t.rails[r].measuring = true ∧ t.rails[r].released = false ∧ t.rails[r].ph.sheds = 0 ∧
        (∀ k : Fin 48, k ≠ r → t.rails[k] = s.rails[k]) ∧ t.dom = s.dom ∧ t.map = s.map ∧ t.proto = s.proto ∧ t.hem = s.hem)))) ∧
  (∀ (q : Req) (s : State) (r : Fin 48), Ready 0x0302 q s → q.params = [byte r.val] →
    (s.rails[r].st = .off ∨ s.rails[r].st = .stopping ∨ s.rails[r].st = .latchedOff →
      Completes (.railDisable q) 0x0302 q s .refusedState [1, byte s.rails[r].st.code, byte r.val, 0] (fun t => t = arrived q s)) ∧
    (slotOf s r.val = none ∨ s.dom.st = .down →
      (s.rails[r].st = .regulating ∨ s.rails[r].st = .slewing ∨ (s.rails[r].st = .starting ∧ s.rails[r].released = true) →
        Completes (.railDisable q) 0x0302 q s .started [] (fun t => t.rails[r].st = .stopping ∧ t.rails[r].sp.owed = false ∧
          t.rails[r].supervised = false ∧ (∀ k : Fin 48, k ≠ r → t.rails[k] = s.rails[k]) ∧ t.dom = s.dom ∧ t.map = s.map)) ∧
      (s.rails[r].st = .starting → s.rails[r].released = false →
        Completes (.railDisable q) 0x0302 q s .started [] (fun t => t.rails[r].st = .off ∧ (∀ x ∈ t.armQ, x.1 ≠ r.val) ∧
          (∀ k : Fin 48, k ≠ r → t.rails[k] = s.rails[k]) ∧ t.dom = s.dom ∧ t.map = s.map))))

/-- Targets, set-points, rates and coefficients. RAIL_SET_TARGET refuses a pin-bound or STOPPING rail; of an empty
set-point, a reserved kind or code 0 it answers DONE_WITH_NOTE and changes nothing; it answers DONE for a stopped rail,
whose start target it sets, and STARTED for a regulating rail whose reference differs, which then slews.
RAIL_STORE_SETPOINT stores the code. RAIL_BIND_SELECT writes the binding. RAIL_SET_SLEW writes the three rates.
RAIL_SET_COMP sends its coefficient words to every member of the rail, and its reply waits for them where some member
listens; a stopped rail keeps them for its next start, and in a running one, whose leader takes them once it has latched
them, a change of CTICK is refused (R47, R106, R109, R112, R125, R126, R128-R130, R132). A regulating rail named the
target it already stands at answers DONE and changes nothing (R129). -/
def Obligations.SetPointsSlewsAndCoefficientsAreTaken : Prop :=
  (∀ (q : Req) (s : State) (r : Fin 48), byteAt q.params 0 = r.val → q.params.length = 4 →
    (Ready 0x0303 q s →
      (s.rails[r].sp.pinBound = true ∨ s.rails[r].st = .stopping →
        Completes (.railSetTarget q) 0x0303 q s .refusedState [1, byte s.rails[r].st.code, byte r.val, 0] (fun t => t = arrived q s)) ∧
      (s.rails[r].sp.pinBound = false → s.rails[r].st ≠ .stopping → byteAt q.params 1 = 0xFF → fieldAt q.params 2 2 = 0 →
        Completes (.railSetTarget q) 0x0303 q s .doneWithNote [] (fun t => t = arrived q s)) ∧
      (s.rails[r].sp.pinBound = false → s.rails[r].st = .off ∨ s.rails[r].st = .latchedOff → byteAt q.params 1 = 0xFF →
        fieldAt q.params 2 2 ≠ 0 →
        Completes (.railSetTarget q) 0x0303 q s .done [] (fun t =>
          t = { arrived q s with rails := t.rails } ∧ (∀ k : Fin 48, k ≠ r → t.rails[k] = s.rails[k]) ∧
          t.rails[r] = { s.rails[r] with sp := { s.rails[r].sp with direct := true, code := fieldAt q.params 2 2 } } ∧
          t.rails[r].sp.start = fieldAt q.params 2 2)) ∧
      (s.rails[r].sp.pinBound = false → s.rails[r].st = .regulating → byteAt q.params 1 = 0xFF → fieldAt q.params 2 2 ≠ 0 →
        s.rails[r].loop.ref = fieldAt q.params 2 2 * 65536 →
        Completes (.railSetTarget q) 0x0303 q s .done [] (fun t => t = arrived q s)) ∧
      (s.rails[r].sp.pinBound = false → s.rails[r].st = .regulating → byteAt q.params 1 < 8 →
        s.rails[r].sp.stored[Fin.ofNat 8 (byteAt q.params 1)] ≠ 0 →
        s.rails[r].loop.ref ≠ s.rails[r].sp.stored[Fin.ofNat 8 (byteAt q.params 1)] * 65536 →
        Completes (.railSetTarget q) 0x0303 q s .started [] (fun t =>
          t = { arrived q s with rails := t.rails, cells := t.cells, bus := t.bus } ∧ (∀ k : Fin 48, k ≠ r → t.rails[k] = s.rails[k]) ∧
          t.rails[r].st = .slewing ∧ t.rails[r].loop.target = s.rails[r].sp.stored[Fin.ofNat 8 (byteAt q.params 1)] ∧
          t.rails[r].loop.ref = s.rails[r].loop.ref ∧ t.rails[r].sp.index = byteAt q.params 1 ∧ t.rails[r].sp.direct = false))) ∧
    (Ready 0x0304 q s → Completes (.railStoreSetpoint q) 0x0304 q s .done [] (fun t =>
      t = { arrived q s with rails := t.rails, cells := t.cells, bus := t.bus } ∧ (∀ k : Fin 48, k ≠ r → t.rails[k] = s.rails[k]) ∧
      t.rails[r].sp.stored = upd s.rails[r].sp.stored (Fin.ofNat 8 (byteAt q.params 1 % 8)) (fieldAt q.params 2 2) ∧
      t.rails[r].prot = s.rails[r].prot ∧ t.rails[r].loop.ref = s.rails[r].loop.ref ∧ t.rails[r].loop.coef = s.rails[r].loop.coef)) ∧
    (Ready 0x0305 q s → Completes (.railBindSelect q) 0x0305 q s .done [] (fun t =>
      t.rails[r].sp.pinBound = natBit (byteAt q.params 1) 0 ∧
      t.rails[r].sp.selBind = BitVec.ofNat 16 (fieldAt q.params 2 2) &&& 0x0FFF ∧
      (natBit (byteAt q.params 1) 0 = false → t.rails[r].sp.pending = none ∧ t = { arrived q s with rails := t.rails }) ∧
      (∀ k : Fin 48, k ≠ r → t.rails[k] = s.rails[k]) ∧ t.dom = s.dom ∧ t.map = s.map ∧ t.proto = s.proto ∧ t.hem = s.hem))) ∧
  (∀ (q : Req) (s : State) (r : Fin 48), byteAt q.params 0 = r.val →
    (Ready 0x0306 q s → q.params.length = 8 → Completes (.railSetSlew q) 0x0306 q s .done [] (fun t =>
      t = { arrived q s with rails := t.rails } ∧ (∀ k : Fin 48, k ≠ r → t.rails[k] = s.rails[k]) ∧
      t.rails[r] = { s.rails[r] with sp := { s.rails[r].sp with
        slew := fieldAt q.params 2 2, startSlew := fieldAt q.params 4 2, stopSlew := fieldAt q.params 6 2 } })) ∧
    (Ready 0x0307 q s → q.params.length = 24 →
      (s.rails[r].st = .off ∨ s.rails[r].st = .latchedOff → wordsOut s r.val = false →
        (∀ c : Fin 256, (s.memberSet r.val).getLsbD c.val = true → s.cells[c].st = .retired) →
        Completes (.railSetComp q) 0x0307 q s .done [] (fun t =>
        t = { arrived q s with rails := t.rails, bus := t.bus } ∧ (∀ k : Fin 48, k ≠ r → t.rails[k] = s.rails[k]) ∧
        t.rails[r] = { s.rails[r] with loop := { s.rails[r].loop with coef := t.rails[r].loop.coef, coefNext := none } } ∧
        t.rails[r].loop.coef.kp = fieldAt q.params 4 2 ∧ t.rails[r].loop.coef.ki = fieldAt q.params 6 2 ∧
        t.rails[r].loop.coef.kd = fieldAt q.params 8 2 ∧ t.rails[r].loop.coef.a1 = fieldAt q.params 10 2 ∧
        t.rails[r].loop.coef.a2 = fieldAt q.params 12 2 ∧ t.rails[r].loop.coef.kff = s16At q.params 14 ∧
        t.rails[r].loop.coef.dMin = fieldAt q.params 16 2 ∧ t.rails[r].loop.coef.dMax = fieldAt q.params 18 2)) ∧
      (s.rails[r].st = .off ∨ s.rails[r].st = .latchedOff ∨ (coefOf q.params).tick = s.rails[r].loop.coef.tick →
        (∃ c : Fin 256, (s.memberSet r.val).getLsbD c.val = true ∧ s.cells[c].st ≠ .retired) →
        Begins (.railSetComp q) 0x0307 q s (.words r.val) (fun t =>
          t = { arrived q s with rails := t.rails, bus := t.bus } ∧ (∀ k : Fin 48, k ≠ r → t.rails[k] = s.rails[k]) ∧
          t.rails[r] = (if s.rails[r].st = .off ∨ s.rails[r].st = .latchedOff then
            { s.rails[r] with loop := { s.rails[r].loop with coef := coefOf q.params, coefNext := none } } else s.rails[r]) ∧
          ∀ (k : Nat) (w : BitVec 32), (coefOf q.params).words[k]? = some w → configCast s r.val (coefWord + k) w ∈ t.bus)) ∧
      (s.rails[r].st ≠ .off → s.rails[r].st ≠ .latchedOff → (coefOf q.params).tick ≠ s.rails[r].loop.coef.tick →
        Completes (.railSetComp q) 0x0307 q s .refusedState [1, byte s.rails[r].st.code, byte r.val, 0] (fun t => t = arrived q s))))

/-- A start after its commands. PRESTART_MEASURE_DONE, which a host run on its converter keeps waiting, its readings held to their
channels' spans, loads the leader with the measured
pre-bias, or abandons the start when sense pair and leader lands differ by more than 200 mV; ARM_GROUP_DUE takes up to 32 cells from the
arming queue and sends each its ARM; DEM_HOLD_END ends diode emulation;
RAIL_STOPPED ends a stop once no member serves; and a pin that changes enters the pin word (R31, R44, R114-R117, R123, R264,
R271). -/
def Obligations.StartSequenceHappenings : Prop :=
  (∀ (r : Fin 48) (vin : Nat) (sense co a b : Int) (s : State), s.rails[r].st = .starting → s.rails[r].measuring = true →
    s.tlm.busy[Fin.ofNat 4 s.rails[r].measOn] = none → a = clampInt 0 6553500 sense → b = clampInt 0 6553500 co →
    (-200000 ≤ a - b → a - b ≤ 200000 → vin ≠ 0 → ∃ t, exec (.prestartMeasureDone r vin sense co) s = .next t ∧
      t.rails[r].st = .starting ∧ t.rails[r].measuring = false ∧
      t.rails[r].loop.ref = min (a / 500).toNat s.rails[r].loop.target * 65536 ∧
      t.rails[r].loop.dPrev = roundDiv ((a / 500).toNat * 32768) (min 65535 vin) * 65536 ∧
      t.rails[r].loop.dem = s.rails[r].loop.coef.demStart ∧
      (∀ k : Fin 48, k ≠ r → t.rails[k] = s.rails[k]) ∧ t.dom = s.dom ∧ t.map = s.map ∧ t.proto = s.proto ∧
      ∀ c : Fin 256, (s.memberSet r.val).getLsbD c.val = true → s.cells[c].st ≠ .retired → t.cells[c].senseLocal = false) ∧
    (200000 < a - b ∨ a - b < -200000 → s.rails[r].qualifying = false → ∃ t, exec (.prestartMeasureDone r vin sense co) s = .next t ∧
      t.rails[r].st = .off ∧ t.rails[r].sp.startFail = true ∧ (∀ k : Fin 48, k ≠ r → t.rails[k] = s.rails[k]))) ∧
  (∀ (r : Fin 48) (vin : Nat) (sense co : Int) (s : State),
    s.rails[r].st ≠ .starting ∨ s.tlm.busy[Fin.ofNat 4 s.rails[r].measOn] ≠ none →
    exec (.prestartMeasureDone r vin sense co) s = .next s) ∧
  (∀ s : State, ∃ t, exec .armGroupDue s = .next t ∧ t = { s with armQ := s.armQ.drop 32, arming := t.arming, bus := t.bus } ∧
    (t.arming = true ↔ s.armQ.drop 32 ≠ []) ∧
    (∀ x ∈ s.armQ.take 32, x.2 < 256 → msgTo .arm managerPort x.2 0 ∈ t.bus) ∧
    ∀ m ∈ t.bus, m ∈ s.bus ∨ ∃ x ∈ s.armQ.take 32, m = msgTo .arm managerPort x.2 0) ∧
  (∀ (r : Fin 48) (s : State), s.rails[r].st = .regulating ∨ s.rails[r].st = .slewing → s.rails[r].loop.dem = true →
    s.rails[r].loop.demLeft = 0 → s.rails[r].prot.negLimiting = false → ∃ t, exec (.demHoldEnd r) s = .next t ∧
      t.rails[r] = { s.rails[r] with loop := { s.rails[r].loop with dem := false } } ∧
      (∀ k : Fin 48, k ≠ r → t.rails[k] = s.rails[k]) ∧ t.dom = s.dom ∧ t.map = s.map) ∧
  (∀ (r : Fin 48) (s : State), s.rails[r].st = .stopping → (∀ n ∈ s.members r.val, (s.cell n).st.serves = false) →
    ∃ t, exec (.railStopped r) s = .next t ∧ t.rails[r].st = .off ∧ (∀ k : Fin 48, k ≠ r → t.rails[k] = s.rails[k]) ∧
      t = { s with rails := t.rails, router := t.router, seam := t.seam, pwr := t.pwr, clk := t.clk }) ∧
  (∀ (r : Fin 48) (s : State), s.rails[r].st ≠ .stopping → exec (.railStopped r) s = .next s) ∧
  (∀ (pin : Fin 12) (level : Bool) (s : State), ∃ t, exec (.selChange pin level) s = .next t ∧
    t.dom = { s.dom with sel := t.dom.sel } ∧ t.dom.sel.getLsbD pin.val = level ∧
    (∀ k : Fin 12, k ≠ pin → t.dom.sel.getLsbD k.val = s.dom.sel.getLsbD k.val) ∧
    (∀ r : Fin 48, s.rails[r].sp.pinBound = false → t.rails[r] = s.rails[r]) ∧ t.map = s.map ∧ t.proto = s.proto ∧ t.hem = s.hem)

/-! ## Phases, firing order and creases (chapter 05) -/

/-- Commands of the phases and creases. PHASE_POLICY holds a record whose SHED_I lies below its ADD_I for the rail's next control tick and
answers 0, and otherwise answers 1 with a note and changes nothing; FIRING_ORDER holds its settings, a TUMBLE_INT of 0 acting as 1.
CREASE_CONFIG writes the context's record, disables it unless it is enabled for a rail, and releases any other context that named the rail;
CREASE_CLEAR empties the table and its counts, an enabled context acquiring anew (R145, R154, R156, R158, R160, R171). -/
def Obligations.PhaseAndCreaseCommandsTakeEffect : Prop :=
  (∀ (q : Req) (s : State) (r : Fin 48), byteAt q.params 0 = r.val →
    (Ready 0x0401 q s → q.params.length = 20 →
      (fieldAt q.params 10 2 < fieldAt q.params 8 2 → Completes (.phasePolicy q) 0x0401 q s .done [0] (fun t =>
        OneRail r (arrived q s) t { s.rails[r] with ph := { s.rails[r].ph with polNext := some (policyOf (q.params.drop 4)) } })) ∧
      (fieldAt q.params 8 2 ≤ fieldAt q.params 10 2 →
        Completes (.phasePolicy q) 0x0401 q s .doneWithNote [1] (fun t => t = arrived q s))) ∧
    (Ready 0x0402 q s → q.params.length = 6 → Completes (.firingOrder q) 0x0402 q s .done [] (fun t =>
      OneRail r (arrived q s) t { s.rails[r] with ph := { s.rails[r].ph with
        orderNext := some (decide (byteAt q.params 1 = 1), decide (byteAt q.params 2 = 1), max 1 (fieldAt q.params 4 2)) } }))) ∧
  (∀ (q : Req) (s : State) (x : Fin 8), byteAt q.params 0 = x.val →
    (Ready 0x0403 q s → q.params.length = 16 → byteAt q.params 4 ≤ 47 ∨ byteAt q.params 4 = 0xFF →
      Completes (.creaseConfig q) 0x0403 q s .done [] (fun t =>
        t = { arrived q s with crease := t.crease, router := t.router, seam := t.seam, pwr := t.pwr, clk := t.clk } ∧
        t.crease[x].rail = (if byteAt q.params 4 ≤ 47 then some (byteAt q.params 4) else none) ∧
        t.crease[x].bins = binsOf (byteAt q.params 6) ∧ t.crease[x].enable = natBit (byteAt q.params 5) 0 ∧
        (t.crease[x].st = .disabled ↔ 47 < byteAt q.params 4 ∨ natBit (byteAt q.params 5) 0 = false) ∧
        ∀ y : Fin 8, y ≠ x →
          (s.crease[y].rail = t.crease[x].rail → s.crease[y].rail ≠ none → t.crease[y].rail = none ∧ t.crease[y].st = .disabled) ∧
          (s.crease[y].rail ≠ t.crease[x].rail → t.crease[y] = s.crease[y]))) ∧
    (Ready 0x0405 q s → q.params.length = 1 → Completes (.creaseClear q) 0x0405 q s .done [] (fun t =>
      t = { arrived q s with crease := t.crease, router := t.router, seam := t.seam, pwr := t.pwr, clk := t.clk } ∧
      t.crease[x].cur = [] ∧ t.crease[x].cor = [] ∧ t.crease[x].frames = 0 ∧ t.crease[x].odd = 0 ∧ t.crease[x].missed = 0 ∧
      t.crease[x].st = (if s.crease[x].st = .disabled then .disabled else .acquiring) ∧
      ∀ y : Fin 8, y ≠ x → t.crease[y] = s.crease[y])))

/-- The phase manager's happenings. A dwell that ends sends the APPLY of the pending count, with the rotations that fell
due under TUMBLE or ROT 0 under FIXED; the shed commits at the first period boundary of the rail's leader at which no
APPLY of it flies, where SHEDS counts and A is the pending count; a holdoff ends, and makes the rotations that fell due
in it; and TUMBLE_INT ticks advance ROT of an automatic, regulating, tumbling rail at once, or after the dwell or
holdoff in progress (R140, R142, R149, R153, R155). -/
def Obligations.DwellHoldoffAndTumble : Prop :=
  (∀ (r : Fin 48) (s : State) (a : Nat), s.rails[r].ph.pend = some a → s.rails[r].ph.committing = false →
    ∃ t, exec (.dwellEnd r) s = .next t ∧ RailSends r s t { s.rails[r] with ph := { s.rails[r].ph with
        committing := true
        rotDue := if s.rails[r].ph.tumble = true ∧ policyActs s.rails[r] = false then s.rails[r].ph.rotDue else 0
        rotHeld := if s.rails[r].ph.tumble = true then s.rails[r].ph.rotHeld else 0
        rot := if s.rails[r].ph.tumble = false then 0
          else if policyActs s.rails[r] = true then (s.rails[r].ph.rot + s.rails[r].ph.rotDue) % 256 else s.rails[r].ph.rot } } ∧
      ((hubWord t r.val 0 a).waits ≠ 0 → hubWord t r.val 0 a ∈ t.bus)) ∧
  (∀ (r : Fin 48) (s : State), s.rails[r].ph.pend = none ∨ s.rails[r].ph.committing = true → exec (.dwellEnd r) s = .next s) ∧
  (∀ (r : Fin 48) (c : Fin 256) (avg : Int) (a : Nat) (s : State), railOf s c.val = some r.val → s.rails[r].leader = c.val →
    s.rails[r].ph.pend = some a → s.rails[r].ph.committing = true → ∃ t, exec (.pwmPeriodBoundary c avg) s = .next t ∧
      t.rails[r] = { s.rails[r] with ph :=
        if (∃ m ∈ s.bus, m.op = 0 ∧ m.dst = r.val) then { s.rails[r].ph with armSent := false }
        else { s.rails[r].ph with a := a, pend := none, committing := false, aNext := none, qual := 0
                                  sheds := satInc 65535 s.rails[r].ph.sheds, armSent := false } } ∧
      ∀ k : Fin 48, k ≠ r → t.rails[k] = s.rails[k]) ∧
  (∀ (r : Fin 48) (s : State), s.rails[r].ph.holdoff = true →
    (s.rails[r].ph.rotDue + s.rails[r].ph.rotHeld = 0 → ∃ t, exec (.holdoffEnd r) s = .next t ∧
      RailSends r s t { s.rails[r] with ph := { s.rails[r].ph with holdoff := false } }) ∧
    (s.rails[r].ph.rotDue + s.rails[r].ph.rotHeld ≠ 0 → s.rails[r].ph.pend = none → policyActs s.rails[r] = true →
      s.rails[r].ph.tumble = true →
      ∃ t, exec (.holdoffEnd r) s = .next t ∧ RailSends r s t { s.rails[r] with ph := { s.rails[r].ph with
        holdoff := false, rotDue := 0, rotHeld := 0
        rot := (s.rails[r].ph.rot + (s.rails[r].ph.rotDue + s.rails[r].ph.rotHeld)) % 256 } })) ∧
  (∀ (r : Fin 48) (s : State), s.rails[r].ph.holdoff = false → exec (.holdoffEnd r) s = .next s) ∧
  (∀ (r : Fin 48) (s : State), s.rails[r].ph.tumbleStrobe = false → policyActs s.rails[r] = true → s.rails[r].ph.tumble = true →
    (s.rails[r].ph.pend = none → s.rails[r].ph.holdoff = false → ∃ t, exec (.tumbleDue r) s = .next t ∧
      RailSends r s t { s.rails[r] with ph := { s.rails[r].ph with rot := (s.rails[r].ph.rot + 1) % 256 } }) ∧
    (s.rails[r].ph.holdoff = true → ∃ t, exec (.tumbleDue r) s = .next t ∧
      RailSends r s t { s.rails[r] with ph := { s.rails[r].ph with rotHeld := s.rails[r].ph.rotHeld + 1 } }) ∧
    (s.rails[r].ph.pend ≠ none → s.rails[r].ph.holdoff = false → ∃ t, exec (.tumbleDue r) s = .next t ∧
      RailSends r s t { s.rails[r] with ph := { s.rails[r].ph with rotDue := s.rails[r].ph.rotDue + 1 } })) ∧
  (∀ (r : Fin 48) (s : State), s.rails[r].ph.tumbleStrobe = true → exec (.tumbleDue r) s = .next s)

/-- Frames. The first strobe after absence is accepted; one whose interval lies outside 125 µs to 160 ms sets FRAME_RANGE and moves no
context; one on time at a LEARNING or FROZEN context starts its frame there and raises the weight by one step; a prediction that passes
counts in MISSED and lowers it, the context acquiring anew at 0; and 200 ms without a strobe is absence (R16, R25, R161, R165). -/
def Obligations.FrameStrobesMoveCreases : Prop :=
  (∀ (x : Fin 8) (n : Nat) (s : State), s.land.frameAbsent = true → s.crease[x].rail = none → ∃ t, exec (.frameStrobe x n) s = .next t ∧
    t = { s with land := { s.land with frameAbsent := false, frameLast := some (n, true) } }) ∧
  (∀ (x : Fin 8) (n u : Nat) (ok : Bool) (s : State), s.land.frameAbsent = false → s.land.frameLast = some (u, ok) → n ≠ u →
    n < u + 12500 ∨ u + 16000000 < n → ∃ t, exec (.frameStrobe x n) s = .next t ∧ t.crease = s.crease ∧ t.rails = s.rails ∧
      t.land = { s.land with frameLast := some (n, false), flags := s.land.flags ||| 0x10000 } ∧
      t = { s with land := t.land, router := t.router, seam := t.seam, pwr := t.pwr, clk := t.clk }) ∧
  (∀ (x : Fin 8) (n u f : Nat) (r : Nat) (s : State), s.land.frameAbsent = false → s.land.frameLast = some (u, true) → n ≠ u →
    u + 12500 ≤ n → n ≤ u + 16000000 → s.crease[x].rail = some r → s.crease[x].st = .learning ∨ s.crease[x].st = .frozen →
    s.crease[x].period = some f → n ≤ s.crease[x].frameStart + f → (s.crease[x].frameStart + f - n) * 1024 ≤ f →
    ∃ t, exec (.frameStrobe x n) s = .next t ∧ t.crease[x].frameStart = n ∧
      t.crease[x].h = min s.crease[x].fade (s.crease[x].h + 1) ∧ t.crease[x].odd = s.crease[x].odd ∧
      (t.crease[x].st = .learning ∨ t.crease[x].st = .frozen) ∧ (∀ y : Fin 8, y ≠ x → t.crease[y] = s.crease[y]) ∧
      t.dom = s.dom ∧ t.map = s.map ∧ t.proto = s.proto ∧ t.cells = s.cells) ∧
  (∀ (x : Fin 8) (s : State), s.crease[x].st = .learning ∨ s.crease[x].st = .frozen ∨ s.crease[x].st = .fading →
    ∃ t, exec (.missed x) s = .next t ∧
      t = { s with crease := t.crease, tlm := t.tlm, router := t.router, seam := t.seam, pwr := t.pwr, clk := t.clk } ∧
      (s.crease[x].missed < 65535 → t.crease[x].missed = s.crease[x].missed + 1) ∧
      (s.crease[x].h ≤ 1 → t.crease[x].st = .acquiring ∧ t.crease[x].faded = true ∧ t.crease[x].h = 0) ∧
      (1 < s.crease[x].h → t.crease[x].st = .fading ∧ t.crease[x].h = s.crease[x].h - 1 ∧
        t.crease[x].frameStart = s.crease[x].frameStart + s.crease[x].period.getD 0) ∧
      ∀ y : Fin 8, y ≠ x → t.crease[y] = s.crease[y]) ∧
  (∀ s : State, exec .frameInAbsent s = .next { s with land := { s.land with frameAbsent := true } })

/-! ## The power cell and its rail bus (chapters 02 and 03) -/

/-- A cell monitor: a cause of R63 isolates a cell that is OFF or serves, with the cause kept, its
switches open and ISO_EVENT set, and the rest of the module beside the fabric, the domain and its
logs is unchanged; COMMANDED and reserved causes, and a cell already ISOLATED or RETIRED, do
nothing (R36, R39, R55, R60, R63, R70, R210, R211). That 0x08 and reserved causes do nothing is the model's
choice, log entry 14. -/
def Obligations.MonitorsIsolateTheCell : Prop :=
  ∀ (c : Fin 256) (s : State),
    (s.cells[c].st = .off ∨ s.cells[c].st = .armed ∨ s.cells[c].st = .switching ∨ s.cells[c].st = .shed →
      (∀ k : Nat, k < 48 → (s.memberSet k).getLsbD c.val = false) →
      (∀ cause : BitVec 8, 1 ≤ cause.toNat → cause.toNat ≤ 11 → cause ≠ 8 → ∃ t, exec (.cellFault c cause) s = .next t ∧
        t.cells[c] = s.cells[c].isolated cause ∧ t.cells[c].st = .isolated ∧ t.cells[c].isoCause = cause ∧ t.cells[c].isoSw = false ∧
        t.rails = s.rails ∧ t.dom = s.dom ∧ t.proto = s.proto ∧ t.hem = s.hem ∧ t.chg = s.chg ∧
        ∀ d : Fin 256, d ≠ c → t.cells[d] = s.cells[d]) ∧
      (s.cells[c].precharge = true ∨ s.cells[c].isoSw = true → ∃ t, exec (.inputSwitch c) s = .next t ∧
        t.cells[c].st = .isolated ∧ t.cells[c].isoCause = 0x0A ∧ ∀ d : Fin 256, d ≠ c → t.cells[d] = s.cells[d]) ∧
      (∀ kHz, kHz < 150000 ∨ 350000 < kHz → ∃ t, exec (.islandClock c kHz) s = .next t ∧ t.cells[c].st = .isolated ∧
        t.cells[c].isoCause = 0x09 ∧ t.cells[c].flags = s.cells[c].flags ||| 0x300 ∧ ∀ d : Fin 256, d ≠ c → t.cells[d] = s.cells[d]) ∧
      (∃ t, exec (.busSilent c) s = .next t ∧ t.cells[c].st = .isolated ∧ t.cells[c].isoCause = 0x0B ∧
        ∀ d : Fin 256, d ≠ c → t.cells[d] = s.cells[d])) ∧
    (∀ cause : BitVec 8, cause = 0 ∨ cause = 8 ∨ 11 < cause.toNat ∨ s.cells[c].st = .isolated ∨ s.cells[c].st = .retired →
      exec (.cellFault c cause) s = .next s) ∧
    (s.cells[c].precharge = false → s.cells[c].isoSw = false → exec (.inputSwitch c) s = .next s) ∧
    (∀ kHz, 150000 ≤ kHz → kHz ≤ 350000 → exec (.islandClock c kHz) s = .next s) ∧
    (s.cells[c].st = .isolated ∨ s.cells[c].st = .retired → exec (.busSilent c) s = .next s)

/-- What a cell does by itself, with nothing else of the module changed: the input node within 0.3 V of VIN arms it, a current at the
falling threshold before the scheduled end of the pulse issued ends it and counts, a zero crossing in diode emulation opens the low-side switch, a
missed acknowledgement counts and leaves the cell out of the broadcast (where RAIL_SET_COMP or LIMITS_SET waits for its words, its
answer is stated with that command), and an error sample, of which a period has N, joins the tick's mean
as a code of -256 to 255; a cell that listens in the tack probe counts its saturated samples (R36, R38, R40, R45, R46, R53, R54, R60, R85,
R104). -/
def Obligations.CellsOwnHappenings : Prop :=
  ∀ (c : Fin 256) (s : State), s.cells[c].st ≠ .retired →
    (∃ t, exec (.inputNodeReady c) s = .next t ∧ OneCell c s t
      (if s.cells[c].precharge = true ∧ s.cells[c].st = .off then { s.cells[c] with st := .armed, isoSw := true, precharge := false }
        else s.cells[c])) ∧
    (∀ (step : Nat) (microAmps : Int), ∃ t, exec (.peakTrip ⟨c, step, microAmps⟩) s = .next t ∧ OneCell c s t
      (if s.cells[c].pulse = true ∧ step < s.cells[c].issued ∧ s.cells[c].threshold32 step ≤ 32 * microAmps then
          { s.cells[c] with pulse := false, peakTrips := satInc 255 s.cells[c].peakTrips, flags := s.cells[c].flags ||| 0x8 }
        else s.cells[c])) ∧
    (∃ t, exec (.zeroCross c) s = .next t ∧ OneCell c s t
      (if s.cells[c].diodeEm = true ∧ s.cells[c].st = .switching then { s.cells[c] with lsOff := true } else s.cells[c])) ∧
    ((∀ p r, s.proto.exec ≠ some (p, .words r)) → ∃ t, exec (.hsTimeout c) s = .next t ∧
      OneCell c { s with bus := ((takeFrom (fun m => m.bcast) c.val s.bus).map Prod.snd).getD s.bus } t
      { s.cells[c] with flags := s.cells[c].flags ||| 0x20, busErrs := satInc 255 s.cells[c].busErrs }) ∧
    (∀ diff : Int, ∃ t, exec (.errorSample c diff) s = .next t ∧
      (s.cells[c].st = .armed ∨ s.cells[c].st = .switching ∨ s.cells[c].st = .shed →
        s.cells[c].sampCnt < sampleCount s.cells[c].period → t.cells[c].sampCnt = s.cells[c].sampCnt + 1 ∧
        t.cells[c].errN = s.cells[c].errN + 1 ∧ t.cells[c].errSum = s.cells[c].errSum + clampInt (-256) 255 diff ∧
        (255 < diff → t.cells[c].flags = s.cells[c].flags ||| 1) ∧ (diff < -256 → t.cells[c].flags = s.cells[c].flags ||| 2)) ∧
      (s.cells[c].st = .armed ∨ s.cells[c].st = .switching ∨ s.cells[c].st = .shed →
        sampleCount s.cells[c].period ≤ s.cells[c].sampCnt → t.cells[c] = s.cells[c] ∧ t.rails = s.rails) ∧
      (s.cells[c].st = .off ∨ s.cells[c].st = .isolated → t.rails = s.rails ∧
        t.cells[c] = if s.map.probe = .running then s.cells[c].saturation diff else s.cells[c]) ∧
      (∀ d : Fin 256, d ≠ c → t.cells[d] = s.cells[d]) ∧ t.dom = s.dom ∧ t.map = s.map ∧ t.proto = s.proto)

/-- A period boundary of a cell: an orderly stop turns it off; otherwise the boundary is counted, a waiting ON_TIME takes effect, and what
is issued of it is limited to PERIOD less 462 steps, a waiting PERIOD takes effect at its boundary and at no other, the average joins the
tick's, an ARM latched gives A = M and an APPLY its A, P and ROT, those of P and ROT beside an ARM too, an armed cell of a released rail
switches or is shed by its index, an ON_TIME below 231 steps is omitted, and a cell shed with a pulse under way completes it (R36, R41,
R42, R46, R49, R51, R117, R137, R142, R150, R183; an APPLY beside an ARM is log entry 150, the model's reading). -/
def Obligations.PeriodBoundaryCommitsTheCell : Prop :=
  ∀ (c : Fin 256) (avg : Int) (s : State), s.cells[c].st ≠ .retired →
    ∃ t, exec (.pwmPeriodBoundary c avg) s = .next t ∧ t.cells[c] = s.cells[c].periodBoundary avg ∧
      (∀ d : Fin 256, d ≠ c → t.cells[d] = s.cells[d]) ∧ t.dom = s.dom ∧ t.map = s.map ∧ t.proto = s.proto ∧ t.hem = s.hem ∧
      t.cells[c].boundary = (s.cells[c].boundary + 1) % 256 ∧ t.cells[c].onTimeNext = none ∧
      t.cells[c].onTime = s.cells[c].onTimeNext.getD s.cells[c].onTime ∧
      t.cells[c].issued = min t.cells[c].onTime (t.cells[c].period / 65536 - 462) ∧
      (∀ w, s.cells[c].periodNext = some w → s.cells[c].periodAt = some ((s.cells[c].boundary + 1) % 256) →
        t.cells[c].period = w ∧ t.cells[c].periodNext = none ∧ t.cells[c].periodAt = none) ∧
      (s.cells[c].periodAt ≠ some ((s.cells[c].boundary + 1) % 256) → t.cells[c].period = s.cells[c].period ∧
        t.cells[c].periodNext = s.cells[c].periodNext ∧ t.cells[c].periodAt = s.cells[c].periodAt) ∧
      (s.cells[c].stopNext = false → s.cells[c].armNext = true → t.cells[c].armNext = false ∧ t.cells[c].aCnt = max 1 s.cells[c].mCnt) ∧
      (∀ a p q, s.cells[c].stopNext = false → s.cells[c].applyNext = some (a, p, q) → t.cells[c].applyNext = none ∧
        t.cells[c].pos = p ∧ t.cells[c].rot = q ∧
        (s.cells[c].armNext = false → t.cells[c].aCnt = min (max 1 a) (max 1 s.cells[c].mCnt))) ∧
      t.cells[c].iN = s.cells[c].iN + 1 ∧ t.cells[c].sampCnt = 0 ∧
      (∀ r : Fin 48, s.rails[r].leader ≠ c.val → t.rails[r] = s.rails[r]) ∧
      (s.cells[c].stopNext = true → s.cells[c].st = .armed ∨ s.cells[c].st = .switching ∨ s.cells[c].st = .shed →
        t.cells[c].st = .off ∧ t.cells[c].isoSw = false ∧ t.cells[c].stopNext = false) ∧
      (s.cells[c].stopNext = false → s.cells[c].st = .armed → s.cells[c].runNext = true → s.cells[c].armNext = false →
        s.cells[c].applyNext = none → t.cells[c].runNext = false ∧
        t.cells[c].st = if s.cells[c].fIdx < s.cells[c].aCnt ∨ s.cells[c].leadActive = true then .switching else .shed) ∧
      (t.cells[c].pulse = true → s.cells[c].stopNext = false →
        (t.cells[c].st = .switching ∧ 231 ≤ t.cells[c].issued) ∨ (t.cells[c].st = .shed ∧ s.cells[c].spills = true))

/-- Messages on the rail bus that a member receives clean, with nothing else of the module changed but the traffic in
flight: a message's 64 bits spell it again; each row names its message by what that message holds; DUTY and REFERENCE
give the word their sender put in them, a SHADOW word joins the set of its leader, CONFIG_WR stores a word by its index,
and at the leader gives its rail the limits and, with the last of five words, the coefficient set, which those words
spell again, APPLY, PEND_SHED and CANCEL act as phase control words, ARM begins precharge of an OFF member with a role
or returns the others, STATUS_RD asks for four bytes that STATUS_REPLY delivers, CURRENT reaches the manager's copy, a
reserved type counts in BUS_ERRS; a word that moves the PHASE to before the time reached in the period may leave the
pulse unissued, and no other does; and with none of its kind in flight to the cell a row brings nothing (R38, R44, R48,
R51, R52, R56, R57, R61, R109, R140, R141, R150, R183, R200, log entries 111, 117 and 149). -/
def Obligations.RailBusMessagesActOnTheMember : Prop :=
  ∀ (c : Fin 256) (s : State), s.cells[c].st ≠ .retired →
    (∀ m : Msg, m.src < 256 → m.dst < (if m.bcast = true then 64 else 256) → m.index < 256 →
      Msg.ofWord m.word = some { m with waits := 0 } ∧ linkRead m.link = (.clean, m.word)) ∧
    (∀ (src : Fin 256) (m : Ecc → Instr) (sel : Msg → Bool) (e : Ecc), InFlight c src m sel → takeFrom sel c.val s.bus = none →
      exec (m e) s = .next s) ∧
    (∀ (n : Nat) (w : BitVec 32) (e : Ecc), takeFrom (fun m => m.isConfig n && m.saying w) c.val s.bus = none →
      exec (.configWr c n w e) s = .next s) ∧
    (∀ (on : BitVec 16) m rest, takeFrom (fun m => m.isType .duty && m.saying (on.setWidth 32)) c.val s.bus = some (m, rest) →
      ∃ t, exec (.duty c on .clean) s = .next t ∧
        OneCell c { s with bus := rest } t { s.cells[c] with onTimeNext := some on.toNat }) ∧
    (∀ (code : BitVec 16) m rest, takeFrom (fun m => m.isType .reference && m.saying (code.setWidth 32)) c.val s.bus = some (m, rest) →
      ∃ t, exec (.reference c code .clean) s = .next t ∧
        OneCell c { s with bus := rest } t { s.cells[c] with ref := code.toNat }) ∧
    (∀ (src : Fin 256) (index : Fin 8) (w : BitVec 32) m rest,
      takeFrom (fun m => m.isFrom .shadow src.val && decide (m.index = index.val) && m.saying w) c.val s.bus = some (m, rest) →
      ∃ t, exec (.shadow c src index w .clean) s = .next t ∧
        OneCell c { s with bus := rest } t (s.cells[c].shadowIn c.val src.val index.val w)) ∧
    (∀ (src : Fin 256) (w : BitVec 32), s.cells[c].leader = src.val → src ≠ c → s.cells[c].shadowPart.length = 7 →
      (s.cells[c].shadowIn c.val src.val 7 w).shadow.toList = s.cells[c].shadowPart ++ [w] ∧
        (s.cells[c].shadowIn c.val src.val 7 w).shadowPart = []) ∧
    (∀ (index : Nat) (w : BitVec 32) m rest, takeFrom (fun m => m.isConfig index && m.saying w) c.val s.bus = some (m, rest) →
      (∀ p r, s.proto.exec ≠ some (p, .words r)) → ∃ t, exec (.configWr c index w .clean) s = .next t ∧
      OneCell c { s with bus := rest, free := s.free + 1, rails := t.rails } t
        { s.cells[c].config m.index w.toNat with pulse := t.cells[c].pulse } ∧
      (s.cells[c].pulse = false → t.cells[c].pulse = false) ∧
      (t.cells[c].phaseNext = s.cells[c].phaseNext ∨ s.cells[c].phase ≤ t.cells[c].phaseNext → t.cells[c].pulse = s.cells[c].pulse) ∧
      (∀ r : Fin 48, (railOf s c.val ≠ some r.val ∨ s.rails[r].leader ≠ c.val → t.rails[r] = s.rails[r]) ∧
        (railOf s c.val = some r.val → s.rails[r].leader = c.val →
          (m.index = ilimWord → t.rails[r] = { s.rails[r] with prot := { s.rails[r].prot with ilimNext := some w.toNat } }) ∧
          (m.index = sinkWord → t.rails[r] =
            { s.rails[r] with prot := { s.rails[r].prot with sinkNext := some (w.toNat % 65536, w.toNat / 65536) } }) ∧
          (m.index = coefWord + 4 → s.cells[c].coefPart.length = 4 → s.rails[r].st.runs = true → t.rails[r] =
            { s.rails[r] with loop := { s.rails[r].loop with coefNext := some (Coef.ofWords (s.cells[c].coefPart ++ [w])) } }) ∧
          (m.index < 0x100 → t.rails[r] = s.rails[r])))) ∧
    (∀ k : Coef, k.kp < 65536 → k.ki < 65536 → k.kd < 65536 → k.a1 < 65536 → k.a2 < 65536 → -32768 ≤ k.kff → k.kff ≤ 32767 →
      k.dMin < 65536 → k.dMax < 65536 → k.demHold < 256 → k.ctick < 1024 → Coef.ofWords k.words = k) ∧
    (∀ w : BitVec 32, (s.cells[c].config 0x33 w.toNat).periodNext = some w.toNat ∧
      (s.cells[c].config 0x35 w.toNat).limNext = some (w.toNat % 256, w.toNat / 256 % 256) ∧
      (s.cells[c].config 0x31 w.toNat).fIdx = w.toNat % 256 ∧ (s.cells[c].config 0x31 w.toNat).mCnt = w.toNat / 65536 % 512 ∧
      (s.cells[c].config 0x34 w.toNat).periodAt = some (w.toNat % 256)) ∧
    (∀ (w : BitVec 32) m rest, takeFrom (fun m => decide (m.op = 0) && m.saying w) c.val s.bus = some (m, rest) →
      ∃ t, exec (.apply c w .clean) s = .next t ∧
      OneCell c { s with bus := rest, free := s.free + 1 } t { s.cells[c] with
        applyNext := some (w.toNat % 512, if w.toNat / 2 ^ 14 % 64 = 0 then 64 else w.toNat / 2 ^ 14 % 64, w.toNat / 2 ^ 20 % 256)
        pendA := none, pulse := t.cells[c].pulse } ∧
      (s.cells[c].pulse = false → t.cells[c].pulse = false) ∧
      (t.cells[c].phaseNext = s.cells[c].phaseNext ∨ s.cells[c].phase ≤ t.cells[c].phaseNext → t.cells[c].pulse = s.cells[c].pulse)) ∧
    (∀ (w : BitVec 32) m rest, takeFrom (fun m => decide (m.op = 1) && m.saying w) c.val s.bus = some (m, rest) →
      ∃ t, exec (.pendShed c w .clean) s = .next t ∧
        OneCell c { s with bus := rest } t { s.cells[c] with pendA := some (w.toNat % 512) }) ∧
    (∀ (w : BitVec 32) m rest, takeFrom (fun m => decide (m.op = 2) && m.saying w) c.val s.bus = some (m, rest) →
      ∃ t, exec (.cancel c w .clean) s = .next t ∧ OneCell c { s with bus := rest } t { s.cells[c] with pendA := none }) ∧
    (∀ m rest, takeFrom (Msg.isType .arm) c.val s.bus = some (m, rest) → ∃ t, exec (.arm c .clean) s = .next t ∧
      OneCell c { s with bus := rest, free := s.free + 1 } t { s.cells[c].arm with pulse := t.cells[c].pulse } ∧
      (s.cells[c].pulse = false → t.cells[c].pulse = false) ∧
      (t.cells[c].phaseNext = s.cells[c].phaseNext ∨ s.cells[c].phase ≤ t.cells[c].phaseNext → t.cells[c].pulse = s.cells[c].pulse) ∧
      (s.cells[c].st = .off → s.cells[c].role ≠ .none → t.cells[c].precharge = true) ∧
      (s.cells[c].st = .shed → t.cells[c].armNext = true ∧ t.cells[c].pendA = none)) ∧
    (∀ index : Nat, index < 16 → index % 4 = 0 → ∃ t, exec (.statusRd c index .clean) s = .next t ∧
      OneCell c s t { s.cells[c] with replyDue := some (index, fieldAt s.cells[c].block index 4) }) ∧
    (∀ o v : Nat, s.cells[c].replyDue = some (o, v) → s.proto.running = true → ∃ t, exec (.statusReply c) s = .next t ∧
      OneCell c s t { s.cells[c] with replyDue := none, mirror := putMirror s.cells[c].mirror o (le32 v) }) ∧
    (∀ type : Nat, 0xA ≤ type → type ≤ 0xF → ∃ t, exec (.reservedMessage c type .clean) s = .next t ∧
      OneCell c s t { s.cells[c] with busErrs := satInc 255 s.cells[c].busErrs }) ∧
    (∀ (src : Fin 256) (w : BitVec 32) m rest, takeFrom (fun m => m.isFrom .current src.val && m.saying w) c.val s.bus = some (m, rest) →
      s.cells[src].st ≠ .retired → ∃ t, exec (.current c src w .clean) s = .next t ∧ OneCell src { s with bus := rest } t { s.cells[src] with
        mirCurrent := ofCode 16 (w.toNat % 65536), mirror := t.cells[src].mirror } ∧
      (s.proto.running = false → t.cells[src].mirror = s.cells[src].mirror))

/-- Error correction on the rail bus. Of a message on its way to it, a receiver corrects a single-bit error, acts on the
message as on a clean one and sets BUS_CORR; of a double-bit error it discards the message, sets BUS_UNCORR and
increments BUS_ERRS, and nothing else changes, neither at the sender nor in what the member has heard; at the next check
point a heartbeat lost so counts as missing (R58). -/
def Obligations.BusErrorsAreCorrectedOrDiscarded : Prop :=
  (∀ (c src : Fin 256) (n : Nat) (w : BitVec 32) (b : BitVec 8) (m : Ecc → Instr) (s : State) (rest : List Msg),
      s.cells[c].st ≠ .retired →
      ((∃ sel x, InFlight c src m sel ∧ takeFrom sel c.val s.bus = some (x, rest)) ∨
        (m = (.configWr c n w ·) ∧ (∀ p r, s.proto.exec ≠ some (p, .words r)) ∧
          ∃ x, takeFrom (fun m => m.isConfig n && m.saying w) c.val s.bus = some (x, rest)) ∨
        (m = (.isolate c b ·) ∧ rest = ((takeFrom (Msg.isolates b) c.val s.bus).map Prod.snd).getD s.bus) ∨
        ((m = (.statusRd c n ·) ∨ (m = (.reservedMessage c n ·) ∧ 0xA ≤ n ∧ n ≤ 0xF)) ∧ rest = s.bus)) →
      (∃ t, exec (m .uncorrectable) s = .next t ∧ OneCell c { s with bus := rest } t
          { s.cells[c] with flags := s.cells[c].flags ||| 0x80, busErrs := satInc 255 s.cells[c].busErrs }) ∧
      (∃ u, OneCell c s u { s.cells[c] with flags := s.cells[c].flags ||| 0x40 } ∧ exec (m .corrected) s = exec (m .clean) u)) ∧
  (∀ (r : Fin 48) (c : Fin 256) (s : State), s.rails[r].st = .regulating → s.rails[r].released = true → s.rails[r].hubMissing = 0 →
    (s.memberSet r.val).getLsbD c.val = true → s.cells[c].st ≠ .retired → s.cells[c].leader ≠ c.val → s.cells[c].heard = false →
    (∀ d : Fin 256, d ≠ c → (s.memberSet r.val).getLsbD d.val = true → s.cells[d].heard = true) →
    s.cells[c].missing + 1 ≤ s.cells[c].rank → ∃ t, exec (.checkPoint r) s = .next t ∧ t.cells[c].missing = s.cells[c].missing + 1)

/-- HEARTBEAT and ISOLATE. A heartbeat of the leader clears the missing count; one of a cell nearer
the former leader makes a leader yield and records LEADER_CONFLICT. ISOLATE isolates the member
with its cause, a reserved one counting as COMMANDED (R36, R57, R78, R79). That a reserved cause
counts as COMMANDED is the model's choice, log entry 14. -/
def Obligations.HeartbeatsAndIsolatesActOnTheMember : Prop :=
  (∀ (c src : Fin 256) (n : Nat) (m : Msg) (rest : List Msg) (s : State),
    takeFrom (fun m => m.isFrom .heartbeat src.val && m.saying (BitVec.ofNat 32 n)) c.val s.bus = some (m, rest) → s.cells[c].st ≠ .retired →
      s.cells[c].role ≠ .none → s.cells[c].members.getLsbD src.val = true → s.cells[c].former ≠ some src.val →
    (s.cells[c].leader = src.val → ∃ t, exec (.heartbeat c src n .clean) s = .next t ∧
      OneCell c { s with bus := rest } t { s.cells[c] with lastCount := n % 2 ^ 32, missing := 0, heard := true }) ∧
    (s.cells[c].leader = c.val → src ≠ c → precedes (s.cells[c].former.getD c.val) src.val c.val = true →
      ∃ t, exec (.heartbeat c src n .clean) s = .next t ∧ t.cells[c].leader = src.val ∧ t.cells[c].role = .follower ∧
        t.cells[c].former = some c.val ∧ t.rails[fin48 s.cells[c].rail].leaderConflict = true ∧
        t.rails[fin48 s.cells[c].rail].leader = src.val ∧ (∀ d : Fin 256, d ≠ c → t.cells[d] = s.cells[d]) ∧ t.dom = s.dom)) ∧
  (∀ (c : Fin 256) (cause : BitVec 8) (s : State), s.cells[c].st = .off ∨ s.cells[c].st = .armed ∨ s.cells[c].st = .switching ∨
    s.cells[c].st = .shed → (∀ k : Nat, k < 48 → (s.memberSet k).getLsbD c.val = false) →
    ∃ t, exec (.isolate c cause .clean) s = .next t ∧ t.cells[c].st = .isolated ∧
      t.cells[c].isoCause = (if 1 ≤ cause.toNat ∧ cause.toNat ≤ 11 then cause else 8) ∧ t.rails = s.rails ∧ t.dom = s.dom ∧
      ∀ d : Fin 256, d ≠ c → t.cells[d] = s.cells[d])

/-- CONTROL_TICK. A stopped rail does nothing but end the frame a context learns, and the tick in which it stopped; a
running one whose target lies outside codes 800 to 7,200 while it regulates is undefined, and the run stops (R119,
R392); otherwise the tick closes the members' sums and, with a released rail and a serving leader, leaves D between its
limits, the reference moved by at most the slew, and the leader's count one higher, and sends the members its HEARTBEAT
with the count, its REFERENCE and its DUTY, other rails unchanged (R47, R77, R101, R104, R105, R108, R119, R127, R163,
R392). -/
def Obligations.ControlTickRegulates : Prop :=
  (∀ (r : Fin 48) (s : State), s.rails[r].st = .off ∨ s.rails[r].st = .latchedOff → ∃ t, exec (.controlTick r) s = .next t ∧
    t = { s with rails := t.rails, crease := t.crease } ∧ t.rails[r] = { s.rails[r] with offFrom := none } ∧
    (∀ k : Fin 48, k ≠ r → t.rails[k] = s.rails[k]) ∧ ∀ x : Fin 8, s.crease[x].rail ≠ some r.val → t.crease[x] = s.crease[x]) ∧
  (∀ (r : Fin 48) (s : State), s.rails[r].st = .regulating ∨ s.rails[r].st = .slewing →
    s.rails[r].loop.target < 800 ∨ 7200 < s.rails[r].loop.target → exec (.controlTick r) s = .fault .undefinedSetpoint) ∧
  (∀ (r : Fin 48) (s : State), s.rails[r].st = .starting ∨ s.rails[r].st = .stopping ∨
    ((s.rails[r].st = .regulating ∨ s.rails[r].st = .slewing) ∧ 800 ≤ s.rails[r].loop.target ∧ s.rails[r].loop.target ≤ 7200) →
    ∃ t, exec (.controlTick r) s = .next t ∧ (∀ k : Fin 48, k ≠ r → t.rails[k] = s.rails[k]) ∧ t.dom = s.dom ∧ t.map = s.map ∧
      t.proto = s.proto ∧ t.hem = s.hem ∧
      (s.rails[r].released = true → (s.cell s.rails[r].leader).st = .switching →
        t.rails[r].loop.ticks = (s.rails[r].loop.ticks + 1) % 2 ^ 32 ∧ (t.rails[r].loop.coef.lo : Int) * 65536 ≤ t.rails[r].loop.dPrev ∧
        t.rails[r].loop.dPrev ≤ (t.rails[r].loop.coef.dMax : Int) * 65536 ∧
        (∀ m : Msg, m = castFrom s r.val s.rails[r].leader .heartbeat 0 (BitVec.ofNat 32 s.rails[r].loop.ticks) ∨
            m = castFrom s r.val s.rails[r].leader .reference 0 (BitVec.ofNat 32 (t.rails[r].loop.ref / 65536)) ∨
            m = castFrom s r.val s.rails[r].leader .duty 0
              (BitVec.ofNat 32 (onTimeOf t.rails[r].loop.dPrev (s.cell s.rails[r].leader).period % 65536)) →
          m.waits ≠ 0 → m ∈ t.bus) ∧
        (s.rails[r].st = .regulating → t.rails[r].loop.ref = s.rails[r].loop.ref) ∧
        (s.rails[r].st = .slewing → s.rails[r].loop.coefNext = none →
          t.rails[r].loop.ref =
            moveRef s.rails[r].loop.ref (s.rails[r].loop.target * 65536) (refStep s.rails[r].sp.slew s.rails[r].loop.coef.tick))))

/-- CHECK_POINT and RANK_REWRITE. A stopped rail's check point does nothing; one at which every member has heard its leader clears their
missing counts and keeps the leader. RANK_REWRITE with nothing due does nothing; due, with no former leader to drop, it counts and numbers
every healthy member anew, and sends a running rail the A in force, no more than they are, a pending shed cancelled; a former leader counts
in TAKEOVERS, and one still healthy is sent ISOLATE (R74, R75, R78, R80, R82, R97, R136, R137, R149, R153; that a restored member is
counted before it has a role is log entry 154, the model's reading). -/
def Obligations.CheckPointsAndRankRewrite : Prop :=
  (∀ (r : Fin 48) (s : State), s.rails[r].st = .off ∨ s.rails[r].st = .latchedOff → exec (.checkPoint r) s = .next s) ∧
  (∀ (r : Fin 48) (s : State), s.rails[r].st = .regulating → s.rails[r].released = true → s.rails[r].hubMissing = 0 →
    (∀ c : Fin 256, (s.memberSet r.val).getLsbD c.val = true → s.cells[c].heard = true) →
    ∃ t, exec (.checkPoint r) s = .next t ∧ t = { s with cells := t.cells, rails := t.rails } ∧
      t.rails[r] = { s.rails[r] with hubMissing := 1 } ∧ (∀ k : Fin 48, k ≠ r → t.rails[k] = s.rails[k]) ∧
      ∀ c : Fin 256, (s.memberSet r.val).getLsbD c.val = true → s.cells[c].st ≠ .retired → s.cells[c].leader ≠ c.val →
        t.cells[c] = { s.cells[c] with missing := 0, heard := false }) ∧
  (∀ (r : Fin 48) (s : State), s.rails[r].rewriteDue = false ∨ s.proto.running = false → exec (.rankRewrite r) s = .next s) ∧
  (∀ (r : Fin 48) (s : State), s.rails[r].rewriteDue = true → s.proto.running = true → s.rails[r].formerDue = [] →
    ∃ t, exec (.rankRewrite r) s = .next t ∧ t = { s with cells := t.cells, rails := t.rails, bus := t.bus, free := s.free + 256 } ∧
      t.rails[r].rewriteDue = false ∧ (s.rails[r].st = .off → t.bus = s.bus ∧ t.rails[r].ph.a = s.rails[r].ph.a) ∧
      (s.rails[r].st.runs = true → t.rails[r].ph.pend = none ∧
        t.rails[r].ph.aNext = some (min s.rails[r].ph.aim (max 1 (s.healthyN r.val)))) ∧
      t.rails[r].ph.m = s.healthyN r.val ∧
      (∀ c : Fin 256, (s.memberSet r.val).getLsbD c.val = true →
        (s.cells[c].healthy = true → t.cells[c].mCnt = s.healthyN r.val ∧ t.cells[c].fIdx < s.healthyN r.val ∧
          (s.cells[c].role = .none → c.val ≠ s.rails[r].leader → t.cells[c].role = .none) ∧ t.cells[c].st = s.cells[c].st) ∧
        (s.cells[c].st = .isolated → t.cells[c] = { s.cells[c] with role := .none })) ∧
      t.rails[r].leader = s.rails[r].leader ∧ t.rails[r].st = s.rails[r].st ∧
      ∀ k : Fin 48, k ≠ r → t.rails[k] = s.rails[k]) ∧
  (∀ (r : Fin 48) (n : Nat) (s : State), s.rails[r].rewriteDue = true → s.proto.running = true → s.rails[r].formerDue = [n] →
    ∃ t, exec (.rankRewrite r) s = .next t ∧
      ((s.cell n).healthy = true → msgTo .isolate managerPort n 8 ∈ t.bus) ∧
      t.rails[r].takeovers = satInc 255 s.rails[r].takeovers ∧ t.rails[r].formerDue = [] ∧
      ∀ k : Fin 48, k ≠ r → t.rails[k] = s.rails[k])

/-! ## Clocks and the spur plan (chapter 06) -/

/-- Commands of the clocks and the spur plan. CLOCK_SOURCE sets MODE, a reserved one acting as AUTO,
and holds the SYNC_OUT settings for the end of its cycle; a PRESET replaces the learned offset,
but on the reference it draws a note and leaves it. SYNC_QUALIFY takes a record whose F_NOM lies
in its range, and otherwise draws a note. KEEPOUT_SET of bands out of order leaves the behaviour
undefined, and the run stops; one that would break the plan under ENFORCE is PLAN_IMPOSSIBLE and
changes nothing; another replaces all sixteen bands, and SPUR_VIOL tells whether the plan keeps.
RAIL_FSW_SET of a stopped rail sets its frequency within 1 to 4 MHz, with a note when it was
outside, unless the plan would not keep (R182, R184, R185, R188, R196, R197, R392). Bands of equal
F_LO counting as ascending is log entry 23 (the model's reading). -/
def Obligations.ClockAndSpurCommandsTakeEffect : Prop :=
  (∀ (q : Req) (s : State),
    (Ready 0x0501 q s → q.params.length = 10 → byteAt q.params 2 ≠ 2 ∨ byteAt q.params 3 ≤ 47 →
      (natBit (byteAt q.params 1) 0 = false → Completes (.clockSource q) 0x0501 q s .done [] (fun t =>
        t = { arrived q s with free := t.free, clk := t.clk, router := t.router, seam := t.seam, pwr := t.pwr } ∧
        t.clk.mode = (if byteAt q.params 0 ≤ 2 then byteAt q.params 0 else 0) ∧
        t.clk.soNext =
          some (if byteAt q.params 2 ≤ 2 then byteAt q.params 2 else 0, byteAt q.params 3, max 2 (fieldAt q.params 8 2)) ∧
        t.clk.soMode = s.clk.soMode ∧ t.clk.offLearned = s.clk.offLearned ∧ t.clk.bands = s.clk.bands)) ∧
      (natBit (byteAt q.params 1) 0 = true → byteAt q.params 0 = s.clk.mode → s.clk.mode ≤ 2 →
        (s.clk.tb = .pullIn ∨ s.clk.tb = .locked → Completes (.clockSource q) 0x0501 q s .doneWithNote [] (fun t =>
          t.clk.offLearned = s.clk.offLearned ∧ t.clk.offValid = s.clk.offValid ∧ t.clk.tb = s.clk.tb ∧ t.rails = s.rails)) ∧
        (s.clk.tb ≠ .pullIn → s.clk.tb ≠ .locked → Completes (.clockSource q) 0x0501 q s .done [] (fun t =>
          t.clk.offLearned = s32At q.params 4 ∧ t.clk.offValid = true ∧ t.clk.offPreset = true ∧ t.clk.uLrn = 100 ∧
          t = { arrived q s with free := t.free, clk := t.clk, router := t.router, seam := t.seam, pwr := t.pwr })))) ∧
    (Ready 0x0502 q s → q.params.length = 12 →
      (fieldAt q.params 0 4 < 1000000 ∨ 100000000 < fieldAt q.params 0 4 →
        Completes (.syncQualify q) 0x0502 q s .doneWithNote [] (fun t => t = arrived q s)) ∧
      (1000000 ≤ fieldAt q.params 0 4 → fieldAt q.params 0 4 ≤ 100000000 → Completes (.syncQualify q) 0x0502 q s .done [] (fun t =>
        t.clk.fNom = fieldAt q.params 0 4 ∧ t.clk.qd = min 20 (byteAt q.params 4) ∧ t.clk.tol = max 1 (byteAt q.params 5) ∧
        t.clk.uRef = fieldAt q.params 6 2 ∧ t.clk.dHo = fieldAt q.params 8 2 ∧ t.clk.slideRate = clampNat 1 200 (byteAt q.params 10) ∧
        (fieldAt q.params 0 4 ≠ s.clk.fNom →
          t.clk.ref = if s.clk.edges = true ∧ s.clk.xoBad = false ∧ s.loopStopped = false then .qualifying else .absent) ∧
        t = { arrived q s with free := t.free, clk := t.clk, router := t.router, seam := t.seam, pwr := t.pwr })))) ∧
  (∀ (q : Req) (s : State),
    (Ready 0x0503 q s → byteAt q.params 0 ≤ 16 → q.params.length = 4 + 20 * byteAt q.params 0 →
      (bandsOrdered ((bandsOf q.params).toList.filter (fun b => b.enable)) = false →
        exec (.keepoutSet q) s = .fault .undefinedKeepout) ∧
      (bandsOrdered ((bandsOf q.params).toList.filter (fun b => b.enable)) = true →
        (natBit (byteAt q.params 1) 0 = true → planViols s (bandsOf q.params) s.clk.u ≠ [] →
          Completes (.keepoutSet q) 0x0503 q s .planImpossible
            ([byte (min 255 (planViols s (bandsOf q.params) s.clk.u).length)] ++ violRecords (planViols s (bandsOf q.params) s.clk.u))
            (fun t => t = arrived q s)) ∧
        (natBit (byteAt q.params 1) 0 = false ∨ planViols s (bandsOf q.params) s.clk.u = [] →
          Completes (.keepoutSet q) 0x0503 q s .done [] (fun t => t.clk.bands = bandsOf q.params ∧
            (t.clk.spurViol = true ↔ planViols s (bandsOf q.params) s.clk.u ≠ []) ∧ t.clk.u = s.clk.u ∧
            t = { arrived q s with clk := t.clk, router := t.router, seam := t.seam, pwr := t.pwr })))) ∧
    (∀ r : Fin 48, Ready 0x0506 q s → q.params.length = 8 → byteAt q.params 0 = r.val → ∀ p,
      p = periodOf (clampNat 1000000 4000000 (fieldAt q.params 4 4)) (natBit (byteAt q.params 1) 0) →
      (railViols s s.clk.bands s.clk.u r.val p ≠ [] → Completes (.railFswSet q) 0x0506 q s .planImpossible
        (le32 s.rails[r].period ++ [byte (min 255 (railViols s s.clk.bands s.clk.u r.val p).length), 0, 0, 0] ++
          violRecords (railViols s s.clk.bands s.clk.u r.val p)) (fun t => t = arrived q s)) ∧
      (railViols s s.clk.bands s.clk.u r.val p = [] → s.rails[r].st = .off ∨ s.rails[r].st = .latchedOff →
        Completes (.railFswSet q) 0x0506 q s
          (if 1000000 ≤ fieldAt q.params 4 4 ∧ fieldAt q.params 4 4 ≤ 4000000 then .done else .doneWithNote) (le32 p) (fun t =>
            t.rails[r] = { s.rails[r] with fsw := clampNat 1000000 4000000 (fieldAt q.params 4 4), period := p } ∧
            (∀ k : Fin 48, k ≠ r → t.rails[k] = s.rails[k]) ∧ t.cells = s.cells ∧ t.dom = s.dom ∧ t.map = s.map))))

/-- The reference and the timebase: edges start a qualification; a signal lost or out of range, also one that never was in range, a
measurement that fails, or in LOCKED a phase error above
100 ns ends it and takes a locked timebase to SLIDE with LOCK_LOST, and where edges are present it begins anew; a qualified reference is
pulled in, LOCKED makes U the reference's, whole seconds are learned, and a slide ends in HOLDOVER or FREE (R174-R181, R199). A measurement that passes
holds OFFSET_NOW as it is and takes the reference's offset. How far OFFSET_NOW has come is free, log entry 25; the phase error is an
operand, entry 129. -/
def Obligations.TimebaseFollowsTheReference : Prop :=
  (∀ s : State, (s.clk.ref = .absent → s.clk.xoBad = false → s.loopStopped = false → ∃ t, exec .syncInPresent s = .next t ∧
      t.clk = { s.clk with edges := true, ref := .qualifying, qualLeft := s.clk.qualMs, supply := t.clk.supply, bias := t.clk.bias
                           assist := t.clk.assist, refOff := t.clk.refOff } ∧
      -((s.clk.tol : Int) * 1000) ≤ t.clk.refOff ∧ t.clk.refOff ≤ (s.clk.tol : Int) * 1000 ∧
      t = { s with free := t.free, clk := t.clk, router := t.router, seam := t.seam, pwr := t.pwr }) ∧
    (s.clk.ref ≠ .absent ∨ s.clk.xoBad = true ∨ s.loopStopped = true →
      exec .syncInPresent s = .next { s with clk := { s.clk with edges := true } })) ∧
  (∀ s : State, (∃ t, exec .syncRange s = .next t ∧ t.clk.ref = .absent ∧ t.clk.edges = false ∧
      t.land.flags = s.land.flags ||| 0x4000 ∧ t.rails = s.rails ∧ t.dom = s.dom ∧
      (s.clk.ref = .qualified → s.clk.tb = .locked → s.clk.xoBad = false → t.clk.tb = .slide ∧ t.clk.flags = s.clk.flags ||| 0x80))) ∧
  (∀ (hz ps : Nat) (s : State), (s.clk.ref = .absent ∨ s.clk.xoBad = true → exec (.syncMeasurement ⟨hz, ps⟩) s = .next s) ∧
    (s.clk.ref ≠ .absent → s.clk.xoBad = false → s.clk.passes hz = true → s.clk.tb ≠ .locked ∨ ps ≤ 100000 →
      exec (.syncMeasurement ⟨hz, ps⟩) s = .next { s with free := s.free + 1, clk := { s.clk with
        offNow := offsetLive s, offAt := s.hem.ticks, refOff := s.clk.refOffset hz
        qualLeft := if s.clk.ref = .qualifying then s.clk.qualLeft - 1 else s.clk.qualLeft } }) ∧
    (s.clk.ref ≠ .absent → s.clk.xoBad = false → s.clk.passes hz = false ∨ (s.clk.tb = .locked ∧ 100000 < ps) →
      ∃ t, exec (.syncMeasurement ⟨hz, ps⟩) s = .next t ∧
        t.clk.ref = (if s.clk.edges = true ∧ s.loopStopped = false then .qualifying else .absent) ∧
        (s.clk.ref = .qualified → s.clk.tb = .locked → t.clk.tb = .slide ∧ t.clk.flags = s.clk.flags ||| 0x80) ∧
        t.rails = s.rails ∧ t.dom = s.dom ∧ t.land = s.land)) ∧
  (∀ s : State, (s.clk.ref ≠ .qualifying → exec .qualified s = .next s) ∧
    (s.clk.ref = .qualifying → s.clk.mode = 0 → s.clk.xoBad = false → s.clk.tb = .free ∨ s.clk.tb = .holdover ∨ s.clk.tb = .slide →
      ∃ t, exec .qualified s = .next t ∧ t.clk.ref = .qualified ∧ t.clk.tb = .pullIn ∧ t.clk.qualLeft = 0 ∧ t.clk.hoTime = 0 ∧
        t.rails = s.rails)) ∧
  (∀ s : State, (s.clk.tb ≠ .pullIn → exec .locked s = .next s) ∧
    (s.clk.tb = .pullIn → ∃ t, exec .locked s = .next t ∧ t.clk.tb = .locked ∧ t.clk.u = s.clk.uRef ∧ t.clk.means = [] ∧
      t.clk.hoTime = 0 ∧ t.clk.offLearned = s.clk.offLearned ∧ t.rails = s.rails ∧ t.dom = s.dom)) ∧
  (∀ s : State, (s.clk.tb ≠ .slide → exec .slideDone s = .next s) ∧
    (s.clk.tb = .slide → ∃ t, exec .slideDone s = .next t ∧ t.clk.tb = (if s.clk.slideLearned = true then .holdover else .free) ∧
      (s.clk.slideLearned = true → t.clk.offNow = s.clk.target) ∧ (s.clk.slideLearned = false → t.clk.offNow = 0) ∧ t.rails = s.rails)) ∧
  (∀ (mean : Int) (s : State), (s.clk.tb ≠ .locked → exec (.lockedSecond mean) s = .next s) ∧
    (s.clk.tb = .locked → s.clk.xoBad = false → s.clk.secBad = false → ∃ t, exec (.lockedSecond mean) s = .next t ∧
      t = { s with clk := t.clk } ∧ t.clk.offValid = true ∧ t.clk.offPreset = false ∧ t.clk.means = (mean :: s.clk.means).take 64 ∧
      (s.clk.means = [] → t.clk.offLearned = mean ∧ t.clk.uLrn = 100) ∧ (63 ≤ s.clk.means.length → t.clk.uLrn = 10))) ∧
  (∀ s : State, ∃ t, exec .uUpdate s = .next t ∧
    t.clk.hoTime = (if s.clk.hoRun = true ∧ s.clk.tb ≠ .pullIn ∧ s.clk.tb ≠ .locked then min (s.clk.hoTime + 1) (2 ^ 32 - 1) else 0) ∧
    t.clk.tb = s.clk.tb ∧ (s.clk.tb = .free → t.clk.u = 2000) ∧ (s.clk.tb = .locked → t.clk.u = s.clk.uRef) ∧
    (s.clk.tb = .coast → t.clk.u = 50000) ∧ t = { s with free := t.free, clk := t.clk, router := t.router, seam := t.seam, pwr := t.pwr })

/-- The manager's clock: a failed XO coasts the timebase unless LOCKED and asks for the coast oscillator, a recovered
one ends it; a level is reached through its supply, a lower one at once, while the manager runs to ask for it; a
multiplexer that follows takes the level asked for with its voltage; a supply that misses its target keeps the level;
and the SYNC_OUT settings that wait take effect at the end of a cycle (R184, R191-R195, R199). -/
def Obligations.ManagerClockFollowsSupplyAndXo : Prop :=
  (∀ s : State, s.clk.xoBad = false → ∃ t, exec .xoFail s = .next t ∧ t.clk.xoBad = true ∧ t.clk.flags = s.clk.flags ||| 0x10 ∧
    t.clk.switching = some .coast ∧ t.clk.tb = (if s.clk.tb = .locked then .locked else .coast) ∧ t.clk.ref ≠ .qualifying ∧
    t.rails = s.rails ∧ t.dom = s.dom ∧ t.proto = s.proto) ∧
  (∀ s : State, (s.clk.xoBad = false → exec .xoRecovered s = .next s) ∧
    (s.clk.xoBad = true → ∃ t, exec .xoRecovered s = .next t ∧ t.clk.xoBad = false ∧ t.clk.tb ≠ .coast ∧ t.rails = s.rails ∧
      t.dom = s.dom ∧ (s.clk.tb = .locked → t.clk.tb = .locked))) ∧
  (∀ (l : MgrLevel) (coast : Bool) (s : State), s.clk.switching = some l →
    (decide (l = .coast) = coast → ∃ t, exec (.clockSwitch coast) s = .next t ∧ t = { s with clk := t.clk } ∧ t.clk.level = l ∧
      t.clk.switching = none ∧ t.clk.changing = false ∧ t.clk.supply = (if l = .l0 then 900 else if l = .l1 then 800 else 720)) ∧
    (decide (l = .coast) ≠ coast → exec (.clockSwitch coast) s = .next s)) ∧
  (∀ (coast : Bool) (s : State), s.clk.switching = none → exec (.clockSwitch coast) s = .next s) ∧
  (∀ s : State, ∃ t, exec .clkswForced s = .next t ∧ t.clk.flags = s.clk.flags ||| 0x20 ∧
    t = { s with clk := t.clk, router := t.router, seam := t.seam, pwr := t.pwr }) ∧
  (∀ (l : Fin 3) (s : State), s.proto.running = false ∨ s.off = true → exec (.levelRequest l) s = .next s) ∧
  (∀ s : State, s.pwr.st = .run → s.pwr.entering = false → s.proto.running = true → s.off = false → s.clk.xoBad = false →
    (s.clk.level = .l0 → ∃ t, exec (.levelRequest 2) s = .next t ∧ t = { s with clk := t.clk } ∧ t.clk.levelReq = .l2 ∧
      t.clk.switching = some .l2 ∧ t.clk.level = .l0 ∧ t.clk.supply = 900) ∧
    (s.clk.level = .l2 → ∃ t, exec (.levelRequest 0) s = .next t ∧ t = { s with clk := t.clk } ∧ t.clk.levelReq = .l0 ∧
      t.clk.changing = true ∧ t.clk.supply = 900 ∧ t.clk.level = .l2 ∧ t.clk.switching = none) ∧
    (s.clk.level = .l1 → ∃ t, exec (.levelRequest 1) s = .next t ∧ t = { s with clk := t.clk } ∧ t.clk.levelReq = .l1 ∧
      t.clk.changing = false ∧ t.clk.supply = 800 ∧ t.clk.level = .l1)) ∧
  (∀ s : State, (s.clk.changing = false → exec .vfSwitch s = .next s ∧ exec .vfFail s = .next s) ∧
    (s.clk.changing = true →
      exec .vfSwitch s = .next { s with clk := { s.clk with changing := false, switching := some (levelGoal s) } } ∧
      ∃ t, exec .vfFail s = .next t ∧ t.clk.changing = false ∧ t.clk.flags = s.clk.flags ||| 0x40 ∧ t.clk.level = s.clk.level ∧
        t = { s with clk := t.clk, router := t.router, seam := t.seam, pwr := t.pwr })) ∧
  (∀ (m r d : Nat) (s : State), s.clk.soNext = some (m, r, d) → ∃ t, exec .syncOutCycleEnd s = .next t ∧
    t = { s with free := s.free + 1, clk := { s.clk with soMode := m, soRail := r, soDiv := d, soNext := none, soAt := t.clk.soAt } } ∧
    (s.clk.soMode = 0 → t.clk.soAt % d = 0) ∧ (m = 0 → s.off = false → t.syncOut = none)) ∧
  (∀ s : State, s.clk.soNext = none → exec .syncOutCycleEnd s = .next s)

/-! ## Protection and sparing (chapter 07) -/

/-- LIMITS_SET writes a stopped rail's limits, and sends its peak limit to every member; of a running rail it sends the other limits to the
leader, which takes them from there. Its reply waits while a cell has a word to latch, and the last word latched draws DONE. WINDOW_SET
writes a rail's window, margins above 1,000 mV acting as that (R200, R203). -/
def Obligations.LimitsAndWindowsAreWritten : Prop :=
  (∀ (q : Req) (s : State) (r : Fin 48), byteAt q.params 0 = r.val →
    (Ready 0x0601 q s → q.params.length = 12 →
      (s.rails[r].st = .off ∨ s.rails[r].st = .latchedOff →
        (wordsOut s r.val = false → (∀ c : Fin 256, (s.memberSet r.val).getLsbD c.val = true → s.cells[c].st = .retired) →
          Completes (.limitsSet q) 0x0601 q s .done [] (fun t => t = { arrived q s with rails := t.rails, bus := t.bus } ∧
            OneRail r { arrived q s with bus := t.bus } t { s.rails[r] with prot := { s.rails[r].prot with
              pkLim := byteAt q.params 1, ramp := byteAt q.params 2, ilim := some (fieldAt q.params 4 4), ilimNext := none
              negIlim := some (fieldAt q.params 8 2), klim := fieldAt q.params 10 2, sinkNext := none } })) ∧
        ((∃ c : Fin 256, (s.memberSet r.val).getLsbD c.val = true ∧ s.cells[c].st ≠ .retired) →
          Begins (.limitsSet q) 0x0601 q s (.words r.val) (fun t =>
            OneRail r { arrived q s with bus := t.bus } t { s.rails[r] with prot := { s.rails[r].prot with
              pkLim := byteAt q.params 1, ramp := byteAt q.params 2, ilim := some (fieldAt q.params 4 4), ilimNext := none
              negIlim := some (fieldAt q.params 8 2), klim := fieldAt q.params 10 2, sinkNext := none } } ∧
            configCast s r.val 0x35 (BitVec.ofNat 32 (byteAt q.params 1 + byteAt q.params 2 * 256)) ∈ t.bus))) ∧
      (s.rails[r].st ≠ .off → s.rails[r].st ≠ .latchedOff → Begins (.limitsSet q) 0x0601 q s (.words r.val) (fun t =>
        OneRail r { arrived q s with bus := t.bus } t { s.rails[r] with prot := { s.rails[r].prot with
          pkLim := byteAt q.params 1, ramp := byteAt q.params 2 } } ∧
        configTo ilimWord s.rails[r].leader (BitVec.ofNat 32 (fieldAt q.params 4 4)) ∈ t.bus ∧
        configTo sinkWord s.rails[r].leader (BitVec.ofNat 32 (fieldAt q.params 8 2 + fieldAt q.params 10 2 * 65536)) ∈ t.bus ∧
        ((∃ c : Fin 256, (s.memberSet r.val).getLsbD c.val = true ∧ s.cells[c].st ≠ .retired) →
          configCast s r.val 0x35 (BitVec.ofNat 32 (byteAt q.params 1 + byteAt q.params 2 * 256)) ∈ t.bus)))) ∧
    (Ready 0x0602 q s → q.params.length = 10 → Completes (.windowSet q) 0x0602 q s .done [] (fun t =>
      OneRail r (arrived q s) t { s.rails[r] with prot := { s.rails[r].prot with
        autoClr := natBit (byteAt q.params 1) 0, ovMv := min 1000 (fieldAt q.params 2 2), uvMv := min 1000 (fieldAt q.params 4 2)
        ovFilt := byteAt q.params 6, uvFilt := fieldAt q.params 8 2 } }))) ∧
  (∀ (c : Fin 256) (n : Nat) (w : BitVec 32) (p : Packet) (r : Nat) (m : Msg) (rest : List Msg) (s : State),
    s.cells[c].st ≠ .retired → s.proto.exec = some (p, .words r) →
    takeFrom (fun m => m.isConfig n && m.saying w) c.val s.bus = some (m, rest) →
    (wordsOut { s with bus := rest } r = false → ∃ t, exec (.configWr c n w .clean) s = .next (serveFailed (answer p .done [] t)) ∧
      t.bus = rest ∧ t.proto = { s.proto with exec := none } ∧ ∀ d : Fin 256, d ≠ c → t.cells[d] = s.cells[d]) ∧
    (wordsOut { s with bus := rest } r = true → ∃ t, exec (.configWr c n w .clean) s = .next t ∧ t.bus = rest ∧ t.proto = s.proto))

/-- CELL_RETIRE takes an OFF cell that no VALID entry names to RETIRED and into the retired set; it is refused for the last healthy member of a
running rail and while a probe runs, and does nothing to a RETIRED cell. CELL_RESTORE takes it back to OFF without a role, or while VIN lies above 16.5 V to
ISOLATED; of another cell it draws a note. Of either only the entries that name the cell are checked anew (R21, R84, R96, R213). -/
def Obligations.CellRetireAndRestore : Prop :=
  ∀ (q : Req) (s : State) (c : Fin 256), q.params = [byte c.val] →
    (Ready 0x0603 q s →
      (s.map.probe = .running →
        Completes (.cellRetire q) 0x0603 q s .refusedState [2, byte (mapCode s), 0xFF, 0] (fun t => t = arrived q s)) ∧
      (s.map.probe ≠ .running → s.cells[c].st = .retired → Completes (.cellRetire q) 0x0603 q s .done [] (fun t => t = arrived q s)) ∧
      (s.map.probe ≠ .running → s.cells[c].st = .off → (∀ k : Nat, k < 48 → (s.memberSet k).getLsbD c.val = false) →
        Completes (.cellRetire q) 0x0603 q s .done [] (fun t =>
          t = { arrived q s with cells := t.cells, map := t.map, router := t.router, seam := t.seam, pwr := t.pwr, clk := t.clk } ∧
          t.cells[c].st = .retired ∧ t.map.retiredSet.getLsbD c.val = true ∧ t.map.active = s.map.active ∧
          (∀ k : Fin 48, s.map.active[k].members.getLsbD c.val = false → t.map.activeChk[k] = s.map.activeChk[k]) ∧
          (∀ k : Fin 48, s.map.staged[k].members.getLsbD c.val = false → t.map.stagedChk[k] = s.map.stagedChk[k]) ∧
          ∀ d : Fin 256, d ≠ c → t.cells[d] = s.cells[d])) ∧
      (∀ r, s.map.probe ≠ .running → s.cells[c].st ≠ .retired → lastHealthy s c.val = some r →
        Completes (.cellRetire q) 0x0603 q s .refusedState [1, byte (s.rail r).st.code, byte r, 0] (fun t => t = arrived q s))) ∧
    (Ready 0x0604 q s → s.map.probe ≠ .running →
      (s.cells[c].st = .retired → Completes (.cellRestore q) 0x0604 q s .done [] (fun t =>
        t = { arrived q s with cells := t.cells, map := t.map, router := t.router, seam := t.seam, pwr := t.pwr, clk := t.clk } ∧
        (s.land.vinOver = false → t.cells[c] = { s.cells[c] with st := .off, role := .none }) ∧
        (s.land.vinOver = true → t.cells[c].st = .isolated ∧ t.cells[c].isoCause = 7) ∧ t.map.retiredSet.getLsbD c.val = false ∧
        (∀ k : Fin 48, s.map.staged[k].members.getLsbD c.val = false → t.map.stagedChk[k] = s.map.stagedChk[k]) ∧
        t.map.active = s.map.active ∧ ∀ d : Fin 256, d ≠ c → t.cells[d] = s.cells[d])) ∧
      (s.cells[c].st ≠ .retired → Completes (.cellRestore q) 0x0604 q s .doneWithNote [] (fun t => t = arrived q s)))

/-- FAULT_CLEAR clears of the field its scope names the W1C bits its mask names, and answers 0xFF: the
land status word, CLK_FLAGS, SEQ_FLAGS, THERM_FLAGS and FW_FLAGS among them, with nothing else
changed; a reserved scope draws a note; a RETIRED cell leaves the behaviour undefined. With
RESTORE of an ISOLATED cell it waits for the self-test, which CELL_SELF_TEST_DONE ends: the cell
returns to OFF when it passed, or where VIN lies above 16.5 V is ISOLATED for that (R21, R66, R212, R220, R391, R392). The reply to a reserved scope is the
model's choice, log entry 22. -/
def Obligations.FaultClearAndRestore : Prop :=
  (∀ (q : Req) (s : State), Ready 0x0605 q s → q.params.length = 8 →
    (byteAt q.params 0 = 6 → Completes (.faultClear q) 0x0605 q s .done [0xFF] (fun t => t = { arrived q s with
      land := { s.land with flags := s.land.flags &&& ~~~ (BitVec.ofNat 32 (fieldAt q.params 4 4) &&& 0xC7C000) } })) ∧
    (byteAt q.params 0 = 5 → Completes (.faultClear q) 0x0605 q s .done [0xFF] (fun t => t = { arrived q s with
      clk := { (arrived q s).clk with flags := s.clk.flags &&& ~~~ (BitVec.ofNat 16 (fieldAt q.params 4 4) &&& 0xF0) } })) ∧
    (byteAt q.params 0 = 7 → Completes (.faultClear q) 0x0605 q s .done [0xFF] (fun t => t = { arrived q s with
      dom := { s.dom with flags := s.dom.flags &&& ~~~ (BitVec.ofNat 16 (fieldAt q.params 4 4) &&& 0x10FF) } })) ∧
    (byteAt q.params 0 = 15 → Completes (.faultClear q) 0x0605 q s .done [0xFF] (fun t => t = { arrived q s with
      fw := { s.fw with flags := s.fw.flags &&& ~~~ (BitVec.ofNat 16 (fieldAt q.params 4 4) &&& 0xF) } })) ∧
    (17 < byteAt q.params 0 → Completes (.faultClear q) 0x0605 q s .doneWithNote [0xFF] (fun t => t = arrived q s)) ∧
    (∀ c : Fin 256, byteAt q.params 0 = 0 → byteAt q.params 1 = c.val →
      (s.cells[c].st = .retired → exec (.faultClear q) s = .fault .undefinedRetiredCell) ∧
      (s.cells[c].st ≠ .retired → natBit (fieldAt q.params 4 4) 16 = false →
        Completes (.faultClear q) 0x0605 q s .done [0xFF] (fun t => t.cells[c].st = s.cells[c].st ∧
          t.cells[c].flags = s.cells[c].flags &&& ~~~ (BitVec.ofNat 16 (fieldAt q.params 4 4) &&& 0x3FF) ∧
          ∀ d : Fin 256, d ≠ c → t.cells[d] = s.cells[d])) ∧
      (natBit (fieldAt q.params 4 4) 16 = true → s.cells[c].st = .isolated →
        (s.cells[c].isoCause = 1 ∨ s.cells[c].isoCause = 2 →
          Completes (.faultClear q) 0x0605 q s .doneWithNote [1] (fun t => t.cells[c].st = .isolated)) ∧
        (s.cells[c].isoCause ≠ 1 → s.cells[c].isoCause ≠ 2 →
          Begins (.faultClear q) 0x0605 q s (.restore c) (fun t => t.cells[c].st = .isolated ∧ t.proto = s.proto))))) ∧
  (∀ (c : Fin 256) (p : Packet) (s : State), s.proto.exec = some (p, .restore c) → s.cells[c].st = .isolated →
    (∃ t, exec (.cellSelfTestDone true) s = .next (serveFailed (answer p .done [0] t)) ∧
      (s.land.vinOver = false → t.cells[c] = { s.cells[c] with st := .off, role := .none }) ∧
      (s.land.vinOver = true → t.cells[c].st = .isolated ∧ t.cells[c].isoCause = 7) ∧
      t.proto = { s.proto with exec := none } ∧ t.rails = s.rails ∧ ∀ d : Fin 256, d ≠ c → t.cells[d] = s.cells[d]) ∧
    exec (.cellSelfTestDone false) s =
      .next (serveFailed (answer p .doneWithNote [2] { s with proto := { s.proto with exec := none } }))) ∧
  (∀ (passed : Bool) (s : State), s.proto.exec = none → exec (.cellSelfTestDone passed) s = .next s)

/-- Trips. An overvoltage trip is latched whatever the rail does, and on a running rail turns every rail not OFF to
LATCHED_OFF, latches the domain and drives FAULT_N low, a rail that has turned OFF in the same control tick among them;
an undervoltage trip, judged in REGULATING and SLEWING only, does so outside FALLING, also where the rail has turned OFF
from there in the same control tick; without power neither does anything. A threshold read back more than 3 codes off
sets its flag, and is not read while a host run occupies the system converter; a sense fault puts every member on its
own lands; a sink limit ends after 8 ticks at or above zero (R31, R101, R202, R204, R205, R206, R208, R238, R271, R467).
-/
def Obligations.TripsAndComparatorFaults : Prop :=
  ∀ (r : Fin 48) (s : State),
    (s.off = true → exec (.ovTrip r) s = .next s ∧ exec (.uvTrip r) s = .next s) ∧
    (s.off = false → s.rails[r].st = .off ∨ s.rails[r].st = .latchedOff → s.rails[r].offFrom = none → ∃ t, exec (.ovTrip r) s = .next t ∧
      t.rails[r].prot.ovTrip = true ∧ t.rails[r].st = s.rails[r].st ∧ t.cells = s.cells ∧ t.dom.st = s.dom.st ∧
      ∀ k : Fin 48, k ≠ r → t.rails[k] = s.rails[k]) ∧
    (s.off = false → (s.rails[r].st ≠ .off ∧ s.rails[r].st ≠ .latchedOff) ∨ s.rails[r].offFrom.any RailSt.runs = true →
      ∃ t, exec (.ovTrip r) s = .next t ∧
      t.rails[r].prot.ovTrip = true ∧ t.dom.st = .latched ∧ t.dom.fnDrive = true ∧ t.dom.fnLow = true ∧ t.armQ = [] ∧
      ∀ k : Fin 48, t.rails[k].st = if s.rails[k].st = .off ∧ s.rails[k].offFrom = none then .off else .latchedOff) ∧
    (s.rails[r].st ≠ .regulating → s.rails[r].st ≠ .slewing → s.rails[r].offFrom.any RailSt.regulates = false →
      exec (.uvTrip r) s = .next s) ∧
    (s.off = false → (s.rails[r].st = .regulating ∨ s.rails[r].st = .slewing) ∨ s.rails[r].offFrom.any RailSt.regulates = true → s.dom.st ≠ .falling →
      ∃ t, exec (.uvTrip r) s = .next t ∧
      t.rails[r].prot.uvTrip = true ∧ t.dom.st = .latched ∧ t.dom.fnDrive = true ∧ t.rails[r].st = .latchedOff) ∧
    (∀ ov uv : Nat,
      (s.map.active[r].valid = false ∨ s.proto.running = false ∨ s.tlm.busy[Fin.ofNat 4 s.tlm.sysConv] ≠ none → exec (.thresholdReadback r ov uv) s = .next s) ∧
      (s.map.active[r].valid = true → s.proto.running = true → s.tlm.busy[Fin.ofNat 4 s.tlm.sysConv] = none →
        ∃ t, exec (.thresholdReadback r ov uv) s = .next t ∧
        (t.rails[r].prot.thrFailOv = true ↔ s.rails[r].prot.thrFailOv = true ∨ ov + 3 < s.rails[r].ovInForce ∨
          s.rails[r].ovInForce + 3 < ov) ∧
        (∀ k : Fin 48, k ≠ r → t.rails[k] = s.rails[k]) ∧ t.cells = s.cells ∧ t.dom = s.dom ∧ t.map = s.map)) ∧
    (s.rails[r].st ≠ .regulating → s.rails[r].st ≠ .slewing → exec (.senseFault r) s = .next s) ∧
    (s.rails[r].st = .regulating ∨ s.rails[r].st = .slewing → ∃ t, exec (.senseFault r) s = .next t ∧
      t.rails[r].prot.senseFault = true ∧ t.rails[r].st = s.rails[r].st ∧ t.dom = s.dom ∧ t.map = s.map ∧
      (∀ k : Fin 48, k ≠ r → t.rails[k] = s.rails[k]) ∧
      ∀ c : Fin 256, t.cells[c] = if (s.memberSet r.val).getLsbD c.val = true ∧ s.cells[c].st ≠ .retired then
        { s.cells[c] with senseLocal := true, flags := s.cells[c].flags ||| 0x4 } else s.cells[c]) ∧
    (s.rails[r].prot.negLimiting = false ∨ s.rails[r].prot.negTicks < 8 → exec (.negLimitRelease r) s = .next s) ∧
    (s.rails[r].prot.negLimiting = true → 8 ≤ s.rails[r].prot.negTicks → ∃ t, exec (.negLimitRelease r) s = .next t ∧
      t.rails[r].prot.negLimiting = false ∧ t.rails[r].st = s.rails[r].st ∧ t.dom = s.dom ∧ t.map = s.map ∧
      ∀ k : Fin 48, k ≠ r → t.rails[k] = s.rails[k])

/-! ## Sequencing (chapter 08) -/

/-- Commands of the sequencing domain. A slot record is written without the rails that another USED
slot names, which the result lists; going up enters RISING, or UP where no slot is USED, and
starts the first slot or waits for the cascade; going down enters FALLING at the highest slot that
has run; a latch is released to DOWN; the configuration is written; and each is refused in a state
of the domain in which it may not be given, and a rise while a probe runs (R84, R101, R228, R230-R232, R242, R255-R258, R261). Which records
count while the domain is DOWN is log entry 38 (the model's reading). -/
def Obligations.DomainCommandsTakeEffect : Prop :=
  ∀ (q : Req) (s : State),
    (∀ k : Fin 16, Ready 0x0701 q s → q.params.length = 28 → byteAt q.params 0 = k.val → s.dom.st = .down ∨ s.dom.st = .latched →
      Completes (.seqSlotSet q) 0x0701 q s (if Nat.land (fieldAt q.params 4 6) (namedElsewhere s k.val) = 0 then .done else .doneWithNote)
        (leBytes 8 (Nat.land (fieldAt q.params 4 6) (namedElsewhere s k.val))) (fun t =>
          t = { arrived q s with dom := { s.dom with slots := t.dom.slots } } ∧ t.dom.slots[k].qual = fieldAt q.params 12 2 ∧
          t.dom.slots[k].timeout = fieldAt q.params 14 2 ∧ t.dom.slots[k].upDelay = fieldAt q.params 16 2 ∧
          t.dom.slots[k].downTimeout = fieldAt q.params 18 2 ∧ t.dom.slots[k].used = natBit (byteAt q.params 20) 0 ∧
          t.dom.slots[k].gate = byteAt q.params 20 / 2 % 8 ∧ t.dom.slots[k].downDelay = fieldAt q.params 22 2 ∧
          (∀ r : Nat, r < 48 → (natBit t.dom.slots[k].rails r = true ↔ natBit (fieldAt q.params 4 6) r = true ∧
            ∀ j : Fin 16, j ≠ k → s.dom.slots[j].used = true → natBit s.dom.slots[j].rails r = false)) ∧
          ∀ j : Fin 16, j ≠ k → t.dom.slots[j] = s.dom.slots[j])) ∧
    (Ready 0x0701 q s → q.params.length = 28 → byteAt q.params 0 < 16 → s.dom.st ≠ .down → s.dom.st ≠ .latched →
      Completes (.seqSlotSet q) 0x0701 q s .refusedState [3, byte s.dom.st.code, 0xFF, 0] (fun t => t = arrived q s)) ∧
    (Ready 0x0702 q s → q.params = [] → s.dom.st = .down → s.dom.upSrc ≠ 1 → s.map.probe ≠ .running → badSlotRail s = none →
      s.seam.agree ≠ .gathering → s.seam.agree ≠ .disagree → s.dom.cycle = false → Completes (.domainUp q) 0x0702 q s .started [] (fun t =>
        t.dom.slotsNow = s.dom.slots ∧ t.dom.slotQual = 0 ∧ t.dom.restartDue = false ∧ t.dom.latchPend = false ∧ t.cells = s.cells ∧
        (∀ r : Fin 48, t.rails[r] = { s.rails[r] with chatter := 0 }) ∧
        (s.undervolt = true → t.dom.st = .down ∧ t.dom.cur = none ∧ t.dom.ph = .idle) ∧
        (s.undervolt = false → (s.dom.role = 2 ∨ s.dom.role = 3 → s.dom.squi = false → t.dom.st = .rising ∧ t.dom.ph = .waitSqui ∧ t.dom.cur = none) ∧
        (s.dom.role ≠ 2 → s.dom.role ≠ 3 → (∀ j : Fin 16, s.dom.slots[j].used = false) →
          t.dom.st = .up ∧ t.dom.ph = .idle ∧ t.dom.cur = none) ∧
        ∀ j : Fin 16, s.dom.role ≠ 2 → s.dom.role ≠ 3 → s.dom.slots[j].used = true →
          (∀ i : Fin 16, i < j → s.dom.slots[i].used = false) → t.dom.st = .rising ∧ t.dom.cur = some j.val ∧
          (s.dom.slots[j].gate = 0 → t.dom.ph = .upDelay)))) ∧
    (Ready 0x0702 q s → q.params = [] → s.map.probe = .running →
      Completes (.domainUp q) 0x0702 q s .refusedState [2, byte (mapCode s), 0xFF, 0] (fun t => t = arrived q s)) ∧
    (Ready 0x0702 q s → q.params = [] → s.map.probe ≠ .running → s.dom.st ≠ .down ∨ s.dom.upSrc = 1 →
      Completes (.domainUp q) 0x0702 q s .refusedState [3, byte s.dom.st.code, 0xFF, 0] (fun t => t = arrived q s)) ∧
    (Ready 0x0703 q s → q.params = [] → s.dom.st = .rising ∨ s.dom.st = .up → s.dom.upSrc ≠ 1 →
      Completes (.domainDown q) 0x0703 q s .started [] (fun t =>
        t.cells = s.cells ∧ t.dom.restartDue = false ∧ t.dom.slots = s.dom.slots ∧ t.dom.slotsNow = s.dom.slotsNow ∧
        (s.dom.role = 1 ∨ s.dom.role = 2 → s.dom.sqdi = false → t.dom.st = .falling ∧ t.dom.ph = .waitSqdi ∧ t.dom.cur = none) ∧
        (s.dom.role ≠ 1 → s.dom.role ≠ 2 → (∀ j : Fin 16, ¬ SlotRan s j) → t.dom.st = .down ∧ t.dom.ph = .idle ∧ t.dom.cur = none) ∧
        ∀ j : Fin 16, s.dom.role ≠ 1 → s.dom.role ≠ 2 → SlotRan s j → (∀ i : Fin 16, j < i → ¬ SlotRan s i) →
          t.dom.st = .falling ∧ t.dom.ph = .downDelay ∧ t.dom.cur = some j.val)) ∧
    (Ready 0x0703 q s → q.params = [] → (s.dom.st ≠ .rising ∧ s.dom.st ≠ .up) ∨ s.dom.upSrc = 1 →
      Completes (.domainDown q) 0x0703 q s .refusedState [3, byte s.dom.st.code, 0xFF, 0] (fun t => t = arrived q s)) ∧
    (Ready 0x0704 q s → q.params = [] → s.dom.st = .down ∨ s.dom.st = .latched → s.dom.fnLow = false → allCellsOff s = true →
      Completes (.latchRelease q) 0x0704 q s .done [0] (fun t => t.dom.st = .down ∧ t.dom.latchPend = false ∧ t.cells = s.cells ∧
        ∀ r : Fin 48, t.rails[r] = if s.rails[r].st = .latchedOff then { s.rails[r] with st := .off, offFrom := some .latchedOff } else s.rails[r])) ∧
    (Ready 0x0704 q s → q.params = [] → (s.dom.st ≠ .down ∧ s.dom.st ≠ .latched) ∨ s.dom.fnLow = true →
      Completes (.latchRelease q) 0x0704 q s .refusedState [3, byte s.dom.st.code, 0xFF, 0] (fun t => t = arrived q s)) ∧
    (Ready 0x0707 q s → q.params.length = 16 → s.dom.st = .down ∨ s.dom.st = .latched →
      Completes (.domainConfig q) 0x0707 q s .done [] (fun t => t = { arrived q s with dom := t.dom } ∧ t.dom = { s.dom with
        role := if byteAt q.params 0 ≤ 3 then byteAt q.params 0 else 0
        upSrc := if byteAt q.params 1 % 4 = 3 then 0 else byteAt q.params 1 % 4
        enPin := Fin.ofNat 4 (byteAt q.params 1 / 4), vinRestart := natBit (byteAt q.params 1) 7
        casTimeout := max 1 (fieldAt q.params 2 2), fnPulse := clampNat 10 10000 (fieldAt q.params 4 2), pgMap := t.dom.pgMap } ∧
        ∀ n : Fin 8, t.dom.pgMap[n] = byteAt q.params (8 + n.val)))

/-- Slots. A slot that has waited its delay starts its rails; a slot whose rails all hold power-good
qualifies, its rails are supervised and the next slot or UP follows; a slot in time-out fails the
rise; a slot going down stops its rails, turns off those that do not stop in time and hands on
when all are off (R228, R232-R235, R242). That the rails qualify once started is log entry 33 (the
model's reading). -/
def Obligations.SlotsProgress : Prop :=
  ∀ (k : Fin 16) (s : State), s.dom.cur = some k.val → s.proto.running = true →
    (s.dom.ph = .upDelay → s.map.applying = true → exec .upDelayEnd s = .next { s with dom := { s.dom with ph := .waitApply } }) ∧
    (s.dom.ph = .upDelay → s.map.applying = false → (∀ r : Fin 48, natBit s.dom.slotsNow[k].rails r.val = false) →
      exec .upDelayEnd s = .next { s with dom := { s.dom with ph := .qualify } }) ∧
    (s.dom.ph = .upDelay → s.map.applying = false → s.undervolt = false → (∀ r : Fin 48, natBit s.dom.slotsNow[k].rails r.val = true →
        s.rails[r].st = .off ∧ startRefused s r.val = none ∧ startLeader s r.val ≠ none) →
      ∃ t, exec .upDelayEnd s = .next t ∧ t.dom.ph = .qualify ∧ t.dom.st = s.dom.st ∧ t.dom.cur = s.dom.cur ∧
      ∀ r : Fin 48, (natBit s.dom.slotsNow[k].rails r.val = true → t.rails[r].st = .starting ∧ t.rails[r].qualifying = true ∧
          t.rails[r].supervised = false ∧ t.rails[r].loop.ref = s.rails[r].sp.start * 65536) ∧
        (natBit s.dom.slotsNow[k].rails r.val = false → t.rails[r] = s.rails[r])) ∧
    (s.dom.ph = .qualify → (∀ r : Fin 48, natBit s.dom.slotsNow[k].rails r.val = true → s.rails[r].pgRaw = true) →
      ∃ t, exec .slotQualified s = .next t ∧ t.cells = s.cells ∧ t.map = s.map ∧ t.dom.slotQual.getLsbD k.val = true ∧
      (∀ r : Fin 48, t.rails[r] = if natBit s.dom.slotsNow[k].rails r.val = true then
        { s.rails[r] with qualifying := false, supervised := true, fallSeen := false } else s.rails[r]) ∧
      ((∀ j : Fin 16, k < j → s.dom.slotsNow[j].used = false) → t.dom.st = .up ∧ t.dom.cur = none ∧ t.dom.ph = .idle) ∧
      ∀ j : Fin 16, k < j → s.dom.slotsNow[j].used = true → (∀ i : Fin 16, k < i → i < j → s.dom.slotsNow[i].used = false) →
        t.dom.st = s.dom.st ∧ t.dom.cur = some j.val) ∧
    (s.dom.ph = .qualify → (∃ r : Fin 48, natBit s.dom.slotsNow[k].rails r.val = true ∧ s.rails[r].pgRaw = false) →
      exec .slotQualified s = .next s) ∧
    (s.dom.st = .rising → s.dom.role ≠ 1 → s.dom.role ≠ 2 → ∃ t, exec .slotTimeout s = .next t ∧
      t.dom.flags.getLsbD 0 = true ∧ (t.dom.st = .falling ∧ t.dom.latchPend = true ∨ t.dom.st = .latched) ∧ t.cells = s.cells) ∧
    (s.dom.st ≠ .rising → exec .slotTimeout s = .next s) ∧
    (s.dom.ph = .downDelay → ∃ t, exec .downDelayEnd s = .next t ∧ t.dom.ph = .downWait ∧ t.dom.st = s.dom.st ∧ t.dom.cur = s.dom.cur ∧
      ∀ r : Fin 48, t.rails[r].st =
        if natBit s.dom.slotsNow[k].rails r.val = true ∧ s.rails[r].st.runs = true then
          (if s.rails[r].st = .starting ∧ s.rails[r].released = false then .off else .stopping)
        else s.rails[r].st) ∧
    (s.dom.ph = .downWait → (∀ r : Fin 48, natBit s.dom.slotsNow[k].rails r.val = true → s.rails[r].st.runs = false) →
      ∃ t, exec .slotDownDone s = .next t ∧ t.cells = s.cells ∧ t.rails = s.rails ∧
      ((∀ j : Fin 16, j < k → ¬ SlotRan s j) → s.dom.latchPend = false → t.dom.st = .down ∧ t.dom.cur = none ∧ t.dom.ph = .idle) ∧
      ((∀ j : Fin 16, j < k → ¬ SlotRan s j) → s.dom.latchPend = true → t.dom.st = .latched ∧ t.dom.cur = none ∧ t.dom.ph = .idle) ∧
      ∀ j : Fin 16, j < k → SlotRan s j → (∀ i : Fin 16, j < i → i < k → ¬ SlotRan s i) →
        t.dom.st = s.dom.st ∧ t.dom.cur = some j.val ∧ t.dom.ph = .downDelay) ∧
    (s.dom.ph = .downWait → (∃ r : Fin 48, natBit s.dom.slotsNow[k].rails r.val = true ∧ s.rails[r].st.runs = true) →
      exec .slotDownDone s = .next s) ∧
    (∀ r : Fin 48, s.dom.ph = .downWait → natBit s.dom.slotsNow[k].rails r.val = true → s.rails[r].st.runs = true →
      ∃ t, exec (.downTimeout r) s = .next t ∧ t.dom.flags.getLsbD 1 = true ∧ t.dom.st = s.dom.st ∧
        (t.rails[r].st = .off ∨ t.rails[r].st = .stopping) ∧ ∀ j : Fin 48, j ≠ r → t.rails[j] = s.rails[j])

/-- Pins and lines of the domain. An edge of the bound enable pin starts the rise or the fall; SQUI and SQDI release a run that waits for
them, and their absence fails the rise or is passed over; FAULT_N accepted low shuts the module off unless it drives the line itself, or has
no power, and the line is released with every cell off; power-good falls are counted while a rail is qualifying or supervised (R226, R230, R232-R235,
R237-R242, R244). -/
def Obligations.DomainPinsAndFaultLine : Prop :=
  ∀ s : State,
    (∀ (pin : Fin 4) (level : Bool),
      (s.dom.en.getLsbD pin.val = level → exec (.enPinEdge pin level) s = .next s) ∧
      (s.dom.en.getLsbD pin.val ≠ level → s.dom.ph = .idle → s.dom.enPin ≠ pin ∨ (s.dom.upSrc ≠ 1 ∧ s.dom.upSrc ≠ 2) ∨
          s.off = true ∨ s.pwr.st = .hibernate → ∃ t, exec (.enPinEdge pin level) s = .next t ∧ t = { s with dom := { s.dom with en := t.dom.en } } ∧
          t.dom.en.getLsbD pin.val = level ∧ ∀ k : Fin 4, k ≠ pin → t.dom.en.getLsbD k.val = s.dom.en.getLsbD k.val)) ∧
    (s.dom.upSrc = 1 ∨ s.dom.upSrc = 2 → s.dom.role ≠ 1 → s.dom.role ≠ 2 → s.dom.role ≠ 3 → s.off = false →
      s.pwr.st ≠ .hibernate → s.proto.running = true →
      (s.dom.en.getLsbD s.dom.enPin.val = false → s.dom.st = .down → s.pwr.st ≠ .safeHold → s.seam.agree = .alone →
        s.dom.cycle = false → s.undervolt = false → s.map.probe ≠ .running → badSlotRail s = none → s.proto.cfg ≠ .applying → ∃ t,
          exec (.enPinEdge s.dom.enPin true) s = .next t ∧
          t.dom.en.getLsbD s.dom.enPin.val = true ∧ t.cells = s.cells ∧
          ((∀ j : Fin 16, s.dom.slots[j].used = false) → t.dom.st = .up) ∧
          ∀ j : Fin 16, s.dom.slots[j].used = true → (∀ i : Fin 16, i < j → s.dom.slots[i].used = false) →
            t.dom.st = .rising ∧ t.dom.cur = some j.val) ∧
      (s.dom.en.getLsbD s.dom.enPin.val = true → s.dom.st = .rising ∨ s.dom.st = .up → ∃ t, exec (.enPinEdge s.dom.enPin false) s = .next t ∧
        t.dom.en.getLsbD s.dom.enPin.val = false ∧ t.cells = s.cells ∧ ((∀ j : Fin 16, ¬ SlotRan s j) → t.dom.st = .down) ∧
        ∀ j : Fin 16, SlotRan s j → (∀ i : Fin 16, j < i → ¬ SlotRan s i) → t.dom.st = .falling ∧ t.dom.cur = some j.val)) ∧
    (s.dom.ph = .idle → exec .squiHigh s = .next { s with dom := { s.dom with squi := true } } ∧
      exec .sqdiHigh s = .next { s with dom := { s.dom with sqdi := true } } ∧ exec .casTimeout s = .next s) ∧
    (s.proto.running = true → s.dom.ph = .waitSqui →
      (∀ j : Fin 16, s.dom.slotsNow[j].used = true → (∀ i : Fin 16, i < j → s.dom.slotsNow[i].used = false) →
        ∃ t, exec .squiHigh s = .next t ∧ t = { s with dom := t.dom } ∧ t.dom.squi = true ∧ t.dom.cur = some j.val ∧
          t.dom.st = s.dom.st) ∧
      (s.dom.st = .rising → ∃ t, exec .casTimeout s = .next t ∧ t.dom.flags.getLsbD 3 = true ∧ t.dom.flags.getLsbD 0 = true ∧
        (t.dom.st = .falling ∧ t.dom.latchPend = true ∨ t.dom.st = .latched) ∧ t.cells = s.cells)) ∧
    (s.proto.running = true → s.dom.ph = .waitSqdi → ∀ j : Fin 16, SlotRan s j → (∀ i : Fin 16, j < i → ¬ SlotRan s i) →
      (∃ t, exec .sqdiHigh s = .next t ∧ t = { s with dom := t.dom } ∧ t.dom.sqdi = true ∧ t.dom.cur = some j.val ∧
        t.dom.ph = .downDelay) ∧
      ∃ t, exec .casTimeout s = .next t ∧ t.dom.flags.getLsbD 3 = true ∧ t.dom.cur = some j.val ∧ t.dom.ph = .downDelay ∧
        t.cells = s.cells ∧ t.rails = s.rails) ∧
    (s.dom.role = 1 ∨ s.dom.role = 2 → s.dom.st = .rising ∨ s.dom.st = .up → s.off = false → ∃ t, exec .cascadeDrop s = .next t ∧
      t.dom.sqdi = true ∧ t.dom.flags.getLsbD 2 = true ∧ t.cells = s.cells ∧
      (s.proto.running = false → t.dom.st = .falling ∧ t.dom.latchPend = true ∧ t.dom.ph = .begin) ∧
      (s.proto.running = true → ((∀ j : Fin 16, ¬ SlotRan s j) → t.dom.st = .latched) ∧
        ((∃ j : Fin 16, SlotRan s j) → t.dom.st = .falling ∧ t.dom.latchPend = true))) ∧
    (s.off = true ∨ (s.dom.role ≠ 1 ∧ s.dom.role ≠ 2) ∨ (s.dom.st ≠ .rising ∧ s.dom.st ≠ .up) → exec .cascadeDrop s = .next s) ∧
    (s.off = true → exec .faultNLow s = .next { s with dom := { s.dom with fnLow := true } } ∧ exec .fnStuck s = .next s) ∧
    (s.dom.fnDrive = true → (s.off = false → exec .faultNLow s = .next { s with dom := { s.dom with fnLow := true, fnAt := some s.hem.ticks } }) ∧
      exec .fnStuck s = .next s ∧ (∃ t, exec .fnOpen s = .next t ∧ t.dom.fnLow = false ∧ t.dom.flags = s.dom.flags ||| 0x40 ∧
        t.dom.st = s.dom.st ∧ t.cells = s.cells ∧ t.rails = s.rails) ∧
      (allCellsOff s = true → ∃ low, (s.dom.fnLow = false → low = false) ∧ exec .faultNRelease s = .next { s with
        free := s.free + 1, dom := { s.dom with fnDrive := false, fnLow := low } }) ∧
      (allCellsOff s = false → exec .faultNRelease s = .next s)) ∧
    (s.dom.fnDrive = false → exec .fnOpen s = .next s ∧ exec .faultNRelease s = .next s ∧
      (s.dom.fnLow = false → exec .fnStuck s = .next s) ∧
      (s.dom.fnLow = true → s.off = false → ∃ t, exec .fnStuck s = .next t ∧ t.dom.flags.getLsbD 5 = true ∧ t.dom.st = s.dom.st ∧ t.cells = s.cells ∧
        t.rails = s.rails) ∧
      (s.off = false → ∃ t, exec .faultNLow s = .next t ∧ t.dom.fnLow = true ∧ t.dom.fnAt = some s.hem.ticks ∧ t.dom.st = .latched ∧ t.armQ = [] ∧
        (∀ c : Fin 256, t.cells[c] = if s.cells[c].st = .retired then s.cells[c] else s.cells[c].turnOff) ∧
        ∀ r : Fin 48, t.rails[r].st = if s.rails[r].st = .off ∧ s.rails[r].offFrom = none then .off else .latchedOff)) ∧
    ∀ r : Fin 48, (∃ t, exec (.pgFall r .ov) s = .next t ∧ t.rails[r].prot.ovNow = true ∧ t.rails[r].pgRaw = false ∧
        t.rails[r].st = s.rails[r].st ∧ t.rails[r].chatter =
          (if s.rails[r].pgRaw = true ∧ (s.rails[r].qualifying = true ∨ s.rails[r].supervised = true) then
            satInc 255 s.rails[r].chatter else s.rails[r].chatter) ∧
        t.cells = s.cells ∧ t.dom.st = s.dom.st ∧ ∀ j : Fin 48, j ≠ r → t.rails[j] = s.rails[j]) ∧
      (∀ code, inWindow s r.val (min 4095 code) = false → s.converts = true → ∃ t, exec (.pgFall r (.supervisor code)) s = .next t ∧
        t.rails[r].supIn = false ∧ t.rails[r].pgRaw = false ∧ t.cells = s.cells ∧ ∀ j : Fin 48, j ≠ r → t.rails[j] = s.rails[j]) ∧
      (∀ code, inWindow s r.val (min 4095 code) = true ∨ s.converts = false → exec (.pgFall r (.supervisor code)) s = .next s) ∧
      (∃ t, exec (.pgRawRise r .uv) s = .next t ∧ OneRail r s t { s.rails[r] with
          prot := { s.rails[r].prot with uvNow := false }, pgAt := t.rails[r].pgAt } ∧
        t.rails[r].pgAt = if t.rails[r].pgRaw = true ∧ s.rails[r].pgRaw = false then some s.hem.ticks else s.rails[r].pgAt) ∧
      (slotOf s r.val = none → s.rails[r].pgRaw = true → s.rails[r].supervised = false → exec (.supervisionStart r) s = .next { s with
        rails := upd s.rails r { s.rails[r] with supervised := true, fallSeen := false } }) ∧
      (slotOf s r.val ≠ none ∨ s.rails[r].pgRaw = false ∨ s.rails[r].supervised = true → exec (.supervisionStart r) s = .next s)

/-- The supervisor and the log. An input whose JUDGE_N-th sample in a row lies out of its window reports, faults or does nothing by
its action, a supervised rail's input faults its rail, and it is not judged again before its
return; a scan takes every code, turns the pointer, compares one input and then takes a
configuration written since; a capture buffer goes to the log, whose oldest 128 records leave a
full log; a pressing is read in two halves (R209, R246-R248, R251, R255, R256, R273). The windows
a scan is judged by are log entry 39 and a fault while FALLING is 35 (the model's readings). -/
def Obligations.SupervisorAndPressingLog : Prop :=
  ∀ s : State,
    (∀ (k : Fin 64) (code : Nat),
      (60 ≤ k.val ∨ s.converts = false ∨ s.sup.inputs[k].judged = true ∨ inWindow s k.val (min 4095 code) = true ∨
        s.sup.inputs[k].outCnt + 1 < s.sup.judgeN → exec (.supervisorJudgement k code) s = .next s) ∧
      (s.sup.inputs[k].judged = false → k.val < 60 → inWindow s k.val (min 4095 code) = false →
        s.sup.judgeN ≤ s.sup.inputs[k].outCnt + 1 → s.converts = true → ∃ t, exec (.supervisorJudgement k code) s = .next t ∧
        t.sup.inputs[k] = { s.sup.inputs[k] with code := min 4095 code, judged := true, inCnt := 0, outCnt := 0 } ∧
        (∀ j : Fin 64, j ≠ k → t.sup.inputs[j] = s.sup.inputs[j]) ∧ t.hem = s.hem ∧ t.chg = s.chg ∧ t.therm = s.therm ∧
        (48 ≤ k.val → s.sup.inputs[k].act ≠ 1 → t.rails = s.rails ∧ t.cells = s.cells ∧ t.dom.st = s.dom.st) ∧
        (48 ≤ k.val → s.sup.inputs[k].act = 2 → t = { s with sup := t.sup }) ∧
        (48 ≤ k.val → s.sup.inputs[k].act = 1 → s.dom.st ≠ .falling → t.dom.st = .latched ∧ t.dom.fnDrive = true) ∧
        (∀ r : Fin 48, r.val = k.val → s.rails[r].supervised = true → s.dom.st ≠ .falling → t.dom.st = .latched ∧ t.dom.fnDrive = true) ∧
        ∀ r : Fin 48, r.val = k.val → s.rails[r].supervised = false → s.rails[r].qualifying = false →
          t.rails[r] = { s.rails[r] with supIn := false } ∧ t.cells = s.cells ∧ t.dom = s.dom)) ∧
    (s.converts = false → ∀ (codes : List Nat) (cross : Option (Fin 60 × Int)), exec (.supervisorScanEnd codes cross) s = .next s) ∧
    (∀ (codes : List Nat) (cross : Option (Fin 60 × Int)), codes.length = 64 → s.converts = true → ∃ t, exec (.supervisorScanEnd codes cross) s = .next t ∧
      t.sup.xptr = (s.sup.xptr + 1) % 60 ∧ t.sup.cfgNext = none ∧ t.cells = s.cells ∧ t.dom.st = s.dom.st ∧
      (∀ k : Fin 64, t.sup.inputs[k].code = if k.val < 60 then min 4095 (codes.getD k.val 0) else 0) ∧
      (s.sup.cfgNext = none → t.sup.judgeN = s.sup.judgeN ∧ ∀ k : Fin 64, t.sup.inputs[k].lo = s.sup.inputs[k].lo ∧
        t.sup.inputs[k].hi = s.sup.inputs[k].hi ∧ t.sup.inputs[k].act = s.sup.inputs[k].act) ∧
      (∀ (n lo hi act : Nat) (k : Fin 64), s.sup.cfgNext = some (n, [(k.val, lo, hi, act)]) → t.sup.judgeN = n ∧
        t.sup.inputs[k].lo = lo ∧ t.sup.inputs[k].hi = hi ∧ t.sup.inputs[k].judged = false ∧
        t.sup.inputs[k].act = if k.val < 48 then s.sup.inputs[k].act else act) ∧
      ∀ (k : Fin 60) (reading : Int) (r : Fin 48), cross = some (k, reading) → r.val = k.val → s.proto.running = true →
        k.val = s.sup.xptr → crossFails k.val (min 4095 (codes.getD k.val 0)) (spanOf k.val reading).1 = true → t.rails[r].prot.supXchk = true) ∧
    (s.sup.bufs = [] ∨ s.proto.running = false → exec .pressingWrite s = .next s) ∧
    (∀ p rest, s.sup.bufs = p :: rest → s.proto.running = true → ∃ t, exec .pressingWrite s = .next t ∧
      t = { s with sup := { s.sup with bufs := rest, log := t.sup.log }, router := t.router, seam := t.seam, pwr := t.pwr, clk := t.clk } ∧
      t.sup.log = (if s.sup.log.length < 4096 then s.sup.log else s.sup.log.drop 128) ++ [p]) ∧
    ∀ q : Req,
      (Ready 0x0706 q s → q.params.length = 4 + 8 * byteAt q.params 2 → byteAt q.params 1 < 64 → 1 ≤ byteAt q.params 2 →
        byteAt q.params 2 ≤ 48 → byteAt q.params 1 + byteAt q.params 2 ≤ 64 → s.sup.cfgNext = none →
        Completes (.supervisorConfig q) 0x0706 q s .done [] (fun t => t = { arrived q s with sup := { s.sup with
          cfgNext := some (clampNat 1 8 (byteAt q.params 0), supRecords q.params) } })) ∧
      (Ready 0x0705 q s → q.params.length = 8 → natBit (byteAt q.params 4) 1 = false →
        (pressings s = [] → Completes (.pressingRead q) 0x0705 q s .notPresent [0xFF, 0xFF] (fun t => t = arrived q s)) ∧
        ∀ p o, (pressings s).head? = some o → p ∈ pressings s → p.seq = fieldAt q.params 0 4 → p.seq ≠ 0xFFFFFFFF →
          (∀ x ∈ pressings s, x.seq = p.seq → x = p) →
          Completes (.pressingRead q) 0x0705 q s .done (le32 o.seq ++ le32 (newestSeq s) ++
            (p.bytes.drop (b2n (natBit (byteAt q.params 4) 0) * 256)).take 256) (fun t => t = arrived q s))

/-! ## Telemetry (chapter 09) -/

/-- Telemetry commands. TSEQ_SET writes the record of a sequence that does not run, a timer of at
least 50 units, or the system converter; TSEQ_START sets it running from run 0, a command-
triggered one with its run due; TSEQ_STOP stops it and lets a conversion end; READ_CHANNEL reads
the newest result held, a derived channel, or converts; DROP_COUNTS reads and may clear;
STREAM_CONFIG begins a stream anew (R263-R265, R267, R272, R276, R278-R282, R392). The sources
READ_CHANNEL reports and a reserved SYS_CONV are the model's choices, log entries 45 and 41. -/
def Obligations.TelemetryCommandsTakeEffect : Prop :=
  ∀ (q : Req) (s : State),
    (∀ k : Fin 8, Ready 0x0801 q s → byteAt q.params 0 = k.val → q.params.length = 52 →
      (byteAt q.params 6 = 1 ∨ byteAt q.params 6 = 3 → byteAt q.params 7 ≤ 7) → (byteAt q.params 6 = 2 → byteAt q.params 7 ≤ 47) →
      (s.tlm.seqs[k].running = true → Completes (.tseqSet q) 0x0801 q s .refusedState [5, 1, byte k.val, 0] (fun t => t = arrived q s)) ∧
      (s.tlm.seqs[k].running = false → Completes (.tseqSet q) 0x0801 q s .done [] (fun t =>
        t = { arrived q s with tlm := { s.tlm with seqs := t.tlm.seqs } } ∧ (∀ j : Fin 8, j ≠ k → t.tlm.seqs[j] = s.tlm.seqs[j]) ∧
        t.tlm.seqs[k] = { s.tlm.seqs[k] with
          conv := byteAt q.params 4 % 16, urgent := natBit (byteAt q.params 5) 0, single := natBit (byteAt q.params 5) 1
          kind := byteAt q.params 6, trig := byteAt q.params 7, evt := byteAt q.params 8, q := byteAt q.params 9
          decim := byteAt q.params 10, count := byteAt q.params 11, delay := fieldAt q.params 12 2
          entries := t.tlm.seqs[k].entries, noEvent := false } ∧ t.tlm.seqs[k].entries.length = 16 ∧
        ∀ i : Nat, i < 16 → t.tlm.seqs[k].entries.getD i (0, 0) =
          (fieldAt q.params (20 + 2 * i) 2 % 1024, fieldAt q.params (20 + 2 * i) 2 / 1024 % 8)))) ∧
    (∀ k : Fin 8, Ready 0x0801 q s → byteAt q.params 0 = 0x80 + k.val → q.params.length = 12 →
      Completes (.tseqSet q) 0x0801 q s .done [] (fun t => t = { arrived q s with tlm := { s.tlm with
        timers := upd s.tlm.timers k (max 50 (fieldAt q.params 4 4), fieldAt q.params 8 4 % max 50 (fieldAt q.params 4 4)) } })) ∧
    (Ready 0x0801 q s → byteAt q.params 0 = 0xF0 → q.params.length = 8 → byteAt q.params 4 ≤ 3 →
      Completes (.tseqSet q) 0x0801 q s .done [] (fun t => t = { arrived q s with
        free := s.free + 1, tlm := { s.tlm with sysOld := s.tlm.sysConv, sysConv := byteAt q.params 4 } })) ∧
    (∀ k : Fin 8, q.params = [byte k.val] →
      (Ready 0x0802 q s → s.tlm.seqs[k].running = true →
        Completes (.tseqStart q) 0x0802 q s .refusedState [5, 1, byte k.val, 0] (fun t => t = arrived q s)) ∧
      (Ready 0x0802 q s → s.tlm.seqs[k].running = false → s.tlm.seqs[k].kindN ≠ 0 →
        Completes (.tseqStart q) 0x0802 q s (if s.tlm.seqs[k].single = true then .started else .done) [] (fun t =>
          t = { arrived q s with tlm := { s.tlm with seqs := upd s.tlm.seqs k { s.tlm.seqs[k] with
            running := true, dec := 0, run := 0 } } })) ∧
      (Ready 0x0802 q s → s.tlm.seqs[k].running = false → s.tlm.seqs[k].kindN = 0 → s.tlm.seqs[k].delayed = false →
        s.tlm.seqs[k].waiting = false → s.tlm.seqs[k].converting = false → Completes (.tseqStart q) 0x0802 q s .started [] (fun t =>
          t = { arrived q s with free := s.free + 1, tlm := { s.tlm with seqs := upd s.tlm.seqs k { s.tlm.seqs[k] with
            running := true, dec := 1 % s.tlm.seqs[k].decimN, run := 0, delayed := true
            dueAt := fabricNow (arrived q s) + s.tlm.seqs[k].delay } } })) ∧
      (Ready 0x0802 q s → s.tlm.seqs[k].running = false → s.tlm.seqs[k].kindN = 0 → s.tlm.seqs[k].converting = true →
        Completes (.tseqStart q) 0x0802 q s .started [] (fun t => Elsewhere s t ∧ t.tlm.seqs[k] = { s.tlm.seqs[k] with
          running := false, dec := 1 % s.tlm.seqs[k].decimN, run := 0, overruns := satInc 65535 s.tlm.seqs[k].overruns })) ∧
      (Ready 0x0803 q s → Completes (.tseqStop q) 0x0803 q s .done [] (fun t =>
        t = { arrived q s with tlm := { s.tlm with seqs := upd s.tlm.seqs k { s.tlm.seqs[k] with
          running := false, delayed := false, waiting := false
          stopping := s.tlm.seqs[k].stopping || s.tlm.seqs[k].converting } } }))) ∧
    (Ready 0x0804 q s → q.params.length = 4 → fieldAt q.params 0 2 < 1024 →
      (retiredChannel s (fieldAt q.params 0 2) = true → exec (.readChannel q) s = .fault .undefinedRetiredCell) ∧
      (retiredChannel s (fieldAt q.params 0 2) = false →
        (∀ v stamp flags src, byteAt q.params 3 = 1 →
          s.tlm.held.find? (fun x => decide (x.1 = fieldAt q.params 0 2)) = some (fieldAt q.params 0 2, v, stamp, flags, src) →
          Completes (.readChannel q) 0x0804 q s .done (channelResult v stamp flags src) (fun t => t = arrived q s)) ∧
        (byteAt q.params 3 = 1 → (∀ x ∈ s.tlm.held, x.1 ≠ fieldAt q.params 0 2) →
          Completes (.readChannel q) 0x0804 q s .notPresent [0xFF, 0xFF] (fun t => t = arrived q s)) ∧
        (byteAt q.params 3 ≠ 1 → 0x200 ≤ fieldAt q.params 0 2 → fieldAt q.params 0 2 < 0x230 → ∃ stamp,
          Completes (.readChannel q) 0x0804 q s .done (channelResult (tenMa (s.railMa (fieldAt q.params 0 2 - 0x200))) stamp 0 0xFF)
            (fun t => t = bump (arrived q s))) ∧
        (byteAt q.params 3 ≠ 1 → fieldAt q.params 0 2 < 0xCC → (s.tlm.busy[Fin.ofNat 4 s.tlm.sysConv]).isSome = true →
          Begins (.readChannel q) 0x0804 q s (.channel (fieldAt q.params 0 2)
            (if byteAt q.params 2 ≤ 7 then byteAt q.params 2 else 0) s.tlm.sysConv) (fun t => t = arrived q s)) ∧
        (byteAt q.params 3 ≠ 1 → fieldAt q.params 0 2 < 0xCC → s.tlm.busy[Fin.ofNat 4 s.tlm.sysConv] = none → ∃ (v : Int) (stamp sat : Nat), 0 ≤ v ∧
          v ≤ 65535 ∧ sat < 2 ∧
          Completes (.readChannel q) 0x0804 q s .done (channelResult v stamp sat 0xFE) (fun t =>
            t.tlm.held.head? = some (fieldAt q.params 0 2, v, stamp, sat, 0xFE) ∧ t.tlm.seqs = s.tlm.seqs ∧ t.therm = s.therm)))) ∧
    (Ready 0x0805 q s → q.params.length = 1 → Completes (.dropCounts q) 0x0805 q s .done (dropRecord s.tlm) (fun t =>
      (natBit (byteAt q.params 0) 0 = false → t = arrived q s) ∧
      (natBit (byteAt q.params 0) 0 = true → t = { arrived q s with tlm := t.tlm } ∧ t.tlm.xchkSkips = 0 ∧
        (∀ k : Fin 4, t.tlm.streams[k] = { s.tlm.streams[k] with drops := 0 }) ∧
        ∀ k : Fin 8, t.tlm.seqs[k] = { s.tlm.seqs[k] with urgentDrops := 0, overruns := 0, lates := 0 }))) ∧
    ∀ k : Fin 4, Ready 0x0806 q s → q.params.length = 8 → byteAt q.params 0 = k.val → byteAt q.params 2 < 8 →
      Completes (.streamConfig q) 0x0806 q s .done [] (fun t => t = { arrived q s with tlm := { s.tlm with
        streams := upd s.tlm.streams k { s.tlm.streams[k] with
          enable := natBit (byteAt q.params 1) 0, bcast := natBit (byteAt q.params 1) 1, seq := byteAt q.params 2
          sdecim := byteAt q.params 3, recs := byteAt q.params 4, dest := fieldAt q.params 6 2 % 4096, cnt := 0, part := []
          gap := s.tlm.streams[k].gap || s.tlm.streams[k].enable } } })

/-- Runs. A timer triggers at its tick counts, and a PWM event where it can occur, the running sequences that name it,
every DECIM-th trigger making a run due or an overrun; a run that is due starts once its converters are free, urgent
runs first, and otherwise waits, or is dropped when urgent; a run that ends hands its converters to an urgent run due at
that instant; its rows convert one after another, a stopped run ends with its conversion, and a completed one replaces
the results and ends a command-triggered or SINGLE sequence (R265-R271, R274-R276, R281). A run that needs no converter
and a converter busy with a system request are the model's choices, log entries 42 and 43. -/
def Obligations.TelemetryRuns : Prop :=
  ∀ (tick : Nat) (s : State),
    (∀ k : Fin 8,
      (tick % s.tlm.timers[k].1 = s.tlm.timers[k].2 → ∃ t, exec (.timerFire ⟨k, tick⟩) s = .next t ∧
        t = { s with tlm := { s.tlm with seqs := t.tlm.seqs }, router := t.router, seam := t.seam, pwr := t.pwr, clk := t.clk } ∧
        ∀ q : Fin 8, t.tlm.seqs[q] =
          if s.tlm.seqs[q].kindN = 1 ∧ s.tlm.seqs[q].trig = k.val then triggered tick s.tlm.seqs[q] else s.tlm.seqs[q]) ∧
      (tick % s.tlm.timers[k].1 ≠ s.tlm.timers[k].2 → exec (.timerFire ⟨k, tick⟩) s = .next s)) ∧
    ∀ q : Fin 8,
      (s.tlm.seqs[q].kindN ≠ 2 → exec (.sequenceTrigger ⟨q, tick⟩) s = .next s ∧ exec (.noEvent q) s = .next s) ∧
      (s.tlm.seqs[q].kindN = 2 → pwmOccurs s s.tlm.seqs[q] = true → ∃ t, exec (.sequenceTrigger ⟨q, tick⟩) s = .next t ∧
        t = { s with tlm := { s.tlm with seqs := upd s.tlm.seqs q (triggered tick { s.tlm.seqs[q] with noEvent := false }) }
                     router := t.router, seam := t.seam, pwr := t.pwr, clk := t.clk }) ∧
      (s.tlm.seqs[q].kindN = 2 → pwmOccurs s s.tlm.seqs[q] = false → exec (.sequenceTrigger ⟨q, tick⟩) s = exec (.noEvent q) s) ∧
      (s.tlm.seqs[q].kindN = 2 → exec (.noEvent q) s = .next { s with tlm := { s.tlm with
        seqs := upd s.tlm.seqs q { s.tlm.seqs[q] with noEvent := true } } }) ∧
      (s.tlm.seqs[q].due tick = false → s.tlm.seqs[q].waiting = false → exec (.runStart ⟨q, tick⟩) s = .next s) ∧
      (s.tlm.seqs[q].due tick = true → s.tlm.seqs[q].waiting = false → (∀ j : Fin 8, j ≠ q → Quiet tick s.tlm.seqs[j]) →
        ∃ t, exec (.runStart ⟨q, tick⟩) s = .next t ∧
        t = { s with tlm := { s.tlm with seqs := t.tlm.seqs, busy := t.tlm.busy }, free := s.free + 1
                     router := t.router, seam := t.seam, pwr := t.pwr, clk := t.clk } ∧
        (∀ j : Fin 8, j ≠ q → t.tlm.seqs[j] = s.tlm.seqs[j]) ∧
        (convFree s [] s.tlm.seqs[q].needs = true → t.tlm.seqs[q].converting = true ∧ t.tlm.seqs[q].delayed = false ∧
          t.tlm.seqs[q].waiting = false ∧ t.tlm.seqs[q].lateNow = false ∧ t.tlm.seqs[q].stampNow = tick % 2 ^ 32 ∧
          ∀ k : Fin 4, t.tlm.busy[k] = if s.tlm.seqs[q].needs.contains k.val = true then some q.val else s.tlm.busy[k]) ∧
        (convFree s [] s.tlm.seqs[q].needs = false → t.tlm.busy = s.tlm.busy ∧ t.tlm.seqs[q].delayed = false ∧
          (s.tlm.seqs[q].urgent = false → t.tlm.seqs[q] = { s.tlm.seqs[q] with delayed := false, waiting := true }) ∧
          (s.tlm.seqs[q].urgent = true → t.tlm.seqs[q] = { s.tlm.seqs[q] with
            delayed := false, running := s.tlm.seqs[q].running && decide (s.tlm.seqs[q].kindN ≠ 0)
            urgentDrops := satInc 65535 s.tlm.seqs[q].urgentDrops }))) ∧
      (s.tlm.seqs[q].delayed = false → s.tlm.seqs[q].waiting = true → (∀ j : Fin 8, j ≠ q → Quiet tick s.tlm.seqs[j]) →
        (convFree s [] s.tlm.seqs[q].needs = false → exec (.runStart ⟨q, tick⟩) s = .next (bump s)) ∧
        (convFree s [] s.tlm.seqs[q].needs = true → ∃ t, exec (.runStart ⟨q, tick⟩) s = .next t ∧ t.tlm.seqs[q].converting = true ∧
          t.tlm.seqs[q].waiting = false ∧ t.tlm.seqs[q].lateNow = true ∧
          t.tlm.seqs[q].lates = satInc 65535 s.tlm.seqs[q].lates)) ∧
      (∀ p : Fin 8, s.tlm.seqs[p].due tick = true ∨ s.tlm.seqs[p].waiting = true → s.tlm.seqs[q].due tick = true →
        s.tlm.seqs[q].urgent = true → (∀ j : Fin 8, j < q → s.tlm.seqs[j].urgent = false) →
        convFree s [] s.tlm.seqs[q].needs = true → ∃ t, exec (.runStart ⟨p, tick⟩) s = .next t ∧ t.tlm.seqs[q].converting = true ∧
          t.tlm.seqs[q].stampNow = tick % 2 ^ 32 ∧ t.tlm.seqs[q].urgentDrops = s.tlm.seqs[q].urgentDrops) ∧
      ∀ codes : List Int,
        (∀ p : Fin 8, p ≠ q → s.tlm.seqs[q].converting = true → s.tlm.seqs[q].rowSteps s.tlm.seqs[q].row ≤ s.tlm.seqs[q].step + 1 →
          s.tlm.seqs[q].rows ≤ s.tlm.seqs[q].row + 1 → s.tlm.seqs[p].due tick = true → s.tlm.seqs[p].urgent = true →
          (∀ j : Fin 8, j < p → s.tlm.seqs[j].due tick = false ∨ s.tlm.seqs[j].urgent = false) →
          (∀ k : Fin 4, s.tlm.seqs[p].needs.contains k.val = true →
            s.tlm.seqs[q].needs.contains k.val = true ∧ s.tlm.busy[k] = some q.val) →
          ∃ t, exec (.conversionDone ⟨q, tick⟩ codes) s = .next t ∧ t.tlm.seqs[p].converting = true ∧
            t.tlm.seqs[p].urgentDrops = s.tlm.seqs[p].urgentDrops) ∧
        (s.tlm.seqs[q].converting = false → exec (.conversionDone ⟨q, tick⟩ codes) s = .next s) ∧
        (s.tlm.seqs[q].converting = true → s.tlm.seqs[q].stopping = false →
          s.tlm.seqs[q].step + 1 < s.tlm.seqs[q].rowSteps s.tlm.seqs[q].row → exec (.conversionDone ⟨q, tick⟩ codes) s =
            .next { s with tlm := { s.tlm with seqs := upd s.tlm.seqs q (s.tlm.seqs[q].convert codes) } }) ∧
        (s.tlm.seqs[q].converting = true → s.tlm.seqs[q].stopping = false →
          s.tlm.seqs[q].rowSteps s.tlm.seqs[q].row ≤ s.tlm.seqs[q].step + 1 → s.tlm.seqs[q].row + 1 < s.tlm.seqs[q].rows →
          ∃ t, exec (.conversionDone ⟨q, tick⟩ codes) s = .next t ∧ t = { s with tlm := { s.tlm with seqs := t.tlm.seqs } } ∧
            t.tlm.seqs[q].converting = true ∧ s.tlm.seqs[q].row < t.tlm.seqs[q].row ∧ t.tlm.seqs[q].step = 0 ∧
            t.tlm.seqs[q].results = s.tlm.seqs[q].results ∧ ∀ j : Fin 8, j ≠ q → t.tlm.seqs[j] = s.tlm.seqs[j]) ∧
        (s.tlm.seqs[q].converting = true → s.tlm.seqs[q].stopping = true → (∀ j : Fin 8, Quiet tick s.tlm.seqs[j]) →
          s.tlm.seqs[q].step + 1 < s.tlm.seqs[q].rowSteps s.tlm.seqs[q].row ∨ s.tlm.seqs[q].row + 1 < s.tlm.seqs[q].rows →
          ∃ t, exec (.conversionDone ⟨q, tick⟩ codes) s = .next t ∧ Elsewhere s t ∧ t.tlm.seqs[q].converting = false ∧
            t.tlm.seqs[q].results = s.tlm.seqs[q].results ∧ t.tlm.seqs[q].run = s.tlm.seqs[q].run ∧ t.tlm.streams = s.tlm.streams) ∧
        (s.tlm.seqs[q].converting = true → (∀ j : Fin 8, Quiet tick s.tlm.seqs[j]) →
          s.tlm.seqs[q].rowSteps s.tlm.seqs[q].row ≤ s.tlm.seqs[q].step + 1 → s.tlm.seqs[q].rows ≤ s.tlm.seqs[q].row + 1 →
          ∃ t, exec (.conversionDone ⟨q, tick⟩ codes) s = .next t ∧ Elsewhere s t ∧
          t.tlm.seqs[q] = { s.tlm.seqs[q].convert codes with
            converting := false, stopping := false, run := (s.tlm.seqs[q].run + 1) % 2 ^ 32, stamp := s.tlm.seqs[q].stampNow
            late := s.tlm.seqs[q].lateNow, sat := (runResults (s.tlm.seqs[q].convert codes)).any Prod.snd
            results := (runResults (s.tlm.seqs[q].convert codes)).map Prod.fst
            running := s.tlm.seqs[q].running &&
              !((decide (s.tlm.seqs[q].kindN = 0) || s.tlm.seqs[q].single) && !s.tlm.seqs[q].stopping) } ∧
          (∀ k : Fin 4, s.tlm.streams[k].enable = false ∨ s.tlm.streams[k].seq ≠ q.val → t.tlm.streams[k] = s.tlm.streams[k]) ∧
          ∀ k : Fin 4, s.tlm.streams[k].enable = true → s.tlm.streams[k].seq = q.val →
            s.tlm.streams[k].cnt + 1 < (if s.tlm.streams[k].sdecim = 0 then 256 else s.tlm.streams[k].sdecim) →
            t.tlm.streams[k] = { s.tlm.streams[k] with cnt := s.tlm.streams[k].cnt + 1 })

/-! ## Thermal management and the supply (chapters 10 and 01) -/

/-- Temperatures and throttling. A measurement is queued and its reply waits for the reading; limits
and policy wait for the next scheduled evaluation, which gives each rail its step by the policy
and asks for the next readings; no more than 32 requests wait to be served; a reading is held where its target's is kept, and an open sensor
reads 0x8000 (R283-R286, R289, R290, R295, R296, R299, R392). Absent readings and full queues are
the model's choices, log entries 55 and 61. -/
def Obligations.TemperaturesAndThrottling : Prop :=
  ∀ (q : Req) (s : State),
    (Ready 0x0901 q s → q.params.length = 2 → fieldAt q.params 0 2 ≤ 0x110 →
      ((∃ c : Fin 256, fieldAt q.params 0 2 = c.val ∧ s.cells[c].st = .retired) →
        exec (.tempMeasure q) s = .fault .undefinedRetiredCell) ∧
      ((∀ c : Fin 256, fieldAt q.params 0 2 = c.val → s.cells[c].st ≠ .retired) →
        ((∀ x ∈ s.therm.queue, x.code ≠ fieldAt q.params 0 2) → 32 ≤ (s.therm.queue.filter (fun x => !x.served)).length →
          Completes (.tempMeasure q) 0x0901 q s .busy [2] (fun t => t = arrived q s)) ∧
        ((∃ x ∈ s.therm.queue, x.code = fieldAt q.params 0 2) ∨ (s.therm.queue.filter (fun x => !x.served)).length < 32 →
          Begins (.tempMeasure q) 0x0901 q s (.temp (fieldAt q.params 0 2)) (fun t =>
            t = { arrived q s with therm := { s.therm with queue := t.therm.queue } } ∧
            ∃ x ∈ t.therm.queue, x.code = fieldAt q.params 0 2 ∧ x.host = true)))) ∧
    (Ready 0x0902 q s → q.params.length = 12 → Completes (.thermalLimits q) 0x0902 q s .done [] (fun t =>
      t = { arrived q s with therm := { s.therm with limNext := some q.params } })) ∧
    (Ready 0x0903 q s → q.params.length = 16 → Completes (.throttlePolicy q) 0x0903 q s .done [] (fun t =>
      t = { arrived q s with therm := { s.therm with polNext := some q.params } })) ∧
    (∀ (code : Nat) (reading : BitVec 16), (∀ x ∈ s.therm.queue, x.code = code → x.served = false) →
      exec (.tempReadingDone code reading) s = .next s ∧ exec (.tempReadingTimeout code) s = .next s) ∧
    (∀ (c : Fin 256) (reading : BitVec 16), (∃ x ∈ s.therm.queue, x.code = c.val ∧ x.served = true) → s.cells[c].st ≠ .retired →
      (s.proto.exec = none → ∃ t, exec (.tempReadingDone c.val reading) s = .next t ∧ t.cells[c] = { s.cells[c] with temp := reading } ∧
        (∀ d : Fin 256, d ≠ c → t.cells[d] = s.cells[d]) ∧
          t.therm.queue.map TempReq.code = (s.therm.queue.map TempReq.code).filter (fun x => decide (x ≠ c.val)) ∧
        t.therm.cellAt[c] = some s.hem.ticks ∧ t.proto = s.proto ∧ t.rails = s.rails ∧ t.dom = s.dom) ∧
      (s.proto.exec = none → ∃ t, exec (.tempReadingTimeout c.val) s = .next t ∧ t.cells[c].temp = 0x8000 ∧ c.val ∈ t.therm.timedOut ∧
        (∀ d : Fin 256, d ≠ c → t.cells[d] = s.cells[d]) ∧ t.proto = s.proto ∧ t.rails = s.rails ∧ t.dom = s.dom) ∧
      ∀ p, s.proto.exec = some (p, .temp c.val) →
        (∃ t stamp, exec (.tempReadingDone c.val reading) s = .next (serveFailed (answer p .done (le16 reading.toNat ++ [0, 0] ++ le32 stamp) t)) ∧
          t.proto = { s.proto with exec := none } ∧ t.cells[c].temp = reading) ∧
        ∃ t stamp, exec (.tempReadingTimeout c.val) s = .next (serveFailed (answer p .doneWithNote ([0, 0x80, 0, 0] ++ le32 stamp) t)) ∧
          t.proto = { s.proto with exec := none } ∧ t.cells[c].temp = 0x8000) ∧
    (∀ k : Fin 16, (∃ t, exec (.dieSenseFault k true) s = .next t ∧ t.therm.dieBad.getLsbD k.val = true ∧ t.therm.die[k] = 0x8000 ∧
        t.therm.rate[k] = 0 ∧ (∀ j : Fin 16, j ≠ k → t.therm.die[j] = s.therm.die[j] ∧ t.therm.rate[j] = s.therm.rate[j]) ∧
        t.cells = s.cells ∧ t.rails = s.rails ∧ t.dom = s.dom ∧ t.chg = s.chg) ∧
      ∃ t, exec (.dieSenseFault k false) s = .next t ∧ t.therm = { s.therm with dieBad := t.therm.dieBad } ∧
        t.therm.dieBad.getLsbD k.val = false ∧ t.cells = s.cells ∧ t.rails = s.rails ∧ t.dom = s.dom) ∧
    (s.proto.running = false → exec .thermalSchedule s = .next s) ∧
    (s.proto.running = true → ∃ t, exec .thermalSchedule s = .next t ∧ t.cells = s.cells ∧ t.chg = s.chg ∧
      t.therm.bank = (s.therm.bank + 1) % 16 ∧ t.therm.limNext = none ∧ t.therm.polNext = none ∧
      (∀ b, s.therm.limNext = some b → t.therm.warn = BitVec.ofNat 16 (fieldAt b 0 2) ∧ t.therm.riseWarn = max 1 (fieldAt b 2 2) ∧
        t.therm.schedMs = clampNat 10 10000 (fieldAt b 4 2) ∧ t.therm.fastMs = clampNat 1 1000 (fieldAt b 6 2) ∧
        t.therm.stopLead = fieldAt b 8 2 ∧ t.therm.stopMin = fieldAt b 10 2) ∧
      (∀ b, s.therm.polNext = some b → t.therm.thrMode = (if byteAt b 0 ≤ 2 then byteAt b 0 else 1) ∧
        t.therm.fixedStep = min 7 (byteAt b 1) ∧ t.therm.thrOn = BitVec.ofNat 16 (fieldAt b 2 2) ∧ t.therm.thrHyst = fieldAt b 4 2 ∧
        t.therm.lookahead = fieldAt b 6 2 ∧ t.therm.stepDwell = max 10 (fieldAt b 8 2) ∧ t.therm.exempt = fieldAt b 10 6) ∧
      (t.therm.throttling = true ↔ ∃ r : Fin 48, t.rails[r].prot.thrStep ≠ 0) ∧
      (s.therm.limNext = none → s.therm.polNext = none → s.therm.stopLead = 0 → t.dom = s.dom) ∧
      (s.therm.limNext = none → s.therm.polNext = none → ∀ r : Fin 48,
        (natBit s.therm.exempt r.val = true ∨ s.therm.thrMode = 0 → t.rails[r].prot.thrStep = 0) ∧
        (natBit s.therm.exempt r.val = false → s.therm.thrMode = 2 → t.rails[r].prot.thrStep = min 7 s.therm.fixedStep) ∧
        (natBit s.therm.exempt r.val = false → s.therm.thrMode = 1 →
          (s.map.active[r].valid = false ∨ (s.hem.ticks - s.rails[r].prot.thrAt) * 1000 < s.therm.stepDwell * 32768 →
            t.rails[r].prot.thrStep = s.rails[r].prot.thrStep) ∧
          ∀ p, s.map.active[r].valid = true → s.therm.stepDwell * 32768 ≤ (s.hem.ticks - s.rails[r].prot.thrAt) * 1000 →
            predicted10 s r.val = some p → t.rails[r].prot.thrStep =
              if 10 * s.therm.thrOn.toInt ≤ p then min 7 (s.rails[r].prot.thrStep + 1)
              else if p < 10 * (s.therm.thrOn.toInt - s.therm.thrHyst) then s.rails[r].prot.thrStep - 1
              else s.rails[r].prot.thrStep)))

/-- Loss and return of the supply. VIN below 8.0 V or the hardware shutdown turns every cell and rail
off and takes the domain DOWN, remembering a rise; its return makes a restart due, which re-enters
RISING where it is configured; VIN above 16.5 V isolates every cell with cause 7, which makes the rewrite of ranks due on their rails, and they return
to OFF once it is back in range (R21, R75, R78, R210, R212, R238, R244, R293, R294, R301). What falls
when VIN falls is log entries 58 to 60 (the model's readings). -/
def Obligations.SupplyLossAndReturn : Prop :=
  ∀ s : State,
    (s.land.vinLow = true → exec .vinUv s = .next s) ∧
    (s.land.vinLow = false → s.therm.tsdNow = false → ∃ t, exec .vinUv s = .next t ∧ Unpowered s t ∧ t.land.vinLow = true ∧
      (s.chg.auxOk = false → s.chg.seamChg = false → t.pwr.lost = true)) ∧
    (s.land.vinLow = false → s.therm.tsdNow = true → ∃ t, exec .vinUv s = .next t ∧ t.land.vinLow = true ∧
      t.land.flags = s.land.flags ||| 0x400000 ∧ MayGoDark s t) ∧
    (∀ k : Fin 16, (s.therm.tsdNow = true ∨ s.therm.dieBad.getLsbD k.val = true → exec (.tsd k) s = .next s) ∧
      (s.therm.tsdNow = false → s.therm.dieBad.getLsbD k.val = false → ∃ t, exec (.tsd k) s = .next t ∧ t.therm.tsdNow = true ∧
        t.therm.flags = s.therm.flags ||| 0x80 ∧ t.land.flags = s.land.flags ||| 0x400000 ∧
        (s.land.vinLow = false → Unpowered s t ∧ t.pwr.lost = s.pwr.lost))) ∧
    (s.therm.tsdNow = false → exec .tsdClear s = .next s) ∧
    (s.therm.tsdNow = true → ∃ t, exec .tsdClear s = .next t ∧ t = { s with
        therm := { s.therm with tsdNow := false }, dom := t.dom, land := t.land, free := t.free
        router := t.router, seam := t.seam, pwr := t.pwr, clk := t.clk } ∧
      (s.land.vinLow = true → t.dom = s.dom ∧ t.land = s.land) ∧
      (s.land.vinLow = false → (t.dom = { s.dom with restartDue := s.dom.vinMem } ∧ t.land = s.land) ∨
        (t.dom = s.dom ∧ t.land = { s.land with vinWait := true }))) ∧
    (s.land.vinLow = false → s.land.vinWait = false → exec .vinRise s = .next s) ∧
    (s.land.vinLow = true ∨ s.land.vinWait = true → exec .vinRise s = .next { s with
      land := { s.land with vinLow := false, vinWait := false }
      dom := if s.therm.tsdNow = true then s.dom else { s.dom with restartDue := s.dom.vinMem } }) ∧
    (s.dom.restartDue = false ∨ s.proto.running = false ∨ s.land.vinLow = true ∨ s.therm.tsdNow = true ∨
      s.land.vinWait = true ∨ s.map.probe = .running ∨ s.proto.cfg = .applying → exec .vinRestart s = .next s) ∧
    (s.dom.restartDue = true → s.proto.running = true → s.land.vinLow = false → s.therm.tsdNow = false → s.land.vinWait = false →
      s.map.probe ≠ .running → s.proto.cfg ≠ .applying →
      (s.dom.vinRestart = false ∨ (s.dom.upSrc = 1 ∧ s.dom.en.getLsbD s.dom.enPin.val = false) → exec .vinRestart s = .next { s with dom :=
        { s.dom with restartDue := false, vinMem := false } }) ∧
      (s.dom.vinRestart = true → s.dom.upSrc ≠ 1 ∨ s.dom.en.getLsbD s.dom.enPin.val = true → s.dom.cycle = false → s.dom.st = .down →
        s.pwr.st ≠ .safeHold → s.seam.agree = .alone →
        badSlotRail s = none → s.dom.role ≠ 2 → s.dom.role ≠ 3 → ∃ t, exec .vinRestart s = .next t ∧ t.dom.restartDue = false ∧
          t.cells = s.cells ∧ ((∀ j : Fin 16, s.dom.slots[j].used = false) → t.dom.st = .up) ∧
          ∀ j : Fin 16, s.dom.slots[j].used = true → (∀ i : Fin 16, i < j → s.dom.slots[i].used = false) →
            t.dom.st = .rising ∧ t.dom.cur = some j.val)) ∧
    (s.land.vinOver = true → exec .vinOv s = .next s) ∧
    (s.land.vinOver = false → ∃ t, exec .vinOv s = .next t ∧ t.land.vinHigh = true ∧ t.land.vinOver = true ∧ t.land.flags = s.land.flags ||| 0x800000 ∧
      (∀ c : Fin 256, (s.cells[c].st = .retired → t.cells[c] = s.cells[c]) ∧
        (s.cells[c].st = .isolated → t.cells[c].st = .isolated ∧ t.cells[c].isoCause = s.cells[c].isoCause) ∧
        (s.cells[c].st ≠ .retired → s.cells[c].st ≠ .isolated →
          t.cells[c].st = .isolated ∧ t.cells[c].isoCause = 7 ∧ t.cells[c].isoSw = false)) ∧
      (allRailsOff s = true → (∀ r : Fin 48, t.rails[r] = { s.rails[r] with rewriteDue := t.rails[r].rewriteDue } ∧
          (t.rails[r].rewriteDue = true ↔ s.rails[r].rewriteDue = true ∨ ∃ c : Fin 256, (s.memberSet r.val).getLsbD c.val = true ∧
            s.cells[c].st ≠ .retired ∧ s.cells[c].st ≠ .isolated)) ∧ t.dom = { s.dom with fnDrive := t.dom.fnDrive } ∧
        (s.land.vinLow = false → t.dom = s.dom)) ∧
      (allRailsOff s = false → t.dom.st = .latched ∧ (s.land.vinLow = false → t.dom.fnDrive = true))) ∧
    (s.land.vinHigh = false → exec .vinOvRecover s = .next s) ∧
    (s.land.vinHigh = true → ∃ t, exec .vinOvRecover s = .next t ∧ t.land = { s.land with vinHigh := false, vinOver := false } ∧ t.rails = s.rails ∧
      t.dom = s.dom ∧ ∀ c : Fin 256, t.cells[c] = if s.cells[c].st = .isolated ∧ s.cells[c].isoCause = 7 then
        { s.cells[c] with st := .off, role := .none } else s.cells[c])

/-! ## HOLD and the charger (chapter 11) -/

/-- Commands of HOLD and the charger. CHARGER_CONFIG is taken in IDLE, MAINTAIN and FAULT with
thresholds in ascending order; CHARGER_START qualifies the pack, or is suspended without a source;
CHARGER_STOP idles; HOLD_RAIL_SET sets the output and chooses its source; SHIP_ENTER arms when no
refuser refuses, whose refusals are counted otherwise (R302-R304, R313-R315, R322, R325, R328,
R331, R332, R469, R473). The storing of CAP_MAH is the model's choice, log entry 54. -/
def Obligations.ChargerAndHoldCommands : Prop :=
  ∀ (q : Req) (s : State),
    (Ready 0x0A01 q s → q.params.length = 32 →
      (s.chg.ph ≠ .idle → s.chg.ph ≠ .maintain → s.chg.ph ≠ .fault →
        Completes (.chargerConfig q) 0x0A01 q s .refusedState [4, byte s.chg.ph.code, 0xFF, 0] (fun t => t = arrived q s)) ∧
      (s.chg.ph = .idle ∨ s.chg.ph = .maintain ∨ s.chg.ph = .fault →
        (¬ (s16At q.params 16 < s16At q.params 18 ∧ s16At q.params 18 < s16At q.params 20 ∧ s16At q.params 20 < s16At q.params 22) →
          Completes (.chargerConfig q) 0x0A01 q s .doneWithNote [1] (fun t => t = arrived q s)) ∧
        (s16At q.params 16 < s16At q.params 18 → s16At q.params 18 < s16At q.params 20 → s16At q.params 20 < s16At q.params 22 →
          Completes (.chargerConfig q) 0x0A01 q s .done [0] (fun t => MayGoDark s t ∧
            t.chg.nCells = (if byteAt q.params 0 = 0 then 0 else clampNat 4 10 (byteAt q.params 0)) ∧
            t.chg.auto = natBit (byteAt q.params 1) 0 ∧ t.chg.dtdtEn = natBit (byteAt q.params 1) 1 ∧
            t.chg.dvEn = natBit (byteAt q.params 1) 2 ∧ t.chg.seamChg = natBit (byteAt q.params 1) 3 ∧
            t.chg.cap = fieldAt q.params 2 2 ∧ t.chg.fastI = clampNat 100 3000 (fieldAt q.params 4 2) ∧
            t.chg.dv = clampNat 4 40 (byteAt q.params 6) ∧ t.chg.dtdt = max 1 (byteAt q.params 7) ∧
            t.chg.preMin = max 1 (byteAt q.params 10) ∧ t.chg.topMin = byteAt q.params 11 ∧ t.chg.dvHold = byteAt q.params 12 ∧
            t.chg.redPct = clampNat 1 8 (byteAt q.params 13) ∧ t.chg.maintI = min 200 (fieldAt q.params 14 2) ∧
            t.chg.tSuspLo = s16At q.params 16 ∧ t.chg.tRedLo = s16At q.params 18 ∧ t.chg.tRedHi = s16At q.params 20 ∧
            t.chg.tSuspHi = s16At q.params 22 ∧ t.chg.rechgMv = clampNat 1150 1400 (fieldAt q.params 24 2) ∧
            t.chg.vcutMv = clampNat 900 1100 (fieldAt q.params 26 2) ∧ t.chg.vinIlim = clampNat 500 6000 (fieldAt q.params 28 2) ∧
            t.chg.noidIlim = min 1000 (fieldAt q.params 30 2))))) ∧
    (Ready 0x0A02 q s → q.params = [] →
      (s.chg.ph ≠ .idle → s.chg.ph ≠ .maintain → s.chg.ph ≠ .fault →
        Completes (.chargerStart q) 0x0A02 q s .refusedState [4, byte s.chg.ph.code, 0xFF, 0] (fun t => t = arrived q s)) ∧
      (s.chg.ph = .idle ∨ s.chg.ph = .maintain ∨ s.chg.ph = .fault →
        (s.chg.nCells = 0 ∨ s.chg.cap = 0 ∨ s.land.bthOpen = true →
          Completes (.chargerStart q) 0x0A02 q s .notPresent [0xFF, 0xFF] (fun t => t = arrived q s)) ∧
        (s.chg.nCells ≠ 0 → s.chg.cap ≠ 0 → s.land.bthOpen = false → Completes (.chargerStart q) 0x0A02 q s .done [] (fun t =>
          Elsewhere s t ∧ t.chg.fault = 0 ∧ t.chg.charge = 0 ∧ t.chg.timer = 0 ∧ t.chg.source = s.chg.source ∧
          (s.chg.source ≠ .none → t.chg.ph = .qualify) ∧
          (s.chg.source = .none → chargerStill s = false → t.chg.ph = .suspended ∧ t.chg.left = .qualify ∧ t.chg.susp = 1))))) ∧
    (Ready 0x0A03 q s → q.params = [] → Completes (.chargerStop q) 0x0A03 q s .done [] (fun t =>
      (s.chg.ph = .idle → t = arrived q s) ∧
      (s.chg.ph ≠ .idle → Elsewhere s t ∧ t.chg.ph = .idle ∧ t.chg.autoDue = false ∧ t.chg.mA = 0))) ∧
    (Ready 0x0A06 q s → q.params.length = 8 →
      (natBit (byteAt q.params 4) 0 = false → Completes (.holdRailSet q) 0x0A06 q s
        (if 1800 ≤ fieldAt q.params 0 2 ∧ fieldAt q.params 0 2 ≤ 5500 ∧ 100 ≤ fieldAt q.params 2 2 ∧ fieldAt q.params 2 2 ≤ 2000 then
          .done else .doneWithNote)
        (le16 (clampNat 1800 5500 (fieldAt q.params 0 2)) ++ [0]) (fun t => Elsewhere s t ∧ t.chg.hold = .off ∧ t.chg.enable = false ∧
          t.chg.vHold = clampNat 1800 5500 (fieldAt q.params 0 2) ∧ t.chg.iHold = clampNat 100 2000 (fieldAt q.params 2 2) ∧
          t.chg.packOk = natBit (byteAt q.params 4) 1)) ∧
      (natBit (byteAt q.params 4) 0 = true → vinUsable s = true → s.chg.hold = .off ∨ s.chg.hold = .onVin →
        Completes (.holdRailSet q) 0x0A06 q s
        (if 1800 ≤ fieldAt q.params 0 2 ∧ fieldAt q.params 0 2 ≤ 5500 ∧ 100 ≤ fieldAt q.params 2 2 ∧ fieldAt q.params 2 2 ≤ 2000 then
          .done else .doneWithNote)
        (le16 (clampNat 1800 5500 (fieldAt q.params 0 2)) ++ [1]) (fun t => Elsewhere s t ∧ t.chg.hold = .onVin ∧ t.chg.enable = true))) ∧
    (Ready 0x0A05 q s → q.params.length = 4 →
      (refusersOf s 3 = [] → Completes (.shipEnter q) 0x0A05 q s .done [] (fun t => t = { arrived q s with
        chg := { s.chg with shipArmed := true }
        hem := { s.hem with wakeHold := clampNat 20 5000 (fieldAt q.params 0 2), shipDelay := max 1 (byteAt q.params 2) } })) ∧
      (refusersOf s 3 ≠ [] → Completes (.shipEnter q) 0x0A05 q s .refusedState [6, byte s.pwr.st.code, 0xFF, 0] (fun t =>
        Elsewhere s t ∧ t.chg = s.chg ∧ t.pwr.flags.getLsbD 0 = true ∧
        ∀ i : Fin 16, t.hem.refusals[i] = if permits s i.val < 3 then satInc 0xFFFFFFFF s.hem.refusals[i] else s.hem.refusals[i])))

/-- What happens at HOLD, the sources and the charger. HOLD moves between VIN, the pack, RETRY and
LOST as its source goes and returns; a source that appears is chosen, one that goes is left; a
pack removed idles the charger, but in SHIP; its readings end precharge and charge, fault it or suspend it, and
its timers and the recharge threshold move its phase; in IDLE and FAULT they still judge the pack, and while the phases do not run only
the wall time passes (R303-R309, R312-R324, R330, R467, R472). The averages of few readings are log entries 48 to 51, and that a start
by AUTO is not made up for is 172 (the model's readings). -/
def Obligations.ChargerAndHoldHappenings : Prop :=
  ∀ s : State,
    (s.chg.hold ≠ .onVin → exec .hnSag s = .next s) ∧
    (s.chg.hold = .onVin → ∃ t, exec .hnSag s = .next t ∧ HoldMoves s t (if packFeeds s = true then .onPack else .lost)) ∧
    (s.undervolt = true ∨ (s.chg.hold ≠ .onPack ∧ s.chg.hold ≠ .lost) → exec .holdReturnVin s = .next s) ∧
    (s.undervolt = false → s.chg.hold = .onPack ∨ s.chg.hold = .lost → ∃ t, exec .holdReturnVin s = .next t ∧
      HoldMoves { s with land := { s.land with vinOver := false } } t .onVin) ∧
    (s.chg.hold ≠ .onVin → s.chg.hold ≠ .onPack → exec .holdShort s = .next s) ∧
    (s.chg.hold = .onVin ∨ s.chg.hold = .onPack → ∃ t, exec .holdShort s = .next t ∧ HoldMoves s t .retry ∧
      t.chg.flags = s.chg.flags ||| 0x10) ∧
    (s.chg.hold ≠ .retry → exec .holdRetry s = .next s) ∧
    (s.chg.hold = .retry → ∃ t, exec .holdRetry s = .next t ∧
      HoldMoves s t (if vinUsable s = true then .onVin else if packFeeds s = true then .onPack else .lost)) ∧
    (s.chg.hold ≠ .onPack → exec .packExhausted s = .next s) ∧
    (s.chg.hold = .onPack → ∃ t, exec .packExhausted s = .next t ∧ Elsewhere s t ∧ t.chg.hold = .lost ∧ t.chg.exhausted = true ∧
      t.chg.flags = s.chg.flags ||| 0x8) ∧
    (s.pwr.st = .ship ∨ (s.chg.nCells = 0 ∧ s.land.bthOpen = false) → exec .packRemoved s = .next s) ∧
    (s.pwr.st ≠ .ship → s.chg.nCells ≠ 0 ∨ s.land.bthOpen = true → ∃ t, exec .packRemoved s = .next t ∧ Elsewhere s t ∧ t.chg.ph = .idle ∧
      t.chg.exhausted = false ∧ t.chg.packGood = false ∧ t.chg.flags.getLsbD 2 = true) ∧
    (s.land.bthOpen = true ∨ s.pwr.st = .ship → exec .packInserted s = .next s) ∧
    (s.land.bthOpen = false → s.pwr.st ≠ .ship → ∃ t, exec .packInserted s = .next t ∧ Elsewhere s t ∧ t.free = s.free + 1 ∧
      (s.chg.nCells = 0 → t.chg.packGood = false) ∧
      t.chg.ph = if chargerStill s = false ∧ s.chg.auto = true ∧ s.chg.nCells ≠ 0 ∧ s.chg.cap ≠ 0 ∧ s.chg.source ≠ .none ∧ s.chg.ph = .idle then .qualify
        else s.chg.ph) ∧
    (∃ t, exec (.bthOpen .opened) s = .next t ∧ Elsewhere s t ∧ t.land.bthOpen = true ∧ t.land.bthShort = false ∧
      (s.land.bthOpen = false → s.pwr.st ≠ .ship → t.chg.ph = .idle ∧ t.chg.packGood = false)) ∧
    (∃ t, exec (.bthOpen .shorted) s = .next t ∧ Elsewhere s t ∧ t.land.bthOpen = false ∧ t.land.bthShort = true ∧
      (s.pwr.st ≠ .ship → s.chg.ph = .qualify ∨ s.chg.ph = .precharge ∨ s.chg.ph = .fast → t.chg.ph = .fault ∧ t.chg.fault = 6)) ∧
    (∀ p : Port,
      (∃ t, exec (.sourceChange ⟨.vin, p⟩) s = .next t ∧ MayGoDark s t ∧ t.chg.vinOk = !s.undervolt ∧
        (s.undervolt = false → t.chg.source = .vin)) ∧
      (s.chg.vinOk = false → s.chg.auxServes = true → ∃ t, exec (.sourceChange ⟨.auxin, p⟩) s = .next t ∧ MayGoDark s t ∧
        t.chg.source = .auxin) ∧
      (s.chg.vinOk = false → s.chg.auxOk = false → s.chg.seamChg = true → ∃ t, exec (.sourceChange ⟨.seam, p⟩) s = .next t ∧ MayGoDark s t ∧
        t.chg.source = .seam ∧ (p = .a → t.chg.phantomIn.1 = true) ∧ (p = .b → t.chg.phantomIn.2 = true))) ∧
    (∀ p : Port, ∃ t, exec (.phantomPowerLost p) s = .next t ∧ MayGoDark s t ∧
      t.chg.phantomIn = (s.chg.phantomIn.1 && decide (p ≠ .a), s.chg.phantomIn.2 && decide (p ≠ .b))) ∧
    (∀ x : AuxCond, ∃ t, exec (.auxinRange x) s = .next t ∧ MayGoDark s t ∧ (t.chg.auxIn = true ↔ x = .inRange) ∧
      (t.chg.auxPresent = true ↔ x = .inRange ∨ x = .outOfRange) ∧ (t.land.auxRange = true ↔ x = .outOfRange) ∧
      (x ≠ .inRange → t.chg.auxOk = false ∧ t.chg.source ≠ .auxin)) ∧
    (∀ v : Nat, (s.chg.auxPresent = false ∨ auxCode v = s.chg.auxId → exec (.auxidRead v) s = .next s) ∧
      (s.chg.auxPresent = true → auxCode v ≠ s.chg.auxId → ∃ t, exec (.auxidRead v) s = .next t ∧ MayGoDark s t ∧
        t.chg.auxId = auxCode v ∧ t.chg.auxOk = false ∧ t.chg.source ≠ .auxin)) ∧
    (∀ (packMv : Nat) (mA : Int) (lim : Bool),
      (s.off = true → exec (.chargerSecond packMv mA lim) s = .next s) ∧
      (s.off = false → chargerStill s = true →
        exec (.chargerSecond packMv mA lim) s = .next { s with chg := { s.chg with wall := s.chg.wall + 1 } }) ∧
      (chargerStill s = false → s.chg.phaseOf = .idle ∨ s.chg.phaseOf = .fault → ∃ t, exec (.chargerSecond packMv mA lim) s = .next t ∧
        HoldMoves { s with chg := { s.chg with
          packMv := packMv, wall := s.chg.wall + 1
          packGood := s.chg.packGood || decide (s.chg.nCells ≠ 0) && decide ((s.chg.vcutMv + 100) * s.chg.nCells < packMv) } } t t.chg.hold ∧
        (packUsable s = false → (s.chg.vcutMv + 100) * s.chg.nCells < packMv → s.chg.nCells ≠ 0 → s.land.bthOpen = false →
          s.chg.psw = true → s.chg.exhausted = false → s.chg.packOk = true → vinUsable s = false → s.chg.hold = .lost → t.chg.hold = .onPack) ∧
        (packUsable s = true → t.chg.hold = s.chg.hold)) ∧
      (s.chg.phaseOf ≠ .idle → s.chg.phaseOf ≠ .fault → chargerStill s = false → ∃ t, exec (.chargerSecond packMv mA lim) s = .next t ∧
        Elsewhere s t ∧ t.chg.packMv = packMv ∧ (t.chg.ph ≠ .fault → t.chg.ph ≠ .suspended → t.chg.mA = mA) ∧
        (t.chg.ph = .fault → t.chg.mA = 0 ∧ t.chg.inLim = false) ∧
        ∀ c : Chg, s.chg.ph = .fast → c = (((s.chg.readPack packMv).second mA lim).readings packMv).windows →
          (2 ≤ c.ovSecs → t.chg.ph = .fault ∧ t.chg.fault = 4) ∧
          (c.ovSecs < 2 → s.land.bthShort = true → t.chg.ph = .fault ∧ t.chg.fault = 6) ∧
          (c.ovSecs < 2 → s.land.bthShort = false → c.endDv = true ∨ c.endDt = true →
            t.chg.ph = if s.chg.topMin = 0 then .maintain else .topoff) ∧
          (c.ovSecs < 2 → s.land.bthShort = false → c.endDv = false → c.endDt = false → s.chg.source = .none →
            t.chg.ph = .suspended ∧ t.chg.susp = 1 ∧ t.chg.left = .fast))) ∧
    (∀ packMv : Nat, (s.chg.ph ≠ .qualify → exec (.qualifyDone packMv) s = .next s) ∧
      (s.chg.ph = .qualify → ∃ t, exec (.qualifyDone packMv) s = .next t ∧ Elsewhere s t ∧ t.chg.packMv = packMv ∧
        (packMv < 500 * s.chg.nCells ∨ 1750 * s.chg.nCells < packMv → t.chg.ph = .fault ∧ t.chg.fault = 5) ∧
        (500 * s.chg.nCells ≤ packMv → packMv ≤ 1750 * s.chg.nCells → s.land.bthShort = true → t.chg.ph = .fault ∧ t.chg.fault = 6) ∧
        (500 * s.chg.nCells ≤ packMv → packMv ≤ 1750 * s.chg.nCells → s.land.bthShort = false →
          suspCause { s with chg := (s.chg.readPack packMv).windows } true = 0 →
          t.chg.ph = (if packMv < 1000 * s.chg.nCells then .precharge else .fast) ∧ t.chg.timer = 0 ∧ t.chg.wall = 0))) ∧
    (∀ wall : Bool, ((if wall = true then 3 * s.chg.nominal ≤ s.chg.wall * 1000 else s.chg.nominal ≤ s.chg.timer) →
      ∃ t, exec (.phaseTimerExpired wall) s = .next t ∧ Elsewhere s t ∧
        (s.chg.ph = .precharge → t.chg.ph = .fault ∧ t.chg.fault = if wall = true then 2 else 3) ∧
        (s.chg.ph = .fast → t.chg.ph = .fault ∧ t.chg.fault = if wall = true then 2 else 1) ∧
        (s.chg.ph = .topoff → t.chg.ph = .maintain) ∧
        (s.chg.ph ≠ .precharge → s.chg.ph ≠ .fast → s.chg.ph ≠ .topoff → t = s)) ∧
      (¬ (if wall = true then 3 * s.chg.nominal ≤ s.chg.wall * 1000 else s.chg.nominal ≤ s.chg.timer) →
        exec (.phaseTimerExpired wall) s = .next s)) ∧
    (∀ packMv : Nat, (s.chg.ph ≠ .maintain ∨ chargerStill s = true → exec (.rechargeCheck packMv) s = .next s) ∧
      (s.chg.ph = .maintain → chargerStill s = false → ∃ t, exec (.rechargeCheck packMv) s = .next t ∧ Elsewhere s t ∧
        t.chg.packMv = packMv ∧
        (packMv < s.chg.rechgMv * s.chg.nCells → t.chg.ph = .qualify ∧ t.chg.recharges = satInc 255 s.chg.recharges) ∧
        (s.chg.rechgMv * s.chg.nCells ≤ packMv → t.chg.ph = .maintain ∧ t.chg.recharges = s.chg.recharges))) ∧
    (s.chg.ph = .idle ∨ s.chg.ph = .fault → exec .chargerHw s = .next s) ∧
    (s.chg.ph ≠ .idle → s.chg.ph ≠ .fault → ∃ t, exec .chargerHw s = .next t ∧ Elsewhere s t ∧ t.chg.ph = .fault ∧ t.chg.fault = 7)

/-! ## Hem (chapter 12) -/

/-- Time. RTC_SET sets the count at once or at the next accepted PPS edge and ends TIME_SUSPECT;
RTC_MODE changes the form and disables the alarms; alarms, the periodic wake, backup memory with
its check byte and the discipline are written; an alarm due fires once; PPS edges, their absence,
and Hem's supply act as their rules say (R333-R349, R356, R357). An alarm passed over is the
model's choice, log entry 70; a held RTC_SET is 69. -/
def Obligations.TimeIsKeptAndSet : Prop :=
  ∀ (q : Req) (s : State),
    (Ready 0x0B01 q s → q.params.length = 9 →
      (s.hem.heldSet ≠ none → Completes (.rtcSet q) 0x0B01 q s .busy [0] (fun t => t = arrived q s)) ∧
      (s.hem.heldSet = none → s.hem.calendar = true → calendarCount (q.params.take 8) = none →
        Completes (.rtcSet q) 0x0B01 q s .doneWithNote [1] (fun t => t = arrived q s)) ∧
      ∀ n, s.hem.heldSet = none →
        (s.hem.calendar = true ∧ calendarCount (q.params.take 8) = some n ∨ s.hem.calendar = false ∧ fieldAt q.params 0 8 = n) →
        (natBit (byteAt q.params 8) 0 = true → Completes (.rtcSet q) 0x0B01 q s .started [0] (fun t =>
          t = { arrived q s with hem := { s.hem with heldSet := some n } })) ∧
        (natBit (byteAt q.params 8) 0 = false → Completes (.rtcSet q) 0x0B01 q s .done [0] (fun t => Elsewhere s t ∧
          t.hem.count = n ∧ t.hem.suspect = false ∧ t.hem.ticks = s.hem.ticks ∧ t.hem.backup = s.hem.backup ∧
          t.hem.disc = if s.hem.disc = .tracking then .acquire else s.hem.disc))) ∧
    (Ready 0x0B03 q s → q.params.length = 1 → Completes (.rtcMode q) 0x0B03 q s .done [] (fun t =>
      (s.hem.calendar = decide (byteAt q.params 0 = 1) → t = arrived q s) ∧
      (s.hem.calendar ≠ decide (byteAt q.params 0 = 1) → t = { arrived q s with hem := { s.hem with
          calendar := decide (byteAt q.params 0 = 1), alarms := t.hem.alarms } } ∧
        ∀ k : Fin 2, t.hem.alarms[k] = { s.hem.alarms[k] with enable := false }))) ∧
    (∀ k : Fin 2, Ready 0x0B04 q s → q.params.length = 20 → byteAt q.params 0 = k.val →
      Completes (.alarmSet q) 0x0B04 q s .done [] (fun t => t = { arrived q s with hem := { s.hem with
        alarms := upd s.hem.alarms k { enable := natBit (byteAt q.params 4) 0, mask := byteAt q.params 5
                                       time := (q.params.drop 8).take 8, repeats := fieldAt q.params 16 4
                                       setIn := some (hundredth s.hem.count) } } })) ∧
    (Ready 0x0B05 q s → q.params.length = 4 →
      Completes (.periodicSet q) 0x0B05 q s (if 5529600 < fieldAt q.params 0 4 then .doneWithNote else .done) [] (fun t =>
        t = { arrived q s with hem := { s.hem with periodic := min (fieldAt q.params 0 4) 5529600 } })) ∧
    (Ready 0x0B06 q s → q.params.length = 2 + byteAt q.params 1 → 1 ≤ byteAt q.params 1 → byteAt q.params 0 + byteAt q.params 1 ≤ 64 →
      byteAt q.params 0 < 64 → Completes (.backupWrite q) 0x0B06 q s .done [] (fun t =>
        t = { arrived q s with hem := { s.hem with backup := t.hem.backup, check := byte (crc8 t.hem.backup.toList) } } ∧
        ∀ k : Fin 64, t.hem.backup[k] = if byteAt q.params 0 ≤ k.val ∧ k.val < byteAt q.params 0 + byteAt q.params 1 then
          q.params.getD (2 + k.val - byteAt q.params 0) 0 else s.hem.backup[k])) ∧
    (Ready 0x0B08 q s → q.params.length = 12 → Completes (.ppsConfig q) 0x0B08 q s .done [] (fun t => Elsewhere s t ∧
      t.hem.ppsQual = max 2 (byteAt q.params 1) ∧ t.hem.tau = clampNat 16 4096 (fieldAt q.params 2 2) ∧
      t.hem.ppsStep = clampNat 100 500000 (fieldAt q.params 4 4) ∧ t.hem.count = s.hem.count ∧ t.hem.alarms = s.hem.alarms ∧
      t.hem.discF = (if natBit (byteAt q.params 0) 1 = true then clampInt (-20000) 20000 (s32At q.params 8) else s.hem.discF) ∧
      (natBit (byteAt q.params 0) 0 = false → t.hem.disc = .off ∧ t.hem.discV = 0) ∧
      (natBit (byteAt q.params 0) 0 = true → t.hem.disc = if s.hem.disc = .off then .acquire else s.hem.disc))) ∧
    (s.hem.disc = .off → s.hem.heldSet = none → exec (.ppsEdge true) s = .next { s with hem := { s.hem with ppsAbsent := false } }) ∧
    (∀ n, s.hem.heldSet = some n → ∃ t, exec (.ppsEdge true) s = .next t ∧ Elsewhere s t ∧ t.hem.count = n / 65536 * 65536 ∧
      t.hem.heldSet = none ∧ t.hem.suspect = false ∧ t.hem.ppsAbsent = false) ∧
    (s.hem.heldSet = none → s.hem.disc = .acquire → s.hem.edges + 1 < s.hem.ppsQual → exec (.ppsEdge true) s = .next { s with hem :=
      { s.hem with ppsAbsent := false, edges := s.hem.edges + 1 } }) ∧
    (s.hem.heldSet = none → s.hem.disc = .tracking → s.hem.ppsStep * 65536 ≤ s.hem.phase.natAbs * 1000000 →
      ∃ t, exec (.ppsEdge true) s = .next t ∧ Elsewhere s t ∧ t.hem.count % 65536 = 0 ∧ t.hem.flags.getLsbD 6 = true ∧
        t.hem.disc = .tracking) ∧
    (∃ t, exec (.ppsEdge false) s = .next t ∧ Elsewhere s t ∧ t.land.flags = s.land.flags ||| 0x8000 ∧ t.hem.count = s.hem.count ∧
      t.hem.edges = if s.hem.disc = .acquire then 0 else s.hem.edges) ∧
    (∃ t, exec .ppsAbsent s = .next t ∧ Elsewhere s t ∧ t.hem.ppsAbsent = true ∧ t.hem.heldSet = none ∧ t.hem.count = s.hem.count ∧
      t.hem.disc = if s.hem.disc = .tracking then .holdover else s.hem.disc) ∧
    (∀ k : Fin 2, (s.hem.alarms[k].enable = false → exec (.alarmFire k) s = .next s) ∧
      (s.hem.calendar = false → s.hem.count < leNat s.hem.alarms[k].time → exec (.alarmFire k) s = .next s) ∧
      (s.hem.calendar = false → s.hem.alarms[k].enable = true → s.hem.alarms[k].skipped = false → s.hem.alarms[k].firedAt = none →
        leNat s.hem.alarms[k].time ≤ s.hem.count → ∃ t, exec (.alarmFire k) s = .next t ∧ Elsewhere s t ∧
          t.hem.flags.getLsbD (3 + k.val) = true ∧ t.hem.count = s.hem.count ∧
          (s.hem.alarms[k].repeats = 0 → t.hem.alarms[k].enable = false) ∧
          (s.hem.alarms[k].repeats ≠ 0 → t.hem.alarms[k].enable = true) ∧
          ∀ j : Fin 2, j ≠ k → t.hem.alarms[j] = s.hem.alarms[j])) ∧
    (s.hem.periodic = 0 ∨ s.off = true → exec .periodicWake s = .next s) ∧
    (s.hem.periodic ≠ 0 → s.off = false → ∃ t, exec .periodicWake s = .next t ∧
      t = { s with router := t.router, seam := t.seam, pwr := t.pwr, clk := t.clk } ∧
      (s.pwr.st = .hibernate → s.pwr.wake = none → t.pwr.wake = some .periodic)) ∧
    (s.hem.calendar = false ∨ s.hem.count < calSpan * 65536 ∨ hundredth (s.hem.count % (calSpan * 65536)) ≠ 0 →
      exec .calWrap s = .next s) ∧
    (s.hem.calendar = true → calSpan * 65536 ≤ s.hem.count → hundredth (s.hem.count % (calSpan * 65536)) = 0 → ∃ t, exec .calWrap s = .next t ∧
      Elsewhere s t ∧ t.hem = { s.hem with flags := s.hem.flags ||| 0x80 }) ∧
    (∃ t, exec .timeSuspect s = .next t ∧ Elsewhere s t ∧
      t.hem = { s.hem with suspect := true, count := t.hem.count, backup := t.hem.backup, check := t.hem.check
                           bkpBad := decide (crc8 t.hem.backup.toList ≠ t.hem.check.toNat) }) ∧
    (∃ t, exec .hemPor s = .next t ∧ t.hem = { ticks := s.hem.ticks, wdStart := s.hem.ticks, flags := 2 } ∧ t.hem.suspect = true ∧ t.hem.flags = 2 ∧
      t.hem.count = 0 ∧ t.dom.vinMem = false ∧
      t.dom.restartDue = false ∧ t.hp.ctl = 7 ∧ t.hp.tScl = 0x19 ∧ t.hp.tSda = 0x19 ∧ t.seam.addr = none ∧
      (s.onAux = false → t.pwr.lost = true ∧ t.proto.running = false ∧ t.seam.seq = leNat (uniqueId s) % 65536) ∧
      (s.onAux = true → t.pwr.lost = s.pwr.lost ∧ t.pwr.st = s.pwr.st ∧ t.proto = s.proto) ∧ t.cells = s.cells ∧ t.rails = s.rails) ∧
    ∀ low : Bool, exec (.holdupLow low) s = .next { s with hem := { s.hem with holdupLow := low } }

/-- The watchdog. A configuration starts FIRST, ends the watchdog or waits for the next period, as a roll-call mask does, and is
LOCKED once locked; check-ins are latched for tasks of the mask; a change of WDI is too early, in
time or without effect by its stamp; the closed window opens, a window that ends drives WDO, and
after the pulse FIRST follows (R350-R355). Judging an edge by its stamp is log entry 73 (the
model's reading). -/
def Obligations.WatchdogServicesAndPulses : Prop :=
  ∀ (q : Req) (s : State),
    (Ready 0x0C01 q s → q.params.length = 12 →
      (s.hem.wd.enable = true → s.hem.wd.lock = true → Completes (.wdogConfig q) 0x0C01 q s .locked [0] (fun t => t = arrived q s)) ∧
      ∀ c : WdogCfg, s.hem.wd.enable = false ∨ s.hem.wd.lock = false →
        c = { t := clampNat 328 1966080 (fieldAt q.params 0 4)
              c := min (fieldAt q.params 4 4) (clampNat 328 1966080 (fieldAt q.params 0 4) - 4)
              wdoMs := clampNat 1 1000 (fieldAt q.params 8 2), enable := natBit (byteAt q.params 10) 0
              lock := natBit (byteAt q.params 10) 1, mask := (s.hem.wdNext.getD s.hem.wd).mask } →
        Completes (.wdogConfig q) 0x0C01 q s
          (if c.t = fieldAt q.params 0 4 ∧ c.c = fieldAt q.params 4 4 ∧ c.wdoMs = fieldAt q.params 8 2 then .done else .doneWithNote) []
          (fun t => t = { arrived q s with hem := t.hem } ∧
            (s.hem.wdSt = .disabled → c.enable = true →
              t.hem = { s.hem with wd := c, wdNext := none, wdSt := .first, wdStart := s.hem.ticks + 1, checkins := [] }) ∧
            (s.hem.wdSt = .disabled → c.enable = false → t.hem = { s.hem with wdNext := some c }) ∧
            (s.hem.wdSt = .pulse → t.hem = { s.hem with wdNext := some c }) ∧
            (s.hem.wdSt ≠ .disabled → s.hem.wdSt ≠ .pulse → c.enable = true → t.hem = { s.hem with wdNext := some c }) ∧
            (s.hem.wdSt ≠ .disabled → s.hem.wdSt ≠ .pulse → c.enable = false →
              t.hem = { s.hem with wd := { s.hem.wd with enable := false }, wdNext := some c, wdSt := .disabled }))) ∧
    (Ready 0x0C02 q s → q.params.length = 2 →
      (s.hem.wd.enable = true → s.hem.wd.lock = true → Completes (.rollcallConfig q) 0x0C02 q s .locked [0] (fun t => t = arrived q s)) ∧
      (s.hem.wd.enable = false ∨ s.hem.wd.lock = false → Completes (.rollcallConfig q) 0x0C02 q s .done [] (fun t =>
        t = { arrived q s with hem := { s.hem with wdNext := some { s.hem.wdNext.getD s.hem.wd with
          mask := BitVec.ofNat 16 (fieldAt q.params 0 2) } } }))) ∧
    (∀ k : Fin 16, Ready 0x0C03 q s → q.params = [byte k.val] →
      (s.hem.wd.mask.getLsbD k.val = false → Completes (.taskCheckin q) 0x0C03 q s .doneWithNote [] (fun t => t = arrived q s)) ∧
      (s.hem.wd.mask.getLsbD k.val = true → s.hem.wdSt = .pulse →
        Completes (.taskCheckin q) 0x0C03 q s .done [] (fun t => t = arrived q s)) ∧
      (s.hem.wd.mask.getLsbD k.val = true → s.hem.wdSt ≠ .pulse → Completes (.taskCheckin q) 0x0C03 q s .done [] (fun t =>
        t = { arrived q s with hem := { s.hem with checkins := t.hem.checkins } } ∧ (k.val, s.hem.ticks) ∈ t.hem.checkins ∧
        ∀ x, x.1 ≠ k.val → (x ∈ t.hem.checkins ↔ x ∈ s.hem.checkins)))) ∧
    (∀ (level : Bool) (stamp : Nat),
      (level = s.hem.wdi → exec (.wdiChange level stamp) s = .next s) ∧
      (level ≠ s.hem.wdi →
        (s.hem.wdSt = .disabled ∨ s.hem.wdSt = .pulse →
          exec (.wdiChange level stamp) s = .next { s with hem := { s.hem with wdi := level } }) ∧
        (s.hem.wdSt = .closed ∨ s.hem.wdSt = .opened → stamp < s.hem.wdStart + s.hem.wd.c →
          exec (.wdiChange level stamp) s = .next { s with hem := { s.hem with wdi := level, wdSt := .pulse, wdPulseAt := s.hem.ticks } }) ∧
        (s.hem.wdSt = .closed ∨ s.hem.wdSt = .opened → s.hem.wdStart + s.hem.wd.c ≤ stamp →
          s.hem.wdStart + s.hem.wd.t ≤ stamp ∨ s.hem.rollOk stamp = false →
          exec (.wdiChange level stamp) s = .next { s with hem := { s.hem with wdi := level } }) ∧
        (s.hem.rollOk stamp = true →
          (s.hem.wdSt = .first ∧ s.hem.wdStart ≤ stamp ∧ stamp < s.hem.wdStart + 8 * s.hem.wd.t) ∨ ((s.hem.wdSt = .closed ∨ s.hem.wdSt = .opened) ∧
            s.hem.wdStart + s.hem.wd.c ≤ stamp ∧ stamp < s.hem.wdStart + s.hem.wd.t) →
          exec (.wdiChange level stamp) s = .next { s with hem := { s.hem with
            wdi := level, wd := s.hem.wdNext.getD s.hem.wd, wdNext := none, wdStart := stamp
            wdSt := if (s.hem.wdNext.getD s.hem.wd).c = 0 then .opened else .closed
            checkins := s.hem.checkins.filter (fun x => decide (stamp ≤ x.2)) } }))) ∧
    exec .wdogOpen s = .next (if s.hem.wdSt = .closed ∧ s.hem.wdStart + s.hem.wd.c ≤ s.hem.ticks then
      { s with hem := { s.hem with wdSt := .opened } } else s) ∧
    exec .wdogExpiry s = .next (if (s.hem.wdSt = .first ∧ s.hem.wdStart + 8 * s.hem.wd.t ≤ s.hem.ticks) ∨
        ((s.hem.wdSt = .closed ∨ s.hem.wdSt = .opened) ∧ s.hem.wdStart + s.hem.wd.t ≤ s.hem.ticks) then
      { s with hem := { s.hem with wdSt := .pulse, wdPulseAt := s.hem.ticks } } else s) ∧
    (s.hem.wdSt ≠ .pulse ∨ s.hem.ticks < s.hem.wdPulseAt + (s.hem.wd.wdoMs * 32768 + 999) / 1000 → exec .wdogPulseEnd s = .next s) ∧
    (s.hem.wdSt = .pulse → s.hem.wdPulseAt + (s.hem.wd.wdoMs * 32768 + 999) / 1000 ≤ s.hem.ticks → exec .wdogPulseEnd s = .next { s with hem :=
      if (s.hem.wdNext.getD s.hem.wd).enable = true then
        { s.hem with wd := s.hem.wdNext.getD s.hem.wd, wdNext := none, wdSt := .first, wdStart := s.hem.ticks, checkins := [] }
      else { s.hem with wd := { s.hem.wd with enable := false }, wdSt := .disabled } })

/-! ## The host port (chapter 14) -/

/-- What is written to the two-wire port. The port acknowledges while its engine runs, it awaits no START or STOP and it is not cut off by a
late wake; else a byte changes nothing. POINTER_SET takes the pointer. Within the page a byte goes into the command window, clears the W1C
bits it names, or enters a port register. DOORBELL submits the window's first bytes as one command, which waits, unchecked while the manager
does not run, or is answered where it fails a check or waits ninth; takes a reply, which has then left; or sets DOOR_REJECT for a length
above 512. In BUSY a byte of the window or of DOORBELL is refused and sets NACK_BUSY (R395, R397-R401, R403-R406, R411, R541). Which byte of
DOORBELL a row stands for is log entry 75 (the model's reading). -/
def Obligations.HostPortBytesAreWritten : Prop :=
  ∀ s : State,
    (s.hp.engine = false ∨ s.off = true ∨ s.hp.await = true ∨ s.hp.deaf = true → (∀ v : BitVec 16, ∀ lo hi b : Byte,
      exec (.doorbellSubmit v) s = .next s ∧ exec (.doorbellTake v) s = .next s ∧ exec (.pointerSet lo hi) s = .next s ∧
      exec (.commandWindowWrite b) s = .next s ∧ exec (.w1cWrite b) s = .next s ∧ exec (.registerWrite b) s = .next s)) ∧
    (s.hp.txn = false → ∀ b : Byte,
      exec (.commandWindowWrite b) s = .next s ∧ exec (.w1cWrite b) s = .next s ∧ exec (.registerWrite b) s = .next s) ∧
    (s.hp.engine = true → s.off = false → s.hp.await = false → s.hp.deaf = false →
      (∀ lo hi : Byte, exec (.pointerSet lo hi) s = .next { s with hp := { s.hp with
        ptr := lo.toNat + 256 * hi.toNat, txn := true, nacked := false, snap := none } }) ∧
      (∀ (v : BitVec 16) (i : Instr), i = .doorbellSubmit v ∧ 1 ≤ v.toNat % 1024 ∨
          i = .doorbellTake v ∧ (v.toNat % 1024 = 0 ∧ natBit v.toNat 15 = true ∨ 512 < v.toNat % 1024) →
        (s.hp.st = .busy → ∃ t, exec i s = .next t ∧ t = { s with
          hp := { s.hp with flags := s.hp.flags ||| 0x40, ptr := 0x0052, txn := true, nacked := false, snap := none }
          router := t.router, seam := t.seam, pwr := t.pwr, clk := t.clk }) ∧
        (s.hp.st ≠ .busy → 512 < v.toNat % 1024 → ∃ t, exec i s = .next t ∧ t = { s with
          hp := { s.hp with flags := s.hp.flags ||| 0x20, doorLo := byte v.toNat, ptr := 0x0054, txn := true, nacked := false, snap := none }
          router := t.router, seam := t.seam, pwr := t.pwr, clk := t.clk })) ∧
      (∀ (v : BitVec 16) (bs : List Byte) (h : Hp), 1 ≤ v.toNat % 1024 → v.toNat % 1024 ≤ 512 → s.hp.st ≠ .busy →
        bs = Mem.reads s.hp.win 0 (v.toNat % 1024) →
        h = { s.hp with doorLo := byte v.toNat, ptr := 0x0054, txn := true, nacked := false, snap := none, st := .busy
                        len := v.toNat % 1024, rplLen := 0, rpl := [] } →
        (s.proto.running = false → exec (.doorbellSubmit v) s = .next { s with
          hp := h, proto := { s.proto with raw := s.proto.raw ++ [(.host, bs, s.hem.ticks, false)] } }) ∧
        (s.proto.running = true →
          (8 ≤ s.proto.waiting.length → exec (.doorbellSubmit v) s = .next (answer (packetOf .host false s.hem.ticks bs) .busy [1]
            { resume s with hp := h, proto := { s.proto with flags := s.proto.flags ||| 0x4 } })) ∧
          (s.proto.waiting.length < 8 →
            (receiveCheck bs = none → (∀ p ∈ s.proto.waiting, p.fail = none) → exec (.doorbellSubmit v) s = .next { resume s with
              hp := h
              proto := { s.proto with waiting := s.proto.waiting ++
                [{ src := .host, op := fieldAt bs 2 2, ver := byteAt bs 0, tag := byteAt bs 1
                   params := (bs.drop 6).take (fieldAt bs 4 2), rx := s.hem.ticks, bcast := false }] } }) ∧
            (∀ st l, receiveCheck bs = some (st, l) → s.proto.waiting = [] → s.proto.exec = none →
              exec (.doorbellSubmit v) s = .next (answer (packetOf .host false s.hem.ticks bs) st l { resume s with hp := h }))))) ∧
      (∀ (v : BitVec 16) (h : Hp), v.toNat % 1024 = 0 → natBit v.toNat 15 = true →
        h = { s.hp with doorLo := byte v.toNat, ptr := 0x0054, txn := true, nacked := false, snap := none } →
        (s.hp.st = .idle → exec (.doorbellTake v) s = .next { s with hp := h }) ∧
        (s.hp.st = .replyReady → ∃ t, exec (.doorbellTake v) s = .next t ∧
          t = { s with hp := { h with st := .idle, untaken := s.hp.untaken.dropLast }
                       seam := { s.seam with addr := t.seam.addr, addrNext := t.seam.addrNext } } ∧
          (s.seam.addrNext = none → t.seam = s.seam) ∧
          ∀ a n, s.seam.addrNext = some (a, n) → s.hp.untaken = [n] → (∀ x ∈ s.proto.outbox, x.1 ≠ n) →
            s.seam.a.replyOut n = false → s.seam.b.replyOut n = false → (∀ x ∈ s.seam.bcastDue, x.2.2 ≠ n) →
            t.seam = { s.seam with addr := some a, addrNext := none })) ∧
      (s.hp.txn = true → ∀ b : Byte,
        (0x8000 ≤ s.hp.ptr → s.hp.ptr ≤ 0x81FF → s.hp.st = .busy → ∃ t, exec (.commandWindowWrite b) s = .next t ∧ t = { s with
          hp := { s.hp with flags := s.hp.flags ||| 0x40 }, router := t.router, seam := t.seam, pwr := t.pwr, clk := t.clk }) ∧
        (0x8000 ≤ s.hp.ptr → s.hp.ptr ≤ 0x81FF → s.hp.st ≠ .busy → s.hp.win.wf = true →
          ∃ t, exec (.commandWindowWrite b) s = .next t ∧ t = { s with hp := { s.hp with
            win := t.hp.win, ptr := s.hp.ptr / 64 * 64 + (s.hp.ptr % 64 + 1) % 64 } } ∧
          ∀ a, t.hp.win.read a = if a = s.hp.ptr - 0x8000 then b else s.hp.win.read a) ∧
        (∀ k : Nat, k < 4 → s.hp.ptr = 0x34 + k → exec (.w1cWrite b) s = .next { s with
          land := { s.land with flags := s.land.flags &&& ~~~ (BitVec.ofNat 32 (b.toNat * 256 ^ k) &&& 0xC7C000) }
          hp := { s.hp with ptr := 0x35 + k } }) ∧
        (s.hp.ptr = 0x5A → exec (.w1cWrite b) s = .next { s with hp := { s.hp with
          ptr := 0x5B, flags := s.hp.flags &&& ~~~ (BitVec.ofNat 16 b.toNat &&& 0x7F) } }) ∧
        (∀ (c : Fin 256) (k : Nat), k < 2 → s.hp.ptr = 0x40C + 16 * c.val + k → ∃ t, exec (.w1cWrite b) s = .next t ∧
          t.cells[c].flags = s.cells[c].flags &&& ~~~ (BitVec.ofNat 16 (b.toNat * 256 ^ k) &&& 0x3FF) ∧
          t.rails = s.rails ∧ t.proto = s.proto ∧ ∀ d : Fin 256, d ≠ c → t.cells[d] = s.cells[d]) ∧
        (s.hp.ptr = 0x52 ∨ s.hp.ptr = 0x53 → s.hp.st = .busy → ∃ t, exec (.registerWrite b) s = .next t ∧ t = { s with
          hp := { s.hp with flags := s.hp.flags ||| 0x40 }, router := t.router, seam := t.seam, pwr := t.pwr, clk := t.clk }) ∧
        (s.hp.ptr = 0x52 → s.hp.st ≠ .busy →
          exec (.registerWrite b) s = .next { s with hp := { s.hp with ptr := 0x53, doorLo := b } }) ∧
        (s.hp.ptr = 0x53 → s.hp.st ≠ .busy →
          (s.hp.doorLo = 0 → b = 0 → exec (.registerWrite b) s = .next { s with hp := { s.hp with ptr := 0x54 } }) ∧
          (512 < (s.hp.doorLo.toNat + 256 * b.toNat) % 1024 → ∃ t, exec (.registerWrite b) s = .next t ∧ t = { s with
            hp := { s.hp with ptr := 0x54, flags := s.hp.flags ||| 0x20 }, router := t.router, seam := t.seam, pwr := t.pwr
            clk := t.clk })) ∧
        (s.hp.ptr = 0x56 → exec (.registerWrite b) s = .next { s with hp := { s.hp with ptr := 0x57, ctl := b.toNat % 8 } }) ∧
        (s.hp.ptr = 0x57 → exec (.registerWrite b) s = .next { s with hp := { s.hp with ptr := 0x58, tScl := b.toNat } }) ∧
        (s.hp.ptr = 0x58 → exec (.registerWrite b) s = .next { s with hp := { s.hp with ptr := 0x59, tSda := b.toNat } }) ∧
        (s.hp.ptr < 0x34 → exec (.registerWrite b) s = .next { s with hp := { s.hp with ptr := (s.hp.ptr + 1) % 64 } })))

/-- What the two-wire port does by itself. The first reply delivered is placed in the reply window of a BUSY port, which is then
REPLY_READY; the oldest reply without TAKE has left the module 10 ms after it was placed, and an address that waited for it takes effect.
Time-outs and a START or STOP inside a byte reset port state with their flag, the module's own hold of SCL not counted; pulses seen while a
START or STOP is awaited set RECOVERED; the recogniser holds SCL and requests a wake, until the engine runs and takes the transaction over
or 5 ms have passed; and none of them acts where the port is not powered as it needs (R395, R403, R405, R409-R411, R541). -/
def Obligations.HostPortRepliesTimeoutsAndWakes : Prop :=
  ∀ s : State,
    (s.proto.outbox = [] ∨ s.hp.st ≠ .busy → exec .replyReady s = .next s) ∧
    (∀ (n : Nat) (r : Reply) rest, s.proto.outbox = (n, r) :: rest → s.hp.st = .busy → exec .replyReady s = .next { s with
      hp := { s.hp with st := .replyReady, rpl := r.bytes, rplLen := r.bytes.length, untaken := s.hp.untaken ++ [n] }
      proto := { s.proto with outbox := rest } }) ∧
    (s.hp.untaken = [] → exec .replyTakeTimeout s = .next s) ∧
    (∀ n rest, s.hp.untaken = n :: rest → ∃ t, exec .replyTakeTimeout s = .next t ∧
      t = { s with hp := { s.hp with untaken := rest }, seam := { s.seam with addr := t.seam.addr, addrNext := t.seam.addrNext } } ∧
      (s.seam.addrNext = none → t.seam = s.seam) ∧
      ∀ a, s.seam.addrNext = some (a, n) → n ∉ rest → (∀ x ∈ s.proto.outbox, x.1 ≠ n) →
        s.seam.a.replyOut n = false → s.seam.b.replyOut n = false → (∀ x ∈ s.seam.bcastDue, x.2.2 ≠ n) →
        t.seam = { s.seam with addr := some a, addrNext := none }) ∧
    (s.hp.engine = false ∨ s.off = true ∨ s.hp.await = true →
      exec .sclTimeout s = .next s ∧ exec .sdaTimeout s = .next s ∧ exec .busAbort s = .next s) ∧
    (s.hp.held = true → exec .sclTimeout s = .next s) ∧ (s.hp.deaf = true → exec .sdaTimeout s = .next s) ∧
    (s.hp.engine = true → s.off = false → s.hp.await = false →
      (s.hp.held = false → ∃ t, exec .sclTimeout s = .next t ∧ PortReset s t 0x1) ∧
      (s.hp.deaf = false → ∃ t, exec .sdaTimeout s = .next t ∧ PortReset s t 0x2) ∧
      (∃ t, exec .busAbort s = .next t ∧ PortReset s t 0x4)) ∧
    (s.hp.engine = false ∨ s.off = true ∨ (s.hp.await = false ∧ s.hp.nacked = false) → exec .recovered s = .next s) ∧
    (s.hp.engine = true → s.off = false → s.hp.await = true ∨ s.hp.nacked = true → ∃ t, exec .recovered s = .next t ∧ t = { s with
      hp := { s.hp with flags := s.hp.flags ||| 0x8 }, router := t.router, seam := t.seam, pwr := t.pwr, clk := t.clk }) ∧
    (s.hp.engine = true ∨ s.off = true → exec .twoWireWake s = .next s ∧ exec .engineHandover s = .next s) ∧
    (s.hp.engine = false → s.off = false → ∃ t, exec .twoWireWake s = .next t ∧ t = { s with
        hp := { s.hp with held := true, await := false, deaf := false, nacked := false, snap := none }, pwr := t.pwr, clk := t.clk } ∧
      (s.pwr.st = .hibernate → s.pwr.wake = none → t.pwr.wake = some .twoWire)) ∧
    (s.hp.engine = false → s.off = false → s.pwr.st = .hibernate → exec .engineHandover s = .next s) ∧
    (s.hp.engine = false → s.off = false → s.pwr.st ≠ .hibernate →
      (s.hp.held = true → exec .engineHandover s = .next { s with hp := { s.hp with engine := true, held := false } }) ∧
      (s.hp.held = false → s.hp.deaf = true → exec .engineHandover s = .next { s with hp := { s.hp with engine := true } }) ∧
      (s.hp.held = false → s.hp.deaf = false → exec .engineHandover s = .next { s with
        hp := { s.hp with engine := true, txn := false, await := true, nacked := false, snap := none } })) ∧
    (s.hp.held = false → exec .wakeSlow s = .next s) ∧
    (s.hp.held = true → ∃ t, exec .wakeSlow s = .next t ∧ t = { s with
      hp := { s.hp with flags := s.hp.flags ||| 0x10, held := false, deaf := true }, router := t.router, seam := t.seam, pwr := t.pwr
      clk := t.clk })

/-! ## The Seam link (chapter 15) -/

/-- The link states of a port. A powered port that is DOWN trains once synchronised; three identical
link words without a common version fail it, and with ACK and a measured delay bring it UP; loss
of synchronisation, a link word while UP, time-outs and CRC failures take it down; phantom power
goes off for an overload; WAKE frames held for a link that does not come up are dropped one by one; a frame sent lets the next be
served, a SYNC of the module's own with the count of that instant (R416-R420, R430, R435-R437, R448). The frames dropped with a link are log
entry 77 (the model's reading). -/
def Obligations.SeamPortsTrainAndFail : Prop :=
  ∀ (p : Port) (s : State),
    (s.off = true ∨ (s.seam.port p).powered = false → exec (.linkSync p) s = .next s) ∧
    (s.off = false → (s.seam.port p).powered = true →
      ((s.seam.port p).link = .down → (s.seam.port p).verWait = false → ∃ t, exec (.linkSync p) s = .next t ∧ OnePort p s t ∧
        (t.seam.port p).link = .training ∧ (t.seam.port p).sync = true ∧ (t.seam.port p).dlyOk = false) ∧
      ((s.seam.port p).link ≠ .down ∨ (s.seam.port p).verWait = true → exec (.linkSync p) s = .next { s with
        seam := s.seam.modPort p (fun y => { y with sync := true }) })) ∧
    ((s.seam.port p).link = .down ∨ (s.seam.port p).link = .faulty → exec (.linkSyncLost p) s = .next { s with
      seam := s.seam.modPort p (fun y => { y with sync := false }) }) ∧
    ((s.seam.port p).link = .training ∨ (s.seam.port p).link = .up → ∃ t, exec (.linkSyncLost p) s = .next t ∧ OnePort p s t ∧
      (t.seam.port p).link = .down ∧ (t.seam.port p).sync = false ∧
      ((s.seam.port p).link = .up → (t.seam.port p).queue = [] ∧ (t.seam.port p).sending = none ∧
        t.seam.flags = s.seam.flags ||| (if p = .a then 0x2 else 0x4))) ∧
    (∀ (w : BitVec 16) (rt : Nat) (x : PortSt), x = (s.seam.port p).takeWord w rt →
      ((s.seam.port p).link = .down ∨ (s.seam.port p).link = .faulty → exec (.linkWord p w rt) s = .next s) ∧
      ((s.seam.port p).link = .up → ∃ t, exec (.linkWord p w rt) s = .next t ∧ OnePort p s t ∧ (t.seam.port p).link = .down) ∧
      ((s.seam.port p).link = .training →
        (x.steady = false → exec (.linkWord p w rt) s = .next { s with seam := s.seam.modPort p (fun _ => x) }) ∧
        (x.steady = true → commonVersion w = none → ∃ t, exec (.linkWord p w rt) s = .next t ∧ OnePort p s t ∧
          (t.seam.port p).link = .down ∧ (t.seam.port p).verWait = true ∧ t.seam.flags = s.seam.flags ||| 0x10) ∧
        (∀ v, x.steady = true → commonVersion w = some v → w.getLsbD 8 = true → x.dlyOk = true →
          ∃ t, exec (.linkWord p w rt) s = .next t ∧ OnePort p s t ∧ (t.seam.port p).link = .up ∧ (t.seam.port p).ver = v) ∧
        (∀ v, x.steady = true → commonVersion w = some v → w.getLsbD 8 = false ∨ x.dlyOk = false →
          exec (.linkWord p w rt) s = .next { s with seam := s.seam.modPort p (fun _ => x) }))) ∧
    ((s.seam.port p).link ≠ .training → exec (.trainingTimeout p) s = .next s) ∧
    ((s.seam.port p).link = .training → ∃ t, exec (.trainingTimeout p) s = .next t ∧ OnePort p s t ∧ (t.seam.port p).link = .down) ∧
    (∃ t, exec (.verRetry p) s = .next t ∧ OnePort p s t ∧ (t.seam.port p).verWait = false ∧ (t.seam.port p).link =
      if (s.seam.port p).verWait = true ∧ (s.seam.port p).link = .down ∧ (s.seam.port p).sync = true ∧
        (s.seam.port p).powered = true then .training else (s.seam.port p).link) ∧
    ((s.seam.port p).link ≠ .up → exec (.faulty p) s = .next s) ∧
    ((s.seam.port p).link = .up → ∃ t, exec (.faulty p) s = .next t ∧ OnePort p s t ∧ (t.seam.port p).link = .faulty ∧
      t.seam.flags = s.seam.flags ||| (if p = .a then 0xA else 0xC)) ∧
    ((s.seam.port p).link ≠ .faulty → exec (.faultySeen p) s = .next s) ∧
    ((s.seam.port p).link = .faulty → ∃ t, exec (.faultySeen p) s = .next t ∧ OnePort p s t ∧ (t.seam.port p).link = .training ∧
      t.seam.flags = s.seam.flags) ∧
    ((s.seam.port p).link ≠ .down ∨ (s.seam.port p).powered = false ∨ s.off = true → exec (.probeBurst p) s = .next s) ∧
    ((s.seam.port p).link = .down → (s.seam.port p).powered = true → s.off = false → exec (.probeBurst p) s = .next { s with
      seam := s.seam.modPort p (fun y => { y with burst := true }) }) ∧
    (vinUsable s = false ∨ (s.seam.port p).phOver = true → exec (.phOverload p) s = .next s) ∧
    (vinUsable s = true → (s.seam.port p).phOver = false → ∃ t, exec (.phOverload p) s = .next t ∧ OnePort p s t ∧
      PortSame { s.seam.port p with phOver := true } (t.seam.port p) ∧ t.seam.flags = s.seam.flags ||| 0x20) ∧
    exec (.phantomRestore p) s = .next { s with seam := s.seam.modPort p (fun y => { y with phOver := false }) } ∧
    ((s.seam.port p).heldWake = [] → exec (.wakeForwardTimeout p) s = .next s) ∧
    ((s.seam.port p).heldWake ≠ [] → ∃ t, exec (.wakeForwardTimeout p) s = .next t ∧ t = { s with seam := t.seam } ∧ OnePort p s t ∧
      t.seam.port p = { s.seam.port p with
        heldWake := (s.seam.port p).heldWake.tail, pattern := (t.seam.port p).pattern, powered := (t.seam.port p).powered } ∧
      ((s.seam.port p).heldWake.tail = [] → (t.seam.port p).pattern = false) ∧
      ((s.seam.port p).heldWake.tail ≠ [] ∨ s.pwr.st ≠ .hibernate → (t.seam.port p).powered = (s.seam.port p).powered) ∧
      t.seam.fwdDrops = min (s.seam.fwdDrops + 1) 65535) ∧
    ((s.seam.port p).powered = true ∨ s.off = true → exec (.seamWakeSignal p) s = .next s) ∧
    ((s.seam.port p).powered = false → s.off = false → ∃ t, exec (.seamWakeSignal p) s = .next t ∧
      t = { s with pwr := t.pwr, clk := t.clk } ∧ (s.pwr.st = .hibernate → s.pwr.wake = none → t.pwr.wake = some (.seamSignal p))) ∧
    ((s.seam.port p).sending = none → exec (.seamFrameSent p) s = .next s) ∧
    ((s.seam.port p).sending ≠ none → s.seam.addrNext = none → exec (.seamFrameSent p) s = .next { s with
      seam := s.seam.modPort p (fun y => { y with sending := y.queue.head?.map (QFrame.stamped s.hem.count), queue := y.queue.tail }) }) ∧
    (∀ f : Frame, f.ftype = 4 → f.hops = 0 → byteAt f.payload 0 = 0 → ∀ q : QFrame, q.frame = f →
      (QFrame.stamped s.hem.count q).frame = { f with payload := f.payload.take 4 ++ leBytes 8 s.hem.count ++ f.payload.drop 12 })

/-- Frames. One for the module alone, whose bytes meet the checks of R424, from a source not yet heard, is judged new and acted on by its
type: a COMMAND waits for execution, a SYNC sets the offset and slews or steps the count, an ANNOUNCE is kept, a fault echo acts once on the
domain, a WAKE wakes, and EVENT and TELEMETRY are for hosts. A repetition is not acted on; a CRC failure is counted, and a copy of the frame
that had begun on the other port is spoiled; a frame of another form, type or FFLAGS counts in RX_BAD and a TIME frame of a reserved kind is
discarded; a frame for another goes on with one hop more (R421, R422, R424, R427-R431, R434, R435, R438, R439, R442). Which frames wake a
module is log entry 78, and what of a spoiled copy is log entry 161 (the model's readings). -/
def Obligations.FramesAreDelivered : Prop :=
  ∀ (p : Port) (w : Wire) (f : Frame) (s : State),
    (ForUs p w f s → s.proto.running = true →
      (f.ftype = 1 → s.proto.waiting.length < 8 → (∀ x ∈ s.proto.waiting, x.fail = none) → receiveCheck f.payload = none →
        ∃ t, exec (.command p w) s = .next t ∧ Elsewhere s t ∧
        (Frame.srcAddr f, f.seq, 1, s.hem.ticks) ∈ t.seam.dups ∧ t.proto = { s.proto with waiting := s.proto.waiting ++
          [{ src := .seam (Frame.srcAddr f), op := fieldAt f.payload 2 2, ver := byteAt f.payload 0, tag := byteAt f.payload 1,
             params := (f.payload.drop 6).take (fieldAt f.payload 4 2), rx := s.hem.ticks, bcast := false }] }) ∧
      (f.ftype = 2 → ∃ t, exec (.reply p w) s = .next t ∧ Heard f s t ∧ t.proto = { s.proto with versions := t.proto.versions } ∧
        (helloVersion f.payload = none → t.proto = s.proto) ∧ ∀ v, helloVersion f.payload = some v →
          t.proto.versions = noteVersion (.seam (Frame.srcAddr f)) v true s.proto.versions) ∧
      (f.ftype = 3 → ∃ t, exec (.event p w) s = .next t ∧ Heard f s t ∧ t.proto = s.proto) ∧
      (f.ftype = 5 → ∃ t, exec (.telemetry p w) s = .next t ∧ Heard f s t ∧ t.proto = s.proto) ∧
      (f.ftype = 7 → f.payload = [] → ∃ t, exec (.wake p w) s = .next t ∧ Heard f s t ∧ t.proto = s.proto ∧
        (s.pwr.st = .hibernate → s.pwr.wake = none → t.pwr.wake = some (.seamFrame p))) ∧
      (∀ phase resid : Nat, f.ftype = 4 → byteAt f.payload 0 = 0 →
        (isMaster s = true → ∃ t, exec (.sync p w phase resid) s = .next t ∧ Heard f s t ∧ t.proto = s.proto) ∧
        ∀ o : Int, isMaster s = false → o = syncOffset s p f phase →
          ∃ t, exec (.sync p w phase resid) s = .next t ∧ Elsewhere s t ∧ t.seam.ofs = o ∧ t.seam.lastSync = some s.hem.ticks ∧
          (s.hem.disc ≠ .tracking → o.natAbs ≤ 65536 → t.hem.count = s.hem.count ∧ t.hem.slewLeft = -o) ∧
          (65536 < o.natAbs → t.hem.count = (((s.hem.count : Int) - o) % (2 ^ 64 : Int)).toNat ∧ t.seam.flags.getLsbD 9 = true)) ∧
      (f.ftype = 4 → byteAt f.payload 0 = 1 → fieldAt f.payload 4 2 % 4096 ≠ s.seam.domain → ∃ t, exec (.announce p w) s = .next t ∧
        t = { s with free := s.free + 1, seam := { s.seam with dups := t.seam.dups, members := t.seam.members }, pwr := t.pwr
                     clk := t.clk } ∧
        t.seam.members = memberOf f s.hem.ticks :: s.seam.members.filter (fun x => decide (x.addr ≠ Frame.srcAddr f))) ∧
      (f.ftype = 6 → s.seam.echoes = [] →
        (byteAt f.payload 0 = 0 ∨ 3 < byteAt f.payload 0 → ∃ t, exec (.faultEcho p w) s = .next t ∧ Heard f s t ∧ t.proto = s.proto) ∧
        (∀ x, byteAt f.payload 0 = 1 → s.dom.fnAt = some x → s.hem.ticks ≤ x + 2 → ∃ t, exec (.faultEcho p w) s = .next t ∧
          Elsewhere s t ∧ t.proto = s.proto) ∧
        (byteAt f.payload 0 = 1 → (∀ x, s.dom.fnAt = some x → x + 4 < s.hem.ticks) →
          ∃ t, exec (.faultEcho p w) s = .next t ∧ t.dom.st = .latched ∧ t.armQ = [] ∧
          (∀ c : Fin 256, t.cells[c] = if s.cells[c].st = .retired then s.cells[c] else s.cells[c].turnOff) ∧
          (Frame.srcAddr f, byteAt f.payload 1, s.hem.ticks) ∈ t.seam.echoes) ∧
        (byteAt f.payload 0 = 2 → s.dom.st = .down → ∃ t, exec (.faultEcho p w) s = .next t ∧ t.dom.st = .latched ∧ t.cells = s.cells) ∧
        (byteAt f.payload 0 = 3 → s.dom.st ≠ .rising → s.dom.st ≠ .up → ∃ t, exec (.faultEcho p w) s = .next t ∧ t.dom.st = s.dom.st ∧
          t.cells = s.cells))) ∧
    (ForUs p w f s → f.ftype = 1 → s.proto.running = false → s.seam.rxBuf.length < 8 → ∃ t, exec (.command p w) s = .next t ∧
      t.seam.rxBuf = s.seam.rxBuf ++ [(p, { f with hops := (f.hops + 1) % 4096 }, s.hem.ticks, 0)] ∧ t.proto = s.proto ∧ Elsewhere s t) ∧
    (s.off = true ∨ (s.seam.port p).link ≠ .up → exec (.event p w) s = .next s ∧ exec (.wake p w) s = .next s) ∧
    (s.off = false → (s.seam.port p).link = .up → (s.seam.port p).ver = 2 →
      (Wire.read w = .badForm ∨ (Wire.read w = .good f ∧ (f.ftype = 0 ∨ 7 < f.ftype ∨ (f.ftype = 7 ∧ f.payload ≠ []) ∨
          Frame.flagsOk f = false)) →
        exec (.event p w) s = .next { s with seam := { s.seam with rxBad := min (s.seam.rxBad + 1) 65535 } }) ∧
      (Wire.read w = .good f → f.ftype = 4 → 2 ≤ byteAt f.payload 0 → Frame.flagsOk f = true → exec (.announce p w) s = .next s) ∧
      (∀ m, Wire.read w = .good f → f.ftype = 3 → Frame.flagsOk f = true → Frame.hopr f = false → Frame.srcNone f = false →
        s.seam.addr ≠ some (Frame.srcAddr f) → m.getLsbD 0 = true → s.seam.dups = [(Frame.srcAddr f, f.seq, m, s.hem.ticks)] →
        ∃ t, exec (.event p w) s = .next t ∧ t = { s with seam := { s.seam with dups := t.seam.dups } }) ∧
      (Wire.read w = .badCrc f → ∃ t, exec (.event p w) s = .next t ∧ t = { s with seam := t.seam } ∧
        t.seam.port p = { s.seam.port p with crcErrs := min ((s.seam.port p).crcErrs + 1) 65535 } ∧ t.seam.dups = s.seam.dups ∧
        PortSame (s.seam.port (Port.other p)) (t.seam.port (Port.other p))) ∧
      (∀ m : Frame, f.ftype = 3 → f.fflags = 0 → Frame.srcNone f = true → s.seam.addr ≠ some f.dst → 1 < f.rem →
        (s.seam.port (Port.other p)).link = .up → (s.seam.port (Port.other p)).ver ≠ 1 → (s.seam.port (Port.other p)).sending = none →
        m = { f with hops := (f.hops + 1) % 4096, rem := f.rem - 1 } →
        (Wire.read w = .good f → ∃ t, exec (.event p w) s = .next t ∧ OnePort (Port.other p) s t ∧
          (t.seam.port (Port.other p)).sending = some { cls := 2, frame := m, reply := none, stream := none }) ∧
        (Wire.read w = .badCrc f → ∃ t, exec (.event p w) s = .next t ∧
          (t.seam.port (Port.other p)).sending = some { cls := 2, frame := m, reply := none, stream := none, spoiled := true })))

/-- Domains. The module announces itself and, as time master, its time; a delayed reply and the second
copy of an echo are sent; agreement is evaluated to ALONE, GATHERING, AGREED or DISAGREE;
DOMAIN_JOIN, SEAM_ADDRESS_SET and TIME_MASTER are taken (R426, R428, R429, R433, R437, R441, R443,
R444, R450). The TAG of a HELLO is free, log entry 80; 300 ms is 9,830 ticks, entry 56. -/
def Obligations.DomainsAreJoinedAndJudged : Prop :=
  ∀ s : State,
    (s.seam.bcastDue = [] → exec .bcastReplyDue s = .next s) ∧
    (∀ a r n rest, s.seam.bcastDue = (.seam a, r, n) :: rest → ∃ t, exec .bcastReplyDue s = .next t ∧ t = { s with seam := t.seam } ∧
      t.seam.bcastDue = rest ∧ ∀ m, s.seam.addr = some m → t.seam.seq = (s.seam.seq + 1) % 65536 ∧
        ((s.seam.a).link = .up → (s.seam.a).ver ≠ 1 → (s.seam.a).sending = none → ∃ x, (t.seam.a).sending = some x ∧ x.reply = some n ∧
          x.frame.ftype = 2 ∧ x.frame.dst = a ∧ x.frame.src = BitVec.ofNat 16 m ∧ x.frame.payload = r.bytes)) ∧
    (s.proto.running = false ∨ s.pwr.st = .hibernate ∨ s.off = true ∨ s.seam.addr = none →
      exec .announceDue s = .next s ∧ exec .syncDue s = .next s) ∧
    (isMaster s = false → exec .syncDue s = .next s) ∧
    (∀ m, s.proto.running = true → s.pwr.st ≠ .hibernate → s.off = false → s.seam.addr = some m →
      (∃ t, exec .announceDue s = .next t ∧ t = { s with seam := t.seam } ∧ t.seam.seq = (s.seam.seq + 1) % 65536 ∧
        ((s.seam.a).link = .up → (s.seam.a).ver ≠ 1 → (s.seam.a).sending = none → ∃ x, (t.seam.a).sending = some x ∧
          x.frame.ftype = 4 ∧ x.frame.fflags = 1 ∧ x.frame.src = BitVec.ofNat 16 m ∧ x.frame.payload = announcePayload s)) ∧
      (isMaster s = true → ∃ t, exec .syncDue s = .next t ∧ t = { s with seam := t.seam } ∧ t.seam.seq = (s.seam.seq + 1) % 65536 ∧
        ((s.seam.a).link = .up → (s.seam.a).ver ≠ 1 → (s.seam.a).sending = none → ∃ x, (t.seam.a).sending = some x ∧
          x.frame.ftype = 4 ∧ x.frame.fflags = 2 ∧ x.frame.domain = s.seam.domain ∧
          x.frame.payload = [0, byte (b2n s.hem.suspect), 0, 0] ++ leBytes 8 s.hem.count ++ List.replicate 12 0))) ∧
    (s.dom.echoSecond = [] → exec .echoRepeat s = .next s) ∧
    (∀ pay rest, s.dom.echoSecond = pay :: rest → ∃ t, exec .echoRepeat s = .next t ∧
      t = { s with seam := t.seam, dom := { s.dom with echoSecond := rest } } ∧
      ∀ m, s.seam.addr = some m → t.seam.seq = (s.seam.seq + 1) % 65536 ∧
        ((s.seam.a).link = .up → (s.seam.a).ver ≠ 1 → pay.length ≤ 256 → ∃ x, (t.seam.a).sending = some x ∧
          x.frame.ftype = 6 ∧ x.frame.domain = s.seam.domain ∧ x.frame.payload = pay)) ∧
    (s.proto.running = false ∨ s.pwr.st = .hibernate ∨ s.off = true → exec .agreementEval s = .next s) ∧
    (s.proto.running = true → s.pwr.st ≠ .hibernate → s.off = false → ∃ t, exec .agreementEval s = .next t ∧ t.cells = s.cells ∧
      (s.dom.upWait = false → t.dom = s.dom ∧ t.rails = s.rails) ∧
      (s.seam.addr = none ∨ s.seam.domain = 0 → t.seam.agree = .alone ∧ t.seam.master = none) ∧
      (s.seam.addr ≠ none → s.seam.domain ≠ 0 → s.hem.ticks < s.seam.gatherEnd → t.seam.agree = .gathering) ∧
      (s.seam.addr ≠ none → s.seam.domain ≠ 0 → s.seam.gatherEnd ≤ s.hem.ticks →
        t.seam.agree = (if disagreeCauses s = 0 then .agreed else .disagree) ∧ t.seam.causes = disagreeCauses s)) ∧
    ∀ q : Req,
      (Ready 0x1102 q s → q.params.length = 4 →
        (s.dom.st ≠ .down → s.dom.st ≠ .latched →
          Completes (.domainJoin q) 0x1102 q s .refusedState [3, byte s.dom.st.code, 0xFF, 0] (fun t => t = arrived q s)) ∧
        (s.dom.st = .down ∨ s.dom.st = .latched → s.seam.agree = .gathering →
          Completes (.domainJoin q) 0x1102 q s .refusedState [10, 1, 0xFF, 0] (fun t => t = arrived q s)) ∧
        (s.dom.st = .down ∨ s.dom.st = .latched → s.seam.agree ≠ .gathering → Completes (.domainJoin q) 0x1102 q s .done [] (fun t =>
          Elsewhere s t ∧ t.seam.domain = fieldAt q.params 0 2 % 4096 ∧ t.seam.domainStored = fieldAt q.params 0 2 % 4096 ∧
          t.seam.agree = if fieldAt q.params 0 2 % 4096 = 0 ∨ s.seam.addr = none then .alone else .gathering))) ∧
      (Ready 0x1104 q s → q.params.length = 2 →
        (s.dom.st ≠ .down → s.dom.st ≠ .latched →
          Completes (.seamAddressSet q) 0x1104 q s .refusedState [3, byte s.dom.st.code, 0xFF, 0] (fun t => t = arrived q s)) ∧
        (s.dom.st = .down ∨ s.dom.st = .latched → Completes (.seamAddressSet q) 0x1104 q s .done [] (fun t =>
          t = { arrived q s with seam := { s.seam with addrNext := some (fieldAt q.params 0 2 % 4096, s.proto.replyNo) } }))) ∧
      (Ready 0x1105 q s → q.params.length = 2 → Completes (.timeMaster q) 0x1105 q s .done [] (fun t =>
        t = { arrived q s with seam := { s.seam with
          tm := if fieldAt q.params 0 2 = 0xFFFF then 0xFFFF else fieldAt q.params 0 2 % 4096 } }))

/-! ## Events (chapter 16) -/

/-- The router. EVENT_CONFIG sets an event, clearing what it held unless only its mask changes;
EVENT_CLAIM takes the lowest claimable event of a channel, or 1,023 with SPURIOUS; SOAK silences
every channel; an edge sets the pending bit of an enabled event, or the rearm mark of a claimed
one; and a moderation timer that is due presents what is claimable (R451, R453, R454, R456-R458,
R460-R463). Low levels on pulse lines and a timer without power are log entry 83 (the model's
reading). -/
def Obligations.EventsAreConfiguredRaisedAndClaimed : Prop :=
  ∀ (q : Req) (s : State),
    (∀ e : Fin 1024, Ready 0x0D01 q s → q.params.length = 4 → fieldAt q.params 0 2 = e.val →
      (eventExists e.val = false → Completes (.eventConfig q) 0x0D01 q s .doneWithNote [] (fun t => t = arrived q s)) ∧
      (eventExists e.val = true → Completes (.eventConfig q) 0x0D01 q s .done [] (fun t => Elsewhere s t ∧
        (∀ d : Fin 1024, d ≠ e → t.router.ev[d] = s.router.ev[d]) ∧ t.router.soak = s.router.soak ∧
        (natBit (byteAt q.params 2) 0 = true → s.router.ev[e].enable = true → s.router.ev[e].sensing = byteAt q.params 2 / 2 % 4 →
          t.router.ev[e] = { s.router.ev[e] with mask := byteAt q.params 3 % 16 }) ∧
        (natBit (byteAt q.params 2) 0 = false ∨ s.router.ev[e].enable = false ∨
            s.router.ev[e].sensing ≠ byteAt q.params 2 / 2 % 4 →
          t.router.ev[e] = { s.router.ev[e] with
            enable := natBit (byteAt q.params 2) 0, sensing := byteAt q.params 2 / 2 % 4, mask := byteAt q.params 3 % 16
            pending := natBit (byteAt q.params 2) 0 && decide (byteAt q.params 2 / 2 % 4 = 1) && s.router.ev[e].level
            claim := none, rearm := false })))) ∧
    (∀ c : Fin 4, Ready 0x0D02 q s → q.params.length = 1 → byteAt q.params 0 % 4 = c.val →
      (∀ e : Fin 1024, s.router.claimable c.val e = true → (∀ d : Fin 1024, d < e → s.router.claimable c.val d = false) →
        Completes (.eventClaim q) 0x0D02 q s .done (le16 e.val) (fun t => Elsewhere s t ∧
          t.router.ev[e] = { s.router.ev[e] with claim := some c.val } ∧ (∀ d : Fin 1024, d ≠ e → t.router.ev[d] = s.router.ev[d]) ∧
          t.router.ch[c].sub = subscriberOf q.src)) ∧
      ((∀ e : Fin 1024, s.router.claimable c.val e = false) → Completes (.eventClaim q) 0x0D02 q s .done [0xFF, 3] (fun t =>
        Elsewhere s t ∧ t.router.ch[c].sub = subscriberOf q.src ∧ (s.router.soak = false → s.off = false → t.router.spurious = true) ∧
        (s.router.soak = true → t.router.ev = s.router.ev ∧ t.router.spurious = s.router.spurious)))) ∧
    (Ready 0x0D04 q s → q.params.length = 1 → Completes (.soakSet q) 0x0D04 q s .done [] (fun t => Elsewhere s t ∧
      t.router.soak = natBit (byteAt q.params 0) 0 ∧ t.router.ev = s.router.ev ∧
      (natBit (byteAt q.params 0) 0 = true → ∀ c : Fin 4, t.router.ch[c].presenting = false))) ∧
    (∀ c : Fin 4, Ready 0x0D05 q s → q.params.length = 4 → byteAt q.params 0 % 4 = c.val →
      Completes (.moderationSet q) 0x0D05 q s .done [] (fun t => t = { arrived q s with router := { s.router with
        ch := upd s.router.ch c { s.router.ch[c] with minInt := fieldAt q.params 2 2 } } })) ∧
    (∀ (e : Fin 1024) (level : Bool),
      (eventExists e.val = false → exec (.eventLineEdge e level) s = .next s) ∧
      (conditionLine e.val = false → level = false ∨ s.router.ev[e].enable = false → exec (.eventLineEdge e level) s = .next s) ∧
      (eventExists e.val = true → s.pwr.lost = false → s.pwr.st = .run → s.router.ev[e].enable = true →
        (level = true → s.router.ev[e].claim = none →
          (conditionLine e.val = false ∨ (s.router.ev[e].sensing = 0 ∧ s.router.ev[e].level = false) ∨ s.router.ev[e].sensing = 1) →
          ∃ t, exec (.eventLineEdge e level) s = .next t ∧ Elsewhere s t ∧ t.router.ev[e].pending = true ∧
            t.router.ev[e].rearm = s.router.ev[e].rearm ∧ ∀ d : Fin 1024, d ≠ e → t.router.ev[d] = s.router.ev[d]) ∧
        (level = true → s.router.ev[e].claim ≠ none → s.router.ev[e].level = false → s.router.ev[e].sensing = 0 → e ≠ 574 →
          ∃ t, exec (.eventLineEdge e level) s = .next t ∧ Elsewhere s t ∧ t.router.ev[e].rearm = true ∧
            t.router.ev[e].pending = s.router.ev[e].pending))) ∧
    ∀ c : Fin 4, (s.off = true → exec (.moderationDue c) s = .next s) ∧
      (s.off = false → ∃ t, exec (.moderationDue c) s = .next t ∧ t = { s with router := t.router, seam := t.seam } ∧
        t.router.ev = s.router.ev ∧
        ((∀ e : Fin 1024, s.router.claimable c.val e = false) → t.router.ch[c].presenting = false ∧ t.router.ch[c].timing = false) ∧
        ((∃ e : Fin 1024, s.router.claimable c.val e = true) → t.router.ch[c].presenting = true ∧
          (s.router.ch[c].presenting = false → t.router.ch[c].timing = decide (s.router.ch[c].minInt ≠ 0))))

/-- EVENT_DONE. Naming an event and the channel that claims it, it releases the claim and clears the pending bit, which a rearmed event keeps,
as does a level event whose line is high; the rearm mark is cleared. In every other case, no event changes but the router's own two lines,
and DONE_IGNORED is set; number 1,023 then replies DONE, and every other number DONE_WITH_NOTE (R459). -/
def Obligations.EventDoneReleasesTheClaim : Prop :=
  ∀ (e : Fin 1024) (q : Req) (s : State), Ready 0x0D03 q s → q.params.length = 4 → fieldAt q.params 0 2 = e.val →
    (s.router.ev[e].claim = some (byteAt q.params 2 % 4) → Completes (.eventDone q) 0x0D03 q s .done [] (fun t =>
      t = { arrived q s with router := t.router, seam := t.seam, pwr := t.pwr, clk := t.clk } ∧
      t.router.ev[e] = { s.router.ev[e] with
        claim := none, rearm := false
        pending := if s.router.ev[e].rearm = true then s.router.ev[e].pending
          else decide (s.router.ev[e].sensing = 1) && s.router.ev[e].level } ∧
      ∀ d : Fin 1024, d ≠ e → t.router.ev[d] = s.router.ev[d])) ∧
    (s.router.ev[e].claim ≠ some (byteAt q.params 2 % 4) →
      Completes (.eventDone q) 0x0D03 q s (if e.val = 1023 then .done else .doneWithNote) [] (fun t =>
        t = { arrived q s with router := t.router, seam := t.seam, pwr := t.pwr, clk := t.clk } ∧ t.router.doneIgnored = true ∧
        ∀ d : Fin 1024, d ≠ 573 → d ≠ 574 → t.router.ev[d] = s.router.ev[d]))

/-! ## Power states (chapter 17) -/

/-- Power states. A request is granted as deep as its refusers permit; RUN and DOZE are entered at
once, HIBERNATE when the reply has left, and SHIP when no source is left and no refuser refuses; a
wake leaves HIBERNATE with its record; refusal counts are kept (R325, R326, R466, R468-R470,
R472-R478). What STATE_ENTER replaces is log entry 65 (the model's reading). -/
def Obligations.PowerStatesAreEnteredAndLeft : Prop :=
  ∀ (q : Req) (s : State),
    (Turn 0x0E01 q s → q.ver = 2 → s.pwr.st = .safeHold → q.params.length = 1 →
      Completes (.stateEnter q) 0x0E01 q s .refusedState [6, 4, 0xFF, 0] (fun t => t = arrived q s)) ∧
    (Ready 0x0E01 q s → q.params.length = 1 →
      (4 ≤ byteAt q.params 0 → Completes (.stateEnter q) 0x0E01 q s .doneWithNote [byte s.pwr.st.code, 0, 0, 0] (fun t => t = arrived q s)) ∧
      (byteAt q.params 0 = 0 → Completes (.stateEnter q) 0x0E01 q s .done [0, 0, 0, 0] (fun t => Elsewhere s t ∧ t.pwr.st = .run ∧
        t.pwr.hibDue = none ∧ t.chg.shipArmed = false)) ∧
      (byteAt q.params 0 = 1 → s.pwr.st = .run → (∀ i : Nat, i < 16 → 1 ≤ permits s i) →
        Completes (.stateEnter q) 0x0E01 q s .done [1, 0, 0, 0] (fun t => Elsewhere s t ∧ t.pwr.st = .doze ∧ t.chg.shipArmed = false)) ∧
      (byteAt q.params 0 = 2 → s.pwr.st = .run ∨ s.pwr.st = .doze → (∀ i : Nat, i < 16 → 2 ≤ permits s i) →
        Completes (.stateEnter q) 0x0E01 q s .done [2, 0, 0, 0] (fun t => Elsewhere s t ∧ t.pwr.st = s.pwr.st ∧
          t.pwr.hibDue = some s.proto.replyNo ∧ t.chg.shipArmed = false)) ∧
      (byteAt q.params 0 = 3 → s.pwr.st = .run ∨ s.pwr.st = .doze → (∀ i : Nat, i < 16 → 3 ≤ permits s i) →
        Completes (.stateEnter q) 0x0E01 q s .doneWithNote [byte s.pwr.st.code, 0, 0, 0] (fun t => Elsewhere s t ∧ t.pwr.st = s.pwr.st ∧
          t.chg.shipArmed = true)) ∧
      (byteAt q.params 0 = 2 → s.pwr.st = .run → (∃ i : Nat, i < 16 ∧ permits s i = 0) →
        Completes (.stateEnter q) 0x0E01 q s .doneWithNote ([0, 0] ++ le16 (refuserMap s 2)) (fun t => Elsewhere s t ∧ t.pwr.st = .run ∧
          t.pwr.hibDue = s.pwr.hibDue ∧ t.pwr.flags.getLsbD 0 = true ∧ ∀ i : Fin 16, t.hem.refusals[i] =
            if permits s i.val < 2 then satInc 0xFFFFFFFF s.hem.refusals[i] else s.hem.refusals[i]))) ∧
    (Ready 0x0E03 q s → q.params.length = 1 →
      Completes (.stateAccounting q) 0x0E03 q s .done (s.hem.refusals.toList.flatMap le32) (fun t =>
        if natBit (byteAt q.params 0) 0 = true then t = { arrived q s with hem := { s.hem with refusals := t.hem.refusals } } ∧
          ∀ i : Fin 16, t.hem.refusals[i] = 0
        else t = arrived q s)) ∧
    (s.pwr.hibDue = none → exec .hibernateEntry s = .next s) ∧
    (∀ n, s.pwr.hibDue = some n →
      (replyLeft n s = false ∨ s.proto.exec ≠ none ∨ s.off = true → exec .hibernateEntry s = .next s) ∧
      (replyLeft n s = true → s.proto.exec = none → s.off = false → ∃ t, exec .hibernateEntry s = .next t ∧ t.cells = s.cells ∧
        t.dom = s.dom ∧ t.crease = s.crease ∧ (∀ r : Fin 48, t.rails[r] = { s.rails[r] with offFrom := none }) ∧ t.pwr.entering = true ∧
        t.pwr.hibDue = none ∧ t.pwr.wake = none ∧ t.proto.running = false ∧ t.clk.ref = .absent ∧
        (∀ k : Fin 8, t.tlm.seqs[k].running = false) ∧ (∀ k : Fin 6, t.fw.mux[k] = none) ∧
        (s.chg.ph = .maintain → t.chg.paused = true))) ∧
    (s.pwr.entering = false ∨ s.off = true → exec .hibernateEntered s = .next s) ∧
    (s.pwr.entering = true → s.off = false → ∃ t, exec .hibernateEntered s = .next t ∧ Elsewhere s t ∧ t.pwr.st = .hibernate ∧ t.pwr.entering = false ∧
      t.hp.engine = false ∧ t.hem = s.hem ∧ t.proto = s.proto ∧
      (∀ p : Port, (t.seam.port p).powered = ((s.seam.port p).powered && decide ((s.seam.port p).link ≠ .down)))) ∧
    (∀ src : WakeSource, (s.pwr.wake ≠ some src ∨ s.off = true → exec (.hibernateExit src) s = .next s) ∧
      (s.pwr.wake = some src → s.off = false → ∃ t, exec (.hibernateExit src) s = .next t ∧ Elsewhere s t ∧ t.pwr.st = .run ∧ t.pwr.wake = none ∧
        t.pwr.entering = false ∧ t.hem.wakeSrc = (wakeCode src).1 ∧ t.hem.wakeDetail = (wakeCode src).2 ∧
        t.hem.wakeLeft = s.pwr.st.code ∧ t.hem.wakes = satInc 65535 s.hem.wakes ∧ t.hem.wakeTime = s.hem.rtc ∧
        t.fw.causeNext = 10 ∧ (t.seam.a).powered = true ∧ (t.seam.b).powered = true)) ∧
    (s.pwr.st ≠ .doze → exec .dozeResume s = .next s) ∧
    (s.pwr.st = .doze → exec .dozeResume s = .next (resume s) ∧ (resume s).pwr.gated = false) ∧
    (s.chg.shipArmed = false ∨ sourceInRange s = true ∨ s.pwr.st = .ship → exec .shipEntry s = .next s) ∧
    (s.chg.shipArmed = true → sourceInRange s = false → s.pwr.st ≠ .ship →
      ((∀ i : Nat, i < 16 → 3 ≤ permits s i) → ∃ t, exec .shipEntry s = .next t ∧ t.cells = s.cells ∧ t.rails = s.rails ∧
        t.dom = { s.dom with fnDrive := false } ∧ t.crease = s.crease ∧ t.pwr.st = .ship ∧
        t.chg.ph = .idle ∧ t.chg.hold = .off ∧ t.chg.psw = false ∧ t.chg.shipArmed = false ∧ t.hem.wdSt = .disabled ∧
        t.proto.running = false ∧ t.hp.engine = false) ∧
      ((∃ i : Nat, i < 16 ∧ permits s i < 3) → ∃ t, exec .shipEntry s = .next t ∧ Elsewhere s t ∧ t.pwr.st = s.pwr.st ∧
        t.pwr.flags = s.pwr.flags ||| 0x2 ∧ t.chg = { s.chg with shipArmed := false } ∧ ∀ i : Fin 16, t.hem.refusals[i] =
          if permits s i.val < 3 then satInc 0xFFFFFFFF s.hem.refusals[i] else s.hem.refusals[i])) ∧
    (s.pwr.st = .ship → exec .wakeBtn s = .next { s with land := { s.land with wakeIgnored := false } }) ∧
    (s.pwr.st ≠ .ship → ∃ t, exec .wakeBtn s = .next t ∧
      t = { s with land := { s.land with wakeIgnored := false }, chg := { s.chg with shipArmed := false }, pwr := t.pwr, clk := t.clk } ∧
      (s.pwr.st = .hibernate → s.pwr.lost = false → s.pwr.wake = none → t.pwr.wake = some .wakeBtn)) ∧
    ∃ t, exec .wakeStuck s = .next t ∧ t = { s with
      land := { s.land with wakeIgnored := true, flags := s.land.flags ||| 0x40000 }
      router := t.router, seam := t.seam, pwr := t.pwr, clk := t.clk }

/-- STATE_VOTE. A vote of refuser 8 to 15 sets the deepest state it permits, a value above 3 acting as 3, and changes no state by itself; a
vote naming refuser 0 to 7 changes nothing and draws DONE_WITH_NOTE (R471). -/
def Obligations.VotesSetThePermittedState : Prop :=
  ∀ (q : Req) (s : State), Ready 0x0E02 q s → q.params.length = 2 →
    (byteAt q.params 0 < 8 → Completes (.stateVote q) 0x0E02 q s .doneWithNote [] (fun t => t = arrived q s)) ∧
    ∀ k : Fin 8, byteAt q.params 0 = 8 + k.val → Completes (.stateVote q) 0x0E02 q s .done [] (fun t =>
      t = { arrived q s with pwr := { (arrived q s).pwr with votes := t.pwr.votes } } ∧ t.pwr.votes[k] = min 3 (byteAt q.params 1) ∧
      permits t (8 + k.val) = min 3 (byteAt q.params 1) ∧ ∀ j : Fin 8, j ≠ k → t.pwr.votes[j] = s.pwr.votes[j])

/-! ## Fuses (chapter 18) -/

/-- Fuses. A row is read afresh with its status, of which only MARGINAL can have changed since its last reading, and one found MARGINAL is
noted; a burn is refused without a usable VIN, by a running rail, by the life cycle or by a seal, and otherwise begins; each burn ORs bits
into its row at both margins, is judged by the row it leaves, with its flag where that is not as written, and the command goes on with its
next burn, in the order of its rule, or is answered (R481, R482, R484, R485, R488-R495, R501, R502). OTP_FINALISE of a reserved region is the
model's choice, log entry 13, and how rows drift log entry 171. -/
def Obligations.FusesAreReadAndBurned : Prop :=
  (∀ (q : Req) (s : State),
    (∀ row : Nat, Ready 0x0F01 q s → q.params.length = 4 → fieldAt q.params 0 2 = row → row < 2048 → byteAt q.params 2 = 1 →
      natBit (byteAt q.params 3) 0 = false → ∃ x : Byte, (x &&& 0xF7) = (byte (s.fuse.status row) &&& 0xF7) ∧
        (s.fuse.row row = none → x = byte (s.fuse.status row)) ∧
        Completes (.otpRead q) 0x0F01 q s .done (s.fuse.rowData row ++ [x]) (fun t =>
          t = { arrived q s with free := t.free, fuse := t.fuse, router := t.router, seam := t.seam, pwr := t.pwr, clk := t.clk } ∧
          (∀ l, t.fuse.dataAt l = s.fuse.dataAt l) ∧ t.fuse.marginalAt (s.fuse.place row) = x.getLsbD 3 ∧
          (x.getLsbD 3 = true → s.fuse.place row ∈ t.fuse.seen))) ∧
    (∀ (op : Nat) (i : Instr), (op = 0x0F02 ∧ i = .otpProgram q ∧ q.params.length = 36 ∧ fieldAt q.params 0 2 < 2048) ∨
        (op = 0x0F03 ∧ i = .otpFinalise q ∧ q.params.length = 4) ∨
        (op = 0x0F04 ∧ i = .otpDarn q ∧ q.params.length = 2 ∧ fieldAt q.params 0 2 < 2048) ∨
        (op = 0x0F05 ∧ i = .lifecycleAdvance q ∧ q.params.length = 4) → Ready op q s →
      (vinUsable s = false → Completes i op q s .refusedState [8, byte s.fuse.lcState, 0xFF, 0] (fun t => t = arrived q s)) ∧
      (∀ r : Fin 48, vinUsable s = true → s.rails[r].st.runs = true → (∀ k : Fin 48, k < r → s.rails[k].st.runs = false) →
        Completes i op q s .refusedState [1, byte s.rails[r].st.code, byte r.val, 0] (fun t => t = arrived q s))) ∧
    (vinUsable s = true → (∀ r : Fin 48, s.rails[r].st.runs = false) →
      (∀ row : Nat, Ready 0x0F02 q s → q.params.length = 36 → fieldAt q.params 0 2 = row → row < 2048 →
        (rowOpenIn row s.fuse.lcState = false →
          Completes (.otpProgram q) 0x0F02 q s .refusedState [8, byte s.fuse.lcState, 0xFF, 0] (fun t => t = arrived q s)) ∧
        (rowOpenIn row s.fuse.lcState = true →
          (∀ c, regionOf row = some c → s.fuse.sealState c ≠ 0 ∨ s.fuse.blank row = false →
            Completes (.otpProgram q) 0x0F02 q s .locked [1] (fun t => t = arrived q s)) ∧
          ((∀ c, regionOf row = some c → s.fuse.sealState c = 0 ∧ s.fuse.blank row = true) →
            Begins (.otpProgram q) 0x0F02 q s (.burn (.program row (q.params.drop 4))) (fun t => t = arrived q s)))) ∧
      (∀ code : Nat, Ready 0x0F03 q s → q.params.length = 4 → byteAt q.params 0 = code →
        (5 ≤ code → Completes (.otpFinalise q) 0x0F03 q s .doneWithNote (List.replicate 8 0) (fun t => t = arrived q s)) ∧
        (code < 5 → regionOpenIn code s.fuse.lcState = true → s.fuse.sealState code = 0 →
          Begins (.otpFinalise q) 0x0F03 q s (.burn (.finalise code (s.fuse.digest code) 0 false)) (fun t => t = arrived q s)) ∧
        (code < 5 → regionOpenIn code s.fuse.lcState = true → s.fuse.sealState code = 1 →
          Completes (.otpFinalise q) 0x0F03 q s .locked [1] (fun t => t = arrived q s))) ∧
      (∀ row : Nat, Ready 0x0F04 q s → q.params.length = 2 → fieldAt q.params 0 2 = row → row < 2048 → s.fuse.lcState ≠ 4 →
        (row < 32 → Completes (.otpDarn q) 0x0F04 q s .notPresent [0, 0] (fun t => t = arrived q s)) ∧
        (32 ≤ row → s.fuse.blank row = true → s.fuse.marginalAt (s.fuse.place row) = false → Completes (.otpDarn q) 0x0F04 q s .doneWithNote
          [byte ((s.fuse.redirect row).getD 0xFF), byte s.fuse.freeSpares.length] (fun t => t = arrived q s)) ∧
        (∀ k rest, 32 ≤ row → s.fuse.blank row = false ∨ s.fuse.marginalAt (s.fuse.place row) = true → s.fuse.freeSpares = k :: rest →
          Begins (.otpDarn q) 0x0F04 q s (.burn (.darn row k (if s.fuse.unreadable row then 1 else 0) false)) (fun t => t = arrived q s)) ∧
        (32 ≤ row → s.fuse.blank row = false ∨ s.fuse.marginalAt (s.fuse.place row) = true → s.fuse.freeSpares = [] →
          Completes (.otpDarn q) 0x0F04 q s .notPresent [0xFF, 0xFF] (fun t => t = arrived q s))) ∧
      (∀ n : Nat, Ready 0x0F05 q s → q.params.length = 4 → byteAt q.params 0 = n →
        (q.params.drop 1 ≠ [0x4C, 0x43, byte n] → Completes (.lifecycleAdvance q) 0x0F05 q s .doneWithNote [] (fun t => t = arrived q s)) ∧
        (q.params.drop 1 = [0x4C, 0x43, byte n] → n ≤ s.fuse.lcState ∨ 4 < n ∨ advanceAllowed s n = false →
          Completes (.lifecycleAdvance q) 0x0F05 q s .refusedState [8, byte s.fuse.lcState, 0xFF, 0] (fun t => t = arrived q s)) ∧
        (q.params.drop 1 = [0x4C, 0x43, byte n] → s.fuse.lcState < n → n ≤ 4 → advanceAllowed s n = true →
          Begins (.lifecycleAdvance q) 0x0F05 q s (.burn (.advance n s.fuse.lcState 0 false)) (fun t => t = arrived q s))))) ∧
  (∀ (r : BurnResult) (s : State), (∀ p job, s.proto.exec ≠ some (p, .burn job)) → exec (.otpBurnDone r) s = .next s) ∧
  (∀ (p : Packet) (s : State),
    (∀ (row : Nat) (data : List Byte) (l : Nat), s.proto.exec = some (p, .burn (.program row data)) → l = s.fuse.place row →
      (32 ≤ l → data.length = 32 → s.fuse.at l = none → exec (.otpBurnDone .good) s = .next (serveFailed (answer p .done [] { s with
        fuse := { s.fuse.put l { loose := data, tight := data, tail := burnTail l data, tightTail := burnTail l data } with
          seen := s.fuse.seen.filter (· ≠ l) }
        proto := { s.proto with exec := none } }))) ∧
      ∀ (r : BurnResult) (v : BurnVerdict), v = burnVerdict (.program row data) r s.fuse → ∃ t,
        exec (.otpBurnDone r) s = .next (serveFailed (answer p (if v = .asWritten then .done else .doneWithNote) [] t)) ∧
        t.fuse.at l = some (burntRow (.program row data) r s.fuse).2 ∧ (∀ k, k ≠ l → t.fuse.at k = s.fuse.at k) ∧
        (v = .asWritten → t.fuse.flags = s.fuse.flags) ∧ (v = .marginal → t.fuse.flags = s.fuse.flags ||| 0x40) ∧
        (v = .failed → t.fuse.flags = s.fuse.flags ||| 0x80)) ∧
    (∀ code digest note, s.proto.exec = some (p, .burn (.finalise code digest 0 note)) → code < 5 →
      (∀ x, s.fuse.at (8 + code) = some x → x.loose.length = 32 ∧ x.tight.length = 32) → ∃ t, exec (.otpBurnDone .good) s = .next t ∧
      t = { s with fuse := t.fuse, proto := t.proto } ∧ t.proto = { s.proto with exec := some (p, .burn (.finalise code digest 1 note)) } ∧
      t.fuse.dataAt (8 + code) = orBytes (s.fuse.dataAt (8 + code)) (rowBytes 0 digest)) ∧
    (∀ code digest, s.proto.exec = some (p, .burn (.finalise code digest 3 false)) → code < 5 →
      (∀ x, s.fuse.at (8 + code) = some x → x.loose.length = 32 ∧ x.tight.length = 32) →
      ∃ t, exec (.otpBurnDone .good) s = .next (serveFailed (answer p .done digest t)) ∧ t.proto = { s.proto with exec := none } ∧
        t.fuse.dataAt (8 + code) = orBytes (s.fuse.dataAt (8 + code)) (rowBytes 8 [0xFF])) ∧
    (∀ row k note, s.proto.exec = some (p, .burn (.darn row k 0 note)) → s.fuse.at (2048 + k) = none →
      (s.fuse.rowData row).length = 32 → ∃ t, exec (.otpBurnDone .good) s = .next t ∧
      t.proto = { s.proto with exec := some (p, .burn (.darn row k 1 note)) } ∧ t.fuse.dataAt (2048 + k) = s.fuse.rowData row) ∧
    ∀ n stage copy note, s.proto.exec = some (p, .burn (.advance n stage copy note)) → copy < 2 →
      (∀ x, s.fuse.at copy = some x → x.loose.length = 32 ∧ x.tight.length = 32) →
      ∃ t, exec (.otpBurnDone .good) s = .next t ∧ t.proto = { s.proto with exec := some (p, .burn (.advance n stage (copy + 1) note)) } ∧
        t.fuse.dataAt copy = orBytes (s.fuse.dataAt copy) (rowBytes stage [0xFF]))

/-! ## Firmware and test access (chapter 19) -/

/-- Firmware. Staging writes the staging bank at its offset and nowhere else; verification gives the
bank its state and its result, and passes only an image whose header, signature key and hash
check; a commit and a revert meet the conditions of R513 in order and stop the manager when the
reply has left; a trial is confirmed; a lockstep mismatch restarts the manager (R508-R516, R519).
When BODY counts as staged, and a sector as erased, are log entries 86 and 87 (the model's
readings). -/
def Obligations.FirmwareIsStagedVerifiedAndCommitted : Prop :=
  ∀ (q : Req) (s : State),
    (∀ off : Nat, Ready 0x1001 q s → 5 ≤ q.params.length → q.params.length ≤ 492 → fieldAt q.params 0 4 = off →
      (2097152 < off + (q.params.length - 4) → Completes (.fwStage q) 0x1001 q s .notPresent [0, 0] (fun t => t = arrived q s)) ∧
      (off + (q.params.length - 4) ≤ 2097152 →
        (s.fw.st[s.fw.other] = .verifying → Completes (.fwStage q) 0x1001 q s .busy [0] (fun t => t = arrived q s)) ∧
        (s.fw.st[s.fw.other] ≠ .verifying → s.fw.st[s.fw.bank] = .trial →
          Completes (.fwStage q) 0x1001 q s .refusedState [9, 5, byte s.fw.bank.val, 0] (fun t => t = arrived q s)) ∧
        (s.fw.st[s.fw.other] ≠ .verifying → s.fw.st[s.fw.bank] ≠ .trial →
          Begins (.fwStage q) 0x1001 q s (.stage off (q.params.drop 4)) (fun t => t = { arrived q s with fw := t.fw } ∧
            t.fw.st[s.fw.other] = .staged ∧ t.fw.st[s.fw.bank] = s.fw.st[s.fw.bank] ∧ t.fw.verify[s.fw.other] = 0 ∧
            t.fw.bank = s.fw.bank ∧ t.fw.image = s.fw.image)))) ∧
    (∀ (p : Packet) (off : Nat) (data : List Byte), s.proto.exec = some (p, .stage off data) → Inv s →
      (∃ t, exec (.fwStageWriteDone true) s = .next (serveFailed (answer p .done [] t)) ∧ t.proto = { s.proto with exec := none } ∧
        t.fw.image[s.fw.bank] = s.fw.image[s.fw.bank] ∧ t.fw.high[s.fw.other] = max s.fw.high[s.fw.other] (off + data.length) ∧
        t.fw.bytes s.fw.other off data.length = data ∧
        ∀ a : Nat, a < off ∨ off + data.length ≤ a → ~~~ t.fw.image[s.fw.other].read a = ~~~ s.fw.image[s.fw.other].read a ∨
          (a / 4096 ∉ s.fw.erased[s.fw.other] ∧ a / 4096 ∈ sectorsOf off data.length ∧ ~~~ t.fw.image[s.fw.other].read a = 0xFF)) ∧
      ∃ t, exec (.fwStageWriteDone false) s = .next (serveFailed (answer p .doneWithNote [] t)) ∧ t.fw.flags = s.fw.flags ||| 0x4 ∧
        t.fw.image[s.fw.bank] = s.fw.image[s.fw.bank]) ∧
    ((∀ p off data, s.proto.exec ≠ some (p, .stage off data)) → ∀ ok, exec (.fwStageWriteDone ok) s = .next s) ∧
    (Ready 0x1002 q s → q.params = [] →
      (s.fw.st[s.fw.other] = .empty → Completes (.fwVerify q) 0x1002 q s .notPresent [0xFF, 0xFF] (fun t => t = arrived q s)) ∧
      (s.fw.st[s.fw.other] = .verifying → Completes (.fwVerify q) 0x1002 q s .busy [0] (fun t => t = arrived q s)) ∧
      (s.fw.st[s.fw.other] ≠ .empty → s.fw.st[s.fw.other] ≠ .verifying →
        Completes (.fwVerify q) 0x1002 q s .started [] (fun t => t = { arrived q s with fw := t.fw } ∧ t.fw.bank = s.fw.bank ∧
          t.fw.st[s.fw.other] = .verifying ∧ t.fw.st[s.fw.bank] = s.fw.st[s.fw.bank] ∧ t.fw.image = s.fw.image))) ∧
    (s.proto.running = false ∨ s.fw.st[s.fw.other] ≠ .verifying → exec .fwVerifyDone s = .next s) ∧
    (s.proto.running = true → s.fw.st[s.fw.other] = .verifying → ∃ t, exec .fwVerifyDone s = .next t ∧
      t = { s with free := s.free + 1, fw := t.fw, router := t.router, seam := t.seam, pwr := t.pwr, clk := t.clk } ∧
      t.fw.image = s.fw.image ∧ t.fw.bank = s.fw.bank ∧ t.fw.st[s.fw.bank] = s.fw.st[s.fw.bank] ∧
      (t.fw.verify[s.fw.other] = 1 → t.fw.st[s.fw.other] = .verified ∧ t.fw.flags = s.fw.flags) ∧
      (t.fw.verify[s.fw.other] ≠ 1 → t.fw.st[s.fw.other] = .rejected ∧ t.fw.flags = s.fw.flags ||| 0x8) ∧
      (∀ h : List Byte, s.fw.fitted[s.fw.other] = false → h = s.fw.bytes s.fw.other 0 128 →
        (h.take 4 ≠ [0x48, 0x55, 0x41, 0x46] → t.fw.verify[s.fw.other] = 2) ∧
        (t.fw.verify[s.fw.other] = 1 → fieldAt h 0x0C 4 = 0x00010256 ∧ keyUsable s = true ∧
          (h.drop 0x20).take 32 = sha256 (s.fw.bytes s.fw.other 128 (fieldAt h 8 4))))) ∧
    (∀ (hitless revert : Bool) (i : Instr) (op : Nat),
      (i = .fwCommit q ∧ op = 0x1003 ∧ q.params.length = 1 ∧ hitless = natBit (byteAt q.params 0) 0 ∧ revert = false) ∨
        (i = .fwRevert q ∧ op = 0x1005 ∧ q.params = [] ∧ hitless = true ∧ revert = true) → Ready op q s →
      (s.fw.st[s.fw.bank] ≠ .active → Completes i op q s .refusedState
        [9, byte (s.fw.st[s.fw.bank]).code, byte s.fw.bank.val, 0] (fun t => t = arrived q s)) ∧
      (s.fw.st[s.fw.bank] = .active → s.fw.st[s.fw.other] ≠ .verified → Completes i op q s .refusedState
        [9, byte (s.fw.st[s.fw.other]).code, byte s.fw.other.val, 0] (fun t => t = arrived q s)) ∧
      (s.fw.st[s.fw.bank] = .active → s.fw.st[s.fw.other] = .verified →
        ((hitless = true → s.dom.st = .rising ∨ s.dom.st = .falling) ∧ (hitless = false → s.dom.st ≠ .down ∧ s.dom.st ≠ .latched) →
          Completes i op q s .refusedState [3, byte s.dom.st.code, 0xFF, 0] (fun t => t = arrived q s)) ∧
        ((hitless = true → s.dom.st ≠ .rising ∧ s.dom.st ≠ .falling) → (hitless = false → s.dom.st = .down ∨ s.dom.st = .latched) →
          (s.map.probe = .running →
            Completes i op q s .refusedState [2, byte (mapCode s), 0xFF, 0] (fun t => t = arrived q s)) ∧
          (s.map.probe ≠ .running → Completes i op q s .started [] (fun t =>
            t = { arrived q s with fw := { s.fw with commit := some (hitless, revert, s.proto.replyNo) } }))))) ∧
    (s.fw.commit = none → exec .commitStop s = .next s) ∧
    (∀ hitless revert n, s.fw.commit = some (hitless, revert, n) →
      (replyLeft n s = false ∨ s.proto.exec ≠ none ∨ s.proto.running = false → exec .commitStop s = .next s) ∧
      (replyLeft n s = true → s.proto.exec = none → s.proto.running = true → ∃ t, exec .commitStop s = .next t ∧ Elsewhere s t ∧
        t.proto.running = false ∧ t.proto.waiting = [] ∧ t.fw.switchDue = some revert ∧ t.fw.commit = none ∧ t.fw.image = s.fw.image ∧
        t.fw.causeNext = if revert = true then 8 else if hitless = true then 6 else 7)) ∧
    (s.proto.running = false ∨ s.fw.st[s.fw.bank] ≠ .trial → exec .trialConfirm s = .next s) ∧
    (s.proto.running = true → s.fw.st[s.fw.bank] = .trial → ∃ t, exec .trialConfirm s = .next t ∧ t = { s with fw := t.fw } ∧
      t.fw.st[s.fw.bank] = .active ∧ t.fw.st[s.fw.other] = s.fw.st[s.fw.other] ∧ t.fw.trialAt = none ∧ t.fw.bank = s.fw.bank) ∧
    (s.proto.running = false ∨ s.off = true → exec .lockstepMismatch s = .next s) ∧
    (s.proto.running = true → s.off = false → ∃ t, exec .lockstepMismatch s = .next t ∧ Elsewhere s t ∧ t.proto.running = false ∧
      t.proto.waiting = [] ∧ t.proto.exec = none ∧ t.fw.lockstepOk = false ∧ t.fw.causeNext = 5 ∧ t.fw.bank = s.fw.bank ∧
      t.fw.flags.getLsbD 1 = true ∧ t.hem = { s.hem with lockstep := satInc 0xFFFFFFFF s.hem.lockstep })

/-- Test lands. A selection drives its land with a signal of its kind and nothing else changes; a
signal of the wrong kind, a reserved code or land changes nothing; in FIELD a power-critical
signal is refused; a release frees one land or every land (R523-R525). The order of the refusal in
FIELD is log entry 92 (the model's reading). -/
def Obligations.TestLandsAreSelectedAndReleased : Prop :=
  ∀ (q : Req) (s : State),
    (∀ (land code : Nat), Ready 0x1201 q s → q.params.length = 4 → byteAt q.params 0 = land → fieldAt q.params 2 2 = code →
      (s.fuse.lcState = 3 → powerCritical code = true →
        Completes (.testmuxSelect q) 0x1201 q s .refusedState [8, 3, 0xFF, 0] (fun t => t = arrived q s)) ∧
      (s.fuse.lcState ≠ 3 ∨ powerCritical code = false →
        (∀ k : Fin 6, land = k.val → (land < 2 → analogueCode code = true) → (2 ≤ land → digitalCode code = true) →
          Completes (.testmuxSelect q) 0x1201 q s .done [] (fun t => t = { arrived q s with fw := { s.fw with mux := t.fw.mux } } ∧
            t.fw.mux[k] = some code ∧ ∀ j : Fin 6, j ≠ k → t.fw.mux[j] = s.fw.mux[j])) ∧
        (5 < land ∨ (land < 2 ∧ analogueCode code = false) ∨ (2 ≤ land ∧ digitalCode code = false) →
          Completes (.testmuxSelect q) 0x1201 q s .doneWithNote [] (fun t => t = arrived q s)))) ∧
    (∀ land : Nat, Ready 0x1202 q s → q.params.length = 1 → byteAt q.params 0 = land →
      (∀ k : Fin 6, land = k.val → Completes (.testmuxRelease q) 0x1202 q s .done [] (fun t =>
        t = { arrived q s with fw := { s.fw with mux := t.fw.mux } } ∧ t.fw.mux[k] = none ∧ ∀ j : Fin 6, j ≠ k → t.fw.mux[j] = s.fw.mux[j])) ∧
      (land = 0xFF → Completes (.testmuxRelease q) 0x1202 q s .done [] (fun t =>
        t = { arrived q s with fw := { s.fw with mux := t.fw.mux } } ∧ ∀ k : Fin 6, t.fw.mux[k] = none)) ∧
      (5 < land → land ≠ 0xFF → Completes (.testmuxRelease q) 0x1202 q s .doneWithNote [] (fun t => t = arrived q s)))

/-! ## Resets and starts (chapters 01, 14, 17, 19) -/

/-- Resets and starts. A reset stops the manager alone, or in FULL mode takes the domain down for a
full start; a manager start disturbs no cell, rail or domain, and chooses its bank; a full start
on VIN without map or image leaves every cell and rail off, the domain DOWN and the configuration
empty, but keeps Hem, the flash and the module's Seam address; SHIP is left for a full start, or
without any supply but the pack by the button to no power (R68, R228, R327, R376, R384, R389,
R475, R476, R510, R514-R518). A start from power-on, what a full start keeps and the pins never
seen high are the model's, log entries 2, 59 and 98 to 103. -/
def Obligations.ResetsAndStarts : Prop :=
  ∀ s : State,
    (s.off = true → exec .resetN s = .next { s with land := { s.land with resetIgnored := false, resetLow := true } }) ∧
    (s.off = false →
      (s.pwr.st = .hibernate ∨ s.pwr.entering = true ∨ s.pwr.st = .doze → ∃ t, exec .resetN s = .next t ∧ Elsewhere s t ∧
        t.proto = s.proto ∧ t.fw = s.fw ∧ (s.pwr.st = .doze → t.pwr.gated = false) ∧
        (s.pwr.st = .hibernate ∨ s.pwr.entering = true → s.pwr.wake = none → t.pwr.wake = some .resetN)) ∧
      (s.pwr.st ≠ .hibernate → s.pwr.entering = false → s.pwr.st ≠ .doze → resetFull s = false → ∃ t, exec .resetN s = .next t ∧ Elsewhere s t ∧
        t.proto.running = false ∧ t.proto.waiting = [] ∧ t.proto.exec = none ∧ t.fw.bank = s.fw.bank ∧ t.hem = s.hem ∧
        t.fw.causeNext = (if s.fw.switchDue = none then 1 else s.fw.causeNext)) ∧
      (s.pwr.st ≠ .hibernate → s.pwr.entering = false → s.pwr.st ≠ .doze → resetFull s = true → ∃ t, exec .resetN s = .next t ∧
        t.dom.fullDue = some 2 ∧ t.dom.vinMem = s.dom.vinMem ∧ t.cells = s.cells ∧ t.dom.st ≠ .rising ∧ t.dom.st ≠ .up ∧
        (s.dom.st = .down ∨ s.dom.st = .latched → t.dom.st = s.dom.st ∧ t.rails = s.rails))) ∧
    (s.proto.resetDue = none → exec .resetModuleAct s = .next s) ∧
    (∀ kind n, s.proto.resetDue = some (kind, n) →
      (replyLeft n s = false ∨ s.proto.exec ≠ none ∨ s.proto.running = false → exec .resetModuleAct s = .next s) ∧
      (replyLeft n s = true → s.proto.exec = none → s.proto.running = true →
        (kind ≠ 1 → ∃ t, exec .resetModuleAct s = .next t ∧ Elsewhere s t ∧ t.proto.running = false ∧ t.proto.waiting = [] ∧
          t.proto.resetDue = none ∧ t.fw.causeNext = (if s.fw.switchDue = none then 3 else s.fw.causeNext) ∧ t.fw.bank = s.fw.bank) ∧
        (kind = 1 → ∃ t, exec .resetModuleAct s = .next t ∧ t.dom.fullDue = some 4 ∧ t.dom.vinMem = s.dom.vinMem ∧ t.proto.resetDue = none ∧ t.cells = s.cells ∧
          t.dom.st ≠ .rising ∧ t.dom.st ≠ .up))) ∧
    (s.dom.fullDue = none ∨ s.off = true → exec .fullResetTimeout s = .next s) ∧
    (s.dom.fullDue ≠ none → s.off = false → ∃ t, exec .fullResetTimeout s = .next t ∧ t.dom.fullDue = s.dom.fullDue ∧
      t.dom.vinMem = s.dom.vinMem ∧ t.proto.running = false ∧ (s.dom.st = .latched → t.dom.st = .latched) ∧ (s.dom.st ≠ .latched → t.dom.st = .down) ∧
      (∀ c : Fin 256, t.cells[c] = if s.cells[c].st = .retired then s.cells[c] else s.cells[c].turnOff) ∧
      ∀ r : Fin 48, t.rails[r].st = if s.rails[r].st = .latchedOff then .latchedOff else .off) ∧
    (s.proto.running = true ∨ s.off = true ∨ s.pwr.st = .hibernate ∨ s.pwr.entering = true ∨ s.fw.causeNext = 7 ∨ s.dom.fullDue ≠ none →
      exec .managerStart s = .next s) ∧
    (s.proto.running = false → s.off = false → s.pwr.st ≠ .hibernate → s.pwr.entering = false → s.fw.causeNext ≠ 7 →
      s.dom.fullDue = none → s.proto.raw = [] → s.proto.dropped = [] → s.seam.rxBuf = [] → s.dom.ph = .idle →
      ∃ t, exec .managerStart s = .next t ∧ Elsewhere s t ∧ t.map = s.map ∧ t.tlm = s.tlm ∧ t.crease = s.crease ∧ t.chg = s.chg ∧
        t.proto = { s.proto with
          running := true, buffer := [], loaded := false, startAt := s.hem.ticks
          cfg := if s.proto.cfg = .loading then .empty else s.proto.cfg, flags := s.proto.flags ||| 1 } ∧
        t.therm.queue = [] ∧ t.fw.starts = satInc 0xFFFFFFFF s.fw.starts ∧ t.fw.image = s.fw.image ∧
        (s.fw.st[s.fw.bank] = .trial → t.fw.bank = s.fw.other ∧ t.fw.st[s.fw.bank] = .rejected ∧ t.fw.st[s.fw.other] = .active ∧
          t.fw.verify[s.fw.bank] = 8 ∧ t.fw.cause = 9 ∧ t.fw.flags.getLsbD 0 = true) ∧
        (s.fw.st[s.fw.bank] ≠ .trial → s.fw.switchDue ≠ none → s.fw.st[s.fw.other] = .verified → t.fw.bank = s.fw.other ∧
          t.fw.st[s.fw.other] = .trial ∧ t.fw.st[s.fw.bank] = .verified ∧ t.fw.cause = s.fw.causeNext ∧
          t.fw.trialAt = some s.hem.ticks) ∧
        (s.fw.st[s.fw.bank] ≠ .trial → s.fw.switchDue = none ∨ s.fw.st[s.fw.other] ≠ .verified → t.fw.bank = s.fw.bank ∧
          t.fw.st = s.fw.st ∧ t.fw.cause = s.fw.causeNext)) ∧
    (∀ straps ext : BitVec 3,
      (s.pwr.st = .ship ∨ supplied s = false ∨ (s.dom.fullDue ≠ none ∧ s.dom.st ≠ .down ∧ s.dom.st ≠ .latched ∧ s.pwr.lost = false) →
        exec (.fullStart straps ext) s = .next s) ∧
      (s.pwr.st ≠ .ship → s.dom.fullDue = none ∨ s.dom.st = .down ∨ s.dom.st = .latched ∨ s.pwr.lost = true →
        s.land.vinLow = false → s.land.vinOver = false → s.proto.exec = none → s.map.stored = none → s.proto.stored = none → cconfImage s = none →
        ∃ t, exec (.fullStart straps ext) s = .next t ∧ FullyStarted straps s t)) ∧
    (∀ (src : ShipWake) (straps ext : BitVec 3),
      (s.pwr.st ≠ .ship ∨ (src = .button ∧ s.land.wakeIgnored = true) → exec (.shipExit ⟨src, straps, ext⟩) s = .next s) ∧
      (s.pwr.st = .ship → src ≠ .button ∨ s.land.wakeIgnored = false →
        (src = .button → supplied s = false → ∃ t, exec (.shipExit ⟨src, straps, ext⟩) s = .next t ∧ t.cells = s.cells ∧
          t.rails = s.rails ∧ t.dom = { s.dom with fnDrive := false } ∧ t.pwr.lost = true ∧
          t.pwr.st = .run ∧ t.chg.psw = true ∧ t.hem.wakeSrc = 5 ∧ t.hem.wakeDetail = 0 ∧ t.hem.wakeLeft = 3 ∧
          t.hem.wakes = satInc 65535 s.hem.wakes) ∧
        (src = .vin ∨ s.land.vinLow = false → s.land.vinOver = false → s.proto.exec = none → s.map.stored = none → s.proto.stored = none → cconfImage s = none →
          ∃ t, exec (.shipExit ⟨src, straps, ext⟩) s = .next t ∧ FullyStarted straps s t ∧ t.hem.wakeSrc = (if src = .button then 5 else 7) ∧
            t.hem.wakeLeft = 3))) ∧
    (s.dom.autoUp = false ∨ s.proto.running = false ∨ s.off = true ∨ s.map.probe = .running ∨ s.proto.cfg = .applying →
      exec .autoUp s = .next s) ∧
    (s.dom.autoUp = true → s.proto.running = true → s.off = false → s.proto.cfg ≠ .applying →
      s.dom.cycle = false → s.undervolt = false → (s.map.probe = .aborted → enableHigh s = false → exec .autoUp s = .next { s with dom :=
        { s.dom with autoUp := false } }) ∧
      (s.map.probe = .complete ∨ s.map.probe = .noResult → s.dom.st = .down → s.pwr.st ≠ .safeHold → s.seam.agree = .alone →
        badSlotRail s = none → s.dom.role ≠ 2 → s.dom.role ≠ 3 → ∃ t, exec .autoUp s = .next t ∧ t.dom.autoUp = false ∧
        t.cells = s.cells ∧ ((∀ j : Fin 16, s.dom.slots[j].used = false) → t.dom.st = .up) ∧
        ∀ j : Fin 16, s.dom.slots[j].used = true → (∀ i : Fin 16, i < j → s.dom.slots[i].used = false) →
          t.dom.st = .rising ∧ t.dom.cur = some j.val))

/-! ## Status and records -/

/-- The commands that only read. Each is answered with its record, which shows the state it names, and
nothing changes but, where the record holds a measured or a free value, the model's count of free values, and with
CLOCK_STATUS the reading of OFFSET_NOW it gives; a
source or a copy that holds nothing draws NOT_PRESENT (R93, R134, R167, R170, R189, R198, R222,
R260, R274, R298, R330, R349, R357, R385-R387, R447, R449, R465, R476, R504, R520). Reserved
sources and copies, free measured values and that reading are the model's choices, log entries 11, 20, 25 and 46. -/
def Obligations.StatusRecordsAreRead : Prop :=
  (∀ (q : Req) (s : State) (i : Instr) (op : Nat) (r : State → List Byte), (i, op, r) ∈ ([(.identify q, 0x0002, identityRecord),
      (.getStatus q, 0x0003, statusRecord), (.domainStatus q, 0x0708, domRecord),
      (.thermalStatus q, 0x0904, thermRecord), (.chargerStatus q, 0x0A04, chargerRecord), (.eventPendingRead q, 0x0D06, pendingBitmap),
      (.lastWake q, 0x0E04, wakeRecord), (.otpHealth q, 0x0F06, healthRecord), (.fwStatus q, 0x1004, firmwareRecord),
      (.seamStatus q, 0x1101, seamRecord), (.domainAgreeStatus q, 0x1103, agreeRecord)] : List (Instr × Nat × (State → List Byte))) →
    Ready op q s → q.params = [] → Completes i op q s .done (r (arrived q s)) (fun t => t = { arrived q s with free := t.free })) ∧
  (∀ s : State,
    (identityRecord s).take 8 = [0x50, 0x59, 0x41, 0x2D, 0x32, 0x35, 0x36, 0x4D] ∧
    (statusRecord s).length = 32 ∧ byteAt (statusRecord s) 0 = s.pwr.st.code ∧ byteAt (statusRecord s) 1 = s.dom.st.code ∧
    (∀ r : Fin 48, natBit (fieldAt (statusRecord s) 0x0C 6) r.val = s.rails[r].st.runs) ∧
    (clockRecord s).length = 32 ∧ (domRecord s).length = 72 ∧ byteAt (domRecord s) 0 = s.dom.st.code ∧
    (∀ r : Fin 48, natBit (fieldAt (domRecord s) 0x40 8) r.val = s.rails[r].pgRaw) ∧
    (thermRecord s).length = 64 ∧ (chargerRecord s).length = 48 ∧ byteAt (chargerRecord s) 0 = s.chg.ph.code ∧
    (pendingBitmap s).length = 128 ∧
    (∀ e : Fin 1024, natBit (byteAt (pendingBitmap s) (e.val / 8)) (e.val % 8) = s.router.ev[e].pending) ∧
    (healthRecord s).length = 16 ∧ byteAt (firmwareRecord s) 0 = s.fw.bank.val ∧
    byteAt (firmwareRecord s) 1 = (s.fw.st[(0 : Fin 2)]).code ∧ byteAt (firmwareRecord s) 2 = (s.fw.st[(1 : Fin 2)]).code ∧
    (seamRecord s).length = 32 ∧ byteAt (seamRecord s) 0 = s.seam.a.link.code) ∧
  ∀ (q : Req) (s : State),
    (Ready 0x0104 q s → q.params.length = 1 →
      (byteAt q.params 0 = 0 → bufferHolds s = true → headerOk (bufferImage s) = true →
        Completes (.configDigest q) 0x0104 q s .done (digestRecord (imageInfo (bufferImage s))) (fun t => t = arrived q s)) ∧
      (∀ img, byteAt q.params 0 = 1 → s.proto.stored = some img →
        Completes (.configDigest q) 0x0104 q s .done (digestRecord (imageInfo img)) (fun t => t = arrived q s)) ∧
      (∀ x, byteAt q.params 0 = 2 → s.proto.inForce = some x →
        Completes (.configDigest q) 0x0104 q s .done (digestRecord x) (fun t => t = arrived q s)) ∧
      (byteAt q.params 0 = 2 → s.proto.inForce = none →
        Completes (.configDigest q) 0x0104 q s .done (List.replicate 24 0) (fun t => t = arrived q s)) ∧
      ((byteAt q.params 0 = 0 ∧ bufferHolds s = false) ∨ (byteAt q.params 0 = 1 ∧ s.proto.stored = none) →
        Completes (.configDigest q) 0x0104 q s .notPresent [0xFF, 0xFF] (fun t => t = arrived q s))) ∧
    (∀ (first count : Nat), Ready 0x0202 q s → q.params.length = 3 → byteAt q.params 1 = first → byteAt q.params 2 = count → 1 ≤ count →
      first + count ≤ 48 →
      (byteAt q.params 0 = 0 → count ≤ 12 → ∃ l : List Byte, l.length = 1 + 40 * count ∧ byteAt l 0 = mapCode s ∧
        (∀ k : Nat, k < count → (l.drop (1 + 40 * k)).take 40 = (s.map.staged[fin48 (first + k)]).bytes) ∧
        Completes (.railmapGet q) 0x0202 q s .done l (fun t => t = { arrived q s with free := t.free })) ∧
      (byteAt q.params 0 = 1 → count ≤ 12 → ∃ l : List Byte, l.length = 1 + 40 * count ∧ byteAt l 0 = mapCode s ∧
        (∀ k : Nat, k < count → (l.drop (1 + 40 * k)).take 40 = (s.entry (first + k)).bytes) ∧
        Completes (.railmapGet q) 0x0202 q s .done l (fun t => t = { arrived q s with free := t.free })) ∧
      (byteAt q.params 0 = 2 → ∃ l : List Byte, l.length = 1 + 8 * count ∧ byteAt l 0 = mapCode s ∧
        (∀ k : Nat, k < count → (l.drop (1 + 8 * k)).take 8 = membershipRecord s (first + k)) ∧
        Completes (.railmapGet q) 0x0202 q s .done l (fun t => t = { arrived q s with free := t.free })) ∧
      (3 ≤ byteAt q.params 0 → count ≤ 12 → ∃ l : List Byte, l.length = 1 + 40 * count ∧ byteAt l 0 = mapCode s ∧
        (∀ k : Nat, k < count → ∃ e : MapEntry, (l.drop (1 + 40 * k)).take 40 = e.bytes) ∧
        Completes (.railmapGet q) 0x0202 q s .done l (fun t => t = { arrived q s with free := t.free }))) ∧
    (Ready 0x0505 q s → q.params = [] → Completes (.clockStatus q) 0x0505 q s .done (clockRecord (holdOffset (arrived q s))) (fun t =>
      t = { arrived q s with free := t.free, clk := { (arrived q s).clk with offNow := t.clk.offNow, offAt := t.clk.offAt } })) ∧
    (Ready 0x0204 q s → q.params.length = 1 →
      (byteAt q.params 0 = 1 ∨ byteAt q.params 0 = 2 → ∃ l : List Byte, l.length = 256 ∧
        (∀ k : Nat, k < 128 → fieldAt l (2 * k) 2 =
          (s.map.words[fin256 (128 * (byteAt q.params 0 - 1) + k)]).word % 65536) ∧
        Completes (.tackResult q) 0x0204 q s .done l (fun t => t = arrived q s)) ∧
      (byteAt q.params 0 ≠ 1 → byteAt q.params 0 ≠ 2 → ∃ l : List Byte, l.length = 145 ∧ byteAt l 0 = mapCode s ∧
        (∀ r : Fin 48, byteAt l (1 + r.val) = s.map.activeChk[r] % 256 ∧ fieldAt l (49 + 2 * r.val) 2 = railCap s r.val % 65536) ∧
        Completes (.tackResult q) 0x0204 q s .done l (fun t => t = arrived q s))) ∧
    (∀ r : Fin 48, q.params.length = 1 → byteAt q.params 0 = r.val →
      (Ready 0x0308 q s → (regulationRecord s.rails[r]).length = 16 ∧
        Completes (.railGetState q) 0x0308 q s .done (regulationRecord s.rails[r]) (fun t => t = arrived q s)) ∧
      (Ready 0x0406 q s → (phaseRecord s r.val).length = 16 ∧
        Completes (.phaseStatus q) 0x0406 q s .done (phaseRecord s r.val) (fun t => t = arrived q s))) ∧
    (∀ k : Fin 8, Ready 0x0404 q s → q.params.length = 2 → byteAt q.params 0 = k.val →
      (∀ sel : Nat, byteAt q.params 1 = sel → 1 ≤ sel → sel ≤ 16 → ∃ l : List Byte, l.length = 256 ∧
        (∀ j : Nat, j < 64 → fieldAt l (4 * j) 2 = s.crease[k].cur.getD (64 * (sel - 1) + j) 0 % 65536) ∧
        Completes (.creaseRead q) 0x0404 q s .done l (fun t => t = arrived q s)) ∧
      (byteAt q.params 1 = 0 ∨ 16 < byteAt q.params 1 →
        Completes (.creaseRead q) 0x0404 q s .done (creaseRecord s.crease[k]) (fun t => t = arrived q s))) ∧
    (∀ u : Nat, Ready 0x0504 q s → q.params.length = 8 → u = checkU s (byteAt q.params 0) (fieldAt q.params 4 4) →
      (planViols s s.clk.bands u = [] → ∃ l : List Byte, l.length = 200 ∧ l.take 4 = [0, 0, 0, 0] ∧ fieldAt l 4 4 = u % 2 ^ 32 ∧
        (∀ r : Fin 48, fieldAt l (8 + 4 * r.val) 4 = hMax s r.val % 2 ^ 32) ∧
        Completes (.spurPlanCheck q) 0x0504 q s .done l (fun t => t = arrived q s)) ∧
      (planViols s s.clk.bands u ≠ [] → ∃ l : List Byte, byteAt l 0 = 1 ∧ byteAt l 1 = min 255 (planViols s s.clk.bands u).length ∧
        fieldAt l 4 4 = u % 2 ^ 32 ∧ l.drop 200 = violRecords (planViols s s.clk.bands u) ∧
        Completes (.spurPlanCheck q) 0x0504 q s .planImpossible l (fun t => t = arrived q s))) ∧
    (∀ (first count : Nat), Ready 0x0606 q s → q.params.length = 2 → byteAt q.params 0 = first → byteAt q.params 1 = count → 1 ≤ count →
      count ≤ 24 → first + count ≤ 48 → ∃ l : List Byte, l.length = 4 + 12 * count ∧ byteAt l 0 = coverageFlags s ∧
        (∀ k : Nat, k < count → (l.drop (4 + 12 * k)).take 12 = coverageRecord s (first + k)) ∧
        Completes (.coverageReport q) 0x0606 q s .done l (fun t => t = arrived q s)) ∧
    (∀ k : Fin 8, Ready 0x0807 q s → q.params.length = 1 → byteAt q.params 0 = k.val → (resultRecord s.tlm.seqs[k]).length = 76 ∧
      Completes (.tseqRead q) 0x0807 q s .done (resultRecord s.tlm.seqs[k]) (fun t => t = arrived q s)) ∧
    (Ready 0x0B02 q s → q.params = [] → ∃ l : List Byte, l.take s.hem.rtc.length = s.hem.rtc ∧ l.length = s.hem.rtc.length + 16 ∧
      fieldAt (l.drop s.hem.rtc.length) 0 2 = hemWord s % 65536 ∧ byteAt (l.drop s.hem.rtc.length) 2 = b2n s.hem.calendar ∧
      Completes (.rtcGet q) 0x0B02 q s .done l (fun t => t = { arrived q s with free := t.free })) ∧
    (∀ (first count : Nat), Ready 0x0B07 q s → q.params.length = 2 → byteAt q.params 0 = first → byteAt q.params 1 = count → 1 ≤ count →
      first + count ≤ 64 → ∃ l : List Byte, l.length = count + 1 ∧
        (∀ k : Nat, k < count → ∀ j : Fin 64, j.val = first + k → l.getD k 0 = s.hem.backup[j]) ∧
        byteAt l count = (if crc8 s.hem.backup.toList = s.hem.check.toNat then 0 else 1) ∧
        Completes (.backupRead q) 0x0B07 q s .done l (fun t => t = { arrived q s with hem := { s.hem with bkpBad := t.hem.bkpBad } })) ∧
    (Ready 0x0C04 q s → q.params = [] → ∃ l : List Byte, byteAt l 0 = s.hem.wdSt.code ∧
      (natBit (byteAt l 1) 0 = s.hem.wd.enable) ∧ (natBit (byteAt l 1) 1 = s.hem.wd.lock) ∧ (natBit (byteAt l 1) 2 = s.hem.wdi) ∧
      fieldAt l 2 2 = s.hem.wd.mask.toNat ∧
      (∀ k : Fin 16, natBit (fieldAt l 4 2) k.val = s.hem.checkins.any (fun x => decide (x.1 = k.val))) ∧
      fieldAt l 8 4 = (s.hem.ticks - s.hem.wdStart) % 2 ^ 32 ∧ fieldAt l 12 4 = s.hem.wd.t % 2 ^ 32 ∧
      fieldAt l 16 4 = s.hem.wd.c % 2 ^ 32 ∧ fieldAt l 20 2 = s.hem.wd.wdoMs % 65536 ∧
      Completes (.wdogStatus q) 0x0C04 q s .done l (fun t => t = arrived q s))

/-! ## The invariant -/

/-- The machine right after reset meets the invariant: the image buffer, the command window and the
flash banks are in their canonical form, and no command waits (R369, R376, R406, R511). That
unwritten bytes are not listed is the model's choice, log entry 108. -/
def Obligations.InvHoldsAtReset : Prop := Inv State.reset

/-- Every step keeps the invariant: whatever command or happening is in front, the byte memories stay in their canonical form, and never
do more than eight commands wait (R369, R376, R406, R511). -/
def Obligations.EveryStepKeepsInv : Prop := ∀ s s' : State, Inv s → step s = .next s' → Inv s'
end

