-- ==== Sys2Proof/Laws/Bus.lean ====
section
/-! SUPPORT. The bus: which message a cell latches next, and what raising messages changes. -/

namespace Sys2Proof.Machine

/-- The message taken is in flight, passes the test, and the cell had not latched it. -/
theorem takeFrom_some {sel : Msg → Bool} {c : Nat} {ms rest : List Msg} {m : Msg} (h : takeFrom sel c ms = some (m, rest)) :
    m ∈ ms ∧ sel m = true ∧ m.waits.getLsbD c = true := by
  induction ms generalizing rest with
  | nil => simp [takeFrom] at h
  | cons x xs ih =>
    by_cases hx : (sel x && x.waits.getLsbD c) = true
    · simp only [takeFrom, hx, if_true, Option.some.injEq, Prod.mk.injEq] at h
      obtain ⟨rfl, -⟩ := h
      simpa using hx
    · simp only [takeFrom, hx] at h
      cases hy : takeFrom sel c xs with
      | none => simp [hy] at h
      | some y =>
        simp only [hy, Option.map_some, Bool.false_eq_true, if_false, Option.some.injEq, Prod.mk.injEq] at h
        obtain ⟨rfl, -⟩ := h
        have := ih (rest := y.2) (by rw [hy])
        exact ⟨List.mem_cons_of_mem _ this.1, this.2⟩

/-- Nothing is taken exactly when no message in flight passes the test and waits for the cell. -/
theorem takeFrom_none {sel : Msg → Bool} {c : Nat} {ms : List Msg} :
    takeFrom sel c ms = none ↔ ∀ m ∈ ms, sel m = true → m.waits.getLsbD c = false := by
  induction ms with
  | nil => simp [takeFrom]
  | cons x xs ih =>
    by_cases hx : (sel x && x.waits.getLsbD c) = true
    · simp only [takeFrom, hx, if_true, reduceCtorEq, false_iff]
      intro h
      have h1 := h x (by simp)
      simp_all
    · simp only [takeFrom, hx, Bool.false_eq_true, if_false, Option.map_eq_none_iff, ih, List.mem_cons, forall_eq_or_imp]
      simp_all

/-- Raising messages changes the traffic alone. -/
theorem post_only (ms : List Msg) (s : State) : post ms s = { s with bus := (post ms s).bus } := rfl

/-- A message raised with receivers is in flight. -/
theorem mem_post {ms : List Msg} {m : Msg} (s : State) (h : m ∈ ms) (w : m.waits ≠ 0) : m ∈ (post ms s).bus := by
  simp only [post, List.mem_append, List.mem_filter, decide_eq_true_eq]
  exact .inr ⟨h, w⟩

end Sys2Proof.Machine
end

