-- ==== Sys2Proof/Laws/State.lean ====
section
/-! SUPPORT. What the named updates of the state leave as it was: one lemma per component and update, so that no proof unfolds a
record. -/

namespace Sys2Proof.Machine

/-! ## One entry changed -/

@[simp] theorem bump_pending (s : State) : (bump s).pending = s.pending := rfl
@[simp] theorem bump_fabric (s : State) : (bump s).fabric = s.fabric := rfl
@[simp] theorem bump_cells (s : State) : (bump s).cells = s.cells := rfl
@[simp] theorem bump_rails (s : State) : (bump s).rails = s.rails := rfl
@[simp] theorem bump_bus (s : State) : (bump s).bus = s.bus := rfl
@[simp] theorem bump_armQ (s : State) : (bump s).armQ = s.armQ := rfl
@[simp] theorem bump_arming (s : State) : (bump s).arming = s.arming := rfl
@[simp] theorem bump_map (s : State) : (bump s).map = s.map := rfl
@[simp] theorem bump_crease (s : State) : (bump s).crease = s.crease := rfl
@[simp] theorem bump_clk (s : State) : (bump s).clk = s.clk := rfl
@[simp] theorem bump_dom (s : State) : (bump s).dom = s.dom := rfl
@[simp] theorem bump_sup (s : State) : (bump s).sup = s.sup := rfl
@[simp] theorem bump_tlm (s : State) : (bump s).tlm = s.tlm := rfl
@[simp] theorem bump_therm (s : State) : (bump s).therm = s.therm := rfl
@[simp] theorem bump_chg (s : State) : (bump s).chg = s.chg := rfl
@[simp] theorem bump_hem (s : State) : (bump s).hem = s.hem := rfl
@[simp] theorem bump_proto (s : State) : (bump s).proto = s.proto := rfl
@[simp] theorem bump_hp (s : State) : (bump s).hp = s.hp := rfl
@[simp] theorem bump_seam (s : State) : (bump s).seam = s.seam := rfl
@[simp] theorem bump_router (s : State) : (bump s).router = s.router := rfl
@[simp] theorem bump_pwr (s : State) : (bump s).pwr = s.pwr := rfl
@[simp] theorem bump_fuse (s : State) : (bump s).fuse = s.fuse := rfl
@[simp] theorem bump_fw (s : State) : (bump s).fw = s.fw := rfl
@[simp] theorem bump_land (s : State) : (bump s).land = s.land := rfl
@[simp] theorem modCell_pending (s : State) (c : Fin 256) (g : Cell → Cell) : (modCell s c g).pending = s.pending := rfl
@[simp] theorem modCell_free (s : State) (c : Fin 256) (g : Cell → Cell) : (modCell s c g).free = s.free := rfl
@[simp] theorem modCell_fabric (s : State) (c : Fin 256) (g : Cell → Cell) : (modCell s c g).fabric = s.fabric := rfl
@[simp] theorem modCell_rails (s : State) (c : Fin 256) (g : Cell → Cell) : (modCell s c g).rails = s.rails := rfl
@[simp] theorem modCell_bus (s : State) (c : Fin 256) (g : Cell → Cell) : (modCell s c g).bus = s.bus := rfl
@[simp] theorem modCell_armQ (s : State) (c : Fin 256) (g : Cell → Cell) : (modCell s c g).armQ = s.armQ := rfl
@[simp] theorem modCell_arming (s : State) (c : Fin 256) (g : Cell → Cell) : (modCell s c g).arming = s.arming := rfl
@[simp] theorem modCell_map (s : State) (c : Fin 256) (g : Cell → Cell) : (modCell s c g).map = s.map := rfl
@[simp] theorem modCell_crease (s : State) (c : Fin 256) (g : Cell → Cell) : (modCell s c g).crease = s.crease := rfl
@[simp] theorem modCell_clk (s : State) (c : Fin 256) (g : Cell → Cell) : (modCell s c g).clk = s.clk := rfl
@[simp] theorem modCell_dom (s : State) (c : Fin 256) (g : Cell → Cell) : (modCell s c g).dom = s.dom := rfl
@[simp] theorem modCell_sup (s : State) (c : Fin 256) (g : Cell → Cell) : (modCell s c g).sup = s.sup := rfl
@[simp] theorem modCell_tlm (s : State) (c : Fin 256) (g : Cell → Cell) : (modCell s c g).tlm = s.tlm := rfl
@[simp] theorem modCell_therm (s : State) (c : Fin 256) (g : Cell → Cell) : (modCell s c g).therm = s.therm := rfl
@[simp] theorem modCell_chg (s : State) (c : Fin 256) (g : Cell → Cell) : (modCell s c g).chg = s.chg := rfl
@[simp] theorem modCell_hem (s : State) (c : Fin 256) (g : Cell → Cell) : (modCell s c g).hem = s.hem := rfl
@[simp] theorem modCell_proto (s : State) (c : Fin 256) (g : Cell → Cell) : (modCell s c g).proto = s.proto := rfl
@[simp] theorem modCell_hp (s : State) (c : Fin 256) (g : Cell → Cell) : (modCell s c g).hp = s.hp := rfl
@[simp] theorem modCell_seam (s : State) (c : Fin 256) (g : Cell → Cell) : (modCell s c g).seam = s.seam := rfl
@[simp] theorem modCell_router (s : State) (c : Fin 256) (g : Cell → Cell) : (modCell s c g).router = s.router := rfl
@[simp] theorem modCell_pwr (s : State) (c : Fin 256) (g : Cell → Cell) : (modCell s c g).pwr = s.pwr := rfl
@[simp] theorem modCell_fuse (s : State) (c : Fin 256) (g : Cell → Cell) : (modCell s c g).fuse = s.fuse := rfl
@[simp] theorem modCell_fw (s : State) (c : Fin 256) (g : Cell → Cell) : (modCell s c g).fw = s.fw := rfl
@[simp] theorem modCell_land (s : State) (c : Fin 256) (g : Cell → Cell) : (modCell s c g).land = s.land := rfl
@[simp] theorem mapCells_pending (s : State) (g : Nat → Cell → Cell) : (mapCells s g).pending = s.pending := rfl
@[simp] theorem mapCells_free (s : State) (g : Nat → Cell → Cell) : (mapCells s g).free = s.free := rfl
@[simp] theorem mapCells_fabric (s : State) (g : Nat → Cell → Cell) : (mapCells s g).fabric = s.fabric := rfl
@[simp] theorem mapCells_rails (s : State) (g : Nat → Cell → Cell) : (mapCells s g).rails = s.rails := rfl
@[simp] theorem mapCells_bus (s : State) (g : Nat → Cell → Cell) : (mapCells s g).bus = s.bus := rfl
@[simp] theorem mapCells_armQ (s : State) (g : Nat → Cell → Cell) : (mapCells s g).armQ = s.armQ := rfl
@[simp] theorem mapCells_arming (s : State) (g : Nat → Cell → Cell) : (mapCells s g).arming = s.arming := rfl
@[simp] theorem mapCells_map (s : State) (g : Nat → Cell → Cell) : (mapCells s g).map = s.map := rfl
@[simp] theorem mapCells_crease (s : State) (g : Nat → Cell → Cell) : (mapCells s g).crease = s.crease := rfl
@[simp] theorem mapCells_clk (s : State) (g : Nat → Cell → Cell) : (mapCells s g).clk = s.clk := rfl
@[simp] theorem mapCells_dom (s : State) (g : Nat → Cell → Cell) : (mapCells s g).dom = s.dom := rfl
@[simp] theorem mapCells_sup (s : State) (g : Nat → Cell → Cell) : (mapCells s g).sup = s.sup := rfl
@[simp] theorem mapCells_tlm (s : State) (g : Nat → Cell → Cell) : (mapCells s g).tlm = s.tlm := rfl
@[simp] theorem mapCells_therm (s : State) (g : Nat → Cell → Cell) : (mapCells s g).therm = s.therm := rfl
@[simp] theorem mapCells_chg (s : State) (g : Nat → Cell → Cell) : (mapCells s g).chg = s.chg := rfl
@[simp] theorem mapCells_hem (s : State) (g : Nat → Cell → Cell) : (mapCells s g).hem = s.hem := rfl
@[simp] theorem mapCells_proto (s : State) (g : Nat → Cell → Cell) : (mapCells s g).proto = s.proto := rfl
@[simp] theorem mapCells_hp (s : State) (g : Nat → Cell → Cell) : (mapCells s g).hp = s.hp := rfl
@[simp] theorem mapCells_seam (s : State) (g : Nat → Cell → Cell) : (mapCells s g).seam = s.seam := rfl
@[simp] theorem mapCells_router (s : State) (g : Nat → Cell → Cell) : (mapCells s g).router = s.router := rfl
@[simp] theorem mapCells_pwr (s : State) (g : Nat → Cell → Cell) : (mapCells s g).pwr = s.pwr := rfl
@[simp] theorem mapCells_fuse (s : State) (g : Nat → Cell → Cell) : (mapCells s g).fuse = s.fuse := rfl
@[simp] theorem mapCells_fw (s : State) (g : Nat → Cell → Cell) : (mapCells s g).fw = s.fw := rfl
@[simp] theorem mapCells_land (s : State) (g : Nat → Cell → Cell) : (mapCells s g).land = s.land := rfl
@[simp] theorem modRail_pending (s : State) (r : Fin 48) (g : Rail → Rail) : (modRail s r g).pending = s.pending := rfl
@[simp] theorem modRail_free (s : State) (r : Fin 48) (g : Rail → Rail) : (modRail s r g).free = s.free := rfl
@[simp] theorem modRail_fabric (s : State) (r : Fin 48) (g : Rail → Rail) : (modRail s r g).fabric = s.fabric := rfl
@[simp] theorem modRail_cells (s : State) (r : Fin 48) (g : Rail → Rail) : (modRail s r g).cells = s.cells := rfl
@[simp] theorem modRail_bus (s : State) (r : Fin 48) (g : Rail → Rail) : (modRail s r g).bus = s.bus := rfl
@[simp] theorem modRail_armQ (s : State) (r : Fin 48) (g : Rail → Rail) : (modRail s r g).armQ = s.armQ := rfl
@[simp] theorem modRail_arming (s : State) (r : Fin 48) (g : Rail → Rail) : (modRail s r g).arming = s.arming := rfl
@[simp] theorem modRail_map (s : State) (r : Fin 48) (g : Rail → Rail) : (modRail s r g).map = s.map := rfl
@[simp] theorem modRail_crease (s : State) (r : Fin 48) (g : Rail → Rail) : (modRail s r g).crease = s.crease := rfl
@[simp] theorem modRail_clk (s : State) (r : Fin 48) (g : Rail → Rail) : (modRail s r g).clk = s.clk := rfl
@[simp] theorem modRail_dom (s : State) (r : Fin 48) (g : Rail → Rail) : (modRail s r g).dom = s.dom := rfl
@[simp] theorem modRail_sup (s : State) (r : Fin 48) (g : Rail → Rail) : (modRail s r g).sup = s.sup := rfl
@[simp] theorem modRail_tlm (s : State) (r : Fin 48) (g : Rail → Rail) : (modRail s r g).tlm = s.tlm := rfl
@[simp] theorem modRail_therm (s : State) (r : Fin 48) (g : Rail → Rail) : (modRail s r g).therm = s.therm := rfl
@[simp] theorem modRail_chg (s : State) (r : Fin 48) (g : Rail → Rail) : (modRail s r g).chg = s.chg := rfl
@[simp] theorem modRail_hem (s : State) (r : Fin 48) (g : Rail → Rail) : (modRail s r g).hem = s.hem := rfl
@[simp] theorem modRail_proto (s : State) (r : Fin 48) (g : Rail → Rail) : (modRail s r g).proto = s.proto := rfl
@[simp] theorem modRail_hp (s : State) (r : Fin 48) (g : Rail → Rail) : (modRail s r g).hp = s.hp := rfl
@[simp] theorem modRail_seam (s : State) (r : Fin 48) (g : Rail → Rail) : (modRail s r g).seam = s.seam := rfl
@[simp] theorem modRail_router (s : State) (r : Fin 48) (g : Rail → Rail) : (modRail s r g).router = s.router := rfl
@[simp] theorem modRail_pwr (s : State) (r : Fin 48) (g : Rail → Rail) : (modRail s r g).pwr = s.pwr := rfl
@[simp] theorem modRail_fuse (s : State) (r : Fin 48) (g : Rail → Rail) : (modRail s r g).fuse = s.fuse := rfl
@[simp] theorem modRail_fw (s : State) (r : Fin 48) (g : Rail → Rail) : (modRail s r g).fw = s.fw := rfl
@[simp] theorem modRail_land (s : State) (r : Fin 48) (g : Rail → Rail) : (modRail s r g).land = s.land := rfl
@[simp] theorem mapRails_pending (s : State) (g : Nat → Rail → Rail) : (mapRails s g).pending = s.pending := rfl
@[simp] theorem mapRails_free (s : State) (g : Nat → Rail → Rail) : (mapRails s g).free = s.free := rfl
@[simp] theorem mapRails_fabric (s : State) (g : Nat → Rail → Rail) : (mapRails s g).fabric = s.fabric := rfl
@[simp] theorem mapRails_cells (s : State) (g : Nat → Rail → Rail) : (mapRails s g).cells = s.cells := rfl
@[simp] theorem mapRails_bus (s : State) (g : Nat → Rail → Rail) : (mapRails s g).bus = s.bus := rfl
@[simp] theorem mapRails_armQ (s : State) (g : Nat → Rail → Rail) : (mapRails s g).armQ = s.armQ := rfl
@[simp] theorem mapRails_arming (s : State) (g : Nat → Rail → Rail) : (mapRails s g).arming = s.arming := rfl
@[simp] theorem mapRails_map (s : State) (g : Nat → Rail → Rail) : (mapRails s g).map = s.map := rfl
@[simp] theorem mapRails_crease (s : State) (g : Nat → Rail → Rail) : (mapRails s g).crease = s.crease := rfl
@[simp] theorem mapRails_clk (s : State) (g : Nat → Rail → Rail) : (mapRails s g).clk = s.clk := rfl
@[simp] theorem mapRails_dom (s : State) (g : Nat → Rail → Rail) : (mapRails s g).dom = s.dom := rfl
@[simp] theorem mapRails_sup (s : State) (g : Nat → Rail → Rail) : (mapRails s g).sup = s.sup := rfl
@[simp] theorem mapRails_tlm (s : State) (g : Nat → Rail → Rail) : (mapRails s g).tlm = s.tlm := rfl
@[simp] theorem mapRails_therm (s : State) (g : Nat → Rail → Rail) : (mapRails s g).therm = s.therm := rfl
@[simp] theorem mapRails_chg (s : State) (g : Nat → Rail → Rail) : (mapRails s g).chg = s.chg := rfl
@[simp] theorem mapRails_hem (s : State) (g : Nat → Rail → Rail) : (mapRails s g).hem = s.hem := rfl
@[simp] theorem mapRails_proto (s : State) (g : Nat → Rail → Rail) : (mapRails s g).proto = s.proto := rfl
@[simp] theorem mapRails_hp (s : State) (g : Nat → Rail → Rail) : (mapRails s g).hp = s.hp := rfl
@[simp] theorem mapRails_seam (s : State) (g : Nat → Rail → Rail) : (mapRails s g).seam = s.seam := rfl
@[simp] theorem mapRails_router (s : State) (g : Nat → Rail → Rail) : (mapRails s g).router = s.router := rfl
@[simp] theorem mapRails_pwr (s : State) (g : Nat → Rail → Rail) : (mapRails s g).pwr = s.pwr := rfl
@[simp] theorem mapRails_fuse (s : State) (g : Nat → Rail → Rail) : (mapRails s g).fuse = s.fuse := rfl
@[simp] theorem mapRails_fw (s : State) (g : Nat → Rail → Rail) : (mapRails s g).fw = s.fw := rfl
@[simp] theorem mapRails_land (s : State) (g : Nat → Rail → Rail) : (mapRails s g).land = s.land := rfl

/-! ## The entry itself -/

theorem upd_self {α : Type} {n : Nat} (v : Vector α n) (i : Fin n) (x : α) : (upd v i x)[i] = x := by simp [upd]

theorem upd_other {α : Type} {n : Nat} (v : Vector α n) (i j : Fin n) (x : α) (h : i ≠ j) : (upd v i x)[j] = v[j] := by
  simp only [upd, Fin.getElem_fin]
  exact Vector.getElem_set_ne _ _ (fun e => h (Fin.ext e))

theorem modCell_self (s : State) (c : Fin 256) (g : Cell → Cell) : (modCell s c g).cells[c] = g s.cells[c] := upd_self _ _ _

theorem modCell_other (s : State) (c d : Fin 256) (g : Cell → Cell) (h : c ≠ d) : (modCell s c g).cells[d] = s.cells[d] :=
  upd_other _ _ _ _ h

theorem modRail_self (s : State) (r : Fin 48) (g : Rail → Rail) : (modRail s r g).rails[r] = g s.rails[r] := upd_self _ _ _

theorem modRail_other (s : State) (r q : Fin 48) (g : Rail → Rail) (h : r ≠ q) : (modRail s r g).rails[q] = s.rails[q] :=
  upd_other _ _ _ _ h

theorem listMapIdx_get {α β : Type} (f : Nat → α → β) (k : Nat) (xs : List α) (i : Nat) (h : i < (listMapIdx f k xs).length)
    (h' : i < xs.length) : (listMapIdx f k xs)[i] = f (k + i) xs[i] := by
  induction xs generalizing k i with
  | nil => exact absurd h' (Nat.not_lt_zero i)
  | cons x xs ih =>
    cases i with
    | zero => rfl
    | succ i =>
      have := ih (k + 1) i (by simpa [listMapIdx] using h) (by simpa using h')
      simp only [listMapIdx, List.getElem_cons_succ]
      rw [this]; congr 1; omega

theorem mapIdx_get {α β : Type} {n : Nat} (v : Vector α n) (f : Nat → α → β) (i : Fin n) : (mapIdx v f)[i] = f i.val v[i] := by
  have h := listMapIdx_get f 0 v.toArray.toList i.val (by simp [listMapIdx_length]) (by simp)
  simpa [mapIdx] using h

theorem mapCells_get (s : State) (g : Nat → Cell → Cell) (c : Fin 256) : (mapCells s g).cells[c] = g c.val s.cells[c] :=
  mapIdx_get _ _ _

theorem mapRails_get (s : State) (g : Nat → Rail → Rail) (r : Fin 48) : (mapRails s g).rails[r] = g r.val s.rails[r] :=
  mapIdx_get _ _ _

end Sys2Proof.Machine
end

