-- ==== Sys2Proof/Laws/Router.lean ====
section
/-! SUPPORT. What raising an event leaves as it was: everything but the router, the Seam frame that tells a subscriber, the wake it
requests and the supply of a manager it resumes. -/

namespace Sys2Proof.Machine

/-! ## Routing and wakes -/

@[simp] theorem settle_pending (s : State) (x : Router) : (settle s x).pending = s.pending := by unfold settle; rfl
@[simp] theorem settle_free (s : State) (x : Router) : (settle s x).free = s.free := by unfold settle; rfl
@[simp] theorem settle_fabric (s : State) (x : Router) : (settle s x).fabric = s.fabric := by unfold settle; rfl
@[simp] theorem settle_fabricFree (s : State) (x : Router) : (settle s x).fabricFree = s.fabricFree := by unfold settle; rfl
@[simp] theorem settle_cells (s : State) (x : Router) : (settle s x).cells = s.cells := by unfold settle; rfl
@[simp] theorem settle_rails (s : State) (x : Router) : (settle s x).rails = s.rails := by unfold settle; rfl
@[simp] theorem settle_bus (s : State) (x : Router) : (settle s x).bus = s.bus := by unfold settle; rfl
@[simp] theorem settle_armQ (s : State) (x : Router) : (settle s x).armQ = s.armQ := by unfold settle; rfl
@[simp] theorem settle_arming (s : State) (x : Router) : (settle s x).arming = s.arming := by unfold settle; rfl
@[simp] theorem settle_map (s : State) (x : Router) : (settle s x).map = s.map := by unfold settle; rfl
@[simp] theorem settle_crease (s : State) (x : Router) : (settle s x).crease = s.crease := by unfold settle; rfl
@[simp] theorem settle_clk (s : State) (x : Router) : (settle s x).clk = s.clk := by unfold settle; rfl
@[simp] theorem settle_dom (s : State) (x : Router) : (settle s x).dom = s.dom := by unfold settle; rfl
@[simp] theorem settle_sup (s : State) (x : Router) : (settle s x).sup = s.sup := by unfold settle; rfl
@[simp] theorem settle_tlm (s : State) (x : Router) : (settle s x).tlm = s.tlm := by unfold settle; rfl
@[simp] theorem settle_therm (s : State) (x : Router) : (settle s x).therm = s.therm := by unfold settle; rfl
@[simp] theorem settle_chg (s : State) (x : Router) : (settle s x).chg = s.chg := by unfold settle; rfl
@[simp] theorem settle_hem (s : State) (x : Router) : (settle s x).hem = s.hem := by unfold settle; rfl
@[simp] theorem settle_proto (s : State) (x : Router) : (settle s x).proto = s.proto := by unfold settle; rfl
@[simp] theorem settle_hp (s : State) (x : Router) : (settle s x).hp = s.hp := by unfold settle; rfl
@[simp] theorem settle_pwr (s : State) (x : Router) : (settle s x).pwr = s.pwr := by unfold settle; rfl
@[simp] theorem settle_fuse (s : State) (x : Router) : (settle s x).fuse = s.fuse := by unfold settle; rfl
@[simp] theorem settle_fw (s : State) (x : Router) : (settle s x).fw = s.fw := by unfold settle; rfl
@[simp] theorem settle_land (s : State) (x : Router) : (settle s x).land = s.land := by unfold settle; rfl
@[simp] theorem wakeReq_pending (w : WakeSource) (s : State) : (wakeReq w s).pending = s.pending := by unfold wakeReq; split <;> rfl
@[simp] theorem wakeReq_free (w : WakeSource) (s : State) : (wakeReq w s).free = s.free := by unfold wakeReq; split <;> rfl
@[simp] theorem wakeReq_fabric (w : WakeSource) (s : State) : (wakeReq w s).fabric = s.fabric := by unfold wakeReq; split <;> rfl
@[simp] theorem wakeReq_fabricFree (w : WakeSource) (s : State) : (wakeReq w s).fabricFree = s.fabricFree := by unfold wakeReq; split <;> rfl
@[simp] theorem wakeReq_cells (w : WakeSource) (s : State) : (wakeReq w s).cells = s.cells := by unfold wakeReq; split <;> rfl
@[simp] theorem wakeReq_rails (w : WakeSource) (s : State) : (wakeReq w s).rails = s.rails := by unfold wakeReq; split <;> rfl
@[simp] theorem wakeReq_bus (w : WakeSource) (s : State) : (wakeReq w s).bus = s.bus := by unfold wakeReq; split <;> rfl
@[simp] theorem wakeReq_armQ (w : WakeSource) (s : State) : (wakeReq w s).armQ = s.armQ := by unfold wakeReq; split <;> rfl
@[simp] theorem wakeReq_arming (w : WakeSource) (s : State) : (wakeReq w s).arming = s.arming := by unfold wakeReq; split <;> rfl
@[simp] theorem wakeReq_map (w : WakeSource) (s : State) : (wakeReq w s).map = s.map := by unfold wakeReq; split <;> rfl
@[simp] theorem wakeReq_crease (w : WakeSource) (s : State) : (wakeReq w s).crease = s.crease := by unfold wakeReq; split <;> rfl
@[simp] theorem wakeReq_dom (w : WakeSource) (s : State) : (wakeReq w s).dom = s.dom := by unfold wakeReq; split <;> rfl
@[simp] theorem wakeReq_sup (w : WakeSource) (s : State) : (wakeReq w s).sup = s.sup := by unfold wakeReq; split <;> rfl
@[simp] theorem wakeReq_tlm (w : WakeSource) (s : State) : (wakeReq w s).tlm = s.tlm := by unfold wakeReq; split <;> rfl
@[simp] theorem wakeReq_therm (w : WakeSource) (s : State) : (wakeReq w s).therm = s.therm := by unfold wakeReq; split <;> rfl
@[simp] theorem wakeReq_chg (w : WakeSource) (s : State) : (wakeReq w s).chg = s.chg := by unfold wakeReq; split <;> rfl
@[simp] theorem wakeReq_hem (w : WakeSource) (s : State) : (wakeReq w s).hem = s.hem := by unfold wakeReq; split <;> rfl
@[simp] theorem wakeReq_proto (w : WakeSource) (s : State) : (wakeReq w s).proto = s.proto := by unfold wakeReq; split <;> rfl
@[simp] theorem wakeReq_hp (w : WakeSource) (s : State) : (wakeReq w s).hp = s.hp := by unfold wakeReq; split <;> rfl
@[simp] theorem wakeReq_seam (w : WakeSource) (s : State) : (wakeReq w s).seam = s.seam := by unfold wakeReq; split <;> rfl
@[simp] theorem wakeReq_router (w : WakeSource) (s : State) : (wakeReq w s).router = s.router := by unfold wakeReq; split <;> rfl
@[simp] theorem wakeReq_fuse (w : WakeSource) (s : State) : (wakeReq w s).fuse = s.fuse := by unfold wakeReq; split <;> rfl
@[simp] theorem wakeReq_fw (w : WakeSource) (s : State) : (wakeReq w s).fw = s.fw := by unfold wakeReq; split <;> rfl
@[simp] theorem wakeReq_land (w : WakeSource) (s : State) : (wakeReq w s).land = s.land := by unfold wakeReq; split <;> rfl
@[simp] theorem eventWake_pending (e : Fin 1024) (b : Bool) (s : State) : (eventWake e b s).pending = s.pending := by
  unfold eventWake; split <;> (try split) <;> simp
@[simp] theorem eventWake_free (e : Fin 1024) (b : Bool) (s : State) : (eventWake e b s).free = s.free := by
  unfold eventWake; split <;> (try split) <;> simp
@[simp] theorem eventWake_fabric (e : Fin 1024) (b : Bool) (s : State) : (eventWake e b s).fabric = s.fabric := by
  unfold eventWake; split <;> (try split) <;> simp
@[simp] theorem eventWake_fabricFree (e : Fin 1024) (b : Bool) (s : State) : (eventWake e b s).fabricFree = s.fabricFree := by
  unfold eventWake; split <;> (try split) <;> simp
@[simp] theorem eventWake_cells (e : Fin 1024) (b : Bool) (s : State) : (eventWake e b s).cells = s.cells := by
  unfold eventWake; split <;> (try split) <;> simp
@[simp] theorem eventWake_rails (e : Fin 1024) (b : Bool) (s : State) : (eventWake e b s).rails = s.rails := by
  unfold eventWake; split <;> (try split) <;> simp
@[simp] theorem eventWake_bus (e : Fin 1024) (b : Bool) (s : State) : (eventWake e b s).bus = s.bus := by
  unfold eventWake; split <;> (try split) <;> simp
@[simp] theorem eventWake_armQ (e : Fin 1024) (b : Bool) (s : State) : (eventWake e b s).armQ = s.armQ := by
  unfold eventWake; split <;> (try split) <;> simp
@[simp] theorem eventWake_arming (e : Fin 1024) (b : Bool) (s : State) : (eventWake e b s).arming = s.arming := by
  unfold eventWake; split <;> (try split) <;> simp
@[simp] theorem eventWake_map (e : Fin 1024) (b : Bool) (s : State) : (eventWake e b s).map = s.map := by
  unfold eventWake; split <;> (try split) <;> simp
@[simp] theorem eventWake_crease (e : Fin 1024) (b : Bool) (s : State) : (eventWake e b s).crease = s.crease := by
  unfold eventWake; split <;> (try split) <;> simp
@[simp] theorem eventWake_dom (e : Fin 1024) (b : Bool) (s : State) : (eventWake e b s).dom = s.dom := by
  unfold eventWake; split <;> (try split) <;> simp
@[simp] theorem eventWake_sup (e : Fin 1024) (b : Bool) (s : State) : (eventWake e b s).sup = s.sup := by
  unfold eventWake; split <;> (try split) <;> simp
@[simp] theorem eventWake_tlm (e : Fin 1024) (b : Bool) (s : State) : (eventWake e b s).tlm = s.tlm := by
  unfold eventWake; split <;> (try split) <;> simp
@[simp] theorem eventWake_therm (e : Fin 1024) (b : Bool) (s : State) : (eventWake e b s).therm = s.therm := by
  unfold eventWake; split <;> (try split) <;> simp
@[simp] theorem eventWake_chg (e : Fin 1024) (b : Bool) (s : State) : (eventWake e b s).chg = s.chg := by
  unfold eventWake; split <;> (try split) <;> simp
@[simp] theorem eventWake_hem (e : Fin 1024) (b : Bool) (s : State) : (eventWake e b s).hem = s.hem := by
  unfold eventWake; split <;> (try split) <;> simp
@[simp] theorem eventWake_proto (e : Fin 1024) (b : Bool) (s : State) : (eventWake e b s).proto = s.proto := by
  unfold eventWake; split <;> (try split) <;> simp
@[simp] theorem eventWake_hp (e : Fin 1024) (b : Bool) (s : State) : (eventWake e b s).hp = s.hp := by
  unfold eventWake; split <;> (try split) <;> simp
@[simp] theorem eventWake_seam (e : Fin 1024) (b : Bool) (s : State) : (eventWake e b s).seam = s.seam := by
  unfold eventWake; split <;> (try split) <;> simp
@[simp] theorem eventWake_router (e : Fin 1024) (b : Bool) (s : State) : (eventWake e b s).router = s.router := by
  unfold eventWake; split <;> (try split) <;> simp
@[simp] theorem eventWake_fuse (e : Fin 1024) (b : Bool) (s : State) : (eventWake e b s).fuse = s.fuse := by
  unfold eventWake; split <;> (try split) <;> simp
@[simp] theorem eventWake_fw (e : Fin 1024) (b : Bool) (s : State) : (eventWake e b s).fw = s.fw := by
  unfold eventWake; split <;> (try split) <;> simp
@[simp] theorem eventWake_land (e : Fin 1024) (b : Bool) (s : State) : (eventWake e b s).land = s.land := by
  unfold eventWake; split <;> (try split) <;> simp
@[simp] theorem evChange_pending (g : Ev → Ev) (k : Ev → Bool) (e : Fin 1024) (s : State) : (evChange g k e s).pending = s.pending := by unfold evChange; simp
@[simp] theorem evChange_free (g : Ev → Ev) (k : Ev → Bool) (e : Fin 1024) (s : State) : (evChange g k e s).free = s.free := by unfold evChange; simp
@[simp] theorem evChange_fabric (g : Ev → Ev) (k : Ev → Bool) (e : Fin 1024) (s : State) : (evChange g k e s).fabric = s.fabric := by unfold evChange; simp
@[simp] theorem evChange_fabricFree (g : Ev → Ev) (k : Ev → Bool) (e : Fin 1024) (s : State) : (evChange g k e s).fabricFree = s.fabricFree :=
  by unfold evChange; simp
@[simp] theorem evChange_cells (g : Ev → Ev) (k : Ev → Bool) (e : Fin 1024) (s : State) : (evChange g k e s).cells = s.cells := by unfold evChange; simp
@[simp] theorem evChange_rails (g : Ev → Ev) (k : Ev → Bool) (e : Fin 1024) (s : State) : (evChange g k e s).rails = s.rails := by unfold evChange; simp
@[simp] theorem evChange_bus (g : Ev → Ev) (k : Ev → Bool) (e : Fin 1024) (s : State) : (evChange g k e s).bus = s.bus := by unfold evChange; simp
@[simp] theorem evChange_armQ (g : Ev → Ev) (k : Ev → Bool) (e : Fin 1024) (s : State) : (evChange g k e s).armQ = s.armQ := by unfold evChange; simp
@[simp] theorem evChange_arming (g : Ev → Ev) (k : Ev → Bool) (e : Fin 1024) (s : State) : (evChange g k e s).arming = s.arming := by unfold evChange; simp
@[simp] theorem evChange_map (g : Ev → Ev) (k : Ev → Bool) (e : Fin 1024) (s : State) : (evChange g k e s).map = s.map := by unfold evChange; simp
@[simp] theorem evChange_crease (g : Ev → Ev) (k : Ev → Bool) (e : Fin 1024) (s : State) : (evChange g k e s).crease = s.crease := by unfold evChange; simp
@[simp] theorem evChange_dom (g : Ev → Ev) (k : Ev → Bool) (e : Fin 1024) (s : State) : (evChange g k e s).dom = s.dom := by unfold evChange; simp
@[simp] theorem evChange_sup (g : Ev → Ev) (k : Ev → Bool) (e : Fin 1024) (s : State) : (evChange g k e s).sup = s.sup := by unfold evChange; simp
@[simp] theorem evChange_tlm (g : Ev → Ev) (k : Ev → Bool) (e : Fin 1024) (s : State) : (evChange g k e s).tlm = s.tlm := by unfold evChange; simp
@[simp] theorem evChange_therm (g : Ev → Ev) (k : Ev → Bool) (e : Fin 1024) (s : State) : (evChange g k e s).therm = s.therm := by unfold evChange; simp
@[simp] theorem evChange_chg (g : Ev → Ev) (k : Ev → Bool) (e : Fin 1024) (s : State) : (evChange g k e s).chg = s.chg := by unfold evChange; simp
@[simp] theorem evChange_hem (g : Ev → Ev) (k : Ev → Bool) (e : Fin 1024) (s : State) : (evChange g k e s).hem = s.hem := by unfold evChange; simp
@[simp] theorem evChange_proto (g : Ev → Ev) (k : Ev → Bool) (e : Fin 1024) (s : State) : (evChange g k e s).proto = s.proto := by unfold evChange; simp
@[simp] theorem evChange_hp (g : Ev → Ev) (k : Ev → Bool) (e : Fin 1024) (s : State) : (evChange g k e s).hp = s.hp := by unfold evChange; simp
@[simp] theorem evChange_fuse (g : Ev → Ev) (k : Ev → Bool) (e : Fin 1024) (s : State) : (evChange g k e s).fuse = s.fuse := by unfold evChange; simp
@[simp] theorem evChange_fw (g : Ev → Ev) (k : Ev → Bool) (e : Fin 1024) (s : State) : (evChange g k e s).fw = s.fw := by unfold evChange; simp
@[simp] theorem evChange_land (g : Ev → Ev) (k : Ev → Bool) (e : Fin 1024) (s : State) : (evChange g k e s).land = s.land := by unfold evChange; simp
@[simp] theorem pulse_pending (e : Fin 1024) (s : State) : (pulse e s).pending = s.pending := by
  unfold pulse; split <;> simp
@[simp] theorem pulse_free (e : Fin 1024) (s : State) : (pulse e s).free = s.free := by
  unfold pulse; split <;> simp
@[simp] theorem pulse_fabric (e : Fin 1024) (s : State) : (pulse e s).fabric = s.fabric := by
  unfold pulse; split <;> simp
@[simp] theorem pulse_fabricFree (e : Fin 1024) (s : State) : (pulse e s).fabricFree = s.fabricFree := by
  unfold pulse; split <;> simp
@[simp] theorem pulse_cells (e : Fin 1024) (s : State) : (pulse e s).cells = s.cells := by
  unfold pulse; split <;> simp
@[simp] theorem pulse_rails (e : Fin 1024) (s : State) : (pulse e s).rails = s.rails := by
  unfold pulse; split <;> simp
@[simp] theorem pulse_bus (e : Fin 1024) (s : State) : (pulse e s).bus = s.bus := by
  unfold pulse; split <;> simp
@[simp] theorem pulse_armQ (e : Fin 1024) (s : State) : (pulse e s).armQ = s.armQ := by
  unfold pulse; split <;> simp
@[simp] theorem pulse_arming (e : Fin 1024) (s : State) : (pulse e s).arming = s.arming := by
  unfold pulse; split <;> simp
@[simp] theorem pulse_map (e : Fin 1024) (s : State) : (pulse e s).map = s.map := by
  unfold pulse; split <;> simp
@[simp] theorem pulse_crease (e : Fin 1024) (s : State) : (pulse e s).crease = s.crease := by
  unfold pulse; split <;> simp
@[simp] theorem pulse_dom (e : Fin 1024) (s : State) : (pulse e s).dom = s.dom := by
  unfold pulse; split <;> simp
@[simp] theorem pulse_sup (e : Fin 1024) (s : State) : (pulse e s).sup = s.sup := by
  unfold pulse; split <;> simp
@[simp] theorem pulse_tlm (e : Fin 1024) (s : State) : (pulse e s).tlm = s.tlm := by
  unfold pulse; split <;> simp
@[simp] theorem pulse_therm (e : Fin 1024) (s : State) : (pulse e s).therm = s.therm := by
  unfold pulse; split <;> simp
@[simp] theorem pulse_chg (e : Fin 1024) (s : State) : (pulse e s).chg = s.chg := by
  unfold pulse; split <;> simp
@[simp] theorem pulse_hem (e : Fin 1024) (s : State) : (pulse e s).hem = s.hem := by
  unfold pulse; split <;> simp
@[simp] theorem pulse_proto (e : Fin 1024) (s : State) : (pulse e s).proto = s.proto := by
  unfold pulse; split <;> simp
@[simp] theorem pulse_hp (e : Fin 1024) (s : State) : (pulse e s).hp = s.hp := by
  unfold pulse; split <;> simp
@[simp] theorem pulse_fuse (e : Fin 1024) (s : State) : (pulse e s).fuse = s.fuse := by
  unfold pulse; split <;> simp
@[simp] theorem pulse_fw (e : Fin 1024) (s : State) : (pulse e s).fw = s.fw := by
  unfold pulse; split <;> simp
@[simp] theorem pulse_land (e : Fin 1024) (s : State) : (pulse e s).land = s.land := by
  unfold pulse; split <;> simp
@[simp] theorem setLine_pending (e : Fin 1024) (b : Bool) (s : State) : (setLine e b s).pending = s.pending := by
  unfold setLine; split <;> (try split) <;> simp
@[simp] theorem setLine_free (e : Fin 1024) (b : Bool) (s : State) : (setLine e b s).free = s.free := by
  unfold setLine; split <;> (try split) <;> simp
@[simp] theorem setLine_fabric (e : Fin 1024) (b : Bool) (s : State) : (setLine e b s).fabric = s.fabric := by
  unfold setLine; split <;> (try split) <;> simp
@[simp] theorem setLine_fabricFree (e : Fin 1024) (b : Bool) (s : State) : (setLine e b s).fabricFree = s.fabricFree := by
  unfold setLine; split <;> (try split) <;> simp
@[simp] theorem setLine_cells (e : Fin 1024) (b : Bool) (s : State) : (setLine e b s).cells = s.cells := by
  unfold setLine; split <;> (try split) <;> simp
@[simp] theorem setLine_rails (e : Fin 1024) (b : Bool) (s : State) : (setLine e b s).rails = s.rails := by
  unfold setLine; split <;> (try split) <;> simp
@[simp] theorem setLine_bus (e : Fin 1024) (b : Bool) (s : State) : (setLine e b s).bus = s.bus := by
  unfold setLine; split <;> (try split) <;> simp
@[simp] theorem setLine_armQ (e : Fin 1024) (b : Bool) (s : State) : (setLine e b s).armQ = s.armQ := by
  unfold setLine; split <;> (try split) <;> simp
@[simp] theorem setLine_arming (e : Fin 1024) (b : Bool) (s : State) : (setLine e b s).arming = s.arming := by
  unfold setLine; split <;> (try split) <;> simp
@[simp] theorem setLine_map (e : Fin 1024) (b : Bool) (s : State) : (setLine e b s).map = s.map := by
  unfold setLine; split <;> (try split) <;> simp
@[simp] theorem setLine_crease (e : Fin 1024) (b : Bool) (s : State) : (setLine e b s).crease = s.crease := by
  unfold setLine; split <;> (try split) <;> simp
@[simp] theorem setLine_dom (e : Fin 1024) (b : Bool) (s : State) : (setLine e b s).dom = s.dom := by
  unfold setLine; split <;> (try split) <;> simp
@[simp] theorem setLine_sup (e : Fin 1024) (b : Bool) (s : State) : (setLine e b s).sup = s.sup := by
  unfold setLine; split <;> (try split) <;> simp
@[simp] theorem setLine_tlm (e : Fin 1024) (b : Bool) (s : State) : (setLine e b s).tlm = s.tlm := by
  unfold setLine; split <;> (try split) <;> simp
@[simp] theorem setLine_therm (e : Fin 1024) (b : Bool) (s : State) : (setLine e b s).therm = s.therm := by
  unfold setLine; split <;> (try split) <;> simp
@[simp] theorem setLine_chg (e : Fin 1024) (b : Bool) (s : State) : (setLine e b s).chg = s.chg := by
  unfold setLine; split <;> (try split) <;> simp
@[simp] theorem setLine_hem (e : Fin 1024) (b : Bool) (s : State) : (setLine e b s).hem = s.hem := by
  unfold setLine; split <;> (try split) <;> simp
@[simp] theorem setLine_proto (e : Fin 1024) (b : Bool) (s : State) : (setLine e b s).proto = s.proto := by
  unfold setLine; split <;> (try split) <;> simp
@[simp] theorem setLine_hp (e : Fin 1024) (b : Bool) (s : State) : (setLine e b s).hp = s.hp := by
  unfold setLine; split <;> (try split) <;> simp
@[simp] theorem setLine_fuse (e : Fin 1024) (b : Bool) (s : State) : (setLine e b s).fuse = s.fuse := by
  unfold setLine; split <;> (try split) <;> simp
@[simp] theorem setLine_fw (e : Fin 1024) (b : Bool) (s : State) : (setLine e b s).fw = s.fw := by
  unfold setLine; split <;> (try split) <;> simp
@[simp] theorem setLine_land (e : Fin 1024) (b : Bool) (s : State) : (setLine e b s).land = s.land := by
  unfold setLine; split <;> (try split) <;> simp
@[simp] theorem pulseIf_pending (c : Bool) (e : Fin 1024) (s : State) : (pulseIf c e s).pending = s.pending := by
  unfold pulseIf; split <;> simp
@[simp] theorem pulseIf_free (c : Bool) (e : Fin 1024) (s : State) : (pulseIf c e s).free = s.free := by
  unfold pulseIf; split <;> simp
@[simp] theorem pulseIf_fabric (c : Bool) (e : Fin 1024) (s : State) : (pulseIf c e s).fabric = s.fabric := by
  unfold pulseIf; split <;> simp
@[simp] theorem pulseIf_fabricFree (c : Bool) (e : Fin 1024) (s : State) : (pulseIf c e s).fabricFree = s.fabricFree := by
  unfold pulseIf; split <;> simp
@[simp] theorem pulseIf_cells (c : Bool) (e : Fin 1024) (s : State) : (pulseIf c e s).cells = s.cells := by
  unfold pulseIf; split <;> simp
@[simp] theorem pulseIf_rails (c : Bool) (e : Fin 1024) (s : State) : (pulseIf c e s).rails = s.rails := by
  unfold pulseIf; split <;> simp
@[simp] theorem pulseIf_bus (c : Bool) (e : Fin 1024) (s : State) : (pulseIf c e s).bus = s.bus := by
  unfold pulseIf; split <;> simp
@[simp] theorem pulseIf_armQ (c : Bool) (e : Fin 1024) (s : State) : (pulseIf c e s).armQ = s.armQ := by
  unfold pulseIf; split <;> simp
@[simp] theorem pulseIf_arming (c : Bool) (e : Fin 1024) (s : State) : (pulseIf c e s).arming = s.arming := by
  unfold pulseIf; split <;> simp
@[simp] theorem pulseIf_map (c : Bool) (e : Fin 1024) (s : State) : (pulseIf c e s).map = s.map := by
  unfold pulseIf; split <;> simp
@[simp] theorem pulseIf_crease (c : Bool) (e : Fin 1024) (s : State) : (pulseIf c e s).crease = s.crease := by
  unfold pulseIf; split <;> simp
@[simp] theorem pulseIf_dom (c : Bool) (e : Fin 1024) (s : State) : (pulseIf c e s).dom = s.dom := by
  unfold pulseIf; split <;> simp
@[simp] theorem pulseIf_sup (c : Bool) (e : Fin 1024) (s : State) : (pulseIf c e s).sup = s.sup := by
  unfold pulseIf; split <;> simp
@[simp] theorem pulseIf_tlm (c : Bool) (e : Fin 1024) (s : State) : (pulseIf c e s).tlm = s.tlm := by
  unfold pulseIf; split <;> simp
@[simp] theorem pulseIf_therm (c : Bool) (e : Fin 1024) (s : State) : (pulseIf c e s).therm = s.therm := by
  unfold pulseIf; split <;> simp
@[simp] theorem pulseIf_chg (c : Bool) (e : Fin 1024) (s : State) : (pulseIf c e s).chg = s.chg := by
  unfold pulseIf; split <;> simp
@[simp] theorem pulseIf_hem (c : Bool) (e : Fin 1024) (s : State) : (pulseIf c e s).hem = s.hem := by
  unfold pulseIf; split <;> simp
@[simp] theorem pulseIf_proto (c : Bool) (e : Fin 1024) (s : State) : (pulseIf c e s).proto = s.proto := by
  unfold pulseIf; split <;> simp
@[simp] theorem pulseIf_hp (c : Bool) (e : Fin 1024) (s : State) : (pulseIf c e s).hp = s.hp := by
  unfold pulseIf; split <;> simp
@[simp] theorem pulseIf_fuse (c : Bool) (e : Fin 1024) (s : State) : (pulseIf c e s).fuse = s.fuse := by
  unfold pulseIf; split <;> simp
@[simp] theorem pulseIf_fw (c : Bool) (e : Fin 1024) (s : State) : (pulseIf c e s).fw = s.fw := by
  unfold pulseIf; split <;> simp
@[simp] theorem pulseIf_land (c : Bool) (e : Fin 1024) (s : State) : (pulseIf c e s).land = s.land := by
  unfold pulseIf; split <;> simp

theorem wakeReq_only (w : WakeSource) (s : State) : wakeReq w s = { s with pwr := (wakeReq w s).pwr, clk := (wakeReq w s).clk } := by
  unfold wakeReq; split <;> rfl

theorem eventWake_only (e : Fin 1024) (b : Bool) (s : State) :
    eventWake e b s = { s with pwr := (eventWake e b s).pwr, clk := (eventWake e b s).clk } := by
  unfold eventWake; split <;> (try split) <;> first | rfl | exact wakeReq_only _ _

/-- Two states that agree on everything but what an event changes. -/
theorem State.only_events (s t : State) (h0 : t.pending = s.pending) (h1 : t.free = s.free) (h2 : t.fabric = s.fabric) (h3 : t.cells = s.cells) (h4 :
  t.rails = s.rails) (hb : t.bus = s.bus) (h5 : t.armQ = s.armQ) (h6 : t.arming = s.arming) (h7 : t.map = s.map) (h8 : t.crease = s.crease) (h9 :
  t.dom = s.dom) (h10 : t.sup = s.sup) (h11 : t.tlm = s.tlm) (h12 : t.therm = s.therm) (h13 : t.chg = s.chg) (h14 : t.hem = s.hem) (h15 : t.proto =
  s.proto) (h16 : t.hp = s.hp) (h17 : t.fuse = s.fuse) (h18 : t.fw = s.fw) (h19 : t.land = s.land) (h20 : t.fabricFree = s.fabricFree) :
    t = { s with router := t.router, seam := t.seam, pwr := t.pwr, clk := t.clk } := by
  obtain ⟨⟩ := s; obtain ⟨⟩ := t
  simp_all

/-- Raising an event changes the router, the Seam queues, the wake requested and the manager's supply, and nothing else. -/
theorem pulse_only (e : Fin 1024) (s : State) :
    pulse e s = { s with router := (pulse e s).router, seam := (pulse e s).seam, pwr := (pulse e s).pwr, clk := (pulse e s).clk } := by
  apply State.only_events <;> simp

@[simp] theorem wakeReq_st (w : WakeSource) (s : State) : (wakeReq w s).pwr.st = s.pwr.st := by unfold wakeReq; split <;> rfl

@[simp] theorem eventWake_st (e : Fin 1024) (b : Bool) (s : State) : (eventWake e b s).pwr.st = s.pwr.st := by
  unfold eventWake; split <;> (try split) <;> simp

@[simp] theorem pulse_st (e : Fin 1024) (s : State) : (pulse e s).pwr.st = s.pwr.st := by
  unfold pulse; split <;> simp [evChange, settle]

@[simp] theorem setLine_st (e : Fin 1024) (b : Bool) (s : State) : (setLine e b s).pwr.st = s.pwr.st := by
  unfold setLine; split <;> (try split) <;> simp [evChange, settle]

end Sys2Proof.Machine
end

