-- ==== Sys2Proof/Laws/Flags.lean ====
section
/-! SUPPORT. What setting flags leaves as it was. -/

namespace Sys2Proof.Machine

/-! ## Flags -/

@[simp] theorem landSet_pending (m : BitVec 32) (s : State) : (landSet m s).pending = s.pending := by unfold landSet; simp
@[simp] theorem landSet_free (m : BitVec 32) (s : State) : (landSet m s).free = s.free := by unfold landSet; simp
@[simp] theorem landSet_fabric (m : BitVec 32) (s : State) : (landSet m s).fabric = s.fabric := by unfold landSet; simp
@[simp] theorem landSet_cells (m : BitVec 32) (s : State) : (landSet m s).cells = s.cells := by unfold landSet; simp
@[simp] theorem landSet_rails (m : BitVec 32) (s : State) : (landSet m s).rails = s.rails := by unfold landSet; simp
@[simp] theorem landSet_bus (m : BitVec 32) (s : State) : (landSet m s).bus = s.bus := by unfold landSet; simp
@[simp] theorem landSet_armQ (m : BitVec 32) (s : State) : (landSet m s).armQ = s.armQ := by unfold landSet; simp
@[simp] theorem landSet_arming (m : BitVec 32) (s : State) : (landSet m s).arming = s.arming := by unfold landSet; simp
@[simp] theorem landSet_map (m : BitVec 32) (s : State) : (landSet m s).map = s.map := by unfold landSet; simp
@[simp] theorem landSet_crease (m : BitVec 32) (s : State) : (landSet m s).crease = s.crease := by unfold landSet; simp
@[simp] theorem landSet_dom (m : BitVec 32) (s : State) : (landSet m s).dom = s.dom := by unfold landSet; simp
@[simp] theorem landSet_sup (m : BitVec 32) (s : State) : (landSet m s).sup = s.sup := by unfold landSet; simp
@[simp] theorem landSet_tlm (m : BitVec 32) (s : State) : (landSet m s).tlm = s.tlm := by unfold landSet; simp
@[simp] theorem landSet_therm (m : BitVec 32) (s : State) : (landSet m s).therm = s.therm := by unfold landSet; simp
@[simp] theorem landSet_chg (m : BitVec 32) (s : State) : (landSet m s).chg = s.chg := by unfold landSet; simp
@[simp] theorem landSet_hem (m : BitVec 32) (s : State) : (landSet m s).hem = s.hem := by unfold landSet; simp
@[simp] theorem landSet_proto (m : BitVec 32) (s : State) : (landSet m s).proto = s.proto := by unfold landSet; simp
@[simp] theorem landSet_hp (m : BitVec 32) (s : State) : (landSet m s).hp = s.hp := by unfold landSet; simp
@[simp] theorem landSet_fuse (m : BitVec 32) (s : State) : (landSet m s).fuse = s.fuse := by unfold landSet; simp
@[simp] theorem landSet_fw (m : BitVec 32) (s : State) : (landSet m s).fw = s.fw := by unfold landSet; simp
@[simp] theorem seqSet_pending (m : BitVec 16) (s : State) : (seqSet m s).pending = s.pending := by unfold seqSet; simp
@[simp] theorem seqSet_free (m : BitVec 16) (s : State) : (seqSet m s).free = s.free := by unfold seqSet; simp
@[simp] theorem seqSet_fabric (m : BitVec 16) (s : State) : (seqSet m s).fabric = s.fabric := by unfold seqSet; simp
@[simp] theorem seqSet_cells (m : BitVec 16) (s : State) : (seqSet m s).cells = s.cells := by unfold seqSet; simp
@[simp] theorem seqSet_rails (m : BitVec 16) (s : State) : (seqSet m s).rails = s.rails := by unfold seqSet; simp
@[simp] theorem seqSet_bus (m : BitVec 16) (s : State) : (seqSet m s).bus = s.bus := by unfold seqSet; simp
@[simp] theorem seqSet_armQ (m : BitVec 16) (s : State) : (seqSet m s).armQ = s.armQ := by unfold seqSet; simp
@[simp] theorem seqSet_arming (m : BitVec 16) (s : State) : (seqSet m s).arming = s.arming := by unfold seqSet; simp
@[simp] theorem seqSet_map (m : BitVec 16) (s : State) : (seqSet m s).map = s.map := by unfold seqSet; simp
@[simp] theorem seqSet_crease (m : BitVec 16) (s : State) : (seqSet m s).crease = s.crease := by unfold seqSet; simp
@[simp] theorem seqSet_sup (m : BitVec 16) (s : State) : (seqSet m s).sup = s.sup := by unfold seqSet; simp
@[simp] theorem seqSet_tlm (m : BitVec 16) (s : State) : (seqSet m s).tlm = s.tlm := by unfold seqSet; simp
@[simp] theorem seqSet_therm (m : BitVec 16) (s : State) : (seqSet m s).therm = s.therm := by unfold seqSet; simp
@[simp] theorem seqSet_chg (m : BitVec 16) (s : State) : (seqSet m s).chg = s.chg := by unfold seqSet; simp
@[simp] theorem seqSet_hem (m : BitVec 16) (s : State) : (seqSet m s).hem = s.hem := by unfold seqSet; simp
@[simp] theorem seqSet_proto (m : BitVec 16) (s : State) : (seqSet m s).proto = s.proto := by unfold seqSet; simp
@[simp] theorem seqSet_hp (m : BitVec 16) (s : State) : (seqSet m s).hp = s.hp := by unfold seqSet; simp
@[simp] theorem seqSet_fuse (m : BitVec 16) (s : State) : (seqSet m s).fuse = s.fuse := by unfold seqSet; simp
@[simp] theorem seqSet_fw (m : BitVec 16) (s : State) : (seqSet m s).fw = s.fw := by unfold seqSet; simp
@[simp] theorem seqSet_land (m : BitVec 16) (s : State) : (seqSet m s).land = s.land := by unfold seqSet; simp
@[simp] theorem clkSet_pending (m : BitVec 16) (s : State) : (clkSet m s).pending = s.pending := by unfold clkSet; simp
@[simp] theorem clkSet_free (m : BitVec 16) (s : State) : (clkSet m s).free = s.free := by unfold clkSet; simp
@[simp] theorem clkSet_fabric (m : BitVec 16) (s : State) : (clkSet m s).fabric = s.fabric := by unfold clkSet; simp
@[simp] theorem clkSet_cells (m : BitVec 16) (s : State) : (clkSet m s).cells = s.cells := by unfold clkSet; simp
@[simp] theorem clkSet_rails (m : BitVec 16) (s : State) : (clkSet m s).rails = s.rails := by unfold clkSet; simp
@[simp] theorem clkSet_bus (m : BitVec 16) (s : State) : (clkSet m s).bus = s.bus := by unfold clkSet; simp
@[simp] theorem clkSet_armQ (m : BitVec 16) (s : State) : (clkSet m s).armQ = s.armQ := by unfold clkSet; simp
@[simp] theorem clkSet_arming (m : BitVec 16) (s : State) : (clkSet m s).arming = s.arming := by unfold clkSet; simp
@[simp] theorem clkSet_map (m : BitVec 16) (s : State) : (clkSet m s).map = s.map := by unfold clkSet; simp
@[simp] theorem clkSet_crease (m : BitVec 16) (s : State) : (clkSet m s).crease = s.crease := by unfold clkSet; simp
@[simp] theorem clkSet_dom (m : BitVec 16) (s : State) : (clkSet m s).dom = s.dom := by unfold clkSet; simp
@[simp] theorem clkSet_sup (m : BitVec 16) (s : State) : (clkSet m s).sup = s.sup := by unfold clkSet; simp
@[simp] theorem clkSet_tlm (m : BitVec 16) (s : State) : (clkSet m s).tlm = s.tlm := by unfold clkSet; simp
@[simp] theorem clkSet_therm (m : BitVec 16) (s : State) : (clkSet m s).therm = s.therm := by unfold clkSet; simp
@[simp] theorem clkSet_chg (m : BitVec 16) (s : State) : (clkSet m s).chg = s.chg := by unfold clkSet; simp
@[simp] theorem clkSet_hem (m : BitVec 16) (s : State) : (clkSet m s).hem = s.hem := by unfold clkSet; simp
@[simp] theorem clkSet_proto (m : BitVec 16) (s : State) : (clkSet m s).proto = s.proto := by unfold clkSet; simp
@[simp] theorem clkSet_hp (m : BitVec 16) (s : State) : (clkSet m s).hp = s.hp := by unfold clkSet; simp
@[simp] theorem clkSet_fuse (m : BitVec 16) (s : State) : (clkSet m s).fuse = s.fuse := by unfold clkSet; simp
@[simp] theorem clkSet_fw (m : BitVec 16) (s : State) : (clkSet m s).fw = s.fw := by unfold clkSet; simp
@[simp] theorem clkSet_land (m : BitVec 16) (s : State) : (clkSet m s).land = s.land := by unfold clkSet; simp
@[simp] theorem pwrSet_pending (m : BitVec 16) (s : State) : (pwrSet m s).pending = s.pending := by unfold pwrSet; simp
@[simp] theorem pwrSet_free (m : BitVec 16) (s : State) : (pwrSet m s).free = s.free := by unfold pwrSet; simp
@[simp] theorem pwrSet_fabric (m : BitVec 16) (s : State) : (pwrSet m s).fabric = s.fabric := by unfold pwrSet; simp
@[simp] theorem pwrSet_cells (m : BitVec 16) (s : State) : (pwrSet m s).cells = s.cells := by unfold pwrSet; simp
@[simp] theorem pwrSet_rails (m : BitVec 16) (s : State) : (pwrSet m s).rails = s.rails := by unfold pwrSet; simp
@[simp] theorem pwrSet_bus (m : BitVec 16) (s : State) : (pwrSet m s).bus = s.bus := by unfold pwrSet; simp
@[simp] theorem pwrSet_armQ (m : BitVec 16) (s : State) : (pwrSet m s).armQ = s.armQ := by unfold pwrSet; simp
@[simp] theorem pwrSet_arming (m : BitVec 16) (s : State) : (pwrSet m s).arming = s.arming := by unfold pwrSet; simp
@[simp] theorem pwrSet_map (m : BitVec 16) (s : State) : (pwrSet m s).map = s.map := by unfold pwrSet; simp
@[simp] theorem pwrSet_crease (m : BitVec 16) (s : State) : (pwrSet m s).crease = s.crease := by unfold pwrSet; simp
@[simp] theorem pwrSet_dom (m : BitVec 16) (s : State) : (pwrSet m s).dom = s.dom := by unfold pwrSet; simp
@[simp] theorem pwrSet_sup (m : BitVec 16) (s : State) : (pwrSet m s).sup = s.sup := by unfold pwrSet; simp
@[simp] theorem pwrSet_tlm (m : BitVec 16) (s : State) : (pwrSet m s).tlm = s.tlm := by unfold pwrSet; simp
@[simp] theorem pwrSet_therm (m : BitVec 16) (s : State) : (pwrSet m s).therm = s.therm := by unfold pwrSet; simp
@[simp] theorem pwrSet_hem (m : BitVec 16) (s : State) : (pwrSet m s).hem = s.hem := by unfold pwrSet; simp
@[simp] theorem pwrSet_proto (m : BitVec 16) (s : State) : (pwrSet m s).proto = s.proto := by unfold pwrSet; simp
@[simp] theorem pwrSet_hp (m : BitVec 16) (s : State) : (pwrSet m s).hp = s.hp := by unfold pwrSet; simp
@[simp] theorem pwrSet_fuse (m : BitVec 16) (s : State) : (pwrSet m s).fuse = s.fuse := by unfold pwrSet; simp
@[simp] theorem pwrSet_fw (m : BitVec 16) (s : State) : (pwrSet m s).fw = s.fw := by unfold pwrSet; simp
@[simp] theorem pwrSet_land (m : BitVec 16) (s : State) : (pwrSet m s).land = s.land := by unfold pwrSet; simp
@[simp] theorem hemSet_pending (m : BitVec 16) (s : State) : (hemSet m s).pending = s.pending := by unfold hemSet; simp
@[simp] theorem hemSet_free (m : BitVec 16) (s : State) : (hemSet m s).free = s.free := by unfold hemSet; simp
@[simp] theorem hemSet_fabric (m : BitVec 16) (s : State) : (hemSet m s).fabric = s.fabric := by unfold hemSet; simp
@[simp] theorem hemSet_cells (m : BitVec 16) (s : State) : (hemSet m s).cells = s.cells := by unfold hemSet; simp
@[simp] theorem hemSet_rails (m : BitVec 16) (s : State) : (hemSet m s).rails = s.rails := by unfold hemSet; simp
@[simp] theorem hemSet_bus (m : BitVec 16) (s : State) : (hemSet m s).bus = s.bus := by unfold hemSet; simp
@[simp] theorem hemSet_armQ (m : BitVec 16) (s : State) : (hemSet m s).armQ = s.armQ := by unfold hemSet; simp
@[simp] theorem hemSet_arming (m : BitVec 16) (s : State) : (hemSet m s).arming = s.arming := by unfold hemSet; simp
@[simp] theorem hemSet_map (m : BitVec 16) (s : State) : (hemSet m s).map = s.map := by unfold hemSet; simp
@[simp] theorem hemSet_crease (m : BitVec 16) (s : State) : (hemSet m s).crease = s.crease := by unfold hemSet; simp
@[simp] theorem hemSet_dom (m : BitVec 16) (s : State) : (hemSet m s).dom = s.dom := by unfold hemSet; simp
@[simp] theorem hemSet_sup (m : BitVec 16) (s : State) : (hemSet m s).sup = s.sup := by unfold hemSet; simp
@[simp] theorem hemSet_tlm (m : BitVec 16) (s : State) : (hemSet m s).tlm = s.tlm := by unfold hemSet; simp
@[simp] theorem hemSet_therm (m : BitVec 16) (s : State) : (hemSet m s).therm = s.therm := by unfold hemSet; simp
@[simp] theorem hemSet_chg (m : BitVec 16) (s : State) : (hemSet m s).chg = s.chg := by unfold hemSet; simp
@[simp] theorem hemSet_proto (m : BitVec 16) (s : State) : (hemSet m s).proto = s.proto := by unfold hemSet; simp
@[simp] theorem hemSet_hp (m : BitVec 16) (s : State) : (hemSet m s).hp = s.hp := by unfold hemSet; simp
@[simp] theorem hemSet_fuse (m : BitVec 16) (s : State) : (hemSet m s).fuse = s.fuse := by unfold hemSet; simp
@[simp] theorem hemSet_fw (m : BitVec 16) (s : State) : (hemSet m s).fw = s.fw := by unfold hemSet; simp
@[simp] theorem hemSet_land (m : BitVec 16) (s : State) : (hemSet m s).land = s.land := by unfold hemSet; simp
@[simp] theorem hpSet_pending (m : BitVec 16) (s : State) : (hpSet m s).pending = s.pending := by unfold hpSet; simp
@[simp] theorem hpSet_free (m : BitVec 16) (s : State) : (hpSet m s).free = s.free := by unfold hpSet; simp
@[simp] theorem hpSet_fabric (m : BitVec 16) (s : State) : (hpSet m s).fabric = s.fabric := by unfold hpSet; simp
@[simp] theorem hpSet_cells (m : BitVec 16) (s : State) : (hpSet m s).cells = s.cells := by unfold hpSet; simp
@[simp] theorem hpSet_rails (m : BitVec 16) (s : State) : (hpSet m s).rails = s.rails := by unfold hpSet; simp
@[simp] theorem hpSet_bus (m : BitVec 16) (s : State) : (hpSet m s).bus = s.bus := by unfold hpSet; simp
@[simp] theorem hpSet_armQ (m : BitVec 16) (s : State) : (hpSet m s).armQ = s.armQ := by unfold hpSet; simp
@[simp] theorem hpSet_arming (m : BitVec 16) (s : State) : (hpSet m s).arming = s.arming := by unfold hpSet; simp
@[simp] theorem hpSet_map (m : BitVec 16) (s : State) : (hpSet m s).map = s.map := by unfold hpSet; simp
@[simp] theorem hpSet_crease (m : BitVec 16) (s : State) : (hpSet m s).crease = s.crease := by unfold hpSet; simp
@[simp] theorem hpSet_dom (m : BitVec 16) (s : State) : (hpSet m s).dom = s.dom := by unfold hpSet; simp
@[simp] theorem hpSet_sup (m : BitVec 16) (s : State) : (hpSet m s).sup = s.sup := by unfold hpSet; simp
@[simp] theorem hpSet_tlm (m : BitVec 16) (s : State) : (hpSet m s).tlm = s.tlm := by unfold hpSet; simp
@[simp] theorem hpSet_therm (m : BitVec 16) (s : State) : (hpSet m s).therm = s.therm := by unfold hpSet; simp
@[simp] theorem hpSet_chg (m : BitVec 16) (s : State) : (hpSet m s).chg = s.chg := by unfold hpSet; simp
@[simp] theorem hpSet_hem (m : BitVec 16) (s : State) : (hpSet m s).hem = s.hem := by unfold hpSet; simp
@[simp] theorem hpSet_proto (m : BitVec 16) (s : State) : (hpSet m s).proto = s.proto := by unfold hpSet; simp
@[simp] theorem hpSet_fuse (m : BitVec 16) (s : State) : (hpSet m s).fuse = s.fuse := by unfold hpSet; simp
@[simp] theorem hpSet_fw (m : BitVec 16) (s : State) : (hpSet m s).fw = s.fw := by unfold hpSet; simp
@[simp] theorem hpSet_land (m : BitVec 16) (s : State) : (hpSet m s).land = s.land := by unfold hpSet; simp
@[simp] theorem seamSet_pending (m : BitVec 16) (s : State) : (seamSet m s).pending = s.pending := by unfold seamSet; simp
@[simp] theorem seamSet_free (m : BitVec 16) (s : State) : (seamSet m s).free = s.free := by unfold seamSet; simp
@[simp] theorem seamSet_fabric (m : BitVec 16) (s : State) : (seamSet m s).fabric = s.fabric := by unfold seamSet; simp
@[simp] theorem seamSet_cells (m : BitVec 16) (s : State) : (seamSet m s).cells = s.cells := by unfold seamSet; simp
@[simp] theorem seamSet_rails (m : BitVec 16) (s : State) : (seamSet m s).rails = s.rails := by unfold seamSet; simp
@[simp] theorem seamSet_bus (m : BitVec 16) (s : State) : (seamSet m s).bus = s.bus := by unfold seamSet; simp
@[simp] theorem seamSet_armQ (m : BitVec 16) (s : State) : (seamSet m s).armQ = s.armQ := by unfold seamSet; simp
@[simp] theorem seamSet_arming (m : BitVec 16) (s : State) : (seamSet m s).arming = s.arming := by unfold seamSet; simp
@[simp] theorem seamSet_map (m : BitVec 16) (s : State) : (seamSet m s).map = s.map := by unfold seamSet; simp
@[simp] theorem seamSet_crease (m : BitVec 16) (s : State) : (seamSet m s).crease = s.crease := by unfold seamSet; simp
@[simp] theorem seamSet_dom (m : BitVec 16) (s : State) : (seamSet m s).dom = s.dom := by unfold seamSet; simp
@[simp] theorem seamSet_sup (m : BitVec 16) (s : State) : (seamSet m s).sup = s.sup := by unfold seamSet; simp
@[simp] theorem seamSet_tlm (m : BitVec 16) (s : State) : (seamSet m s).tlm = s.tlm := by unfold seamSet; simp
@[simp] theorem seamSet_therm (m : BitVec 16) (s : State) : (seamSet m s).therm = s.therm := by unfold seamSet; simp
@[simp] theorem seamSet_chg (m : BitVec 16) (s : State) : (seamSet m s).chg = s.chg := by unfold seamSet; simp
@[simp] theorem seamSet_hem (m : BitVec 16) (s : State) : (seamSet m s).hem = s.hem := by unfold seamSet; simp
@[simp] theorem seamSet_proto (m : BitVec 16) (s : State) : (seamSet m s).proto = s.proto := by unfold seamSet; simp
@[simp] theorem seamSet_hp (m : BitVec 16) (s : State) : (seamSet m s).hp = s.hp := by unfold seamSet; simp
@[simp] theorem seamSet_fuse (m : BitVec 16) (s : State) : (seamSet m s).fuse = s.fuse := by unfold seamSet; simp
@[simp] theorem seamSet_fw (m : BitVec 16) (s : State) : (seamSet m s).fw = s.fw := by unfold seamSet; simp
@[simp] theorem seamSet_land (m : BitVec 16) (s : State) : (seamSet m s).land = s.land := by unfold seamSet; simp
@[simp] theorem fuseSet_pending (m : BitVec 16) (s : State) : (fuseSet m s).pending = s.pending := by unfold fuseSet; simp
@[simp] theorem fuseSet_free (m : BitVec 16) (s : State) : (fuseSet m s).free = s.free := by unfold fuseSet; simp
@[simp] theorem fuseSet_fabric (m : BitVec 16) (s : State) : (fuseSet m s).fabric = s.fabric := by unfold fuseSet; simp
@[simp] theorem fuseSet_cells (m : BitVec 16) (s : State) : (fuseSet m s).cells = s.cells := by unfold fuseSet; simp
@[simp] theorem fuseSet_rails (m : BitVec 16) (s : State) : (fuseSet m s).rails = s.rails := by unfold fuseSet; simp
@[simp] theorem fuseSet_bus (m : BitVec 16) (s : State) : (fuseSet m s).bus = s.bus := by unfold fuseSet; simp
@[simp] theorem fuseSet_armQ (m : BitVec 16) (s : State) : (fuseSet m s).armQ = s.armQ := by unfold fuseSet; simp
@[simp] theorem fuseSet_arming (m : BitVec 16) (s : State) : (fuseSet m s).arming = s.arming := by unfold fuseSet; simp
@[simp] theorem fuseSet_map (m : BitVec 16) (s : State) : (fuseSet m s).map = s.map := by unfold fuseSet; simp
@[simp] theorem fuseSet_crease (m : BitVec 16) (s : State) : (fuseSet m s).crease = s.crease := by unfold fuseSet; simp
@[simp] theorem fuseSet_dom (m : BitVec 16) (s : State) : (fuseSet m s).dom = s.dom := by unfold fuseSet; simp
@[simp] theorem fuseSet_sup (m : BitVec 16) (s : State) : (fuseSet m s).sup = s.sup := by unfold fuseSet; simp
@[simp] theorem fuseSet_tlm (m : BitVec 16) (s : State) : (fuseSet m s).tlm = s.tlm := by unfold fuseSet; simp
@[simp] theorem fuseSet_therm (m : BitVec 16) (s : State) : (fuseSet m s).therm = s.therm := by unfold fuseSet; simp
@[simp] theorem fuseSet_chg (m : BitVec 16) (s : State) : (fuseSet m s).chg = s.chg := by unfold fuseSet; simp
@[simp] theorem fuseSet_hem (m : BitVec 16) (s : State) : (fuseSet m s).hem = s.hem := by unfold fuseSet; simp
@[simp] theorem fuseSet_proto (m : BitVec 16) (s : State) : (fuseSet m s).proto = s.proto := by unfold fuseSet; simp
@[simp] theorem fuseSet_hp (m : BitVec 16) (s : State) : (fuseSet m s).hp = s.hp := by unfold fuseSet; simp
@[simp] theorem fuseSet_fw (m : BitVec 16) (s : State) : (fuseSet m s).fw = s.fw := by unfold fuseSet; simp
@[simp] theorem fuseSet_land (m : BitVec 16) (s : State) : (fuseSet m s).land = s.land := by unfold fuseSet; simp
@[simp] theorem fwSet_pending (m : BitVec 16) (s : State) : (fwSet m s).pending = s.pending := rfl
@[simp] theorem fwSet_free (m : BitVec 16) (s : State) : (fwSet m s).free = s.free := rfl
@[simp] theorem fwSet_fabric (m : BitVec 16) (s : State) : (fwSet m s).fabric = s.fabric := rfl
@[simp] theorem fwSet_cells (m : BitVec 16) (s : State) : (fwSet m s).cells = s.cells := rfl
@[simp] theorem fwSet_rails (m : BitVec 16) (s : State) : (fwSet m s).rails = s.rails := rfl
@[simp] theorem fwSet_bus (m : BitVec 16) (s : State) : (fwSet m s).bus = s.bus := rfl
@[simp] theorem fwSet_armQ (m : BitVec 16) (s : State) : (fwSet m s).armQ = s.armQ := rfl
@[simp] theorem fwSet_arming (m : BitVec 16) (s : State) : (fwSet m s).arming = s.arming := rfl
@[simp] theorem fwSet_map (m : BitVec 16) (s : State) : (fwSet m s).map = s.map := rfl
@[simp] theorem fwSet_crease (m : BitVec 16) (s : State) : (fwSet m s).crease = s.crease := rfl
@[simp] theorem fwSet_clk (m : BitVec 16) (s : State) : (fwSet m s).clk = s.clk := rfl
@[simp] theorem fwSet_dom (m : BitVec 16) (s : State) : (fwSet m s).dom = s.dom := rfl
@[simp] theorem fwSet_sup (m : BitVec 16) (s : State) : (fwSet m s).sup = s.sup := rfl
@[simp] theorem fwSet_tlm (m : BitVec 16) (s : State) : (fwSet m s).tlm = s.tlm := rfl
@[simp] theorem fwSet_therm (m : BitVec 16) (s : State) : (fwSet m s).therm = s.therm := rfl
@[simp] theorem fwSet_chg (m : BitVec 16) (s : State) : (fwSet m s).chg = s.chg := rfl
@[simp] theorem fwSet_hem (m : BitVec 16) (s : State) : (fwSet m s).hem = s.hem := rfl
@[simp] theorem fwSet_proto (m : BitVec 16) (s : State) : (fwSet m s).proto = s.proto := rfl
@[simp] theorem fwSet_hp (m : BitVec 16) (s : State) : (fwSet m s).hp = s.hp := rfl
@[simp] theorem fwSet_seam (m : BitVec 16) (s : State) : (fwSet m s).seam = s.seam := rfl
@[simp] theorem fwSet_router (m : BitVec 16) (s : State) : (fwSet m s).router = s.router := rfl
@[simp] theorem fwSet_pwr (m : BitVec 16) (s : State) : (fwSet m s).pwr = s.pwr := rfl
@[simp] theorem fwSet_fuse (m : BitVec 16) (s : State) : (fwSet m s).fuse = s.fuse := rfl
@[simp] theorem fwSet_land (m : BitVec 16) (s : State) : (fwSet m s).land = s.land := rfl
@[simp] theorem globSet_pending (m : BitVec 16) (s : State) : (globSet m s).pending = s.pending := rfl
@[simp] theorem globSet_free (m : BitVec 16) (s : State) : (globSet m s).free = s.free := rfl
@[simp] theorem globSet_fabric (m : BitVec 16) (s : State) : (globSet m s).fabric = s.fabric := rfl
@[simp] theorem globSet_cells (m : BitVec 16) (s : State) : (globSet m s).cells = s.cells := rfl
@[simp] theorem globSet_rails (m : BitVec 16) (s : State) : (globSet m s).rails = s.rails := rfl
@[simp] theorem globSet_bus (m : BitVec 16) (s : State) : (globSet m s).bus = s.bus := rfl
@[simp] theorem globSet_armQ (m : BitVec 16) (s : State) : (globSet m s).armQ = s.armQ := rfl
@[simp] theorem globSet_arming (m : BitVec 16) (s : State) : (globSet m s).arming = s.arming := rfl
@[simp] theorem globSet_map (m : BitVec 16) (s : State) : (globSet m s).map = s.map := rfl
@[simp] theorem globSet_crease (m : BitVec 16) (s : State) : (globSet m s).crease = s.crease := rfl
@[simp] theorem globSet_clk (m : BitVec 16) (s : State) : (globSet m s).clk = s.clk := rfl
@[simp] theorem globSet_dom (m : BitVec 16) (s : State) : (globSet m s).dom = s.dom := rfl
@[simp] theorem globSet_sup (m : BitVec 16) (s : State) : (globSet m s).sup = s.sup := rfl
@[simp] theorem globSet_tlm (m : BitVec 16) (s : State) : (globSet m s).tlm = s.tlm := rfl
@[simp] theorem globSet_therm (m : BitVec 16) (s : State) : (globSet m s).therm = s.therm := rfl
@[simp] theorem globSet_chg (m : BitVec 16) (s : State) : (globSet m s).chg = s.chg := rfl
@[simp] theorem globSet_hem (m : BitVec 16) (s : State) : (globSet m s).hem = s.hem := rfl
@[simp] theorem globSet_hp (m : BitVec 16) (s : State) : (globSet m s).hp = s.hp := rfl
@[simp] theorem globSet_seam (m : BitVec 16) (s : State) : (globSet m s).seam = s.seam := rfl
@[simp] theorem globSet_router (m : BitVec 16) (s : State) : (globSet m s).router = s.router := rfl
@[simp] theorem globSet_pwr (m : BitVec 16) (s : State) : (globSet m s).pwr = s.pwr := rfl
@[simp] theorem globSet_fuse (m : BitVec 16) (s : State) : (globSet m s).fuse = s.fuse := rfl
@[simp] theorem globSet_fw (m : BitVec 16) (s : State) : (globSet m s).fw = s.fw := rfl
@[simp] theorem globSet_land (m : BitVec 16) (s : State) : (globSet m s).land = s.land := rfl
@[simp] theorem psSet_pending (m : BitVec 16) (s : State) : (psSet m s).pending = s.pending := rfl
@[simp] theorem psSet_free (m : BitVec 16) (s : State) : (psSet m s).free = s.free := rfl
@[simp] theorem psSet_fabric (m : BitVec 16) (s : State) : (psSet m s).fabric = s.fabric := rfl
@[simp] theorem psSet_cells (m : BitVec 16) (s : State) : (psSet m s).cells = s.cells := rfl
@[simp] theorem psSet_rails (m : BitVec 16) (s : State) : (psSet m s).rails = s.rails := rfl
@[simp] theorem psSet_bus (m : BitVec 16) (s : State) : (psSet m s).bus = s.bus := rfl
@[simp] theorem psSet_armQ (m : BitVec 16) (s : State) : (psSet m s).armQ = s.armQ := rfl
@[simp] theorem psSet_arming (m : BitVec 16) (s : State) : (psSet m s).arming = s.arming := rfl
@[simp] theorem psSet_map (m : BitVec 16) (s : State) : (psSet m s).map = s.map := rfl
@[simp] theorem psSet_crease (m : BitVec 16) (s : State) : (psSet m s).crease = s.crease := rfl
@[simp] theorem psSet_clk (m : BitVec 16) (s : State) : (psSet m s).clk = s.clk := rfl
@[simp] theorem psSet_dom (m : BitVec 16) (s : State) : (psSet m s).dom = s.dom := rfl
@[simp] theorem psSet_sup (m : BitVec 16) (s : State) : (psSet m s).sup = s.sup := rfl
@[simp] theorem psSet_tlm (m : BitVec 16) (s : State) : (psSet m s).tlm = s.tlm := rfl
@[simp] theorem psSet_therm (m : BitVec 16) (s : State) : (psSet m s).therm = s.therm := rfl
@[simp] theorem psSet_chg (m : BitVec 16) (s : State) : (psSet m s).chg = s.chg := rfl
@[simp] theorem psSet_hem (m : BitVec 16) (s : State) : (psSet m s).hem = s.hem := rfl
@[simp] theorem psSet_proto (m : BitVec 16) (s : State) : (psSet m s).proto = s.proto := rfl
@[simp] theorem psSet_hp (m : BitVec 16) (s : State) : (psSet m s).hp = s.hp := rfl
@[simp] theorem psSet_seam (m : BitVec 16) (s : State) : (psSet m s).seam = s.seam := rfl
@[simp] theorem psSet_router (m : BitVec 16) (s : State) : (psSet m s).router = s.router := rfl
@[simp] theorem psSet_fuse (m : BitVec 16) (s : State) : (psSet m s).fuse = s.fuse := rfl
@[simp] theorem psSet_fw (m : BitVec 16) (s : State) : (psSet m s).fw = s.fw := rfl
@[simp] theorem psSet_land (m : BitVec 16) (s : State) : (psSet m s).land = s.land := rfl
@[simp] theorem thermSet_pending (m : BitVec 16) (s : State) : (thermSet m s).pending = s.pending := rfl
@[simp] theorem thermSet_free (m : BitVec 16) (s : State) : (thermSet m s).free = s.free := rfl
@[simp] theorem thermSet_fabric (m : BitVec 16) (s : State) : (thermSet m s).fabric = s.fabric := rfl
@[simp] theorem thermSet_cells (m : BitVec 16) (s : State) : (thermSet m s).cells = s.cells := rfl
@[simp] theorem thermSet_rails (m : BitVec 16) (s : State) : (thermSet m s).rails = s.rails := rfl
@[simp] theorem thermSet_bus (m : BitVec 16) (s : State) : (thermSet m s).bus = s.bus := rfl
@[simp] theorem thermSet_armQ (m : BitVec 16) (s : State) : (thermSet m s).armQ = s.armQ := rfl
@[simp] theorem thermSet_arming (m : BitVec 16) (s : State) : (thermSet m s).arming = s.arming := rfl
@[simp] theorem thermSet_map (m : BitVec 16) (s : State) : (thermSet m s).map = s.map := rfl
@[simp] theorem thermSet_crease (m : BitVec 16) (s : State) : (thermSet m s).crease = s.crease := rfl
@[simp] theorem thermSet_clk (m : BitVec 16) (s : State) : (thermSet m s).clk = s.clk := rfl
@[simp] theorem thermSet_dom (m : BitVec 16) (s : State) : (thermSet m s).dom = s.dom := rfl
@[simp] theorem thermSet_sup (m : BitVec 16) (s : State) : (thermSet m s).sup = s.sup := rfl
@[simp] theorem thermSet_tlm (m : BitVec 16) (s : State) : (thermSet m s).tlm = s.tlm := rfl
@[simp] theorem thermSet_chg (m : BitVec 16) (s : State) : (thermSet m s).chg = s.chg := rfl
@[simp] theorem thermSet_hem (m : BitVec 16) (s : State) : (thermSet m s).hem = s.hem := rfl
@[simp] theorem thermSet_proto (m : BitVec 16) (s : State) : (thermSet m s).proto = s.proto := rfl
@[simp] theorem thermSet_hp (m : BitVec 16) (s : State) : (thermSet m s).hp = s.hp := rfl
@[simp] theorem thermSet_seam (m : BitVec 16) (s : State) : (thermSet m s).seam = s.seam := rfl
@[simp] theorem thermSet_router (m : BitVec 16) (s : State) : (thermSet m s).router = s.router := rfl
@[simp] theorem thermSet_pwr (m : BitVec 16) (s : State) : (thermSet m s).pwr = s.pwr := rfl
@[simp] theorem thermSet_fuse (m : BitVec 16) (s : State) : (thermSet m s).fuse = s.fuse := rfl
@[simp] theorem thermSet_fw (m : BitVec 16) (s : State) : (thermSet m s).fw = s.fw := rfl
@[simp] theorem thermSet_land (m : BitVec 16) (s : State) : (thermSet m s).land = s.land := rfl
@[simp] theorem almSet_pending (k : Fin 2) (s : State) : (almSet k s).pending = s.pending := by unfold almSet; simp
@[simp] theorem almSet_free (k : Fin 2) (s : State) : (almSet k s).free = s.free := by unfold almSet; simp
@[simp] theorem almSet_fabric (k : Fin 2) (s : State) : (almSet k s).fabric = s.fabric := by unfold almSet; simp
@[simp] theorem almSet_cells (k : Fin 2) (s : State) : (almSet k s).cells = s.cells := by unfold almSet; simp
@[simp] theorem almSet_rails (k : Fin 2) (s : State) : (almSet k s).rails = s.rails := by unfold almSet; simp
@[simp] theorem almSet_bus (k : Fin 2) (s : State) : (almSet k s).bus = s.bus := by unfold almSet; simp
@[simp] theorem almSet_armQ (k : Fin 2) (s : State) : (almSet k s).armQ = s.armQ := by unfold almSet; simp
@[simp] theorem almSet_arming (k : Fin 2) (s : State) : (almSet k s).arming = s.arming := by unfold almSet; simp
@[simp] theorem almSet_map (k : Fin 2) (s : State) : (almSet k s).map = s.map := by unfold almSet; simp
@[simp] theorem almSet_crease (k : Fin 2) (s : State) : (almSet k s).crease = s.crease := by unfold almSet; simp
@[simp] theorem almSet_dom (k : Fin 2) (s : State) : (almSet k s).dom = s.dom := by unfold almSet; simp
@[simp] theorem almSet_sup (k : Fin 2) (s : State) : (almSet k s).sup = s.sup := by unfold almSet; simp
@[simp] theorem almSet_tlm (k : Fin 2) (s : State) : (almSet k s).tlm = s.tlm := by unfold almSet; simp
@[simp] theorem almSet_therm (k : Fin 2) (s : State) : (almSet k s).therm = s.therm := by unfold almSet; simp
@[simp] theorem almSet_chg (k : Fin 2) (s : State) : (almSet k s).chg = s.chg := by unfold almSet; simp
@[simp] theorem almSet_proto (k : Fin 2) (s : State) : (almSet k s).proto = s.proto := by unfold almSet; simp
@[simp] theorem almSet_hp (k : Fin 2) (s : State) : (almSet k s).hp = s.hp := by unfold almSet; simp
@[simp] theorem almSet_fuse (k : Fin 2) (s : State) : (almSet k s).fuse = s.fuse := by unfold almSet; simp
@[simp] theorem almSet_fw (k : Fin 2) (s : State) : (almSet k s).fw = s.fw := by unfold almSet; simp
@[simp] theorem almSet_land (k : Fin 2) (s : State) : (almSet k s).land = s.land := by unfold almSet; simp

end Sys2Proof.Machine
end

