-- ==== Sys2Proof/Laws/Command.lean ====
section
/-! SUPPORT. Commands and replies: what answering leaves as it was, and what executing a command at once comes to. -/

namespace Sys2Proof.Machine

/-! ## Replies -/

@[simp] theorem deliver_pending (p : Packet) (r : Reply) (s : State) : (deliver p r s).pending = s.pending := by
  unfold deliver; split <;> (try split) <;> rfl
@[simp] theorem deliver_free (p : Packet) (r : Reply) (s : State) : (deliver p r s).free = s.free := by
  unfold deliver; split <;> (try split) <;> rfl
@[simp] theorem deliver_fabric (p : Packet) (r : Reply) (s : State) : (deliver p r s).fabric = s.fabric := by
  unfold deliver; split <;> (try split) <;> rfl
@[simp] theorem deliver_cells (p : Packet) (r : Reply) (s : State) : (deliver p r s).cells = s.cells := by
  unfold deliver; split <;> (try split) <;> rfl
@[simp] theorem deliver_rails (p : Packet) (r : Reply) (s : State) : (deliver p r s).rails = s.rails := by
  unfold deliver; split <;> (try split) <;> rfl
@[simp] theorem deliver_bus (p : Packet) (r : Reply) (s : State) : (deliver p r s).bus = s.bus := by
  unfold deliver; split <;> (try split) <;> rfl
@[simp] theorem deliver_armQ (p : Packet) (r : Reply) (s : State) : (deliver p r s).armQ = s.armQ := by
  unfold deliver; split <;> (try split) <;> rfl
@[simp] theorem deliver_arming (p : Packet) (r : Reply) (s : State) : (deliver p r s).arming = s.arming := by
  unfold deliver; split <;> (try split) <;> rfl
@[simp] theorem deliver_map (p : Packet) (r : Reply) (s : State) : (deliver p r s).map = s.map := by
  unfold deliver; split <;> (try split) <;> rfl
@[simp] theorem deliver_crease (p : Packet) (r : Reply) (s : State) : (deliver p r s).crease = s.crease := by
  unfold deliver; split <;> (try split) <;> rfl
@[simp] theorem deliver_clk (p : Packet) (r : Reply) (s : State) : (deliver p r s).clk = s.clk := by
  unfold deliver; split <;> (try split) <;> rfl
@[simp] theorem deliver_dom (p : Packet) (r : Reply) (s : State) : (deliver p r s).dom = s.dom := by
  unfold deliver; split <;> (try split) <;> rfl
@[simp] theorem deliver_sup (p : Packet) (r : Reply) (s : State) : (deliver p r s).sup = s.sup := by
  unfold deliver; split <;> (try split) <;> rfl
@[simp] theorem deliver_tlm (p : Packet) (r : Reply) (s : State) : (deliver p r s).tlm = s.tlm := by
  unfold deliver; split <;> (try split) <;> rfl
@[simp] theorem deliver_therm (p : Packet) (r : Reply) (s : State) : (deliver p r s).therm = s.therm := by
  unfold deliver; split <;> (try split) <;> rfl
@[simp] theorem deliver_chg (p : Packet) (r : Reply) (s : State) : (deliver p r s).chg = s.chg := by
  unfold deliver; split <;> (try split) <;> rfl
@[simp] theorem deliver_hem (p : Packet) (r : Reply) (s : State) : (deliver p r s).hem = s.hem := by
  unfold deliver; split <;> (try split) <;> rfl
@[simp] theorem deliver_router (p : Packet) (r : Reply) (s : State) : (deliver p r s).router = s.router := by
  unfold deliver; split <;> (try split) <;> rfl
@[simp] theorem deliver_pwr (p : Packet) (r : Reply) (s : State) : (deliver p r s).pwr = s.pwr := by
  unfold deliver; split <;> (try split) <;> rfl
@[simp] theorem deliver_fuse (p : Packet) (r : Reply) (s : State) : (deliver p r s).fuse = s.fuse := by
  unfold deliver; split <;> (try split) <;> rfl
@[simp] theorem deliver_fw (p : Packet) (r : Reply) (s : State) : (deliver p r s).fw = s.fw := by
  unfold deliver; split <;> (try split) <;> rfl
@[simp] theorem deliver_land (p : Packet) (r : Reply) (s : State) : (deliver p r s).land = s.land := by
  unfold deliver; split <;> (try split) <;> rfl
@[simp] theorem noteCheck_pending (st : Status) (s : State) : (noteCheck st s).pending = s.pending := by unfold noteCheck; split <;> rfl
@[simp] theorem noteCheck_free (st : Status) (s : State) : (noteCheck st s).free = s.free := by unfold noteCheck; split <;> rfl
@[simp] theorem noteCheck_fabric (st : Status) (s : State) : (noteCheck st s).fabric = s.fabric := by unfold noteCheck; split <;> rfl
@[simp] theorem noteCheck_fabricFree (st : Status) (s : State) : (noteCheck st s).fabricFree = s.fabricFree := by unfold noteCheck; split <;> rfl
@[simp] theorem noteCheck_cells (st : Status) (s : State) : (noteCheck st s).cells = s.cells := by unfold noteCheck; split <;> rfl
@[simp] theorem noteCheck_rails (st : Status) (s : State) : (noteCheck st s).rails = s.rails := by unfold noteCheck; split <;> rfl
@[simp] theorem noteCheck_bus (st : Status) (s : State) : (noteCheck st s).bus = s.bus := by unfold noteCheck; split <;> rfl
@[simp] theorem noteCheck_armQ (st : Status) (s : State) : (noteCheck st s).armQ = s.armQ := by unfold noteCheck; split <;> rfl
@[simp] theorem noteCheck_arming (st : Status) (s : State) : (noteCheck st s).arming = s.arming := by unfold noteCheck; split <;> rfl
@[simp] theorem noteCheck_map (st : Status) (s : State) : (noteCheck st s).map = s.map := by unfold noteCheck; split <;> rfl
@[simp] theorem noteCheck_crease (st : Status) (s : State) : (noteCheck st s).crease = s.crease := by unfold noteCheck; split <;> rfl
@[simp] theorem noteCheck_clk (st : Status) (s : State) : (noteCheck st s).clk = s.clk := by unfold noteCheck; split <;> rfl
@[simp] theorem noteCheck_dom (st : Status) (s : State) : (noteCheck st s).dom = s.dom := by unfold noteCheck; split <;> rfl
@[simp] theorem noteCheck_sup (st : Status) (s : State) : (noteCheck st s).sup = s.sup := by unfold noteCheck; split <;> rfl
@[simp] theorem noteCheck_tlm (st : Status) (s : State) : (noteCheck st s).tlm = s.tlm := by unfold noteCheck; split <;> rfl
@[simp] theorem noteCheck_therm (st : Status) (s : State) : (noteCheck st s).therm = s.therm := by unfold noteCheck; split <;> rfl
@[simp] theorem noteCheck_chg (st : Status) (s : State) : (noteCheck st s).chg = s.chg := by unfold noteCheck; split <;> rfl
@[simp] theorem noteCheck_hem (st : Status) (s : State) : (noteCheck st s).hem = s.hem := by unfold noteCheck; split <;> rfl
@[simp] theorem noteCheck_hp (st : Status) (s : State) : (noteCheck st s).hp = s.hp := by unfold noteCheck; split <;> rfl
@[simp] theorem noteCheck_seam (st : Status) (s : State) : (noteCheck st s).seam = s.seam := by unfold noteCheck; split <;> rfl
@[simp] theorem noteCheck_router (st : Status) (s : State) : (noteCheck st s).router = s.router := by unfold noteCheck; split <;> rfl
@[simp] theorem noteCheck_pwr (st : Status) (s : State) : (noteCheck st s).pwr = s.pwr := by unfold noteCheck; split <;> rfl
@[simp] theorem noteCheck_fuse (st : Status) (s : State) : (noteCheck st s).fuse = s.fuse := by unfold noteCheck; split <;> rfl
@[simp] theorem noteCheck_fw (st : Status) (s : State) : (noteCheck st s).fw = s.fw := by unfold noteCheck; split <;> rfl
@[simp] theorem noteCheck_land (st : Status) (s : State) : (noteCheck st s).land = s.land := by unfold noteCheck; split <;> rfl
@[simp] theorem noteCheck_waiting (st : Status) (s : State) : (noteCheck st s).proto.waiting = s.proto.waiting := by unfold noteCheck; split <;> rfl
@[simp] theorem noteCheck_exec (st : Status) (s : State) : (noteCheck st s).proto.exec = s.proto.exec := by unfold noteCheck; split <;> rfl
@[simp] theorem noteCheck_buffer (st : Status) (s : State) : (noteCheck st s).proto.buffer = s.proto.buffer := by unfold noteCheck; split <;> rfl
@[simp] theorem noteCheck_running (st : Status) (s : State) : (noteCheck st s).proto.running = s.proto.running := by unfold noteCheck; split <;> rfl
@[simp] theorem noteCheck_cfg (st : Status) (s : State) : (noteCheck st s).proto.cfg = s.proto.cfg := by unfold noteCheck; split <;> rfl
@[simp] theorem answer_pending (p : Packet) (st : Status) (l : List Byte) (s : State) : (answer p st l s).pending = s.pending := by unfold answer; simp
@[simp] theorem answer_fabric (p : Packet) (st : Status) (l : List Byte) (s : State) : (answer p st l s).fabric = s.fabric := by unfold answer; simp
@[simp] theorem answer_cells (p : Packet) (st : Status) (l : List Byte) (s : State) : (answer p st l s).cells = s.cells := by unfold answer; simp
@[simp] theorem answer_rails (p : Packet) (st : Status) (l : List Byte) (s : State) : (answer p st l s).rails = s.rails := by unfold answer; simp
@[simp] theorem answer_bus (p : Packet) (st : Status) (l : List Byte) (s : State) : (answer p st l s).bus = s.bus := by unfold answer; simp
@[simp] theorem answer_armQ (p : Packet) (st : Status) (l : List Byte) (s : State) : (answer p st l s).armQ = s.armQ := by unfold answer; simp
@[simp] theorem answer_arming (p : Packet) (st : Status) (l : List Byte) (s : State) : (answer p st l s).arming = s.arming := by unfold answer; simp
@[simp] theorem answer_map (p : Packet) (st : Status) (l : List Byte) (s : State) : (answer p st l s).map = s.map := by unfold answer; simp
@[simp] theorem answer_crease (p : Packet) (st : Status) (l : List Byte) (s : State) : (answer p st l s).crease = s.crease := by unfold answer; simp
@[simp] theorem answer_clk (p : Packet) (st : Status) (l : List Byte) (s : State) : (answer p st l s).clk = s.clk := by unfold answer; simp
@[simp] theorem answer_dom (p : Packet) (st : Status) (l : List Byte) (s : State) : (answer p st l s).dom = s.dom := by unfold answer; simp
@[simp] theorem answer_sup (p : Packet) (st : Status) (l : List Byte) (s : State) : (answer p st l s).sup = s.sup := by unfold answer; simp
@[simp] theorem answer_tlm (p : Packet) (st : Status) (l : List Byte) (s : State) : (answer p st l s).tlm = s.tlm := by unfold answer; simp
@[simp] theorem answer_therm (p : Packet) (st : Status) (l : List Byte) (s : State) : (answer p st l s).therm = s.therm := by unfold answer; simp
@[simp] theorem answer_chg (p : Packet) (st : Status) (l : List Byte) (s : State) : (answer p st l s).chg = s.chg := by unfold answer; simp
@[simp] theorem answer_hem (p : Packet) (st : Status) (l : List Byte) (s : State) : (answer p st l s).hem = s.hem := by unfold answer; simp
@[simp] theorem answer_router (p : Packet) (st : Status) (l : List Byte) (s : State) : (answer p st l s).router = s.router := by unfold answer; simp
@[simp] theorem answer_pwr (p : Packet) (st : Status) (l : List Byte) (s : State) : (answer p st l s).pwr = s.pwr := by unfold answer; simp
@[simp] theorem answer_fuse (p : Packet) (st : Status) (l : List Byte) (s : State) : (answer p st l s).fuse = s.fuse := by unfold answer; simp
@[simp] theorem answer_fw (p : Packet) (st : Status) (l : List Byte) (s : State) : (answer p st l s).fw = s.fw := by unfold answer; simp
@[simp] theorem answer_land (p : Packet) (st : Status) (l : List Byte) (s : State) : (answer p st l s).land = s.land := by unfold answer; simp
@[simp] theorem answerKept_pending (p : Packet) (k : Reply) (s : State) : (answerKept p k s).pending = s.pending := by unfold answerKept; simp
@[simp] theorem answerKept_fabric (p : Packet) (k : Reply) (s : State) : (answerKept p k s).fabric = s.fabric := by unfold answerKept; simp
@[simp] theorem answerKept_cells (p : Packet) (k : Reply) (s : State) : (answerKept p k s).cells = s.cells := by unfold answerKept; simp
@[simp] theorem answerKept_rails (p : Packet) (k : Reply) (s : State) : (answerKept p k s).rails = s.rails := by unfold answerKept; simp
@[simp] theorem answerKept_bus (p : Packet) (k : Reply) (s : State) : (answerKept p k s).bus = s.bus := by unfold answerKept; simp
@[simp] theorem answerKept_armQ (p : Packet) (k : Reply) (s : State) : (answerKept p k s).armQ = s.armQ := by unfold answerKept; simp
@[simp] theorem answerKept_arming (p : Packet) (k : Reply) (s : State) : (answerKept p k s).arming = s.arming := by unfold answerKept; simp
@[simp] theorem answerKept_map (p : Packet) (k : Reply) (s : State) : (answerKept p k s).map = s.map := by unfold answerKept; simp
@[simp] theorem answerKept_crease (p : Packet) (k : Reply) (s : State) : (answerKept p k s).crease = s.crease := by unfold answerKept; simp
@[simp] theorem answerKept_clk (p : Packet) (k : Reply) (s : State) : (answerKept p k s).clk = s.clk := by unfold answerKept; simp
@[simp] theorem answerKept_dom (p : Packet) (k : Reply) (s : State) : (answerKept p k s).dom = s.dom := by unfold answerKept; simp
@[simp] theorem answerKept_sup (p : Packet) (k : Reply) (s : State) : (answerKept p k s).sup = s.sup := by unfold answerKept; simp
@[simp] theorem answerKept_tlm (p : Packet) (k : Reply) (s : State) : (answerKept p k s).tlm = s.tlm := by unfold answerKept; simp
@[simp] theorem answerKept_therm (p : Packet) (k : Reply) (s : State) : (answerKept p k s).therm = s.therm := by unfold answerKept; simp
@[simp] theorem answerKept_chg (p : Packet) (k : Reply) (s : State) : (answerKept p k s).chg = s.chg := by unfold answerKept; simp
@[simp] theorem answerKept_hem (p : Packet) (k : Reply) (s : State) : (answerKept p k s).hem = s.hem := by unfold answerKept; simp
@[simp] theorem answerKept_router (p : Packet) (k : Reply) (s : State) : (answerKept p k s).router = s.router := by unfold answerKept; simp
@[simp] theorem answerKept_pwr (p : Packet) (k : Reply) (s : State) : (answerKept p k s).pwr = s.pwr := by unfold answerKept; simp
@[simp] theorem answerKept_fuse (p : Packet) (k : Reply) (s : State) : (answerKept p k s).fuse = s.fuse := by unfold answerKept; simp
@[simp] theorem answerKept_fw (p : Packet) (k : Reply) (s : State) : (answerKept p k s).fw = s.fw := by unfold answerKept; simp
@[simp] theorem answerKept_land (p : Packet) (k : Reply) (s : State) : (answerKept p k s).land = s.land := by unfold answerKept; simp
@[simp] theorem bufferCommand_pending (p : Packet) (s : State) : (bufferCommand p s).pending = s.pending := by
  unfold bufferCommand; rw [wakeReq_pending]; split <;> rfl
@[simp] theorem bufferCommand_fabric (p : Packet) (s : State) : (bufferCommand p s).fabric = s.fabric := by
  unfold bufferCommand; rw [wakeReq_fabric]; split <;> rfl
@[simp] theorem bufferCommand_cells (p : Packet) (s : State) : (bufferCommand p s).cells = s.cells := by
  unfold bufferCommand; rw [wakeReq_cells]; split <;> rfl
@[simp] theorem bufferCommand_rails (p : Packet) (s : State) : (bufferCommand p s).rails = s.rails := by
  unfold bufferCommand; rw [wakeReq_rails]; split <;> rfl
@[simp] theorem bufferCommand_bus (p : Packet) (s : State) : (bufferCommand p s).bus = s.bus := by
  unfold bufferCommand; rw [wakeReq_bus]; split <;> rfl
@[simp] theorem bufferCommand_armQ (p : Packet) (s : State) : (bufferCommand p s).armQ = s.armQ := by
  unfold bufferCommand; rw [wakeReq_armQ]; split <;> rfl
@[simp] theorem bufferCommand_arming (p : Packet) (s : State) : (bufferCommand p s).arming = s.arming := by
  unfold bufferCommand; rw [wakeReq_arming]; split <;> rfl
@[simp] theorem bufferCommand_map (p : Packet) (s : State) : (bufferCommand p s).map = s.map := by
  unfold bufferCommand; rw [wakeReq_map]; split <;> rfl
@[simp] theorem bufferCommand_crease (p : Packet) (s : State) : (bufferCommand p s).crease = s.crease := by
  unfold bufferCommand; rw [wakeReq_crease]; split <;> rfl
@[simp] theorem bufferCommand_dom (p : Packet) (s : State) : (bufferCommand p s).dom = s.dom := by
  unfold bufferCommand; rw [wakeReq_dom]; split <;> rfl
@[simp] theorem bufferCommand_sup (p : Packet) (s : State) : (bufferCommand p s).sup = s.sup := by
  unfold bufferCommand; rw [wakeReq_sup]; split <;> rfl
@[simp] theorem bufferCommand_tlm (p : Packet) (s : State) : (bufferCommand p s).tlm = s.tlm := by
  unfold bufferCommand; rw [wakeReq_tlm]; split <;> rfl
@[simp] theorem bufferCommand_therm (p : Packet) (s : State) : (bufferCommand p s).therm = s.therm := by
  unfold bufferCommand; rw [wakeReq_therm]; split <;> rfl
@[simp] theorem bufferCommand_chg (p : Packet) (s : State) : (bufferCommand p s).chg = s.chg := by
  unfold bufferCommand; rw [wakeReq_chg]; split <;> rfl
@[simp] theorem bufferCommand_hem (p : Packet) (s : State) : (bufferCommand p s).hem = s.hem := by
  unfold bufferCommand; rw [wakeReq_hem]; split <;> rfl
@[simp] theorem bufferCommand_router (p : Packet) (s : State) : (bufferCommand p s).router = s.router := by
  unfold bufferCommand; rw [wakeReq_router]; split <;> rfl
@[simp] theorem bufferCommand_fuse (p : Packet) (s : State) : (bufferCommand p s).fuse = s.fuse := by
  unfold bufferCommand; rw [wakeReq_fuse]; split <;> rfl
@[simp] theorem bufferCommand_fw (p : Packet) (s : State) : (bufferCommand p s).fw = s.fw := by
  unfold bufferCommand; rw [wakeReq_fw]; split <;> rfl
@[simp] theorem bufferCommand_land (p : Packet) (s : State) : (bufferCommand p s).land = s.land := by
  unfold bufferCommand; rw [wakeReq_land]; split <;> rfl
@[simp] theorem joinQueue_pending (p : Packet) (s : State) : (joinQueue p s).pending = s.pending := by
  unfold joinQueue submitted nackBusy hpSet; dsimp only; (repeat' split) <;> simp
@[simp] theorem joinQueue_fabric (p : Packet) (s : State) : (joinQueue p s).fabric = s.fabric := by
  unfold joinQueue submitted nackBusy hpSet; dsimp only; (repeat' split) <;> simp
@[simp] theorem joinQueue_cells (p : Packet) (s : State) : (joinQueue p s).cells = s.cells := by
  unfold joinQueue submitted nackBusy hpSet; dsimp only; (repeat' split) <;> simp
@[simp] theorem joinQueue_rails (p : Packet) (s : State) : (joinQueue p s).rails = s.rails := by
  unfold joinQueue submitted nackBusy hpSet; dsimp only; (repeat' split) <;> simp
@[simp] theorem joinQueue_bus (p : Packet) (s : State) : (joinQueue p s).bus = s.bus := by
  unfold joinQueue submitted nackBusy hpSet; dsimp only; (repeat' split) <;> simp
@[simp] theorem joinQueue_armQ (p : Packet) (s : State) : (joinQueue p s).armQ = s.armQ := by
  unfold joinQueue submitted nackBusy hpSet; dsimp only; (repeat' split) <;> simp
@[simp] theorem joinQueue_arming (p : Packet) (s : State) : (joinQueue p s).arming = s.arming := by
  unfold joinQueue submitted nackBusy hpSet; dsimp only; (repeat' split) <;> simp
@[simp] theorem joinQueue_map (p : Packet) (s : State) : (joinQueue p s).map = s.map := by
  unfold joinQueue submitted nackBusy hpSet; dsimp only; (repeat' split) <;> simp
@[simp] theorem joinQueue_crease (p : Packet) (s : State) : (joinQueue p s).crease = s.crease := by
  unfold joinQueue submitted nackBusy hpSet; dsimp only; (repeat' split) <;> simp
@[simp] theorem joinQueue_dom (p : Packet) (s : State) : (joinQueue p s).dom = s.dom := by
  unfold joinQueue submitted nackBusy hpSet; dsimp only; (repeat' split) <;> simp
@[simp] theorem joinQueue_sup (p : Packet) (s : State) : (joinQueue p s).sup = s.sup := by
  unfold joinQueue submitted nackBusy hpSet; dsimp only; (repeat' split) <;> simp
@[simp] theorem joinQueue_tlm (p : Packet) (s : State) : (joinQueue p s).tlm = s.tlm := by
  unfold joinQueue submitted nackBusy hpSet; dsimp only; (repeat' split) <;> simp
@[simp] theorem joinQueue_therm (p : Packet) (s : State) : (joinQueue p s).therm = s.therm := by
  unfold joinQueue submitted nackBusy hpSet; dsimp only; (repeat' split) <;> simp
@[simp] theorem joinQueue_chg (p : Packet) (s : State) : (joinQueue p s).chg = s.chg := by
  unfold joinQueue submitted nackBusy hpSet; dsimp only; (repeat' split) <;> simp
@[simp] theorem joinQueue_hem (p : Packet) (s : State) : (joinQueue p s).hem = s.hem := by
  unfold joinQueue submitted nackBusy hpSet; dsimp only; (repeat' split) <;> simp
@[simp] theorem joinQueue_fuse (p : Packet) (s : State) : (joinQueue p s).fuse = s.fuse := by
  unfold joinQueue submitted nackBusy hpSet; dsimp only; (repeat' split) <;> simp
@[simp] theorem joinQueue_fw (p : Packet) (s : State) : (joinQueue p s).fw = s.fw := by
  unfold joinQueue submitted nackBusy hpSet; dsimp only; (repeat' split) <;> simp
@[simp] theorem joinQueue_land (p : Packet) (s : State) : (joinQueue p s).land = s.land := by
  unfold joinQueue submitted nackBusy hpSet; dsimp only; (repeat' split) <;> simp

/-- Answering packets one after the other keeps what one answer keeps. -/
theorem foldl_answers {α : Type} (f : State → α) (h : ∀ p st l s, f (answer p st l s) = f s) (ps : List Packet) (s : State) :
    f (ps.foldl (fun t p => answer p (p.fail.getD (.badLength, [])).1 (p.fail.getD (.badLength, [])).2 t) s) = f s := by
  induction ps generalizing s with
  | nil => rfl
  | cons p ps ih => rw [List.foldl_cons, ih, h]

@[simp] theorem serveFailed_pending (s : State) : (serveFailed s).pending = s.pending := by
  unfold serveFailed; split
  · rw [foldl_answers State.pending (fun _ _ _ _ => by simp)]
  · rfl
@[simp] theorem serveFailed_fabric (s : State) : (serveFailed s).fabric = s.fabric := by
  unfold serveFailed; split
  · rw [foldl_answers State.fabric (fun _ _ _ _ => by simp)]
  · rfl
@[simp] theorem serveFailed_cells (s : State) : (serveFailed s).cells = s.cells := by
  unfold serveFailed; split
  · rw [foldl_answers State.cells (fun _ _ _ _ => by simp)]
  · rfl
@[simp] theorem serveFailed_rails (s : State) : (serveFailed s).rails = s.rails := by
  unfold serveFailed; split
  · rw [foldl_answers State.rails (fun _ _ _ _ => by simp)]
  · rfl
@[simp] theorem serveFailed_bus (s : State) : (serveFailed s).bus = s.bus := by
  unfold serveFailed; split
  · rw [foldl_answers State.bus (fun _ _ _ _ => by simp)]
  · rfl
@[simp] theorem serveFailed_armQ (s : State) : (serveFailed s).armQ = s.armQ := by
  unfold serveFailed; split
  · rw [foldl_answers State.armQ (fun _ _ _ _ => by simp)]
  · rfl
@[simp] theorem serveFailed_arming (s : State) : (serveFailed s).arming = s.arming := by
  unfold serveFailed; split
  · rw [foldl_answers State.arming (fun _ _ _ _ => by simp)]
  · rfl
@[simp] theorem serveFailed_map (s : State) : (serveFailed s).map = s.map := by
  unfold serveFailed; split
  · rw [foldl_answers State.map (fun _ _ _ _ => by simp)]
  · rfl
@[simp] theorem serveFailed_crease (s : State) : (serveFailed s).crease = s.crease := by
  unfold serveFailed; split
  · rw [foldl_answers State.crease (fun _ _ _ _ => by simp)]
  · rfl
@[simp] theorem serveFailed_clk (s : State) : (serveFailed s).clk = s.clk := by
  unfold serveFailed; split
  · rw [foldl_answers State.clk (fun _ _ _ _ => by simp)]
  · rfl
@[simp] theorem serveFailed_dom (s : State) : (serveFailed s).dom = s.dom := by
  unfold serveFailed; split
  · rw [foldl_answers State.dom (fun _ _ _ _ => by simp)]
  · rfl
@[simp] theorem serveFailed_sup (s : State) : (serveFailed s).sup = s.sup := by
  unfold serveFailed; split
  · rw [foldl_answers State.sup (fun _ _ _ _ => by simp)]
  · rfl
@[simp] theorem serveFailed_tlm (s : State) : (serveFailed s).tlm = s.tlm := by
  unfold serveFailed; split
  · rw [foldl_answers State.tlm (fun _ _ _ _ => by simp)]
  · rfl
@[simp] theorem serveFailed_therm (s : State) : (serveFailed s).therm = s.therm := by
  unfold serveFailed; split
  · rw [foldl_answers State.therm (fun _ _ _ _ => by simp)]
  · rfl
@[simp] theorem serveFailed_chg (s : State) : (serveFailed s).chg = s.chg := by
  unfold serveFailed; split
  · rw [foldl_answers State.chg (fun _ _ _ _ => by simp)]
  · rfl
@[simp] theorem serveFailed_hem (s : State) : (serveFailed s).hem = s.hem := by
  unfold serveFailed; split
  · rw [foldl_answers State.hem (fun _ _ _ _ => by simp)]
  · rfl
@[simp] theorem serveFailed_router (s : State) : (serveFailed s).router = s.router := by
  unfold serveFailed; split
  · rw [foldl_answers State.router (fun _ _ _ _ => by simp)]
  · rfl
@[simp] theorem serveFailed_pwr (s : State) : (serveFailed s).pwr = s.pwr := by
  unfold serveFailed; split
  · rw [foldl_answers State.pwr (fun _ _ _ _ => by simp)]
  · rfl
@[simp] theorem serveFailed_fuse (s : State) : (serveFailed s).fuse = s.fuse := by
  unfold serveFailed; split
  · rw [foldl_answers State.fuse (fun _ _ _ _ => by simp)]
  · rfl
@[simp] theorem serveFailed_fw (s : State) : (serveFailed s).fw = s.fw := by
  unfold serveFailed; split
  · rw [foldl_answers State.fw (fun _ _ _ _ => by simp)]
  · rfl
@[simp] theorem serveFailed_land (s : State) : (serveFailed s).land = s.land := by
  unfold serveFailed; split
  · rw [foldl_answers State.land (fun _ _ _ _ => by simp)]
  · rfl
@[simp] theorem complete_pending (st : Status) (l : List Byte) (s : State) : (complete st l s).pending = s.pending := by unfold complete; split <;> simp
@[simp] theorem complete_fabric (st : Status) (l : List Byte) (s : State) : (complete st l s).fabric = s.fabric := by unfold complete; split <;> simp
@[simp] theorem complete_cells (st : Status) (l : List Byte) (s : State) : (complete st l s).cells = s.cells := by unfold complete; split <;> simp
@[simp] theorem complete_rails (st : Status) (l : List Byte) (s : State) : (complete st l s).rails = s.rails := by unfold complete; split <;> simp
@[simp] theorem complete_bus (st : Status) (l : List Byte) (s : State) : (complete st l s).bus = s.bus := by unfold complete; split <;> simp
@[simp] theorem complete_armQ (st : Status) (l : List Byte) (s : State) : (complete st l s).armQ = s.armQ := by unfold complete; split <;> simp
@[simp] theorem complete_arming (st : Status) (l : List Byte) (s : State) : (complete st l s).arming = s.arming := by unfold complete; split <;> simp
@[simp] theorem complete_map (st : Status) (l : List Byte) (s : State) : (complete st l s).map = s.map := by unfold complete; split <;> simp
@[simp] theorem complete_crease (st : Status) (l : List Byte) (s : State) : (complete st l s).crease = s.crease := by unfold complete; split <;> simp
@[simp] theorem complete_clk (st : Status) (l : List Byte) (s : State) : (complete st l s).clk = s.clk := by unfold complete; split <;> simp
@[simp] theorem complete_dom (st : Status) (l : List Byte) (s : State) : (complete st l s).dom = s.dom := by unfold complete; split <;> simp
@[simp] theorem complete_sup (st : Status) (l : List Byte) (s : State) : (complete st l s).sup = s.sup := by unfold complete; split <;> simp
@[simp] theorem complete_tlm (st : Status) (l : List Byte) (s : State) : (complete st l s).tlm = s.tlm := by unfold complete; split <;> simp
@[simp] theorem complete_therm (st : Status) (l : List Byte) (s : State) : (complete st l s).therm = s.therm := by unfold complete; split <;> simp
@[simp] theorem complete_chg (st : Status) (l : List Byte) (s : State) : (complete st l s).chg = s.chg := by unfold complete; split <;> simp
@[simp] theorem complete_hem (st : Status) (l : List Byte) (s : State) : (complete st l s).hem = s.hem := by unfold complete; split <;> simp
@[simp] theorem complete_router (st : Status) (l : List Byte) (s : State) : (complete st l s).router = s.router := by unfold complete; split <;> simp
@[simp] theorem complete_pwr (st : Status) (l : List Byte) (s : State) : (complete st l s).pwr = s.pwr := by unfold complete; split <;> simp
@[simp] theorem complete_fuse (st : Status) (l : List Byte) (s : State) : (complete st l s).fuse = s.fuse := by unfold complete; split <;> simp
@[simp] theorem complete_fw (st : Status) (l : List Byte) (s : State) : (complete st l s).fw = s.fw := by unfold complete; split <;> simp
@[simp] theorem complete_land (st : Status) (l : List Byte) (s : State) : (complete st l s).land = s.land := by unfold complete; split <;> simp
@[simp] theorem resume_pending (s : State) : (resume s).pending = s.pending := rfl
@[simp] theorem resume_free (s : State) : (resume s).free = s.free := rfl
@[simp] theorem resume_fabric (s : State) : (resume s).fabric = s.fabric := rfl
@[simp] theorem resume_cells (s : State) : (resume s).cells = s.cells := rfl
@[simp] theorem resume_rails (s : State) : (resume s).rails = s.rails := rfl
@[simp] theorem resume_bus (s : State) : (resume s).bus = s.bus := rfl
@[simp] theorem resume_armQ (s : State) : (resume s).armQ = s.armQ := rfl
@[simp] theorem resume_arming (s : State) : (resume s).arming = s.arming := rfl
@[simp] theorem resume_map (s : State) : (resume s).map = s.map := rfl
@[simp] theorem resume_crease (s : State) : (resume s).crease = s.crease := rfl
@[simp] theorem resume_dom (s : State) : (resume s).dom = s.dom := rfl
@[simp] theorem resume_sup (s : State) : (resume s).sup = s.sup := rfl
@[simp] theorem resume_tlm (s : State) : (resume s).tlm = s.tlm := rfl
@[simp] theorem resume_therm (s : State) : (resume s).therm = s.therm := rfl
@[simp] theorem resume_chg (s : State) : (resume s).chg = s.chg := rfl
@[simp] theorem resume_hem (s : State) : (resume s).hem = s.hem := rfl
@[simp] theorem resume_proto (s : State) : (resume s).proto = s.proto := rfl
@[simp] theorem resume_hp (s : State) : (resume s).hp = s.hp := rfl
@[simp] theorem resume_seam (s : State) : (resume s).seam = s.seam := rfl
@[simp] theorem resume_router (s : State) : (resume s).router = s.router := rfl
@[simp] theorem resume_fuse (s : State) : (resume s).fuse = s.fuse := rfl
@[simp] theorem resume_fw (s : State) : (resume s).fw = s.fw := rfl
@[simp] theorem resume_land (s : State) : (resume s).land = s.land := rfl

/-- Delivering a reply changes, of the interpreter's state, the replies to be delivered to the host and their numbers alone. -/
theorem deliver_proto (p : Packet) (r : Reply) (s : State) :
    (deliver p r s).proto = { s.proto with outbox := (deliver p r s).proto.outbox, replyNo := s.proto.replyNo + 1 } := by
  unfold deliver; split <;> (try split) <;> rfl

/-- Delivering a reply leaves the host port's windows and settings. -/
theorem deliver_hp (p : Packet) (r : Reply) (s : State) :
    (deliver p r s).hp = { s.hp with st := (deliver p r s).hp.st, rplLen := (deliver p r s).hp.rplLen } := by
  unfold deliver; split <;> (try split) <;> rfl

@[simp] theorem answer_waiting (p : Packet) (st : Status) (l : List Byte) (s : State) :
    (answer p st l s).proto.waiting = s.proto.waiting := by unfold answer; simp only []; rw [deliver_proto]; simp

@[simp] theorem answer_exec (p : Packet) (st : Status) (l : List Byte) (s : State) :
    (answer p st l s).proto.exec = s.proto.exec := by unfold answer; simp only []; rw [deliver_proto]; simp

@[simp] theorem answer_buffer (p : Packet) (st : Status) (l : List Byte) (s : State) :
    (answer p st l s).proto.buffer = s.proto.buffer := by unfold answer; simp only []; rw [deliver_proto]; simp

@[simp] theorem answer_running (p : Packet) (st : Status) (l : List Byte) (s : State) :
    (answer p st l s).proto.running = s.proto.running := by unfold answer; simp only []; rw [deliver_proto]; simp

@[simp] theorem answer_cfg (p : Packet) (st : Status) (l : List Byte) (s : State) :
    (answer p st l s).proto.cfg = s.proto.cfg := by unfold answer; simp only []; rw [deliver_proto]; simp

@[simp] theorem answer_win (p : Packet) (st : Status) (l : List Byte) (s : State) :
    (answer p st l s).hp.win = s.hp.win := by unfold answer; simp only []; rw [deliver_hp]; simp

/-- Delivering a reply changes the reply path alone. -/
theorem deliver_only (p : Packet) (r : Reply) (s : State) :
    deliver p r s = { s with proto := (deliver p r s).proto, hp := (deliver p r s).hp, seam := (deliver p r s).seam } := by
  unfold deliver; split <;> (try split) <;> rfl

/-- An answer changes the interpreter's state, the reply path and the free counter, and nothing else. -/
theorem answer_only (p : Packet) (st : Status) (l : List Byte) (s : State) :
    answer p st l s = { s with free := s.free + 1, proto := (answer p st l s).proto, hp := (answer p st l s).hp
                               seam := (answer p st l s).seam } := by
  unfold answer
  simp only []
  rw [deliver_only]
  simp

/-! ## Executing at once -/

@[simp] theorem resume_st (s : State) : (resume s).pwr.st = s.pwr.st := rfl

/-- A module whose manager is not clock-gated resumes as it is. -/
theorem resume_of_not_gated (s : State) (h : s.pwr.gated = false) : resume s = s := by
  obtain ⟨⟩ := s
  rename_i pwr _ _ _
  obtain ⟨⟩ := pwr
  simp_all [resume]

/-- With none waiting no failed packet is answered. -/
theorem serveFailed_none {s : State} (h : s.proto.waiting = []) : serveFailed s = s := by
  unfold serveFailed
  split
  · simp only [failedHead, h, List.takeWhile_nil, List.foldl_nil, List.dropWhile_nil]
    rw [← h]
  · rfl

@[simp] theorem arrived_proto (q : Req) (s : State) : (arrived q s).proto = s.proto := by unfold arrived submitted; split <;> rfl
@[simp] theorem arrived_st (q : Req) (s : State) : (arrived q s).pwr.st = s.pwr.st := by unfold arrived submitted; split <;> rfl

/-- A command that has its turn takes it as it arrives. -/
theorem takeTurn_ready {op : Nat} {q : Req} {s : State} (h : Turn op q s) :
    takeTurn (Req.packet q op s) (resume s) = some (Req.packet q op s, arrived q s) := by
  unfold takeTurn arrived
  by_cases hq : q.src = .host
  · have := (h.host hq).2
    simp [h.running, h.free, h.empty, hq, this, Req.packet]
  · simp [h.running, h.free, h.empty, hq, Req.packet]

/-- A ready command of the right length and range runs its handler at once; packets that fail a check and stood behind it follow. -/
theorem runOp_ready {o : OpSpec} {q : Req} {s : State} (h : Ready o.op q s) (hp : o.paramCheck 2 q.params = none) :
    runOp o q s = match o.finish (Req.packet q o.op s) (arrived q s) (o.run q (arrived q s)) with
      | .next t => .next (serveFailed t)
      | x => x := by
  have hf : keptFor (arrived q s) (Req.packet q o.op s) = none := by
    have := h.fresh
    simpa [keptFor] using this
  have hh : ¬ (q.src = .host ∧ s.hp.engine = false) := fun x => by simp [(h.host x.1).1] at x
  unfold runOp
  rw [takeTurn_ready h.toTurn]
  have hv := h.v2
  have hg : o.gate (arrived q s) = none := by simp [OpSpec.gate, h.awake, h.still]
  have hr : o.process (Req.packet q o.op s) (arrived q s) =
      o.finish (Req.packet q o.op s) (arrived q s) (o.run q (arrived q s)) := by
    unfold OpSpec.process
    rw [hf]
    obtain ⟨src, ver, tag, params⟩ := q
    simp only at hv hp
    subst hv
    simp [Req.packet, hp, hg]
  simp only [h.on, hh, Bool.false_eq_true, or_self, if_false, hr]
  all_goals (cases o.finish (Req.packet q o.op s) (arrived q s) (o.run q (arrived q s)) <;> rfl)

/-- A ready command whose handler replies, and leaves none waiting, has its reply sent. -/
theorem runOp_reply {o : OpSpec} {q : Req} {s t : State} {st : Status} {l : List Byte} (h : Ready o.op q s)
    (hp : o.paramCheck 2 q.params = none) (hr : o.run q (arrived q s) = (t, .reply st l)) (hw : t.proto.waiting = []) :
    runOp o q s = .next (answer (Req.packet q o.op s) st l t) := by
  rw [runOp_ready h hp, hr]
  simp only [OpSpec.finish, Req.packet, h.v2, show (2 : Nat) ≠ 1 by decide, if_false, ite_self]
  rw [serveFailed_none (by simp [hw])]

/-- A ready command whose handler begins an operation is in execution. -/
theorem runOp_defer {o : OpSpec} {q : Req} {s t : State} {d : Deferred} (h : Ready o.op q s)
    (hp : o.paramCheck 2 q.params = none) (hr : o.run q (arrived q s) = (t, .defer d)) :
    runOp o q s = .next { t with proto := { t.proto with exec := some (Req.packet q o.op s, d) } } := by
  rw [runOp_ready h hp, hr]
  simp [OpSpec.finish, serveFailed]

end Sys2Proof.Machine
end

