-- ==== Sys2Proof/Laws/Memory.lean ====
section
/-! SUPPORT. Byte memory: every operation keeps the canonical form, and a byte reads as last written. -/

namespace Sys2Proof.Machine

theorem Mem.okFrom_mono {m : Mem} {a b : Nat} (h : Mem.okFrom b m = true) (hab : a ≤ b) : Mem.okFrom a m = true := by
  cases m with
  | nil => rfl
  | cons x m =>
    obtain ⟨k, v⟩ := x
    simp only [Mem.okFrom, Bool.and_eq_true, decide_eq_true_eq] at h ⊢
    exact ⟨⟨Nat.le_trans hab h.1.1, h.1.2⟩, h.2⟩

/-- An address below every entry reads as the fill. -/
theorem Mem.read_below {m : Mem} {lo x : Nat} (h : Mem.okFrom lo m = true) (hx : x < lo) : m.read x = Mem.fill := by
  induction m generalizing lo with
  | nil => rfl
  | cons y m ih =>
    obtain ⟨k, v⟩ := y
    simp only [Mem.okFrom, Bool.and_eq_true, decide_eq_true_eq] at h
    have hk : x ≠ k := by omega
    simp only [Mem.read, if_neg hk]
    exact ih h.2 (by omega)

theorem Mem.okFrom_write {m : Mem} {lo x : Nat} (v : Byte) (h : Mem.okFrom lo m = true) (hx : lo ≤ x) :
    Mem.okFrom lo (m.write x v) = true := by
  induction m generalizing lo with
  | nil =>
    unfold Mem.write; split
    · rfl
    · simp_all [Mem.okFrom]
  | cons y m ih =>
    obtain ⟨k, w⟩ := y
    have h0 := h
    simp only [Mem.okFrom, Bool.and_eq_true, decide_eq_true_eq] at h
    unfold Mem.write
    split
    · split
      · exact h0
      · rename_i hlt hv
        simp only [Mem.okFrom, Bool.and_eq_true, decide_eq_true_eq]
        exact ⟨⟨hx, hv⟩, ⟨⟨hlt, h.1.2⟩, h.2⟩⟩
    · split
      · split
        · exact Mem.okFrom_mono h.2 (by omega)
        · rename_i hv
          simp only [Mem.okFrom, Bool.and_eq_true, decide_eq_true_eq]
          exact ⟨⟨h.1.1, hv⟩, h.2⟩
      · simp only [Mem.okFrom, Bool.and_eq_true, decide_eq_true_eq]
        exact ⟨h.1, ih h.2 (by omega)⟩

/-- A write keeps the canonical form. -/
theorem Mem.wf_write {m : Mem} (x : Nat) (v : Byte) (h : m.wf = true) : (m.write x v).wf = true :=
  Mem.okFrom_write v h (Nat.zero_le x)

/-- Writes of several bytes keep the canonical form. -/
theorem Mem.wf_writes {m : Mem} (x : Nat) (bs : List Byte) (h : m.wf = true) : (m.writes x bs).wf = true := by
  induction bs generalizing m x with
  | nil => exact h
  | cons b bs ih => exact ih (x + 1) (Mem.wf_write x b h)

theorem Mem.okFrom_keep {m : Mem} {lo : Nat} (f : Nat → Bool) (h : Mem.okFrom lo m = true) : Mem.okFrom lo (Mem.keep f m) = true := by
  induction m generalizing lo with
  | nil => rfl
  | cons y m ih =>
    obtain ⟨k, v⟩ := y
    simp only [Mem.okFrom, Bool.and_eq_true, decide_eq_true_eq] at h
    unfold Mem.keep
    split
    · simp only [Mem.okFrom, Bool.and_eq_true, decide_eq_true_eq]
      exact ⟨h.1, ih h.2⟩
    · exact Mem.okFrom_mono (ih h.2) (by omega)

/-- Erasing entries keeps the canonical form. -/
theorem Mem.wf_keep {m : Mem} (f : Nat → Bool) (h : m.wf = true) : (Mem.keep f m).wf = true := Mem.okFrom_keep f h

theorem Mem.read_okFrom_write {m : Mem} {lo x : Nat} (v : Byte) (h : Mem.okFrom lo m = true) (y : Nat) :
    (m.write x v).read y = if y = x then v else m.read y := by
  induction m generalizing lo with
  | nil =>
    unfold Mem.write; split
    · rename_i hv; by_cases hy : y = x <;> simp [Mem.read, hy, hv]
    · by_cases hy : y = x <;> simp [Mem.read, hy]
  | cons z m ih =>
    obtain ⟨k, w⟩ := z
    simp only [Mem.okFrom, Bool.and_eq_true, decide_eq_true_eq] at h
    have hb : ∀ x, x ≤ k → Mem.read m x = Mem.fill := fun x hx => Mem.read_below (lo := k + 1) h.2 (by omega)
    unfold Mem.write
    split
    · rename_i hlt
      split
      · rename_i hv
        by_cases hy : y = x
        · subst hy; simp [Mem.read, show y ≠ k by omega, hb y (by omega), hv]
        · simp [hy]
      · by_cases hy : y = x <;> simp [Mem.read, hy]
    · split
      · rename_i hxk; subst hxk
        split
        · rename_i hv
          by_cases hy : y = x
          · subst hy; simp [hb y (by omega), hv]
          · simp [Mem.read, hy]
        · by_cases hy : y = x <;> simp [Mem.read, hy]
      · rename_i h1 h2
        simp only [Mem.read]
        by_cases hyk : y = k
        · subst hyk; simp [show y ≠ x from fun e => h2 e.symm]
        · simp only [if_neg hyk]; exact ih h.2

/-- A byte written reads back, and every other address reads as before. -/
theorem Mem.read_write {m : Mem} (x : Nat) (v : Byte) (h : m.wf = true) (y : Nat) :
    (m.write x v).read y = if y = x then v else m.read y := Mem.read_okFrom_write v h y

/-- Bytes written read back, and every other address reads as before. -/
theorem Mem.read_writes {m : Mem} (x : Nat) (bs : List Byte) (h : m.wf = true) (y : Nat) :
    (m.writes x bs).read y = if x ≤ y ∧ y < x + bs.length then bs.getD (y - x) 0 else m.read y := by
  induction bs generalizing m x with
  | nil => simp only [Mem.writes, List.length_nil]; rw [if_neg (by omega)]
  | cons b bs ih =>
    simp only [Mem.writes]
    rw [ih (x + 1) (Mem.wf_write x b h), Mem.read_write x b h]
    by_cases h1 : x + 1 ≤ y ∧ y < x + 1 + bs.length
    · have h2 : x ≤ y ∧ y < x + (b :: bs).length := by simp; omega
      rw [if_pos h1, if_pos h2]
      have : y - x = (y - (x + 1)) + 1 := by omega
      rw [this]; simp
    · rw [if_neg h1]
      by_cases h3 : y = x
      · subst h3; simp
      · have h2 : ¬ (x ≤ y ∧ y < x + (b :: bs).length) := by simp; omega
        rw [if_neg h3, if_neg h2]

/-- A bank programmed keeps its canonical form, and so does the other (R511). -/
theorem Fw.wf_program (f : Fw) (b : Fin 2) (off : Nat) (data : List Byte) (h : ∀ c : Fin 2, (f.image[c]).wf = true) (c : Fin 2) :
    ((f.program b off data).image[c]).wf = true := by
  by_cases hc : b = c
  · subst hc
    simp only [Fw.program, upd, Fin.getElem_fin, Vector.getElem_set_self]
    exact Mem.wf_writes _ _ (Mem.wf_keep _ (h b))
  · have : b.val ≠ c.val := fun e => hc (Fin.ext e)
    simp only [Fw.program, upd, Fin.getElem_fin]
    rw [Vector.getElem_set_ne _ _ this]
    exact h c

end Sys2Proof.Machine
end

