-- ==== Sys2Proof/WellFormed.lean ====
section
/-! DEFINITION. Which commands are well formed: every operand within the width its field has in the spec. -/

namespace Sys2Proof

/-- A source names a Seam address of 12 bits (R426) or a hop count of 12 bits (R421). -/
def Source.wf : Source → Bool
  | .host => true
  | .seam a => decide (a < 4096)
  | .hop _ r => decide (r < 4096)

/-- A request is one that passed checks 1 to 5 of R363: a version the module speaks, a TAG of one byte, and parameters
within the version's limit (R358). -/
def Req.wf (q : Req) : Bool :=
  q.src.wf && (decide (q.ver = 1) || decide (q.ver = 2)) && decide (q.tag < 256) &&
    decide (q.params.length ≤ if q.ver = 1 then 240 else 496)

/-- What arrives is no longer than the longest frame of R421, and its FTYPE byte names the row's type (R422). -/
def Wire.wf (w : Wire) (ftype : Nat) : Bool :=
  decide (w.bytes.length ≤ 532) && decide ((w.bytes.headD 0).toNat % 16 = ftype)

/-- A supervisor sample is a 12-bit code (R246). -/
def PgCause.wf : PgCause → Bool
  | .supervisor code => decide (code < 4096)
  | _ => true

/-- A command whose every operand lies within its field's width. -/
def Instr.wf : Instr → Bool
  | .hello q => q.wf
  | .identify q => q.wf
  | .getStatus q => q.wf
  | .resetModule q => q.wf
  | .configLoad q => q.wf
  | .configApply q => q.wf
  | .configRead q => q.wf
  | .configDigest q => q.wf
  | .railmapSet q => q.wf
  | .railmapGet q => q.wf
  | .tackProbe q => q.wf
  | .tackResult q => q.wf
  | .railmapApply q => q.wf
  | .mapStoreDone => true
  | .railEnable q => q.wf
  | .railDisable q => q.wf
  | .railSetTarget q => q.wf
  | .railStoreSetpoint q => q.wf
  | .railBindSelect q => q.wf
  | .railSetSlew q => q.wf
  | .railSetComp q => q.wf
  | .railGetState q => q.wf
  | .phasePolicy q => q.wf
  | .firingOrder q => q.wf
  | .creaseConfig q => q.wf
  | .creaseRead q => q.wf
  | .creaseClear q => q.wf
  | .phaseStatus q => q.wf
  | .clockSource q => q.wf
  | .syncQualify q => q.wf
  | .keepoutSet q => q.wf
  | .spurPlanCheck q => q.wf
  | .clockStatus q => q.wf
  | .railFswSet q => q.wf
  | .limitsSet q => q.wf
  | .windowSet q => q.wf
  | .cellRetire q => q.wf
  | .cellRestore q => q.wf
  | .faultClear q => q.wf
  | .cellSelfTestDone _ => true
  | .coverageReport q => q.wf
  | .seqSlotSet q => q.wf
  | .domainUp q => q.wf
  | .domainDown q => q.wf
  | .latchRelease q => q.wf
  | .pressingRead q => q.wf
  | .supervisorConfig q => q.wf
  | .domainConfig q => q.wf
  | .domainStatus q => q.wf
  | .tseqSet q => q.wf
  | .tseqStart q => q.wf
  | .tseqStop q => q.wf
  | .readChannel q => q.wf
  | .dropCounts q => q.wf
  | .streamConfig q => q.wf
  | .tseqRead q => q.wf
  | .tempMeasure q => q.wf
  | .thermalLimits q => q.wf
  | .throttlePolicy q => q.wf
  | .thermalStatus q => q.wf
  | .chargerConfig q => q.wf
  | .chargerStart q => q.wf
  | .chargerStop q => q.wf
  | .chargerStatus q => q.wf
  | .shipEnter q => q.wf
  | .holdRailSet q => q.wf
  | .rtcSet q => q.wf
  | .rtcGet q => q.wf
  | .rtcMode q => q.wf
  | .alarmSet q => q.wf
  | .periodicSet q => q.wf
  | .backupWrite q => q.wf
  | .backupRead q => q.wf
  | .ppsConfig q => q.wf
  | .wdogConfig q => q.wf
  | .rollcallConfig q => q.wf
  | .taskCheckin q => q.wf
  | .wdogStatus q => q.wf
  | .eventConfig q => q.wf
  | .eventClaim q => q.wf
  | .eventDone q => q.wf
  | .soakSet q => q.wf
  | .moderationSet q => q.wf
  | .eventPendingRead q => q.wf
  | .stateEnter q => q.wf
  | .stateVote q => q.wf
  | .stateAccounting q => q.wf
  | .lastWake q => q.wf
  | .otpRead q => q.wf
  | .otpProgram q => q.wf
  | .otpFinalise q => q.wf
  | .otpDarn q => q.wf
  | .lifecycleAdvance q => q.wf
  | .otpHealth q => q.wf
  | .fwStage q => q.wf
  | .fwVerify q => q.wf
  | .fwCommit q => q.wf
  | .fwStatus q => q.wf
  | .fwRevert q => q.wf
  | .seamStatus q => q.wf
  | .domainJoin q => q.wf
  | .domainAgreeStatus q => q.wf
  | .seamAddressSet q => q.wf
  | .timeMaster q => q.wf
  | .testmuxSelect q => q.wf
  | .testmuxRelease q => q.wf
  | .doorbellSubmit _ => true
  | .doorbellTake _ => true
  | .commandWindowWrite _ => true
  | .w1cWrite _ => true
  | .pointerSet _ _ => true
  | .registerWrite _ => true
  | .replyReady => true
  | .replyTakeTimeout => true
  | .sclTimeout => true
  | .sdaTimeout => true
  | .busAbort => true
  | .recovered => true
  | .twoWireWake => true
  | .engineHandover => true
  | .wakeSlow => true
  | .command _ w => w.wf 1
  | .bcastReplyDue => true
  | .reply _ w => w.wf 2
  | .event _ w => w.wf 3
  | .sync _ w phase resid => w.wf 4 && decide (phase < 65536) && decide (resid < 2 ^ 32)
  | .announce _ w => w.wf 4
  | .telemetry _ w => w.wf 5
  | .faultEcho _ w => w.wf 6
  | .wake _ w => w.wf 7
  | .wakeForwardTimeout _ => true
  | .linkSync _ => true
  | .linkSyncLost _ => true
  | .linkWord _ _ rt => decide (rt < 65536)
  | .trainingTimeout _ => true
  | .verRetry _ => true
  | .faulty _ => true
  | .faultySeen _ => true
  | .probeBurst _ => true
  | .phOverload _ => true
  | .phantomRestore _ => true
  | .seamWakeSignal _ => true
  | .announceDue => true
  | .syncDue => true
  | .agreementEval => true
  | .echoRepeat => true
  | .vinRise => true
  | .vinUv => true
  | .vinOv => true
  | .vinOvRecover => true
  | .vinRestart => true
  | .auxinRange _ => true
  | .auxidRead v => decide (v < 65536)
  | .bthOpen _ => true
  | .wakeBtn => true
  | .wakeStuck => true
  | .resetN => true
  | .fullResetTimeout => true
  | .fullStart _ _ => true
  | .autoUp => true
  | .managerStart => true
  | .resetModuleAct => true
  | .lockstepMismatch => true
  | .faultNLow => true
  | .faultNRelease => true
  | .fnOpen => true
  | .fnStuck => true
  | .squiHigh => true
  | .sqdiHigh => true
  | .cascadeDrop => true
  | .casTimeout => true
  | .enPinEdge _ _ => true
  | .upDelayEnd => true
  | .slotQualified => true
  | .slotTimeout => true
  | .pgFall _ c => c.wf
  | .supervisionStart _ => true
  | .downDelayEnd => true
  | .slotDownDone => true
  | .downTimeout _ => true
  | .supervisorJudgement _ code => decide (code < 4096)
  | .supervisorScanEnd codes _ => decide (codes.length = 64) && codes.all (fun x => decide (x < 4096))
  | .pressingWrite => true
  | .ovTrip _ => true
  | .uvTrip _ => true
  | .thresholdReadback _ ov uv => decide (ov < 65536) && decide (uv < 65536)
  | .senseFault _ => true
  | .negLimitRelease _ => true
  | .cellFault _ _ => true
  | .inputSwitch _ => true
  | .islandClock _ _ => true
  | .inputNodeReady _ => true
  | .peakTrip _ => true
  | .zeroCross _ => true
  | .pwmPeriodBoundary _ _ => true
  | .errorSample _ _ => true
  | .heartbeat _ _ _ _ => true
  | .shadow _ _ _ _ _ => true
  | .duty _ _ _ => true
  | .current _ _ _ _ => true
  | .statusRd _ index _ => decide (index < 256)
  | .statusReply _ => true
  | .configWr _ index _ _ => decide (index < 256)
  | .isolate _ _ _ => true
  | .reference _ _ _ => true
  | .arm _ _ => true
  | .reservedMessage _ type _ => decide (10 ≤ type) && decide (type < 16)
  | .hsTimeout _ => true
  | .busSilent _ => true
  | .apply _ _ _ => true
  | .pendShed _ _ _ => true
  | .cancel _ _ _ => true
  | .controlTick _ => true
  | .checkPoint _ => true
  | .rankRewrite _ => true
  | .prestartMeasureDone _ _ _ _ => true
  | .armGroupDue => true
  | .demHoldEnd _ => true
  | .railStopped _ => true
  | .selChange _ _ => true
  | .dwellEnd _ => true
  | .holdoffEnd _ => true
  | .tumbleDue _ => true
  | .frameStrobe _ t => decide (t < 2 ^ 64)
  | .missed _ => true
  | .frameInAbsent => true
  | .tackDischargeLook _ _ => true
  | .tackSlotEnd _ amps _ => decide (amps.length ≤ 10000)
  | .tackDone => true
  | .syncInPresent => true
  | .syncRange => true
  | .syncMeasurement _ => true
  | .qualified => true
  | .locked => true
  | .slideDone => true
  | .lockedSecond _ => true
  | .uUpdate => true
  | .xoFail => true
  | .xoRecovered => true
  | .clockSwitch _ => true
  | .clkswForced => true
  | .levelRequest _ => true
  | .vfSwitch => true
  | .vfFail => true
  | .syncOutCycleEnd => true
  | .timerFire _ => true
  | .sequenceTrigger _ => true
  | .runStart _ => true
  | .conversionDone _ codes => decide (codes.length ≤ 4)
  | .noEvent _ => true
  | .thermalSchedule => true
  | .tempReadingDone code _ => decide (code ≤ 0x110)
  | .tempReadingTimeout code => decide (code ≤ 0x110)
  | .dieSenseFault _ _ => true
  | .tsd _ => true
  | .tsdClear => true
  | .hnSag => true
  | .holdReturnVin => true
  | .holdShort => true
  | .holdRetry => true
  | .packExhausted => true
  | .packRemoved => true
  | .packInserted => true
  | .sourceChange _ => true
  | .chargerSecond _ _ _ => true
  | .qualifyDone _ => true
  | .phaseTimerExpired _ => true
  | .rechargeCheck _ => true
  | .chargerHw => true
  | .shipEntry => true
  | .shipExit _ => true
  | .hibernateEntry => true
  | .hibernateEntered => true
  | .hibernateExit _ => true
  | .dozeResume => true
  | .wdiChange _ stamp => decide (stamp < 2 ^ 64)
  | .wdogOpen => true
  | .wdogExpiry => true
  | .wdogPulseEnd => true
  | .ppsEdge _ => true
  | .ppsAbsent => true
  | .alarmFire _ => true
  | .periodicWake => true
  | .calWrap => true
  | .timeSuspect => true
  | .hemPor => true
  | .holdupLow _ => true
  | .eventLineEdge _ _ => true
  | .moderationDue _ => true
  | .configDone => true
  | .fwVerifyDone => true
  | .commitStop => true
  | .trialConfirm => true
  | .seamFrameSent _ => true
  | .otpBurnDone _ => true
  | .fwStageWriteDone _ => true
  | .pgRawRise _ c => c.wf
  | .phantomPowerLost _ => true

end Sys2Proof
end

