-- ==== Sys2Proof/Tests/Slice0.lean ====
section
/-! SUPPORT. Tests: ill-formed commands refused, values computed by hand from the spec, and for every statement a state and operands that
meet its hypotheses. -/

namespace Sys2Proof.Tests

open Sys2Proof.Machine

set_option maxRecDepth 100000

/-! ## Helpers -/

/-- The machine right after reset. -/
def s0 : State := State.reset

/-- A version 2 command of the host. -/
def req (ps : List Byte) : Req := { src := .host, ver := 2, tag := 7, params := ps }

/-- `n` zero bytes. -/
def zeros (n : Nat) : List Byte := List.replicate n 0

/-- A decidable reading of `Ready`. -/
def readyB (op : Nat) (q : Req) (s : State) : Bool :=
  !s.off && s.hp.engine && decide (s.hp.st ≠ .busy) && s.proto.running && decide (s.proto.exec = none) &&
    decide (s.proto.waiting = []) && decide (keptFor s (Req.packet q op s) = none) && decide (s.pwr.st ≠ .safeHold) &&
    decide (s.proto.cfg ≠ .applying) && decide (q.ver = 2)

/-- `Ready` from its decidable reading. -/
theorem ready {op : Nat} {q : Req} {s : State} (h : readyB op q s = true) : Ready op q s := by
  simp only [readyB, Bool.and_eq_true, Bool.not_eq_true', decide_eq_true_eq] at h
  obtain ⟨⟨⟨⟨⟨⟨⟨⟨⟨h1, ha⟩, hb⟩, h2⟩, h3⟩, h4⟩, h5⟩, h6⟩, h7⟩, h8⟩ := h
  exact { on := h1, host := fun _ => ⟨ha, hb⟩, running := h2, free := h3, empty := h4, fresh := h5, awake := h6, still := h7, v2 := h8 }

/-- A manager that executes nothing waits for no words. -/
theorem no_words {s : State} (h : s.proto.exec = none) : ∀ p r, s.proto.exec ≠ some (p, .words r) := fun _ _ e => by
  rw [h] at e
  cases e

/-- `s0` with a rail changed. -/
def onRail (r : Fin 48) (f : Rail → Rail) : State := { s0 with rails := upd s0.rails r (f s0.rails[r]) }

/-- `s0` with a cell changed. -/
def onCell (c : Fin 256) (f : Cell → Cell) : State := { s0 with cells := upd s0.cells c (f s0.cells[c]) }

/-- `s0` with a rail in a state. -/
def railIn (st : RailSt) : State := onRail 3 (fun x => { x with st := st })

/-- `s0` with the domain in a state. -/
def domIn (st : DomSt) : State := { s0 with dom := { s0.dom with st := st } }

/-- What a test asks of the next state. -/
def nextHas (o : Host.Outcome State Fault Refusal) (f : State → Bool) : Bool :=
  match o with
  | .next t => f t
  | .fault _ => false
  | .refused _ => false

/-- The status and the result of the last reply to the host. -/
def answered (o : Host.Outcome State Fault Refusal) (st : Nat) (result : List Byte) : Bool :=
  nextHas o (fun t => match t.proto.outbox.getLast? with
    | some r => decide (r.2.status = st) && decide (r.2.result = result)
    | none => false)

/-! ## Ill-formed commands are refused -/

theorem test_wf_good : Instr.wf (.hello (req [2, 1, 0, 0])) = true := by decide
theorem test_wf_version : Instr.wf (.hello { req [] with ver := 3 }) = false := by decide
theorem test_wf_tag : Instr.wf (.identify { req [] with tag := 256 }) = false := by decide
theorem test_wf_length : Instr.wf (.configLoad (req (zeros 497))) = false := by decide
theorem test_wf_length_v1 : Instr.wf (.configLoad { req (zeros 241) with ver := 1 }) = false := by decide
theorem test_wf_source : Instr.wf (.hello { req [] with src := .seam 4096 }) = false := by decide
theorem test_wf_hop : Instr.wf (.hello { req [] with src := .hop .a 4096 }) = false := by decide

/-- A frame of type 1 without payload. -/
def frame : Frame :=
  { ftype := 1, fflags := 0, dst := 2, src := 1, rem := 0, hops := 0, domain := 0, seq := 5, payload := [] }

/-- A frame as it arrives whole. -/
def wire (f : Frame) : Wire := { bytes := Frame.bytes f, clean := true }

theorem test_wf_frame : Instr.wf (.command .a (wire frame)) = true := by decide
theorem test_wf_frame_type : Instr.wf (.reply .a (wire frame)) = false := by decide
theorem test_wf_frame_length : Instr.wf (.command .a { bytes := 1 :: zeros 532, clean := true }) = false := by decide
theorem test_wf_sync_phase : Instr.wf (.sync .a (wire { frame with ftype := 4 }) 65536 0) = false := by decide
theorem test_wf_sync_resid : Instr.wf (.sync .a (wire { frame with ftype := 4 }) 0 (2 ^ 32)) = false := by decide
theorem test_wf_link_word : Instr.wf (.linkWord .a 0 65536) = false := by decide
theorem test_wf_auxid : Instr.wf (.auxidRead 65536) = false := by decide
theorem test_wf_judgement : Instr.wf (.supervisorJudgement 0 4096) = false := by decide
theorem test_wf_scan_length : Instr.wf (.supervisorScanEnd [0] none) = false := by decide
theorem test_wf_scan_code : Instr.wf (.supervisorScanEnd (List.replicate 63 0 ++ [4096]) none) = false := by decide
theorem test_wf_readback : Instr.wf (.thresholdReadback 0 65536 0) = false := by decide
theorem test_wf_status_rd : Instr.wf (.statusRd 0 256 .clean) = false := by decide
theorem test_wf_config_wr : Instr.wf (.configWr 0 256 0 .clean) = false := by decide
theorem test_wf_reserved : Instr.wf (.reservedMessage 0 9 .clean) = false := by decide
theorem test_wf_strobe : Instr.wf (.frameStrobe 0 (2 ^ 64)) = false := by decide
theorem test_wf_wdi : Instr.wf (.wdiChange true (2 ^ 64)) = false := by decide
theorem test_wf_temp_code : Instr.wf (.tempReadingTimeout 0x111) = false := by decide
theorem test_wf_codes : Instr.wf (.conversionDone ⟨0, 0⟩ (List.replicate 5 0)) = false := by decide
theorem test_wf_sample : Instr.wf (.pgFall 0 (.supervisor 4096)) = false := by decide
theorem test_wf_rise_sample : Instr.wf (.pgRawRise 0 (.supervisor 4096)) = false := by decide
theorem test_wf_amps : Instr.wf (.tackSlotEnd 0 (List.replicate 10001 0) true) = false := by decide

/-! ## Values of the spec -/

/-- No row of the opcode table gives bits. -/
theorem test_decode_none : decodeTableWord 16 0x0001 = none := rfl

/-- The check value of CRC-16 with polynomial 0x1021 and initial value 0xFFFF over the digits 1-9 (R361). -/
theorem test_crc16 : crc16 [0x31, 0x32, 0x33, 0x34, 0x35, 0x36, 0x37, 0x38, 0x39] = 0x29B1 := by decide

/-- The check value of CRC-32 with polynomial 0x04C11DB7, reflected, over the digits 1-9 (R421). -/
theorem test_crc32 : crc32 [0x31, 0x32, 0x33, 0x34, 0x35, 0x36, 0x37, 0x38, 0x39] = 0xCBF43926 := by decide

/-- A frame's fields are read back from its bytes, and one changed byte fails its CRC (R421, R424). -/
theorem test_frame_read : Wire.read (wire { frame with payload := [9], hops := 0x123 }) = .good { frame with payload := [9], hops := 0x123 } ∧
    Wire.read { bytes := (Frame.bytes frame).set 2 3, clean := true } = .badCrc { frame with dst := 3 } := by decide

/-- The packet of the example after R361: RAIL_SET_TARGET of rail 1 to code 2,200, tag 0x37, ends in CRC 0xC5D1 (R359). -/
theorem test_packet_crc : crc16 ([0x02, 0x37, 0x03, 0x03, 0x04, 0x00] ++ [0x01, 0xFF, 0x98, 0x08]) = 0xC5D1 := by decide

/-- 3.00 MHz is PERIOD 0x21555555, and 8,533 whole steps with WHOLE (R182). -/
theorem test_period : periodOf 3000000 false = 0x21555555 ∧ periodOf 3000000 true = 8533 * 65536 := by decide

/-- The example after R361: rail 1 regulating at 1.20 V, commanded to 1.10 V, answers STARTED; pin-bound, REFUSED_STATE 1, 2, 1, 0. -/
theorem test_target_example :
    answered (exec (.railSetTarget (req [0x01, 0xFF, 0x98, 0x08])) (onRail 1 (fun x => { x with
      st := .regulating, loop := { x.loop with ref := 2400 * 65536, target := 2400 } }))) 0x01 [] = true ∧
    answered (exec (.railSetTarget (req [0x01, 0xFF, 0x98, 0x08])) (onRail 1 (fun x => { x with
      st := .regulating, sp := { x.sp with pinBound := true } }))) 0x10 [0x01, 0x02, 0x01, 0x00] = true := by decide

/-! ## States that meet the hypotheses of the statements -/

/-- GET_STATUS, as a command that waits. -/
def waiter : Packet := Req.packet (req []) 0x0003 s0

/-- `s0` with `n` commands waiting. -/
def withWaiting (n : Nat) : State := { s0 with proto := { s0.proto with waiting := List.replicate n waiter } }

theorem witness_IdleStepCountsOneHemTick :
    s0.pending = [] ∧ s0.hem.discV = 0 ∧ s0.hem.discAcc = 0 ∧ s0.hem.slewLeft = 0 ∧ s0.pwr.st ≠ .doze := by decide

theorem witness_CommandsWaitForTheirTurn :
    (zhoenne (.getStatus (req [])) = some (getStatusOp, req []) ∧ (withWaiting 8).off = false ∧ (withWaiting 8).hp.engine = true ∧
      (withWaiting 8).hp.st ≠ .busy ∧ (withWaiting 8).proto.running = true ∧
      (∃ h rest, (withWaiting 8).proto.waiting = h :: rest ∧ h.same (Req.packet (req [1]) 0x0003 s0) = false) ∧
      (withWaiting 7).proto.waiting.length < 8 ∧ 8 ≤ (withWaiting 8).proto.waiting.length) ∧
    ({ s0 with pwr := { s0.pwr with lost := true } }.off = true ∧ s0.hp.st ≠ .busy ∧ s0.seam.rxBuf.length < 8) ∧
    (∃ t l, (withWaiting 1).proto.running = true ∧ (withWaiting 1).proto.exec = none ∧
      (withWaiting 1).proto.waiting = waiter :: [] ∧ waiter.same (Req.packet (req []) getStatusOp.op (withWaiting 1)) = true ∧
      waiter.fail = none ∧ keptFor (withWaiting 1) waiter = none ∧ getStatusOp.paramCheck 2 waiter.params = none ∧
      (withWaiting 1).pwr.st ≠ .safeHold ∧ (withWaiting 1).proto.cfg ≠ .applying ∧
      getStatusOp.run { src := waiter.src, ver := 2, tag := waiter.tag, params := waiter.params }
        { resume (withWaiting 1) with proto := { (withWaiting 1).proto with waiting := [] } } = (t, .reply .done l)) :=
  ⟨⟨rfl, by decide, by decide, by decide, by decide, ⟨waiter, List.replicate 7 waiter, rfl, by decide⟩, by decide, by decide⟩, by decide,
    _, _, by decide, by decide, rfl, by decide, by decide, by decide, by decide, by decide, by decide, rfl⟩

/-- `s0` with the reply to GET_STATUS kept. -/
def keptState : State := { s0 with proto := { s0.proto with kept := [{ src := .host, cmd := waiter, at_ := 0, reply :=
  { ver := 2, tag := 7, status := 0, rflags := 0, result := [1] } }] } }

theorem witness_RepeatedCommandDrawsKeptReply :
    zhoenne (.getStatus (req [])) = some (getStatusOp, req []) ∧ keptState.off = false ∧ keptState.hp.engine = true ∧
      keptState.hp.st ≠ .busy ∧ keptState.proto.running = true ∧ keptState.proto.exec = none ∧ keptState.proto.waiting = [] ∧
      keptFor keptState (Req.packet (req []) getStatusOp.op keptState) =
        some { ver := 2, tag := 7, status := 0, rflags := 0, result := [1] } :=
  ⟨rfl, by decide, by decide, by decide, by decide, by decide, by decide, by decide⟩

/-- `s0` in SAFE HOLD, and with an image being applied. -/
def safeState : State := { s0 with pwr := { s0.pwr with st := .safeHold } }
def applyingState : State := { s0 with proto := { s0.proto with cfg := .applying } }

/-- A decidable reading of `Turn`. -/
theorem turn {op : Nat} {q : Req} {s : State} (h : (!s.off && s.hp.engine && decide (s.hp.st ≠ .busy) && s.proto.running &&
    decide (s.proto.exec = none) && decide (s.proto.waiting = []) && decide (keptFor s (Req.packet q op s) = none)) = true) :
    Turn op q s := by
  simp only [Bool.and_eq_true, Bool.not_eq_true', decide_eq_true_eq] at h
  obtain ⟨⟨⟨⟨⟨⟨h1, ha⟩, hb⟩, h2⟩, h3⟩, h4⟩, h5⟩ := h
  exact { on := h1, host := fun _ => ⟨ha, hb⟩, running := h2, free := h3, empty := h4, fresh := h5 }

theorem witness_ChecksRefuseWithoutEffect :
    (zhoenne (.hello (req [])) = some (helloOp, req []) ∧ Turn 0x0001 (req []) s0 ∧ helloOp.plen = .fixed 4 ∧
      (req []).params.length ≠ 4) ∧
    (zhoenne (.railGetState (req [48])) = some (railGetStateOp, req [48]) ∧ Turn 0x0308 (req [48]) s0 ∧
      railGetStateOp.plen.expected [48] = none ∧ railGetStateOp.bad 2 [48] = some 0) ∧
    (zhoenne (.domainUp (req [])) = some (domainUpOp, req []) ∧ Turn 0x0702 (req []) safeState ∧
      domainUpOp.paramCheck 2 [] = none ∧ safeState.pwr.st = .safeHold ∧ domainUpOp.sh = false) ∧
    (zhoenne (.configLoad (req [0, 0, 0, 0, 1])) = some (configLoadOp, req [0, 0, 0, 0, 1]) ∧
      Turn 0x0101 (req [0, 0, 0, 0, 1]) applyingState ∧ configLoadOp.paramCheck 2 [0, 0, 0, 0, 1] = none ∧
      applyingState.pwr.st ≠ .safeHold ∧ applyingState.proto.cfg = .applying ∧ configLoadOp.app = true) :=
  ⟨⟨rfl, turn (by decide), rfl, by decide⟩, ⟨rfl, turn (by decide), by decide, by decide⟩,
    ⟨rfl, turn (by decide), by decide, by decide, by decide⟩, ⟨rfl, turn (by decide), by decide, by decide, by decide, by decide⟩⟩

/-- A version 1 command. -/
def req1 (ps : List Byte) : Req := { req ps with ver := 1 }

theorem witness_VersionOneCommands :
    (zhoenne (.domainStatus (req1 [])) = some (domainStatusOp, req1 []) ∧ Turn 0x0708 (req1 []) s0 ∧ domainStatusOp.v = 2) ∧
    (∃ t l, zhoenne (.getStatus (req1 [])) = some (getStatusOp, req1 []) ∧ Turn 0x0003 (req1 []) s0 ∧
      getStatusOp.paramCheck 1 [] = none ∧ getStatusOp.run (req1 []) (arrived (req1 []) s0) = (t, .reply .done l) ∧
      getStatusOp.big [] = none ∧ t.proto.waiting = [] ∧ l.length ≤ 240) ∧
    (∃ t l, zhoenne (.chargerStatus (req1 [])) = some (chargerStatusOp, req1 []) ∧
      chargerStatusOp.run (req1 []) (arrived (req1 []) s0) = (t, .reply .done l)) :=
  ⟨⟨rfl, turn (by decide), rfl⟩, ⟨_, _, rfl, turn (by decide), by decide, rfl, rfl, rfl, by decide⟩, _, _, rfl, rfl⟩

theorem witness_AnswerDeliversAndKeepsReply : waiter.src = .host ∧ waiter.ver = 2 ∧ Status.done.executed = true ∧
    Status.busy.executed = false := by decide

/-- `s0` with an image being loaded. -/
def loadingState : State := { s0 with proto := { s0.proto with loaded := true, cfg := .loading } }

theorem witness_SessionAndImageBufferCommands :
    (Ready 0x0001 (req [2, 1, 0, 0]) s0 ∧ (req [2, 1, 0, 0]).params.length = 4 ∧ 1 ≤ byteAt [2, 1, 0, 0] 0 ∧ byteAt [2, 1, 0, 0] 1 ≤ 2) ∧
    (Ready 0x0001 (req [2, 3, 0, 0]) s0 ∧ 2 < byteAt [2, 3, 0, 0] 1) ∧ (Ready 0x0004 (req [1]) s0 ∧ (req [1]).params.length = 1) ∧
    (Ready 0x0101 (req [0xFF, 0xFF, 3, 0, 9]) s0 ∧ 5 ≤ (req [0xFF, 0xFF, 3, 0, 9]).params.length ∧ s0.proto.buffer.wf = true ∧
      fieldAt [0xFF, 0xFF, 3, 0, 9] 0 4 + 1 = 262144) ∧
    (Ready 0x0101 (req [0, 0, 4, 0, 9]) s0 ∧ 262144 < fieldAt [0, 0, 4, 0, 9] 0 4 + 1) ∧
    (Ready 0x0103 (req [0x18, 0xFE, 3, 0, 0xE8, 1, 0, 0]) loadingState ∧ fieldAt [0x18, 0xFE, 3, 0, 0xE8, 1, 0, 0] 4 2 = 488 ∧
      fieldAt [0x18, 0xFE, 3, 0, 0xE8, 1, 0, 0] 0 4 + 488 = 262144 ∧ loadingState.proto.loaded = true) :=
  ⟨⟨ready (by decide), by decide⟩, ⟨ready (by decide), by decide⟩, ⟨ready (by decide), by decide⟩, ⟨ready (by decide), by decide⟩,
    ⟨ready (by decide), by decide⟩, ready (by decide), by decide⟩

/-- The bytes of a header without sections (R377). -/
def bareHeader : List Byte :=
  [0x45, 0x5A, 0x4E, 0x47, 2, 0, 32, 0, 48, 0, 0, 0, 0, 0, 0, 0, 0x56, 2, 1, 0, 0, 0, 0, 0, 0, 0, 0, 0, 0, 0, 0, 0]

/-- `s0` with an image without sections loaded (R377, R379). -/
def bareState : State := { loadingState with proto := { loadingState.proto with
  buffer := Mem.writes [] 0 (bareHeader ++ digest64 bareHeader ++ digest64 []) } }

theorem witness_apply_image : Ready 0x0102 (req [0]) bareState ∧ bareState.proto.cfg ≠ .empty ∧ bareState.dom.st = .down ∧
    checkImage (arrived (req [0]) bareState) (bufferBytes (arrived (req [0]) bareState)
      (max 32 (min 262144 (imageLen (bufferBytes (arrived (req [0]) bareState) 32))))) = none ∧
    (imageSections (bufferBytes (arrived (req [0]) bareState) 48)).length = 0 :=
  ⟨ready (by decide), by decide, by decide, by decide, by decide⟩

theorem witness_ConfigApplyThenDoneAppliesImage :
    (Ready 0x0102 (req [0]) s0 ∧ s0.proto.cfg = .empty) ∧
    (Ready 0x0102 (req [0]) { loadingState with dom := (domIn .up).dom } ∧ (domIn .up).dom.st ≠ .down ∧ (domIn .up).dom.st ≠ .latched) ∧
    s0.proto.cfg ≠ .applying ∧
    (∃ t, applyingState.proto.cfg = .applying ∧ applyingState.proto.running = true ∧ applyingState.proto.applyBits.2 = false ∧
      runSections .host ((imageSections (bufferImage applyingState)).drop applyingState.proto.applied) applyingState.proto.applied
        applyingState = (t, none) ∧ t.proto.applyBits = applyingState.proto.applyBits) :=
  ⟨⟨ready (by decide), by decide⟩, ⟨ready (by decide), by decide, by decide⟩, by decide,
    applyingState, by decide, by decide, by decide, rfl, rfl⟩

/-- `s0` with a rail-map store under way, for a command or for an image. -/
def storingState : State := { s0 with map := { s0.map with applying := true }, proto := { s0.proto with exec := some (waiter, .mapStore) } }

/-- `s0` with a staged map other than the active one, which checks or does not. -/
def stagedState (code : Nat) : State :=
  { s0 with map := { s0.map with staged := upd s0.map.staged 0 { s0.map.staged[0] with rated := 3 }
                                 stagedChk := Vector.replicate 48 code } }

theorem witness_RailMapIsStagedAppliedAndStored :
    (Ready 0x0201 (req ([47, 1] ++ zeros 40)) s0 ∧ byteAt ([47, 1] ++ zeros 40) 0 = 47 ∧ byteAt ([47, 1] ++ zeros 40) 1 = 1) ∧
    (Ready 0x0205 (req []) (stagedState 1) ∧ (stagedState 1).map.probe ≠ .running ∧
      (stagedState 1).map.staged ≠ (stagedState 1).map.active ∧ (stagedState 1).map.stagedChk[(0 : Fin 48)] ≠ 0) ∧
    (Ready 0x0205 (req []) s0 ∧ s0.map.staged = s0.map.active) ∧
    (Ready 0x0205 (req []) (stagedState 0) ∧ (∀ r : Fin 48, (stagedState 0).map.stagedChk[r] = 0) ∧
      ∀ r : Fin 48, (stagedState 0).rails[r].st = .off) ∧
    (storingState.map.applying = true ∧ storingState.dom.ph ≠ .waitApply ∧ storingState.proto.exec = some (waiter, .mapStore)) ∧
    (s0.map.applying = false ∧ Ready 0x0203 (req []) s0 ∧ s0.map.probe ≠ .running ∧ ∀ k : Fin 48, s0.rails[k].st.runs = false) :=
  ⟨⟨ready (by decide), by decide⟩, ⟨ready (by decide), by decide, by decide, by decide⟩, ⟨ready (by decide), by decide⟩,
    ⟨ready (by decide), by decide, by decide⟩, by decide, by decide, ready (by decide), by decide⟩

/-- `s0` with a tack probe in its discharge, probing, or with every cell classed. -/
def dischargeState : State := { s0 with map := { s0.map with probe := .running } }
def probingState : State := { s0 with map := { s0.map with probe := .running, probing := true } }
def classedState : State := { probingState with map := { probingState.map with
  words := Vector.replicate 256 { probingState.map.words[0] with cls := 1 } } }

theorem witness_TackProbeClassesEveryCell :
    (Ready 0x0203 (req []) (railIn .regulating) ∧ (railIn .regulating).rails[(3 : Fin 48)].st ≠ .off ∧
      ∀ k : Fin 48, k < 3 → (railIn .regulating).rails[k].st = .off) ∧
    (Ready 0x0203 (req []) s0 ∧ ∀ k : Fin 48, s0.rails[k].st = .off) ∧
    (dischargeState.map.probe = .running ∧ dischargeState.map.probing = false) ∧
    (probingState.map.probe = .running ∧ probingState.map.probing = true ∧ probingState.map.words[(0 : Fin 256)].cls = 0) ∧
    (classedState.map.probing = true ∧ ∀ n : Fin 256, classedState.map.words[n].cls ≠ 0) :=
  ⟨⟨ready (by decide), by decide, by decide⟩, ⟨ready (by decide), by decide⟩, by decide, by decide, by decide, by decide⟩

/-- `s0` with rail 0 mapped to cell 0, checked, with set-point code `code` at its start target. -/
def mapped (code : Nat) : State := { s0 with
  map := { s0.map with active := upd s0.map.active 0 { s0.map.active[0] with valid := true, rated := 1, members := 1 } , activeChk := Vector.replicate 48 0 }
  rails := upd s0.rails 0 { s0.rails[0] with sp := { s0.rails[0].sp with direct := true, code := code } } }

theorem witness_RailEnableAndDisableMoveTheRail :
    (Ready 0x0301 (req [3]) (railIn .latchedOff) ∧ (req [3]).params = [byte 3] ∧ (railIn .latchedOff).rails[(3 : Fin 48)].st ≠ .off) ∧
    (Ready 0x0301 (req [0]) (mapped 1600) ∧ (mapped 1600).rails[(0 : Fin 48)].st = .off ∧ (mapped 1600).dom.st = .down ∧
      (mapped 1600).map.probe ≠ .running ∧ (mapped 1600).map.applying = false ∧ (mapped 1600).map.activeChk[(0 : Fin 48)] = 0 ∧
      (mapped 1600).map.active[(0 : Fin 48)].valid = true ∧ (mapped 1600).rails[(0 : Fin 48)].sp.start ≠ 0 ∧
      (mapped 1600).rails[(0 : Fin 48)].prot.ovTrip = false ∧ (mapped 1600).rails[(0 : Fin 48)].prot.uvTrip = false ∧
      startLeader (mapped 1600) 0 = some 0 ∧ (mapped 1600).undervolt = false) ∧
    (Ready 0x0302 (req [3]) (railIn .stopping) ∧ (railIn .stopping).rails[(3 : Fin 48)].st = .stopping) ∧
    (Ready 0x0302 (req [3]) (railIn .slewing) ∧ slotOf (railIn .slewing) 3 = none ∧
      (railIn .slewing).rails[(3 : Fin 48)].st = .slewing) ∧
    (Ready 0x0302 (req [3]) (railIn .starting) ∧ slotOf (railIn .starting) 3 = none ∧
      (railIn .starting).rails[(3 : Fin 48)].st = .starting ∧ (railIn .starting).rails[(3 : Fin 48)].released = false) :=
  ⟨⟨ready (by decide), by decide⟩, ⟨ready (by decide), by decide⟩, ⟨ready (by decide), by decide⟩, ⟨ready (by decide), by decide⟩,
    ready (by decide), by decide⟩

/-- `s0` with rail 3 pin-bound, and regulating with a stored set-point at index 7. -/
def boundState : State := onRail 3 (fun x => { x with sp := { x.sp with pinBound := true } })
def storedState : State := onRail 3 (fun x => { x with st := .regulating, sp := { x.sp with stored := upd x.sp.stored 7 2200 } })

/-- `s0` with rail 3 regulating at code 2200. -/
def standing : State := onRail 3 (fun x => { x with st := .regulating, loop := { x.loop with ref := 2200 * 65536 } })

theorem witness_SetPointsSlewsAndCoefficientsAreTaken_targets :
    (byteAt [3, 0xFF, 0, 0] 0 = 3 ∧ (req [3, 0xFF, 0, 0]).params.length = 4 ∧ Ready 0x0303 (req [3, 0xFF, 0, 0]) boundState ∧
      boundState.rails[(3 : Fin 48)].sp.pinBound = true) ∧
    (Ready 0x0303 (req [3, 0xFF, 0, 0]) s0 ∧ s0.rails[(3 : Fin 48)].sp.pinBound = false ∧ s0.rails[(3 : Fin 48)].st ≠ .stopping ∧
      fieldAt [3, 0xFF, 0, 0] 2 2 = 0) ∧
    (Ready 0x0303 (req [3, 0xFF, 1, 0]) s0 ∧ s0.rails[(3 : Fin 48)].st = .off ∧ fieldAt [3, 0xFF, 1, 0] 2 2 ≠ 0) ∧
    (Ready 0x0303 (req [3, 7, 0, 0]) storedState ∧ storedState.rails[(3 : Fin 48)].sp.pinBound = false ∧
      storedState.rails[(3 : Fin 48)].st = .regulating ∧ storedState.rails[(3 : Fin 48)].sp.stored[Fin.ofNat 8 7] ≠ 0 ∧
      storedState.rails[(3 : Fin 48)].loop.ref ≠ storedState.rails[(3 : Fin 48)].sp.stored[Fin.ofNat 8 7] * 65536) ∧
    (Ready 0x0303 (req [3, 0xFF, 0x98, 8]) standing ∧ standing.rails[(3 : Fin 48)].sp.pinBound = false ∧
      standing.rails[(3 : Fin 48)].st = .regulating ∧
      standing.rails[(3 : Fin 48)].loop.ref = fieldAt [3, 0xFF, 0x98, 8] 2 2 * 65536) ∧
    Ready 0x0304 (req [3, 7, 0, 0]) s0 ∧ Ready 0x0305 (req [3, 1, 0, 0]) s0 :=
  ⟨⟨by decide, by decide, ready (by decide), by decide⟩, ⟨ready (by decide), by decide⟩, ⟨ready (by decide), by decide⟩,
    ⟨ready (by decide), by decide⟩, ⟨ready (by decide), by decide⟩, ready (by decide), ready (by decide)⟩

theorem witness_SetPointsSlewsAndCoefficientsAreTaken_rates :
    (Ready 0x0306 (req (47 :: zeros 7)) s0 ∧ byteAt (47 :: zeros 7) 0 = 47 ∧ (req (47 :: zeros 7)).params.length = 8) ∧
    (Ready 0x0307 (req (3 :: zeros 23)) s0 ∧ s0.rails[(3 : Fin 48)].st = .off) ∧
    (Ready 0x0307 (req (3 :: zeros 23)) (railIn .regulating) ∧ (railIn .regulating).rails[(3 : Fin 48)].st ≠ .off ∧
      (railIn .regulating).rails[(3 : Fin 48)].st ≠ .latchedOff ∧
      (coefOf (3 :: zeros 23)).tick ≠ (railIn .regulating).rails[(3 : Fin 48)].loop.coef.tick) ∧
    (∃ ps : List Byte, Ready 0x0307 (req ps) (railIn .regulating) ∧ ps.length = 24 ∧
      (coefOf ps).tick = (railIn .regulating).rails[(3 : Fin 48)].loop.coef.tick) :=
  ⟨⟨ready (by decide), by decide⟩, ⟨ready (by decide), by decide⟩, ⟨ready (by decide), by decide⟩,
    [3] ++ zeros 19 ++ [0xC8, 0, 0, 0], ready (by decide), by decide⟩

/-- `s0` with rail 3 measuring in its start. -/
def measuringState : State := onRail 3 (fun x => { x with st := .starting, measuring := true })

theorem witness_StartSequenceHappenings :
    (measuringState.rails[(3 : Fin 48)].st = .starting ∧ measuringState.rails[(3 : Fin 48)].measuring = true ∧
      measuringState.rails[(3 : Fin 48)].qualifying = false ∧ (200000 : Int) = clampInt 0 6553500 200000 ∧ (0 : Int) = clampInt 0 6553500 (-1) ∧
      (-200000 : Int) ≤ 200000 - 0 ∧ (200001 : Int) = clampInt 0 6553500 200001 ∧ (200000 : Int) < 200001 - 0) ∧
    s0.rails[(3 : Fin 48)].st ≠ .starting ∧
    (∃ s : State, s.rails[(3 : Fin 48)].st = .regulating ∧ s.rails[(3 : Fin 48)].loop.dem = true ∧
      s.rails[(3 : Fin 48)].loop.demLeft = 0 ∧ s.rails[(3 : Fin 48)].prot.negLimiting = false) ∧
    ((railIn .stopping).rails[(3 : Fin 48)].st = .stopping ∧
      ∀ n ∈ (railIn .stopping).members 3, ((railIn .stopping).cell n).st.serves = false) ∧
    s0.rails[(3 : Fin 48)].sp.pinBound = false :=
  ⟨by decide, by decide, ⟨onRail 3 (fun x => { x with st := .regulating, loop := { x.loop with dem := true, demLeft := 0 } }), by decide⟩,
    by decide, by decide⟩

/-- A policy with SHED_I below ADD_I, and one with them equal. -/
def policy (shed : Byte) : List Byte := [3] ++ zeros 7 ++ [20, 0, shed, 0] ++ zeros 8

theorem witness_PhaseAndCreaseCommandsTakeEffect_phases :
    (Ready 0x0401 (req (policy 10)) s0 ∧ byteAt (policy 10) 0 = 3 ∧ (policy 10).length = 20 ∧
      fieldAt (policy 10) 10 2 < fieldAt (policy 10) 8 2) ∧
    (Ready 0x0401 (req (policy 20)) s0 ∧ fieldAt (policy 20) 8 2 ≤ fieldAt (policy 20) 10 2) ∧
    (Ready 0x0402 (req (3 :: zeros 5)) s0 ∧ (req (3 :: zeros 5)).params.length = 6) :=
  ⟨⟨ready (by decide), by decide⟩, ⟨ready (by decide), by decide⟩, ready (by decide), by decide⟩

theorem witness_PhaseAndCreaseCommandsTakeEffect_creases :
    (Ready 0x0403 (req ([7, 0, 0, 0, 47, 1] ++ zeros 10)) s0 ∧ byteAt ([7, 0, 0, 0, 47, 1] ++ zeros 10) 0 = 7 ∧
      ([7, 0, 0, 0, 47, 1] ++ zeros 10 : List Byte).length = 16 ∧ byteAt ([7, 0, 0, 0, 47, 1] ++ zeros 10) 4 ≤ 47) ∧
    (Ready 0x0405 (req [7]) s0 ∧ (req [7]).params.length = 1) ∧
    (s0.crease[(0 : Fin 8)].rail ≠ some 47) :=
  ⟨⟨ready (by decide), by decide⟩, ⟨ready (by decide), by decide⟩, by decide⟩

/-- `s0` with the phase context of rail 3 changed. -/
def onPhase (f : PhaseCtx → PhaseCtx) : State := onRail 3 (fun x => { x with st := .regulating, ph := f x.ph })

/-- `s0` with rail 3 tumbling by ticks. -/
def tumbling : State := onRail 3 (fun x => { x with
  st := .regulating, loop := { x.loop with dem := false }
  ph := { x.ph with tumble := true, tumbleStrobe := false, pol := { x.ph.pol with auto := true } } })

/-- The same, in a holdoff in which a rotation fell due. -/
def tumblingHeld : State := { tumbling with rails := upd tumbling.rails 3 { tumbling.rails[3] with
  ph := { tumbling.rails[3].ph with holdoff := true, rotDue := 1 } } }

theorem witness_DwellHoldoffAndTumble :
    ((onPhase (fun p => { p with pend := some 2 })).rails[(3 : Fin 48)].ph.pend = some 2 ∧
      (onPhase (fun p => { p with pend := some 2 })).rails[(3 : Fin 48)].ph.committing = false) ∧ s0.rails[(3 : Fin 48)].ph.pend = none ∧
    (∃ s : State, railOf s 0 = some 0 ∧ s.rails[(0 : Fin 48)].leader = 0 ∧ s.rails[(0 : Fin 48)].ph.pend = some 2 ∧
      s.rails[(0 : Fin 48)].ph.committing = true) ∧
    (onPhase (fun p => { p with holdoff := true })).rails[(3 : Fin 48)].ph.holdoff = true ∧
    (tumblingHeld.rails[(3 : Fin 48)].ph.holdoff = true ∧ tumblingHeld.rails[(3 : Fin 48)].ph.rotDue ≠ 0 ∧
      tumblingHeld.rails[(3 : Fin 48)].ph.pend = none ∧ policyActs tumblingHeld.rails[(3 : Fin 48)] = true ∧
      tumblingHeld.rails[(3 : Fin 48)].ph.tumble = true) ∧
    (tumbling.rails[(3 : Fin 48)].ph.tumbleStrobe = false ∧ policyActs tumbling.rails[(3 : Fin 48)] = true ∧
      tumbling.rails[(3 : Fin 48)].ph.tumble = true ∧ tumbling.rails[(3 : Fin 48)].ph.pend = none ∧
      tumbling.rails[(3 : Fin 48)].ph.holdoff = false) :=
  ⟨by decide, by decide, ⟨{ mapped 1600 with rails := upd s0.rails 0 { s0.rails[0] with
    leader := 0, ph := { s0.rails[0].ph with pend := some 2, committing := true } } }, by decide⟩, by decide, by decide, by decide⟩

/-- `s0` with an enabled, learning crease context and a strobe taken at fabric tick 0. -/
def creaseState : State := { s0 with
  land := { s0.land with frameAbsent := false, frameLast := some (0, true) }
  crease := upd s0.crease 0 { s0.crease[0] with rail := some 3, st := .learning, period := some 1000000, frameStart := 0 } }

theorem witness_FrameStrobesMoveCreases :
    (creaseState.land.frameAbsent = false ∧ creaseState.land.frameLast = some (0, true) ∧ creaseState.crease[(0 : Fin 8)].rail = some 3 ∧
      creaseState.crease[(0 : Fin 8)].st = .learning ∧ creaseState.crease[(0 : Fin 8)].period = some 1000000 ∧
      (1000000 : Nat) ≤ creaseState.crease[(0 : Fin 8)].frameStart + 1000000) := by decide

/-- `s0` with the domain UP, its slot 2 having rail 3. -/
def boundSlot : State := { s0 with dom := { s0.dom with
  st := .up, slotsNow := upd s0.dom.slotsNow 2 { s0.dom.slotsNow[2] with used := true, rails := 8 } } }

/-- `mapped` with VIN below 8.0 V. -/
def lowStart : State := { mapped 1600 with land := { s0.land with vinLow := true } }

/-- `s0` with a map apply under way. -/
def mapApplying : State := { s0 with map := { s0.map with applying := true } }

theorem witness_RailEnableAndDisableMoveTheRail_refusals :
    (Ready 0x0301 (req [3]) dischargeState ∧ dischargeState.map.probe = .running) ∧
    (Ready 0x0301 (req [3]) mapApplying ∧ mapApplying.map.applying = true) ∧
    (Ready 0x0301 (req [3]) boundSlot ∧ boundSlot.map.probe ≠ .running ∧ boundSlot.map.applying = false ∧
      boundSlot.rails[(3 : Fin 48)].st = .off ∧ slotOf boundSlot 3 ≠ none ∧ boundSlot.dom.st ≠ .down) ∧
    (Ready 0x0301 (req [0]) lowStart ∧ startLeader lowStart 0 = some 0 ∧ lowStart.undervolt = true) :=
  ⟨⟨ready (by decide), by decide⟩, ⟨ready (by decide), by decide⟩, ⟨ready (by decide), by decide⟩, ready (by decide), by decide⟩

theorem witness_SetPointsSlewsAndCoefficientsAreTaken_words :
    (wordsOut s0 3 = false ∧ ∀ c : Fin 256, (s0.memberSet 3).getLsbD c.val = true → s0.cells[c].st = .retired) ∧
    (Ready 0x0307 (req (0 :: zeros 23)) (mapped 1600) ∧ (mapped 1600).rails[(0 : Fin 48)].st = .off ∧
      ((mapped 1600).memberSet 0).getLsbD 0 = true ∧ (mapped 1600).cells[(0 : Fin 256)].st ≠ .retired ∧
      (coefOf (0 :: zeros 23)).words[4]? ≠ none) :=
  ⟨by decide, ready (by decide), by decide⟩

theorem witness_StartSequenceHappenings_readings :
    measuringState.tlm.busy[Fin.ofNat 4 measuringState.rails[(3 : Fin 48)].measOn] = none ∧
    (∃ s : State, s.tlm.busy[Fin.ofNat 4 s.rails[(3 : Fin 48)].measOn] ≠ none) :=
  ⟨by decide, { s0 with tlm := { s0.tlm with busy := upd s0.tlm.busy (Fin.ofNat 4 s0.rails[(3 : Fin 48)].measOn) (some 0) } }, by decide⟩

theorem witness_DwellHoldoffAndTumble_dwell :
    (onPhase (fun p => { p with tumble := true, pend := some 2, pol := { p.pol with auto := true } })).rails[(3 : Fin 48)].ph.pend ≠ none ∧
    (onPhase (fun p => { p with tumble := true, holdoff := true, tumbleStrobe := false })).rails[(3 : Fin 48)].ph.holdoff = true ∧
    (onPhase (fun p => { p with tumbleStrobe := true })).rails[(3 : Fin 48)].ph.tumbleStrobe = true := by decide
/-- `s0` with cell 5 in a state. -/
def cellIn (st : CellSt) : State := onCell 5 (fun c => { c with st := st })

theorem witness_MonitorsIsolateTheCell :
    (s0.cells[(5 : Fin 256)].st = .off ∧ (∀ k : Nat, k < 48 → (s0.memberSet k).getLsbD 5 = false) ∧
      1 ≤ (1 : BitVec 8).toNat ∧ (11 : BitVec 8).toNat ≤ 11 ∧ (11 : BitVec 8) ≠ 8 ∧ 11 < (12 : BitVec 8).toNat) ∧
    (onCell 5 (fun c => { c with precharge := true })).cells[(5 : Fin 256)].precharge = true ∧
    s0.cells[(5 : Fin 256)].precharge = false ∧ s0.cells[(5 : Fin 256)].isoSw = false ∧ 149999 < 150000 ∧ 350000 < 350001 ∧
    (cellIn .armed).cells[(5 : Fin 256)].st ≠ .off ∧ (cellIn .isolated).cells[(5 : Fin 256)].st = .isolated := by decide

theorem witness_CellsOwnHappenings : s0.cells[(5 : Fin 256)].st ≠ .retired ∧
    (cellIn .shed).cells[(5 : Fin 256)].st = .shed ∧
    (cellIn .shed).cells[(5 : Fin 256)].sampCnt < sampleCount (cellIn .shed).cells[(5 : Fin 256)].period ∧
    sampleCount (onCell 5 (fun c => { c with sampCnt := 256 })).cells[(5 : Fin 256)].period ≤ 256 ∧
    (255 : Int) < 256 ∧ (-257 : Int) < -256 := by decide

theorem witness_PeriodBoundaryCommitsTheCell :
    ((onCell 5 (fun c => { c with st := .switching, stopNext := true })).cells[(5 : Fin 256)].stopNext = true ∧
      (onCell 5 (fun c => { c with st := .switching, stopNext := true })).cells[(5 : Fin 256)].st = .switching) ∧
    ((onCell 5 (fun c => { c with st := .armed, runNext := true })).cells[(5 : Fin 256)].stopNext = false ∧
      (onCell 5 (fun c => { c with st := .armed, runNext := true })).cells[(5 : Fin 256)].runNext = true ∧
      (onCell 5 (fun c => { c with st := .armed, runNext := true })).cells[(5 : Fin 256)].armNext = false ∧
      (onCell 5 (fun c => { c with st := .armed, runNext := true })).cells[(5 : Fin 256)].applyNext = none) ∧
    ((onCell 5 (fun c => { c with st := .switching, onTime := 231 })).cells[(5 : Fin 256)].periodBoundary 0).pulse = true := by decide

/-- A DUTY message of cell 6 that rail 3 hears, on its way to cell 5. -/
def dutyTo5 : Msg := { type := .duty, src := 6, dst := 3, bcast := true, index := 0, payload := 0x1234, waits := 0x20 }

/-- The test by which a DUTY row names `dutyTo5`. -/
def sayDuty (m : Msg) : Bool := m.isType .duty && m.saying ((0x1234 : BitVec 16).setWidth 32)

/-- A phase control word with an OP on its way to cell 5. -/
def phaseTo5 (op : Nat) : Msg := { dutyTo5 with type := .configWr, index := 0x30, payload := BitVec.ofNat 32 (op * 2 ^ 30) }

/-- `s0` with one message in flight. -/
def busOf (m : Msg) : State := { s0 with bus := [m] }

theorem witness_RailBusMessagesActOnTheMember :
    (s0.cells[(5 : Fin 256)].st ≠ .retired ∧ (dutyTo5.src < 256 ∧ dutyTo5.dst < 64 ∧ dutyTo5.index < 256) ∧
      InFlight 5 6 (.duty 5 0x1234 ·) sayDuty ∧ takeFrom sayDuty 5 s0.bus = none) ∧
    takeFrom sayDuty 5 (busOf dutyTo5).bus = some (dutyTo5, []) ∧
    takeFrom (fun m => m.isType .reference && m.saying ((0x1234 : BitVec 16).setWidth 32)) 5 (busOf { dutyTo5 with type :=
      .reference }).bus = some ({ dutyTo5 with type := .reference }, []) ∧
    takeFrom (fun m => m.isFrom .shadow 6 && decide (m.index = 7) && m.saying 0x1234) 5 (busOf { dutyTo5 with type := .shadow, index := 7 }).bus =
      some ({ dutyTo5 with type := .shadow, index := 7 }, []) ∧
    (∃ s : State, s.cells[(5 : Fin 256)].leader = 6 ∧ s.cells[(5 : Fin 256)].shadowPart.length = 7) ∧
    (∀ k : Nat, k < 3 → takeFrom (fun m => decide (m.op = k) && m.saying (BitVec.ofNat 32 (k * 2 ^ 30))) 5 (busOf (phaseTo5 k)).bus = some (phaseTo5 k, [])) ∧
    takeFrom (Msg.isType .arm) 5 (busOf { dutyTo5 with type := .arm }).bus = some ({ dutyTo5 with type := .arm }, []) ∧
    takeFrom (fun m => m.isFrom .current 6 && m.saying 0x1234) 5 (busOf { dutyTo5 with type := .current }).bus = some ({ dutyTo5 with type := .current }, []) ∧
    (∃ s : State, s.cells[(5 : Fin 256)].st = .off ∧ s.cells[(5 : Fin 256)].role ≠ .none) ∧ (cellIn .shed).cells[(5 : Fin 256)].st = .shed ∧
    (onCell 5 (fun c => { c with replyDue := some (12, 1) })).cells[(5 : Fin 256)].replyDue = some (12, 1) ∧ s0.proto.running = true :=
  ⟨⟨by decide, by decide, .inl ⟨0x1234, .inl ⟨rfl, rfl⟩⟩, by decide⟩, by decide, by decide, by decide,
    ⟨onCell 5 (fun c => { c with leader := 6, shadowPart := List.replicate 7 0 }), by decide⟩, by decide, by decide, by decide,
    ⟨onCell 5 (fun c => { c with role := .follower }), by decide⟩, by decide, by decide, by decide⟩

theorem witness_BusErrorsAreCorrectedOrDiscarded :
    ((busOf dutyTo5).cells[(5 : Fin 256)].st ≠ .retired ∧ InFlight 5 6 (.duty 5 0x1234 ·) sayDuty ∧
      takeFrom sayDuty 5 (busOf dutyTo5).bus = some (dutyTo5, [])) ∧
    (∃ s : State, s.rails[(3 : Fin 48)].st = .regulating ∧ s.rails[(3 : Fin 48)].released = true ∧ s.rails[(3 : Fin 48)].hubMissing = 0 ∧
      s.memberSet 3 = 0x21 ∧ s.cells[(5 : Fin 256)].st ≠ .retired ∧ s.cells[(5 : Fin 256)].leader ≠ 5 ∧
      s.cells[(5 : Fin 256)].heard = false ∧ s.cells[(0 : Fin 256)].heard = true ∧
      s.cells[(5 : Fin 256)].missing + 1 ≤ s.cells[(5 : Fin 256)].rank) :=
  ⟨⟨by decide, .inl ⟨0x1234, .inl ⟨rfl, rfl⟩⟩, by decide⟩,
    ⟨{ s0 with
        rails := upd s0.rails 3 { s0.rails[3] with st := .regulating, released := true }
        map := { s0.map with active := upd s0.map.active 3 { s0.map.active[3] with valid := true, members := 0x21 } }
        cells := upd (upd s0.cells 0 { s0.cells[0] with st := .switching, heard := true }) 5 { s0.cells[5] with st := .switching, rank := 1 } },
      by decide⟩⟩

/-- A heartbeat of a cell on its way to cell 5. -/
def beat (src : Nat) : Msg := { dutyTo5 with type := .heartbeat, src := src, payload := 9 }

theorem witness_HeartbeatsAndIsolatesActOnTheMember :
    (∃ s : State, takeFrom (fun m => m.isFrom .heartbeat 6 && m.saying (BitVec.ofNat 32 9)) 5 s.bus = some (beat 6, []) ∧
      s.cells[(5 : Fin 256)].st ≠ .retired ∧ s.cells[(5 : Fin 256)].role ≠ .none ∧
      s.cells[(5 : Fin 256)].members.getLsbD 6 = true ∧ s.cells[(5 : Fin 256)].former ≠ some 6 ∧ s.cells[(5 : Fin 256)].leader = 6) ∧
    (∃ s : State, takeFrom (fun m => m.isFrom .heartbeat 4 && m.saying (BitVec.ofNat 32 9)) 5 s.bus = some (beat 4, []) ∧
      s.cells[(5 : Fin 256)].st ≠ .retired ∧ s.cells[(5 : Fin 256)].role ≠ .none ∧
      s.cells[(5 : Fin 256)].members.getLsbD 4 = true ∧ s.cells[(5 : Fin 256)].former ≠ some 4 ∧ s.cells[(5 : Fin 256)].leader = 5 ∧
      precedes (s.cells[(5 : Fin 256)].former.getD 5) 4 5 = true) ∧
    (s0.cells[(5 : Fin 256)].st = .off ∧ ∀ k : Nat, k < 48 → (s0.memberSet k).getLsbD 5 = false) :=
  ⟨⟨{ onCell 5 (fun c => { c with role := .follower, members := 0x60, leader := 6 }) with bus := [beat 6] }, by decide⟩,
    ⟨{ onCell 5 (fun c => { c with role := .leader, members := 0x30, leader := 5, former := some 3 }) with bus := [beat 4] },
      by decide⟩, by decide⟩

/-- `s0` with rail 3 regulating at a target, released, and led by cell 0, which switches. -/
def ticking (target : Nat) : State := { s0 with
  cells := upd s0.cells 0 { s0.cells[0] with st := .switching, heard := true }
  rails := upd s0.rails 3 { s0.rails[3] with st := .regulating, released := true, leader := 0
                                             loop := { s0.rails[3].loop with target := target } } }

theorem witness_ControlTickRegulates :
    s0.rails[(3 : Fin 48)].st = .off ∧
    ((ticking 799).rails[(3 : Fin 48)].st = .regulating ∧ (ticking 799).rails[(3 : Fin 48)].loop.target < 800 ∧
      7200 < (ticking 7201).rails[(3 : Fin 48)].loop.target) ∧
    ((ticking 800).rails[(3 : Fin 48)].st = .regulating ∧ 800 ≤ (ticking 800).rails[(3 : Fin 48)].loop.target ∧
      (ticking 7200).rails[(3 : Fin 48)].loop.target ≤ 7200 ∧ (ticking 800).rails[(3 : Fin 48)].released = true ∧
      ((ticking 800).cell (ticking 800).rails[(3 : Fin 48)].leader).st = .switching) ∧
    ((castFrom { ticking 800 with map := { s0.map with active := upd s0.map.active 3 { s0.map.active[3] with valid := true, members := 3 } } }
        3 0 .heartbeat 0 0).waits ≠ 0) ∧
    ((railIn .slewing).rails[(3 : Fin 48)].st = .slewing ∧ (railIn .slewing).rails[(3 : Fin 48)].loop.coefNext = none) := by decide

theorem witness_CheckPointsAndRankRewrite :
    ((ticking 800).rails[(3 : Fin 48)].st = .regulating ∧ (ticking 800).rails[(3 : Fin 48)].released = true ∧
      (ticking 800).rails[(3 : Fin 48)].hubMissing = 0 ∧
      ∀ c : Fin 256, ((ticking 800).memberSet 3).getLsbD c.val = true → (ticking 800).cells[c].heard = true) ∧
    s0.rails[(3 : Fin 48)].rewriteDue = false ∧
    ((onRail 3 (fun x => { x with rewriteDue := true })).rails[(3 : Fin 48)].rewriteDue = true ∧
      (onRail 3 (fun x => { x with rewriteDue := true })).proto.running = true ∧
      (onRail 3 (fun x => { x with rewriteDue := true })).rails[(3 : Fin 48)].formerDue = []) ∧
    ∃ s : State, s.rails[(3 : Fin 48)].rewriteDue = true ∧ s.proto.running = true ∧ s.rails[(3 : Fin 48)].formerDue = [5] ∧
      (s.cell 5).st = .isolated :=
  ⟨by decide, by decide, by decide,
    { onRail 3 (fun x => { x with rewriteDue := true, formerDue := [5] }) with cells := (cellIn .isolated).cells }, by decide⟩

/-- A limits or coefficient word on its way to cell 5. -/
def wordTo5 (k : Nat) : Msg := { dutyTo5 with type := .configWr, bcast := false, dst := 5, index := k, payload := 9 }

/-- The row that names it takes it, whatever INDEX its word has on the link. -/
theorem take_word (k : Nat) :
    takeFrom (fun m => m.isConfig (wordTo5 k).wire && m.saying 9) 5 (busOf (wordTo5 k)).bus = some (wordTo5 k, []) := by
  simp [busOf, takeFrom, Msg.isConfig, Msg.saying, wordTo5, dutyTo5, cellBit]

theorem witness_CellsOwnHappenings_listening :
    (∀ p r, s0.proto.exec ≠ some (p, .words r)) ∧ dischargeState.map.probe = .running ∧ dischargeState.cells[(5 : Fin 256)].st = .off :=
  ⟨no_words (by decide), by decide, by decide⟩

theorem witness_PeriodBoundaryCommitsTheCell_words :
    (∃ s : State, s.cells[(5 : Fin 256)].periodNext = some 7 ∧
      s.cells[(5 : Fin 256)].periodAt = some ((s.cells[(5 : Fin 256)].boundary + 1) % 256) ∧ s.cells[(5 : Fin 256)].stopNext = false ∧
      s.cells[(5 : Fin 256)].armNext = true ∧ s.cells[(5 : Fin 256)].applyNext = some (2, 1, 0)) ∧
    (∃ s : State, s.cells[(5 : Fin 256)].armNext = false ∧ s.cells[(5 : Fin 256)].applyNext = some (2, 1, 0)) ∧
    s0.cells[(5 : Fin 256)].periodAt ≠ some 1 :=
  ⟨⟨onCell 5 (fun c => { c with periodNext := some 7, periodAt := some ((c.boundary + 1) % 256), armNext := true, applyNext := some (2, 1, 0) }),
    by decide⟩, ⟨onCell 5 (fun c => { c with applyNext := some (2, 1, 0) }), by decide⟩, by decide⟩

theorem witness_RailBusMessagesActOnTheMember_words :
    (∀ k : Nat, takeFrom (fun m => m.isConfig (wordTo5 k).wire && m.saying 9) 5 (busOf (wordTo5 k)).bus = some (wordTo5 k, [])) ∧
      (coefWord + 4 = 0x105 ∧ ilimWord = 0x106 ∧ sinkWord = 0x107) ∧
    takeFrom (fun m => m.isConfig 0x33 && m.saying 9) 5 s0.bus = none ∧
    (∃ s : State, railOf s 0 = some 0 ∧ s.rails[(0 : Fin 48)].leader = 0 ∧ s.cells[(0 : Fin 256)].coefPart.length = 4 ∧
      s.rails[(0 : Fin 48)].st.runs = true) ∧
    (∀ k : Coef, k = s0.rails[0].loop.coef → k.kp < 65536 ∧ k.ki < 65536 ∧ k.kd < 65536 ∧ k.a1 < 65536 ∧ k.a2 < 65536 ∧ -32768 ≤ k.kff ∧
      k.kff ≤ 32767 ∧ k.dMin < 65536 ∧ k.dMax < 65536 ∧ k.demHold < 256 ∧ k.ctick < 1024) ∧
    { s0 with proto := { s0.proto with running := false } }.proto.running = false ∧ (12 < 16 ∧ 12 % 4 = 0) :=
  ⟨take_word, by decide, by decide, ⟨{ mapped 1600 with
      rails := upd s0.rails 0 { s0.rails[0] with st := .regulating, leader := 0 }
      cells := upd s0.cells 0 { s0.cells[0] with coefPart := [1, 2, 3, 4] } }, by decide⟩, fun _ h => by subst h; decide, by decide, by decide⟩

theorem witness_BusErrorsAreCorrectedOrDiscarded_words :
    (∃ x, takeFrom (fun m => m.isConfig 0x33 && m.saying 9) 5 (busOf (wordTo5 0x33)).bus = some (x, [])) ∧
    (∀ p r, (busOf (wordTo5 0x33)).proto.exec ≠ some (p, .words r)) ∧
    [] = ((takeFrom (Msg.isolates 8) 5 s0.bus).map Prod.snd).getD s0.bus :=
  ⟨⟨wordTo5 0x33, by decide⟩, no_words (by decide), by decide⟩

theorem witness_DwellHoldoffAndTumble_flying :
    ∃ s : State, railOf s 0 = some 0 ∧ s.rails[(0 : Fin 48)].leader = 0 ∧ s.rails[(0 : Fin 48)].ph.pend = some 2 ∧
      s.rails[(0 : Fin 48)].ph.committing = true ∧ ∃ m ∈ s.bus, m.op = 0 ∧ m.dst = 0 :=
  ⟨{ mapped 1600 with
      bus := [{ phaseTo5 0 with dst := 0 }]
      rails := upd s0.rails 0 { s0.rails[0] with leader := 0, ph := { s0.rails[0].ph with pend := some 2, committing := true } } },
    by decide, by decide, by decide, by decide, _, List.mem_cons_self, by decide, by decide⟩

/-- `s0` with rail 0 STOPPING, its one member ISOLATED or RETIRED and a rewrite due. -/
def rewriteState (st : CellSt) : State := { mapped 1600 with
  cells := upd s0.cells 0 { s0.cells[0] with st := st, role := .follower }
  rails := upd s0.rails 0 { s0.rails[0] with st := .stopping, rewriteDue := true } }

theorem witness_CheckPointsAndRankRewrite_members :
    ((rewriteState .isolated).memberSet 0).getLsbD 0 = true ∧ (rewriteState .isolated).cells[(0 : Fin 256)].st = .isolated ∧
    (rewriteState .switching).cells[(0 : Fin 256)].healthy = true ∧ (rewriteState .switching).rails[(0 : Fin 48)].st.runs = true ∧
    { s0 with proto := { s0.proto with running := false } }.proto.running = false ∧
    (∃ s : State, s.rails[(3 : Fin 48)].formerDue = [5] ∧ (s.cell 5).healthy = true) :=
  ⟨by decide, by decide, by decide, by decide, by decide, onRail 3 (fun x => { x with formerDue := [5] }), by decide⟩
/-- `s0` with the clock changed. -/
def onClk (f : Clk → Clk) : State := { s0 with clk := f s0.clk }

theorem witness_ClockAndSpurCommandsTakeEffect_clock :
    (Ready 0x0501 (req ([1, 0, 2, 47] ++ zeros 6)) s0 ∧ byteAt ([1, 0, 2, 47] ++ zeros 6) 3 ≤ 47 ∧
      natBit (byteAt ([1, 0, 2, 47] ++ zeros 6) 1) 0 = false) ∧
    (Ready 0x0501 (req ([0, 1] ++ zeros 8)) (onClk (fun c => { c with tb := .locked })) ∧
      byteAt ([0, 1] ++ zeros 8) 0 = (onClk (fun c => { c with tb := .locked })).clk.mode ∧
      (onClk (fun c => { c with tb := .locked })).clk.tb = .locked) ∧
    (Ready 0x0501 (req ([0, 1] ++ zeros 8)) s0 ∧ natBit (byteAt ([0, 1] ++ zeros 8) 1) 0 = true ∧ s0.clk.tb = .free) ∧
    (Ready 0x0502 (req ([0x3F, 0x42, 0x0F, 0] ++ zeros 8)) s0 ∧ fieldAt ([0x3F, 0x42, 0x0F, 0] ++ zeros 8) 0 4 = 999999) ∧
    (Ready 0x0502 (req ([0x40, 0x42, 0x0F, 0] ++ zeros 8)) s0 ∧ fieldAt ([0x40, 0x42, 0x0F, 0] ++ zeros 8) 0 4 = 1000000) :=
  ⟨⟨ready (by decide), by decide⟩, ⟨ready (by decide), by decide⟩, ⟨ready (by decide), by decide⟩, ⟨ready (by decide), by decide⟩,
    ready (by decide), by decide⟩

/-- KEEPOUT_SET of two enabled bands, F_LO of the second below that of the first, and of none. -/
def fallingBands : List Byte :=
  [2, 0, 0, 0] ++ ([2, 0, 0, 0, 3, 0, 0, 0] ++ zeros 10 ++ [1, 0]) ++ ([1, 0, 0, 0, 3, 0, 0, 0] ++ zeros 10 ++ [1, 0])

theorem witness_ClockAndSpurCommandsTakeEffect_spur :
    (∃ ps : List Byte, Ready 0x0503 (req ps) s0 ∧ byteAt ps 0 ≤ 16 ∧ ps.length = 4 + 20 * byteAt ps 0 ∧
      bandsOrdered ((bandsOf ps).toList.filter (fun b => b.enable)) = false) ∧
    (Ready 0x0503 (req [0, 0, 0, 0]) s0 ∧ bandsOrdered ((bandsOf [0, 0, 0, 0]).toList.filter (fun b => b.enable)) = true) ∧
    (Ready 0x0506 (req [47, 0, 0, 0, 0x3F, 0x42, 0x0F, 0]) s0 ∧ fieldAt [47, 0, 0, 0, 0x3F, 0x42, 0x0F, 0] 4 4 = 999999 ∧
      railViols s0 s0.clk.bands s0.clk.u 47 (periodOf 1000000 false) = [] ∧ s0.rails[(47 : Fin 48)].st = .off) :=
  ⟨⟨fallingBands, ready (by decide), by decide⟩, ⟨ready (by decide), by decide⟩, ready (by decide), by decide⟩

theorem witness_TimebaseFollowsTheReference :
    (s0.clk.ref = .absent ∧ s0.clk.xoBad = false ∧ s0.loopStopped = false) ∧ s0.clk.edges = false ∧
    (∃ s : State, s.clk.edges = true ∧ s.clk.ref = .qualified ∧ s.clk.tb = .locked ∧ s.clk.xoBad = false ∧
      s.clk.passes 1000000000 = true ∧ ¬ 100000 < 100000 ∧ 100000 < 100001) ∧
    (∃ s : State, s.clk.ref = .qualifying ∧ s.clk.xoBad = false ∧ s.clk.mode = 0 ∧ s.clk.tb = .free ∧
      s.clk.passes 1000000000 = true ∧ s.clk.passes 1000030000 = true ∧ s.clk.passes 1000030001 = false) ∧
    (∃ s : State, s.clk.tb = .pullIn) ∧ (∃ s : State, s.clk.tb = .slide ∧ s.clk.slideLearned = true) ∧
    (∃ s : State, s.clk.tb = .locked ∧ s.clk.xoBad = false ∧ s.clk.secBad = false ∧ s.clk.means = []) ∧ s0.clk.tb = .free :=
  ⟨by decide, by decide, ⟨onClk (fun c => { c with edges := true, ref := .qualified, tb := .locked }), by decide⟩,
    ⟨onClk (fun c => { c with ref := .qualifying }), by decide⟩, ⟨onClk (fun c => { c with tb := .pullIn }), by decide⟩,
    ⟨onClk (fun c => { c with tb := .slide, slideLearned := true }), by decide⟩, ⟨onClk (fun c => { c with tb := .locked }), by decide⟩,
    by decide⟩

theorem witness_ManagerClockFollowsSupplyAndXo :
    s0.clk.xoBad = false ∧ s0.pwr.st = .run ∧ s0.clk.level = .l0 ∧ s0.clk.switching = none ∧ s0.clk.changing = false ∧
    s0.clk.soNext = none ∧ s0.clk.soMode = 0 ∧ s0.off = false ∧ (onClk (fun c => { c with xoBad := true })).clk.xoBad = true ∧
    (onClk (fun c => { c with switching := some .coast })).clk.switching = some .coast ∧
    (onClk (fun c => { c with changing := true })).clk.changing = true ∧
    (onClk (fun c => { c with soNext := some (2, 47, 2) })).clk.soNext = some (2, 47, 2) ∧
    (onClk (fun c => { c with level := .l2 })).clk.level = .l2 ∧ (onClk (fun c => { c with level := .l1 })).clk.level = .l1 := by decide

theorem witness_LimitsAndWindowsAreWritten :
    (Ready 0x0601 (req (47 :: zeros 11)) s0 ∧ (req (47 :: zeros 11)).params.length = 12 ∧ byteAt (47 :: zeros 11) 0 = 47) ∧
    (Ready 0x0602 (req (0 :: zeros 9)) s0 ∧ (req (0 :: zeros 9)).params.length = 10) :=
  ⟨⟨ready (by decide), by decide⟩, ready (by decide), by decide⟩

/-- `s0` with rail 0 regulating on cell 0 alone. -/
def lastCell : State := { mapped 1600 with rails := upd (mapped 1600).rails 0 { (mapped 1600).rails[0] with st := .regulating } }

theorem witness_CellRetireAndRestore :
    (Ready 0x0603 (req [5]) dischargeState ∧ (req [5]).params = [byte 5] ∧ dischargeState.map.probe = .running) ∧
    (Ready 0x0603 (req [5]) (cellIn .retired) ∧ (cellIn .retired).cells[(5 : Fin 256)].st = .retired) ∧
    (Ready 0x0603 (req [255]) s0 ∧ s0.map.probe ≠ .running ∧ s0.cells[(255 : Fin 256)].st = .off ∧
      ∀ k : Nat, k < 48 → (s0.memberSet k).getLsbD 255 = false) ∧
    (Ready 0x0603 (req [0]) lastCell ∧ lastCell.cells[(0 : Fin 256)].st ≠ .retired ∧ lastHealthy lastCell 0 = some 0) ∧
    (Ready 0x0604 (req [5]) (cellIn .retired)) ∧ (Ready 0x0604 (req [5]) s0 ∧ s0.cells[(5 : Fin 256)].st ≠ .retired) :=
  ⟨⟨ready (by decide), by decide⟩, ⟨ready (by decide), by decide⟩, ⟨ready (by decide), by decide⟩, ⟨ready (by decide), by decide⟩,
    ready (by decide), ready (by decide), by decide⟩

/-- FAULT_CLEAR of a scope and a cell, with and without RESTORE. -/
def clear (scope cell restore : Byte) : List Byte := [scope, cell, 0, 0, 0xFF, 0xFF, restore, 0]

/-- `s0` with cell 5 ISOLATED by a cause. -/
def isolatedBy (cause : BitVec 8) : State := onCell 5 (fun c => { c with st := .isolated, isoCause := cause })

theorem witness_FaultClearAndRestore :
    (Ready 0x0605 (req (clear 6 0 0)) s0 ∧ Ready 0x0605 (req (clear 5 0 0)) s0 ∧ Ready 0x0605 (req (clear 7 0 0)) s0 ∧
      Ready 0x0605 (req (clear 15 0 0)) s0 ∧ Ready 0x0605 (req (clear 18 0 0)) s0 ∧ 17 < byteAt (clear 18 0 0) 0) ∧
    (Ready 0x0605 (req (clear 0 5 0)) (cellIn .retired) ∧ (cellIn .retired).cells[(5 : Fin 256)].st = .retired ∧
      natBit (fieldAt (clear 0 5 0) 4 4) 16 = false) ∧
    (Ready 0x0605 (req (clear 0 5 1)) (isolatedBy 1) ∧ natBit (fieldAt (clear 0 5 1) 4 4) 16 = true ∧
      (isolatedBy 1).cells[(5 : Fin 256)].st = .isolated ∧ (isolatedBy 3).cells[(5 : Fin 256)].isoCause ≠ 1) ∧
    (∃ s : State, s.proto.exec = some (waiter, .restore 5) ∧ s.cells[(5 : Fin 256)].st = .isolated) ∧ s0.proto.exec = none :=
  ⟨⟨ready (by decide), ready (by decide), ready (by decide), ready (by decide), ready (by decide), by decide⟩,
    ⟨ready (by decide), by decide⟩, ⟨ready (by decide), by decide⟩,
    ⟨{ isolatedBy 3 with proto := { s0.proto with exec := some (waiter, .restore 5) } }, by decide⟩, by decide⟩

theorem witness_TripsAndComparatorFaults :
    (railIn .latchedOff).rails[(3 : Fin 48)].st = .latchedOff ∧
    (onRail 4 (fun x => { x with offFrom := some .slewing })).rails[(4 : Fin 48)].offFrom.any RailSt.regulates = true ∧
      (railIn .stopping).rails[(3 : Fin 48)].st ≠ .off ∧
    ((railIn .slewing).rails[(3 : Fin 48)].st = .slewing ∧ (railIn .slewing).dom.st ≠ .falling) ∧
    s0.map.active[(0 : Fin 48)].valid = false ∧ ((mapped 1600).map.active[(0 : Fin 48)].valid = true ∧ (mapped 1600).proto.running = true) ∧
    s0.rails[(3 : Fin 48)].prot.negLimiting = false ∧
    ((onRail 3 (fun x => { x with prot := { x.prot with negLimiting := true, negTicks := 8 } })).rails[(3 : Fin 48)].prot.negLimiting = true ∧
      8 ≤ (onRail 3 (fun x => { x with prot := { x.prot with negLimiting := true, negTicks := 8 } })).rails[(3 : Fin 48)].prot.negTicks) := by
  decide

theorem witness_TimebaseFollowsTheReference_never_present :
    (∃ s : State, s.clk.ref = .absent ∧ s.clk.edges = true ∧ s.clk.xoBad = true) ∧
    (∃ s : State, s.clk.ref = .qualified ∧ s.clk.tb = .locked ∧ s.clk.xoBad = false ∧ s.clk.passes 1000050001 = false) ∧
    (∃ s : State, s.clk.hoRun = true ∧ s.clk.tb = .holdover) :=
  ⟨⟨onClk (fun c => { c with edges := true, xoBad := true }), by decide⟩,
    ⟨onClk (fun c => { c with ref := .qualified, tb := .locked }), by decide⟩, onClk (fun c => { c with hoRun := true, tb := .holdover }), by decide⟩

theorem witness_ManagerClockFollowsSupplyAndXo_asking :
    s0.proto.running = true ∧ s0.pwr.entering = false ∧ { s0 with proto := { s0.proto with running := false } }.proto.running = false ∧
    decide (MgrLevel.l2 = .coast) = false ∧ decide (MgrLevel.coast = .coast) = true := by decide

/-- A LIMITS_SET for rail 0 that waits for its words, the last of them on its way to cell 5. -/
def limitsWaiting (more : List Msg) : State := { s0 with
  bus := wordTo5 0x35 :: more, proto := { s0.proto with exec := some (waiter, .words 0) } }

theorem witness_LimitsAndWindowsAreWritten_words :
    (wordsOut s0 0 = false ∧ ∀ c : Fin 256, (s0.memberSet 0).getLsbD c.val = true → s0.cells[c].st = .retired) ∧
    (Ready 0x0601 (req (zeros 12)) (mapped 1600) ∧ (mapped 1600).rails[(0 : Fin 48)].st = .off ∧
      ((mapped 1600).memberSet 0).getLsbD 0 = true ∧ (mapped 1600).cells[(0 : Fin 256)].st ≠ .retired) ∧
    (Ready 0x0601 (req (zeros 12)) lastCell ∧ lastCell.rails[(0 : Fin 48)].st = .regulating ∧ (lastCell.memberSet 0).getLsbD 0 = true) ∧
    ((limitsWaiting []).cells[(5 : Fin 256)].st ≠ .retired ∧ (limitsWaiting []).proto.exec = some (waiter, .words 0) ∧
      takeFrom (fun m => m.isConfig 0x35 && m.saying 9) 5 (limitsWaiting []).bus = some (wordTo5 0x35, []) ∧
      wordsOut { limitsWaiting [] with bus := [] } 0 = false) ∧
    (takeFrom (fun m => m.isConfig 0x35 && m.saying 9) 5 (limitsWaiting [wordTo5 ilimWord]).bus = some (wordTo5 0x35, [wordTo5 ilimWord]) ∧
      wordsOut { limitsWaiting [] with bus := [wordTo5 ilimWord] } 0 = true) :=
  ⟨by decide, ⟨ready (by decide), by decide⟩, ⟨ready (by decide), by decide⟩, by decide, by decide⟩

/-- `s0` with cell 5 in a state and VIN above 16.5 V. -/
def overVin (st : CellSt) : State := { cellIn st with land := { s0.land with vinOver := true } }

theorem witness_CellRetireAndRestore_over :
    (Ready 0x0604 (req [5]) (overVin .retired) ∧ (overVin .retired).map.probe ≠ .running ∧
      (overVin .retired).cells[(5 : Fin 256)].st = .retired ∧ (overVin .retired).land.vinOver = true) ∧
    s0.land.vinOver = false ∧ s0.map.staged[(0 : Fin 48)].members.getLsbD 5 = false ∧ (overVin .isolated).land.vinOver = true :=
  ⟨⟨ready (by decide), by decide⟩, by decide, by decide, by decide⟩

theorem witness_TripsAndComparatorFaults_power :
    { s0 with pwr := { s0.pwr with lost := true } }.off = true ∧ s0.off = false ∧ s0.rails[(3 : Fin 48)].offFrom = none ∧
    (mapped 1600).tlm.busy[Fin.ofNat 4 (mapped 1600).tlm.sysConv] = none ∧ (railIn .regulating).rails[(3 : Fin 48)].st = .regulating ∧
    (∃ s : State, s.tlm.busy[Fin.ofNat 4 s.tlm.sysConv] ≠ none) :=
  ⟨by decide, by decide, by decide, by decide, by decide,
    { s0 with tlm := { s0.tlm with busy := upd s0.tlm.busy (Fin.ofNat 4 s0.tlm.sysConv) (some 0) } }, by decide⟩
/-- `s0` with the domain changed. -/
def onDom (f : Dom → Dom) : State := { s0 with dom := f s0.dom }

/-- `s0` with slot 2 used, for rail 3, in a rise that waits in slot 2 in a phase. -/
def slotIn (st : DomSt) (ph : SlotPh) : State := onDom (fun d => { d with
  st := st, ph := ph, cur := some 2, leftZero := 0x4
  slots := upd d.slots 2 { d.slots[2] with used := true, rails := 8 }, slotsNow := upd d.slotsNow 2 { d.slotsNow[2] with used := true, rails := 8 } })

theorem witness_DomainCommandsTakeEffect :
    (Ready 0x0701 (req (15 :: zeros 27)) s0 ∧ (req (15 :: zeros 27)).params.length = 28 ∧ byteAt (15 :: zeros 27) 0 = 15 ∧
      s0.dom.st = .down) ∧
    (Ready 0x0701 (req (15 :: zeros 27)) (domIn .up) ∧ (domIn .up).dom.st ≠ .down ∧ (domIn .up).dom.st ≠ .latched) ∧
    (Ready 0x0702 (req []) s0 ∧ s0.dom.upSrc ≠ 1 ∧ s0.map.probe ≠ .running ∧ badSlotRail s0 = none ∧ s0.undervolt = false ∧ s0.seam.agree ≠ .gathering ∧
      s0.seam.agree ≠ .disagree ∧ s0.dom.role ≠ 2 ∧ s0.dom.role ≠ 3 ∧ ∀ j : Fin 16, s0.dom.slots[j].used = false) ∧
    Ready 0x0702 (req []) (domIn .latched) ∧ Ready 0x0703 (req []) (domIn .up) ∧ Ready 0x0703 (req []) s0 ∧
    (Ready 0x0704 (req []) (domIn .latched) ∧ (domIn .latched).dom.fnLow = false ∧ allCellsOff (domIn .latched) = true) ∧
    Ready 0x0704 (req []) (domIn .rising) ∧ (Ready 0x0707 (req (zeros 16)) s0 ∧ (req (zeros 16)).params.length = 16) :=
  ⟨⟨ready (by decide), by decide⟩, ⟨ready (by decide), by decide⟩, ⟨ready (by decide), by decide⟩, ready (by decide), ready (by decide),
    ready (by decide), ⟨ready (by decide), by decide⟩, ready (by decide), ready (by decide), by decide⟩

theorem witness_SlotsProgress :
    (∀ ph : SlotPh, (slotIn .rising ph).dom.cur = some 2 ∧ (slotIn .rising ph).dom.ph = ph) ∧
    (slotIn .rising .upDelay).proto.running = true ∧ (slotIn .rising .upDelay).map.applying = false ∧
    (∃ s : State, s.dom.cur = some 2 ∧ s.dom.ph = .upDelay ∧ s.proto.running = true ∧ s.map.applying = false ∧ s.undervolt = false ∧
      natBit s.dom.slotsNow[(2 : Fin 16)].rails 0 = true ∧ ∀ r : Fin 48, natBit s.dom.slotsNow[(2 : Fin 16)].rails r.val = true →
        s.rails[r].st = .off ∧ startRefused s r.val = none ∧ startLeader s r.val ≠ none) ∧
    (slotIn .rising .qualify).rails[(3 : Fin 48)].pgRaw = false ∧ natBit (slotIn .rising .qualify).dom.slotsNow[(2 : Fin 16)].rails 3 = true ∧
    (slotIn .rising .qualify).dom.st = .rising ∧ (slotIn .rising .qualify).dom.role ≠ 1 ∧
    (slotIn .falling .downWait).rails[(3 : Fin 48)].st.runs = false ∧ (slotIn .falling .downWait).dom.latchPend = false ∧
    (∃ s : State, s.dom.ph = .qualify ∧ s.dom.cur = some 2 ∧ s.proto.running = true ∧
      ∀ r : Fin 48, natBit s.dom.slotsNow[(2 : Fin 16)].rails r.val = true → s.rails[r].pgRaw = true) ∧
    (∃ s : State, s.dom.ph = .downWait ∧ s.dom.cur = some 2 ∧ s.proto.running = true ∧ s.rails[(3 : Fin 48)].st.runs = true ∧
      natBit s.dom.slotsNow[(2 : Fin 16)].rails 3 = true) :=
  ⟨fun _ => ⟨rfl, rfl⟩, by decide, by decide, ⟨{ mapped 1600 with dom := { s0.dom with
      st := .rising, ph := .upDelay, cur := some 2
      slotsNow := upd s0.dom.slotsNow 2 { s0.dom.slotsNow[2] with used := true, rails := 1 } } }, by decide⟩, by decide, by decide, by decide,
        by decide, by decide, by decide,
    ⟨onDom (fun d => { d with ph := .qualify, cur := some 2 }), by decide⟩,
    ⟨{ slotIn .falling .downWait with rails := upd s0.rails 3 { s0.rails[3] with st := .stopping } }, by decide⟩⟩

/-- `s0` whose enable pin 0 acts. -/
def pinState (st : DomSt) (high : BitVec 4) : State := onDom (fun d => { d with st := st, upSrc := 1, en := high })

theorem witness_DomainPinsAndFaultLine :
    (s0.dom.en.getLsbD 3 = false ∧ s0.dom.ph = .idle ∧ s0.dom.upSrc ≠ 1 ∧ s0.dom.enPin = 0) ∧
    ((pinState .down 0).dom.upSrc = 1 ∧ (pinState .down 0).dom.role ≠ 1 ∧ (pinState .down 0).dom.en.getLsbD 0 = false ∧
      (pinState .down 0).seam.agree = .alone ∧
      (pinState .down 0).off = false ∧ (pinState .down 0).pwr.st = .run ∧ (pinState .down 0).proto.running = true ∧
      (pinState .down 0).dom.cycle = false ∧ (pinState .down 0).undervolt = false ∧ (pinState .down 0).map.probe ≠ .running ∧
      (pinState .down 0).proto.cfg ≠ .applying ∧
      badSlotRail (pinState .down 0) = none ∧ (pinState .up 1).dom.en.getLsbD 0 = true) ∧
    ((slotIn .rising .waitSqui).dom.ph = .waitSqui ∧ (slotIn .rising .waitSqui).dom.slotsNow[(2 : Fin 16)].used = true ∧
      (slotIn .rising .waitSqui).dom.st = .rising) ∧
    (∃ s : State, s.dom.ph = .waitSqdi ∧ s.proto.running = true ∧ s.dom.leftZero.getLsbD 2 = true ∧ s.dom.slotsNow[(2 : Fin 16)].used = true ∧
      s.dom.ran.getLsbD 2 = true) ∧
    (∃ s : State, s.dom.role = 1 ∧ s.dom.st = .up ∧ s.off = false) ∧ (∃ s : State, s.dom.fnDrive = true ∧ allCellsOff s = true) ∧
    (s0.dom.fnDrive = false ∧ s0.dom.fnLow = false) ∧
    (∃ s : State, slotOf s 3 = none ∧ s.rails[(3 : Fin 48)].pgRaw = true ∧ s.rails[(3 : Fin 48)].supervised = false) :=
  ⟨by decide, by decide, by decide,
    ⟨{ slotIn .falling .waitSqdi with dom := { (slotIn .falling .waitSqdi).dom with ran := 4 } }, by decide⟩,
    ⟨onDom (fun d => { d with role := 1, st := .up }), by decide⟩, ⟨onDom (fun d => { d with fnDrive := true }), by decide⟩,
    by decide, ⟨railIn .regulating, by decide⟩⟩

/-- A pressing. -/
def pressing (n : Nat) : Pressing :=
  { seq := n, time := [], cause := 1, index := 0, dom := 0, flags := 0, addr := 0, slot := 255, land := 0, clk := 0, seqFlags := 0
    inputs := [], currents := [], rails := [], prots := [], hiTemp := 0x8000, hiCell := 0 }

/-- `s0` with an input of the supervisor that has been out of its window for all but one of JUDGE_N samples. -/
def overdue (k : Fin 64) : State :=
  { s0 with sup := { s0.sup with inputs := upd s0.sup.inputs k { s0.sup.inputs[k] with outCnt := s0.sup.judgeN } } }

theorem witness_SupervisorAndPressingLog :
    (inWindow s0 3 (min 4095 4095) = false ∧ inWindow s0 59 (min 4095 4095) = false ∧
      (overdue 59).sup.judgeN ≤ (overdue 59).sup.inputs[(59 : Fin 64)].outCnt + 1 ∧
      (overdue 3).sup.judgeN ≤ (overdue 3).sup.inputs[(3 : Fin 64)].outCnt + 1 ∧ (overdue 59).sup.inputs[(59 : Fin 64)].judged = false ∧
      (overdue 3).converts = true) ∧
    ({ s0 with pwr := { s0.pwr with st := .hibernate } } : State).converts = false ∧ s0.converts = true ∧
    (s0.sup.inputs[(59 : Fin 64)].judged = false ∧ s0.sup.inputs[(48 : Fin 64)].judged = false ∧
      s0.rails[(3 : Fin 48)].supervised = false ∧ s0.rails[(3 : Fin 48)].qualifying = false ∧ s0.dom.st ≠ .falling) ∧
    (List.replicate 64 0 : List Nat).length = 64 ∧ ((0 : Fin 60).val = s0.sup.xptr ∧ crossFails 0 0 (spanOf 0 4000).1 = true) ∧
      s0.sup.cfgNext = none ∧ s0.sup.bufs = [] ∧
    (∃ s : State, s.sup.bufs = [pressing 1] ∧ s.proto.running = true) ∧
    (Ready 0x0706 (req ([1, 63, 1, 0] ++ zeros 8)) s0 ∧ byteAt ([1, 63, 1, 0] ++ zeros 8) 1 < 64 ∧
      byteAt ([1, 63, 1, 0] ++ zeros 8) 1 + byteAt ([1, 63, 1, 0] ++ zeros 8) 2 = 64) ∧
    (Ready 0x0705 (req (zeros 8)) s0 ∧ natBit (byteAt (zeros 8) 4) 1 = false ∧ pressings s0 = []) :=
  ⟨by decide, by decide, by decide, by decide, by decide, by decide, by decide, by decide, ⟨{ s0 with sup := { s0.sup with bufs := [pressing 1] } },
    by decide, by decide⟩,
    ⟨ready (by decide), by decide⟩, ready (by decide), by decide⟩

theorem witness_DomainCommandsTakeEffect_more :
    (s0.dom.cycle = false ∧ lowStart.undervolt = true ∧ Ready 0x0702 (req []) lowStart ∧ badSlotRail lowStart = none) ∧
    (Ready 0x0702 (req []) dischargeState ∧ dischargeState.map.probe = .running) ∧
    (∃ s : State, Ready 0x0703 (req []) s ∧ s.dom.st = .up ∧ s.dom.upSrc ≠ 1 ∧ s.dom.role ≠ 1 ∧ s.dom.leftZero.getLsbD 2 = true ∧
      s.dom.slotsNow[(2 : Fin 16)].used = true ∧ s.dom.ran.getLsbD 2 = true) ∧
    (∃ s : State, Ready 0x0702 (req []) s ∧ s.dom.role = 2 ∧ s.dom.squi = false) ∧
    (∃ s : State, Ready 0x0703 (req []) s ∧ s.dom.st = .up ∧ s.dom.role = 1 ∧ s.dom.sqdi = false) :=
  ⟨⟨by decide, by decide, ready (by decide), by decide⟩, ⟨ready (by decide), by decide⟩,
    ⟨{ slotIn .up .idle with dom := { (slotIn .up .idle).dom with ran := 4 } }, ready (by decide), by decide⟩,
    ⟨onDom (fun d => { d with role := 2 }), ready (by decide), by decide⟩, onDom (fun d => { d with st := .up, role := 1 }), ready (by decide), by decide⟩

theorem witness_DomainPinsAndFaultLine_power :
    { s0 with pwr := { s0.pwr with lost := true } }.off = true ∧ (pinState .down 0).pwr.st ≠ .safeHold ∧
    (∃ s : State, s.dom.role = 1 ∧ s.dom.st = .up ∧ s.off = false ∧ s.proto.running = false) ∧
    (∃ s : State, s.dom.fnDrive = false ∧ s.dom.fnLow = true ∧ s.off = false) ∧
    (∃ s : State, s.dom.fnDrive = true ∧ allCellsOff s = false) ∧
    (inWindow s0 3 (min 4095 4095) = false ∧ s0.converts = true) ∧ (∃ s : State, s.converts = false) :=
  ⟨by decide, by decide, ⟨{ onDom (fun d => { d with role := 1, st := .up }) with proto := { s0.proto with running := false } }, by decide⟩,
    ⟨onDom (fun d => { d with fnLow := true }), by decide⟩,
    ⟨{ onDom (fun d => { d with fnDrive := true }) with cells := (cellIn .switching).cells }, by decide⟩, by decide,
    { s0 with pwr := { s0.pwr with st := .hibernate } }, by decide⟩
/-- `s0` with sequence 2 changed. -/
def onSeq (f : TSeq → TSeq) : State := { s0 with tlm := { s0.tlm with seqs := upd s0.tlm.seqs 2 (f s0.tlm.seqs[2]) } }

/-- TSEQ_SET of sequence 2: a command-triggered sequence of one entry. -/
def seqSet : List Byte := [2, 0, 0, 0, 1, 0, 0, 0] ++ zeros 44

/-- `s0` with a held result of channel 0x230. -/
def heldState : State := { s0 with tlm := { s0.tlm with held := [(0x230, 5, 6, 0, 1)] } }

/-- `s0` whose converters are all busy with sequence 3. -/
def busyState : State := { s0 with tlm := { s0.tlm with busy := Vector.replicate 4 (some 3) } }

theorem witness_TelemetryCommandsTakeEffect :
    (Ready 0x0801 (req seqSet) s0 ∧ byteAt seqSet 0 = 2 ∧ seqSet.length = 52 ∧ byteAt seqSet 6 = 0 ∧ s0.tlm.seqs[(2 : Fin 8)].running = false) ∧
    (Ready 0x0801 (req seqSet) (onSeq (fun x => { x with running := true })) ∧
      (onSeq (fun x => { x with running := true })).tlm.seqs[(2 : Fin 8)].running = true) ∧
    Ready 0x0801 (req (0x87 :: zeros 11)) s0 ∧ (Ready 0x0801 (req ([0xF0, 0, 0, 0, 3] ++ zeros 3)) s0 ∧
      byteAt ([0xF0, 0, 0, 0, 3] ++ zeros 3) 4 = 3) ∧
    (Ready 0x0802 (req [2]) (onSeq (fun x => { x with running := true })) ∧ Ready 0x0802 (req [2]) (onSeq (fun x => { x with kind := 1 })) ∧
      (onSeq (fun x => { x with kind := 1 })).tlm.seqs[(2 : Fin 8)].kindN ≠ 0) ∧
    (Ready 0x0802 (req [2]) (onSeq (fun x => { x with converting := true })) ∧
      (onSeq (fun x => { x with converting := true })).tlm.seqs[(2 : Fin 8)].kindN = 0 ∧
      (onSeq (fun x => { x with converting := true })).tlm.seqs[(2 : Fin 8)].running = false) ∧
    (Ready 0x0802 (req [2]) s0 ∧ s0.tlm.seqs[(2 : Fin 8)].kindN = 0 ∧ s0.tlm.seqs[(2 : Fin 8)].delayed = false ∧
      s0.tlm.seqs[(2 : Fin 8)].waiting = false ∧ s0.tlm.seqs[(2 : Fin 8)].converting = false) ∧ Ready 0x0803 (req [2]) s0 ∧
    (Ready 0x0804 (req [5, 1, 0, 0]) (cellIn .retired) ∧ retiredChannel (cellIn .retired) 0x105 = true) ∧
    (Ready 0x0804 (req [0x30, 2, 0, 1]) heldState ∧ retiredChannel heldState 0x230 = false ∧
      heldState.tlm.held.find? (fun x => decide (x.1 = 0x230)) = some (0x230, 5, 6, 0, 1)) ∧
    (Ready 0x0804 (req [0x2F, 2, 0, 0]) s0 ∧ retiredChannel s0 0x22F = false ∧ s0.tlm.held = []) ∧
    (Ready 0x0804 (req [0xCB, 0, 0, 0]) s0 ∧ retiredChannel s0 0xCB = false ∧ s0.tlm.busy[Fin.ofNat 4 s0.tlm.sysConv] = none) ∧
    (Ready 0x0804 (req [0xCB, 0, 0, 0]) busyState ∧ (busyState.tlm.busy[Fin.ofNat 4 busyState.tlm.sysConv]).isSome = true) ∧ Ready 0x0805 (req [1]) s0 ∧
    Ready 0x0806 (req ([3, 1, 7] ++ zeros 5)) s0 :=
  ⟨⟨ready (by decide), by decide⟩, ⟨ready (by decide), by decide⟩, ready (by decide), ⟨ready (by decide), by decide⟩,
    ⟨ready (by decide), ready (by decide), by decide⟩, ⟨ready (by decide), by decide⟩, ⟨ready (by decide), by decide⟩, ready (by decide),
    ⟨ready (by decide), by decide⟩, ⟨ready (by decide), by decide⟩, ⟨ready (by decide), by decide⟩, ⟨ready (by decide), by decide⟩,
      ⟨ready (by decide), by decide⟩, ready (by decide), ready (by decide)⟩

/-- `s0` with sequence 2 triggered by an event at the period start of rail 3, which switches. -/
def pwmEvent : State := { onSeq (fun x => { x with kind := 2, trig := 3, evt := 0 }) with
  cells := upd s0.cells 0 { s0.cells[0] with st := .switching }
  rails := upd s0.rails 3 { s0.rails[3] with st := .regulating, released := true, leader := 0 }
  map := { s0.map with active := upd s0.map.active 3 { s0.map.active[3] with valid := true, members := 1 } } }

/-- `s0` with sequence 2 in the first of two rows, of two conversions each, and asked to stop or not. -/
def twoRows (stop : Bool) : State :=
  onSeq (fun x => { x with converting := true, stopping := stop, conv := 1, count := 2, entries := [(5, 1), (6, 1)] })

theorem witness_TelemetryRuns :
    s0.tlm.seqs[(2 : Fin 8)].kindN ≠ 2 ∧
    (1 % s0.tlm.timers[(3 : Fin 8)].1 ≠ s0.tlm.timers[(3 : Fin 8)].2 ∧ 0 % s0.tlm.timers[(3 : Fin 8)].1 = s0.tlm.timers[(3 : Fin 8)].2) ∧
    (pwmEvent.tlm.seqs[(2 : Fin 8)].kindN = 2 ∧ pwmOccurs pwmEvent pwmEvent.tlm.seqs[(2 : Fin 8)] = true ∧
      pwmOccurs (onSeq (fun x => { x with kind := 2 })) (onSeq (fun x => { x with kind := 2 })).tlm.seqs[(2 : Fin 8)] = false) ∧
    (s0.tlm.seqs[(2 : Fin 8)].converting = false ∧ ∀ j : Fin 8, s0.tlm.seqs[j].due 9 = false ∧ s0.tlm.seqs[j].waiting = false) ∧
    (let s := onSeq (fun x => { x with delayed := true, conv := 1 })
     s.tlm.seqs[(2 : Fin 8)].due 9 = true ∧ (∀ j : Fin 8, j ≠ 2 → s.tlm.seqs[j].due 9 = false ∧ s.tlm.seqs[j].waiting = false) ∧
      convFree s [] s.tlm.seqs[(2 : Fin 8)].needs = true) ∧
    (let s := onSeq (fun x => { x with delayed := true, conv := 1, entries := [(5, 0)], count := 1 })
     let s := { s with tlm := { s.tlm with busy := upd s.tlm.busy 0 (some 3) } }
     s.tlm.seqs[(2 : Fin 8)].due 9 = true ∧ convFree s [] s.tlm.seqs[(2 : Fin 8)].needs = false) ∧
    (let s := onSeq (fun x => { x with waiting := true, conv := 1 })
     s.tlm.seqs[(2 : Fin 8)].waiting = true ∧ s.tlm.seqs[(2 : Fin 8)].delayed = false ∧ (∀ j : Fin 8, j ≠ 2 → s.tlm.seqs[j].due 9 = false ∧
       s.tlm.seqs[j].waiting = false)) ∧
    (let s := onSeq (fun x => { x with delayed := true, urgent := true, conv := 1 })
     s.tlm.seqs[(2 : Fin 8)].due 9 = true ∧ s.tlm.seqs[(2 : Fin 8)].urgent = true ∧
      (∀ j : Fin 8, j < 2 → s.tlm.seqs[j].urgent = false) ∧ convFree s [] s.tlm.seqs[(2 : Fin 8)].needs = true) ∧
    ((twoRows false).tlm.seqs[(2 : Fin 8)].converting = true ∧ (twoRows false).tlm.seqs[(2 : Fin 8)].stopping = false ∧
      (twoRows false).tlm.seqs[(2 : Fin 8)].step + 1 < (twoRows false).tlm.seqs[(2 : Fin 8)].rowSteps 0 ∧
      (twoRows false).tlm.seqs[(2 : Fin 8)].row + 1 < (twoRows false).tlm.seqs[(2 : Fin 8)].rows) ∧
    (∃ s : State, s.tlm.seqs[(2 : Fin 8)].converting = true ∧ s.tlm.seqs[(2 : Fin 8)].stopping = false ∧
      s.tlm.seqs[(2 : Fin 8)].rowSteps s.tlm.seqs[(2 : Fin 8)].row ≤ s.tlm.seqs[(2 : Fin 8)].step + 1 ∧
      s.tlm.seqs[(2 : Fin 8)].row + 1 < s.tlm.seqs[(2 : Fin 8)].rows) ∧
    ((twoRows true).tlm.seqs[(2 : Fin 8)].converting = true ∧ (twoRows true).tlm.seqs[(2 : Fin 8)].stopping = true ∧
      (twoRows true).tlm.seqs[(2 : Fin 8)].row + 1 < (twoRows true).tlm.seqs[(2 : Fin 8)].rows ∧
      ∀ j : Fin 8, (twoRows true).tlm.seqs[j].due 9 = false ∧ (twoRows true).tlm.seqs[j].waiting = false) ∧
    (let s := onSeq (fun x => { x with converting := true })
     let s := { s with tlm := { s.tlm with streams := upd s.tlm.streams 1 { s.tlm.streams[1] with enable := true, seq := 2, sdecim := 2 } } }
     s.tlm.seqs[(2 : Fin 8)].converting = true ∧ (∀ j : Fin 8, s.tlm.seqs[j].due 9 = false ∧ s.tlm.seqs[j].waiting = false) ∧
      s.tlm.seqs[(2 : Fin 8)].rowSteps s.tlm.seqs[(2 : Fin 8)].row ≤ s.tlm.seqs[(2 : Fin 8)].step + 1 ∧
      s.tlm.seqs[(2 : Fin 8)].rows ≤ s.tlm.seqs[(2 : Fin 8)].row + 1 ∧ s.tlm.streams[(1 : Fin 4)].enable = true ∧
      s.tlm.streams[(1 : Fin 4)].seq = 2 ∧ s.tlm.streams[(1 : Fin 4)].cnt + 1 < 2) :=
  ⟨by decide, by decide, by decide, by decide, by decide, by decide, by decide, by decide, by decide,
    ⟨onSeq (fun x => { x with converting := true, conv := 1, count := 2, entries := [(5, 0), (6, 0)] }), by decide⟩, by decide, by decide⟩

theorem witness_TemperaturesAndThrottling :
    (Ready 0x0901 (req [5, 0]) (cellIn .retired) ∧ (cellIn .retired).cells[(5 : Fin 256)].st = .retired) ∧
    (Ready 0x0901 (req [0x10, 1]) s0 ∧ fieldAt [0x10, 1] 0 2 = 0x110 ∧ (s0.therm.queue.filter (fun x => !x.served)).length < 32) ∧
    (∃ s : State, Ready 0x0901 (req [0x10, 1]) s ∧ (∀ x ∈ s.therm.queue, x.code ≠ 0x110) ∧ (s.therm.queue.filter (fun x => !x.served)).length = 32) ∧
    Ready 0x0902 (req (zeros 12)) s0 ∧ Ready 0x0903 (req (zeros 16)) s0 ∧ s0.proto.running = true ∧ s0.proto.exec = none ∧
    (∃ s : State, (∃ x ∈ s.therm.queue, x.code = 5 ∧ x.served = true) ∧ s.proto.exec = some (waiter, .temp 5) ∧
      s.cells[(5 : Fin 256)].st ≠ .retired) ∧
    (∃ s : State, s.therm.limNext = none ∧ s.therm.polNext = none ∧ s.therm.thrMode = 1 ∧ s.map.active[(3 : Fin 48)].valid = true ∧
      s.therm.stepDwell * 32768 ≤ (s.hem.ticks - s.rails[(3 : Fin 48)].prot.thrAt) * 1000 ∧ (predicted10 s 3).isSome = true) ∧
    (∃ s : State, s.proto.running = true ∧ s.therm.thrMode = 2 ∧ natBit s.therm.exempt 3 = false) :=
  ⟨⟨ready (by decide), by decide⟩, ⟨ready (by decide), by decide⟩,
    ⟨{ s0 with therm := { s0.therm with queue := List.replicate 32 { code := 7, sched := true } } }, ready (by decide), by decide, by decide⟩,
    ready (by decide), ready (by decide), by decide, by decide,
    ⟨{ s0 with therm := { s0.therm with queue := [{ code := 5, host := true, served := true }] }
               proto := { s0.proto with exec := some (waiter, .temp 5) } }, by decide⟩,
    ⟨{ s0 with map := { s0.map with active := upd s0.map.active 3 { s0.map.active[3] with valid := true, members := 1 } }
               cells := upd s0.cells 0 { s0.cells[0] with temp := 0x640 }
               therm := { s0.therm with
                 die := Vector.replicate 16 0x640, cellAt := upd s0.therm.cellAt 0 (some 40000), dieAt := Vector.replicate 16 (some 40000) }
               hem := { s0.hem with ticks := 40000 } }, by decide⟩,
    ⟨{ s0 with therm := { s0.therm with thrMode := 2 } }, by decide⟩⟩

/-- `s0` with the lands changed. -/
def onLand (f : Land → Land) : State := { s0 with land := f s0.land }

/-- `s0` shut down by the hardware. -/
def shutDown : State := { s0 with therm := { s0.therm with tsdNow := true } }

theorem witness_SupplyLossAndReturn :
    (s0.land.vinLow = false ∧ s0.therm.tsdNow = false ∧ s0.chg.auxOk = false ∧ s0.chg.seamChg = false ∧ s0.land.vinHigh = false ∧
      s0.land.vinOver = false ∧ s0.land.vinWait = false ∧
      s0.therm.dieBad.getLsbD 15 = false ∧ allRailsOff s0 = true ∧ s0.dom.restartDue = false) ∧
    ((onLand (fun l => { l with vinLow := true })).land.vinLow = true ∧ (onLand (fun l => { l with vinHigh := true })).land.vinHigh = true ∧
      (onLand (fun l => { l with vinWait := true })).land.vinWait = true ∧ (onLand (fun l => { l with vinOver := true })).land.vinOver = true ∧
      allRailsOff (railIn .regulating) = false) ∧ shutDown.therm.tsdNow = true ∧
    (∃ s : State, s.dom.restartDue = true ∧ s.proto.running = true ∧ s.land.vinLow = false ∧ s.therm.tsdNow = false ∧ s.land.vinWait = false ∧
      s.dom.cycle = false ∧
      s.map.probe ≠ .running ∧ s.proto.cfg ≠ .applying ∧ s.dom.vinRestart = true ∧ s.dom.upSrc ≠ 1 ∧ s.dom.st = .down ∧
      s.pwr.st ≠ .safeHold ∧ s.seam.agree = .alone ∧ badSlotRail s = none ∧ s.dom.role ≠ 2 ∧ s.dom.role ≠ 3 ∧
      ∀ j : Fin 16, s.dom.slots[j].used = false) ∧
    (∃ s : State, s.dom.restartDue = true ∧ s.dom.vinRestart = false ∧ s.proto.running = true) :=
  ⟨by decide, by decide, by decide, ⟨onDom (fun d => { d with restartDue := true }), by decide⟩,
    ⟨onDom (fun d => { d with restartDue := true, vinRestart := false }), by decide⟩⟩

/-- Sequence 2 ends its one conversion while a run of sequence 3, urgent, falls due on the same converter. -/
def handOver : State :=
  let s := onSeq (fun x => { x with converting := true, conv := 1, count := 1, entries := [(5, 0)] })
  { s with tlm := { s.tlm with
      seqs := upd s.tlm.seqs 3 { s.tlm.seqs[3] with delayed := true, urgent := true, conv := 1 }, busy := upd s.tlm.busy 0 (some 2) } }

theorem witness_TelemetryRuns_handover :
    handOver.tlm.seqs[(2 : Fin 8)].converting = true ∧
    handOver.tlm.seqs[(2 : Fin 8)].rowSteps handOver.tlm.seqs[(2 : Fin 8)].row ≤ handOver.tlm.seqs[(2 : Fin 8)].step + 1 ∧
    handOver.tlm.seqs[(2 : Fin 8)].rows ≤ handOver.tlm.seqs[(2 : Fin 8)].row + 1 ∧ handOver.tlm.seqs[(3 : Fin 8)].due 9 = true ∧
    handOver.tlm.seqs[(3 : Fin 8)].urgent = true ∧
    (∀ j : Fin 8, j < 3 → handOver.tlm.seqs[j].due 9 = false ∨ handOver.tlm.seqs[j].urgent = false) ∧
    ∀ k : Fin 4, handOver.tlm.seqs[(3 : Fin 8)].needs.contains k.val = true →
      handOver.tlm.seqs[(2 : Fin 8)].needs.contains k.val = true ∧ handOver.tlm.busy[k] = some 2 := by decide

theorem witness_TemperaturesAndThrottling_still :
    { s0 with proto := { s0.proto with running := false } }.proto.running = false ∧
    (∃ s : State, (∃ x ∈ s.therm.queue, x.code = 5 ∧ x.served = true) ∧ s.proto.exec = none ∧ s.cells[(5 : Fin 256)].st ≠ .retired) ∧
    (∃ s : State, s.therm.limNext = some (zeros 12) ∧ s.therm.polNext = some (zeros 16)) ∧
    (s0.therm.limNext = none ∧ s0.therm.polNext = none ∧ { s0 with therm := { s0.therm with stopLead := 0 } }.therm.stopLead = 0) :=
  ⟨by decide, ⟨{ s0 with therm := { s0.therm with queue := [{ code := 5, host := true, served := true }] } }, by decide⟩,
    ⟨{ s0 with therm := { s0.therm with limNext := some (zeros 12), polNext := some (zeros 16) } }, by decide⟩, by decide⟩

theorem witness_SupplyLossAndReturn_pin :
    (∃ s : State, s.dom.restartDue = true ∧ s.proto.running = true ∧ s.land.vinLow = false ∧ s.land.vinWait = false ∧
      s.dom.vinRestart = true ∧ s.dom.upSrc = 1 ∧ s.dom.en.getLsbD s.dom.enPin.val = false) ∧
    (∃ s : State, s.dom.restartDue = true ∧ s.dom.upSrc = 1 ∧ s.dom.en.getLsbD s.dom.enPin.val = true ∧
      s.dom.slots[(2 : Fin 16)].used = true ∧ s.dom.st = .down) ∧
    (∃ s : State, s.dom.restartDue = true ∧ s.proto.cfg = .applying) ∧
    (allRailsOff (mapped 1600) = true ∧ ((mapped 1600).memberSet 0).getLsbD 0 = true ∧ (mapped 1600).cells[(0 : Fin 256)].st = .off) :=
  ⟨⟨onDom (fun d => { d with restartDue := true, upSrc := 1 }), by decide⟩,
    ⟨{ slotIn .down .idle with dom := { (slotIn .down .idle).dom with restartDue := true, upSrc := 1, en := 1 } }, by decide⟩,
    ⟨{ applyingState with dom := { s0.dom with restartDue := true } }, by decide⟩, by decide⟩
/-- `s0` with HOLD and the charger changed. -/
def onChg (f : Chg → Chg) : State := { s0 with chg := f s0.chg }

/-- CHARGER_CONFIG of six cells with the thresholds of the reset. -/
def chargerBytes : List Byte := [6, 7, 0xE8, 3] ++ zeros 12 ++ [0, 0, 0x80, 2, 0x40, 0xB, 0, 0xF] ++ zeros 8

theorem witness_ChargerAndHoldCommands :
    (Ready 0x0A01 (req chargerBytes) s0 ∧ chargerBytes.length = 32 ∧ s16At chargerBytes 16 < s16At chargerBytes 18 ∧
      s16At chargerBytes 18 < s16At chargerBytes 20 ∧ s16At chargerBytes 20 < s16At chargerBytes 22 ∧ s0.chg.ph = .idle) ∧
    (Ready 0x0A01 (req (zeros 32)) s0 ∧ ¬ s16At (zeros 32) 16 < s16At (zeros 32) 18) ∧
    Ready 0x0A01 (req chargerBytes) (onChg (fun c => { c with ph := .fast })) ∧ Ready 0x0A02 (req []) s0 ∧
    (Ready 0x0A02 (req []) (onChg (fun c => { c with nCells := 6, cap := 1000 })) ∧
      (onChg (fun c => { c with nCells := 6, cap := 1000 })).chg.source = .none ∧
      chargerStill (onChg (fun c => { c with nCells := 6, cap := 1000 })) = false) ∧
    Ready 0x0A02 (req []) (onChg (fun c => { c with nCells := 6, cap := 1000, source := .vin })) ∧ Ready 0x0A03 (req []) s0 ∧
    (Ready 0x0A06 (req (zeros 8)) s0 ∧ natBit (byteAt (zeros 8) 4) 0 = false) ∧
    (Ready 0x0A06 (req ([8, 7, 100, 0, 1] ++ zeros 3)) s0 ∧ fieldAt ([8, 7, 100, 0, 1] ++ zeros 3) 0 2 = 1800 ∧ vinUsable s0 = true ∧
      s0.chg.hold = .off) ∧
    (Ready 0x0A05 (req (zeros 4)) s0 ∧ refusersOf s0 3 = []) ∧
    (∃ s : State, Ready 0x0A05 (req (zeros 4)) s ∧ refusersOf s 3 ≠ []) :=
  ⟨⟨ready (by decide), by decide⟩, ⟨ready (by decide), by decide⟩, ready (by decide), ready (by decide), ⟨ready (by decide), by decide⟩,
    ready (by decide), ready (by decide), ⟨ready (by decide), by decide⟩, ⟨ready (by decide), by decide⟩,
    ⟨ready (by decide), by decide⟩, ⟨railIn .regulating, ready (by decide), by decide⟩⟩

/-- A charger that fast-charges six cells from VIN. -/
def fastCharge : State := onChg (fun c => { c with ph := .fast, nCells := 6, cap := 1000, source := .vin, vinOk := true })

theorem witness_ChargerAndHoldHappenings :
    (s0.chg.hold = .off ∧ vinUsable s0 = true ∧ s0.chg.nCells = 0 ∧ s0.land.bthOpen = false ∧ s0.chg.vinOk = false ∧ s0.chg.ph = .idle) ∧
    (s0.undervolt = false ∧ (onLand (fun l => { l with vinLow := true })).undervolt = true) ∧ (auxCode 2000 = 1 ∧ auxCode 9000 = 7) ∧
    (∃ s : State, s.chg.vinOk = false ∧ s.chg.auxOk = false ∧ s.chg.seamChg = true) ∧
    (∃ s : State, s.chg.hold = .onVin) ∧ (∃ s : State, s.chg.hold = .onPack ∧ s.undervolt = false) ∧ (∃ s : State, s.chg.hold = .retry) ∧
    (∃ s : State, s.chg.vinOk = false ∧ s.chg.auxServes = true) ∧ (∃ s : State, s.chg.auxPresent = true ∧ s.chg.auxId ≠ 6) ∧
    (fastCharge.chg.phaseOf ≠ .idle ∧ fastCharge.chg.phaseOf ≠ .fault ∧ fastCharge.chg.paused = false) ∧
    (let c := (((fastCharge.chg.readPack 8400).second 1000 false).readings 8400).windows
     c.ovSecs < 2 ∧ c.endDv = false ∧ c.endDt = false) ∧
    (∃ s : State, s.chg.ph = .fast ∧ 2 ≤ ((((s.chg.readPack 21000).second 1000 false).readings 21000).windows).ovSecs) ∧
    (∃ s : State, s.chg.ph = .qualify ∧ s.chg.nCells = 6 ∧ s.land.bthShort = false ∧
      suspCause { s with chg := (s.chg.readPack 6000).windows } true = 0) ∧
    (∃ s : State, s.chg.ph = .precharge ∧ s.chg.nominal ≤ s.chg.timer) ∧ (∃ s : State, s.chg.ph = .topoff ∧ s.chg.nominal ≤ s.chg.timer) ∧
    (∃ s : State, s.chg.ph = .maintain ∧ s.chg.paused = false ∧ 7799 < s.chg.rechgMv * s.chg.nCells) :=
  ⟨by decide, by decide, by decide, ⟨onChg (fun c => { c with seamChg := true }), by decide⟩,
    ⟨onChg (fun c => { c with hold := .onVin }), by decide⟩, ⟨onChg (fun c => { c with hold := .onPack }), by decide⟩,
    ⟨onChg (fun c => { c with hold := .retry }), by decide⟩,
    ⟨onChg (fun c => { c with auxPresent := true, auxIn := true, auxOk := true, auxId := 3 }), by decide⟩,
    ⟨onChg (fun c => { c with auxPresent := true }), by decide⟩, by decide, by decide,
    ⟨onChg (fun c => { c with ph := .fast, nCells := 6, cap := 1000, source := .vin, ovSecs := 1 }), by decide⟩,
    ⟨onChg (fun c => { c with ph := .qualify, nCells := 6, cap := 1000, source := .vin, bth := 0x640, bthAt := some 0 }), by decide⟩,
    ⟨onChg (fun c => { c with ph := .precharge, timer := 100000000 }), by decide⟩,
    ⟨onChg (fun c => { c with ph := .topoff, timer := 100000000 }), by decide⟩,
    ⟨onChg (fun c => { c with ph := .maintain, nCells := 6 }), by decide⟩⟩

/-- `s0` with Hem changed. -/
def onHem (f : Hem → Hem) : State := { s0 with hem := f s0.hem }

theorem witness_TimeIsKeptAndSet :
    (Ready 0x0B01 (req (zeros 9)) s0 ∧ s0.hem.heldSet = none ∧ s0.hem.calendar = false ∧ fieldAt (zeros 9) 0 8 = 0) ∧
    (Ready 0x0B01 (req (zeros 9)) (onHem (fun h => { h with heldSet := some 5 }))) ∧
    (Ready 0x0B01 (req (zeros 9)) (onHem (fun h => { h with calendar := true })) ∧ calendarCount (zeros 8) = none) ∧
    Ready 0x0B03 (req [1]) s0 ∧ Ready 0x0B04 (req (1 :: zeros 19)) s0 ∧ Ready 0x0B05 (req [0x00, 0x60, 0x54, 0]) s0 ∧
    fieldAt [0x00, 0x60, 0x54, 0] 0 4 = 5529600 ∧
    (Ready 0x0B06 (req [63, 1, 9]) s0 ∧ byteAt [63, 1, 9] 0 + byteAt [63, 1, 9] 1 = 64) ∧ Ready 0x0B08 (req (zeros 12)) s0 ∧
    s0.hem.disc = .off ∧ (∃ s : State, s.hem.heldSet = some 65537) ∧
    (∃ s : State, s.hem.heldSet = none ∧ s.hem.disc = .acquire ∧ s.hem.edges + 1 < s.hem.ppsQual) ∧
    (∃ s : State, s.hem.heldSet = none ∧ s.hem.disc = .tracking ∧ s.hem.ppsStep * 65536 ≤ s.hem.phase.natAbs * 1000000) ∧
    (∃ s : State, s.hem.calendar = false ∧ s.hem.alarms[(1 : Fin 2)].enable = true ∧ s.hem.alarms[(1 : Fin 2)].skipped = false ∧
      s.hem.alarms[(1 : Fin 2)].firedAt = none ∧ leNat s.hem.alarms[(1 : Fin 2)].time ≤ s.hem.count) ∧
    (∃ s : State, s.hem.calendar = true ∧ calSpan * 65536 ≤ s.hem.count ∧ hundredth (s.hem.count % (calSpan * 65536)) = 0) ∧
    (s0.hem.calendar = false ∧ s0.onAux = false ∧ ∃ s : State, s.onAux = true) ∧
    s0.hem.periodic = 0 ∧ (onHem (fun h => { h with periodic := 64 })).hem.periodic ≠ 0 :=
  ⟨⟨ready (by decide), by decide⟩, ready (by decide), ⟨ready (by decide), by decide⟩, ready (by decide), ready (by decide),
    ready (by decide), by decide, ⟨ready (by decide), by decide⟩, ready (by decide), by decide,
    ⟨onHem (fun h => { h with heldSet := some 65537 }), by decide⟩, ⟨onHem (fun h => { h with disc := .acquire }), by decide⟩,
    ⟨onHem (fun h => { h with disc := .tracking, count := 32768 }), by decide⟩,
    ⟨onHem (fun h => { h with alarms := upd h.alarms 1 { h.alarms[1] with enable := true } }), by decide⟩,
    ⟨onHem (fun h => { h with calendar := true, count := calSpan * 65536 }), by decide⟩,
    ⟨by decide, by decide, onChg (fun c => { c with source := .auxin }), by decide⟩, by decide⟩

/-- `s0` whose watchdog is in a state of a configuration. -/
def wdogIn (st : WdogSt) : State := onHem (fun h => { h with wdSt := st, wdStart := 1000, wd := { h.wd with enable := true, mask := 2 } })

theorem witness_WatchdogServicesAndPulses :
    (Ready 0x0C01 (req (zeros 12)) s0 ∧ s0.hem.wd.enable = false ∧ s0.hem.wdSt = .disabled) ∧
    (let s := onHem (fun h => { h with wd := { h.wd with enable := true, lock := true } })
     Ready 0x0C01 (req (zeros 12)) s ∧ Ready 0x0C02 (req [1, 0]) s ∧ s.hem.wd.enable = true ∧ s.hem.wd.lock = true) ∧
    Ready 0x0C01 (req (zeros 12)) (wdogIn .pulse) ∧ Ready 0x0C01 (req (zeros 12)) (wdogIn .closed) ∧ Ready 0x0C02 (req [1, 0]) s0 ∧
    (Ready 0x0C03 (req [1]) (wdogIn .closed) ∧ (wdogIn .closed).hem.wd.mask.getLsbD 1 = true ∧
      (wdogIn .closed).hem.wd.mask.getLsbD 15 = false) ∧ Ready 0x0C03 (req [15]) (wdogIn .pulse) ∧
    (let s := onHem (fun h => { h with wdSt := .opened, wdStart := 1000, wd := { h.wd with enable := true } })
     s.hem.wdi = false ∧ s.hem.rollOk 17384 = true ∧ s.hem.wdStart + s.hem.wd.c = 17384 ∧ s.hem.wdStart + s.hem.wd.t = 33768) ∧
    (wdogIn .closed).hem.rollOk 17384 = false ∧
    ((onHem (fun h => { h with wdSt := .first })).hem.rollOk 262143 = true ∧
      262143 < (onHem (fun h => { h with wdSt := .first })).hem.wdStart + 8 * (onHem (fun h => { h with wdSt := .first })).hem.wd.t) ∧
    (let s := onHem (fun h => { h with wdSt := .pulse, wdPulseAt := 30001, ticks := 33278 })
     s.hem.wdSt = .pulse ∧ s.hem.wdPulseAt + (s.hem.wd.wdoMs * 32768 + 999) / 1000 = s.hem.ticks) :=
  ⟨⟨ready (by decide), by decide⟩, ⟨ready (by decide), ready (by decide), by decide⟩, ready (by decide), ready (by decide), ready (by decide),
    ⟨ready (by decide), by decide⟩, ready (by decide), by decide⟩

/-- `s0` with HOLD LOST while a pack of six cells that the charger has not read is allowed to feed it. -/
def lostOnPack : State := { onLand (fun l => { l with vinLow := true }) with
  chg := { s0.chg with hold := .lost, packOk := true, psw := true, nCells := 6, packGood := false } }

theorem witness_ChargerAndHoldHappenings_idle :
    (chargerStill lostOnPack = false ∧ lostOnPack.chg.phaseOf = .idle ∧ packUsable lostOnPack = false ∧
      (lostOnPack.chg.vcutMv + 100) * lostOnPack.chg.nCells < 8000 ∧ lostOnPack.land.bthOpen = false ∧
      lostOnPack.chg.exhausted = false ∧ vinUsable lostOnPack = false ∧ lostOnPack.chg.hold = .lost) ∧
    packUsable { lostOnPack with chg := { lostOnPack.chg with packGood := true } } = true ∧
    (∃ s : State, chargerStill s = true ∧ s.off = false ∧ s.chg.ph = .maintain) ∧
    (∃ s : State, s.pwr.st ≠ .ship ∧ s.chg.nCells ≠ 0 ∧ s.chg.auto = true ∧ s.chg.cap ≠ 0 ∧ s.chg.source ≠ .none ∧ chargerStill s = false) ∧
    { s0 with pwr := { s0.pwr with st := .ship } }.off = true :=
  ⟨by decide, by decide, ⟨{ onChg (fun c => { c with ph := .maintain }) with pwr := { s0.pwr with st := .hibernate } }, by decide⟩,
    ⟨onChg (fun c => { c with nCells := 6, cap := 1000, auto := true, source := .vin }), by decide⟩, by decide⟩

theorem witness_TimeIsKeptAndSet_power :
    (∃ s : State, s.hem.periodic ≠ 0 ∧ s.off = false ∧ s.pwr.st = .hibernate ∧ s.pwr.wake = none) ∧
    (∃ s : State, s.hem.periodic ≠ 0 ∧ s.off = true) :=
  ⟨⟨{ onHem (fun h => { h with periodic := 64 }) with pwr := { s0.pwr with st := .hibernate, wake := none } }, by decide⟩,
    { onHem (fun h => { h with periodic := 64 }) with pwr := { s0.pwr with lost := true } }, by decide⟩
/-- `s0` with the host port changed. -/
def onHp (f : Hp → Hp) : State := { s0 with hp := f s0.hp }

/-- HELLO, eight bytes with their CRC, in the command window. -/
def inWindow : State :=
  onHp (fun h => { h with
    win := [(0, 2), (1, 7), (2, 1), (6, byte (crc16 [2, 7, 1, 0, 0, 0])), (7, byte (crc16 [2, 7, 1, 0, 0, 0] / 256))] })

/-- A reply of HELLO, without a result. -/
def reply0 : Reply := { ver := 2, tag := 7, status := 0, rflags := 0, result := [] }

/-- The port has seen a STOP. -/
def hears : State := onHp (fun h => { h with await := false })

theorem witness_HostPortBytesAreWritten :
    (hears.hp.engine = true ∧ hears.off = false ∧ hears.hp.await = false ∧ hears.hp.deaf = false ∧ hears.hp.txn = false ∧
      hears.hp.st = .idle) ∧
    ((onHp (fun h => { h with engine := false })).hp.engine = false ∧ (onHp (fun h => { h with await := true })).hp.await = true) ∧
    (∃ s : State, s.hp.engine = true ∧ s.off = false ∧ s.hp.await = false ∧ s.hp.deaf = false ∧ s.hp.st = .busy) ∧
    ((0x8000 : BitVec 16).toNat % 1024 = 0 ∧ natBit (0x8000 : BitVec 16).toNat 15 = true ∧ (512 : BitVec 16).toNat % 1024 ≤ 512 ∧
      512 < (513 : BitVec 16).toNat % 1024) ∧
    (∃ s : State, s.hp.st ≠ .busy ∧ s.off = false ∧ s.proto.running = false) ∧
    (inWindow.hp.st ≠ .busy ∧ inWindow.proto.running = true ∧ inWindow.proto.waiting = [] ∧ inWindow.proto.exec = none ∧
      (Mem.reads inWindow.hp.win 0 8).length = 8) ∧
    (receiveCheck [2, 7, 1, 0, 0, 0, byte (crc16 [2, 7, 1, 0, 0, 0]), byte (crc16 [2, 7, 1, 0, 0, 0] / 256)] = none ∧
      (receiveCheck [2]).isSome = true) ∧
    (∃ s : State, s.proto.waiting.length = 8 ∧ s.hp.st ≠ .busy) ∧
    (∃ s : State, s.hp.st = .replyReady ∧ s.seam.addrNext = some (5, 3) ∧ s.hp.untaken = [3] ∧ (∀ x ∈ s.proto.outbox, x.1 ≠ 3) ∧
      s.seam.a.replyOut 3 = false ∧ s.seam.b.replyOut 3 = false ∧ ∀ x ∈ s.seam.bcastDue, x.2.2 ≠ 3) ∧
    (∃ s : State, s.hp.txn = true ∧ s.hp.ptr = 0x81FF ∧ s.hp.win.wf = true ∧ s.hp.st = .idle) ∧
    (∃ s : State, s.hp.txn = true ∧ s.hp.ptr = 0x8000 ∧ s.hp.st = .busy) ∧
    (∀ p ∈ [0x34 + 3, 0x5A, 0x40C + 16 * 255 + 1, 0x52, 0x56, 0x57, 0x58, 0x33], (onHp (fun h => { h with txn := true, ptr := p })).hp.ptr = p) ∧
    (∃ s : State, s.hp.txn = true ∧ s.hp.ptr = 0x53 ∧ s.hp.st ≠ .busy ∧ s.hp.doorLo = 0) ∧
    (∃ s : State, s.hp.ptr = 0x53 ∧ s.hp.st ≠ .busy ∧ 512 < (s.hp.doorLo.toNat + 256 * (2 : Byte).toNat) % 1024) :=
  ⟨by decide, by decide, ⟨onHp (fun h => { h with st := .busy, await := false }), by decide⟩, by decide,
    ⟨{ s0 with proto := { s0.proto with running := false } }, by decide⟩,
    by decide, by decide, ⟨{ s0 with proto := { s0.proto with waiting := List.replicate 8 waiter } }, by decide⟩,
    ⟨{ onHp (fun h => { h with st := .replyReady, untaken := [3] }) with seam := { s0.seam with addrNext := some (5, 3) } }, by decide⟩,
    ⟨onHp (fun h => { h with txn := true, ptr := 0x81FF }), by decide⟩,
    ⟨onHp (fun h => { h with txn := true, ptr := 0x8000, st := .busy }), by decide⟩, fun _ _ => rfl,
    ⟨onHp (fun h => { h with txn := true, ptr := 0x53 }), by decide⟩, ⟨onHp (fun h => { h with ptr := 0x53, doorLo := 1 }), by decide⟩⟩

theorem witness_HostPortRepliesTimeoutsAndWakes :
    (hears.proto.outbox = [] ∧ hears.hp.untaken = [] ∧ hears.hp.engine = true ∧ hears.off = false ∧ hears.hp.await = false ∧
      hears.hp.held = false ∧ hears.hp.deaf = false ∧ hears.hp.nacked = false) ∧
    (∃ s : State, s.proto.outbox = [(3, reply0)] ∧ s.hp.st = .busy) ∧
    (∃ s : State, s.hp.untaken = 3 :: [] ∧ s.seam.addrNext = some (5, 3) ∧ (∀ x ∈ s.proto.outbox, x.1 ≠ 3) ∧
      s.seam.a.replyOut 3 = false ∧ s.seam.b.replyOut 3 = false ∧ ∀ x ∈ s.seam.bcastDue, x.2.2 ≠ 3) ∧
    (∃ s : State, s.hp.engine = true ∧ s.off = false ∧ s.hp.await = true) ∧
    (∃ s : State, s.hp.engine = false ∧ s.off = false ∧ s.pwr.st = .hibernate ∧ s.pwr.wake = none) ∧
    (∃ s : State, s.hp.engine = false ∧ s.off = false ∧ s.pwr.st ≠ .hibernate ∧ s.hp.held = true) ∧
    (∃ s : State, s.hp.engine = false ∧ s.off = false ∧ s.pwr.st ≠ .hibernate ∧ s.hp.held = false ∧ s.hp.deaf = true) :=
  ⟨by decide, ⟨{ onHp (fun h => { h with st := .busy }) with proto := { s0.proto with outbox := [(3, reply0)] } }, by decide⟩,
    ⟨{ onHp (fun h => { h with untaken := [3] }) with seam := { s0.seam with addrNext := some (5, 3) } }, by decide⟩,
    ⟨onHp (fun h => { h with await := true }), by decide⟩,
    ⟨{ onHp (fun h => { h with engine := false }) with pwr := { s0.pwr with st := .hibernate } }, by decide⟩,
    ⟨onHp (fun h => { h with engine := false, held := true }), by decide⟩, ⟨onHp (fun h => { h with engine := false, deaf := true }), by decide⟩⟩

/-- `s0` with the link changed. -/
def onSeam (f : Seam → Seam) : State := { s0 with seam := f s0.seam }

/-- `s0` with port A in a link state. -/
def portIn (l : LinkSt) : State := onSeam (fun x => { x with a := { x.a with link := l } })

theorem witness_SeamPortsTrainAndFail :
    (s0.off = false ∧ (s0.seam.port .a).powered = true ∧ (s0.seam.port .a).link = .down ∧ (s0.seam.port .a).verWait = false ∧
      vinUsable s0 = true ∧ (s0.seam.port .a).phOver = false ∧ (s0.seam.port .b).heldWake = [] ∧ (s0.seam.port .a).sending = none) ∧
    (∀ l : LinkSt, ((portIn l).seam.port .a).link = l) ∧
    (∃ (s : State) (w : BitVec 16) (rt : Nat), (s.seam.port .a).link = .training ∧
      ((s.seam.port .a).takeWord w rt).steady = true ∧ commonVersion w = none) ∧
    (∃ (s : State) (w : BitVec 16) (rt : Nat), (s.seam.port .a).link = .training ∧
      ((s.seam.port .a).takeWord w rt).steady = true ∧ commonVersion w = some 2 ∧ w.getLsbD 8 = true ∧
      ((s.seam.port .a).takeWord w rt).dlyOk = true) ∧
    (∃ (s : State) (w : BitVec 16) (rt : Nat), (s.seam.port .a).link = .training ∧
      ((s.seam.port .a).takeWord w rt).steady = true ∧ commonVersion w = some 1 ∧ w.getLsbD 8 = false) ∧
    (((portIn .training).seam.port .a).takeWord 0x0021 0).steady = false ∧
    (∃ s : State, (s.seam.port .b).heldWake.tail ≠ [] ∧ s.pwr.st ≠ .hibernate) ∧
    (∃ s : State, (s.seam.port .b).powered = false ∧ s.off = false ∧ s.pwr.st = .hibernate ∧ s.pwr.wake = none) ∧
    (∃ s : State, (s.seam.port .b).sending ≠ none ∧ s.seam.addrNext = none) :=
  ⟨by decide, fun l => by cases l <;> decide,
    ⟨onSeam (fun x => { x with a := { x.a with link := .training, lastWord := some (0x0033, 2) } }), 0x0033, 0, by decide⟩,
    ⟨onSeam (fun x => { x with a := { x.a with link := .training, lastWord := some (0x0112, 2), dlyOk := true } }), 0x0112, 0, by decide⟩,
    ⟨onSeam (fun x => { x with a := { x.a with link := .training, lastWord := some (0x0011, 2) } }), 0x0011, 0, by decide⟩, by decide,
    ⟨onSeam (fun x => { x with b := { x.b with heldWake := [frame, frame] } }), by decide⟩,
    ⟨{ onSeam (fun x => { x with b := { x.b with powered := false } }) with pwr := { s0.pwr with st := .hibernate } }, by decide⟩,
    ⟨onSeam (fun x => { x with b := { x.b with sending := some { cls := 2, frame := frame, reply := none, stream := none } } }),
      by decide⟩⟩

/-- `s0` with address 2 and port A UP. -/
def linked : State := onSeam (fun x => { x with addr := some 2, a := { x.a with link := .up, ver := 2 } })

/-- `linked` in domain 4. -/
def inDomain : State := { linked with seam := { linked.seam with domain := 4 } }

theorem forUs_wire (f : Frame) (hg : Wire.read (wire f) = .good f) (hp : f.fflags = 0) (hs : Frame.srcNone f = false)
    (hd : f.dst = 2) (ho : f.dst ≠ Frame.srcAddr f) : ForUs .a (wire f) f linked :=
  { on := by decide, up := by decide, version := by decide, good := hg, plain := hp, source := hs, dst := by rw [hd]; decide, other := ho
    fresh := fun _ h => (List.not_mem_nil h).elim }

/-- HELLO in a COMMAND frame, its version in a REPLY frame, a FAULT_ECHO of a latched domain and an ANNOUNCE. -/
def helloFrame : Frame :=
  { frame with payload := [2, 7, 1, 0, 0, 0, byte (crc16 [2, 7, 1, 0, 0, 0]), byte (crc16 [2, 7, 1, 0, 0, 0] / 256)] }
def echoFrame (k : Byte) : Frame := { frame with ftype := 6, payload := [k, 9] ++ zeros 6 }
def announceFrame : Frame := { frame with ftype := 4, payload := [1, 0, 0, 0, 5, 0] ++ zeros 26 }
def passingFrame : Frame := { frame with ftype := 3, src := 0x8000, dst := 9, rem := 2 }

/-- `s0` with both ports UP. -/
def between : State := onSeam (fun x => { x with a := { x.a with link := .up, ver := 2 }, b := { x.b with link := .up, ver := 2 } })

theorem witness_FramesAreDelivered :
    (ForUs .a (wire helloFrame) helloFrame linked ∧ helloFrame.ftype = 1 ∧ receiveCheck helloFrame.payload = none ∧
      linked.proto.running = true ∧ linked.proto.waiting = [] ∧ isMaster linked = false) ∧
    (∀ n ∈ [2, 3, 5, 7], Wire.read (wire { frame with ftype := n }) = .good { frame with ftype := n }) ∧
    helloVersion [2, 7, 0, 0, 0, 0] = none ∧
    (Wire.read (wire { frame with ftype := 4, payload := zeros 24 }) = .good { frame with ftype := 4, payload := zeros 24 } ∧
      byteAt (zeros 24) 0 = 0) ∧
    (ForUs .a (wire announceFrame) announceFrame linked ∧ byteAt announceFrame.payload 0 = 1 ∧
      fieldAt announceFrame.payload 4 2 % 4096 ≠ linked.seam.domain) ∧
    (∀ k ∈ ([1, 2, 3, 4] : List Byte), Wire.read (wire (echoFrame k)) = .good (echoFrame k)) ∧
    (ForUs .a (wire (echoFrame 1)) (echoFrame 1) linked ∧ linked.seam.echoes = [] ∧ linked.dom.st = .down ∧ linked.dom.fnAt = none ∧
      (∃ s : State, s.seam.echoes = [] ∧ s.dom.fnAt = some 7 ∧ s.hem.ticks ≤ 7 + 2)) ∧
    (∃ s : State, ForUs .a (wire helloFrame) helloFrame s ∧ isMaster s = true) ∧
    (∃ s : State, ForUs .a (wire helloFrame) helloFrame s ∧ s.proto.running = false ∧ s.seam.rxBuf.length < 8) ∧
    (∃ s : State, s.seam.dups = [(1, 5, 1, s.hem.ticks)] ∧ Frame.srcAddr frame = 1 ∧ frame.seq = 5 ∧ s.off = false ∧
      (s.seam.port .a).link = .up ∧ Frame.flagsOk frame = true ∧ Frame.hopr frame = false ∧ s.seam.addr ≠ some 1) ∧
    (Wire.read { bytes := [9], clean := true } = .badForm ∧ Wire.read (wire { frame with ftype := 7, payload := [1] }) =
      .good { frame with ftype := 7, payload := [1] } ∧ 2 ≤ byteAt ([2] ++ zeros 7) 0) ∧
    (Wire.read (wire passingFrame) = .good passingFrame ∧
      Wire.read { bytes := (Frame.bytes passingFrame).set 16 (~~~ (Frame.bytes passingFrame).getD 16 0), clean := true } =
        .badCrc passingFrame ∧ (between.seam.port .a).link = .up ∧ Frame.srcNone passingFrame = true ∧ between.seam.addr ≠ some 9 ∧
      (between.seam.port (Port.other .a)).link = .up ∧ (between.seam.port (Port.other .a)).ver ≠ 1 ∧
      (between.seam.port (Port.other .a)).sending = none) :=
  ⟨⟨forUs_wire _ (by decide) (by decide) (by decide) (by decide) (by decide), by decide⟩, by decide, by decide, by decide,
    ⟨forUs_wire _ (by decide) (by decide) (by decide) (by decide) (by decide), by decide⟩, by decide,
    ⟨forUs_wire _ (by decide) (by decide) (by decide) (by decide) (by decide), by decide, by decide, by decide,
      { linked with dom := { linked.dom with fnAt := some 7 } }, by decide⟩,
    ⟨{ linked with seam := { linked.seam with master := some 2 } },
      ⟨by decide, by decide, by decide, by decide, by decide, by decide, by decide, by decide, by decide⟩, by decide⟩,
    ⟨{ linked with proto := { linked.proto with running := false } },
      ⟨by decide, by decide, by decide, by decide, by decide, by decide, by decide, by decide, by decide⟩, by decide⟩,
    ⟨{ linked with seam := { linked.seam with dups := [(1, 5, 1, 0)] } }, by decide⟩, by decide, by decide⟩

theorem witness_DomainsAreJoinedAndJudged :
    (∃ s : State, s.seam.bcastDue = [(.seam 1, reply0, 3)] ∧ s.seam.addr = some 2 ∧ (s.seam.a).link = .up ∧ (s.seam.a).ver ≠ 1 ∧
      (s.seam.a).sending = none) ∧
    (s0.seam.bcastDue = [] ∧ s0.seam.addr = none ∧ isMaster s0 = false ∧ s0.dom.echoSecond = []) ∧
    (linked.proto.running = true ∧ linked.pwr.st ≠ .hibernate ∧ linked.off = false ∧ linked.seam.addr = some 2) ∧
    (∃ s : State, isMaster s = true ∧ s.proto.running = true ∧ s.pwr.st ≠ .hibernate ∧ s.off = false) ∧
    (∃ s : State, s.dom.echoSecond = zeros 8 :: [] ∧ s.seam.addr = some 2 ∧ (s.seam.a).link = .up ∧ (s.seam.a).ver ≠ 1) ∧
    (inDomain.seam.addr ≠ none ∧ inDomain.seam.domain ≠ 0 ∧ inDomain.seam.gatherEnd ≤ inDomain.hem.ticks) ∧
    (∃ s : State, s.seam.addr ≠ none ∧ s.seam.domain ≠ 0 ∧ s.hem.ticks < s.seam.gatherEnd) ∧
    (Ready 0x1102 (req (zeros 4)) s0 ∧ Ready 0x1102 (req (zeros 4)) (domIn .up) ∧
      Ready 0x1102 (req (zeros 4)) (onSeam (fun x => { x with agree := .gathering }))) ∧
    (Ready 0x1104 (req [5, 0]) s0 ∧ Ready 0x1104 (req [5, 0]) (domIn .up)) ∧ Ready 0x1105 (req [0xFF, 0xFF]) s0 :=
  ⟨⟨{ linked with seam := { linked.seam with bcastDue := [(.seam 1, reply0, 3)] } }, by decide⟩, by decide, by decide,
    ⟨{ linked with seam := { linked.seam with master := some 2 } }, by decide⟩,
    ⟨{ linked with dom := { linked.dom with echoSecond := [zeros 8] } }, by decide⟩, by decide,
    ⟨{ inDomain with seam := { inDomain.seam with gatherEnd := 9 } }, by decide⟩,
    ⟨ready (by decide), ready (by decide), ready (by decide)⟩, ⟨ready (by decide), ready (by decide)⟩, ready (by decide)⟩

/-- `s0` with an event changed. -/
def onEvent (e : Fin 1024) (f : Ev → Ev) : State := { s0 with router := { s0.router with ev := upd s0.router.ev e (f s0.router.ev[e]) } }

theorem ev_reset (e : Fin 1024) (h : e ≠ 518) : s0.router.ev[e] = {} := by
  have h2 : ¬ 518 = e.val := fun x => h (Fin.ext x.symm)
  simp [s0, State.reset, upd, h2]

theorem ev_disabled (e : Fin 1024) : s0.router.ev[e].enable = false := by
  by_cases h : e = 518
  · subst h; simp [s0, State.reset, upd]
  · rw [ev_reset e h]

theorem not_claimable (c : Nat) (e : Fin 1024) : s0.router.claimable c e = false := by
  unfold Router.claimable; rw [ev_disabled]; rfl

theorem onEvent_ev (e : Fin 1024) (f : Ev → Ev) (h : e ≠ 518) : (onEvent e f).router.ev[e] = f {} := by
  have : (onEvent e f).router.ev[e] = f s0.router.ev[e] := by simp [onEvent, upd]
  rw [this, ev_reset e h]

theorem witness_EventsAreConfiguredRaisedAndClaimed :
    (Ready 0x0D01 (req [0xFF, 0x01, 1, 1]) s0 ∧ fieldAt [0xFF, 0x01, 1, 1] 0 2 = (511 : Fin 1024).val ∧ eventExists 511 = false) ∧
    (Ready 0x0D01 (req [0x3E, 0x02, 1, 1]) s0 ∧ fieldAt [0x3E, 0x02, 1, 1] 0 2 = (574 : Fin 1024).val ∧ eventExists 574 = true) ∧
    (∃ s : State, Ready 0x0D02 (req [3]) s ∧ s.router.claimable 3 0 = true ∧ ∀ d : Fin 1024, d < 0 → s.router.claimable 3 d = false) ∧
    (Ready 0x0D02 (req [3]) s0 ∧ ∀ e : Fin 1024, s0.router.claimable 3 e = false) ∧
    Ready 0x0D04 (req [1]) s0 ∧
    Ready 0x0D05 (req [3, 0, 9, 0]) s0 ∧ (conditionLine 5 = false ∧ s0.router.ev[(5 : Fin 1024)].enable = false) ∧
    (∃ s : State, s.router.ev[(5 : Fin 1024)].enable = true ∧ s.router.ev[(5 : Fin 1024)].claim = none ∧ eventExists 5 = true ∧
      s.pwr.lost = false ∧ s.pwr.st = .run) ∧
    (∃ s : State, s.router.ev[(480 : Fin 1024)].enable = true ∧ s.router.ev[(480 : Fin 1024)].claim ≠ none ∧
      s.router.ev[(480 : Fin 1024)].level = false ∧ s.router.ev[(480 : Fin 1024)].sensing = 0 ∧ eventExists 480 = true) ∧
    s0.off = false :=
  ⟨⟨ready (by decide), by decide⟩, ⟨ready (by decide), by decide⟩,
    ⟨onEvent 0 (fun x => { x with enable := true, mask := 8, pending := true }), ready (by decide),
      by unfold Router.claimable; rw [onEvent_ev 0 _ (by decide)]; decide, fun d h => absurd h (by simp)⟩,
    ⟨ready (by decide), not_claimable 3⟩,
    ready (by decide), ready (by decide), ⟨by decide, ev_disabled 5⟩,
    ⟨onEvent 5 (fun x => { x with enable := true }), by rw [onEvent_ev 5 _ (by decide)]; decide⟩,
    ⟨onEvent 480 (fun x => { x with enable := true, claim := some 1 }), by rw [onEvent_ev 480 _ (by decide)]; decide⟩, by decide⟩

theorem witness_EventDoneReleasesTheClaim :
    (∃ s : State, Ready 0x0D03 (req [5, 0, 3, 0]) s ∧ fieldAt [5, 0, 3, 0] 0 2 = (5 : Fin 1024).val ∧ [5, 0, 3, 0].length = 4 ∧
      s.router.ev[(5 : Fin 1024)].claim = some (byteAt [5, 0, 3, 0] 2 % 4)) ∧
    (Ready 0x0D03 (req [0xFF, 3, 3, 0]) s0 ∧ fieldAt [0xFF, 3, 3, 0] 0 2 = (1023 : Fin 1024).val ∧
      s0.router.ev[(1023 : Fin 1024)].claim ≠ some (byteAt [0xFF, 3, 3, 0] 2 % 4)) :=
  ⟨⟨onEvent 5 (fun x => { x with claim := some 3 }), ready (by decide), by decide, by decide, by rw [onEvent_ev 5 _ (by decide)]; rfl⟩,
    ready (by decide), by decide, by rw [ev_reset 1023 (by decide)]; decide⟩

/-- `s0` with the power state changed. -/
def onPwr (f : Pwr → Pwr) : State := { s0 with pwr := f s0.pwr }

theorem permits_reset (i : Nat) (h : i < 16) : 3 ≤ permits s0 i := by interval_cases i <;> decide

theorem rails_rest (r : Fin 48) : s0.rails[r].st.runs = false := by simp [s0, State.reset, RailSt.runs]

theorem witness_PowerStatesAreEnteredAndLeft :
    (∃ s : State, Turn 0x0E01 (req [2]) s ∧ s.pwr.st = .safeHold) ∧
    (Ready 0x0E01 (req [4]) s0 ∧ Ready 0x0E01 (req [0]) s0 ∧ Ready 0x0E01 (req [1]) s0 ∧ Ready 0x0E01 (req [2]) s0 ∧
      Ready 0x0E01 (req [3]) s0 ∧ s0.pwr.st = .run ∧ ∀ i : Nat, i < 16 → 3 ≤ permits s0 i) ∧
    (Ready 0x0E01 (req [2]) (domIn .rising) ∧ (domIn .rising).pwr.st = .run ∧ permits (domIn .rising) 0 = 0) ∧
    (Ready 0x0E03 (req [1]) s0 ∧ Ready 0x0E03 (req [0]) s0) ∧
    (∃ s : State, s.pwr.hibDue = some 3 ∧ replyLeft 3 s = true ∧ s.proto.exec = none ∧ s.off = false) ∧
    (∃ s : State, s.pwr.hibDue = some 3 ∧ replyLeft 3 s = false) ∧ (∃ s : State, s.pwr.entering = true ∧ s.off = false) ∧
    (∃ s : State, s.pwr.wake = some .resetN ∧ s.off = false) ∧ (∃ s : State, s.pwr.st = .doze) ∧
    (∃ s : State, s.chg.shipArmed = true ∧ sourceInRange s = false ∧ s.pwr.st ≠ .ship ∧
      ∀ i : Nat, i < 16 → 3 ≤ permits s i) ∧
    (∃ s : State, s.chg.shipArmed = true ∧ sourceInRange s = false ∧ s.pwr.st ≠ .ship ∧ permits s 15 < 3) ∧
    sourceInRange (onChg (fun c => { c with phantomIn := (false, true) })) = true ∧
    (∃ s : State, s.pwr.st = .hibernate ∧ s.pwr.lost = false ∧ s.pwr.wake = none) :=
  ⟨⟨onPwr (fun p => { p with st := .safeHold }), turn (by decide), by decide⟩,
    ⟨ready (by decide), ready (by decide), ready (by decide), ready (by decide), ready (by decide), by decide, permits_reset⟩,
    ⟨ready (by decide), by decide⟩, ⟨ready (by decide), ready (by decide)⟩,
    ⟨onPwr (fun p => { p with hibDue := some 3 }), by decide⟩,
    ⟨{ onPwr (fun p => { p with hibDue := some 3 }) with hp := { s0.hp with untaken := [3] } }, by decide⟩,
    ⟨onPwr (fun p => { p with entering := true }), by decide⟩, ⟨onPwr (fun p => { p with wake := some .resetN }), by decide⟩,
    ⟨onPwr (fun p => { p with st := .doze }), by decide⟩,
    ⟨{ onChg (fun c => { c with shipArmed := true }) with land := { s0.land with vinLow := true } },
      by decide, by decide, by decide, permits_reset⟩,
    ⟨{ onChg (fun c => { c with shipArmed := true }) with
        land := { s0.land with vinLow := true }, pwr := { s0.pwr with votes := upd s0.pwr.votes 7 1 } }, by decide⟩, by decide,
    ⟨onPwr (fun p => { p with st := .hibernate }), by decide⟩⟩

theorem witness_VotesSetThePermittedState :
    (Ready 0x0E02 (req [7, 0]) s0 ∧ byteAt [7, 0] 0 < 8 ∧ [7, 0].length = 2) ∧
    (Ready 0x0E02 (req [15, 9]) s0 ∧ byteAt [15, 9] 0 = 8 + (7 : Fin 8).val) :=
  ⟨⟨ready (by decide), by decide⟩, ready (by decide), by decide⟩

/-- `s0` with a command in execution. -/
def executing (d : Deferred) : State := { s0 with proto := { s0.proto with exec := some (waiter, d) } }

/-- A fuse row that is not BLANK. -/
def someRow : FuseRow := { loose := 1 :: zeros 31, tight := 1 :: zeros 31, tail := 0xFC00, tightTail := 0xFC00 }

/-- `s0` with row 600 programmed. -/
def rowState : State := { s0 with fuse := { s0.fuse with rows := s0.fuse.rows ++ [(600, someRow)] } }

/-- `rowState` with no spare left. -/
def spentState : State := { rowState with fuse := { rowState.fuse with spares := (upto 32).map (fun k => (k, someRow)) } }

theorem witness_FusesAreReadAndBurned :
    (Ready 0x0F01 (req [0xFF, 7, 1, 0]) s0 ∧ fieldAt [0xFF, 7, 1, 0] 0 2 = 2047 ∧ s0.fuse.row 2047 = none) ∧
    (vinUsable s0 = true ∧ ∀ r : Fin 48, s0.rails[r].st.runs = false) ∧
    (∃ s : State, Ready 0x0F05 (req (zeros 4)) s ∧ vinUsable s = false) ∧
    (Ready 0x0F05 (req (zeros 4)) (railIn .regulating) ∧ (railIn .regulating).rails[(3 : Fin 48)].st.runs = true ∧
      ∀ k : Fin 48, k < 3 → (railIn .regulating).rails[k].st.runs = false) ∧
    (Ready 0x0F02 (req ([13, 0, 0, 0] ++ zeros 32)) s0 ∧ rowOpenIn 13 s0.fuse.lcState = false) ∧
    (Ready 0x0F02 (req ([0x58, 2, 0, 0] ++ zeros 32)) s0 ∧ rowOpenIn 600 s0.fuse.lcState = true ∧
      ∀ c, regionOf 600 = some c → s0.fuse.sealState c = 0 ∧ s0.fuse.blank 600 = true) ∧
    (Ready 0x0F02 (req ([0x58, 2, 0, 0] ++ zeros 32)) rowState ∧ rowState.fuse.blank 600 = false ∧ (regionOf 600).isSome = true) ∧
    (Ready 0x0F03 (req [5, 0, 0, 0]) s0 ∧ Ready 0x0F03 (req [4, 0, 0, 0]) s0 ∧ regionOpenIn 4 s0.fuse.lcState = true ∧
      s0.fuse.sealState 4 = 0) ∧
    (Ready 0x0F04 (req [31, 0]) s0 ∧ Ready 0x0F04 (req [0x58, 2]) rowState ∧ rowState.fuse.blank 600 = false ∧ Ready 0x0F04 (req [0x58, 2]) s0 ∧
      s0.fuse.blank 600 = true ∧ s0.fuse.marginalAt (s0.fuse.place 600) = false ∧ spentState.fuse.freeSpares = [] ∧
      Ready 0x0F04 (req [0x58, 2]) spentState ∧ spentState.fuse.blank 600 = false ∧ spentState.fuse.lcState ≠ 4 ∧
      rowState.fuse.freeSpares ≠ [] ∧ rowState.fuse.lcState ≠ 4) ∧
    (Ready 0x0F05 (req (zeros 4)) s0 ∧ Ready 0x0F05 (req [1, 0x4C, 0x43, 1]) s0 ∧ s0.fuse.lcState = 2 ∧
      Ready 0x0F05 (req [4, 0x4C, 0x43, 4]) s0 ∧ s0.fuse.lcState < 4 ∧ advanceAllowed s0 4 = true) ∧
    s0.proto.exec = none ∧
    (∀ d : Deferred, (executing d).proto.exec = some (waiter, d)) ∧
    (32 ≤ s0.fuse.place 600 ∧ (zeros 32).length = 32 ∧ s0.fuse.at (s0.fuse.place 600) = none) ∧
    (∀ x, s0.fuse.at 12 = some x → x.loose.length = 32 ∧ x.tight.length = 32) ∧
    ((∀ x, s0.fuse.at 1 = some x → x.loose.length = 32 ∧ x.tight.length = 32) ∧ ∃ x, s0.fuse.at 1 = some x) ∧
    (s0.fuse.at (2048 + 31) = none ∧ (s0.fuse.rowData 600).length = 32) :=
  ⟨⟨ready (by decide), by decide⟩, ⟨by decide, rails_rest⟩,
    ⟨onLand (fun l => { l with vinLow := true }), ready (by decide), by decide⟩, ⟨ready (by decide), by decide⟩,
    ⟨ready (by decide), by decide⟩, ⟨ready (by decide), by decide, by
      intro c h
      have : c = (regionOf 600).getD 0 := by rw [h]; rfl
      subst this; decide⟩, ⟨ready (by decide), by decide⟩,
    ⟨ready (by decide), ready (by decide), by decide⟩, ⟨ready (by decide), ready (by decide), by decide, ready (by decide), by decide, by decide,
      by decide, ready (by decide),
      by decide⟩,
    ⟨ready (by decide), ready (by decide), by decide, ready (by decide), by decide⟩, by decide, fun _ => rfl, by decide,
    by decide, ⟨fun x h => by cases h; decide, _, rfl⟩, by decide⟩

/-- `s0` with the firmware changed. -/
def onFw (f : Fw → Fw) : State := { s0 with fw := f s0.fw }

/-- `s0` with the staging bank, bank 1, in a state. -/
def bankIn (st : BankSt) : State := onFw (fun f => { f with st := upd f.st 1 st })

/-- The staging bank verified in a state of the domain. -/
def verifiedIn (st : DomSt) : State := { bankIn .verified with dom := { s0.dom with st := st } }

theorem s0_inv : Inv s0 :=
  { buffer := by decide, window := by decide, banks := by decide, waiting := by decide }

theorem witness_FirmwareIsStagedVerifiedAndCommitted :
    (Ready 0x1001 (req ([0xFF, 0xFF, 0x1F, 0] ++ zeros 1)) s0 ∧ fieldAt ([0xFF, 0xFF, 0x1F, 0] ++ zeros 1) 0 4 + 1 = 2097152 ∧
      s0.fw.st[s0.fw.other] ≠ .verifying ∧ s0.fw.st[s0.fw.bank] ≠ .trial) ∧
    (Ready 0x1001 (req ([0, 0, 0x20, 0] ++ zeros 1)) s0 ∧ fieldAt ([0, 0, 0x20, 0] ++ zeros 1) 0 4 = 2097152) ∧
    Ready 0x1001 (req (zeros 5)) (bankIn .verifying) ∧ Ready 0x1001 (req (zeros 5)) (onFw (fun f => { f with st := #v[.trial, .empty] })) ∧
    ((executing (.stage 0 [9])).proto.exec = some (waiter, .stage 0 [9]) ∧ Inv (executing (.stage 0 [9]))) ∧
    (Ready 0x1002 (req []) s0 ∧ s0.fw.st[s0.fw.other] = .empty ∧ Ready 0x1002 (req []) (bankIn .verifying) ∧
      Ready 0x1002 (req []) (bankIn .staged)) ∧
    ((bankIn .verifying).proto.running = true ∧ (bankIn .verifying).fw.st[(bankIn .verifying).fw.other] = .verifying ∧
      (bankIn .verifying).fw.fitted[(bankIn .verifying).fw.other] = false) ∧
    (Ready 0x1003 (req [1]) s0 ∧ s0.fw.st[s0.fw.bank] = .active ∧ s0.fw.st[s0.fw.other] ≠ .verified ∧
      Ready 0x1005 (req []) (onFw (fun f => { f with st := #v[.trial, .empty] }))) ∧
    (Ready 0x1003 (req [1]) (verifiedIn .up) ∧ Ready 0x1003 (req [0]) (verifiedIn .up) ∧ Ready 0x1005 (req []) (verifiedIn .rising) ∧
      Ready 0x1003 (req [0]) (verifiedIn .down) ∧ (verifiedIn .down).map.probe ≠ .running ∧
      (verifiedIn .up).fw.st[(verifiedIn .up).fw.other] = .verified) ∧
    (∃ s : State, s.fw.commit = some (true, false, 3) ∧ replyLeft 3 s = true ∧ s.proto.exec = none ∧ s.proto.running = true) ∧
    (∃ s : State, s.proto.running = true ∧ s.fw.st[s.fw.bank] = .trial) ∧ s0.off = false :=
  ⟨⟨ready (by decide), by decide⟩, ⟨ready (by decide), by decide⟩, ready (by decide), ready (by decide),
    ⟨rfl, { buffer := by decide, window := by decide, banks := by decide, waiting := by decide }⟩,
    ⟨ready (by decide), by decide, ready (by decide), ready (by decide)⟩, by decide,
    ⟨ready (by decide), by decide, by decide, ready (by decide)⟩,
    ⟨ready (by decide), ready (by decide), ready (by decide), ready (by decide), by decide⟩,
    ⟨onFw (fun f => { f with commit := some (true, false, 3) }), by decide⟩,
    ⟨onFw (fun f => { f with st := #v[.trial, .empty] }), by decide⟩, by decide⟩

/-- `s0` in the life-cycle state FIELD. -/
def fieldState : State :=
  let row : FuseRow := { loose := [0xFF, 0xFF, 0xFF] ++ zeros 29, tight := [0xFF, 0xFF, 0xFF] ++ zeros 29, tail := 0, tightTail := 0 }
  { s0 with fuse := { s0.fuse with rows := [(0, row), (1, row), (2, row)] } }

theorem witness_TestLandsAreSelectedAndReleased :
    (Ready 0x1201 (req [2, 0, 0x00, 0x10]) fieldState ∧ fieldState.fuse.lcState = 3 ∧ powerCritical 0x1000 = true) ∧
    (Ready 0x1201 (req [2, 0, 0x00, 0x10]) s0 ∧ s0.fuse.lcState ≠ 3 ∧ digitalCode 0x1000 = true) ∧
    (Ready 0x1201 (req [1, 0, 0xFF, 0x92]) s0 ∧ analogueCode 0x92FF = true) ∧
    (Ready 0x1201 (req [1, 0, 0x00, 0x10]) s0 ∧ analogueCode 0x1000 = false) ∧
    (Ready 0x1202 (req [5]) s0 ∧ Ready 0x1202 (req [0xFF]) s0 ∧ Ready 0x1202 (req [6]) s0) :=
  ⟨⟨ready (by decide), by decide⟩, ⟨ready (by decide), by decide⟩, ⟨ready (by decide), by decide⟩, ⟨ready (by decide), by decide⟩,
    ready (by decide), ready (by decide), ready (by decide)⟩

/-- `s0` with a reset of the interpreter's own due. -/
def resetDueState (kind : Nat) : State := { s0 with proto := { s0.proto with resetDue := some (kind, 3) } }

/-- `s0` with its manager stopped. -/
def stopped : State := { s0 with proto := { s0.proto with running := false } }

theorem witness_ResetsAndStarts :
    (s0.off = false ∧ s0.pwr.st ≠ .hibernate ∧ s0.pwr.entering = false ∧ s0.pwr.st ≠ .doze ∧ resetFull s0 = false) ∧
    (∃ s : State, resetFull s = true ∧ s.dom.st = .up ∧ s.off = false ∧ s.pwr.st ≠ .doze) ∧ (∃ s : State, s.off = false ∧ s.pwr.st = .doze) ∧
    (∀ kind, (resetDueState kind).proto.resetDue = some (kind, 3) ∧ replyLeft 3 (resetDueState kind) = true ∧
      (resetDueState kind).proto.exec = none ∧ (resetDueState kind).proto.running = true) ∧
    (∃ s : State, s.dom.fullDue ≠ none ∧ s.off = false) ∧
    (stopped.proto.running = false ∧ stopped.off = false ∧ stopped.pwr.st ≠ .hibernate ∧ stopped.pwr.entering = false ∧
      stopped.fw.causeNext ≠ 7 ∧ stopped.dom.fullDue = none ∧ stopped.proto.raw = [] ∧ stopped.proto.dropped = [] ∧
      stopped.seam.rxBuf = [] ∧ stopped.dom.ph = .idle ∧ stopped.fw.st[stopped.fw.bank] ≠ .trial ∧ stopped.fw.switchDue = none) ∧
    (∃ s : State, s.proto.running = false ∧ s.fw.st[s.fw.bank] = .trial) ∧
    (∃ s : State, s.proto.running = false ∧ s.fw.st[s.fw.bank] ≠ .trial ∧ s.fw.switchDue ≠ none ∧ s.fw.st[s.fw.other] = .verified) ∧
    (s0.pwr.st ≠ .ship ∧ s0.dom.fullDue = none ∧ s0.land.vinLow = false ∧ s0.land.vinOver = false ∧ s0.proto.exec = none ∧ s0.map.stored = none ∧
      s0.proto.stored = none ∧ cconfImage s0 = none) ∧
    (∃ s : State, s.pwr.st ≠ .ship ∧ supplied s = false) ∧
    (∃ s : State, s.pwr.st = .ship ∧ s.land.wakeIgnored = false ∧ s.land.vinLow = true ∧ supplied s = false) ∧
    (∃ s : State, s.pwr.st = .ship ∧ s.land.wakeIgnored = false ∧ s.land.vinLow = false ∧ s.land.vinOver = false) ∧
    (∃ s : State, s.dom.autoUp = true ∧ s.map.probe = .aborted ∧ enableHigh s = false ∧ s.proto.running = true ∧ s.off = false ∧
      s.proto.cfg ≠ .applying ∧ s.dom.cycle = false ∧ s.undervolt = false) ∧
    (∃ s : State, s.pwr.st = .ship ∧ s.land.wakeIgnored = true) ∧
    (∃ s : State, s.dom.autoUp = true ∧ s.map.probe = .noResult ∧ s.dom.st = .down ∧ s.dom.cycle = false ∧ s.undervolt = false ∧
      s.seam.agree = .alone ∧ badSlotRail s = none ∧
      s.dom.slots[(3 : Fin 16)].used = true ∧ ∀ i : Fin 16, i < 3 → s.dom.slots[i].used = false) :=
  ⟨by decide,
    ⟨{ domIn .up with proto := { s0.proto with inForce := some { id := 0, len := 48, flags := 2, digest := [], domDigest := [] } } }, by decide⟩,
    ⟨onPwr (fun p => { p with st := .doze }), by decide⟩, fun _ => ⟨rfl, rfl, rfl, rfl⟩, ⟨onDom (fun d => { d with fullDue := some 2 }), by decide⟩, by decide,
    ⟨{ stopped with fw := { s0.fw with st := #v[.trial, .empty] } }, by decide⟩,
    ⟨{ stopped with fw := { s0.fw with st := #v[.active, .verified], switchDue := some false } }, by decide⟩, by decide,
    ⟨onLand (fun l => { l with vinLow := true }), by decide⟩,
    ⟨{ onLand (fun l => { l with vinLow := true }) with pwr := { s0.pwr with st := .ship } }, by decide⟩,
    ⟨onPwr (fun p => { p with st := .ship }), by decide⟩,
    ⟨{ onDom (fun d => { d with autoUp := true }) with map := { s0.map with probe := .aborted } }, by decide⟩,
    ⟨{ onPwr (fun p => { p with st := .ship }) with land := { s0.land with wakeIgnored := true } }, by decide⟩,
    ⟨onDom (fun d => { d with autoUp := true, slots := upd d.slots 3 { d.slots[3] with used := true } }), by decide⟩⟩

/-- `s0` with an image stored and in force. -/
def loadedState : State := { s0 with proto := { s0.proto with
  stored := some (bareHeader ++ zeros 16), inForce := some { id := 0, len := 48, flags := 2, digest := [], domDigest := [] } } }

theorem witness_StatusRecordsAreRead :
    (Ready 0x0002 (req []) s0 ∧ Ready 0x1103 (req []) s0 ∧ Ready 0x0F06 (req []) s0) ∧
    (Ready 0x0104 (req [0]) bareState ∧ bufferHolds bareState = true ∧ headerOk (bufferImage bareState) = true) ∧
    (Ready 0x0104 (req [1]) loadedState ∧ loadedState.proto.stored = some (bareHeader ++ zeros 16) ∧ Ready 0x0104 (req [2]) loadedState ∧
      loadedState.proto.inForce ≠ none) ∧
    (Ready 0x0104 (req [2]) s0 ∧ s0.proto.inForce = none ∧ Ready 0x0104 (req [0]) s0 ∧ bufferHolds s0 = false ∧ s0.proto.stored = none) ∧
    (Ready 0x0202 (req [0, 36, 12]) s0 ∧ Ready 0x0202 (req [1, 47, 1]) s0 ∧ Ready 0x0202 (req [2, 0, 48]) s0) ∧
    (Ready 0x0204 (req [2]) s0 ∧ Ready 0x0204 (req [0]) s0) ∧ (Ready 0x0308 (req [47]) s0 ∧ Ready 0x0406 (req [47]) s0) ∧
    (Ready 0x0404 (req [7, 16]) s0 ∧ Ready 0x0404 (req [7, 17]) s0 ∧ Ready 0x0404 (req [7, 0]) s0) ∧ Ready 0x0504 (req (zeros 8)) s0 ∧
    Ready 0x0606 (req [24, 24]) s0 ∧ Ready 0x0807 (req [7]) s0 ∧ Ready 0x0B02 (req []) s0 ∧ Ready 0x0B07 (req [63, 1]) s0 ∧
    Ready 0x0C04 (req []) s0 :=
  ⟨⟨ready (by decide), ready (by decide), ready (by decide)⟩, ⟨ready (by decide), by decide⟩,
    ⟨ready (by decide), by decide, ready (by decide), by decide⟩, ⟨ready (by decide), by decide, ready (by decide), by decide⟩,
    ⟨ready (by decide), ready (by decide), ready (by decide)⟩, ⟨ready (by decide), ready (by decide)⟩,
    ⟨ready (by decide), ready (by decide)⟩, ⟨ready (by decide), ready (by decide), ready (by decide)⟩, ready (by decide), ready (by decide),
    ready (by decide), ready (by decide), ready (by decide), ready (by decide)⟩

theorem witness_EveryStepKeepsInv : Inv s0 ∧ step s0 = .next (idle s0) := ⟨s0_inv, rfl⟩

end Sys2Proof.Tests
end

section
/-! PROOF. Rail-bus messages received with an error: one lemma says what each row that brings a message comes to, and corrected and
discarded messages follow from it alone (R58). The check point counts a heartbeat lost so as missing (R78). -/

namespace Sys2Proof.Machine

/-! ## The traffic on the rail bus and the event router -/

/-! Raising an event neither reads nor changes the traffic, so a change of the traffic may come before it or after it. -/

theorem ite_withBus (p : Prop) [Decidable p] (s t : State) (b : List Msg) :
    (if p then { s with bus := b } else { t with bus := b } : State) = { (if p then s else t) with bus := b } := by
  split <;> rfl

theorem settle_withBus (s : State) (x : Router) (b : List Msg) : settle { s with bus := b } x = { settle s x with bus := b } := rfl

theorem wakeReq_withBus (w : WakeSource) (s : State) (b : List Msg) : wakeReq w { s with bus := b } = { wakeReq w s with bus := b } := by
  have hoff : State.off { s with bus := b } = s.off := rfl
  by_cases h : s.off = true
  · simp only [wakeReq, hoff, if_pos h]
  · simp only [wakeReq, hoff, if_neg h]

theorem eventWake_withBus (e : Fin 1024) (was : Bool) (s : State) (b : List Msg) :
    eventWake e was { s with bus := b } = { eventWake e was s with bus := b } := by
  by_cases he : e.val < 1023
  · simp only [eventWake, he, dif_pos, wakeReq_withBus]
    exact ite_withBus _ _ _ b
  · simp only [eventWake, he, dif_neg, not_false_eq_true]

theorem evChange_withBus (f : Ev → Ev) (k : Ev → Bool) (e : Fin 1024) (s : State) (b : List Msg) :
    evChange f k e { s with bus := b } = { evChange f k e s with bus := b } := by
  simp only [evChange, settle_withBus, eventWake_withBus]
  rfl

theorem pulse_withBus (e : Fin 1024) (s : State) (b : List Msg) : pulse e { s with bus := b } = { pulse e s with bus := b } := by
  unfold pulse
  rw [evChange_withBus]
  exact ite_withBus _ _ _ b

theorem pulseIf_withBus (k : Bool) (e : Fin 1024) (s : State) (b : List Msg) :
    pulseIf k e { s with bus := b } = { pulseIf k e s with bus := b } := by
  cases k
  · rfl
  · exact pulse_withBus e s b

theorem pulseIf_only (k : Bool) (e : Fin 1024) (s : State) :
    pulseIf k e s = { s with router := (pulseIf k e s).router, seam := (pulseIf k e s).seam, pwr := (pulseIf k e s).pwr
                             clk := (pulseIf k e s).clk } := by
  cases k
  · rfl
  · exact pulse_only e s

/-! ## A cell changed that stays as healthy as it was -/

/-- Only its own event follows: the spur plan is evaluated where a cell's health changes (R188). -/
theorem changeCell_of_healthy {s : State} {c : Fin 256} {f : Cell → Cell} (hr : s.cells[c].st ≠ .retired)
    (hf : (f s.cells[c]).healthy = s.cells[c].healthy) :
    changeCell s c f = pulseIf (cellEvent s.cells[c] (f s.cells[c])) (evt c.val) (modCell s c f) := by
  simp only [changeCell, if_neg hr, if_pos hf]

theorem changeCell_withBus {s : State} {c : Fin 256} {f : Cell → Cell} (b : List Msg) (hr : s.cells[c].st ≠ .retired)
    (hf : (f s.cells[c]).healthy = s.cells[c].healthy) :
    changeCell { s with bus := b } c f = { changeCell s c f with bus := b } := by
  have hb : changeCell { s with bus := b } c f =
      pulseIf (cellEvent s.cells[c] (f s.cells[c])) (evt c.val) { modCell s c f with bus := b } :=
    changeCell_of_healthy (s := { s with bus := b }) hr hf
  rw [hb, pulseIf_withBus, changeCell_of_healthy hr hf]

theorem changeCell_oneCell {s : State} {c : Fin 256} {f : Cell → Cell} (hr : s.cells[c].st ≠ .retired)
    (hf : (f s.cells[c]).healthy = s.cells[c].healthy) : OneCell c s (changeCell s c f) (f s.cells[c]) := by
  rw [changeCell_of_healthy hr hf]
  refine ⟨?_, ?_, fun d hd => ?_⟩
  · rw [pulseIf_only]
    rfl
  · rw [pulseIf_cells, modCell_self]
  · rw [pulseIf_cells, modCell_other s c d f hd.symm]

@[simp] theorem spurEval_bus (s : State) : (spurEval s).bus = s.bus := by
  unfold spurEval; dsimp only; split <;> simp

@[simp] theorem spurEval_proto (s : State) : (spurEval s).proto = s.proto := by
  unfold spurEval; dsimp only; split <;> simp

@[simp] theorem changeCell_bus (s : State) (c : Fin 256) (f : Cell → Cell) : (changeCell s c f).bus = s.bus := by
  unfold changeCell
  dsimp only
  split
  · rfl
  · split <;> simp

@[simp] theorem changeCell_proto (s : State) (c : Fin 256) (f : Cell → Cell) : (changeCell s c f).proto = s.proto := by
  unfold changeCell
  dsimp only
  split
  · rfl
  · split <;> simp

/-! ## A message received -/

/-- In every state that agrees with `s` on the traffic and on the manager's protocol, the row brings cell `c` a message, which leaves
`rest` in flight and on which the cell acts in one way, however it arrived (R57, R58). -/
def Receives (c : Fin 256) (m : Ecc → Instr) (s : State) (rest : List Msg) : Prop :=
  ∃ act : State → State, ∀ (e : Ecc) (t : State), t.bus = s.bus → t.proto = s.proto →
    exec (m e) t = .next (busRx c e act { t with bus := rest })

theorem Receives.uncorrectable {c : Fin 256} {m : Ecc → Instr} {s : State} {rest : List Msg} (h : Receives c m s rest)
    (hr : s.cells[c].st ≠ .retired) :
    ∃ t, exec (m .uncorrectable) s = .next t ∧ OneCell c { s with bus := rest } t s.cells[c].noteUncorr := by
  obtain ⟨act, hact⟩ := h
  exact ⟨_, hact .uncorrectable s rfl rfl, changeCell_oneCell (s := { s with bus := rest }) hr rfl⟩

/-- Noting the correction and latching the message come to the same in either order. -/
theorem Receives.corrected {c : Fin 256} {m : Ecc → Instr} {s : State} {rest : List Msg} (h : Receives c m s rest)
    (hr : s.cells[c].st ≠ .retired) :
    ∃ u, OneCell c s u s.cells[c].noteCorr ∧ exec (m .corrected) s = exec (m .clean) u := by
  obtain ⟨act, hact⟩ := h
  refine ⟨changeCell s c Cell.noteCorr, changeCell_oneCell hr rfl, ?_⟩
  rw [hact .corrected s rfl rfl, hact .clean _ (changeCell_bus ..) (changeCell_proto ..)]
  simp only [busRx, changeCell_withBus (f := Cell.noteCorr) rest hr rfl]

/-! ## The rows that bring a message -/

theorem latch_of_some {sel : Msg → Bool} {c : Fin 256} {s : State} {x : Msg} {rest : List Msg} (e : Ecc) (act : Msg → State → State)
    (h : takeFrom sel c.val s.bus = some (x, rest)) : latch sel c e act s = busRx c e (act x) { s with bus := rest } := by
  simp only [latch, h]

/-- Every row of a message in flight latches it by the row's own test; beside the message, only CURRENT reads the state that it came
in, and there whether the manager runs (R61). -/
theorem InFlight.latches {c src : Fin 256} {m : Ecc → Instr} {sel : Msg → Bool} (h : InFlight c src m sel) :
    ∃ act : State → Msg → State → State, (∀ e s, exec (m e) s = .next (latch sel c e (act s) s)) ∧
      ∀ s t : State, s.proto = t.proto → act s = act t := by
  obtain ⟨v, ⟨rfl, rfl⟩ | ⟨rfl, rfl⟩⟩ | ⟨k, w, rfl, rfl⟩ | ⟨n, rfl, rfl⟩ | ⟨rfl, rfl⟩ |
    ⟨w, ⟨rfl, rfl⟩ | ⟨rfl, rfl⟩ | ⟨rfl, rfl⟩ | ⟨rfl, rfl⟩⟩ := h
  all_goals exact ⟨fun _ => _, fun _ _ => rfl, fun s t hp => by simp only [hp]⟩

theorem InFlight.receives {c src : Fin 256} {m : Ecc → Instr} {sel : Msg → Bool} {s : State} {x : Msg} {rest : List Msg}
    (h : InFlight c src m sel) (hx : takeFrom sel c.val s.bus = some (x, rest)) : Receives c m s rest := by
  obtain ⟨act, hrow, hact⟩ := h.latches
  refine ⟨act s x, fun e t hb hp => ?_⟩
  rw [hrow, hact t s hp, latch_of_some e _ (hb ▸ hx)]

theorem settleWords_of_no_words {s : State} (h : ∀ p r, s.proto.exec ≠ some (p, .words r)) : settleWords s = s := by
  unfold settleWords
  split
  case h_1 p r hex => exact absurd hex (h p r)
  case h_2 => rfl

theorem configWr_receives {c : Fin 256} {n : Nat} {w : BitVec 32} {s : State} {x : Msg} {rest : List Msg}
    (hw : ∀ p r, s.proto.exec ≠ some (p, .words r))
    (hx : takeFrom (fun m => m.isConfig n && m.saying w) c.val s.bus = some (x, rest)) :
    Receives c (.configWr c n w ·) s rest := by
  refine ⟨fun t => settleWords (configWord c x t), fun e t hb hp => ?_⟩
  have hrow : exec (.configWr c n w e) t = .next (settleWords (busRx c e (configWord c x) { t with bus := rest })) := by
    simp only [exec, execConfigWr, hb, hx, Option.isSome_some, if_true, latch_of_some e _ (hb ▸ hx)]
  rw [hrow]
  cases e with
  | clean => rfl
  | corrected => rfl
  | uncorrectable =>
    refine congrArg _ (settleWords_of_no_words ?_)
    simpa only [busRx, changeCell_proto, hp] using hw

theorem isolate_receives (c : Fin 256) (b : BitVec 8) (s : State) :
    Receives c (.isolate c b ·) s (((takeFrom (Msg.isolates b) c.val s.bus).map Prod.snd).getD s.bus) :=
  ⟨isolateCell c (if 1 ≤ b.toNat ∧ b.toNat ≤ 11 then b else 8), fun e t hb _ => by simp only [exec, execIsolate, hb]⟩

theorem statusRd_receives (c : Fin 256) (n : Nat) (s : State) : Receives c (.statusRd c n ·) s s.bus :=
  ⟨fun t => if n % 4 = 0 ∧ n < 16 then modCell t c (fun x => { x with replyDue := some (n, fieldAt x.block n 4) }) else t,
    fun e t hb _ => by rw [← hb]; rfl⟩

theorem reservedMessage_receives (c : Fin 256) {n : Nat} (s : State) (hn : 0xA ≤ n ∧ n ≤ 0xF) :
    Receives c (.reservedMessage c n ·) s s.bus :=
  ⟨fun t => changeCell t c (fun x => { x with busErrs := satInc 255 x.busErrs }), fun e t hb _ => by
    simp only [exec, execReservedMessage, if_pos hn, ← hb]⟩

/-! ## The check point -/

/-- The state in which every member of a rail has judged its leader's heartbeat (R78). -/
def judged (r : Fin 48) (s : State) : State :=
  mapCells s (fun n c => if (s.memberSet r.val).getLsbD n ∧ c.st ≠ .retired then c.judge n else c)

theorem judged_cell (r : Fin 48) (c : Fin 256) (s : State) (hm : (s.memberSet r.val).getLsbD c.val = true) (hr : s.cells[c].st ≠ .retired) :
    (judged r s).cells[c] = s.cells[c].judge c.val := by
  rw [judged, mapCells_get, if_pos ⟨hm, hr⟩]

theorem judged_cell_of_retired (r : Fin 48) (c : Fin 256) (s : State) (hr : s.cells[c].st = .retired) :
    (judged r s).cells[c] = s.cells[c] := by
  rw [judged, mapCells_get, if_neg fun h => h.2 hr]

theorem Cell.judge_missing {c : Cell} {self : Nat} (hl : c.leader ≠ self) (hh : c.heard = false) :
    (c.judge self).missing = c.missing + 1 := by
  simp [Cell.judge, hl, hh]

/-- A member takes over only where its missing count has passed its rank. -/
theorem Cell.takesOver_of_missing {c : Cell} {self : Nat} (h : c.missing ≤ c.rank) : c.takesOver self = false := by
  simp [Cell.takesOver, Nat.lt_one_add_iff.mpr h]

/-- A member that has heard its leader, or has not yet missed it as often as its rank, does not take over once it has judged (R78). -/
theorem Cell.judge_takesOver {c : Cell} (self : Nat) (h : c.heard = true ∨ c.missing + 1 ≤ c.rank) :
    (c.judge self).takesOver self = false := by
  by_cases hl : c.leader = self
  · simp [Cell.judge, Cell.takesOver, hl]
  · refine Cell.takesOver_of_missing ?_
    obtain hh | hm := h
    · simp [Cell.judge, hl, hh]
    · simp only [Cell.judge, hl, if_false]
      split <;> omega

theorem Cell.takesOver_of_retired {c : Cell} (self : Nat) (h : c.st = .retired) : c.takesOver self = false := by
  simp [Cell.takesOver, h, CellSt.serves]

theorem mem_of_mem_succession {l n : Nat} {ms : List Nat} : n ∈ succession l ms → n ∈ ms := by
  simp only [succession, List.mem_append, List.mem_filter]
  rintro (⟨h, -⟩ | ⟨h, -⟩) <;> exact h

theorem mem_members {s : State} {r n : Nat} : n ∈ s.members r ↔ n < 256 ∧ (s.memberSet r).getLsbD n = true := by
  simp [State.members, cellsOf, upto]

theorem cell_val (s : State) (c : Fin 256) : s.cell c.val = s.cells[c] := by
  simp [State.cell, fin256]

theorem fin48_val (r : Fin 48) : fin48 r.val = r := by
  simp [fin48]

theorem rail_val (s : State) (r : Fin 48) : s.rail r.val = s.rails[r] := by
  simp [State.rail, fin48]

theorem mapCells_id (s : State) : mapCells s (fun _ c => c) = s := by
  have h : mapIdx s.cells (fun _ c => c) = s.cells := Vector.ext fun i hi => mapIdx_get s.cells _ ⟨i, hi⟩
  simp only [mapCells, h]

/-- A check point of a released rail at which no member takes over, and the hub has not missed its second heartbeat: the members judge,
and the hub counts (R78, R81). -/
theorem execCheckPoint_of_no_takeover {r : Fin 48} {s : State} (hruns : s.rails[r].st.runs = true) (hrel : s.rails[r].released = true)
    (hhub : s.rails[r].hubMissing < 2)
    (hnew : ∀ d : Fin 256, (s.memberSet r.val).getLsbD d.val = true → (judged r s).cells[d].takesOver d.val = false) :
    execCheckPoint r s = .next (modRail (judged r s) r (fun y => { y with hubMissing := min 3 (y.hubMissing + 1) })) := by
  have hnone : (succession s.rails[r].leader ((judged r s).members r.val)).filter
      (fun n => decide (n ≠ s.rails[r].leader) && ((judged r s).cell n).takesOver n) = [] := by
    refine List.filter_eq_nil_iff.mpr fun n hn => ?_
    obtain ⟨hlt, hm⟩ := mem_members.mp (mem_of_mem_succession hn)
    have hno : ((judged r s).cell n).takesOver n = false := by
      rw [cell_val (judged r s) ⟨n, hlt⟩]
      exact hnew ⟨n, hlt⟩ hm
    simp [hno]
  have hj : hubJudge r.val (judged r s) = modRail (judged r s) r (fun y => { y with hubMissing := min 3 (y.hubMissing + 1) }) := by
    have hx : ((judged r s).rail r.val).hubMissing < 2 := by rw [rail_val]; exact hhub
    simp only [hubJudge, if_pos hx, fin48_val]
  simp only [execCheckPoint, if_pos (And.intro hruns (Or.inl hrel)), ← judged.eq_def, hnone, hj, List.contains_nil, Bool.false_eq_true,
    false_and, if_false, mapCells_id]

/-! ## The statement -/

/-- Settles O22: every row named brings its receiver a message (`Receives`), and at the check point no member takes over, so that the
members' judgement stands. -/
theorem busErrorsAreCorrectedOrDiscarded : Obligations.BusErrorsAreCorrectedOrDiscarded := by
  refine ⟨fun c src n w b m s rest hr hm => ?_, fun r c s hst hrel hhub hc hr hl hh hothers hrank => ?_⟩
  · have h : Receives c m s rest := by
      obtain ⟨sel, x, hsel, hx⟩ | ⟨rfl, hw, x, hx⟩ | ⟨rfl, rfl⟩ | ⟨rfl | ⟨rfl, hn⟩, rfl⟩ := hm
      · exact hsel.receives hx
      · exact configWr_receives hw hx
      · exact isolate_receives c b s
      · exact statusRd_receives c n s
      · exact reservedMessage_receives c s hn
    exact ⟨h.uncorrectable hr, h.corrected hr⟩
  · refine ⟨_, execCheckPoint_of_no_takeover (by rw [hst]; rfl) hrel (by omega) fun d hd => ?_, ?_⟩
    · by_cases hret : s.cells[d].st = .retired
      · rw [judged_cell_of_retired r d s hret]
        exact Cell.takesOver_of_retired _ hret
      · rw [judged_cell r d s hd hret]
        by_cases hdc : d = c
        · exact Cell.judge_takesOver _ (.inr (hdc ▸ hrank))
        · exact Cell.judge_takesOver _ (.inl (hothers d hdc hd))
    · rw [modRail_cells, judged_cell r c s hc hr, Cell.judge_missing hl hh]

end Sys2Proof.Machine
end

section
/-! PROOF. EVENT_DONE: what changing one event and moving one line leave as they were, and from that the release of a claim and the
completion that is ignored (R459). -/

namespace Sys2Proof.Machine

/-! ## An event changed, a line moved -/

/-- Changing an event changes the router, the Seam queues, the wake requested and the manager's supply, and nothing else. -/
theorem evChange_only (f : Ev → Ev) (k : Ev → Bool) (e : Fin 1024) (s : State) :
    evChange f k e s = { s with router := (evChange f k e s).router, seam := (evChange f k e s).seam, pwr := (evChange f k e s).pwr
                                clk := (evChange f k e s).clk } := by
  apply State.only_events <;> simp

theorem setLine_only (e : Fin 1024) (b : Bool) (s : State) :
    setLine e b s = { s with router := (setLine e b s).router, seam := (setLine e b s).seam, pwr := (setLine e b s).pwr
                             clk := (setLine e b s).clk } := by
  apply State.only_events <;> simp

@[simp] theorem settle_ev (s : State) (x : Router) : (settle s x).router.ev = x.ev := rfl

@[simp] theorem settle_doneIgnored (s : State) (x : Router) : (settle s x).router.doneIgnored = x.doneIgnored := rfl

@[simp] theorem noteRearm_not_counted (live : Bool) (x : Router) : Router.noteRearm false live x = x := rfl

@[simp] theorem noteRearm_doneIgnored (c l : Bool) (x : Router) : (Router.noteRearm c l x).doneIgnored = x.doneIgnored := by
  unfold Router.noteRearm; split <;> rfl

/-- Counting an edge moves no line but that of REARMED, event 574 (R454). -/
theorem noteRearm_ev_other (c l : Bool) (x : Router) {d : Fin 1024} (hd : d ≠ 574) : (Router.noteRearm c l x).ev[d] = x.ev[d] := by
  unfold Router.noteRearm
  split
  · cases l
    · rfl
    · exact upd_other _ _ _ _ hd.symm
  · rfl

/-- A change that counts no edge changes the one event alone. -/
theorem evChange_uncounted_ev (f : Ev → Ev) (e : Fin 1024) (s : State) :
    (evChange f (fun _ => false) e s).router.ev = upd s.router.ev e (f s.router.ev[e]) := by
  simp [evChange]

theorem evChange_ev_other (f : Ev → Ev) (k : Ev → Bool) {e d : Fin 1024} (s : State) (he : d ≠ e) (hd : d ≠ 574) :
    (evChange f k e s).router.ev[d] = s.router.ev[d] := by
  simp only [evChange, eventWake_router, settle_ev]
  rw [noteRearm_ev_other _ _ _ hd, upd_other _ _ _ _ he.symm]

@[simp] theorem evChange_doneIgnored (f : Ev → Ev) (k : Ev → Bool) (e : Fin 1024) (s : State) :
    (evChange f k e s).router.doneIgnored = s.router.doneIgnored := by
  simp [evChange]

theorem setLine_ev_other (b : Bool) {e d : Fin 1024} (s : State) (he : d ≠ e) (hd : d ≠ 574) :
    (setLine e b s).router.ev[d] = s.router.ev[d] := by
  unfold setLine
  split
  · rfl
  · split
    · exact evChange_ev_other _ _ s he hd
    · exact upd_other _ _ _ _ he.symm

@[simp] theorem setLine_doneIgnored (e : Fin 1024) (b : Bool) (s : State) :
    (setLine e b s).router.doneIgnored = s.router.doneIgnored := by
  unfold setLine
  split
  · rfl
  · split
    · exact evChange_doneIgnored ..
    · rfl

/-! ## DONE_IGNORED -/

theorem setDoneIgnored_only (s : State) :
    setDoneIgnored s = { s with router := (setDoneIgnored s).router, seam := (setDoneIgnored s).seam, pwr := (setDoneIgnored s).pwr
                                clk := (setDoneIgnored s).clk } :=
  setLine_only 573 true { s with router := { s.router with doneIgnored := true } }

@[simp] theorem setDoneIgnored_doneIgnored (s : State) : (setDoneIgnored s).router.doneIgnored = true :=
  setLine_doneIgnored ..

theorem setDoneIgnored_ev_other (s : State) {d : Fin 1024} (h573 : d ≠ 573) (h574 : d ≠ 574) :
    (setDoneIgnored s).router.ev[d] = s.router.ev[d] :=
  setLine_ev_other _ _ h573 h574

/-! ## The command -/

@[simp] theorem arrived_router (q : Req) (s : State) : (arrived q s).router = s.router := by
  unfold arrived submitted; split <;> rfl

/-- A ready command whose handler replies, and leaves the interpreter's state as it was, completes. -/
theorem completes_of_run {i : Instr} {o : OpSpec} {q : Req} {s t : State} {st : Status} {l : List Byte} {P : State → Prop}
    (hi : exec i s = runOp o q s) (h : Ready o.op q s) (hp : o.paramCheck 2 q.params = none)
    (hr : o.run q (arrived q s) = (t, .reply st l)) (ht : t.proto = (arrived q s).proto) (hP : P t) : Completes i o.op q s st l P :=
  ⟨t, hi.trans (runOp_reply h hp hr (by rw [ht, arrived_proto, h.empty])), hP⟩

theorem evt_val (e : Fin 1024) : evt e.val = e := by simp [evt]

/-- What releasing a claim leaves of an event, field by field (R453, R454, R459). -/
theorem Ev.release_eq (x : Ev) : x.release = { x with
    claim := none, rearm := false, pending := if x.rearm = true then x.pending else decide (x.sensing = 1) && x.level } := by
  unfold Ev.release
  split
  · rfl
  · next h => simp only [Bool.not_eq_true] at h; rw [h]

theorem eventDoneOp_paramCheck {p : List Byte} (hlen : p.length = 4) (hf : fieldAt p 0 2 ≤ 1023) : eventDoneOp.paramCheck 2 p = none := by
  simp [OpSpec.paramCheck, eventDoneOp, plenLimit, Plen.expected, firstBad, hlen, hf]

/-- EVENT_DONE that names an event and the channel of its claim releases it. -/
theorem eventDoneOp_run_claimed {q : Req} {s : State} {e : Fin 1024} (he : fieldAt q.params 0 2 = e.val)
    (hc : s.router.ev[e].claim = some (byteAt q.params 2 % 4)) :
    eventDoneOp.run q s = (evChange Ev.release (fun _ => false) e s, .reply .done []) := by
  simp only [eventDoneOp, he, evt_val, if_pos hc, done0]

/-- Any other EVENT_DONE is ignored. -/
theorem eventDoneOp_run_ignored {q : Req} {s : State} {e : Fin 1024} (he : fieldAt q.params 0 2 = e.val)
    (hc : s.router.ev[e].claim ≠ some (byteAt q.params 2 % 4)) :
    eventDoneOp.run q s = (setDoneIgnored s, .reply (if e.val = 1023 then .done else .doneWithNote) []) := by
  simp only [eventDoneOp, he, evt_val, if_neg hc, doneOr, decide_eq_true_eq, ite_not]

/-- Settles O51: the handler releases the claim by `Ev.release`, or sets DONE_IGNORED, whose line and that of REARMED are the only ones
that can move. -/
theorem eventDoneReleasesTheClaim : Obligations.EventDoneReleasesTheClaim := by
  intro e q s hready hlen he
  have hp : eventDoneOp.paramCheck 2 q.params = none := eventDoneOp_paramCheck hlen (by omega)
  refine ⟨fun hc => ?_, fun hc => ?_⟩
  · refine completes_of_run (o := eventDoneOp) rfl hready hp (eventDoneOp_run_claimed he (by rwa [arrived_router]))
      (evChange_proto ..) ⟨evChange_only .., ?_, fun d hd => ?_⟩
    · rw [evChange_uncounted_ev, upd_self, arrived_router, Ev.release_eq]
    · rw [evChange_uncounted_ev, upd_other _ _ _ _ hd.symm, arrived_router]
  · refine completes_of_run (o := eventDoneOp) rfl hready hp (eventDoneOp_run_ignored he (by rwa [arrived_router]))
      (setLine_proto ..) ⟨setDoneIgnored_only _, setDoneIgnored_doneIgnored _, fun d h573 h574 => ?_⟩
    rw [setDoneIgnored_ev_other _ h573 h574, arrived_router]

end Sys2Proof.Machine
end

section
/-! PROOF. STATE_VOTE: refusers 8 to 15 permit what was voted for them, and from that what a vote sets and leaves (R469, R471). -/

namespace Sys2Proof.Machine

/-- A refuser from 8 on permits what was last voted for it (R469). -/
theorem permits_voter (s : State) (k : Fin 8) : permits s (8 + k.val) = s.pwr.votes[k] := by
  have hk : Fin.ofNat 8 (k.val + 8 - 8) = k := by rw [Nat.add_sub_cancel, Fin.ofNat_val_eq_self]
  calc permits s (8 + k.val)
      = permits s (k.val + 8) := by rw [Nat.add_comm]
    _ = s.pwr.votes[Fin.ofNat 8 (k.val + 8 - 8)] := rfl
    _ = s.pwr.votes[k] := by simp only [hk]

/-- `s` after a vote of `x` by refuser `8 + k`. -/
def voted (k : Fin 8) (x : Nat) (s : State) : State := { s with pwr := { s.pwr with votes := upd s.pwr.votes k x } }

theorem voted_votes_self (k : Fin 8) (x : Nat) (s : State) : (voted k x s).pwr.votes[k] = x := upd_self ..

theorem voted_votes_other {j k : Fin 8} (x : Nat) (s : State) (h : j ≠ k) : (voted k x s).pwr.votes[j] = s.pwr.votes[j] :=
  upd_other _ _ _ _ h.symm

theorem arrived_votes (q : Req) (s : State) : (arrived q s).pwr.votes = s.pwr.votes := by
  unfold arrived submitted; split <;> rfl

theorem stateVoteOp_paramCheck {p : List Byte} (hlen : p.length = 2) : stateVoteOp.paramCheck 2 p = none := by
  simp [OpSpec.paramCheck, stateVoteOp, plenLimit, Plen.expected, hlen]

/-- A vote that names refuser 0 to 7 is answered with a note (R471). -/
theorem stateVoteOp_run_own {q : Req} (s : State) (h : byteAt q.params 0 < 8) : stateVoteOp.run q s = (s, .reply .doneWithNote []) :=
  if_pos (.inl h)

/-- A vote for refuser 8 to 15 sets what it permits, SHIP at the deepest (R471). -/
theorem stateVoteOp_run_voter {q : Req} (s : State) {k : Fin 8} (h : byteAt q.params 0 = 8 + k.val) :
    stateVoteOp.run q s = (voted k (min 3 (byteAt q.params 1)) s, .reply .done []) := by
  have hin : ¬ (8 + k.val < 8 ∨ 15 < 8 + k.val) := by omega
  simp only [stateVoteOp, h, if_neg hin, Nat.add_sub_cancel_left, Fin.ofNat_val_eq_self, done0, voted]

/-- Settles O53: the handler notes the vote or sets the one entry of `votes`, which is what its refuser permits. -/
theorem votesSetThePermittedState : Obligations.VotesSetThePermittedState := by
  intro q s hready hlen
  have hp : stateVoteOp.paramCheck 2 q.params = none := stateVoteOp_paramCheck hlen
  refine ⟨fun hown => ?_, fun k hk => ?_⟩
  · exact completes_of_run (o := stateVoteOp) rfl hready hp (stateVoteOp_run_own _ hown) rfl rfl
  · refine completes_of_run (o := stateVoteOp) rfl hready hp (stateVoteOp_run_voter _ hk) rfl
      ⟨rfl, voted_votes_self .., ?_, fun j hj => ?_⟩
    · rw [permits_voter, voted_votes_self]
    · rw [voted_votes_other _ _ hj, arrived_votes]

end Sys2Proof.Machine
end

section
/-! PROOF. The store: the byte memories and the commands waiting, of which the invariant speaks. One lemma for each operation of the
model that leaves the store as it was. -/

namespace Sys2Proof.Machine

/-- The part of the state of which the invariant speaks: the image buffer, the command window, the flash banks, the commands waiting. -/
structure Store where
  /-- The image buffer. -/
  buffer : Mem
  /-- The command window. -/
  win : Mem
  /-- The flash banks. -/
  image : Vector Mem 2
  /-- The commands waiting. -/
  waiting : List Packet

/-- The state's store. -/
def State.store (s : State) : Store :=
  { buffer := s.proto.buffer, win := s.hp.win, image := s.fw.image, waiting := s.proto.waiting }

/-- The state an outcome leads to: the next state, or the one before where there is none. -/
def nextOr (s : State) : Host.Outcome State Fault Refusal → State
  | .next t => t
  | _ => s

/-- The four parts are read off the store, and the store is put together of them. -/
theorem store_rules :
    (∀ s : State, s.proto.buffer = s.store.buffer) ∧ (∀ s : State, s.hp.win = s.store.win) ∧
    (∀ s : State, s.fw.image = s.store.image) ∧ (∀ s : State, s.proto.waiting = s.store.waiting) ∧
    (∀ a b c d e f g h i j k l m n o p q r t u v w x y z w',
      (State.mk a b c d e f g h i j k l m n o p q r t u v w x y z w').store = ⟨t.buffer, u.win, z.image, t.waiting⟩) ∧
    (∀ (c : Prop) [Decidable c] (s t : State), (if c then s else t).store = if c then s.store else t.store) ∧
    (∀ s t : State, nextOr s (.next t) = t) ∧ (∀ (s : State) (f : Fault), nextOr s (.fault f) = s) ∧
    (∀ (c : Prop) [Decidable c] (s : State) (x y : Host.Outcome State Fault Refusal),
      nextOr s (if c then x else y) = if c then nextOr s x else nextOr s y) ∧
    (∀ (c : Prop) [Decidable c] (x y : State × Ans), (if c then x else y).1 = if c then x.1 else y.1) ∧
    (∀ s l, (done s l).1 = s) ∧ (∀ s, (done0 s).1 = s) ∧ (∀ s, (started s).1 = s) ∧ (∀ s l, (noted s l).1 = s) ∧
    (∀ b s l, (doneOr b s l).1 = s) ∧ (∀ s a b c, (refuse s a b c).1 = s) ∧ (∀ s a, (busy s a).1 = s) ∧ (∀ s a, (locked s a).1 = s) ∧
    (∀ s a, (absent s a).1 = s) ∧
    ∀ x : Store, Store.mk x.buffer x.win x.image x.waiting = x :=
  ⟨fun _ => rfl, fun _ => rfl, fun _ => rfl, fun _ => rfl, fun _ _ _ _ _ _ _ _ _ _ _ _ _ _ _ _ _ _ _ _ _ _ _ _ _ _ => rfl,
    fun _ _ _ _ => apply_ite .., fun _ _ => rfl, fun _ _ => rfl, fun _ _ _ _ _ => apply_ite .., fun _ _ _ _ => apply_ite .., fun _ _ => rfl, fun _ => rfl, fun _ => rfl,
    fun _ _ => rfl, fun _ _ _ => rfl, fun _ _ _ _ => rfl, fun _ _ => rfl, fun _ _ => rfl, fun _ _ => rfl, fun _ => rfl⟩

theorem foldl_store {α : Type} (f : State → α → State) (h : ∀ s x, (f s x).store = s.store) (l : List α) (s : State) :
    (l.foldl f s).store = s.store := by
  induction l generalizing s with
  | nil => rfl
  | cons x xs ih => rw [List.foldl_cons, ih, h]

/-! ## What leaves the store as it was -/

/-! ### Named operations -/

@[simp] theorem modCell_store (s : State) (c : Fin 256) (f : Cell → Cell) : (modCell s c f).store = s.store := by
  unfold modCell; simp [store_rules]
@[simp] theorem mapCells_store (s : State) (f : Nat → Cell → Cell) : (mapCells s f).store = s.store := by unfold mapCells; simp [store_rules]
@[simp] theorem modRail_store (s : State) (r : Fin 48) (f : Rail → Rail) : (modRail s r f).store = s.store := by
  unfold modRail; simp [store_rules]
@[simp] theorem mapRails_store (s : State) (f : Nat → Rail → Rail) : (mapRails s f).store = s.store := by unfold mapRails; simp [store_rules]
@[simp] theorem bump_store (s : State) : (bump s).store = s.store := by unfold bump; simp [store_rules]
@[simp] theorem resume_store (s : State) : (resume s).store = s.store := by unfold resume; simp [store_rules]
@[simp] theorem passTick_store (s : State) : (passTick s).store = s.store := by unfold passTick busTick; simp [store_rules]
@[simp] theorem losePower_store (s : State) : (losePower s).store = s.store := by unfold losePower; simp [store_rules]

/-! ### The event router -/

@[simp] theorem settle_store (s : State) (new : Router) : (settle s new).store = s.store := by unfold settle; simp [store_rules]
@[simp] theorem sendWaitingNotices_store (s : State) : (sendWaitingNotices s).store = s.store := by
  unfold sendWaitingNotices; simp [store_rules]
@[simp] theorem wakeReq_store (src : WakeSource) (s : State) : (wakeReq src s).store = s.store := by unfold wakeReq; simp [store_rules]
@[simp] theorem eventWake_store (e : Fin 1024) (was : Bool) (s : State) : (eventWake e was s).store = s.store := by
  unfold eventWake; split <;> simp [store_rules]
@[simp] theorem evChange_store (f : Ev → Ev) (counts : Ev → Bool) (e : Fin 1024) (s : State) : (evChange f counts e s).store = s.store := by
  unfold evChange; simp
@[simp] theorem pulse_store (e : Fin 1024) (s : State) : (pulse e s).store = s.store := by unfold pulse; simp [store_rules]
@[simp] theorem setLine_store (e : Fin 1024) (b : Bool) (s : State) : (setLine e b s).store = s.store := by
  unfold setLine; simp [store_rules]
@[simp] theorem releaseLines_store (s : State) : (releaseLines s).store = s.store := by
  unfold releaseLines; rw [foldl_store]; intro t x; simp [store_rules]
@[simp] theorem pulseIf_store (c : Bool) (e : Fin 1024) (s : State) : (pulseIf c e s).store = s.store := by
  unfold pulseIf; simp [store_rules]

/-! ### Flag words -/

@[simp] theorem landSet_store (m : BitVec 32) (s : State) : (landSet m s).store = s.store := by unfold landSet; simp [store_rules]
@[simp] theorem seqSet_store (m : BitVec 16) (s : State) : (seqSet m s).store = s.store := by unfold seqSet; simp [store_rules]
@[simp] theorem clkSet_store (m : BitVec 16) (s : State) : (clkSet m s).store = s.store := by unfold clkSet; simp [store_rules]
@[simp] theorem pwrSet_store (m : BitVec 16) (s : State) : (pwrSet m s).store = s.store := by unfold pwrSet; simp [store_rules]
@[simp] theorem hemSet_store (m : BitVec 16) (s : State) : (hemSet m s).store = s.store := by unfold hemSet; simp [store_rules]
@[simp] theorem hpSet_store (m : BitVec 16) (s : State) : (hpSet m s).store = s.store := by unfold hpSet; simp [store_rules]
@[simp] theorem seamSet_store (m : BitVec 16) (s : State) : (seamSet m s).store = s.store := by unfold seamSet; simp [store_rules]
@[simp] theorem fuseSet_store (m : BitVec 16) (s : State) : (fuseSet m s).store = s.store := by unfold fuseSet; simp [store_rules]
@[simp] theorem fwSet_store (m : BitVec 16) (s : State) : (fwSet m s).store = s.store := by unfold fwSet; simp [store_rules]
@[simp] theorem globSet_store (m : BitVec 16) (s : State) : (globSet m s).store = s.store := by unfold globSet; simp [store_rules]
@[simp] theorem psSet_store (m : BitVec 16) (s : State) : (psSet m s).store = s.store := by unfold psSet; simp [store_rules]
@[simp] theorem thermSet_store (m : BitVec 16) (s : State) : (thermSet m s).store = s.store := by unfold thermSet; simp [store_rules]
@[simp] theorem almSet_store (k : Fin 2) (s : State) : (almSet k s).store = s.store := by unfold almSet; simp [store_rules]

/-! ### Members -/

@[simp] theorem holdSystem_store (ch : Nat) (value : Int) (s : State) : (holdSystem ch value s).store = s.store := by
  unfold holdSystem; simp [store_rules]
@[simp] theorem serveTemps_store (s : State) : (serveTemps s).store = s.store := by unfold serveTemps; simp [store_rules]
@[simp] theorem joinTemp_store (r : TempReq) (s : State) : (joinTemp r s).store = s.store := by unfold joinTemp; simp [store_rules]
@[simp] theorem requestTemp_store (r : TempReq) (s : State) : (requestTemp r s).store = s.store := by unfold requestTemp; simp
@[simp] theorem modSeq_store (q : Fin 8) (f : TSeq → TSeq) (s : State) : (modSeq q f s).store = s.store := by
  unfold modSeq; simp [store_rules]
@[simp] theorem countEvent_store (before : Nat) (s : State) : (countEvent before s).store = s.store := by unfold countEvent; simp
@[simp] theorem trigger_store (q : Fin 8) (tick : Nat) (s : State) : (trigger q tick s).store = s.store := by
  unfold trigger; simp [store_rules]
@[simp] theorem frameTrigger_store (c : Nat) (tick : Nat) (s : State) : (frameTrigger c tick s).store = s.store := by
  unfold frameTrigger; rw [foldl_store]; intro t x; simp [store_rules]

/-! ### The rail bus -/

@[simp] theorem post_store (ms : List Msg) (s : State) : (post ms s).store = s.store := by unfold post; simp [store_rules]

/-! ### The spur plan -/

@[simp] theorem spurEval_store (s : State) : (spurEval s).store = s.store := by unfold spurEval; simp [store_rules]

/-! ### Cells, rails and the domain -/

@[simp] theorem recheckActive_store (s : State) : (recheckActive s).store = s.store := by unfold recheckActive; simp [store_rules]
@[simp] theorem pulses_store (es : List Nat) (s : State) : (pulses es s).store = s.store := by
  unfold pulses; rw [foldl_store]; intro t x; simp
@[simp] theorem pgEvent_store (r : Nat) (s : State) : (pgEvent r s).store = s.store := by unfold pgEvent; simp
@[simp] theorem targetEvent_store (r : Nat) (s : State) : (targetEvent r s).store = s.store := by unfold targetEvent; simp
@[simp] theorem changeCell_store (s : State) (c : Fin 256) (f : Cell → Cell) : (changeCell s c f).store = s.store := by
  unfold changeCell; simp [store_rules]
@[simp] theorem changeCells_store (s : State) (f : Nat → Cell → Cell) : (changeCells s f).store = s.store := by
  unfold changeCells; simp [store_rules]
@[simp] theorem changeMembers_store (s : State) (r : Nat) (f : Nat → Cell → Cell) : (changeMembers s r f).store = s.store := by
  unfold changeMembers; simp
@[simp] theorem capture_store (cause : Nat) (index : Nat) (s : State) : (capture cause index s).store = s.store := by
  unfold capture; simp [store_rules]
@[simp] theorem sendEcho_store (kind : Nat) (seq : Nat) (s : State) : (sendEcho kind seq s).store = s.store := by
  unfold sendEcho; simp [store_rules]
@[simp] theorem enterDom_store (d : DomSt) (s : State) : (enterDom d s).store = s.store := by unfold enterDom; split <;> simp [store_rules]
@[simp] theorem cancelRestart_store (s : State) : (cancelRestart s).store = s.store := by unfold cancelRestart; simp [store_rules]
@[simp] theorem enterLatched_store (s : State) : (enterLatched s).store = s.store := by unfold enterLatched; simp [store_rules]
@[simp] theorem domLoseVin_store (s : State) : (domLoseVin s).store = s.store := by unfold domLoseVin; simp [store_rules]
@[simp] theorem sendPhase_store (r : Nat) (before : PhaseCtx) (s0 : State) : (sendPhase r before s0).store = s0.store := by
  unfold sendPhase; simp [store_rules]
@[simp] theorem changePhase_store (r : Nat) (f : PhaseCtx → PhaseCtx) (s : State) : (changePhase r f s).store = s.store := by
  unfold changePhase; simp
@[simp] theorem leaveRails_store (out : Rail → Bool) (st : RailSt) (s : State) : (leaveRails out st s).store = s.store := by
  unfold leaveRails; rw [foldl_store, mapRails_store]; intro t x; simp
@[simp] theorem leaveRail_store (r : Nat) (st : RailSt) (s : State) : (leaveRail r st s).store = s.store := by unfold leaveRail; simp
@[simp] theorem abortProbe_store (s : State) : (abortProbe s).store = s.store := by unfold abortProbe; simp [store_rules]
@[simp] theorem stopAllArming_store (s : State) : (stopAllArming s).store = s.store := by unfold stopAllArming; simp [store_rules]
@[simp] theorem stopArming_store (r : Nat) (s : State) : (stopArming r s).store = s.store := by unfold stopArming; simp [store_rules]
@[simp] theorem shutOff_store (s : State) : (shutOff s).store = s.store := by unfold shutOff; simp
@[simp] theorem faultRun_store (index : Nat) (s : State) : (faultRun index s).store = s.store := by unfold faultRun; simp [store_rules]
@[simp] theorem offEvents_store (before : State) (after : State) : (offEvents before after).store = after.store := by unfold offEvents; simp
@[simp] theorem faultConfined_store (r : Nat) (s : State) : (faultConfined r s).store = s.store := by unfold faultConfined; simp
@[simp] theorem railFault_store (r : Nat) (ov : Bool) (s : State) : (railFault r ov s).store = s.store := by
  unfold railFault; simp [store_rules]
@[simp] theorem dropMembers_store (r : Nat) (s : State) : (dropMembers r s).store = s.store := by unfold dropMembers; simp
@[simp] theorem abandonRail_store (r : Nat) (s : State) : (abandonRail r s).store = s.store := by unfold abandonRail; simp
@[simp] theorem stopRail_store (r : Nat) (imm : Bool) (s : State) : (stopRail r imm s).store = s.store := by
  unfold stopRail; dsimp only; split <;> (try split) <;> simp
@[simp] theorem assignRoles_store (s : State) (r : Nat) (lead : Nat) (order : List Nat) : (assignRoles s r lead order).store = s.store := by
  unfold assignRoles; simp
@[simp] theorem beginRail_store (r : Nat) (s : State) : (beginRail r s).store = s.store := by unfold beginRail; split <;> simp [store_rules]
@[simp] theorem startRail_store (r : Nat) (s : State) : (startRail r s).store = s.store := by unfold startRail; simp [store_rules]
@[simp] theorem retarget_store (r : Nat) (code : Nat) (s : State) : (retarget r code s).store = s.store := by
  unfold retarget; simp [store_rules]
@[simp] theorem formIndex_store (r : Nat) (s : State) : (formIndex r s).store = s.store := by unfold formIndex; simp [store_rules]
@[simp] theorem countedFall_store (r : Nat) (s : State) : (countedFall r s).store = s.store := by unfold countedFall; simp [store_rules]
@[simp] theorem pgChange_store (r : Fin 48) (f : Rail → Rail) (s : State) : (pgChange r f s).store = s.store := by
  unfold pgChange; simp [store_rules]
@[simp] theorem nextUp_store (k : Nat) (s : State) : (nextUp k s).store = s.store := by unfold nextUp; split <;> simp [store_rules]
@[simp] theorem beginUp_store (s : State) : (beginUp s).store = s.store := by unfold beginUp; simp [store_rules]
@[simp] theorem enterRising_store (s : State) : (enterRising s).store = s.store := by unfold enterRising; simp [store_rules]
@[simp] theorem endRun_store (s : State) : (endRun s).store = s.store := by unfold endRun; simp [store_rules]
@[simp] theorem nextDown_store (k : Nat) (s : State) : (nextDown k s).store = s.store := by unfold nextDown; split <;> simp [store_rules]
@[simp] theorem beginDown_store (s : State) : (beginDown s).store = s.store := by unfold beginDown; simp [store_rules]
@[simp] theorem enterFalling_store (latch : Bool) (s : State) : (enterFalling latch s).store = s.store := by
  unfold enterFalling; simp [store_rules]
@[simp] theorem failStart_store (index : Nat) (s : State) : (failStart index s).store = s.store := by unfold failStart; simp [store_rules]
@[simp] theorem startSlot_store (k : Nat) (s : State) : (startSlot k s).store = s.store := by
  unfold startSlot; dsimp only; split
  · simp [store_rules]
  · split <;> simp only [failStart_store, mapRails_store]
    all_goals
      rw [foldl_store]
      · simp [store_rules]
      · intro t x; simp [store_rules]

/-! ### Operands -/

@[simp] theorem done_store (s : State) (result : List Byte) : (done s result).1.store = s.store := by unfold done; simp
@[simp] theorem done0_store (s : State) : (done0 s).1.store = s.store := by unfold done0; simp
@[simp] theorem started_store (s : State) : (started s).1.store = s.store := by unfold started; simp
@[simp] theorem noted_store (s : State) (result : List Byte) : (noted s result).1.store = s.store := by unfold noted; simp
@[simp] theorem doneOr_store (note : Bool) (s : State) (result : List Byte) : (doneOr note s result).1.store = s.store := by
  unfold doneOr; simp
@[simp] theorem refuse_store (s : State) (kind : Nat) (code : Nat) (subject : Nat) : (refuse s kind code subject).1.store = s.store := by
  unfold refuse; simp
@[simp] theorem busy_store (s : State) (cause : Nat) : (busy s cause).1.store = s.store := by unfold busy; simp
@[simp] theorem locked_store (s : State) (cause : Nat) : (locked s cause).1.store = s.store := by unfold locked; simp
@[simp] theorem absent_store (s : State) (offset : Nat) : (absent s offset).1.store = s.store := by unfold absent; simp

/-! ### The interpreter -/

@[simp] theorem deliver_store (p : Packet) (r : Reply) (s : State) : (deliver p r s).store = s.store := by
  unfold deliver; split <;> simp [store_rules]
@[simp] theorem noteCheck_store (st : Status) (s : State) : (noteCheck st s).store = s.store := by unfold noteCheck; simp [store_rules]
@[simp] theorem answer_store (p : Packet) (st : Status) (result : List Byte) (s0 : State) : (answer p st result s0).store = s0.store := by
  unfold answer; simp [store_rules]
@[simp] theorem answerKept_store (p : Packet) (k : Reply) (s : State) : (answerKept p k s).store = s.store := by
  unfold answerKept; simp [store_rules]
@[simp] theorem submitted_store (s : State) : (submitted s).store = s.store := by unfold submitted; simp [store_rules]
@[simp] theorem nackBusy_store (s : State) : (nackBusy s).store = s.store := by unfold nackBusy; simp
@[simp] theorem bufferCommand_store (p : Packet) (s : State) : (bufferCommand p s).store = s.store := by
  unfold bufferCommand; simp [store_rules]
@[simp] theorem answerDropped_store (s : State) : (answerDropped s).store = s.store := by
  unfold answerDropped; rw [foldl_store]
  · simp [store_rules]
  · intro t x; simp
@[simp] theorem adoptAddress_store (s : State) : (adoptAddress s).store = s.store := by unfold adoptAddress; split <;> simp [store_rules]

/-! ### One power cell -/

@[simp] theorem busRx_store (c : Fin 256) (e : Ecc) (act : State → State) (s : State) (h : ∀ s, (act s).store = s.store) :
    (busRx c e act s).store = s.store := by
  unfold busRx; split <;> simp [h]
@[simp] theorem latch_store (sel : Msg → Bool) (c : Fin 256) (e : Ecc) (act : Msg → State → State) (s : State)
    (h : ∀ m s, (act m s).store = s.store) : (latch sel c e act s).store = s.store := by
  unfold latch; split <;> simp [h, store_rules]
@[simp] theorem abandonStart_store (r : Nat) (s : State) : (abandonStart r s).store = s.store := by unfold abandonStart; simp [store_rules]
@[simp] theorem memberLost_store (r : Nat) (s : State) : (memberLost r s).store = s.store := by unfold memberLost; simp [store_rules]
@[simp] theorem isolateCell_store (c : Fin 256) (cause : BitVec 8) (s : State) : (isolateCell c cause s).store = s.store := by
  unfold isolateCell; dsimp only; split <;> (try split) <;> simp
@[simp] theorem execCellFault_store (c : Fin 256) (cause : BitVec 8) (s : State) :
    (nextOr s (execCellFault c cause s)).store = s.store := by
  unfold execCellFault; simp [store_rules]
@[simp] theorem execInputSwitch_store (c : Fin 256) (s : State) : (nextOr s (execInputSwitch c s)).store = s.store := by
  unfold execInputSwitch; simp [store_rules]
@[simp] theorem execIslandClock_store (c : Fin 256) (kHz : Nat) (s : State) : (nextOr s (execIslandClock c kHz s)).store = s.store := by
  unfold execIslandClock; simp [store_rules]
@[simp] theorem execInputNodeReady_store (c : Fin 256) (s : State) : (nextOr s (execInputNodeReady c s)).store = s.store := by
  unfold execInputNodeReady; simp [store_rules]
@[simp] theorem execBusSilent_store (c : Fin 256) (s : State) : (nextOr s (execBusSilent c s)).store = s.store := by
  unfold execBusSilent; simp [store_rules]
@[simp] theorem execIsolate_store (c : Fin 256) (cause : BitVec 8) (ecc : Ecc) (s : State) :
    (nextOr s (execIsolate c cause ecc s)).store = s.store := by
  unfold execIsolate; simp [store_rules]
@[simp] theorem execReservedMessage_store (c : Fin 256) (type : Nat) (ecc : Ecc) (s : State) :
    (nextOr s (execReservedMessage c type ecc s)).store = s.store := by
  unfold execReservedMessage; simp [store_rules]
@[simp] theorem execPeakTrip_store (p : PeakCross) (s : State) : (nextOr s (execPeakTrip p s)).store = s.store := by
  unfold execPeakTrip; simp [store_rules]
@[simp] theorem execZeroCross_store (c : Fin 256) (s : State) : (nextOr s (execZeroCross c s)).store = s.store := by
  unfold execZeroCross; simp [store_rules]
@[simp] theorem changePhasing_store (c : Fin 256) (f : Cell → Cell) (s : State) : (changePhasing c f s).store = s.store := by
  unfold changePhasing; simp
@[simp] theorem execPwmPeriodBoundary_store (c : Fin 256) (avg : Int) (s : State) :
    (nextOr s (execPwmPeriodBoundary c avg s)).store = s.store := by
  unfold execPwmPeriodBoundary; split <;> simp [store_rules]
@[simp] theorem stepDetect_store (r : Nat) (code : Int) (s : State) : (stepDetect r code s).store = s.store := by
  unfold stepDetect; simp [store_rules]
@[simp] theorem execErrorSample_store (c : Fin 256) (diff : Int) (s : State) : (nextOr s (execErrorSample c diff s)).store = s.store := by
  unfold execErrorSample; split <;> simp [store_rules]
@[simp] theorem execHeartbeat_store (c : Fin 256) (src : Fin 256) (count : Nat) (ecc : Ecc) (s : State) :
    (nextOr s (execHeartbeat c src count ecc s)).store = s.store := by
  unfold execHeartbeat; simp [store_rules]
@[simp] theorem execShadow_store (c : Fin 256) (src : Fin 256) (index : Fin 8) (word : BitVec 32) (ecc : Ecc) (s : State) :
    (nextOr s (execShadow c src index word ecc s)).store = s.store := by
  unfold execShadow; simp [store_rules]
@[simp] theorem execDuty_store (c : Fin 256) (on : BitVec 16) (ecc : Ecc) (s : State) :
    (nextOr s (execDuty c on ecc s)).store = s.store := by
  unfold execDuty; simp [store_rules]
@[simp] theorem execReference_store (c : Fin 256) (code : BitVec 16) (ecc : Ecc) (s : State) :
    (nextOr s (execReference c code ecc s)).store = s.store := by
  unfold execReference; simp [store_rules]
@[simp] theorem execCurrent_store (c : Fin 256) (src : Fin 256) (word : BitVec 32) (ecc : Ecc) (s : State) :
    (nextOr s (execCurrent c src word ecc s)).store = s.store := by
  unfold execCurrent; simp [store_rules]
@[simp] theorem execStatusRd_store (c : Fin 256) (index : Nat) (ecc : Ecc) (s : State) :
    (nextOr s (execStatusRd c index ecc s)).store = s.store := by
  unfold execStatusRd; simp [store_rules]
@[simp] theorem execStatusReply_store (c : Fin 256) (s : State) : (nextOr s (execStatusReply c s)).store = s.store := by
  unfold execStatusReply; simp [store_rules]
@[simp] theorem configWord_store (c : Fin 256) (m : Msg) (s : State) : (configWord c m s).store = s.store := by
  unfold configWord; split <;> simp [store_rules]
@[simp] theorem execArm_store (c : Fin 256) (ecc : Ecc) (s : State) : (nextOr s (execArm c ecc s)).store = s.store := by
  unfold execArm; simp [store_rules]
@[simp] theorem execApply_store (c : Fin 256) (word : BitVec 32) (ecc : Ecc) (s : State) :
    (nextOr s (execApply c word ecc s)).store = s.store := by
  unfold execApply; simp [store_rules]
@[simp] theorem execPendShed_store (c : Fin 256) (word : BitVec 32) (ecc : Ecc) (s : State) :
    (nextOr s (execPendShed c word ecc s)).store = s.store := by
  unfold execPendShed; simp [store_rules]
@[simp] theorem execCancel_store (c : Fin 256) (word : BitVec 32) (ecc : Ecc) (s : State) :
    (nextOr s (execCancel c word ecc s)).store = s.store := by
  unfold execCancel; simp [store_rules]

/-! ### Clearing flags -/

@[simp] theorem clearCell_store (c : Fin 256) (mask : Nat) (s : State) : (clearCell c mask s).store = s.store := by unfold clearCell; simp
@[simp] theorem clearProt_store (r : Nat) (mask : Nat) (s : State) : (clearProt r mask s).store = s.store := by
  unfold clearProt; simp [store_rules]
@[simp] theorem clearRm_store (r : Nat) (mask : Nat) (s : State) : (clearRm r mask s).store = s.store := by unfold clearRm; simp
@[simp] theorem clearReg_store (r : Nat) (mask : Nat) (s : State) : (clearReg r mask s).store = s.store := by unfold clearReg; simp
@[simp] theorem clearCrease_store (k : Nat) (mask : Nat) (s : State) : (clearCrease k mask s).store = s.store := by
  unfold clearCrease; simp [store_rules]
@[simp] theorem clearClk_store (mask : Nat) (s : State) : (clearClk mask s).store = s.store := by unfold clearClk; simp [store_rules]
@[simp] theorem clearLand_store (mask : Nat) (s : State) : (clearLand mask s).store = s.store := by unfold clearLand; simp [store_rules]
@[simp] theorem clearSeq_store (mask : Nat) (s : State) : (clearSeq mask s).store = s.store := by unfold clearSeq; simp [store_rules]
@[simp] theorem clearTherm_store (mask : Nat) (s : State) : (clearTherm mask s).store = s.store := by unfold clearTherm; simp [store_rules]
@[simp] theorem clearPwr_store (mask : Nat) (s : State) : (clearPwr mask s).store = s.store := by unfold clearPwr; simp [store_rules]
@[simp] theorem clearHem_store (mask : Nat) (s : State) : (clearHem mask s).store = s.store := by unfold clearHem; simp [store_rules]
@[simp] theorem clearSeam_store (mask : Nat) (s : State) : (clearSeam mask s).store = s.store := by unfold clearSeam; simp [store_rules]
@[simp] theorem clearRouter_store (mask : Nat) (s : State) : (clearRouter mask s).store = s.store := by unfold clearRouter; simp [store_rules]
@[simp] theorem clearPs_store (mask : Nat) (s : State) : (clearPs mask s).store = s.store := by unfold clearPs; simp [store_rules]
@[simp] theorem clearFuse_store (mask : Nat) (s : State) : (clearFuse mask s).store = s.store := by unfold clearFuse; simp [store_rules]
@[simp] theorem clearFw_store (mask : Nat) (s : State) : (clearFw mask s).store = s.store := by unfold clearFw; simp [store_rules]
@[simp] theorem clearHp_store (mask : Nat) (s : State) : (clearHp mask s).store = s.store := by unfold clearHp; simp [store_rules]
@[simp] theorem clearGlob_store (mask : Nat) (s : State) : (clearGlob mask s).store = s.store := by unfold clearGlob; simp [store_rules]
theorem clearScope_store {k i m : Nat} {s t : State} (h : clearScope k i m s = some t) : t.store = s.store := by
  unfold clearScope at h; split at h
  all_goals (cases h; try simp)

/-! ### Fuses -/

@[simp] theorem noteMarginal_store (locs : List Nat) (s : State) : (noteMarginal locs s).store = s.store := by
  unfold noteMarginal; rw [foldl_store]; intro t x; simp [store_rules]
@[simp] theorem fuseChecks_store (full : Bool) (s : State) : (fuseChecks full s).store = s.store := by unfold fuseChecks; simp [store_rules]
@[simp] theorem burn_store (job : BurnJob) (r : BurnResult) (s : State) : (burn job r s).store = s.store := by
  unfold burn; split <;> simp [store_rules]
@[simp] theorem cutBurn_store (job : BurnJob) (s : State) : (cutBurn job s).store = s.store := by unfold cutBurn; simp [store_rules]
@[simp] theorem otpReadOp_store (q : Req) (s : State) : (otpReadOp.run q s).1.store = s.store := by unfold otpReadOp; simp [store_rules]
@[simp] theorem otpProgramOp_store (q : Req) (s : State) : (otpProgramOp.run q s).1.store = s.store := by
  unfold otpProgramOp withBurn; dsimp only; repeat' split
  all_goals simp [store_rules]
@[simp] theorem otpFinaliseOp_store (q : Req) (s : State) : (otpFinaliseOp.run q s).1.store = s.store := by
  unfold otpFinaliseOp withBurn; dsimp only; repeat' split
  all_goals simp [store_rules]
@[simp] theorem otpDarnOp_store (q : Req) (s : State) : (otpDarnOp.run q s).1.store = s.store := by
  unfold otpDarnOp withBurn; dsimp only; repeat' split
  all_goals simp [store_rules]
@[simp] theorem lifecycleAdvanceOp_store (q : Req) (s : State) : (lifecycleAdvanceOp.run q s).1.store = s.store := by
  unfold lifecycleAdvanceOp withBurn; dsimp only; repeat' split
  all_goals simp [store_rules]
@[simp] theorem otpHealthOp_store (q : Req) (s : State) : (otpHealthOp.run q s).1.store = s.store := by
  unfold otpHealthOp; simp [store_rules]
@[simp] theorem releaseCritical_store (s : State) : (releaseCritical s).store = s.store := by unfold releaseCritical; simp [store_rules]
@[simp] theorem nextBurn_store (job : BurnJob) (s : State) : (nextBurn job s).store = s.store := by unfold nextBurn; simp [store_rules]

/-! ### Regulation -/

@[simp] theorem refuseRail_store (s : State) (r : Nat) : (refuseRail s r).1.store = s.store := by unfold refuseRail; simp [store_rules]
@[simp] theorem railEnableOp_store (q : Req) (s : State) : (railEnableOp.run q s).1.store = s.store := by
  unfold railEnableOp; dsimp only; repeat' split
  all_goals simp [store_rules]
@[simp] theorem railDisableOp_store (q : Req) (s : State) : (railDisableOp.run q s).1.store = s.store := by
  unfold railDisableOp; simp [store_rules]
@[simp] theorem setTarget_store (r : Nat) (sp : SetPt) (code : Nat) (s : State) : (setTarget r sp code s).store = s.store := by
  unfold setTarget; simp
@[simp] theorem railSetTargetOp_store (q : Req) (s : State) : (railSetTargetOp.run q s).1.store = s.store := by
  unfold railSetTargetOp; dsimp only; split <;> (try split) <;> simp [store_rules]
@[simp] theorem storeSetpoint_store (r : Nat) (i : Nat) (code : Nat) (s : State) : (storeSetpoint r i code s).store = s.store := by
  unfold storeSetpoint; simp [store_rules]
@[simp] theorem railStoreSetpointOp_store (q : Req) (s : State) : (railStoreSetpointOp.run q s).1.store = s.store := by
  unfold railStoreSetpointOp; simp [store_rules]
@[simp] theorem railBindSelectOp_store (q : Req) (s : State) : (railBindSelectOp.run q s).1.store = s.store := by
  unfold railBindSelectOp; simp [store_rules]
@[simp] theorem execSelChange_store (pin : Fin 12) (level : Bool) (s : State) : (nextOr s (execSelChange pin level s)).store = s.store := by
  have h : ∀ (l : List Nat) (t : State), (l.foldl (fun t r => formIndex r t) t).store = t.store :=
    fun l t => foldl_store _ (fun t x => by simp) l t
  unfold execSelChange; simp [store_rules, h]
@[simp] theorem railSetSlewOp_store (q : Req) (s : State) : (railSetSlewOp.run q s).1.store = s.store := by
  unfold railSetSlewOp; simp [store_rules]
@[simp] theorem afterWords_store (r : Nat) (s : State) : (afterWords r s).1.store = s.store := by unfold afterWords; simp [store_rules]
@[simp] theorem sendCoef_store (r : Nat) (c : Coef) (s : State) : (sendCoef r c s).store = s.store := by unfold sendCoef; simp
@[simp] theorem railSetCompOp_store (q : Req) (s : State) : (railSetCompOp.run q s).1.store = s.store := by
  unfold railSetCompOp; simp [store_rules]
@[simp] theorem railGetStateOp_store (q : Req) (s : State) : (railGetStateOp.run q s).1.store = s.store := by
  unfold railGetStateOp; simp [store_rules]
@[simp] theorem execPrestartMeasureDone_store (r : Fin 48) (vin0 : Nat) (sense0 : Int) (co0 : Int) (s0 : State) :
    (nextOr s0 (execPrestartMeasureDone r vin0 sense0 co0 s0)).store = s0.store := by
  unfold execPrestartMeasureDone; simp [store_rules]
@[simp] theorem execArmGroupDue_store (s : State) : (nextOr s (execArmGroupDue s)).store = s.store := by
  unfold execArmGroupDue; simp [store_rules]
@[simp] theorem execDemHoldEnd_store (r : Fin 48) (s : State) : (nextOr s (execDemHoldEnd r s)).store = s.store := by
  unfold execDemHoldEnd; simp [store_rules]
@[simp] theorem execRailStopped_store (r : Fin 48) (s : State) : (nextOr s (execRailStopped r s)).store = s.store := by
  unfold execRailStopped; simp [store_rules]

/-! ### Phases and creases -/

@[simp] theorem changeCrease_store (x : Fin 8) (f : Crease → Crease) (s : State) : (changeCrease x f s).store = s.store := by
  unfold changeCrease; simp [store_rules]
@[simp] theorem execDwellEnd_store (r : Fin 48) (s : State) : (nextOr s (execDwellEnd r s)).store = s.store := by
  unfold execDwellEnd; simp [store_rules]
@[simp] theorem execHoldoffEnd_store (r : Fin 48) (s : State) : (nextOr s (execHoldoffEnd r s)).store = s.store := by
  unfold execHoldoffEnd; simp [store_rules]
@[simp] theorem execTumbleDue_store (r : Fin 48) (s : State) : (nextOr s (execTumbleDue r s)).store = s.store := by
  unfold execTumbleDue; simp [store_rules]
@[simp] theorem takeStrobe_store (t : Nat) (s : State) : (takeStrobe t s).1.store = s.store := by
  unfold takeStrobe; dsimp only; split <;> (try split) <;> simp [store_rules]
@[simp] theorem frameStarts_store (x : Fin 8) (old : Crease) (s : State) : (frameStarts x old s).store = s.store := by
  unfold frameStarts; simp [store_rules]
@[simp] theorem execFrameStrobe_store (x : Fin 8) (t : Nat) (s : State) : (nextOr s (execFrameStrobe x t s)).store = s.store := by
  unfold execFrameStrobe; dsimp only; split <;> (try split) <;> simp [store_rules]
@[simp] theorem execMissed_store (x : Fin 8) (s : State) : (nextOr s (execMissed x s)).store = s.store := by
  unfold execMissed; simp [store_rules]
@[simp] theorem execFrameInAbsent_store (s : State) : (nextOr s (execFrameInAbsent s)).store = s.store := by
  unfold execFrameInAbsent; simp [store_rules]
@[simp] theorem phasePolicyOp_store (q : Req) (s : State) : (phasePolicyOp.run q s).1.store = s.store := by
  unfold phasePolicyOp; simp [store_rules]
@[simp] theorem firingOrderOp_store (q : Req) (s : State) : (firingOrderOp.run q s).1.store = s.store := by
  unfold firingOrderOp; simp [store_rules]
@[simp] theorem creaseConfigOp_store (q : Req) (s : State) : (creaseConfigOp.run q s).1.store = s.store := by
  unfold creaseConfigOp; simp only [store_rules]; rw [foldl_store]
  · simp
  · intro t x; simp [store_rules]
@[simp] theorem creaseReadOp_store (q : Req) (s : State) : (creaseReadOp.run q s).1.store = s.store := by
  unfold creaseReadOp; simp [store_rules]
@[simp] theorem creaseClearOp_store (q : Req) (s : State) : (creaseClearOp.run q s).1.store = s.store := by
  unfold creaseClearOp; simp [store_rules]
@[simp] theorem phaseStatusOp_store (q : Req) (s : State) : (phaseStatusOp.run q s).1.store = s.store := by
  unfold phaseStatusOp; simp [store_rules]

/-! ### The rail map -/

@[simp] theorem recheckNaming_store (c : Nat) (s : State) : (recheckNaming c s).store = s.store := by unfold recheckNaming; simp [store_rules]
@[simp] theorem recheckStaged_store (s : State) : (recheckStaged s).store = s.store := by unfold recheckStaged; simp [store_rules]
@[simp] theorem stageEntries_store (first : Nat) (es : List MapEntry) (s : State) : (stageEntries first es s).store = s.store := by
  unfold stageEntries; simp [store_rules]
@[simp] theorem railmapSetOp_store (q : Req) (s : State) : (railmapSetOp.run q s).1.store = s.store := by
  unfold railmapSetOp; simp [store_rules]
@[simp] theorem railmapGetOp_store (q : Req) (s : State) : (railmapGetOp.run q s).1.store = s.store := by
  unfold railmapGetOp; simp [store_rules]
@[simp] theorem writeMembership_store (r : Nat) (s : State) : (writeMembership r s).store = s.store := by
  unfold writeMembership; simp [store_rules]
@[simp] theorem copyMap_store (s : State) : (copyMap s).store = s.store := by
  unfold copyMap; simp only [spurEval_store]; rw [foldl_store]
  · simp [store_rules]
  · intro t x; simp
@[simp] theorem railmapApplyOp_store (q : Req) (s : State) : (railmapApplyOp.run q s).1.store = s.store := by
  unfold railmapApplyOp; simp [store_rules]
@[simp] theorem judgeWaiting_store (s : State) : (judgeWaiting s).store = s.store := by unfold judgeWaiting; split <;> simp
@[simp] theorem startProbe_store (s : State) : (startProbe s).store = s.store := by unfold startProbe; simp [store_rules]
@[simp] theorem tackProbeOp_store (q : Req) (s : State) : (tackProbeOp.run q s).1.store = s.store := by
  unfold tackProbeOp; dsimp only; split <;> (try split) <;> simp [store_rules]
@[simp] theorem execTackDischargeLook_store (above : BitVec 256) (last : Bool) (s : State) :
    (nextOr s (execTackDischargeLook above last s)).store = s.store := by
  unfold execTackDischargeLook; simp [store_rules]
@[simp] theorem execTackSlotEnd_store (c : Fin 256) (amps : List Nat) (fault : Bool) (s : State) :
    (nextOr s (execTackSlotEnd c amps fault s)).store = s.store := by
  unfold execTackSlotEnd; simp [store_rules]
@[simp] theorem execTackDone_store (s : State) : (nextOr s (execTackDone s)).store = s.store := by unfold execTackDone; simp [store_rules]
@[simp] theorem tackResultOp_store (q : Req) (s : State) : (tackResultOp.run q s).1.store = s.store := by
  unfold tackResultOp; simp [store_rules]

/-! ### Protection -/

@[simp] theorem limitsSetOp_store (q : Req) (s : State) : (limitsSetOp.run q s).1.store = s.store := by unfold limitsSetOp; simp
@[simp] theorem windowSetOp_store (q : Req) (s : State) : (windowSetOp.run q s).1.store = s.store := by
  unfold windowSetOp; simp [store_rules]
@[simp] theorem execOvTrip_store (r : Fin 48) (s : State) : (nextOr s (execOvTrip r s)).store = s.store := by
  unfold execOvTrip; simp [store_rules]
@[simp] theorem execUvTrip_store (r : Fin 48) (s : State) : (nextOr s (execUvTrip r s)).store = s.store := by
  unfold execUvTrip; simp [store_rules]
@[simp] theorem execThresholdReadback_store (r : Fin 48) (ov : Nat) (uv : Nat) (s0 : State) :
    (nextOr s0 (execThresholdReadback r ov uv s0)).store = s0.store := by
  unfold execThresholdReadback; simp [store_rules]
@[simp] theorem execSenseFault_store (r : Fin 48) (s : State) : (nextOr s (execSenseFault r s)).store = s.store := by
  unfold execSenseFault; simp [store_rules]
@[simp] theorem execNegLimitRelease_store (r : Fin 48) (s : State) : (nextOr s (execNegLimitRelease r s)).store = s.store := by
  unfold execNegLimitRelease; simp [store_rules]
@[simp] theorem retireCell_store (c : Fin 256) (s : State) : (retireCell c s).store = s.store := by
  unfold retireCell; dsimp only; split <;> (try split) <;> simp [store_rules]
@[simp] theorem cellRetireOp_store (q : Req) (s : State) : (cellRetireOp.run q s).1.store = s.store := by
  unfold cellRetireOp; dsimp only; repeat' split
  all_goals simp [store_rules]
@[simp] theorem overIsolate_store (c : Fin 256) (s : State) : (overIsolate c s).store = s.store := by unfold overIsolate; simp [store_rules]
@[simp] theorem cellRestoreOp_store (q : Req) (s : State) : (cellRestoreOp.run q s).1.store = s.store := by
  unfold cellRestoreOp; simp [store_rules]
@[simp] theorem faultClearOp_store (q : Req) (s : State) : (faultClearOp.run q s).1.store = s.store := by
  unfold faultClearOp; dsimp only; split
  · rfl
  · split
    · rfl
    · next t h =>
      have := clearScope_store h
      repeat' split
      all_goals simpa [store_rules] using this
@[simp] theorem restoreCell_store (c : Fin 256) (s : State) : (restoreCell c s).store = s.store := by unfold restoreCell; simp
@[simp] theorem coverageReportOp_store (q : Req) (s : State) : (coverageReportOp.run q s).1.store = s.store := by
  unfold coverageReportOp; simp [store_rules]

/-! ### The control tick -/

@[simp] theorem sendCurrents_store (r : Nat) (s : State) : (sendCurrents r s).store = s.store := by unfold sendCurrents; simp
@[simp] theorem clearTerm_store (lead : Nat) (s : State) : (clearTerm lead s).store = s.store := by unfold clearTerm; simp
@[simp] theorem sendTerm_store (r : Nat) (lead : Nat) (t : Nat) (s : State) : (sendTerm r lead t s).store = s.store := by
  unfold sendTerm; split <;> simp
@[simp] theorem reached_store (r : Nat) (s : State) : (reached r s).store = s.store := by unfold reached; simp [store_rules]
@[simp] theorem stepReference_store (r : Nat) (s : State) : (stepReference r s).store = s.store := by unfold stepReference; simp
@[simp] theorem sinkLimit_store (r : Nat) (i : Int) (s : State) : (sinkLimit r i s).store = s.store := by unfold sinkLimit; simp [store_rules]
@[simp] theorem creaseLearn_store (r : Nat) (t : Nat) (s : State) : (creaseLearn r t s).store = s.store := by
  unfold creaseLearn; split <;> simp [store_rules]
@[simp] theorem leaderSends_store (r : Nat) (lead : Nat) (s : State) : (leaderSends r lead s).store = s.store := by unfold leaderSends; simp
@[simp] theorem endTick_store (r : Nat) (lead : Nat) (t : Nat) (s : State) : (endTick r lead t s).store = s.store := by unfold endTick; simp
@[simp] theorem leadTick_store (r : Nat) (lead : Nat) (t : Nat) (s : State) : (leadTick r lead t s).store = s.store := by unfold leadTick; simp
@[simp] theorem releaseRail_store (r : Nat) (lead : Nat) (t : Nat) (s : State) : (releaseRail r lead t s).store = s.store := by
  unfold releaseRail; simp
@[simp] theorem hubTick_store (r : Nat) (t : Nat) (s : State) : (hubTick r t s).store = s.store := by unfold hubTick; simp
@[simp] theorem creaseSpoil_store (r : Nat) (s : State) : (creaseSpoil r s).store = s.store := by
  unfold creaseSpoil; split <;> simp [store_rules]
@[simp] theorem tickRail_store (r : Nat) (s : State) : (tickRail r s).store = s.store := by unfold tickRail; simp [store_rules]
@[simp] theorem execControlTick_store (r : Fin 48) (s : State) : (nextOr s (execControlTick r s)).store = s.store := by
  unfold execControlTick; simp [store_rules]
@[simp] theorem takeOver_store (r : Nat) (n : Nat) (s : State) : (takeOver r n s).store = s.store := by unfold takeOver; simp [store_rules]
@[simp] theorem hubJudge_store (r : Nat) (s : State) : (hubJudge r s).store = s.store := by unfold hubJudge; simp [store_rules]
@[simp] theorem rivalBeats_store (r : Nat) (ns : List Nat) (s : State) : (rivalBeats r ns s).store = s.store := by unfold rivalBeats; simp
@[simp] theorem execCheckPoint_store (r : Fin 48) (s : State) : (nextOr s (execCheckPoint r s)).store = s.store := by
  unfold execCheckPoint; dsimp only; split <;> (try split) <;> simp [store_rules]
@[simp] theorem rewriteRanks_store (r : Nat) (s : State) : (rewriteRanks r s).store = s.store := by unfold rewriteRanks; simp [store_rules]
@[simp] theorem dropFormer_store (r : Nat) (s : State) : (dropFormer r s).store = s.store := by
  unfold dropFormer; rw [foldl_store]; intro t x; simp [store_rules]
@[simp] theorem execRankRewrite_store (r : Fin 48) (s : State) : (nextOr s (execRankRewrite r s)).store = s.store := by
  unfold execRankRewrite; simp [store_rules]

/-! ### Clocks -/

@[simp] theorem holdOffset_store (s : State) : (holdOffset s).store = s.store := by unfold holdOffset; simp [store_rules]
@[simp] theorem updateU_store (s : State) : (updateU s).store = s.store := by unfold updateU; simp [store_rules]
@[simp] theorem setTb_store (st : TbSt) (s : State) : (setTb st s).store = s.store := by unfold setTb; simp [store_rules]
@[simp] theorem enterSlide_store (s : State) : (enterSlide s).store = s.store := by unfold enterSlide; simp [store_rules]
@[simp] theorem tbCheck_store (s : State) : (tbCheck s).store = s.store := by unfold tbCheck; simp [store_rules]
@[simp] theorem setRef_store (st : RefSt) (left : Nat) (s : State) : (setRef st left s).store = s.store := by
  unfold setRef; simp [store_rules]
@[simp] theorem loseRef_store (s : State) : (loseRef s).store = s.store := by unfold loseRef; simp [store_rules]
@[simp] theorem startQual_store (s : State) : (startQual s).store = s.store := by unfold startQual; simp [store_rules]
@[simp] theorem requalify_store (s : State) : (requalify s).store = s.store := by unfold requalify; simp [store_rules]
@[simp] theorem execSyncInPresent_store (s : State) : (nextOr s (execSyncInPresent s)).store = s.store := by
  unfold execSyncInPresent; simp [store_rules]
@[simp] theorem execSyncRange_store (s : State) : (nextOr s (execSyncRange s)).store = s.store := by
  unfold execSyncRange; simp [store_rules]
@[simp] theorem execSyncMeasurement_store (m : SyncReading) (s0 : State) : (nextOr s0 (execSyncMeasurement m s0)).store = s0.store := by
  unfold execSyncMeasurement; simp [store_rules]
@[simp] theorem execQualified_store (s : State) : (nextOr s (execQualified s)).store = s.store := by
  unfold execQualified; simp [store_rules]
@[simp] theorem execLocked_store (s : State) : (nextOr s (execLocked s)).store = s.store := by unfold execLocked; simp [store_rules]
@[simp] theorem execSlideDone_store (s : State) : (nextOr s (execSlideDone s)).store = s.store := by
  unfold execSlideDone; simp [store_rules]
@[simp] theorem execLockedSecond_store (mean : Int) (s : State) : (nextOr s (execLockedSecond mean s)).store = s.store := by
  unfold execLockedSecond; simp [store_rules]
@[simp] theorem execUUpdate_store (s : State) : (nextOr s (execUUpdate s)).store = s.store := by unfold execUUpdate; simp [store_rules]
@[simp] theorem execXoFail_store (s : State) : (nextOr s (execXoFail s)).store = s.store := by unfold execXoFail; simp [store_rules]
@[simp] theorem moveLevel_store (s : State) : (moveLevel s).store = s.store := by unfold moveLevel; simp [store_rules]
@[simp] theorem requestLevel_store (l : MgrLevel) (s : State) : (requestLevel l s).store = s.store := by
  unfold requestLevel; simp [store_rules]
@[simp] theorem execXoRecovered_store (s : State) : (nextOr s (execXoRecovered s)).store = s.store := by
  unfold execXoRecovered; simp [store_rules]
@[simp] theorem execClockSwitch_store (coast : Bool) (s : State) : (nextOr s (execClockSwitch coast s)).store = s.store := by
  unfold execClockSwitch; split <;> simp [store_rules]
@[simp] theorem execClkswForced_store (s : State) : (nextOr s (execClkswForced s)).store = s.store := by
  unfold execClkswForced; simp [store_rules]
@[simp] theorem execLevelRequest_store (level : Fin 3) (s : State) : (nextOr s (execLevelRequest level s)).store = s.store := by
  unfold execLevelRequest; simp [store_rules]
@[simp] theorem execVfSwitch_store (s : State) : (nextOr s (execVfSwitch s)).store = s.store := by unfold execVfSwitch; simp [store_rules]
@[simp] theorem execVfFail_store (s : State) : (nextOr s (execVfFail s)).store = s.store := by unfold execVfFail; simp [store_rules]
@[simp] theorem execSyncOutCycleEnd_store (s : State) : (nextOr s (execSyncOutCycleEnd s)).store = s.store := by
  unfold execSyncOutCycleEnd; split <;> simp [store_rules]
@[simp] theorem setMode_store (m : Nat) (s : State) : (setMode m s).store = s.store := by unfold setMode; simp [store_rules]
@[simp] theorem presetOffset_store (v : Int) (s : State) : (presetOffset v s).store = s.store := by
  unfold presetOffset; dsimp only; split <;> (try split) <;> simp [store_rules]
@[simp] theorem clockSourceOp_store (q : Req) (s : State) : (clockSourceOp.run q s).1.store = s.store := by
  unfold clockSourceOp; simp [store_rules]
@[simp] theorem syncQualifyOp_store (q : Req) (s : State) : (syncQualifyOp.run q s).1.store = s.store := by
  unfold syncQualifyOp; simp [store_rules]
@[simp] theorem keepoutSetOp_store (q : Req) (s : State) : (keepoutSetOp.run q s).1.store = s.store := by
  unfold keepoutSetOp; simp [store_rules]
@[simp] theorem spurPlanCheckOp_store (q : Req) (s : State) : (spurPlanCheckOp.run q s).1.store = s.store := by unfold spurPlanCheckOp; simp
@[simp] theorem clockStatusOp_store (q : Req) (s : State) : (clockStatusOp.run q s).1.store = s.store := by
  unfold clockStatusOp; simp [store_rules]
@[simp] theorem sendPeriod_store (r : Nat) (p : Nat) (s : State) : (sendPeriod r p s).store = s.store := by
  unfold sendPeriod; simp [store_rules]
@[simp] theorem railFswSetOp_store (q : Req) (s : State) : (railFswSetOp.run q s).1.store = s.store := by
  unfold railFswSetOp; simp [store_rules]

/-! ### Session -/

@[simp] theorem helloOp_store (q : Req) (s : State) : (helloOp.run q s).1.store = s.store := by unfold helloOp; simp [store_rules]
@[simp] theorem identifyOp_store (q : Req) (s : State) : (identifyOp.run q s).1.store = s.store := by unfold identifyOp; simp [store_rules]
@[simp] theorem getStatusOp_store (q : Req) (s : State) : (getStatusOp.run q s).1.store = s.store := by
  unfold getStatusOp; simp [store_rules]
@[simp] theorem resetModuleOp_store (q : Req) (s : State) : (resetModuleOp.run q s).1.store = s.store := by
  unfold resetModuleOp; simp [store_rules]
@[simp] theorem configReadOp_store (q : Req) (s : State) : (configReadOp.run q s).1.store = s.store := by
  unfold configReadOp; dsimp only; split <;> (try split) <;> simp [store_rules]
@[simp] theorem configDigestOp_store (q : Req) (s : State) : (configDigestOp.run q s).1.store = s.store := by
  unfold configDigestOp; dsimp only; split <;> (try split) <;> simp [store_rules]

/-! ### Seam ports -/

@[simp] theorem modPort_store (p : Port) (f : PortSt → PortSt) (s : State) : (modPort p f s).store = s.store := by
  unfold modPort; simp [store_rules]
@[simp] theorem countDrops_store (n : Nat) (s : State) : (countDrops n s).store = s.store := by unfold countDrops; simp [store_rules]
@[simp] theorem setLink_store (p : Port) (st : LinkSt) (s : State) : (setLink p st s).store = s.store := by
  unfold setLink; simp [store_rules]
@[simp] theorem powerDown_store (p : Port) (s : State) : (powerDown p s).store = s.store := by unfold powerDown; simp

/-! ### The sequencing domain -/

@[simp] theorem refuseDom_store (s : State) : (refuseDom s).1.store = s.store := by unfold refuseDom; simp [store_rules]
@[simp] theorem writeSlot_store (k : Nat) (x : Slot) (s : State) : (writeSlot k x s).1.store = s.store := by
  unfold writeSlot; simp [store_rules]
@[simp] theorem seqSlotSetOp_store (q : Req) (s : State) : (seqSlotSetOp.run q s).1.store = s.store := by
  unfold seqSlotSetOp; simp [store_rules]
@[simp] theorem domainUpOp_store (q : Req) (s : State) : (domainUpOp.run q s).1.store = s.store := by
  unfold domainUpOp; dsimp only; repeat' split
  all_goals simp [store_rules]
@[simp] theorem domainDownOp_store (q : Req) (s : State) : (domainDownOp.run q s).1.store = s.store := by
  unfold domainDownOp; simp [store_rules]
@[simp] theorem pinUp_store (s : State) : (pinUp s).store = s.store := by
  unfold pinUp; split
  · simp [store_rules]
  · split
    · simp [store_rules]
    · split <;> simp [store_rules]
@[simp] theorem pollPins_store (s : State) : (pollPins s).store = s.store := by
  unfold pollPins; dsimp only; split <;> (try split) <;> simp [store_rules]
@[simp] theorem execEnPinEdge_store (pin : Fin 4) (level : Bool) (s : State) : (nextOr s (execEnPinEdge pin level s)).store = s.store := by
  unfold execEnPinEdge; simp [store_rules]
@[simp] theorem execSquiHigh_store (s : State) : (nextOr s (execSquiHigh s)).store = s.store := by unfold execSquiHigh; simp [store_rules]
@[simp] theorem execSqdiHigh_store (s : State) : (nextOr s (execSqdiHigh s)).store = s.store := by unfold execSqdiHigh; simp [store_rules]
@[simp] theorem execCascadeDrop_store (s : State) : (nextOr s (execCascadeDrop s)).store = s.store := by
  unfold execCascadeDrop; simp [store_rules]
@[simp] theorem execCasTimeout_store (s : State) : (nextOr s (execCasTimeout s)).store = s.store := by
  unfold execCasTimeout; split
  · simp [store_rules]
  · split <;> simp [store_rules]
@[simp] theorem execUpDelayEnd_store (s : State) : (nextOr s (execUpDelayEnd s)).store = s.store := by
  unfold execUpDelayEnd; split <;> simp [store_rules]
@[simp] theorem execSlotQualified_store (s : State) : (nextOr s (execSlotQualified s)).store = s.store := by
  unfold execSlotQualified; split <;> simp [store_rules]
@[simp] theorem execSlotTimeout_store (s : State) : (nextOr s (execSlotTimeout s)).store = s.store := by
  unfold execSlotTimeout; split <;> simp [store_rules]
@[simp] theorem execSupervisionStart_store (r : Fin 48) (s : State) : (nextOr s (execSupervisionStart r s)).store = s.store := by
  unfold execSupervisionStart; simp [store_rules]
@[simp] theorem execDownDelayEnd_store (s : State) : (nextOr s (execDownDelayEnd s)).store = s.store := by
  have h : ∀ (l : List Nat) (t : State), (l.foldl (fun t r => stopRail r false t) t).store = t.store :=
    fun l t => foldl_store _ (fun t x => by simp) l t
  unfold execDownDelayEnd; split <;> simp [store_rules, h]
@[simp] theorem execSlotDownDone_store (s : State) : (nextOr s (execSlotDownDone s)).store = s.store := by
  unfold execSlotDownDone; split <;> simp [store_rules]
@[simp] theorem execDownTimeout_store (r : Fin 48) (s : State) : (nextOr s (execDownTimeout r s)).store = s.store := by
  unfold execDownTimeout; split <;> simp [store_rules]
@[simp] theorem faultIn_store (index : Nat) (s : State) : (faultIn index s).store = s.store := by unfold faultIn; simp [store_rules]
@[simp] theorem execFaultNLow_store (s : State) : (nextOr s (execFaultNLow s)).store = s.store := by
  unfold execFaultNLow; simp [store_rules]
@[simp] theorem execFaultNRelease_store (s : State) : (nextOr s (execFaultNRelease s)).store = s.store := by
  unfold execFaultNRelease; simp [store_rules]
@[simp] theorem execFnOpen_store (s : State) : (nextOr s (execFnOpen s)).store = s.store := by unfold execFnOpen; simp [store_rules]
@[simp] theorem execFnStuck_store (s : State) : (nextOr s (execFnStuck s)).store = s.store := by unfold execFnStuck; simp [store_rules]
@[simp] theorem latchReleaseOp_store (q : Req) (s : State) : (latchReleaseOp.run q s).1.store = s.store := by
  unfold latchReleaseOp; dsimp only; repeat' split
  all_goals simp [store_rules]
@[simp] theorem domainConfigOp_store (q : Req) (s : State) : (domainConfigOp.run q s).1.store = s.store := by
  unfold domainConfigOp; simp [store_rules]
@[simp] theorem domainStatusOp_store (q : Req) (s : State) : (domainStatusOp.run q s).1.store = s.store := by
  unfold domainStatusOp; simp [store_rules]

/-! ### The supervisor -/

@[simp] theorem modInput_store (k : Fin 64) (f : SupIn → SupIn) (s : State) : (modInput k f s).store = s.store := by
  unfold modInput; simp [store_rules]
@[simp] theorem inputFault_store (k : Nat) (s : State) : (inputFault k s).store = s.store := by unfold inputFault; simp [store_rules]
@[simp] theorem judge_store (k : Fin 64) (s : State) : (judge k s).store = s.store := by
  unfold judge; split
  · simp [store_rules]
  · split <;> simp
@[simp] theorem execSupervisorJudgement_store (k : Fin 64) (code : Nat) (s : State) :
    (nextOr s (execSupervisorJudgement k code s)).store = s.store := by
  unfold execSupervisorJudgement; dsimp only; split <;> (try split) <;> simp [store_rules]
theorem pgSample_store {r : Fin 48} {c : PgCause} {b : Bool} {s t : State} (h : pgSample r c b s = some t) : t.store = s.store := by
  unfold pgSample at h; split at h
  · split at h
    · cases h
    · cases h; simp
  · cases h; rfl
@[simp] theorem execPgFall_store (r : Fin 48) (c : PgCause) (s : State) : (nextOr s (execPgFall r c s)).store = s.store := by
  unfold execPgFall; split
  case h_1 t h => simp [store_rules, pgSample_store h]
  case h_2 => simp [store_rules]
@[simp] theorem execPgRawRise_store (r : Fin 48) (c : PgCause) (s : State) : (nextOr s (execPgRawRise r c s)).store = s.store := by
  unfold execPgRawRise; split
  case h_1 t h => simp [store_rules, pgSample_store h]
  case h_2 => simp [store_rules]
@[simp] theorem takeSamples_store (codes : List Nat) (s : State) : (takeSamples codes s).store = s.store := by
  unfold takeSamples; dsimp only; rw [foldl_store]
  · simp [store_rules]
  · intro t x; simp
@[simp] theorem autoClear_store (r : Nat) (s : State) : (autoClear r s).store = s.store := by unfold autoClear; simp [store_rules]
@[simp] theorem crossCheck_store (k : Nat) (reading : Int) (s : State) : (crossCheck k reading s).store = s.store := by
  unfold crossCheck; simp [store_rules]
@[simp] theorem skipScan_store (s : State) : (skipScan s).store = s.store := by unfold skipScan; simp [store_rules]
@[simp] theorem supRecord_store (s : State) (x : Nat × Nat × Nat × Nat) : (supRecord s x).store = s.store := by unfold supRecord; simp
@[simp] theorem takeSupConfig_store (s : State) : (takeSupConfig s).store = s.store := by
  have h : ∀ (l : List (Nat × Nat × Nat × Nat)) (t : State), (l.foldl supRecord t).store = t.store :=
    fun l t => foldl_store _ (fun t x => by simp) l t
  unfold takeSupConfig; split <;> simp [store_rules, h]
@[simp] theorem execSupervisorScanEnd_store (codes : List Nat) (cross : Option (Fin 60 × Int)) (s : State) :
    (nextOr s (execSupervisorScanEnd codes cross s)).store = s.store := by
  have h : ∀ (l : List Nat) (t : State), (l.foldl (fun t r => autoClear r t) t).store = t.store :=
    fun l t => foldl_store _ (fun t x => by simp) l t
  unfold execSupervisorScanEnd; dsimp only; repeat' split
  all_goals simp [store_rules, h]
@[simp] theorem execPressingWrite_store (s : State) : (nextOr s (execPressingWrite s)).store = s.store := by
  unfold execPressingWrite; split <;> simp [store_rules]
@[simp] theorem pressingReadOp_store (q : Req) (s : State) : (pressingReadOp.run q s).1.store = s.store := by
  unfold pressingReadOp; dsimp only; split <;> (try split) <;> simp [store_rules]
@[simp] theorem supervisorConfigOp_store (q : Req) (s : State) : (supervisorConfigOp.run q s).1.store = s.store := by
  unfold supervisorConfigOp; simp [store_rules]

/-! ### Telemetry -/

@[simp] theorem tseqSetOp_store (q : Req) (s : State) : (tseqSetOp.run q s).1.store = s.store := by unfold tseqSetOp; simp [store_rules]
@[simp] theorem tseqStartOp_store (q : Req) (s : State) : (tseqStartOp.run q s).1.store = s.store := by
  unfold tseqStartOp; simp [store_rules]
@[simp] theorem tseqStopOp_store (q : Req) (s : State) : (tseqStopOp.run q s).1.store = s.store := by unfold tseqStopOp; simp [store_rules]
@[simp] theorem execTimerFire_store (k : TimerInstant) (s : State) : (nextOr s (execTimerFire k s)).store = s.store := by
  unfold execTimerFire; split
  · simp only [store_rules]; rw [foldl_store]; intro t x; simp [store_rules]
  · simp [store_rules]
@[simp] theorem execSequenceTrigger_store (q : SeqInstant) (s : State) : (nextOr s (execSequenceTrigger q s)).store = s.store := by
  unfold execSequenceTrigger; simp [store_rules]
@[simp] theorem execNoEvent_store (q : Fin 8) (s : State) : (nextOr s (execNoEvent q s)).store = s.store := by
  unfold execNoEvent; simp [store_rules]
@[simp] theorem beginRow_store (q : Fin 8) (y : Nat) (y' : Nat) (y'' : State) : (beginRow q y y' y'').store = y''.store := by
  induction y generalizing y' y'' with
  | zero => rfl
  | succ n ih => simp only [beginRow]; split <;> simp [ih]
@[simp] theorem startRun_store (q : Fin 8) (tick : Nat) (s : State) : (startRun q tick s).store = s.store := by
  unfold startRun; simp [store_rules]
@[simp] theorem tryRun_store (left : List Nat) (q : Fin 8) (tick : Nat) (s : State) : (tryRun left q tick s).store = s.store := by
  unfold tryRun; simp [store_rules]
@[simp] theorem serveUrgent_store (left : List Nat) (tick : Nat) (s : State) : (serveUrgent left tick s).store = s.store := by
  unfold serveUrgent; rw [foldl_store]; intro t x; simp [store_rules]
@[simp] theorem serveRuns_store (tick : Nat) (s : State) : (serveRuns tick s).store = s.store := by
  unfold serveRuns; rw [foldl_store]; intro t x; simp [store_rules]
@[simp] theorem execRunStart_store (q : SeqInstant) (s : State) : (nextOr s (execRunStart q s)).store = s.store := by
  unfold execRunStart; simp [store_rules]
@[simp] theorem modStream_store (k : Fin 4) (f : Stream → Stream) (s : State) : (modStream k f s).store = s.store := by
  unfold modStream; simp [store_rules]
@[simp] theorem sendStream_store (k : Fin 4) (s : State) : (sendStream k s).store = s.store := by unfold sendStream; simp [store_rules]
@[simp] theorem feedStream_store (q : Fin 8) (k : Fin 4) (s : State) : (feedStream q k s).store = s.store := by
  unfold feedStream; simp [store_rules]
@[simp] theorem streamConfigOp_store (q : Req) (s : State) : (streamConfigOp.run q s).1.store = s.store := by
  unfold streamConfigOp; simp [store_rules]
@[simp] theorem freeConvs_store (q : Fin 8) (s : State) : (freeConvs q s).store = s.store := by unfold freeConvs; simp [store_rules]
@[simp] theorem endRunOf_store (q : Fin 8) (s : State) : (endRunOf q s).store = s.store := by
  unfold endRunOf; dsimp only; rw [foldl_store]
  · simp [store_rules]
  · intro t x; simp
@[simp] theorem readNow_store (ch : Nat) (avg : Nat) (s : State) : (readNow ch avg s).1.store = s.store := by unfold readNow; simp [store_rules]
@[simp] theorem tseqReadOp_store (q : Req) (s : State) : (tseqReadOp.run q s).1.store = s.store := by unfold tseqReadOp; simp [store_rules]
@[simp] theorem dropCountsOp_store (q : Req) (s : State) : (dropCountsOp.run q s).1.store = s.store := by
  unfold dropCountsOp; simp [store_rules]
@[simp] theorem readChannelOp_store (q : Req) (s : State) : (readChannelOp.run q s).1.store = s.store := by
  unfold readChannelOp; dsimp only; repeat' split
  all_goals simp [store_rules]

/-! ### HOLD and the charger -/

@[simp] theorem setHold_store (h : HoldSt) (s : State) : (setHold h s).store = s.store := by unfold setHold; simp [store_rules]
@[simp] theorem holdOffVin_store (s : State) : (holdOffVin s).store = s.store := by unfold holdOffVin; simp [store_rules]
@[simp] theorem holdOfPack_store (before : State) (s : State) : (holdOfPack before s).store = s.store := by
  unfold holdOfPack; split <;> simp [store_rules]
@[simp] theorem execHnSag_store (s : State) : (nextOr s (execHnSag s)).store = s.store := by unfold execHnSag; simp [store_rules]
@[simp] theorem execHoldReturnVin_store (s : State) : (nextOr s (execHoldReturnVin s)).store = s.store := by
  unfold execHoldReturnVin; simp [store_rules]
@[simp] theorem execHoldShort_store (s : State) : (nextOr s (execHoldShort s)).store = s.store := by
  unfold execHoldShort; simp [store_rules]
@[simp] theorem execHoldRetry_store (s : State) : (nextOr s (execHoldRetry s)).store = s.store := by
  unfold execHoldRetry; simp [store_rules]
@[simp] theorem execPackExhausted_store (s : State) : (nextOr s (execPackExhausted s)).store = s.store := by
  unfold execPackExhausted; simp [store_rules]
@[simp] theorem writeHold_store (b : List Byte) (s : State) : (writeHold b s).1.store = s.store := by unfold writeHold; simp [store_rules]
@[simp] theorem holdRailSetOp_store (q : Req) (s : State) : (holdRailSetOp.run q s).1.store = s.store := by
  unfold holdRailSetOp; simp [store_rules]
@[simp] theorem setPhase_store (p : ChgPh) (s : State) : (setPhase p s).store = s.store := by unfold setPhase; simp [store_rules]
@[simp] theorem chgFault_store (cause : Nat) (s : State) : (chgFault cause s).store = s.store := by unfold chgFault; simp [store_rules]
@[simp] theorem chgIdle_store (s : State) : (chgIdle s).store = s.store := by unfold chgIdle; simp [store_rules]
@[simp] theorem judgeSusp_store (judgeTemp : Bool) (s : State) : (judgeSusp judgeTemp s).store = s.store := by
  unfold judgeSusp; simp [store_rules]
@[simp] theorem removePack_store (s : State) : (removePack s).store = s.store := by unfold removePack; simp [store_rules]
@[simp] theorem execPackRemoved_store (s : State) : (nextOr s (execPackRemoved s)).store = s.store := by
  unfold execPackRemoved; simp [store_rules]
@[simp] theorem execBthOpen_store (c : BthCond) (s : State) : (nextOr s (execBthOpen c s)).store = s.store := by
  unfold execBthOpen; simp [store_rules]
@[simp] theorem execPackInserted_store (s : State) : (nextOr s (execPackInserted s)).store = s.store := by
  unfold execPackInserted; simp [store_rules]
@[simp] theorem judgeSecond_store (s : State) : (judgeSecond s).store = s.store := by unfold judgeSecond; simp [store_rules]
@[simp] theorem execChargerSecond_store (packMv : Nat) (mA : Int) (limiting : Bool) (s : State) :
    (nextOr s (execChargerSecond packMv mA limiting s)).store = s.store := by
  unfold execChargerSecond; simp [store_rules]
@[simp] theorem execQualifyDone_store (packMv : Nat) (s : State) : (nextOr s (execQualifyDone packMv s)).store = s.store := by
  unfold execQualifyDone; simp [store_rules]
@[simp] theorem execPhaseTimerExpired_store (wall : Bool) (s : State) : (nextOr s (execPhaseTimerExpired wall s)).store = s.store := by
  unfold execPhaseTimerExpired; dsimp only [nextOr]; repeat' split
  all_goals simp
@[simp] theorem execRechargeCheck_store (packMv : Nat) (s : State) : (nextOr s (execRechargeCheck packMv s)).store = s.store := by
  unfold execRechargeCheck; simp [store_rules]
@[simp] theorem execChargerHw_store (s : State) : (nextOr s (execChargerHw s)).store = s.store := by
  unfold execChargerHw; simp [store_rules]
@[simp] theorem refuseChg_store (s : State) : (refuseChg s).1.store = s.store := by unfold refuseChg; simp [store_rules]
@[simp] theorem unconfigured_store (s : State) : (unconfigured s).store = s.store := by unfold unconfigured; simp [store_rules]
@[simp] theorem chargerStartOp_store (q : Req) (s : State) : (chargerStartOp.run q s).1.store = s.store := by
  unfold chargerStartOp; dsimp only; split <;> (try split) <;> simp [store_rules]
@[simp] theorem chargerStopOp_store (q : Req) (s : State) : (chargerStopOp.run q s).1.store = s.store := by
  unfold chargerStopOp; simp [store_rules]
@[simp] theorem chargerStatusOp_store (q : Req) (s : State) : (chargerStatusOp.run q s).1.store = s.store := by
  unfold chargerStatusOp; simp [store_rules]

/-! ### The module supply -/

@[simp] theorem stopSwitching_store (s : State) : (stopSwitching s).store = s.store := by unfold stopSwitching; simp
@[simp] theorem restartDue_store (s : State) : (restartDue s).store = s.store := by unfold restartDue; simp [store_rules]
@[simp] theorem execVinRise_store (s : State) : (nextOr s (execVinRise s)).store = s.store := by unfold execVinRise; simp [store_rules]
@[simp] theorem execVinRestart_store (s : State) : (nextOr s (execVinRestart s)).store = s.store := by
  unfold execVinRestart; simp [store_rules]
@[simp] theorem markRewrites_store (before : State) (after : State) : (markRewrites before after).store = after.store := by
  unfold markRewrites; simp
@[simp] theorem execVinOvRecover_store (s : State) : (nextOr s (execVinOvRecover s)).store = s.store := by
  unfold execVinOvRecover; simp [store_rules]

/-! ### Thermal management -/

@[simp] theorem judgeWarn_store (evaluation : Bool) (s : State) : (judgeWarn evaluation s).store = s.store := by
  unfold judgeWarn; simp [store_rules]
@[simp] theorem ageWarn_store (s : State) : (ageWarn s).store = s.store := by unfold ageWarn; simp [store_rules]
@[simp] theorem takeDie_store (k : Fin 16) (reading : BitVec 16) (sched : Bool) (s : State) :
    (takeDie k reading sched s).store = s.store := by
  unfold takeDie; simp [store_rules]
@[simp] theorem takeReading_store (code : Nat) (reading : BitVec 16) (sched : Bool) (s : State) :
    (takeReading code reading sched s).store = s.store := by
  unfold takeReading; dsimp only; split
  · split
    · rfl
    · simp [store_rules]
  · split
    · exact takeDie_store ..
    · rfl
@[simp] theorem execDieSenseFault_store (k : Fin 16) (bad : Bool) (s : State) : (nextOr s (execDieSenseFault k bad s)).store = s.store := by
  unfold execDieSenseFault; simp [store_rules]
@[simp] theorem takeThermRecords_store (s : State) : (takeThermRecords s).store = s.store := by unfold takeThermRecords; simp [store_rules]
@[simp] theorem evalThrottle_store (s : State) : (evalThrottle s).store = s.store := by unfold evalThrottle; simp [store_rules]
@[simp] theorem thermalStop_store (s : State) : (thermalStop s).store = s.store := by unfold thermalStop; simp [store_rules]
@[simp] theorem requestSchedule_store (s : State) : (requestSchedule s).store = s.store := by
  unfold requestSchedule; simp only [store_rules]; simp; rw [foldl_store, foldl_store]
  · intro t x; simp
  · intro t x; simp
@[simp] theorem execThermalSchedule_store (s : State) : (nextOr s (execThermalSchedule s)).store = s.store := by
  unfold execThermalSchedule; simp [store_rules]
@[simp] theorem execTsdClear_store (s : State) : (nextOr s (execTsdClear s)).store = s.store := by unfold execTsdClear; simp [store_rules]
@[simp] theorem tempMeasureOp_store (q : Req) (s : State) : (tempMeasureOp.run q s).1.store = s.store := by
  unfold tempMeasureOp; simp [store_rules]
@[simp] theorem thermalLimitsOp_store (q : Req) (s : State) : (thermalLimitsOp.run q s).1.store = s.store := by
  unfold thermalLimitsOp; simp [store_rules]
@[simp] theorem throttlePolicyOp_store (q : Req) (s : State) : (throttlePolicyOp.run q s).1.store = s.store := by
  unfold throttlePolicyOp; simp [store_rules]
@[simp] theorem thermalStatusOp_store (q : Req) (s : State) : (thermalStatusOp.run q s).1.store = s.store := by
  unfold thermalStatusOp; simp [store_rules]

/-! ### Power states -/

@[simp] theorem countRefusals_store (rs : List Nat) (s : State) : (countRefusals rs s).store = s.store := by
  unfold countRefusals; simp [store_rules]
@[simp] theorem askRefusers_store (target : Nat) (s : State) : (askRefusers target s).store = s.store := by
  unfold askRefusers; simp [store_rules]
@[simp] theorem setPwr_store (x : PwrSt) (s : State) : (setPwr x s).store = s.store := by unfold setPwr; simp [store_rules]
@[simp] theorem enterAwake_store (x : PwrSt) (s : State) : (enterAwake x s).store = s.store := by unfold enterAwake; simp [store_rules]
@[simp] theorem recordWake_store (src : Nat) (detail : Nat) (left : Nat) (s : State) : (recordWake src detail left s).store = s.store := by
  unfold recordWake; simp [store_rules]
@[simp] theorem releaseAll_store (s : State) : (releaseAll s).store = s.store := by unfold releaseAll; simp [store_rules]
@[simp] theorem execHibernateEntered_store (s : State) : (nextOr s (execHibernateEntered s)).store = s.store := by
  unfold execHibernateEntered; simp [store_rules]
@[simp] theorem leaveHibernate_store (s : State) : (leaveHibernate s).store = s.store := by unfold leaveHibernate; simp [store_rules]
@[simp] theorem execHibernateExit_store (src : WakeSource) (s : State) : (nextOr s (execHibernateExit src s)).store = s.store := by
  unfold execHibernateExit; simp [store_rules]
@[simp] theorem execDozeResume_store (s : State) : (nextOr s (execDozeResume s)).store = s.store := by
  unfold execDozeResume; simp [store_rules]
@[simp] theorem disarmShip_store (s : State) : (disarmShip s).store = s.store := by unfold disarmShip; simp [store_rules]
@[simp] theorem execWakeBtn_store (s : State) : (nextOr s (execWakeBtn s)).store = s.store := by unfold execWakeBtn; simp [store_rules]
@[simp] theorem shipEnterOp_store (q : Req) (s : State) : (shipEnterOp.run q s).1.store = s.store := by
  unfold shipEnterOp; simp [store_rules]
@[simp] theorem stateAnswer_store (s : State) (target : Nat) (inForce : Nat) (bits : Nat) :
    (stateAnswer s target inForce bits).1.store = s.store := by
  unfold stateAnswer; simp [store_rules]
@[simp] theorem stateEnterOp_store (q : Req) (s : State) : (stateEnterOp.run q s).1.store = s.store := by
  unfold stateEnterOp; dsimp only; repeat' split
  all_goals simp [store_rules]
@[simp] theorem stateVoteOp_store (q : Req) (s : State) : (stateVoteOp.run q s).1.store = s.store := by
  unfold stateVoteOp; simp [store_rules]
@[simp] theorem stateAccountingOp_store (q : Req) (s : State) : (stateAccountingOp.run q s).1.store = s.store := by
  unfold stateAccountingOp; simp [store_rules]
@[simp] theorem lastWakeOp_store (q : Req) (s : State) : (lastWakeOp.run q s).1.store = s.store := by unfold lastWakeOp; simp [store_rules]

/-! ### Hem -/

@[simp] theorem fireAlarm_store (k : Fin 2) (s : State) : (fireAlarm k s).store = s.store := by unfold fireAlarm; simp [store_rules]
@[simp] theorem execAlarmFire_store (k : Fin 2) (s : State) : (nextOr s (execAlarmFire k s)).store = s.store := by
  unfold execAlarmFire; simp [store_rules]
@[simp] theorem wrapOver_store (old : Nat) (s : State) : (wrapOver old s).store = s.store := by unfold wrapOver; simp [store_rules]
@[simp] theorem stepCount_store (d : Int) (s : State) : (stepCount d s).store = s.store := by unfold stepCount; simp [store_rules]
@[simp] theorem setDisc_store (d : DiscSt) (s : State) : (setDisc d s).store = s.store := by unfold setDisc; simp [store_rules]
@[simp] theorem leaveTracking_store (s : State) : (leaveTracking s).store = s.store := by unfold leaveTracking; simp [store_rules]
@[simp] theorem restartDisc_store (s : State) : (restartDisc s).store = s.store := by unfold restartDisc; simp [store_rules]
@[simp] theorem clearSuspect_store (s : State) : (clearSuspect s).store = s.store := by unfold clearSuspect; simp [store_rules]
@[simp] theorem applyRtc_store (count : Nat) (s : State) : (applyRtc count s).store = s.store := by unfold applyRtc; simp [store_rules]
@[simp] theorem ppsStepNow_store (s : State) : (ppsStepNow s).store = s.store := by unfold ppsStepNow; simp
@[simp] theorem enterTracking_store (s : State) : (enterTracking s).store = s.store := by unfold enterTracking; simp [store_rules]
@[simp] theorem acquireEdge_store (s : State) : (acquireEdge s).store = s.store := by unfold acquireEdge; simp [store_rules]
@[simp] theorem trackEdge_store (s : State) : (trackEdge s).store = s.store := by unfold trackEdge; simp [store_rules]
@[simp] theorem acceptEdge_store (s : State) : (acceptEdge s).store = s.store := by
  unfold acceptEdge; dsimp only; split <;> (try split) <;> simp
@[simp] theorem execPpsEdge_store (inRange : Bool) (s : State) : (nextOr s (execPpsEdge inRange s)).store = s.store := by
  unfold execPpsEdge; simp [store_rules]
@[simp] theorem execPpsAbsent_store (s : State) : (nextOr s (execPpsAbsent s)).store = s.store := by
  unfold execPpsAbsent; split <;> simp [store_rules]
@[simp] theorem checkBackup_store (s : State) : (checkBackup s).store = s.store := by unfold checkBackup; simp [store_rules]
@[simp] theorem execTimeSuspect_store (s : State) : (nextOr s (execTimeSuspect s)).store = s.store := by
  unfold execTimeSuspect; simp [store_rules]
@[simp] theorem execHoldupLow_store (low : Bool) (s : State) : (nextOr s (execHoldupLow low s)).store = s.store := by
  unfold execHoldupLow; simp [store_rules]
@[simp] theorem execCalWrap_store (s : State) : (nextOr s (execCalWrap s)).store = s.store := by unfold execCalWrap; simp [store_rules]
@[simp] theorem execPeriodicWake_store (s : State) : (nextOr s (execPeriodicWake s)).store = s.store := by
  unfold execPeriodicWake; simp [store_rules]
@[simp] theorem execWdiChange_store (level : Bool) (stamp : Nat) (s : State) : (nextOr s (execWdiChange level stamp s)).store = s.store := by
  unfold execWdiChange; simp [store_rules]
@[simp] theorem execWdogOpen_store (s : State) : (nextOr s (execWdogOpen s)).store = s.store := by unfold execWdogOpen; simp [store_rules]
@[simp] theorem execWdogExpiry_store (s : State) : (nextOr s (execWdogExpiry s)).store = s.store := by
  unfold execWdogExpiry; simp [store_rules]
@[simp] theorem execWdogPulseEnd_store (s : State) : (nextOr s (execWdogPulseEnd s)).store = s.store := by
  unfold execWdogPulseEnd; simp [store_rules]
@[simp] theorem rtcSetOp_store (q : Req) (s : State) : (rtcSetOp.run q s).1.store = s.store := by
  unfold rtcSetOp; dsimp only; split <;> (try split) <;> simp [store_rules]
@[simp] theorem rtcGetOp_store (q : Req) (s : State) : (rtcGetOp.run q s).1.store = s.store := by unfold rtcGetOp; simp [store_rules]
@[simp] theorem rtcModeOp_store (q : Req) (s : State) : (rtcModeOp.run q s).1.store = s.store := by unfold rtcModeOp; simp [store_rules]
@[simp] theorem alarmSetOp_store (q : Req) (s : State) : (alarmSetOp.run q s).1.store = s.store := by unfold alarmSetOp; simp [store_rules]
@[simp] theorem periodicSetOp_store (q : Req) (s : State) : (periodicSetOp.run q s).1.store = s.store := by
  unfold periodicSetOp; simp [store_rules]
@[simp] theorem backupWriteOp_store (q : Req) (s : State) : (backupWriteOp.run q s).1.store = s.store := by
  unfold backupWriteOp; simp [store_rules]
@[simp] theorem backupReadOp_store (q : Req) (s : State) : (backupReadOp.run q s).1.store = s.store := by
  unfold backupReadOp; simp [store_rules]
@[simp] theorem ppsWrite_store (p : List Byte) (s : State) : (ppsWrite p s).store = s.store := by unfold ppsWrite; simp [store_rules]
@[simp] theorem ppsConfigOp_store (q : Req) (s : State) : (ppsConfigOp.run q s).1.store = s.store := by
  unfold ppsConfigOp; simp [store_rules]
@[simp] theorem wdogConfigOp_store (q : Req) (s : State) : (wdogConfigOp.run q s).1.store = s.store := by
  unfold wdogConfigOp; simp [store_rules]
@[simp] theorem rollcallConfigOp_store (q : Req) (s : State) : (rollcallConfigOp.run q s).1.store = s.store := by
  unfold rollcallConfigOp; simp [store_rules]
@[simp] theorem taskCheckinOp_store (q : Req) (s : State) : (taskCheckinOp.run q s).1.store = s.store := by
  unfold taskCheckinOp; simp [store_rules]
@[simp] theorem wdogStatusOp_store (q : Req) (s : State) : (wdogStatusOp.run q s).1.store = s.store := by
  unfold wdogStatusOp; simp [store_rules]

/-! ### The host port -/

@[simp] theorem ackByte_store (s : State) : (ackByte s).store = s.store := by unfold ackByte; simp [store_rules]
@[simp] theorem takeReply_store (s : State) : (takeReply s).store = s.store := by unfold takeReply; simp [store_rules]
@[simp] theorem execPointerSet_store (lo : Byte) (hi : Byte) (s : State) : (nextOr s (execPointerSet lo hi s)).store = s.store := by
  unfold execPointerSet; simp [store_rules]
theorem w1cAt_store {p : Nat} {b : Byte} {s t : State} (h : w1cAt p b s = some t) : t.store = s.store := by
  unfold w1cAt at h
  split at h
  · cases h; simp
  · split at h
    · cases h; simp
    · split at h
      · cases h; simp
      · cases h
@[simp] theorem execW1cWrite_store (b : Byte) (s : State) : (nextOr s (execW1cWrite b s)).store = s.store := by
  unfold execW1cWrite; split
  · split
    case h_1 t h => simp [store_rules, w1cAt_store h]
    case h_2 => simp [store_rules]
  · simp [store_rules]
@[simp] theorem execReplyReady_store (s : State) : (nextOr s (execReplyReady s)).store = s.store := by
  unfold execReplyReady; split <;> simp [store_rules]
@[simp] theorem execReplyTakeTimeout_store (s : State) : (nextOr s (execReplyTakeTimeout s)).store = s.store := by
  unfold execReplyTakeTimeout; simp [store_rules]
@[simp] theorem execSclTimeout_store (s : State) : (nextOr s (execSclTimeout s)).store = s.store := by
  unfold execSclTimeout Hp.resetPort; simp [store_rules]
@[simp] theorem execSdaTimeout_store (s : State) : (nextOr s (execSdaTimeout s)).store = s.store := by
  unfold execSdaTimeout Hp.resetPort; simp [store_rules]
@[simp] theorem execBusAbort_store (s : State) : (nextOr s (execBusAbort s)).store = s.store := by
  unfold execBusAbort Hp.resetPort; simp [store_rules]
@[simp] theorem execRecovered_store (s : State) : (nextOr s (execRecovered s)).store = s.store := by
  unfold execRecovered; simp [store_rules]
@[simp] theorem execTwoWireWake_store (s : State) : (nextOr s (execTwoWireWake s)).store = s.store := by
  unfold execTwoWireWake; simp [store_rules]
@[simp] theorem execEngineHandover_store (s : State) : (nextOr s (execEngineHandover s)).store = s.store := by
  unfold execEngineHandover Hp.resetPort; dsimp only; repeat' split
  all_goals simp [store_rules]
@[simp] theorem execWakeSlow_store (s : State) : (nextOr s (execWakeSlow s)).store = s.store := by unfold execWakeSlow; simp [store_rules]

/-! ### Event commands -/

@[simp] theorem setSpurious_store (s : State) : (setSpurious s).store = s.store := by unfold setSpurious; simp [store_rules]
@[simp] theorem setDoneIgnored_store (s : State) : (setDoneIgnored s).store = s.store := by unfold setDoneIgnored; simp [store_rules]
@[simp] theorem eventConfigOp_store (q : Req) (s : State) : (eventConfigOp.run q s).1.store = s.store := by
  unfold eventConfigOp; simp [store_rules]
@[simp] theorem eventClaimOp_store (q : Req) (s : State) : (eventClaimOp.run q s).1.store = s.store := by
  unfold eventClaimOp; dsimp only; split <;> (try split) <;> simp [store_rules]
@[simp] theorem eventDoneOp_store (q : Req) (s : State) : (eventDoneOp.run q s).1.store = s.store := by
  unfold eventDoneOp; simp [store_rules]
@[simp] theorem soakSetOp_store (q : Req) (s : State) : (soakSetOp.run q s).1.store = s.store := by unfold soakSetOp; simp [store_rules]
@[simp] theorem moderationSetOp_store (q : Req) (s : State) : (moderationSetOp.run q s).1.store = s.store := by
  unfold moderationSetOp; simp [store_rules]
@[simp] theorem eventPendingReadOp_store (q : Req) (s : State) : (eventPendingReadOp.run q s).1.store = s.store := by
  unfold eventPendingReadOp; simp [store_rules]
@[simp] theorem execEventLineEdge_store (e : Fin 1024) (level : Bool) (s : State) :
    (nextOr s (execEventLineEdge e level s)).store = s.store := by
  unfold execEventLineEdge; simp [store_rules]
@[simp] theorem execModerationDue_store (ch : Fin 4) (s : State) : (nextOr s (execModerationDue ch s)).store = s.store := by
  unfold execModerationDue; simp [store_rules]

/-! ### Firmware -/

@[simp] theorem setBank_store (b : Fin 2) (x : BankSt) (s : State) : (setBank b x s).store = s.store := by
  unfold setBank; simp [store_rules]
@[simp] theorem refuseBank_store (s : State) (b : Fin 2) : (refuseBank s b).1.store = s.store := by unfold refuseBank; simp [store_rules]
@[simp] theorem execFwVerifyDone_store (s : State) : (nextOr s (execFwVerifyDone s)).store = s.store := by
  unfold execFwVerifyDone; simp [store_rules]
@[simp] theorem fwStageOp_store (q : Req) (s : State) : (fwStageOp.run q s).1.store = s.store := by unfold fwStageOp; simp [store_rules]
@[simp] theorem fwVerifyOp_store (q : Req) (s : State) : (fwVerifyOp.run q s).1.store = s.store := by unfold fwVerifyOp; simp [store_rules]
@[simp] theorem commitWhen_store (hitless : Bool) (revert : Bool) (s : State) : (commitWhen hitless revert s).1.store = s.store := by
  unfold commitWhen; simp [store_rules]
@[simp] theorem fwCommitOp_store (q : Req) (s : State) : (fwCommitOp.run q s).1.store = s.store := by unfold fwCommitOp; simp
@[simp] theorem fwStatusOp_store (q : Req) (s : State) : (fwStatusOp.run q s).1.store = s.store := by unfold fwStatusOp; simp [store_rules]
@[simp] theorem fwRevertOp_store (q : Req) (s : State) : (fwRevertOp.run q s).1.store = s.store := by unfold fwRevertOp; simp
@[simp] theorem testmuxSelectOp_store (q : Req) (s : State) : (testmuxSelectOp.run q s).1.store = s.store := by
  unfold testmuxSelectOp; simp [store_rules]
@[simp] theorem testmuxReleaseOp_store (q : Req) (s : State) : (testmuxReleaseOp.run q s).1.store = s.store := by
  unfold testmuxReleaseOp; simp [store_rules]
@[simp] theorem execTrialConfirm_store (s : State) : (nextOr s (execTrialConfirm s)).store = s.store := by
  unfold execTrialConfirm; simp [store_rules]
@[simp] theorem bootBank_store (s : State) : (bootBank s).store = s.store := by
  unfold bootBank Fw.mark; dsimp only; repeat' split
  all_goals simp [store_rules]
@[simp] theorem startEvents_store (revert : Bool) (s : State) : (startEvents revert s).store = s.store := by
  unfold startEvents; simp [store_rules]

/-! ### The Seam link -/

@[simp] theorem startTraining_store (p : Port) (s : State) : (startTraining p s).store = s.store := by unfold startTraining; simp
@[simp] theorem execLinkSync_store (p : Port) (s : State) : (nextOr s (execLinkSync p s)).store = s.store := by
  unfold execLinkSync; simp [store_rules]
@[simp] theorem loseLink_store (p : Port) (s : State) : (loseLink p s).store = s.store := by unfold loseLink; simp [store_rules]
@[simp] theorem execLinkSyncLost_store (p : Port) (s : State) : (nextOr s (execLinkSyncLost p s)).store = s.store := by
  unfold execLinkSyncLost; simp [store_rules]
@[simp] theorem sendHeldWake_store (p : Port) (s : State) : (sendHeldWake p s).store = s.store := by unfold sendHeldWake; simp [store_rules]
@[simp] theorem execLinkWord_store (p : Port) (w : BitVec 16) (rt : Nat) (s : State) :
    (nextOr s (execLinkWord p w rt s)).store = s.store := by
  unfold execLinkWord; dsimp only; split
  · simp [store_rules]
  · split
    · split
      · simp [store_rules]
      · split <;> simp [store_rules]
    · simp [store_rules]
  · simp [store_rules]
@[simp] theorem execTrainingTimeout_store (p : Port) (s : State) : (nextOr s (execTrainingTimeout p s)).store = s.store := by
  unfold execTrainingTimeout; simp [store_rules]
@[simp] theorem execVerRetry_store (p : Port) (s : State) : (nextOr s (execVerRetry p s)).store = s.store := by
  unfold execVerRetry; simp [store_rules]
@[simp] theorem execFaulty_store (p : Port) (s : State) : (nextOr s (execFaulty p s)).store = s.store := by
  unfold execFaulty; simp [store_rules]
@[simp] theorem execFaultySeen_store (p : Port) (s : State) : (nextOr s (execFaultySeen p s)).store = s.store := by
  unfold execFaultySeen; simp [store_rules]
@[simp] theorem execProbeBurst_store (p : Port) (s : State) : (nextOr s (execProbeBurst p s)).store = s.store := by
  unfold execProbeBurst; simp [store_rules]
@[simp] theorem execPhOverload_store (p : Port) (s : State) : (nextOr s (execPhOverload p s)).store = s.store := by
  unfold execPhOverload; simp [store_rules]
@[simp] theorem execPhantomRestore_store (p : Port) (s : State) : (nextOr s (execPhantomRestore p s)).store = s.store := by
  unfold execPhantomRestore; simp [store_rules]
@[simp] theorem actReply_store (f : Frame) (s : State) : (actReply f s).store = s.store := by unfold actReply; split <;> simp [store_rules]
@[simp] theorem actEcho_store (kind : Nat) (recentLow : Bool) (s : State) : (actEcho kind recentLow s).store = s.store := by
  unfold actEcho; split <;> simp [store_rules]
@[simp] theorem actFaultEcho_store (f : Frame) (at_ : Nat) (recentLow : Bool) (s : State) :
    (actFaultEcho f at_ recentLow s).store = s.store := by
  unfold actFaultEcho; simp [store_rules]
@[simp] theorem sendHello_store (a : Nat) (s : State) : (sendHello a s).store = s.store := by unfold sendHello; simp [store_rules]
@[simp] theorem learnState_store (code : Nat) (s : State) : (learnState code s).store = s.store := by unfold learnState; simp [store_rules]
@[simp] theorem actAnnounce_store (f : Frame) (s : State) : (actAnnounce f s).store = s.store := by unfold actAnnounce; simp [store_rules]
@[simp] theorem domainStep_store (d : Int) (s : State) : (domainStep d s).store = s.store := by unfold domainStep; simp
@[simp] theorem actSync_store (f : Frame) (at_ : Nat) (ofs : Int) (s : State) : (actSync f at_ ofs s).store = s.store := by
  unfold actSync; simp [store_rules]
@[simp] theorem forward_store (q : Port) (f : Frame) (s : State) : (forward q f s).store = s.store := by unfold forward; simp [store_rules]
@[simp] theorem ownFrame_store (p : Port) (f : Frame) (s : State) : (ownFrame p f s).store = s.store := by
  unfold ownFrame; simp [store_rules]
@[simp] theorem spoilCopy_store (p : Port) (f : Frame) (s : State) : (spoilCopy p f s).store = s.store := by
  unfold spoilCopy; split <;> simp [store_rules]
@[simp] theorem execWakeForwardTimeout_store (p : Port) (s : State) : (nextOr s (execWakeForwardTimeout p s)).store = s.store := by
  unfold execWakeForwardTimeout; simp [store_rules]
@[simp] theorem execSeamWakeSignal_store (p : Port) (s : State) : (nextOr s (execSeamWakeSignal p s)).store = s.store := by
  unfold execSeamWakeSignal; simp [store_rules]
@[simp] theorem execSeamFrameSent_store (p : Port) (s : State) : (nextOr s (execSeamFrameSent p s)).store = s.store := by
  unfold execSeamFrameSent; simp [store_rules]
@[simp] theorem execBcastReplyDue_store (s : State) : (nextOr s (execBcastReplyDue s)).store = s.store := by
  unfold execBcastReplyDue; dsimp only; split <;> (try split) <;> simp [store_rules]
@[simp] theorem execAnnounceDue_store (s : State) : (nextOr s (execAnnounceDue s)).store = s.store := by
  unfold execAnnounceDue; simp [store_rules]
@[simp] theorem execSyncDue_store (s : State) : (nextOr s (execSyncDue s)).store = s.store := by unfold execSyncDue; simp [store_rules]
@[simp] theorem execEchoRepeat_store (s : State) : (nextOr s (execEchoRepeat s)).store = s.store := by
  unfold execEchoRepeat; split <;> simp [store_rules]
@[simp] theorem setAgree_store (a : AgreeSt) (causes : Nat) (s : State) : (setAgree a causes s).store = s.store := by
  unfold setAgree; simp [store_rules]
@[simp] theorem endWait_store (s : State) : (endWait s).store = s.store := by unfold endWait; simp [store_rules]
@[simp] theorem evalAgreement_store (s : State) : (evalAgreement s).store = s.store := by unfold evalAgreement; split <;> simp [store_rules]
@[simp] theorem execAgreementEval_store (s : State) : (nextOr s (execAgreementEval s)).store = s.store := by
  unfold execAgreementEval; simp [store_rules]
@[simp] theorem startGathering_store (s : State) : (startGathering s).store = s.store := by unfold startGathering; simp [store_rules]
@[simp] theorem seamStatusOp_store (q : Req) (s : State) : (seamStatusOp.run q s).1.store = s.store := by
  unfold seamStatusOp; simp [store_rules]
@[simp] theorem domainJoinOp_store (q : Req) (s : State) : (domainJoinOp.run q s).1.store = s.store := by
  unfold domainJoinOp; simp [store_rules]
@[simp] theorem domainAgreeStatusOp_store (q : Req) (s : State) : (domainAgreeStatusOp.run q s).1.store = s.store := by
  unfold domainAgreeStatusOp; simp [store_rules]
@[simp] theorem seamAddressSetOp_store (q : Req) (s : State) : (seamAddressSetOp.run q s).1.store = s.store := by
  unfold seamAddressSetOp; simp [store_rules]
@[simp] theorem timeMasterOp_store (q : Req) (s : State) : (timeMasterOp.run q s).1.store = s.store := by
  unfold timeMasterOp; simp [store_rules]

/-! ### Images -/

@[simp] theorem noteSection_store (i : Nat) (s : State) : (noteSection i s).store = s.store := by unfold noteSection; simp [store_rules]
@[simp] theorem adoptNow_store (s : State) : (adoptNow s).store = s.store := by unfold adoptNow; split <;> simp [store_rules]
@[simp] theorem finishApply_store (img : List Byte) (s : State) : (finishApply img s).store = s.store := by
  unfold finishApply; simp [store_rules]

/-! ### Resets and starts -/

@[simp] theorem beginFull_store (cause : Nat) (s : State) : (beginFull cause s).store = s.store := by unfold beginFull; simp [store_rules]
@[simp] theorem execWakeStuck_store (s : State) : (nextOr s (execWakeStuck s)).store = s.store := by
  unfold execWakeStuck; simp [store_rules]
@[simp] theorem resetStuck_store (s : State) : (resetStuck s).store = s.store := by unfold resetStuck; simp [store_rules]
@[simp] theorem startWork_store (s : State) : (startWork s).store = s.store := by unfold startWork; simp [store_rules]
@[simp] theorem overAtStart_store (s : State) : (overAtStart s).store = s.store := by unfold overAtStart; simp [store_rules]
@[simp] theorem appear_store (src : ShipWake) (s : State) : (appear src s).store = s.store := by unfold appear; split <;> simp [store_rules]
@[simp] theorem execAutoUp_store (s : State) : (nextOr s (execAutoUp s)).store = s.store := by unfold execAutoUp; simp [store_rules]

/-! ### Idling -/

@[simp] theorem idle_store (s : State) : (idle s).store = s.store := by unfold idle; simp

end Sys2Proof.Machine
end

section
/-! PROOF. The invariant: what changes the store keeps the memories canonical and at most eight commands waiting, and from that that
every step keeps the invariant (R369, R376, R406, R511). -/

namespace Sys2Proof.Machine

/-- What the invariant asks of a store. -/
structure Store.Ok (x : Store) : Prop where
  /-- The image buffer is in its canonical form. -/
  buffer : x.buffer.wf = true
  /-- So is the command window. -/
  win : x.win.wf = true
  /-- So are the flash banks. -/
  image : ∀ b : Fin 2, (x.image[b]).wf = true
  /-- At most eight commands wait. -/
  waiting : x.waiting.length ≤ 8

theorem inv_iff (s : State) : Inv s ↔ s.store.Ok :=
  ⟨fun h => ⟨h.buffer, h.window, h.banks, h.waiting⟩, fun h => ⟨h.buffer, h.win, h.image, h.waiting⟩⟩

/-! ## Commands that come and go -/

/-- With no more commands waiting, a store stays as it should be. -/
theorem Store.Ok.fewer {x : Store} (h : x.Ok) {l : List Packet} (hl : l.length ≤ x.waiting.length) :
    ({ x with waiting := l } : Store).Ok :=
  ⟨h.buffer, h.win, h.image, Nat.le_trans hl h.waiting⟩

theorem foldl_ok {α : Type} (f : State → α → State) (hf : ∀ s x, s.store.Ok → (f s x).store.Ok) (l : List α) {s : State}
    (h : s.store.Ok) : (l.foldl f s).store.Ok := by
  induction l generalizing s with
  | nil => exact h
  | cons x xs ih => exact ih (hf s x h)

theorem foldl_answer_store (l : List Packet) (st : Packet → Status) (r : Packet → List Byte) (s : State) :
    (l.foldl (fun t p => answer p (st p) (r p) t) s).store = s.store :=
  foldl_store _ (fun t p => answer_store p (st p) (r p) t) l s

/-- Answering the failed packets at the head shortens what waits. -/
theorem serveFailed_store (s : State) :
    ∃ l : List Packet, l.length ≤ s.store.waiting.length ∧ (serveFailed s).store = { s.store with waiting := l } := by
  unfold serveFailed
  split
  · refine ⟨s.store.waiting.dropWhile (fun p => p.fail.isSome), (List.dropWhile_sublist _).length_le, ?_⟩
    rw [foldl_answer_store]
    rfl
  · exact ⟨s.store.waiting, Nat.le_refl _, rfl⟩

@[simp] theorem serveFailed_ok {s : State} (h : s.store.Ok) : (serveFailed s).store.Ok := by
  obtain ⟨l, hl, hs⟩ := serveFailed_store s
  rw [hs]
  exact h.fewer hl

@[simp] theorem complete_ok (st : Status) (l : List Byte) {s : State} (h : s.store.Ok) : (complete st l s).store.Ok := by
  unfold complete
  split
  · exact serveFailed_ok (by simpa [store_rules] using h)
  · exact h

/-- A packet joins those that wait where there is room. -/
theorem Store.Ok.join {x : Store} (h : x.Ok) (p : Packet) (hw : x.waiting.length < 8) :
    ({ x with waiting := x.waiting ++ [p] } : Store).Ok :=
  ⟨h.buffer, h.win, h.image, by simp; omega⟩

@[simp] theorem receive_ok (src : Source) (bc : Bool) (rx : Nat) (bs : List Byte) {s : State} (h : s.store.Ok) :
    (receive src bc rx bs s).store.Ok := by
  unfold receive
  dsimp only
  split
  next hw => exact serveFailed_ok (h.join _ hw)
  next => simpa using h

@[simp] theorem receiveRaw_ok {s : State} (h : s.store.Ok) : (receiveRaw s).store.Ok :=
  foldl_ok _ (fun _ _ ht => receive_ok _ _ _ _ ht) _ h

theorem discardCommands_store (s : State) : (discardCommands s).store = { s.store with waiting := [] } := rfl

@[simp] theorem discardCommands_ok {s : State} (h : s.store.Ok) : (discardCommands s).store.Ok := by
  rw [discardCommands_store]
  exact h.fewer (Nat.zero_le _)

@[simp] theorem joinQueue_ok (p : Packet) {s : State} (h : s.store.Ok) : (joinQueue p s).store.Ok := by
  have ht : (if p.src = .host then submitted s else s).store.Ok := by simpa [store_rules] using h
  unfold joinQueue
  generalize (if p.src = .host then submitted s else s) = t at ht
  split
  · simpa using h
  · split
    · split <;> simpa [store_rules] using h
    · dsimp only
      split
      next hw => exact ht.join p hw
      next => simpa using ht

theorem takeTurn_ok {p q : Packet} {s t : State} (h : s.store.Ok) (ht : takeTurn p s = some (q, t)) : t.store.Ok := by
  unfold takeTurn at ht
  split at ht
  · split at ht
    · split at ht
      · cases ht; exact h
      · split at ht
        · cases ht
        · cases ht; simpa using h
    next x l hw =>
      split at ht
      · cases ht
        exact h.fewer (by simp only [State.store, hw, List.length_cons]; omega)
      · cases ht
  · cases ht

theorem finish_ok (o : OpSpec) (p : Packet) {s : State} {out : State × Ans} (h : s.store.Ok) (ho : out.1.store.Ok) :
    (nextOr s (o.finish p s out)).store.Ok := by
  unfold OpSpec.finish
  split
  · exact h
  · exact ho
  · split
    · simpa [store_rules] using ho
    · split
      · simpa [store_rules] using h
      · simpa [store_rules] using ho

theorem process_ok {o : OpSpec} (hr : ∀ q t, t.store.Ok → (o.run q t).1.store.Ok) (p : Packet) {s : State} (h : s.store.Ok) :
    (nextOr s (o.process p s)).store.Ok := by
  unfold OpSpec.process
  split
  · simpa [store_rules] using h
  · split
    · simpa [store_rules] using h
    · split
      · simpa [store_rules] using h
      · exact finish_ok o p h (hr _ _ h)

/-- A Zhoenne command keeps the store as it should be where its handler does. -/
theorem runOp_ok {o : OpSpec} (hr : ∀ q t, t.store.Ok → (o.run q t).1.store.Ok) (q : Req) {s : State} (h : s.store.Ok) :
    (nextOr s (runOp o q s)).store.Ok := by
  have hs : (resume s).store.Ok := by simpa using h
  unfold runOp
  split
  · exact h
  · split
    next p t ht =>
      have hp := process_ok hr p (takeTurn_ok hs ht)
      cases hx : o.process p t with
      | next u => exact serveFailed_ok (by simpa [hx, nextOr] using hp)
      | fault f => exact h
      | refused r => exact h
    next => exact joinQueue_ok _ hs

/-! ## The flash banks -/

/-- Programming the staging bank keeps its canonical form (R511). -/
theorem Store.Ok.program {x : Store} (h : x.Ok) {f : Fw} (hf : f.image = x.image) (b : Fin 2) (off : Nat) (data : List Byte) :
    ({ x with image := (f.program b off data).image } : Store).Ok :=
  ⟨h.buffer, h.win, Fw.wf_program f b off data (by rw [hf]; exact h.image), h.waiting⟩

@[simp] theorem cutShort_ok {s : State} (h : s.store.Ok) : (cutShort s).store.Ok := by
  unfold cutShort
  split
  · simpa using h
  · exact h.program rfl _ _ _
  · exact h
  · exact h

@[simp] theorem execFwStageWriteDone_ok (ok : Bool) {s : State} (h : s.store.Ok) :
    (nextOr s (execFwStageWriteDone ok s)).store.Ok := by
  unfold execFwStageWriteDone
  split
  · split
    · exact complete_ok _ _ (h.program rfl _ _ _)
    · exact complete_ok _ _ ((fwSet_store ..).symm ▸ h.program rfl _ _ _)
  · exact h

/-! ## What else changes the store -/

/-! ### One power cell -/

@[simp] theorem settleWords_ok {s : State} (h : s.store.Ok) : (settleWords s).store.Ok := by
  unfold settleWords; repeat' split
  all_goals simp [h]
@[simp] theorem execHsTimeout_ok (c : Fin 256) {s : State} (h : s.store.Ok) : (nextOr s (execHsTimeout c s)).store.Ok := by
  unfold execHsTimeout; simp [store_rules, h]
@[simp] theorem execConfigWr_ok (c : Fin 256) (index : Nat) (word : BitVec 32) (ecc : Ecc) {s : State} (h : s.store.Ok) :
    (nextOr s (execConfigWr c index word ecc s)).store.Ok := by
  unfold execConfigWr; dsimp only; repeat' split
  all_goals simp [store_rules, h]

/-! ### Fuses -/

@[simp] theorem burnDone_ok (job : BurnJob) (r : BurnResult) {s : State} (h : s.store.Ok) : (burnDone job r s).store.Ok := by
  unfold burnDone; dsimp only; repeat' split
  all_goals simp [h]
@[simp] theorem execOtpBurnDone_ok (result : BurnResult) {s : State} (h : s.store.Ok) : (nextOr s (execOtpBurnDone result s)).store.Ok := by
  unfold execOtpBurnDone; repeat' split
  all_goals simp [store_rules, h]

/-! ### The rail map -/

@[simp] theorem execMapStoreDone_ok {s : State} (h : s.store.Ok) : (nextOr s (execMapStoreDone s)).store.Ok := by
  unfold execMapStoreDone; dsimp only; repeat' split
  all_goals simp [store_rules, h]

/-! ### Protection -/

@[simp] theorem execCellSelfTestDone_ok (passed : Bool) {s : State} (h : s.store.Ok) :
    (nextOr s (execCellSelfTestDone passed s)).store.Ok := by
  unfold execCellSelfTestDone; repeat' split
  all_goals simp [store_rules, h]

/-! ### The mirror -/

@[simp] theorem stopManager_ok {s : State} (h : s.store.Ok) : (stopManager s).store.Ok := by
  unfold stopManager; dsimp only; repeat' split
  all_goals simp [store_rules, h]

/-! ### Telemetry -/

@[simp] theorem serveSystem_ok {s : State} (h : s.store.Ok) : (serveSystem s).store.Ok := by
  unfold serveSystem; repeat' split
  all_goals simp [h]
@[simp] theorem execConversionDone_ok (i : SeqInstant) (codes : List Int) {s : State} (h : s.store.Ok) :
    (nextOr s (execConversionDone i codes s)).store.Ok := by
  unfold execConversionDone; dsimp only; repeat' split
  all_goals simp [store_rules, h]

/-! ### HOLD and the charger -/

@[simp] theorem powerCheck_ok {s : State} (h : s.store.Ok) : (powerCheck s).store.Ok := by
  unfold powerCheck; repeat' split
  all_goals simp [h]
@[simp] theorem reselect_ok {s : State} (h : s.store.Ok) : (reselect s).store.Ok := by
  unfold reselect; dsimp only; repeat' split
  all_goals simp [store_rules, h]
@[simp] theorem execSourceChange_ok (e : SourceInRange) {s : State} (h : s.store.Ok) : (nextOr s (execSourceChange e s)).store.Ok := by
  unfold execSourceChange; repeat' split
  all_goals simp [store_rules, h]
@[simp] theorem execPhantomPowerLost_ok (p : Port) {s : State} (h : s.store.Ok) : (nextOr s (execPhantomPowerLost p s)).store.Ok := by
  unfold execPhantomPowerLost; simp [store_rules, h]
@[simp] theorem execAuxinRange_ok (c : AuxCond) {s : State} (h : s.store.Ok) : (nextOr s (execAuxinRange c s)).store.Ok := by
  unfold execAuxinRange; simp [store_rules, h]
@[simp] theorem execAuxidRead_ok (v : Nat) {s : State} (h : s.store.Ok) : (nextOr s (execAuxidRead v s)).store.Ok := by
  unfold execAuxidRead; repeat' split
  all_goals simp [store_rules, h]
@[simp] theorem chargerConfigOp_ok (q : Req) {s : State} (h : s.store.Ok) : (chargerConfigOp.run q s).1.store.Ok := by
  unfold chargerConfigOp; dsimp only; repeat' split
  all_goals simp [store_rules, h]

/-! ### The module supply -/

@[simp] theorem undervoltage_ok {s : State} (h : s.store.Ok) : (undervoltage s).store.Ok := by unfold undervoltage; simp [store_rules, h]
@[simp] theorem execVinUv_ok {s : State} (h : s.store.Ok) : (nextOr s (execVinUv s)).store.Ok := by
  unfold execVinUv; repeat' split
  all_goals simp [store_rules, h]
@[simp] theorem execVinOv_ok {s : State} (h : s.store.Ok) : (nextOr s (execVinOv s)).store.Ok := by
  unfold execVinOv; repeat' split
  all_goals simp [store_rules, h]

/-! ### Thermal management -/

@[simp] theorem endReading_ok (code : Nat) (reading : BitVec 16) (timedOut : Bool) {s : State} (h : s.store.Ok) :
    (endReading code reading timedOut s).store.Ok := by
  unfold endReading; dsimp only; repeat' split
  all_goals simp [store_rules, h]
@[simp] theorem execTempReadingDone_ok (code : Nat) (reading : BitVec 16) {s : State} (h : s.store.Ok) :
    (nextOr s (execTempReadingDone code reading s)).store.Ok := by
  unfold execTempReadingDone; repeat' split
  all_goals simp [store_rules, h]
@[simp] theorem execTempReadingTimeout_ok (code : Nat) {s : State} (h : s.store.Ok) :
    (nextOr s (execTempReadingTimeout code s)).store.Ok := by
  unfold execTempReadingTimeout; simp [store_rules, h]
@[simp] theorem execTsd_ok (k : Fin 16) {s : State} (h : s.store.Ok) : (nextOr s (execTsd k s)).store.Ok := by
  unfold execTsd; repeat' split
  all_goals simp [store_rules, h]

/-! ### Power states -/

@[simp] theorem beginHibernate_ok {s : State} (h : s.store.Ok) : (beginHibernate s).store.Ok := by
  unfold beginHibernate; repeat' split
  all_goals simp [store_rules, h]
@[simp] theorem execHibernateEntry_ok {s : State} (h : s.store.Ok) : (nextOr s (execHibernateEntry s)).store.Ok := by
  unfold execHibernateEntry; repeat' split
  all_goals simp [store_rules, h]
@[simp] theorem enterShip_ok {s : State} (h : s.store.Ok) : (enterShip s).store.Ok := by unfold enterShip; simp [store_rules, h]
@[simp] theorem execShipEntry_ok {s : State} (h : s.store.Ok) : (nextOr s (execShipEntry s)).store.Ok := by
  unfold execShipEntry; repeat' split
  all_goals simp [store_rules, h]

/-! ### Hem -/

@[simp] theorem execHemPor_ok {s : State} (h : s.store.Ok) : (nextOr s (execHemPor s)).store.Ok := by
  unfold execHemPor; repeat' split
  all_goals simp [store_rules, h]

/-! ### The host port -/

@[simp] theorem submit_ok (len : Nat) {s : State} (h : s.store.Ok) : (submit len s).store.Ok := by
  unfold submit; repeat' split
  all_goals simp [store_rules, h]
@[simp] theorem doorbell_ok (v : Nat) {s : State} (h : s.store.Ok) : (doorbell v s).store.Ok := by
  unfold doorbell; dsimp only; repeat' split
  all_goals simp [h]
@[simp] theorem writeDoorbell_ok (v : Nat) {s : State} (h : s.store.Ok) : (writeDoorbell v s).store.Ok := by
  unfold writeDoorbell; repeat' split
  all_goals simp [store_rules, h]
@[simp] theorem execDoorbellSubmit_ok (v : BitVec 16) {s : State} (h : s.store.Ok) : (nextOr s (execDoorbellSubmit v s)).store.Ok := by
  unfold execDoorbellSubmit; repeat' split
  all_goals simp [store_rules, h]
@[simp] theorem execDoorbellTake_ok (v : BitVec 16) {s : State} (h : s.store.Ok) : (nextOr s (execDoorbellTake v s)).store.Ok := by
  unfold execDoorbellTake; dsimp only; repeat' split
  all_goals simp [store_rules, h]
@[simp] theorem execCommandWindowWrite_ok (b : Byte) {s : State} (h : s.store.Ok) : (nextOr s (execCommandWindowWrite b s)).store.Ok := by
  unfold execCommandWindowWrite
  split
  · split
    · simpa [store_rules] using h
    · have hw : ({ s.store with win := s.store.win.write (s.hp.ptr - 0x8000) b } : Store).Ok :=
        ⟨h.buffer, Mem.wf_write _ _ h.win, h.image, h.waiting⟩
      simpa [store_rules] using hw
  · exact h
@[simp] theorem writeRegister_ok (p : Nat) (b : Byte) {s : State} (h : s.store.Ok) : (writeRegister p b s).store.Ok := by
  unfold writeRegister; repeat' split
  all_goals simp [store_rules, h]
@[simp] theorem execRegisterWrite_ok (b : Byte) {s : State} (h : s.store.Ok) : (nextOr s (execRegisterWrite b s)).store.Ok := by
  unfold execRegisterWrite; dsimp only; repeat' split
  all_goals simp [store_rules, h]

/-! ### Firmware -/

@[simp] theorem execCommitStop_ok {s : State} (h : s.store.Ok) : (nextOr s (execCommitStop s)).store.Ok := by
  unfold execCommitStop; repeat' split
  all_goals simp [store_rules, h]
@[simp] theorem execLockstepMismatch_ok {s : State} (h : s.store.Ok) : (nextOr s (execLockstepMismatch s)).store.Ok := by
  unfold execLockstepMismatch; repeat' split
  all_goals simp [store_rules, h]

/-! ### The Seam link -/

@[simp] theorem actCommand_ok (p : Port) (f : Frame) (at_ : Nat) {s : State} (h : s.store.Ok) : (actCommand p f at_ s).store.Ok := by
  unfold actCommand; simp [h]
@[simp] theorem actFrame_ok (p : Port) (f : Frame) (at_ : Nat) (ofs : Int) {s : State} (h : s.store.Ok) :
    (actFrame p f at_ ofs s).store.Ok := by
  unfold actFrame; repeat' split
  all_goals simp [h]
@[simp] theorem deliverFrame_ok (p : Port) (f : Frame) (ofs : Int) (addressed : Bool) {s : State} (h : s.store.Ok) :
    (deliverFrame p f ofs addressed s).store.Ok := by
  unfold deliverFrame; repeat' split
  all_goals simp [store_rules, h]
@[simp] theorem actWaiting_ok (x : Port × Frame × Nat × Int) {s : State} (h : s.store.Ok) : (actWaiting x s).store.Ok := by
  unfold actWaiting; repeat' split
  all_goals simp [h]
@[simp] theorem drainFrames_ok {s : State} (h : s.store.Ok) : (drainFrames s).store.Ok := foldl_ok _ (fun _ _ ht => actWaiting_ok _ ht) _ h
@[simp] theorem route_ok (p : Port) (f : Frame) (ofs : Int) (corr : Nat) {s : State} (h : s.store.Ok) : (route p f ofs corr s).store.Ok := by
  unfold route; repeat' split
  all_goals simp [h]
@[simp] theorem arrive_ok (p : Port) (w : Wire) (phase : Nat) (resid : Nat) {s : State} (h : s.store.Ok) :
    (arrive p w phase resid s).store.Ok := by
  unfold arrive; dsimp only; repeat' split
  all_goals simp [store_rules, h]
@[simp] theorem execCommand_ok (p : Port) (w : Wire) {s : State} (h : s.store.Ok) : (nextOr s (execCommand p w s)).store.Ok := by
  unfold execCommand; simp [store_rules, h]
@[simp] theorem execReply_ok (p : Port) (w : Wire) {s : State} (h : s.store.Ok) : (nextOr s (execReply p w s)).store.Ok := by
  unfold execReply; simp [store_rules, h]
@[simp] theorem execEvent_ok (p : Port) (w : Wire) {s : State} (h : s.store.Ok) : (nextOr s (execEvent p w s)).store.Ok := by
  unfold execEvent; simp [store_rules, h]
@[simp] theorem execTelemetry_ok (p : Port) (w : Wire) {s : State} (h : s.store.Ok) : (nextOr s (execTelemetry p w s)).store.Ok := by
  unfold execTelemetry; simp [store_rules, h]
@[simp] theorem execFaultEcho_ok (p : Port) (w : Wire) {s : State} (h : s.store.Ok) : (nextOr s (execFaultEcho p w s)).store.Ok := by
  unfold execFaultEcho; simp [store_rules, h]
@[simp] theorem execWake_ok (p : Port) (w : Wire) {s : State} (h : s.store.Ok) : (nextOr s (execWake p w s)).store.Ok := by
  unfold execWake; simp [store_rules, h]
@[simp] theorem execAnnounce_ok (p : Port) (w : Wire) {s : State} (h : s.store.Ok) : (nextOr s (execAnnounce p w s)).store.Ok := by
  unfold execAnnounce; simp [store_rules, h]
@[simp] theorem execSync_ok (p : Port) (w : Wire) (phase : Nat) (resid : Nat) {s : State} (h : s.store.Ok) :
    (nextOr s (execSync p w phase resid s)).store.Ok := by
  unfold execSync; simp [store_rules, h]

/-! ### Images -/


/-- Every opcode that a section of an image may carry keeps the store as it should be (R379). -/
theorem sectionOp_ok {ty : Nat} {o : OpSpec} (ho : sectionOp ty = some o) (q : Req) {s : State} (h : s.store.Ok) :
    (o.run q s).1.store.Ok := by
  have hm : o ∈ sectionOps := List.mem_of_find?_eq_some ho
  simp only [sectionOps, List.cons_append, List.nil_append, List.mem_cons, List.not_mem_nil, or_false] at hm
  obtain rfl | rfl | rfl | rfl | rfl | rfl | rfl | rfl | rfl | rfl | rfl | rfl | rfl | rfl | rfl | rfl | rfl | rfl | rfl | rfl |
    rfl | rfl | rfl | rfl | rfl | rfl | rfl | rfl | rfl | rfl | rfl | rfl | rfl | rfl := hm
  all_goals simp [h]
theorem runSection_ok (src : Source) (i : Nat) (x : Section_) {s : State} (h : s.store.Ok) : (runSection src i x s).1.store.Ok := by
  unfold runSection
  split
  · exact h
  next o ho =>
    have hr := sectionOp_ok ho { src := src, ver := 2, tag := 0, params := x.body } h
    split
    · exact h
    · split
      · simpa using h
      · split
        all_goals
          next t _ hq =>
            rw [hq] at hr
            repeat' split
            all_goals simpa using hr
theorem runSections_ok (src : Source) (l : List Section_) (i : Nat) {s : State} (h : s.store.Ok) :
    (runSections src l i s).1.store.Ok := by
  induction l generalizing i s with
  | nil => exact h
  | cons x xs ih =>
    have hx := runSection_ok src i x h
    unfold runSections
    split
    next t ht => exact ih _ (by simpa only [ht] using hx)
    next t f ht => simpa only [ht] using hx
@[simp] theorem configApplyOp_ok (q : Req) {s : State} (h : s.store.Ok) : (configApplyOp.run q s).1.store.Ok := by
  have ha : ∀ (src : Source) (l : List Section_) (i : Nat) (t : State), t.store.Ok →
      (applied (runSections src l i t) started).1.store.Ok := by
    intro src l i t ht
    have hr := runSections_ok src l i ht
    unfold applied
    split
    all_goals
      next he => simpa [he, store_rules] using hr
  unfold configApplyOp; dsimp only; repeat' split
  all_goals simp [store_rules, h, ha]
@[simp] theorem applyMap_ok {s : State} (h : s.store.Ok) : (applyMap s).1.store.Ok := by
  unfold applyMap; repeat' split
  all_goals simp [store_rules, h]
@[simp] theorem execConfigDone_ok {s : State} (h : s.store.Ok) : (nextOr s (execConfigDone s)).store.Ok := by
  unfold execConfigDone
  split
  · dsimp only
    split
    · exact h
    next t hr =>
      have ht : t.store.Ok := by
        rw [show t = _ from (congrArg Prod.fst hr).symm]
        exact runSections_ok _ _ _ h
      split
      · exact h
      next u _ _ hu =>
        have hk : u.store.Ok := by
          rw [show u = _ from (congrArg Prod.fst hu).symm]
          split <;> simp [store_rules, ht]
        simpa [store_rules] using hk
  · exact h

/-! ### Resets and starts -/

@[simp] theorem beginRestart_ok (cause : Nat) {s : State} (h : s.store.Ok) : (beginRestart cause s).store.Ok := by
  unfold beginRestart; repeat' split
  all_goals simp [store_rules, h]
@[simp] theorem execResetN_ok {s : State} (h : s.store.Ok) : (nextOr s (execResetN s)).store.Ok := by
  unfold execResetN; repeat' split
  all_goals simp [store_rules, h]
@[simp] theorem execResetModuleAct_ok {s : State} (h : s.store.Ok) : (nextOr s (execResetModuleAct s)).store.Ok := by
  unfold execResetModuleAct; repeat' split
  all_goals simp [store_rules, h]
@[simp] theorem execFullResetTimeout_ok {s : State} (h : s.store.Ok) : (nextOr s (execFullResetTimeout s)).store.Ok := by
  unfold execFullResetTimeout; repeat' split
  all_goals simp [store_rules, h]
@[simp] theorem execManagerStart_ok {s : State} (h : s.store.Ok) : (nextOr s (execManagerStart s)).store.Ok := by
  unfold execManagerStart
  dsimp only
  split
  · exact h
  · have hb : ({ s.store with buffer := [] } : Store).Ok := ⟨rfl, h.win, h.image, h.waiting⟩
    have hm : (if (fuseChecks false (bootBank s)).pwr.st = .safeHold then moveLevel (fuseChecks false (bootBank s))
        else fuseChecks false (bootBank s)).store = s.store := by split <;> simp
    simp only [nextOr]
    refine drainFrames_ok (receiveRaw_ok ?_)
    simpa [store_rules, hm] using hb
@[simp] theorem resetBlocks_ok (strap : BitVec 3) (ext : BitVec 3) {s : State} (h : s.store.Ok) :
    (resetBlocks strap ext s).store.Ok := ⟨rfl, rfl, h.image, Nat.zero_le _⟩
@[simp] theorem stageSections_ok (img : List Byte) {s : State} (h : s.store.Ok) : (stageSections img s).store.Ok := by
  unfold stageSections; exact foldl_ok _ (fun _ _ ht => by simpa using ht) _ h
@[simp] theorem loadMap_ok {s : State} (h : s.store.Ok) : (loadMap s).store.Ok := by
  unfold loadMap; repeat' split
  all_goals simp [store_rules, h]
@[simp] theorem loadImage_ok {s : State} (h : s.store.Ok) : (loadImage s).1.store.Ok := by
  unfold loadImage
  split
  · exact h
  · dsimp only
    split
    next t _ hr =>
      exact (congrArg (fun x => x.1.store.Ok) hr).mp (runSections_ok _ _ _ h)
    next t hr =>
      have ht : t.store.Ok := (congrArg (fun x => x.1.store.Ok) hr).mp (runSections_ok _ _ _ h)
      simpa [store_rules] using ht

/-- What a full start leads to. -/
theorem fullStart_ok (strap ext : BitVec 3) (src detail left : Nat) {s t : State} (h : s.store.Ok)
    (ht : fullStart strap ext src detail left s = .next t) : t.store.Ok := by
  unfold fullStart at ht
  dsimp only at ht
  split at ht
  · cases ht
  next u hl =>
    have hu : u.store.Ok := by
      rw [show u = _ from (congrArg Prod.fst hl).symm]
      refine loadImage_ok (loadMap_ok ?_)
      simp [store_rules, h]
    cases ht
    exact reselect_ok (by simpa using hu)
theorem nextOr_ok {s : State} {x : Host.Outcome State Fault Refusal} (h : s.store.Ok) (hx : ∀ t, x = .next t → t.store.Ok) :
    (nextOr s x).store.Ok := by
  cases x with
  | next t => exact hx t rfl
  | fault f => exact h
  | refused r => exact h
@[simp] theorem execFullStart_ok (straps : BitVec 3) (ext : BitVec 3) {s : State} (h : s.store.Ok) :
    (nextOr s (execFullStart straps ext s)).store.Ok := by
  have hb : ({ bump (bump s) with fw := startCause s } : State).store.Ok := by
    unfold startCause Fw.cutMark; repeat' split
    all_goals simpa [store_rules] using h
  unfold execFullStart
  split
  · exact h
  · exact nextOr_ok h fun t ht => fullStart_ok _ _ _ _ _ hb ht
@[simp] theorem execShipExit_ok (e : ShipLeave) {s : State} (h : s.store.Ok) : (nextOr s (execShipExit e s)).store.Ok := by
  unfold execShipExit
  dsimp only
  split
  · exact h
  · split
    · exact nextOr_ok h fun t ht => fullStart_ok _ _ _ _ _ (by simpa [store_rules] using h) ht
    · simpa [store_rules] using h

/-- The row of a Zhoenne opcode is its packet given to the interpreter (R369). -/
theorem exec_of_zhoenne {i : Instr} {o : OpSpec} {q : Req} (h : zhoenne i = some (o, q)) (s : State) : exec i s = runOp o q s := by
  cases i <;> cases h <;> rfl

theorem configLoadOp_ok (q : Req) {s : State} (h : s.store.Ok) : (configLoadOp.run q s).1.store.Ok := by
  refine ⟨?_, h.win, h.image, h.waiting⟩
  refine Mem.wf_writes _ _ ?_
  split
  · rfl
  · exact h.buffer

/-- Every handler keeps the store as it should be. -/
theorem zhoenne_ok {i : Instr} {o : OpSpec} {q : Req} (hz : zhoenne i = some (o, q)) (p : Req) {s : State} (h : s.store.Ok) :
    (o.run p s).1.store.Ok := by
  cases i <;> cases hz
  case configLoad => exact configLoadOp_ok p h
  all_goals simp [h]

/-- Every happening keeps the store as it should be. -/
theorem happening_ok {i : Instr} (hz : zhoenne i = none) {s : State} (h : s.store.Ok) : (nextOr s (exec i s)).store.Ok := by
  cases i <;> cases hz
  all_goals simp [exec, h]

theorem exec_ok (i : Instr) {s : State} (h : s.store.Ok) : (nextOr s (exec i s)).store.Ok := by
  cases hz : zhoenne i with
  | none => exact happening_ok hz h
  | some x => rw [exec_of_zhoenne hz]; exact runOp_ok (fun p _ ht => zhoenne_ok hz p ht) _ h

/-- Settles O59: after reset no byte is listed and no command waits. -/
theorem invHoldsAtReset : Obligations.InvHoldsAtReset :=
  ⟨rfl, rfl, fun b => by simp [State.reset, Vector.getElem_replicate, Mem.wf, Mem.okFrom], Nat.zero_le _⟩

/-- Settles O60: of the state the invariant reads the store alone, and every row keeps a store as it should be (`exec_ok`). -/
theorem everyStepKeepsInv : Obligations.EveryStepKeepsInv := by
  intro s t h hs
  rw [inv_iff] at h ⊢
  unfold step at hs
  split at hs
  · cases hs
    simpa using h
  next i rest _ =>
    have hx := exec_ok i (s := { s with pending := rest }) h
    rwa [hs] at hx

end Sys2Proof.Machine
end

section
/-! PROOF. Every command: a step, the turn a command takes, repetition, the checks before the handler, answers and the queue (R360 to
R371, R388). -/

namespace Sys2Proof.Machine

/-- Settles O1: both cases are the definition of a step. -/
theorem stepTakesFrontCommand : Obligations.StepTakesFrontCommand :=
  ⟨fun _ _ _ => rfl, fun s h => by unfold step; rw [h]⟩

/-! ## A command that has its turn -/

@[simp] theorem arrived_waiting (q : Req) (s : State) : (arrived q s).proto.waiting = s.proto.waiting := by rw [arrived_proto]

theorem keptFor_arrived (q p : Req) (op : Nat) (s : State) : keptFor (arrived q s) (Req.packet p op s) = keptFor s (Req.packet p op s) := by
  simp [keptFor]

/-- A command that is received and takes its turn is processed, and failed packets behind it are answered. -/
theorem runOp_of_takeTurn {o : OpSpec} {q : Req} {s s1 t : State} {p : Packet} (hon : s.off = false)
    (heng : q.src = .host → s.hp.engine = true) (hturn : takeTurn (Req.packet q o.op s) (resume s) = some (p, s1))
    (hp : o.process p s1 = .next t) : runOp o q s = .next (serveFailed t) := by
  have hrecv : ¬ (s.off = true ∨ (q.src = .host ∧ s.hp.engine = false)) := by
    rintro (hx | ⟨hq, he⟩)
    · simp [hon] at hx
    · simp [heng hq] at he
  unfold runOp
  rw [if_neg hrecv, hturn]
  dsimp only
  rw [hp]

theorem runOp_turn_next {o : OpSpec} {q : Req} {s t : State} (h : Turn o.op q s)
    (hp : o.process (Req.packet q o.op s) (arrived q s) = .next t) (hw : t.proto.waiting = []) : runOp o q s = .next t := by
  rw [runOp_of_takeTurn h.on (fun hq => (h.host hq).1) (takeTurn_ready h) hp, serveFailed_none hw]

/-- A command that fails a check of its parameters is answered so. -/
theorem process_paramCheck {o : OpSpec} {p : Packet} {s : State} {st : Status} {l : List Byte} (hk : keptFor s p = none)
    (hc : o.paramCheck p.ver p.params = some (st, l)) : o.process p s = .next (answer p st l s) := by
  unfold OpSpec.process
  rw [hk, hc]

theorem process_gate {o : OpSpec} {p : Packet} {s : State} {l : List Byte} (hk : keptFor s p = none)
    (hc : o.paramCheck p.ver p.params = none) (hg : o.gate s = some l) : o.process p s = .next (answer p .refusedState l s) := by
  unfold OpSpec.process
  rw [hk, hc, hg]

theorem process_run {o : OpSpec} {p : Packet} {s : State} (hk : keptFor s p = none)
    (hc : o.paramCheck p.ver p.params = none) (hg : o.gate s = none) :
    o.process p s = o.finish p s (o.run { src := p.src, ver := p.ver, tag := p.tag, params := p.params } s) := by
  unfold OpSpec.process
  rw [hk, hc, hg]

/-- The opcodes came with version 1 or 2. -/
theorem zhoenne_v {i : Instr} {o : OpSpec} {q : Req} (h : zhoenne i = some (o, q)) : o.v = 1 ∨ o.v = 2 := by
  cases i <;> cases h <;> decide

theorem paramCheck_length {o : OpSpec} {p : List Byte} {n : Nat} (hv : o.v = 1 ∨ o.v = 2) (hl : p.length ≤ 496)
    (he : o.plen.expected p = some n) : o.paramCheck 2 p = some (.badLength, le16 n ++ le16 p.length) := by
  unfold OpSpec.paramCheck plenLimit
  rw [if_neg (by decide), if_neg (by simpa using hl), if_neg (by omega), he]

theorem paramCheck_field {o : OpSpec} {p : List Byte} {off : Nat} (hv : o.v = 1 ∨ o.v = 2) (hl : p.length ≤ 496)
    (he : o.plen.expected p = none) (hb : o.bad 2 p = some off) : o.paramCheck 2 p = some (.notPresent, le16 off) := by
  unfold OpSpec.paramCheck plenLimit
  rw [if_neg (by decide), if_neg (by simpa using hl), if_neg (by omega), he]
  simp only [hb]

/-- Settles O5: each refusal is decided before the handler, on the state in which the command arrived. -/
theorem checksRefuseWithoutEffect : Obligations.ChecksRefuseWithoutEffect := by
  intro i o q s hz ht hv hl
  have hw : ∀ (st : Status) (l : List Byte), (answer (Req.packet q o.op s) st l (arrived q s)).proto.waiting = [] := by
    intro st l
    rw [answer_waiting, arrived_waiting, ht.empty]
  have hk : keptFor (arrived q s) (Req.packet q o.op s) = none := (keptFor_arrived ..).trans ht.fresh
  have hpc : o.paramCheck (Req.packet q o.op s).ver (Req.packet q o.op s).params = o.paramCheck 2 q.params := by rw [← hv]; rfl
  have hv2 := zhoenne_v hz
  rw [exec_of_zhoenne hz]
  refine ⟨fun n hn hne => ?_, fun off he hb => ?_, fun hp hs hsh => ?_, fun hp hs hc ha => ?_⟩
  · refine runOp_turn_next ht (process_paramCheck hk ?_) (hw ..)
    exact hpc.trans (paramCheck_length hv2 hl (by simp [hn, Plen.expected, hne]))
  · refine runOp_turn_next ht (process_paramCheck hk ?_) (hw ..)
    exact hpc.trans (paramCheck_field hv2 hl he hb)
  · refine runOp_turn_next ht (process_gate hk (hpc.trans hp) ?_) (hw ..)
    simp [OpSpec.gate, hs, hsh]
  · refine runOp_turn_next ht (process_gate hk (hpc.trans hp) ?_) (hw ..)
    simp [OpSpec.gate, hs, hc, ha]

/-- Settles O6: the version is judged with the parameters, the length of the result by what answers the command (`hfin`). -/
theorem versionOneCommands : Obligations.VersionOneCommands := by
  intro i o q s hz ht hv hs hc hl
  have hk : keptFor (arrived q s) (Req.packet q o.op s) = none := (keptFor_arrived ..).trans ht.fresh
  have hpc : o.paramCheck (Req.packet q o.op s).ver (Req.packet q o.op s).params = o.paramCheck 1 q.params := by rw [← hv]; rfl
  have hw : ∀ (st : Status) (l : List Byte), (answer (Req.packet q o.op s) st l (arrived q s)).proto.waiting = [] := by
    intro st l
    rw [answer_waiting, arrived_waiting, ht.empty]
  rw [exec_of_zhoenne hz]
  refine ⟨fun ho => ?_, fun t l hp hr hb htw => ?_⟩
  · refine runOp_turn_next ht (process_paramCheck hk ?_) (hw ..)
    rw [hpc]
    unfold OpSpec.paramCheck plenLimit
    rw [if_neg (by decide), if_neg (by simpa using hl), if_pos (by omega)]
  · have hg : o.gate (arrived q s) = none := by simp [OpSpec.gate, hs, hc]
    have hrun : o.process (Req.packet q o.op s) (arrived q s) = o.finish (Req.packet q o.op s) (arrived q s) (t, .reply .done l) := by
      rw [process_run hk (hpc.trans hp) hg, ← hr]
      rfl
    have hfin : o.finish (Req.packet q o.op s) (arrived q s) (t, .reply .done l) =
        if 240 < l.length then .next (answer (Req.packet q o.op s) .badLength (le16 240 ++ le16 l.length) (arrived q s))
        else .next (answer (Req.packet q o.op s) .done l t) := by
      by_cases hn : 240 < l.length <;> simp [OpSpec.finish, Status.stateRule, Status.executed, Req.packet, hv, hb, hn]
    refine ⟨fun hle => ?_, fun hgt => ?_⟩
    · exact runOp_turn_next ht (by rw [hrun, hfin, if_neg (by omega)]) (by rw [answer_waiting, htw])
    · exact runOp_turn_next ht (by rw [hrun, hfin, if_pos hgt]) (hw ..)

/-! ## Answers -/

@[simp] theorem deliver_kept (p : Packet) (r : Reply) (s : State) : (deliver p r s).proto.kept = s.proto.kept := by rw [deliver_proto]
@[simp] theorem deliver_flags (p : Packet) (r : Reply) (s : State) : (deliver p r s).proto.flags = s.proto.flags := by rw [deliver_proto]
@[simp] theorem deliver_waiting (p : Packet) (r : Reply) (s : State) : (deliver p r s).proto.waiting = s.proto.waiting := by rw [deliver_proto]
@[simp] theorem deliver_exec (p : Packet) (r : Reply) (s : State) : (deliver p r s).proto.exec = s.proto.exec := by rw [deliver_proto]

/-- A reply to the host joins those to be delivered, and its port is BUSY (R388, R402). -/
theorem deliver_host {p : Packet} (r : Reply) (s : State) (h : p.src = .host) :
    deliver p r s = { s with
      proto := { s.proto with outbox := s.proto.outbox ++ [(s.proto.replyNo, r)], replyNo := s.proto.replyNo + 1 }
      hp := { s.hp with st := .busy, rplLen := 0 } } := by
  unfold deliver
  rw [h]

theorem rflagsOf_repeated (s : State) (src : Source) (b : Bool) : rflagsOf s src b / 4 % 2 = b2n b := by
  unfold rflagsOf
  cases b <;> cases (!s.proto.greeted.contains src) <;> cases anyPending s <;> rfl

theorem rflagsOf_pending (s : State) (src : Source) (b : Bool) : rflagsOf s src b % 2 = b2n (anyPending s) := by
  unfold rflagsOf
  cases b <;> cases (!s.proto.greeted.contains src) <;> cases anyPending s <;> rfl

/-- Drawing the kept reply changes the reply path and the free counter alone. -/
theorem answerKept_only (p : Packet) (k : Reply) (s : State) :
    answerKept p k s = { s with free := (answerKept p k s).free, proto := (answerKept p k s).proto, hp := (answerKept p k s).hp
                                seam := (answerKept p k s).seam } := by
  unfold answerKept
  dsimp only
  rw [deliver_only]

theorem arrived_only (q : Req) (s : State) : arrived q s = { resume s with hp := (arrived q s).hp } := by
  unfold arrived submitted
  split <;> rfl

theorem process_kept {o : OpSpec} {p : Packet} {s : State} {k : Reply} (h : keptFor s p = some k) :
    o.process p s = .next (answerKept p k s) := by
  unfold OpSpec.process
  rw [h]

theorem answerKept_host_seam {p : Packet} (k : Reply) (s : State) (h : p.src = .host) : (answerKept p k s).seam = s.seam := by
  unfold answerKept
  rw [deliver_host _ _ h]

theorem answerKept_outbox {p : Packet} (k : Reply) (s : State) (h : p.src = .host) :
    (answerKept p k s).proto.outbox = s.proto.outbox ++ [(s.proto.replyNo, { k with rflags := rflagsOf s p.src true })] := by
  unfold answerKept
  rw [deliver_host _ _ h]

/-- A command whose reply is kept takes its turn as a ready one does. -/
theorem takeTurn_arrived {op : Nat} {q : Req} {s : State} (hhost : q.src = .host → s.hp.st ≠ .busy) (hrun : s.proto.running = true)
    (hex : s.proto.exec = none) (hw : s.proto.waiting = []) :
    takeTurn (Req.packet q op s) (resume s) = some (Req.packet q op s, arrived q s) := by
  unfold takeTurn arrived
  by_cases hq : q.src = .host <;> simp_all [Req.packet]

/-- Settles O4: the command takes its turn, and the kept reply is its answer. -/
theorem repeatedCommandDrawsKeptReply : Obligations.RepeatedCommandDrawsKeptReply := by
  intro i o q s k hz hon hhost hrun hex hw hk
  have ha : keptFor (arrived q s) (Req.packet q o.op s) = some k := (keptFor_arrived ..).trans hk
  have hturn := takeTurn_arrived (op := o.op) (fun hq => (hhost hq).2) hrun hex hw
  have hwait : (answerKept (Req.packet q o.op s) k (arrived q s)).proto.waiting = [] := by simp [answerKept, hw]
  refine ⟨answerKept (Req.packet q o.op s) k (arrived q s), ?_, ?_, ?_, hwait, ?_, fun hq => ?_⟩
  · rw [exec_of_zhoenne hz, runOp_of_takeTurn hon (fun hq => (hhost hq).1) hturn (process_kept ha), serveFailed_none hwait]
  · rw [answerKept_only, arrived_only]
  · simp [answerKept]
  · simp [answerKept, hex]
  · have hp : (Req.packet q o.op s).src = .host := hq
    refine ⟨?_, { k with rflags := rflagsOf (arrived q s) q.src true }, ?_, rfl, rfl, rfl, rflagsOf_repeated ..⟩
    · rw [answerKept_host_seam _ _ hp, arrived_only]
      rfl
    · rw [answerKept_outbox _ _ hp, arrived_proto]
      rfl

/-- Settles O7: what `deliver` does, and the reply kept. -/
theorem answerDeliversAndKeepsReply : Obligations.AnswerDeliversAndKeepsReply := by
  intro p st l s
  refine ⟨answer_only .., answer_waiting .., answer_exec .., answer_buffer .., answer_win .., ?_, fun hx => ?_, fun hx => ?_, fun hp => ?_⟩
  · unfold answer noteCheck
    split <;> simp [globSet]
  · unfold answer noteCheck
    split <;> simp [hx, globSet]
  · unfold answer
    simp only [hx, if_true]
    exact ⟨_, _, rfl, rfl, rfl, congrArg Hem.ticks (noteCheck_hem st s), fun x hm => by simpa using (List.mem_filter.mp hm).2⟩
  · have ho : (noteCheck st s).proto.outbox = s.proto.outbox ∧ (noteCheck st s).proto.replyNo = s.proto.replyNo := by
      unfold noteCheck; split <;> exact ⟨rfl, rfl⟩
    unfold answer
    dsimp only
    rw [deliver_host _ _ hp, ho.1, ho.2]
    refine ⟨noteCheck_seam .., by rw [noteCheck_hp], _, rfl, rfl, rfl, fun hv => ⟨?_, ?_⟩, ?_, rflagsOf_repeated ..⟩
    · simp [hv]
    · simp [hv, Status.sent]
    · rw [rflagsOf_pending]
      simp [anyPending]

/-! ## The queue -/

/-- It is not a command's turn: the manager does not run, executes another, or another waits before it (R369). -/
def NoTurn (p : Packet) (s : State) : Prop :=
  s.proto.running = false ∨ (s.proto.exec ≠ none ∧ (p.op ≠ 0x0301 ∨ s.map.applying = false)) ∨
    ∃ h rest, s.proto.waiting = h :: rest ∧ (h.same p = false ∨ h.fail ≠ none)

theorem refusedInApply_false {p : Packet} {s : State} (h : p.op ≠ 0x0301 ∨ s.map.applying = false) : refusedInApply p s = false := by
  obtain h | h := h <;> simp [refusedInApply, h]

theorem takeTurn_none {p : Packet} {s : State} (h : NoTurn p s) : takeTurn p s = none := by
  unfold takeTurn
  obtain h | ⟨he, ha⟩ | ⟨x, rest, hw, hx⟩ := h
  · simp [h]
  · simp [he, refusedInApply_false ha]
  · rw [hw]
    have hno : ¬ (x.same p = true ∧ x.fail = none) := by
      obtain hx | hx := hx <;> simp [hx]
    simp only [if_neg hno, ite_self]

/-- A command whose turn it is not joins the queue. -/
theorem runOp_joins {o : OpSpec} {q : Req} {s : State} (hon : s.off = false) (heng : q.src = .host → s.hp.engine = true)
    (hn : NoTurn (Req.packet q o.op s) s) : runOp o q s = .next (joinQueue (Req.packet q o.op s) (resume s)) := by
  have hrecv : ¬ (s.off = true ∨ (q.src = .host ∧ s.hp.engine = false)) := by
    rintro (hx | ⟨hq, he⟩)
    · simp [hon] at hx
    · simp [heng hq] at he
  have ht : takeTurn (Req.packet q o.op s) (resume s) = none := takeTurn_none hn
  unfold runOp
  rw [if_neg hrecv, ht]

theorem hpSet_only (m : BitVec 16) (s : State) :
    hpSet m s = { s with hp := { s.hp with flags := s.hp.flags ||| m }, router := (hpSet m s).router, seam := (hpSet m s).seam
                         pwr := (hpSet m s).pwr, clk := (hpSet m s).clk } := by
  unfold hpSet
  rw [pulseIf_only]

/-- The command a Seam frame brought takes a place of the receive buffer, or is dropped and counted (R431). -/
theorem bufferCommand_only (p : Packet) (s : State) :
    bufferCommand p s = { s with seam := (bufferCommand p s).seam, pwr := (bufferCommand p s).pwr, clk := (bufferCommand p s).clk } := by
  have hw : ∀ (w : WakeSource) (t : State), wakeReq w t = { t with pwr := (wakeReq w t).pwr, clk := (wakeReq w t).clk } := by
    intro w t
    unfold wakeReq
    split <;> rfl
  unfold bufferCommand
  rw [hw]
  split <;> rfl

theorem bufferCommand_room {p : Packet} {s : State} (h : s.seam.rxBuf.length < 8) :
    (bufferCommand p s).seam.fwdDrops = s.seam.fwdDrops ∧ (bufferCommand p s).seam.rxBuf.length = s.seam.rxBuf.length + 1 := by
  unfold bufferCommand
  rw [wakeReq_seam, if_pos h]
  simp

theorem bufferCommand_full {p : Packet} {s : State} (h : 8 ≤ s.seam.rxBuf.length) :
    (bufferCommand p s).seam.rxBuf = s.seam.rxBuf ∧ (bufferCommand p s).seam.fwdDrops = sat16 s.seam.fwdDrops 1 := by
  unfold bufferCommand
  rw [wakeReq_seam, if_neg (Nat.not_lt.mpr h)]
  exact ⟨rfl, rfl⟩

/-- While the manager runs, a command that may be submitted waits, or is refused where eight wait (R369). -/
theorem joinQueue_running {q : Req} {op : Nat} {s : State} (hb : q.src = .host → s.hp.st ≠ .busy) (hr : s.proto.running = true) :
    joinQueue (Req.packet q op s) (resume s) =
      if s.proto.waiting.length < 8 then
        { arrived q s with proto := { s.proto with waiting := s.proto.waiting ++ [Req.packet q op s] } }
      else answer (Req.packet q op s) .busy [1] { arrived q s with proto := { s.proto with flags := s.proto.flags ||| 0x4 } } := by
  have hno : ¬ ((Req.packet q op s).src = .host ∧ (resume s).hp.st = .busy) := fun h => hb h.1 h.2
  have hrun : ¬ ((resume s).proto.running = false) := by simp [hr]
  unfold joinQueue
  rw [if_neg hno, if_neg hrun]
  show (if (arrived q s).proto.waiting.length < 8 then
      ({ arrived q s with proto := { (arrived q s).proto with waiting := (arrived q s).proto.waiting ++ [Req.packet q op s] } } : State)
    else answer (Req.packet q op s) .busy [1] (globSet 0x4 (arrived q s))) = _
  simp only [globSet, arrived_proto]

/-- While the manager does not run, a host command waits unchecked (R371). -/
theorem joinQueue_raw {q : Req} {op : Nat} {s : State} (hq : q.src = .host) (hb : s.hp.st ≠ .busy) (hr : s.proto.running = false) :
    joinQueue (Req.packet q op s) (resume s) = { arrived q s with
      proto := { s.proto with raw := s.proto.raw ++ [(.host, commandBytes q.ver q.tag op q.params, s.hem.ticks, false)] } } := by
  unfold joinQueue arrived
  simp [Req.packet, hq, hb, hr, submitted]

theorem joinQueue_nack {q : Req} {op : Nat} {s : State} (hq : q.src = .host) (hb : s.hp.st = .busy) :
    joinQueue (Req.packet q op s) (resume s) = hpSet 0x40 (resume s) := by
  unfold joinQueue nackBusy
  simp [Req.packet, hq, hb]

theorem joinQueue_buffer {q : Req} {op : Nat} {s : State} (hq : q.src ≠ .host) (hr : s.proto.running = false) :
    joinQueue (Req.packet q op s) (resume s) = bufferCommand (Req.packet q op s) (resume s) := by
  unfold joinQueue
  simp [Req.packet, hq, hr]

/-- The command that waits first takes its turn when it is sent again as itself (R369). -/
theorem takeTurn_first {p h : Packet} {rest : List Packet} {s : State} (hr : s.proto.running = true) (he : s.proto.exec = none)
    (hw : s.proto.waiting = h :: rest) (hs : h.same p = true) (hf : h.fail = none) :
    takeTurn p s = some (h, { s with proto := { s.proto with waiting := rest } }) := by
  unfold takeTurn
  rw [hw]
  simp [hr, he, hs, hf]

/-- With no failed packet at the head none is answered. -/
theorem serveFailed_head {s : State} (h : ∀ p, s.proto.waiting.head? = some p → p.fail = none) : serveFailed s = s := by
  have hd : s.proto.waiting.dropWhile (fun p => p.fail.isSome) = s.proto.waiting ∧ failedHead s = [] := by
    unfold failedHead
    cases hw : s.proto.waiting with
    | nil => exact ⟨rfl, rfl⟩
    | cons p ps => simp [h p (by rw [hw]; rfl)]
  unfold serveFailed
  split
  · rw [hd.1, hd.2]
    rfl
  · rfl

/-- Settles O3: a command whose turn it is not joins the queue by one of four rules; the one that waits first takes its turn. -/
theorem commandsWaitForTheirTurn : Obligations.CommandsWaitForTheirTurn := by
  refine ⟨fun i o q s hz => ⟨fun hoff => ?_, fun hon heng hn => ⟨fun hq hb => ?_, fun hb hr => ?_, fun hq hb hr => ?_, fun hq hr => ?_⟩⟩,
    fun i o q s t h rest l hz hon heng hr he hw hs hf hk hv hp hsafe hcfg hrun => ?_⟩
  · rw [exec_of_zhoenne hz]
    exact if_pos hoff
  · rw [exec_of_zhoenne hz, runOp_joins hon heng hn, joinQueue_nack hq hb]
    exact ⟨_, rfl, hpSet_only 0x40 (resume s)⟩
  · rw [exec_of_zhoenne hz, runOp_joins hon heng hn, joinQueue_running hb hr]
    exact ⟨fun hl => by rw [if_pos hl], fun hl => by rw [if_neg (Nat.not_lt.mpr hl)]; exact ⟨_, rfl, rfl⟩⟩
  · rw [exec_of_zhoenne hz, runOp_joins hon heng hn, joinQueue_raw hq hb hr]
    exact ⟨_, rfl⟩
  · rw [exec_of_zhoenne hz, runOp_joins hon heng hn, joinQueue_buffer hq hr]
    exact ⟨_, rfl, bufferCommand_only .., fun hl => bufferCommand_room hl, fun hl => bufferCommand_full hl⟩
  · have hturn := takeTurn_first (s := resume s) (p := Req.packet q o.op s) hr he hw hs hf
    have hproc : o.process h { resume s with proto := { s.proto with waiting := rest } } = .next (answer h .done l t) := by
      rw [process_run (by simpa [keptFor] using hk) (by rw [hv]; exact hp) (by simp [OpSpec.gate, hsafe, hcfg]), hv, hrun]
      simp [OpSpec.finish, Status.stateRule, hv]
    constructor
    · rw [exec_of_zhoenne hz]
      exact runOp_of_takeTurn hon heng hturn hproc
    · intro ht hhead
      rw [serveFailed_head (by rw [answer_waiting, ht]; exact hhead), answer_waiting, ht]

end Sys2Proof.Machine
end

section
/-! PROOF. Idling: what a Hem tick, the ageing of JUNC_WARN and the wrap of the calendar change, and that every happening but four
completes in every state (R336, R338, R287, R392). -/

namespace Sys2Proof.Machine

/-! ## One Hem tick -/

theorem juncHot_congr {s t : State} (ht : t.therm = s.therm) (hc : t.cells = s.cells) (hh : t.hem.ticks = s.hem.ticks) :
    juncHot t = juncHot s := by
  have hr : recent t = recent s := by funext x; simp only [recent, hh]
  have hd : dieValue t = dieValue s := by funext k; unfold dieValue dieFaulty; rw [ht]
  have hv : cellValue t = cellValue s := by funext n; unfold cellValue State.cell; rw [hr, ht, hc]
  simp only [juncHot, hr, hd, hv, ht]

/-- JUNC_WARN clears once no reading of the last 2 s reaches WARN (R287). -/
theorem ageWarn_only (s : State) :
    ageWarn s = { s with therm := { s.therm with junc := s.therm.junc && juncHot s }, router := (ageWarn s).router
                         seam := (ageWarn s).seam, pwr := (ageWarn s).pwr, clk := (ageWarn s).clk } := by
  unfold ageWarn
  by_cases h : s.therm.junc = true ∧ juncHot s = false
  · rw [if_pos h, setLine_only, h.2, Bool.and_false]
  · rw [if_neg h]
    have : (s.therm.junc && juncHot s) = s.therm.junc := by
      cases hj : s.therm.junc <;> cases hx : juncHot s <;> simp_all
    rw [this]

theorem ageWarn_quiet {s : State} (h : s.therm.junc = false) : ageWarn s = s := by
  unfold ageWarn
  rw [if_neg (by simp [h])]

/-- A calendar that passes the end of its span sets CAL_WRAP (R338). -/
theorem wrapOver_only (old : Nat) (s : State) :
    wrapOver old s = { s with
      hem := { s.hem with flags := if s.hem.calendar = true ∧ old < s.hem.count ∧ old / (calSpan * 65536) ≠ s.hem.count / (calSpan * 65536)
        then s.hem.flags ||| 0x80 else s.hem.flags }
      router := (wrapOver old s).router, seam := (wrapOver old s).seam, pwr := (wrapOver old s).pwr, clk := (wrapOver old s).clk } := by
  unfold wrapOver
  split
  · unfold hemSet
    rw [pulseIf_only]
  · rfl

theorem wrapOver_binary {old : Nat} {s : State} (h : s.hem.calendar = false) : wrapOver old s = s := by
  unfold wrapOver
  rw [if_neg (by simp [h])]

/-- With no discipline or slew a tick counts two fraction units (R336). -/
theorem Hem.tick_plain {h : Hem} (hv : h.discV = 0) (ha : h.discAcc = 0) (hs : h.slewLeft = 0) :
    h.tick.count = (h.count + 2) % 2 ^ 64 ∧ h.tick.discAcc = 0 ∧ h.tick.slewLeft = 0 := by
  have hd : h.discUnit = (0, 0) := by simp [Hem.discUnit, hv, ha]
  have hw : h.slewUnit = 0 := by simp [Hem.slewUnit, hs]
  refine ⟨?_, ?_, ?_⟩
  · simp only [Hem.tick, hd, hw]
    omega
  · simp [Hem.tick, hd]
  · simp [Hem.tick, hw, hs]

/-- The state idling leads to: the tick, with JUNC_WARN and CAL_WRAP judged. -/
theorem idle_only (s : State) :
    idle s = { passTick s with
      hem := { s.hem.tick with flags := if s.hem.calendar = true ∧ s.hem.count < s.hem.tick.count ∧
          s.hem.count / (calSpan * 65536) ≠ s.hem.tick.count / (calSpan * 65536) then s.hem.flags ||| 0x80 else s.hem.flags }
      therm := { s.therm with junc := s.therm.junc && juncHot (passTick s) }
      router := (idle s).router, seam := (idle s).seam, pwr := (idle s).pwr, clk := (idle s).clk } := by
  unfold idle
  rw [wrapOver_only, ageWarn_only]
  rfl

theorem idle_quiet {s : State} (hc : s.hem.calendar = false) (hj : s.therm.junc = false) : idle s = passTick s := by
  have ha : ageWarn (passTick s) = passTick s := ageWarn_quiet hj
  have hw : wrapOver s.hem.count (passTick s) = passTick s := wrapOver_binary hc
  rw [idle, ha, hw]

theorem passTick_rails (s : State) (r : Fin 48) : (passTick s).rails[r] = { s.rails[r] with pgAt := (passTick s).rails[r].pgAt } := by
  unfold passTick
  dsimp only
  split
  · rfl
  · simp only [Fin.getElem_fin, Vector.getElem_map]
    split <;> rfl

/-- A module that does not doze keeps its power state over a tick (R468). -/
theorem passTick_awake {s : State} (h : s.pwr.st ≠ .doze) : (passTick s).pwr = s.pwr ∧ (passTick s).clk = s.clk := by
  simp [passTick, h]

/-! ## What happens, completes -/

theorem ite_next (c : Prop) [Decidable c] (s t : State) :
    ∃ u, (if c then .next s else .next t : Host.Outcome State Fault Refusal) = .next u := by
  split <;> exact ⟨_, rfl⟩

/-- A happening whose meaning answers no fault leads to a next state. -/
theorem happening_completes {i : Instr} (hz : zhoenne i = none) (h1 : ∀ r : Fin 48, i ≠ .controlTick r) (h2 : i ≠ .configDone)
    (h3 : ∀ a b : BitVec 3, i ≠ .fullStart a b) (h4 : ∀ e : ShipLeave, i ≠ .shipExit e) (s : State) : ∃ t, exec i s = .next t := by
  cases i <;> cases hz
  case controlTick r => exact absurd rfl (h1 r)
  case configDone => exact absurd rfl h2
  case fullStart a b => exact absurd rfl (h3 a b)
  case shipExit e => exact absurd rfl (h4 e)
  case mapStoreDone => exact ite_next _ _ _
  case managerStart => exact ite_next _ _ _
  case otpBurnDone r =>
    change ∃ t, execOtpBurnDone r s = .next t
    unfold execOtpBurnDone
    split <;> exact ⟨_, rfl⟩
  case enPinEdge => exact ite_next _ _ _
  all_goals exact ⟨_, rfl⟩

/-- Settles O2: what idling leaves is read off `idle_only`, and of the happenings left none answers a fault. -/
theorem idleStepCountsOneHemTick : Obligations.IdleStepCountsOneHemTick := by
  refine ⟨fun s hp => ⟨idle s, stepTakesFrontCommand.2 s hp, ?_, fun hr => ?_, fun r => ?_, ?_, ?_, ?_, ?_, ?_, fun hoff => ?_, ?_,
    fun hv ha hs => ?_, ?_, fun hf => ?_, fun hc hj => ?_⟩, fun i s hz h1 h2 h3 h4 => happening_completes hz h1 h2 h3 h4 s⟩
  · rw [idle_only]
    rfl
  · rw [idle_only]
    exact if_pos hr
  · rw [idle_only]
    exact passTick_rails s r
  · rw [idle_only]
    exact ⟨_, _, _, rfl⟩
  · rw [idle_only]
    rfl
  · rw [idle_only]
  · have hj : juncHot { s with hem := (idle s).hem } = juncHot (passTick s) := juncHot_congr rfl rfl (by rw [idle_only]; rfl)
    rw [hj, idle_only]
  · rw [idle_only]
    simp only [passTick]
    split <;> omega
  · rw [idle_only]
    exact if_pos hoff
  · rw [idle_only]
    simp only [passTick]
    omega
  · rw [idle_only]
    exact Hem.tick_plain hv ha hs
  · rw [idle_only]
    exact ⟨_, _, _, rfl⟩
  · rw [idle_only]
    simp [passTick, hf]
  · rw [idle_quiet hc hj]
    exact ⟨rfl, rfl, rfl, fun hd => passTick_awake hd⟩

end Sys2Proof.Machine
end

section
/-! PROOF. Session commands, the image buffer and the apply of an image (R375 to R384). -/

namespace Sys2Proof.Machine

/-! ## The state in which a command arrives -/

@[simp] theorem arrived_pending (q : Req) (s : State) : (arrived q s).pending = s.pending := by unfold arrived submitted; split <;> rfl
@[simp] theorem arrived_free (q : Req) (s : State) : (arrived q s).free = s.free := by unfold arrived submitted; split <;> rfl
@[simp] theorem arrived_fabric (q : Req) (s : State) : (arrived q s).fabric = s.fabric := by unfold arrived submitted; split <;> rfl
@[simp] theorem arrived_fabricFree (q : Req) (s : State) : (arrived q s).fabricFree = s.fabricFree := by unfold arrived submitted; split <;> rfl
@[simp] theorem arrived_cells (q : Req) (s : State) : (arrived q s).cells = s.cells := by unfold arrived submitted; split <;> rfl
@[simp] theorem arrived_rails (q : Req) (s : State) : (arrived q s).rails = s.rails := by unfold arrived submitted; split <;> rfl
@[simp] theorem arrived_bus (q : Req) (s : State) : (arrived q s).bus = s.bus := by unfold arrived submitted; split <;> rfl
@[simp] theorem arrived_armQ (q : Req) (s : State) : (arrived q s).armQ = s.armQ := by unfold arrived submitted; split <;> rfl
@[simp] theorem arrived_arming (q : Req) (s : State) : (arrived q s).arming = s.arming := by unfold arrived submitted; split <;> rfl
@[simp] theorem arrived_map (q : Req) (s : State) : (arrived q s).map = s.map := by unfold arrived submitted; split <;> rfl
@[simp] theorem arrived_crease (q : Req) (s : State) : (arrived q s).crease = s.crease := by unfold arrived submitted; split <;> rfl
@[simp] theorem arrived_dom (q : Req) (s : State) : (arrived q s).dom = s.dom := by unfold arrived submitted; split <;> rfl
@[simp] theorem arrived_sup (q : Req) (s : State) : (arrived q s).sup = s.sup := by unfold arrived submitted; split <;> rfl
@[simp] theorem arrived_tlm (q : Req) (s : State) : (arrived q s).tlm = s.tlm := by unfold arrived submitted; split <;> rfl
@[simp] theorem arrived_therm (q : Req) (s : State) : (arrived q s).therm = s.therm := by unfold arrived submitted; split <;> rfl
@[simp] theorem arrived_chg (q : Req) (s : State) : (arrived q s).chg = s.chg := by unfold arrived submitted; split <;> rfl
@[simp] theorem arrived_hem (q : Req) (s : State) : (arrived q s).hem = s.hem := by unfold arrived submitted; split <;> rfl
@[simp] theorem arrived_seam (q : Req) (s : State) : (arrived q s).seam = s.seam := by unfold arrived submitted; split <;> rfl
@[simp] theorem arrived_fuse (q : Req) (s : State) : (arrived q s).fuse = s.fuse := by unfold arrived submitted; split <;> rfl
@[simp] theorem arrived_fw (q : Req) (s : State) : (arrived q s).fw = s.fw := by unfold arrived submitted; split <;> rfl
@[simp] theorem arrived_land (q : Req) (s : State) : (arrived q s).land = s.land := by unfold arrived submitted; split <;> rfl
@[simp] theorem arrived_win (q : Req) (s : State) : (arrived q s).hp.win = s.hp.win := by unfold arrived submitted; split <;> rfl

/-! ## What a ready command comes to -/

/-- A ready command whose handler replies, and leaves none waiting, completes. -/
theorem completes_of_reply {i : Instr} {o : OpSpec} {q : Req} {s t : State} {st : Status} {l : List Byte} {P : State → Prop}
    (hi : exec i s = runOp o q s) (h : Ready o.op q s) (hp : o.paramCheck 2 q.params = none)
    (hr : o.run q (arrived q s) = (t, .reply st l)) (hw : t.proto.waiting = []) (hP : P t) : Completes i o.op q s st l P :=
  ⟨t, hi.trans (runOp_reply h hp hr hw), hP⟩

/-- A ready command whose handler begins an operation is in execution. -/
theorem begins_of_run {i : Instr} {o : OpSpec} {q : Req} {s t : State} {d : Deferred} {P : State → Prop}
    (hi : exec i s = runOp o q s) (h : Ready o.op q s) (hp : o.paramCheck 2 q.params = none)
    (hr : o.run q (arrived q s) = (t, .defer d)) (hP : P t) : Begins i o.op q s d P :=
  ⟨t, hi.trans (runOp_defer h hp hr), hP⟩

/-- A ready command whose handler answers DONE and changes nothing only reads. -/
theorem reads_of_run {i : Instr} {o : OpSpec} {q : Req} {s : State} {l : List Byte}
    (hi : exec i s = runOp o q s) (h : Ready o.op q s) (hp : o.paramCheck 2 q.params = none)
    (hr : o.run q (arrived q s) = (arrived q s, .reply .done l)) : Reads i o.op q s l :=
  hi.trans (runOp_reply h hp hr (by rw [arrived_waiting, h.empty]))

/-! ## Session commands -/

theorem byteAt_lt (l : List Byte) (k : Nat) : byteAt l k < 256 := (l.getD k 0).isLt

theorem helloOp_paramCheck {p : List Byte} (h : p.length = 4) : helloOp.paramCheck 2 p = none := by
  simp [OpSpec.paramCheck, helloOp, plenLimit, Plen.expected, h]

theorem resetModuleOp_paramCheck {p : List Byte} (h : p.length = 1) : resetModuleOp.paramCheck 2 p = none := by
  simp [OpSpec.paramCheck, resetModuleOp, plenLimit, Plen.expected, h]

theorem configLoadOp_paramCheck {p : List Byte} (h5 : 5 ≤ p.length) (h492 : p.length ≤ 492)
    (hend : fieldAt p 0 4 + (p.length - 4) ≤ 262144) : configLoadOp.paramCheck 2 p = none := by
  simp [OpSpec.paramCheck, configLoadOp, plenLimit, Plen.expected, h5, h492, Nat.not_lt.mpr hend]
  omega

theorem configReadOp_paramCheck {p : List Byte} (h : p.length = 8) (ho : fieldAt p 0 4 ≤ 262143) (h1 : 1 ≤ fieldAt p 4 2)
    (h488 : fieldAt p 4 2 ≤ 488) : configReadOp.paramCheck 2 p = none := by
  simp [OpSpec.paramCheck, configReadOp, plenLimit, Plen.expected, firstBad, h, ho, h1, h488]

/-- HELLO notes the version it picks, whatever was noted of its source (R389). -/
theorem noteVersion_hello (src : Source) (v : Nat) (l : List (Source × Nat × Bool)) : ∃ rest, noteVersion src v true l = (src, v, true) :: rest := by
  unfold noteVersion
  cases l.find? (fun x => decide (x.1 = src)) with
  | none => exact ⟨_, rfl⟩
  | some x => simp

theorem wf_cleared {m : Mem} {c : Prop} [Decidable c] (h : m.wf = true) : (if c then [] else m : Mem).wf = true := by
  split
  · rfl
  · exact h

/-- Settles O8: each handler's answer is read off its definition; the buffer by what writes to byte memory leave. -/
theorem sessionAndImageBufferCommands : Obligations.SessionAndImageBufferCommands := by
  intro q s
  refine ⟨fun hr hl => ⟨fun h1 h2 h3 => ?_, fun h => ?_⟩, fun hr hl => ?_, fun hr h5 h492 hwf => ⟨fun hend => ?_, fun hend => ?_⟩,
    fun hr hl hsrc h1 h488 hend hload => ?_⟩
  · have hv : ¬ (min (byteAt q.params 0) 2 < max (byteAt q.params 1) 1) := by omega
    have hlim : plenLimit (min (byteAt q.params 0) 2) = if byteAt q.params 0 = 1 then 240 else 496 := by
      unfold plenLimit
      split <;> split <;> omega
    refine completes_of_reply (o := helloOp) rfl hr (helloOp_paramCheck hl) (if_neg hv |>.trans (by rw [hlim]; rfl)) ?_ ?_
    · rw [arrived_proto, hr.empty]
    · refine ⟨by rw [arrived_proto], ?_⟩
      exact noteVersion_hello ..
  · have hv : min (byteAt q.params 0) 2 < max (byteAt q.params 1) 1 := by omega
    refine completes_of_reply (o := helloOp) rfl hr (helloOp_paramCheck hl) (if_pos hv) ?_ rfl
    rw [arrived_proto, hr.empty]
  · refine completes_of_reply (o := resetModuleOp) rfl hr (resetModuleOp_paramCheck hl) rfl ?_ ?_
    · rw [arrived_proto, hr.empty]
    · rw [arrived_proto]
  · refine completes_of_reply (o := configLoadOp) rfl hr (configLoadOp_paramCheck h5 h492 hend) rfl ?_ ⟨?_, ?_, fun x => ?_⟩
    · rw [arrived_proto]
      exact hr.empty
    · rw [arrived_proto]
    · rw [arrived_proto]
      exact Mem.wf_writes _ _ (wf_cleared hwf)
    · rw [arrived_proto]
      rw [Mem.read_writes _ _ (wf_cleared hwf)]
      simp only [List.length_drop, List.getD_eq_getElem?_getD, List.getElem?_drop, Nat.add_comm 4]
      split
      · rfl
      · split <;> rfl
  · refine ⟨_, (checksRefuseWithoutEffect (.configLoad q) configLoadOp q s rfl hr.toTurn hr.v2 (by omega)).2.1 0 ?_ ?_, rfl⟩
    · simp [configLoadOp, Plen.expected, h5, h492]
    · exact if_pos hend
  · refine reads_of_run (o := configReadOp) rfl hr (configReadOp_paramCheck hl (by omega) h1 h488) ?_
    have ho : ¬ (262144 ≤ fieldAt q.params 0 4) := by omega
    have he : ¬ (262144 < fieldAt q.params 0 4 + fieldAt q.params 4 2) := by omega
    have hb : bufferHolds (arrived q s) = true := by simp [bufferHolds, hload]
    simp only [configReadOp, hsrc, hb, if_true, if_neg ho, if_neg he, done, arrived_proto]
    rfl

/-! ## The apply of an image -/

/-- The manager stopped, no command waits any more (R371). -/
theorem stopManager_waiting (s : State) : (stopManager s).store.waiting = [] := by
  unfold stopManager
  dsimp only
  split <;> split <;> simp [store_rules, discardCommands_store]

theorem powerCheck_waiting {s : State} (h : s.store.waiting = []) : (powerCheck s).store.waiting = [] := by
  unfold powerCheck
  split
  · rw [losePower_store, stopManager_waiting]
  · exact h

theorem reselect_waiting {s : State} (h : s.store.waiting = []) : (reselect s).store.waiting = [] := by
  unfold reselect
  dsimp only
  split
  · exact powerCheck_waiting h
  · refine powerCheck_waiting ?_
    repeat' split
    all_goals simpa [store_rules] using h

theorem chargerConfigOp_waiting (q : Req) {s : State} (h : s.store.waiting = []) : (chargerConfigOp.run q s).1.store.waiting = [] := by
  unfold chargerConfigOp
  dsimp only
  repeat' split
  all_goals simp [store_rules, h, reselect_waiting]

/-- No section of an image lets a command wait where none did. -/
theorem sectionOp_waiting {ty : Nat} {o : OpSpec} (ho : sectionOp ty = some o) (q : Req) {s : State} (h : s.store.waiting = []) :
    (o.run q s).1.store.waiting = [] := by
  have hm : o ∈ sectionOps := List.mem_of_find?_eq_some ho
  simp only [sectionOps, List.cons_append, List.nil_append, List.mem_cons, List.not_mem_nil, or_false] at hm
  obtain rfl | rfl | rfl | rfl | rfl | rfl | rfl | rfl | rfl | rfl | rfl | rfl | rfl | rfl | rfl | rfl | rfl | rfl | rfl | rfl |
    rfl | rfl | rfl | rfl | rfl | rfl | rfl | rfl | rfl | rfl | rfl | rfl | rfl | rfl := hm
  case inr.inr.inr.inr.inr.inr.inr.inr.inr.inr.inr.inr.inr.inr.inr.inr.inr.inr.inr.inr.inr.inr.inr.inl => exact chargerConfigOp_waiting q h
  all_goals simp [h]

theorem runSection_waiting (src : Source) (i : Nat) (x : Section_) {s : State} (h : s.store.waiting = []) :
    (runSection src i x s).1.store.waiting = [] := by
  unfold runSection
  split
  · exact h
  next o ho =>
    have hr := sectionOp_waiting ho { src := src, ver := 2, tag := 0, params := x.body } h
    split
    · exact h
    · split
      · simpa using h
      · split
        all_goals
          next t _ hq =>
            rw [hq] at hr
            repeat' split
            all_goals simpa using hr

theorem runSections_waiting (src : Source) (l : List Section_) (i : Nat) {s : State} (h : s.store.waiting = []) :
    (runSections src l i s).1.store.waiting = [] := by
  induction l generalizing i s with
  | nil => exact h
  | cons x xs ih =>
    have hx := runSection_waiting src i x h
    unfold runSections
    split
    next t ht => exact ih _ (by simpa only [ht] using hx)
    next t f ht => simpa only [ht] using hx

theorem configApplyOp_paramCheck {p : List Byte} (h : p.length = 1) : configApplyOp.paramCheck 2 p = none := by
  simp [OpSpec.paramCheck, configApplyOp, plenLimit, Plen.expected, h]

theorem lowestRunning_none {s : State} (h : ∀ r : Fin 48, s.rails[r].st = .off ∨ s.rails[r].st = .latchedOff) : lowestRunning s = none := by
  refine List.find?_eq_none.mpr fun r _ => ?_
  have hr := h (fin48 r)
  unfold State.rail
  obtain hr | hr := hr <;> rw [hr] <;> decide

theorem applied_started {out : State × Option Fault} (h : out.2 = none) : applied out started = (out.1, .reply .started []) := by
  obtain ⟨t, f⟩ := out
  cases h
  rfl

/-- Settles O9: with its conditions met CONFIG_APPLY runs some sections, none of which lets a command wait, and CONFIG_DONE the rest. -/
theorem configApplyThenDoneAppliesImage : Obligations.ConfigApplyThenDoneAppliesImage := by
  refine ⟨fun q s img hr hl himg hcfg hdom hrails hprobe hchk hsec => ?_, fun q s hr hl => ⟨fun hcfg => ?_, fun hcfg hd hl' => ?_⟩,
    fun s t hcfg hrun hbit hsec hbits => ?_, fun s hcfg => ?_⟩
  · have hn : Config.freeNat (arrived q s).free % ((imageSections img).length + 1) ≤ (imageSections img).length :=
      Nat.lt_succ_iff.mp (Nat.mod_lt _ (Nat.succ_pos _))
    have hs1 : bump { arrived q s with proto := { (arrived q s).proto with
          cfg := .applying, applyBits := (natBit (byteAt q.params 0) 0, natBit (byteAt q.params 0) 1)
          applied := Config.freeNat (arrived q s).free % ((imageSections img).length + 1), notes := 0, firstNote := none } } =
        applyStart q (Config.freeNat (arrived q s).free % ((imageSections img).length + 1)) s := by
      simp only [arrived_proto]
      rfl
    refine completes_of_reply (o := configApplyOp) rfl hr (configApplyOp_paramCheck hl) ?_ ?_ ⟨_, hn, rfl⟩
    · have hlow : lowestRunning (arrived q s) = none := lowestRunning_none (by simpa using hrails)
      have hdom' : ¬ (s.dom.st ≠ .down ∧ s.dom.st ≠ .latched) := by
        rintro ⟨h1, h2⟩
        obtain h | h := hdom
        · exact h1 h
        · exact h2 h
      have hnone := hsec _ hn
      rw [← hs1] at hnone ⊢
      simp only [configApplyOp, ← himg, hchk, hlow, arrived_proto, arrived_dom, arrived_map, if_neg hcfg, if_neg hr.still, if_neg hdom',
        if_neg hprobe] at hnone ⊢
      exact applied_started hnone
    · exact runSections_waiting _ _ _ hr.empty
  · refine completes_of_reply (o := configApplyOp) rfl hr (configApplyOp_paramCheck hl) ?_ ?_ rfl
    · simp [configApplyOp, hcfg, absent]
      rfl
    · rw [arrived_proto, hr.empty]
  · refine completes_of_reply (o := configApplyOp) rfl hr (configApplyOp_paramCheck hl) ?_ ?_ rfl
    · simp [configApplyOp, hcfg, hd, hl', hr.still, refuseDom, refuse]
      exact ⟨rfl, rfl⟩
    · rw [arrived_proto, hr.empty]
  · have hx : execConfigDone s = .next (finishApply (bufferImage s) t) := by
      unfold execConfigDone
      simp only [hcfg, hrun, and_self, if_true, hsec, hbits, hbit, Bool.false_eq_true, if_false, done0]
    refine ⟨_, hx, ?_⟩
    unfold finishApply
    rw [pulse_only, hbits]
  · exact if_neg (by simp [hcfg])

end Sys2Proof.Machine
end

section
/-! PROOF. What each operation of the model leaves of the state: for every part of the state that a proof below reads, the operations that
leave it as it was (the frame of the model's operations, one lemma per operation and part). -/

namespace Sys2Proof.Machine

/-! ## `armQ` -/

theorem ite_armQ (k : Prop) [Decidable k] (s t : State) : (if k then s else t).armQ = if k then s.armQ else t.armQ := apply_ite ..
theorem foldl_armQ {α : Type} (f : State → α → State) (h : ∀ s x, (f s x).armQ = s.armQ) (l : List α) (s : State) :
    (l.foldl f s).armQ = s.armQ := by
  induction l generalizing s with
  | nil => rfl
  | cons x xs ih => rw [List.foldl_cons, ih, h]
@[simp] theorem spurEval_armQ (s : State) : (spurEval s).armQ = s.armQ := by unfold spurEval; simp [ite_armQ]
@[simp] theorem pulses_armQ (es : List Nat) (s : State) : (pulses es s).armQ = s.armQ := by unfold pulses; simp [foldl_armQ]
@[simp] theorem pgEvent_armQ (r : Nat) (s : State) : (pgEvent r s).armQ = s.armQ := by unfold pgEvent; simp
@[simp] theorem changeCells_armQ (s : State) (f : Nat → Cell → Cell) : (changeCells s f).armQ = s.armQ := by
  unfold changeCells; simp [ite_armQ]
@[simp] theorem changeMembers_armQ (s : State) (r : Nat) (f : Nat → Cell → Cell) : (changeMembers s r f).armQ = s.armQ := by
  unfold changeMembers; simp
@[simp] theorem capture_armQ (cause : Nat) (index : Nat) (s : State) : (capture cause index s).armQ = s.armQ := by
  unfold capture; simp [ite_armQ]
@[simp] theorem sendEcho_armQ (kind : Nat) (seq : Nat) (s : State) : (sendEcho kind seq s).armQ = s.armQ := by
  unfold sendEcho; simp [ite_armQ]
@[simp] theorem enterDom_armQ (d : DomSt) (s : State) : (enterDom d s).armQ = s.armQ := by
  unfold enterDom; repeat' split
  all_goals simp
@[simp] theorem cancelRestart_armQ (s : State) : (cancelRestart s).armQ = s.armQ := by unfold cancelRestart; simp
@[simp] theorem enterLatched_armQ (s : State) : (enterLatched s).armQ = s.armQ := by
  unfold enterLatched; repeat' split
  all_goals simp
@[simp] theorem dropMembers_armQ (r : Nat) (s : State) : (dropMembers r s).armQ = s.armQ := by unfold dropMembers; simp
@[simp] theorem discardCommands_armQ (s : State) : (discardCommands s).armQ = s.armQ := by unfold discardCommands; simp
@[simp] theorem cutBurn_armQ (job : BurnJob) (s : State) : (cutBurn job s).armQ = s.armQ := by unfold cutBurn; simp
@[simp] theorem cutShort_armQ (s : State) : (cutShort s).armQ = s.armQ := by
  unfold cutShort; repeat' split
  all_goals simp

/-! ## `bus` -/

theorem ite_bus (k : Prop) [Decidable k] (s t : State) : (if k then s else t).bus = if k then s.bus else t.bus := apply_ite ..
theorem foldl_bus {α : Type} (f : State → α → State) (h : ∀ s x, (f s x).bus = s.bus) (l : List α) (s : State) :
    (l.foldl f s).bus = s.bus := by
  induction l generalizing s with
  | nil => rfl
  | cons x xs ih => rw [List.foldl_cons, ih, h]
@[simp] theorem pulses_bus (es : List Nat) (s : State) : (pulses es s).bus = s.bus := by unfold pulses; simp [foldl_bus]
@[simp] theorem changeCells_bus (s : State) (f : Nat → Cell → Cell) : (changeCells s f).bus = s.bus := by unfold changeCells; simp [ite_bus]
@[simp] theorem cancelRestart_bus (s : State) : (cancelRestart s).bus = s.bus := by unfold cancelRestart; simp
@[simp] theorem discardCommands_bus (s : State) : (discardCommands s).bus = s.bus := by unfold discardCommands; simp
@[simp] theorem cutBurn_bus (job : BurnJob) (s : State) : (cutBurn job s).bus = s.bus := by unfold cutBurn; simp
@[simp] theorem cutShort_bus (s : State) : (cutShort s).bus = s.bus := by
  unfold cutShort; repeat' split
  all_goals simp
@[simp] theorem hubTick_bus (r : Nat) (t : Nat) (s : State) : (hubTick r t s).bus = s.bus := by unfold hubTick; simp

/-! ## `cells` -/

theorem ite_cells (k : Prop) [Decidable k] (s t : State) : (if k then s else t).cells = if k then s.cells else t.cells := apply_ite ..
theorem foldl_cells {α : Type} (f : State → α → State) (h : ∀ s x, (f s x).cells = s.cells) (l : List α) (s : State) :
    (l.foldl f s).cells = s.cells := by
  induction l generalizing s with
  | nil => rfl
  | cons x xs ih => rw [List.foldl_cons, ih, h]
@[simp] theorem losePower_cells (s : State) : (losePower s).cells = s.cells := by unfold losePower; simp
@[simp] theorem sendWaitingNotices_cells (s : State) : (sendWaitingNotices s).cells = s.cells := by unfold sendWaitingNotices; simp
@[simp] theorem releaseLines_cells (s : State) : (releaseLines s).cells = s.cells := by unfold releaseLines; simp [ite_cells, foldl_cells]
@[simp] theorem holdSystem_cells (ch : Nat) (value : Int) (s : State) : (holdSystem ch value s).cells = s.cells := by
  unfold holdSystem; simp
@[simp] theorem serveTemps_cells (s : State) : (serveTemps s).cells = s.cells := by unfold serveTemps; simp
@[simp] theorem joinTemp_cells (r : TempReq) (s : State) : (joinTemp r s).cells = s.cells := by unfold joinTemp; simp
@[simp] theorem requestTemp_cells (r : TempReq) (s : State) : (requestTemp r s).cells = s.cells := by unfold requestTemp; simp
@[simp] theorem modSeq_cells (q : Fin 8) (f : TSeq → TSeq) (s : State) : (modSeq q f s).cells = s.cells := by unfold modSeq; simp
@[simp] theorem countEvent_cells (before : Nat) (s : State) : (countEvent before s).cells = s.cells := by unfold countEvent; simp
@[simp] theorem post_cells (ms : List Msg) (s : State) : (post ms s).cells = s.cells := by unfold post; simp
@[simp] theorem spurEval_cells (s : State) : (spurEval s).cells = s.cells := by unfold spurEval; simp [ite_cells]
@[simp] theorem recheckActive_cells (s : State) : (recheckActive s).cells = s.cells := by unfold recheckActive; simp
@[simp] theorem pulses_cells (es : List Nat) (s : State) : (pulses es s).cells = s.cells := by unfold pulses; simp [foldl_cells]
@[simp] theorem pgEvent_cells (r : Nat) (s : State) : (pgEvent r s).cells = s.cells := by unfold pgEvent; simp
@[simp] theorem capture_cells (cause : Nat) (index : Nat) (s : State) : (capture cause index s).cells = s.cells := by
  unfold capture; simp [ite_cells]
@[simp] theorem sendEcho_cells (kind : Nat) (seq : Nat) (s : State) : (sendEcho kind seq s).cells = s.cells := by
  unfold sendEcho; simp [ite_cells]
@[simp] theorem enterDom_cells (d : DomSt) (s : State) : (enterDom d s).cells = s.cells := by
  unfold enterDom; repeat' split
  all_goals simp
@[simp] theorem cancelRestart_cells (s : State) : (cancelRestart s).cells = s.cells := by unfold cancelRestart; simp
@[simp] theorem enterLatched_cells (s : State) : (enterLatched s).cells = s.cells := by
  unfold enterLatched; repeat' split
  all_goals simp
@[simp] theorem domLoseVin_cells (s : State) : (domLoseVin s).cells = s.cells := by
  unfold domLoseVin; repeat' split
  all_goals simp
@[simp] theorem sendPhase_cells (r : Nat) (before : PhaseCtx) (s0 : State) : (sendPhase r before s0).cells = s0.cells := by
  unfold sendPhase; simp [ite_cells]
@[simp] theorem changePhase_cells (r : Nat) (f : PhaseCtx → PhaseCtx) (s : State) : (changePhase r f s).cells = s.cells := by
  unfold changePhase; simp
@[simp] theorem leaveRails_cells (out : Rail → Bool) (st : RailSt) (s : State) : (leaveRails out st s).cells = s.cells := by
  unfold leaveRails; simp [foldl_cells]
@[simp] theorem abortProbe_cells (s : State) : (abortProbe s).cells = s.cells := by unfold abortProbe; simp [ite_cells]
@[simp] theorem stopAllArming_cells (s : State) : (stopAllArming s).cells = s.cells := by unfold stopAllArming; simp
@[simp] theorem offEvents_cells (before : State) (after : State) : (offEvents before after).cells = after.cells := by unfold offEvents; simp
@[simp] theorem countedFall_cells (r : Nat) (s : State) : (countedFall r s).cells = s.cells := by unfold countedFall; simp [ite_cells]
@[simp] theorem pgChange_cells (r : Fin 48) (f : Rail → Rail) (s : State) : (pgChange r f s).cells = s.cells := by
  unfold pgChange; simp [ite_cells]
@[simp] theorem nextUp_cells (k : Nat) (s : State) : (nextUp k s).cells = s.cells := by
  unfold nextUp; repeat' split
  all_goals simp
@[simp] theorem beginUp_cells (s : State) : (beginUp s).cells = s.cells := by
  unfold beginUp; repeat' split
  all_goals simp
@[simp] theorem enterRising_cells (s : State) : (enterRising s).cells = s.cells := by
  unfold enterRising; repeat' split
  all_goals simp
@[simp] theorem endRun_cells (s : State) : (endRun s).cells = s.cells := by
  unfold endRun; repeat' split
  all_goals simp
@[simp] theorem nextDown_cells (k : Nat) (s : State) : (nextDown k s).cells = s.cells := by
  unfold nextDown; repeat' split
  all_goals simp
@[simp] theorem beginDown_cells (s : State) : (beginDown s).cells = s.cells := by
  unfold beginDown; repeat' split
  all_goals simp
@[simp] theorem enterFalling_cells (latch : Bool) (s : State) : (enterFalling latch s).cells = s.cells := by
  unfold enterFalling; repeat' split
  all_goals simp
@[simp] theorem failStart_cells (index : Nat) (s : State) : (failStart index s).cells = s.cells := by
  unfold failStart; repeat' split
  all_goals simp
@[simp] theorem discardCommands_cells (s : State) : (discardCommands s).cells = s.cells := by unfold discardCommands; simp
@[simp] theorem adoptAddress_cells (s : State) : (adoptAddress s).cells = s.cells := by
  unfold adoptAddress; repeat' split
  all_goals simp
@[simp] theorem clearProt_cells (r : Nat) (mask : Nat) (s : State) : (clearProt r mask s).cells = s.cells := by
  unfold clearProt; simp [ite_cells]
@[simp] theorem fuseChecks_cells (full : Bool) (s : State) : (fuseChecks full s).cells = s.cells := by unfold fuseChecks; simp [ite_cells]
@[simp] theorem cutBurn_cells (job : BurnJob) (s : State) : (cutBurn job s).cells = s.cells := by unfold cutBurn; simp
@[simp] theorem cutShort_cells (s : State) : (cutShort s).cells = s.cells := by
  unfold cutShort; repeat' split
  all_goals simp
@[simp] theorem creaseLearn_cells (r : Nat) (t : Nat) (s : State) : (creaseLearn r t s).cells = s.cells := by
  unfold creaseLearn; repeat' split
  all_goals simp
@[simp] theorem creaseSpoil_cells (r : Nat) (s : State) : (creaseSpoil r s).cells = s.cells := by
  unfold creaseSpoil; repeat' split
  all_goals simp
@[simp] theorem holdOffset_cells (s : State) : (holdOffset s).cells = s.cells := by unfold holdOffset; simp
@[simp] theorem updateU_cells (s : State) : (updateU s).cells = s.cells := by unfold updateU; simp [ite_cells]
@[simp] theorem setTb_cells (st : TbSt) (s : State) : (setTb st s).cells = s.cells := by unfold setTb; simp
@[simp] theorem setRef_cells (st : RefSt) (left : Nat) (s : State) : (setRef st left s).cells = s.cells := by unfold setRef; simp
@[simp] theorem startQual_cells (s : State) : (startQual s).cells = s.cells := by unfold startQual; simp
@[simp] theorem moveLevel_cells (s : State) : (moveLevel s).cells = s.cells := by unfold moveLevel; simp [ite_cells]
@[simp] theorem stopManager_cells (s : State) : (stopManager s).cells = s.cells := by
  unfold stopManager; repeat' split
  all_goals simp [ite_cells]
@[simp] theorem modPort_cells (p : Port) (f : PortSt → PortSt) (s : State) : (modPort p f s).cells = s.cells := by unfold modPort; simp
@[simp] theorem countDrops_cells (n : Nat) (s : State) : (countDrops n s).cells = s.cells := by unfold countDrops; simp
@[simp] theorem setLink_cells (p : Port) (st : LinkSt) (s : State) : (setLink p st s).cells = s.cells := by
  unfold setLink; repeat' split
  all_goals simp [ite_cells]
@[simp] theorem powerDown_cells (p : Port) (s : State) : (powerDown p s).cells = s.cells := by
  unfold powerDown; repeat' split
  all_goals simp
@[simp] theorem pinUp_cells (s : State) : (pinUp s).cells = s.cells := by
  unfold pinUp; repeat' split
  all_goals simp
@[simp] theorem modInput_cells (k : Fin 64) (f : SupIn → SupIn) (s : State) : (modInput k f s).cells = s.cells := by unfold modInput; simp
@[simp] theorem takeSamples_cells (codes : List Nat) (s : State) : (takeSamples codes s).cells = s.cells := by
  unfold takeSamples; simp [foldl_cells]
@[simp] theorem autoClear_cells (r : Nat) (s : State) : (autoClear r s).cells = s.cells := by unfold autoClear; simp [ite_cells]
@[simp] theorem crossCheck_cells (k : Nat) (reading : Int) (s : State) : (crossCheck k reading s).cells = s.cells := by
  unfold crossCheck; simp [ite_cells]
@[simp] theorem skipScan_cells (s : State) : (skipScan s).cells = s.cells := by unfold skipScan; simp
@[simp] theorem supRecord_cells (s : State) (x : Nat × Nat × Nat × Nat) : (supRecord s x).cells = s.cells := by unfold supRecord; simp
@[simp] theorem takeSupConfig_cells (s : State) : (takeSupConfig s).cells = s.cells := by
  unfold takeSupConfig; repeat' split
  all_goals simp [foldl_cells]
@[simp] theorem modStream_cells (k : Fin 4) (f : Stream → Stream) (s : State) : (modStream k f s).cells = s.cells := by
  unfold modStream; simp
@[simp] theorem sendStream_cells (k : Fin 4) (s : State) : (sendStream k s).cells = s.cells := by unfold sendStream; simp [ite_cells]
@[simp] theorem feedStream_cells (q : Fin 8) (k : Fin 4) (s : State) : (feedStream q k s).cells = s.cells := by
  unfold feedStream; simp [ite_cells]
@[simp] theorem freeConvs_cells (q : Fin 8) (s : State) : (freeConvs q s).cells = s.cells := by unfold freeConvs; simp
@[simp] theorem endRunOf_cells (q : Fin 8) (s : State) : (endRunOf q s).cells = s.cells := by unfold endRunOf; simp [foldl_cells]
@[simp] theorem readNow_cells (ch : Nat) (avg : Nat) (s : State) : (readNow ch avg s).1.cells = s.cells := by unfold readNow; simp
@[simp] theorem serveSystem_cells (s : State) : (serveSystem s).cells = s.cells := by
  unfold serveSystem; repeat' split
  all_goals simp
@[simp] theorem setHold_cells (h : HoldSt) (s : State) : (setHold h s).cells = s.cells := by unfold setHold; simp [ite_cells]
@[simp] theorem holdOffVin_cells (s : State) : (holdOffVin s).cells = s.cells := by unfold holdOffVin; simp [ite_cells]
@[simp] theorem holdOfPack_cells (before : State) (s : State) : (holdOfPack before s).cells = s.cells := by
  unfold holdOfPack; repeat' split
  all_goals simp
@[simp] theorem setPhase_cells (p : ChgPh) (s : State) : (setPhase p s).cells = s.cells := by
  unfold setPhase; repeat' split
  all_goals simp
@[simp] theorem chgIdle_cells (s : State) : (chgIdle s).cells = s.cells := by
  unfold chgIdle; repeat' split
  all_goals simp
@[simp] theorem judgeSusp_cells (judgeTemp : Bool) (s : State) : (judgeSusp judgeTemp s).cells = s.cells := by
  unfold judgeSusp; repeat' split
  all_goals simp [ite_cells]
@[simp] theorem powerCheck_cells (s : State) : (powerCheck s).cells = s.cells := by
  unfold powerCheck; repeat' split
  all_goals simp
@[simp] theorem reselect_cells (s : State) : (reselect s).cells = s.cells := by
  unfold reselect; repeat' split
  all_goals simp [ite_cells]
@[simp] theorem markRewrites_cells (before : State) (after : State) : (markRewrites before after).cells = after.cells := by
  unfold markRewrites; simp
@[simp] theorem judgeWarn_cells (evaluation : Bool) (s : State) : (judgeWarn evaluation s).cells = s.cells := by unfold judgeWarn; simp
@[simp] theorem takeThermRecords_cells (s : State) : (takeThermRecords s).cells = s.cells := by unfold takeThermRecords; simp [ite_cells]
@[simp] theorem evalThrottle_cells (s : State) : (evalThrottle s).cells = s.cells := by unfold evalThrottle; simp
@[simp] theorem thermalStop_cells (s : State) : (thermalStop s).cells = s.cells := by
  unfold thermalStop; repeat' split
  all_goals simp
@[simp] theorem requestSchedule_cells (s : State) : (requestSchedule s).cells = s.cells := by unfold requestSchedule; simp [foldl_cells]
@[simp] theorem setPwr_cells (x : PwrSt) (s : State) : (setPwr x s).cells = s.cells := by unfold setPwr; simp
@[simp] theorem enterAwake_cells (x : PwrSt) (s : State) : (enterAwake x s).cells = s.cells := by unfold enterAwake; simp
@[simp] theorem recordWake_cells (src : Nat) (detail : Nat) (left : Nat) (s : State) : (recordWake src detail left s).cells = s.cells := by
  unfold recordWake; simp
@[simp] theorem releaseAll_cells (s : State) : (releaseAll s).cells = s.cells := by unfold releaseAll; simp
@[simp] theorem beginHibernate_cells (s : State) : (beginHibernate s).cells = s.cells := by
  unfold beginHibernate; repeat' split
  all_goals simp
@[simp] theorem leaveHibernate_cells (s : State) : (leaveHibernate s).cells = s.cells := by unfold leaveHibernate; simp [ite_cells]
@[simp] theorem disarmShip_cells (s : State) : (disarmShip s).cells = s.cells := by unfold disarmShip; simp
@[simp] theorem fireAlarm_cells (k : Fin 2) (s : State) : (fireAlarm k s).cells = s.cells := by unfold fireAlarm; simp
@[simp] theorem wrapOver_cells (old : Nat) (s : State) : (wrapOver old s).cells = s.cells := by unfold wrapOver; simp [ite_cells]
@[simp] theorem stepCount_cells (d : Int) (s : State) : (stepCount d s).cells = s.cells := by unfold stepCount; simp [ite_cells]
@[simp] theorem setDisc_cells (d : DiscSt) (s : State) : (setDisc d s).cells = s.cells := by unfold setDisc; simp
@[simp] theorem leaveTracking_cells (s : State) : (leaveTracking s).cells = s.cells := by unfold leaveTracking; simp [ite_cells]
@[simp] theorem restartDisc_cells (s : State) : (restartDisc s).cells = s.cells := by unfold restartDisc; simp [ite_cells]
@[simp] theorem clearSuspect_cells (s : State) : (clearSuspect s).cells = s.cells := by unfold clearSuspect; simp
@[simp] theorem applyRtc_cells (count : Nat) (s : State) : (applyRtc count s).cells = s.cells := by unfold applyRtc; simp
@[simp] theorem ppsStepNow_cells (s : State) : (ppsStepNow s).cells = s.cells := by unfold ppsStepNow; simp
@[simp] theorem enterTracking_cells (s : State) : (enterTracking s).cells = s.cells := by unfold enterTracking; simp [ite_cells]
@[simp] theorem acquireEdge_cells (s : State) : (acquireEdge s).cells = s.cells := by unfold acquireEdge; simp [ite_cells]
@[simp] theorem trackEdge_cells (s : State) : (trackEdge s).cells = s.cells := by unfold trackEdge; simp [ite_cells]
@[simp] theorem acceptEdge_cells (s : State) : (acceptEdge s).cells = s.cells := by
  unfold acceptEdge; repeat' split
  all_goals simp
@[simp] theorem checkBackup_cells (s : State) : (checkBackup s).cells = s.cells := by unfold checkBackup; simp
@[simp] theorem ppsWrite_cells (p : List Byte) (s : State) : (ppsWrite p s).cells = s.cells := by unfold ppsWrite; simp [ite_cells]
@[simp] theorem bootBank_cells (s : State) : (bootBank s).cells = s.cells := by unfold bootBank; simp [ite_cells]
@[simp] theorem startEvents_cells (revert : Bool) (s : State) : (startEvents revert s).cells = s.cells := by
  unfold startEvents; simp [ite_cells]
@[simp] theorem domainStep_cells (d : Int) (s : State) : (domainStep d s).cells = s.cells := by unfold domainStep; simp
@[simp] theorem setAgree_cells (a : AgreeSt) (causes : Nat) (s : State) : (setAgree a causes s).cells = s.cells := by unfold setAgree; simp
@[simp] theorem endWait_cells (s : State) : (endWait s).cells = s.cells := by
  unfold endWait; repeat' split
  all_goals simp
@[simp] theorem evalAgreement_cells (s : State) : (evalAgreement s).cells = s.cells := by
  unfold evalAgreement; repeat' split
  all_goals simp
@[simp] theorem startGathering_cells (s : State) : (startGathering s).cells = s.cells := by unfold startGathering; simp [ite_cells]
@[simp] theorem beginFull_cells (cause : Nat) (s : State) : (beginFull cause s).cells = s.cells := by
  unfold beginFull; repeat' split
  all_goals simp
@[simp] theorem resetStuck_cells (s : State) : (resetStuck s).cells = s.cells := by unfold resetStuck; simp [ite_cells]

/-! ## `chg` -/

theorem ite_chg (k : Prop) [Decidable k] (s t : State) : (if k then s else t).chg = if k then s.chg else t.chg := apply_ite ..
theorem foldl_chg {α : Type} (f : State → α → State) (h : ∀ s x, (f s x).chg = s.chg) (l : List α) (s : State) :
    (l.foldl f s).chg = s.chg := by
  induction l generalizing s with
  | nil => rfl
  | cons x xs ih => rw [List.foldl_cons, ih, h]
@[simp] theorem losePower_chg (s : State) : (losePower s).chg = s.chg := by unfold losePower; simp
@[simp] theorem sendWaitingNotices_chg (s : State) : (sendWaitingNotices s).chg = s.chg := by unfold sendWaitingNotices; simp
@[simp] theorem serveTemps_chg (s : State) : (serveTemps s).chg = s.chg := by unfold serveTemps; simp
@[simp] theorem joinTemp_chg (r : TempReq) (s : State) : (joinTemp r s).chg = s.chg := by unfold joinTemp; simp
@[simp] theorem requestTemp_chg (r : TempReq) (s : State) : (requestTemp r s).chg = s.chg := by unfold requestTemp; simp
@[simp] theorem post_chg (ms : List Msg) (s : State) : (post ms s).chg = s.chg := by unfold post; simp
@[simp] theorem spurEval_chg (s : State) : (spurEval s).chg = s.chg := by unfold spurEval; simp [ite_chg]
@[simp] theorem recheckActive_chg (s : State) : (recheckActive s).chg = s.chg := by unfold recheckActive; simp
@[simp] theorem pulses_chg (es : List Nat) (s : State) : (pulses es s).chg = s.chg := by unfold pulses; simp [foldl_chg]
@[simp] theorem pgEvent_chg (r : Nat) (s : State) : (pgEvent r s).chg = s.chg := by unfold pgEvent; simp
@[simp] theorem changeCell_chg (s : State) (c : Fin 256) (f : Cell → Cell) : (changeCell s c f).chg = s.chg := by
  unfold changeCell; simp [ite_chg]
@[simp] theorem changeCells_chg (s : State) (f : Nat → Cell → Cell) : (changeCells s f).chg = s.chg := by unfold changeCells; simp [ite_chg]
@[simp] theorem changeMembers_chg (s : State) (r : Nat) (f : Nat → Cell → Cell) : (changeMembers s r f).chg = s.chg := by
  unfold changeMembers; simp
@[simp] theorem capture_chg (cause : Nat) (index : Nat) (s : State) : (capture cause index s).chg = s.chg := by
  unfold capture; simp [ite_chg]
@[simp] theorem sendEcho_chg (kind : Nat) (seq : Nat) (s : State) : (sendEcho kind seq s).chg = s.chg := by unfold sendEcho; simp [ite_chg]
@[simp] theorem enterDom_chg (d : DomSt) (s : State) : (enterDom d s).chg = s.chg := by
  unfold enterDom; repeat' split
  all_goals simp
@[simp] theorem cancelRestart_chg (s : State) : (cancelRestart s).chg = s.chg := by unfold cancelRestart; simp
@[simp] theorem enterLatched_chg (s : State) : (enterLatched s).chg = s.chg := by
  unfold enterLatched; repeat' split
  all_goals simp
@[simp] theorem domLoseVin_chg (s : State) : (domLoseVin s).chg = s.chg := by
  unfold domLoseVin; repeat' split
  all_goals simp
@[simp] theorem sendPhase_chg (r : Nat) (before : PhaseCtx) (s0 : State) : (sendPhase r before s0).chg = s0.chg := by
  unfold sendPhase; simp [ite_chg]
@[simp] theorem leaveRails_chg (out : Rail → Bool) (st : RailSt) (s : State) : (leaveRails out st s).chg = s.chg := by
  unfold leaveRails; simp [foldl_chg]
@[simp] theorem leaveRail_chg (r : Nat) (st : RailSt) (s : State) : (leaveRail r st s).chg = s.chg := by unfold leaveRail; simp
@[simp] theorem abortProbe_chg (s : State) : (abortProbe s).chg = s.chg := by unfold abortProbe; simp [ite_chg]
@[simp] theorem stopAllArming_chg (s : State) : (stopAllArming s).chg = s.chg := by unfold stopAllArming; simp
@[simp] theorem stopArming_chg (r : Nat) (s : State) : (stopArming r s).chg = s.chg := by unfold stopArming; simp
@[simp] theorem shutOff_chg (s : State) : (shutOff s).chg = s.chg := by
  unfold shutOff; repeat' split
  all_goals simp
@[simp] theorem faultRun_chg (index : Nat) (s : State) : (faultRun index s).chg = s.chg := by
  unfold faultRun; repeat' split
  all_goals simp
@[simp] theorem offEvents_chg (before : State) (after : State) : (offEvents before after).chg = after.chg := by unfold offEvents; simp
@[simp] theorem faultConfined_chg (r : Nat) (s : State) : (faultConfined r s).chg = s.chg := by unfold faultConfined; simp
@[simp] theorem railFault_chg (r : Nat) (ov : Bool) (s : State) : (railFault r ov s).chg = s.chg := by
  unfold railFault; repeat' split
  all_goals simp
@[simp] theorem assignRoles_chg (s : State) (r : Nat) (lead : Nat) (order : List Nat) : (assignRoles s r lead order).chg = s.chg := by
  unfold assignRoles; simp
@[simp] theorem countedFall_chg (r : Nat) (s : State) : (countedFall r s).chg = s.chg := by unfold countedFall; simp [ite_chg]
@[simp] theorem pgChange_chg (r : Fin 48) (f : Rail → Rail) (s : State) : (pgChange r f s).chg = s.chg := by unfold pgChange; simp [ite_chg]
@[simp] theorem endRun_chg (s : State) : (endRun s).chg = s.chg := by
  unfold endRun; repeat' split
  all_goals simp
@[simp] theorem nextDown_chg (k : Nat) (s : State) : (nextDown k s).chg = s.chg := by
  unfold nextDown; repeat' split
  all_goals simp
@[simp] theorem beginDown_chg (s : State) : (beginDown s).chg = s.chg := by
  unfold beginDown; repeat' split
  all_goals simp
@[simp] theorem enterFalling_chg (latch : Bool) (s : State) : (enterFalling latch s).chg = s.chg := by
  unfold enterFalling; repeat' split
  all_goals simp
@[simp] theorem discardCommands_chg (s : State) : (discardCommands s).chg = s.chg := by unfold discardCommands; simp
@[simp] theorem adoptAddress_chg (s : State) : (adoptAddress s).chg = s.chg := by
  unfold adoptAddress; repeat' split
  all_goals simp
@[simp] theorem fuseChecks_chg (full : Bool) (s : State) : (fuseChecks full s).chg = s.chg := by unfold fuseChecks; simp [ite_chg]
@[simp] theorem cutBurn_chg (job : BurnJob) (s : State) : (cutBurn job s).chg = s.chg := by unfold cutBurn; simp
@[simp] theorem cutShort_chg (s : State) : (cutShort s).chg = s.chg := by
  unfold cutShort; repeat' split
  all_goals simp
@[simp] theorem writeMembership_chg (r : Nat) (s : State) : (writeMembership r s).chg = s.chg := by unfold writeMembership; simp [ite_chg]
@[simp] theorem copyMap_chg (s : State) : (copyMap s).chg = s.chg := by unfold copyMap; simp [foldl_chg]
@[simp] theorem holdOffset_chg (s : State) : (holdOffset s).chg = s.chg := by unfold holdOffset; simp
@[simp] theorem updateU_chg (s : State) : (updateU s).chg = s.chg := by unfold updateU; simp [ite_chg]
@[simp] theorem setTb_chg (st : TbSt) (s : State) : (setTb st s).chg = s.chg := by unfold setTb; simp
@[simp] theorem setRef_chg (st : RefSt) (left : Nat) (s : State) : (setRef st left s).chg = s.chg := by unfold setRef; simp
@[simp] theorem moveLevel_chg (s : State) : (moveLevel s).chg = s.chg := by unfold moveLevel; simp [ite_chg]
@[simp] theorem stopManager_chg (s : State) : (stopManager s).chg = s.chg := by
  unfold stopManager; repeat' split
  all_goals simp [ite_chg]
@[simp] theorem modPort_chg (p : Port) (f : PortSt → PortSt) (s : State) : (modPort p f s).chg = s.chg := by unfold modPort; simp
@[simp] theorem countDrops_chg (n : Nat) (s : State) : (countDrops n s).chg = s.chg := by unfold countDrops; simp
@[simp] theorem setLink_chg (p : Port) (st : LinkSt) (s : State) : (setLink p st s).chg = s.chg := by
  unfold setLink; repeat' split
  all_goals simp [ite_chg]
@[simp] theorem powerDown_chg (p : Port) (s : State) : (powerDown p s).chg = s.chg := by
  unfold powerDown; repeat' split
  all_goals simp
@[simp] theorem inputFault_chg (k : Nat) (s : State) : (inputFault k s).chg = s.chg := by
  unfold inputFault; repeat' split
  all_goals simp
@[simp] theorem judge_chg (k : Fin 64) (s : State) : (judge k s).chg = s.chg := by
  unfold judge; repeat' split
  all_goals simp
@[simp] theorem powerCheck_chg (s : State) : (powerCheck s).chg = s.chg := by
  unfold powerCheck; repeat' split
  all_goals simp
@[simp] theorem stopSwitching_chg (s : State) : (stopSwitching s).chg = s.chg := by
  unfold stopSwitching; repeat' split
  all_goals simp
@[simp] theorem judgeWarn_chg (evaluation : Bool) (s : State) : (judgeWarn evaluation s).chg = s.chg := by unfold judgeWarn; simp
@[simp] theorem takeThermRecords_chg (s : State) : (takeThermRecords s).chg = s.chg := by unfold takeThermRecords; simp [ite_chg]
@[simp] theorem evalThrottle_chg (s : State) : (evalThrottle s).chg = s.chg := by unfold evalThrottle; simp
@[simp] theorem thermalStop_chg (s : State) : (thermalStop s).chg = s.chg := by
  unfold thermalStop; repeat' split
  all_goals simp
@[simp] theorem requestSchedule_chg (s : State) : (requestSchedule s).chg = s.chg := by unfold requestSchedule; simp [foldl_chg]
@[simp] theorem setPwr_chg (x : PwrSt) (s : State) : (setPwr x s).chg = s.chg := by unfold setPwr; simp
@[simp] theorem enterAwake_chg (x : PwrSt) (s : State) : (enterAwake x s).chg = s.chg := by unfold enterAwake; simp
@[simp] theorem releaseAll_chg (s : State) : (releaseAll s).chg = s.chg := by unfold releaseAll; simp
@[simp] theorem checkBackup_chg (s : State) : (checkBackup s).chg = s.chg := by unfold checkBackup; simp
@[simp] theorem bootBank_chg (s : State) : (bootBank s).chg = s.chg := by unfold bootBank; simp [ite_chg]
@[simp] theorem startEvents_chg (revert : Bool) (s : State) : (startEvents revert s).chg = s.chg := by unfold startEvents; simp [ite_chg]
@[simp] theorem setAgree_chg (a : AgreeSt) (causes : Nat) (s : State) : (setAgree a causes s).chg = s.chg := by unfold setAgree; simp
@[simp] theorem startGathering_chg (s : State) : (startGathering s).chg = s.chg := by unfold startGathering; simp [ite_chg]
@[simp] theorem resetStuck_chg (s : State) : (resetStuck s).chg = s.chg := by unfold resetStuck; simp [ite_chg]

/-! ## `crease` -/

theorem ite_crease (k : Prop) [Decidable k] (s t : State) : (if k then s else t).crease = if k then s.crease else t.crease := apply_ite ..
theorem foldl_crease {α : Type} (f : State → α → State) (h : ∀ s x, (f s x).crease = s.crease) (l : List α) (s : State) :
    (l.foldl f s).crease = s.crease := by
  induction l generalizing s with
  | nil => rfl
  | cons x xs ih => rw [List.foldl_cons, ih, h]
@[simp] theorem losePower_crease (s : State) : (losePower s).crease = s.crease := by unfold losePower; simp
@[simp] theorem sendWaitingNotices_crease (s : State) : (sendWaitingNotices s).crease = s.crease := by unfold sendWaitingNotices; simp
@[simp] theorem releaseLines_crease (s : State) : (releaseLines s).crease = s.crease := by
  unfold releaseLines; simp [ite_crease, foldl_crease]
@[simp] theorem serveTemps_crease (s : State) : (serveTemps s).crease = s.crease := by unfold serveTemps; simp
@[simp] theorem joinTemp_crease (r : TempReq) (s : State) : (joinTemp r s).crease = s.crease := by unfold joinTemp; simp
@[simp] theorem requestTemp_crease (r : TempReq) (s : State) : (requestTemp r s).crease = s.crease := by unfold requestTemp; simp
@[simp] theorem modSeq_crease (q : Fin 8) (f : TSeq → TSeq) (s : State) : (modSeq q f s).crease = s.crease := by unfold modSeq; simp
@[simp] theorem countEvent_crease (before : Nat) (s : State) : (countEvent before s).crease = s.crease := by unfold countEvent; simp
@[simp] theorem spurEval_crease (s : State) : (spurEval s).crease = s.crease := by unfold spurEval; simp [ite_crease]
@[simp] theorem recheckActive_crease (s : State) : (recheckActive s).crease = s.crease := by unfold recheckActive; simp
@[simp] theorem pulses_crease (es : List Nat) (s : State) : (pulses es s).crease = s.crease := by unfold pulses; simp [foldl_crease]
@[simp] theorem changeCells_crease (s : State) (f : Nat → Cell → Cell) : (changeCells s f).crease = s.crease := by
  unfold changeCells; simp [ite_crease]
@[simp] theorem cancelRestart_crease (s : State) : (cancelRestart s).crease = s.crease := by unfold cancelRestart; simp
@[simp] theorem abortProbe_crease (s : State) : (abortProbe s).crease = s.crease := by unfold abortProbe; simp [ite_crease]
@[simp] theorem discardCommands_crease (s : State) : (discardCommands s).crease = s.crease := by unfold discardCommands; simp
@[simp] theorem adoptAddress_crease (s : State) : (adoptAddress s).crease = s.crease := by
  unfold adoptAddress; repeat' split
  all_goals simp
@[simp] theorem fuseChecks_crease (full : Bool) (s : State) : (fuseChecks full s).crease = s.crease := by
  unfold fuseChecks; simp [ite_crease]
@[simp] theorem cutBurn_crease (job : BurnJob) (s : State) : (cutBurn job s).crease = s.crease := by unfold cutBurn; simp
@[simp] theorem cutShort_crease (s : State) : (cutShort s).crease = s.crease := by
  unfold cutShort; repeat' split
  all_goals simp
@[simp] theorem holdOffset_crease (s : State) : (holdOffset s).crease = s.crease := by unfold holdOffset; simp
@[simp] theorem updateU_crease (s : State) : (updateU s).crease = s.crease := by unfold updateU; simp [ite_crease]
@[simp] theorem setTb_crease (st : TbSt) (s : State) : (setTb st s).crease = s.crease := by unfold setTb; simp
@[simp] theorem setRef_crease (st : RefSt) (left : Nat) (s : State) : (setRef st left s).crease = s.crease := by unfold setRef; simp
@[simp] theorem startQual_crease (s : State) : (startQual s).crease = s.crease := by unfold startQual; simp
@[simp] theorem moveLevel_crease (s : State) : (moveLevel s).crease = s.crease := by unfold moveLevel; simp [ite_crease]
@[simp] theorem stopManager_crease (s : State) : (stopManager s).crease = s.crease := by
  unfold stopManager; repeat' split
  all_goals simp [ite_crease]
@[simp] theorem modPort_crease (p : Port) (f : PortSt → PortSt) (s : State) : (modPort p f s).crease = s.crease := by unfold modPort; simp
@[simp] theorem countDrops_crease (n : Nat) (s : State) : (countDrops n s).crease = s.crease := by unfold countDrops; simp
@[simp] theorem setLink_crease (p : Port) (st : LinkSt) (s : State) : (setLink p st s).crease = s.crease := by
  unfold setLink; repeat' split
  all_goals simp [ite_crease]
@[simp] theorem powerDown_crease (p : Port) (s : State) : (powerDown p s).crease = s.crease := by
  unfold powerDown; repeat' split
  all_goals simp
@[simp] theorem modStream_crease (k : Fin 4) (f : Stream → Stream) (s : State) : (modStream k f s).crease = s.crease := by
  unfold modStream; simp
@[simp] theorem sendStream_crease (k : Fin 4) (s : State) : (sendStream k s).crease = s.crease := by unfold sendStream; simp [ite_crease]
@[simp] theorem feedStream_crease (q : Fin 8) (k : Fin 4) (s : State) : (feedStream q k s).crease = s.crease := by
  unfold feedStream; simp [ite_crease]
@[simp] theorem freeConvs_crease (q : Fin 8) (s : State) : (freeConvs q s).crease = s.crease := by unfold freeConvs; simp
@[simp] theorem endRunOf_crease (q : Fin 8) (s : State) : (endRunOf q s).crease = s.crease := by unfold endRunOf; simp [foldl_crease]
@[simp] theorem readNow_crease (ch : Nat) (avg : Nat) (s : State) : (readNow ch avg s).1.crease = s.crease := by unfold readNow; simp
@[simp] theorem serveSystem_crease (s : State) : (serveSystem s).crease = s.crease := by
  unfold serveSystem; repeat' split
  all_goals simp
@[simp] theorem setHold_crease (h : HoldSt) (s : State) : (setHold h s).crease = s.crease := by unfold setHold; simp [ite_crease]
@[simp] theorem holdOfPack_crease (before : State) (s : State) : (holdOfPack before s).crease = s.crease := by
  unfold holdOfPack; repeat' split
  all_goals simp
@[simp] theorem setPhase_crease (p : ChgPh) (s : State) : (setPhase p s).crease = s.crease := by
  unfold setPhase; repeat' split
  all_goals simp
@[simp] theorem chgIdle_crease (s : State) : (chgIdle s).crease = s.crease := by
  unfold chgIdle; repeat' split
  all_goals simp
@[simp] theorem powerCheck_crease (s : State) : (powerCheck s).crease = s.crease := by
  unfold powerCheck; repeat' split
  all_goals simp
@[simp] theorem setPwr_crease (x : PwrSt) (s : State) : (setPwr x s).crease = s.crease := by unfold setPwr; simp
@[simp] theorem enterAwake_crease (x : PwrSt) (s : State) : (enterAwake x s).crease = s.crease := by unfold enterAwake; simp
@[simp] theorem releaseAll_crease (s : State) : (releaseAll s).crease = s.crease := by unfold releaseAll; simp
@[simp] theorem beginHibernate_crease (s : State) : (beginHibernate s).crease = s.crease := by
  unfold beginHibernate; repeat' split
  all_goals simp
@[simp] theorem leaveHibernate_crease (s : State) : (leaveHibernate s).crease = s.crease := by unfold leaveHibernate; simp [ite_crease]
@[simp] theorem disarmShip_crease (s : State) : (disarmShip s).crease = s.crease := by unfold disarmShip; simp
@[simp] theorem fireAlarm_crease (k : Fin 2) (s : State) : (fireAlarm k s).crease = s.crease := by unfold fireAlarm; simp
@[simp] theorem wrapOver_crease (old : Nat) (s : State) : (wrapOver old s).crease = s.crease := by unfold wrapOver; simp [ite_crease]
@[simp] theorem stepCount_crease (d : Int) (s : State) : (stepCount d s).crease = s.crease := by unfold stepCount; simp [ite_crease]
@[simp] theorem setDisc_crease (d : DiscSt) (s : State) : (setDisc d s).crease = s.crease := by unfold setDisc; simp
@[simp] theorem leaveTracking_crease (s : State) : (leaveTracking s).crease = s.crease := by unfold leaveTracking; simp [ite_crease]
@[simp] theorem restartDisc_crease (s : State) : (restartDisc s).crease = s.crease := by unfold restartDisc; simp [ite_crease]
@[simp] theorem clearSuspect_crease (s : State) : (clearSuspect s).crease = s.crease := by unfold clearSuspect; simp
@[simp] theorem applyRtc_crease (count : Nat) (s : State) : (applyRtc count s).crease = s.crease := by unfold applyRtc; simp
@[simp] theorem ppsStepNow_crease (s : State) : (ppsStepNow s).crease = s.crease := by unfold ppsStepNow; simp
@[simp] theorem enterTracking_crease (s : State) : (enterTracking s).crease = s.crease := by unfold enterTracking; simp [ite_crease]
@[simp] theorem acquireEdge_crease (s : State) : (acquireEdge s).crease = s.crease := by unfold acquireEdge; simp [ite_crease]
@[simp] theorem trackEdge_crease (s : State) : (trackEdge s).crease = s.crease := by unfold trackEdge; simp [ite_crease]
@[simp] theorem acceptEdge_crease (s : State) : (acceptEdge s).crease = s.crease := by
  unfold acceptEdge; repeat' split
  all_goals simp
@[simp] theorem checkBackup_crease (s : State) : (checkBackup s).crease = s.crease := by unfold checkBackup; simp
@[simp] theorem ppsWrite_crease (p : List Byte) (s : State) : (ppsWrite p s).crease = s.crease := by unfold ppsWrite; simp [ite_crease]
@[simp] theorem bootBank_crease (s : State) : (bootBank s).crease = s.crease := by unfold bootBank; simp [ite_crease]
@[simp] theorem startEvents_crease (revert : Bool) (s : State) : (startEvents revert s).crease = s.crease := by
  unfold startEvents; simp [ite_crease]
@[simp] theorem domainStep_crease (d : Int) (s : State) : (domainStep d s).crease = s.crease := by unfold domainStep; simp
@[simp] theorem setAgree_crease (a : AgreeSt) (causes : Nat) (s : State) : (setAgree a causes s).crease = s.crease := by
  unfold setAgree; simp
@[simp] theorem startGathering_crease (s : State) : (startGathering s).crease = s.crease := by unfold startGathering; simp [ite_crease]
@[simp] theorem resetStuck_crease (s : State) : (resetStuck s).crease = s.crease := by unfold resetStuck; simp [ite_crease]

/-! ## `dom` -/

theorem ite_dom (k : Prop) [Decidable k] (s t : State) : (if k then s else t).dom = if k then s.dom else t.dom := apply_ite ..
theorem foldl_dom {α : Type} (f : State → α → State) (h : ∀ s x, (f s x).dom = s.dom) (l : List α) (s : State) :
    (l.foldl f s).dom = s.dom := by
  induction l generalizing s with
  | nil => rfl
  | cons x xs ih => rw [List.foldl_cons, ih, h]
@[simp] theorem sendWaitingNotices_dom (s : State) : (sendWaitingNotices s).dom = s.dom := by unfold sendWaitingNotices; simp
@[simp] theorem releaseLines_dom (s : State) : (releaseLines s).dom = s.dom := by unfold releaseLines; simp [ite_dom, foldl_dom]
@[simp] theorem holdSystem_dom (ch : Nat) (value : Int) (s : State) : (holdSystem ch value s).dom = s.dom := by unfold holdSystem; simp
@[simp] theorem serveTemps_dom (s : State) : (serveTemps s).dom = s.dom := by unfold serveTemps; simp
@[simp] theorem joinTemp_dom (r : TempReq) (s : State) : (joinTemp r s).dom = s.dom := by unfold joinTemp; simp
@[simp] theorem requestTemp_dom (r : TempReq) (s : State) : (requestTemp r s).dom = s.dom := by unfold requestTemp; simp
@[simp] theorem modSeq_dom (q : Fin 8) (f : TSeq → TSeq) (s : State) : (modSeq q f s).dom = s.dom := by unfold modSeq; simp
@[simp] theorem countEvent_dom (before : Nat) (s : State) : (countEvent before s).dom = s.dom := by unfold countEvent; simp
@[simp] theorem post_dom (ms : List Msg) (s : State) : (post ms s).dom = s.dom := by unfold post; simp
@[simp] theorem spurEval_dom (s : State) : (spurEval s).dom = s.dom := by unfold spurEval; simp [ite_dom]
@[simp] theorem recheckActive_dom (s : State) : (recheckActive s).dom = s.dom := by unfold recheckActive; simp
@[simp] theorem pulses_dom (es : List Nat) (s : State) : (pulses es s).dom = s.dom := by unfold pulses; simp [foldl_dom]
@[simp] theorem pgEvent_dom (r : Nat) (s : State) : (pgEvent r s).dom = s.dom := by unfold pgEvent; simp
@[simp] theorem targetEvent_dom (r : Nat) (s : State) : (targetEvent r s).dom = s.dom := by unfold targetEvent; simp
@[simp] theorem changeCell_dom (s : State) (c : Fin 256) (f : Cell → Cell) : (changeCell s c f).dom = s.dom := by
  unfold changeCell; simp [ite_dom]
@[simp] theorem changeCells_dom (s : State) (f : Nat → Cell → Cell) : (changeCells s f).dom = s.dom := by unfold changeCells; simp [ite_dom]
@[simp] theorem changeMembers_dom (s : State) (r : Nat) (f : Nat → Cell → Cell) : (changeMembers s r f).dom = s.dom := by
  unfold changeMembers; simp
@[simp] theorem sendPhase_dom (r : Nat) (before : PhaseCtx) (s0 : State) : (sendPhase r before s0).dom = s0.dom := by
  unfold sendPhase; simp [ite_dom]
@[simp] theorem changePhase_dom (r : Nat) (f : PhaseCtx → PhaseCtx) (s : State) : (changePhase r f s).dom = s.dom := by
  unfold changePhase; simp
@[simp] theorem leaveRails_dom (out : Rail → Bool) (st : RailSt) (s : State) : (leaveRails out st s).dom = s.dom := by
  unfold leaveRails; simp [foldl_dom]
@[simp] theorem leaveRail_dom (r : Nat) (st : RailSt) (s : State) : (leaveRail r st s).dom = s.dom := by unfold leaveRail; simp
@[simp] theorem abortProbe_dom (s : State) : (abortProbe s).dom = s.dom := by unfold abortProbe; simp [ite_dom]
@[simp] theorem stopAllArming_dom (s : State) : (stopAllArming s).dom = s.dom := by unfold stopAllArming; simp
@[simp] theorem stopArming_dom (r : Nat) (s : State) : (stopArming r s).dom = s.dom := by unfold stopArming; simp
@[simp] theorem offEvents_dom (before : State) (after : State) : (offEvents before after).dom = after.dom := by unfold offEvents; simp
@[simp] theorem dropMembers_dom (r : Nat) (s : State) : (dropMembers r s).dom = s.dom := by unfold dropMembers; simp
@[simp] theorem abandonRail_dom (r : Nat) (s : State) : (abandonRail r s).dom = s.dom := by unfold abandonRail; simp
@[simp] theorem stopRail_dom (r : Nat) (imm : Bool) (s : State) : (stopRail r imm s).dom = s.dom := by
  unfold stopRail; dsimp only; repeat' split
  all_goals simp
@[simp] theorem assignRoles_dom (s : State) (r : Nat) (lead : Nat) (order : List Nat) : (assignRoles s r lead order).dom = s.dom := by
  unfold assignRoles; simp
@[simp] theorem beginRail_dom (r : Nat) (s : State) : (beginRail r s).dom = s.dom := by
  unfold beginRail; repeat' split
  all_goals simp
@[simp] theorem startRail_dom (r : Nat) (s : State) : (startRail r s).dom = s.dom := by
  unfold startRail; repeat' split
  all_goals simp
@[simp] theorem retarget_dom (r : Nat) (code : Nat) (s : State) : (retarget r code s).dom = s.dom := by unfold retarget; simp [ite_dom]
@[simp] theorem formIndex_dom (r : Nat) (s : State) : (formIndex r s).dom = s.dom := by unfold formIndex; simp [ite_dom]
@[simp] theorem discardCommands_dom (s : State) : (discardCommands s).dom = s.dom := by unfold discardCommands; simp
@[simp] theorem adoptAddress_dom (s : State) : (adoptAddress s).dom = s.dom := by
  unfold adoptAddress; repeat' split
  all_goals simp
@[simp] theorem changePhasing_dom (c : Fin 256) (f : Cell → Cell) (s : State) : (changePhasing c f s).dom = s.dom := by
  unfold changePhasing; simp
@[simp] theorem stepDetect_dom (r : Nat) (code : Int) (s : State) : (stepDetect r code s).dom = s.dom := by
  unfold stepDetect; simp [ite_dom]
@[simp] theorem clearProt_dom (r : Nat) (mask : Nat) (s : State) : (clearProt r mask s).dom = s.dom := by unfold clearProt; simp [ite_dom]
@[simp] theorem fuseChecks_dom (full : Bool) (s : State) : (fuseChecks full s).dom = s.dom := by unfold fuseChecks; simp [ite_dom]
@[simp] theorem cutBurn_dom (job : BurnJob) (s : State) : (cutBurn job s).dom = s.dom := by unfold cutBurn; simp
@[simp] theorem cutShort_dom (s : State) : (cutShort s).dom = s.dom := by
  unfold cutShort; repeat' split
  all_goals simp
@[simp] theorem writeMembership_dom (r : Nat) (s : State) : (writeMembership r s).dom = s.dom := by unfold writeMembership; simp [ite_dom]
@[simp] theorem copyMap_dom (s : State) : (copyMap s).dom = s.dom := by unfold copyMap; simp [foldl_dom]
@[simp] theorem startProbe_dom (s : State) : (startProbe s).dom = s.dom := by unfold startProbe; simp
@[simp] theorem sendCurrents_dom (r : Nat) (s : State) : (sendCurrents r s).dom = s.dom := by unfold sendCurrents; simp
@[simp] theorem clearTerm_dom (lead : Nat) (s : State) : (clearTerm lead s).dom = s.dom := by unfold clearTerm; simp
@[simp] theorem sendTerm_dom (r : Nat) (lead : Nat) (t : Nat) (s : State) : (sendTerm r lead t s).dom = s.dom := by
  unfold sendTerm; repeat' split
  all_goals simp
@[simp] theorem reached_dom (r : Nat) (s : State) : (reached r s).dom = s.dom := by unfold reached; simp [ite_dom]
@[simp] theorem stepReference_dom (r : Nat) (s : State) : (stepReference r s).dom = s.dom := by unfold stepReference; simp
@[simp] theorem sinkLimit_dom (r : Nat) (i : Int) (s : State) : (sinkLimit r i s).dom = s.dom := by unfold sinkLimit; simp [ite_dom]
@[simp] theorem creaseLearn_dom (r : Nat) (t : Nat) (s : State) : (creaseLearn r t s).dom = s.dom := by
  unfold creaseLearn; repeat' split
  all_goals simp
@[simp] theorem leaderSends_dom (r : Nat) (lead : Nat) (s : State) : (leaderSends r lead s).dom = s.dom := by unfold leaderSends; simp
@[simp] theorem endTick_dom (r : Nat) (lead : Nat) (t : Nat) (s : State) : (endTick r lead t s).dom = s.dom := by
  unfold endTick; repeat' split
  all_goals simp
@[simp] theorem leadTick_dom (r : Nat) (lead : Nat) (t : Nat) (s : State) : (leadTick r lead t s).dom = s.dom := by
  unfold leadTick; repeat' split
  all_goals simp
@[simp] theorem releaseRail_dom (r : Nat) (lead : Nat) (t : Nat) (s : State) : (releaseRail r lead t s).dom = s.dom := by
  unfold releaseRail; repeat' split
  all_goals simp
@[simp] theorem hubTick_dom (r : Nat) (t : Nat) (s : State) : (hubTick r t s).dom = s.dom := by unfold hubTick; simp
@[simp] theorem creaseSpoil_dom (r : Nat) (s : State) : (creaseSpoil r s).dom = s.dom := by
  unfold creaseSpoil; repeat' split
  all_goals simp
@[simp] theorem tickRail_dom (r : Nat) (s : State) : (tickRail r s).dom = s.dom := by
  unfold tickRail; repeat' split
  all_goals simp [ite_dom]
@[simp] theorem holdOffset_dom (s : State) : (holdOffset s).dom = s.dom := by unfold holdOffset; simp
@[simp] theorem updateU_dom (s : State) : (updateU s).dom = s.dom := by unfold updateU; simp [ite_dom]
@[simp] theorem setTb_dom (st : TbSt) (s : State) : (setTb st s).dom = s.dom := by unfold setTb; simp
@[simp] theorem setRef_dom (st : RefSt) (left : Nat) (s : State) : (setRef st left s).dom = s.dom := by unfold setRef; simp
@[simp] theorem startQual_dom (s : State) : (startQual s).dom = s.dom := by unfold startQual; simp
@[simp] theorem moveLevel_dom (s : State) : (moveLevel s).dom = s.dom := by unfold moveLevel; simp [ite_dom]
@[simp] theorem stopManager_dom (s : State) : (stopManager s).dom = s.dom := by
  unfold stopManager; repeat' split
  all_goals simp [ite_dom]
@[simp] theorem modPort_dom (p : Port) (f : PortSt → PortSt) (s : State) : (modPort p f s).dom = s.dom := by unfold modPort; simp
@[simp] theorem countDrops_dom (n : Nat) (s : State) : (countDrops n s).dom = s.dom := by unfold countDrops; simp
@[simp] theorem setLink_dom (p : Port) (st : LinkSt) (s : State) : (setLink p st s).dom = s.dom := by
  unfold setLink; repeat' split
  all_goals simp [ite_dom]
@[simp] theorem powerDown_dom (p : Port) (s : State) : (powerDown p s).dom = s.dom := by
  unfold powerDown; repeat' split
  all_goals simp
@[simp] theorem modInput_dom (k : Fin 64) (f : SupIn → SupIn) (s : State) : (modInput k f s).dom = s.dom := by unfold modInput; simp
@[simp] theorem autoClear_dom (r : Nat) (s : State) : (autoClear r s).dom = s.dom := by unfold autoClear; simp [ite_dom]
@[simp] theorem skipScan_dom (s : State) : (skipScan s).dom = s.dom := by unfold skipScan; simp
@[simp] theorem supRecord_dom (s : State) (x : Nat × Nat × Nat × Nat) : (supRecord s x).dom = s.dom := by unfold supRecord; simp
@[simp] theorem takeSupConfig_dom (s : State) : (takeSupConfig s).dom = s.dom := by
  unfold takeSupConfig; repeat' split
  all_goals simp [foldl_dom]
@[simp] theorem modStream_dom (k : Fin 4) (f : Stream → Stream) (s : State) : (modStream k f s).dom = s.dom := by unfold modStream; simp
@[simp] theorem sendStream_dom (k : Fin 4) (s : State) : (sendStream k s).dom = s.dom := by unfold sendStream; simp [ite_dom]
@[simp] theorem feedStream_dom (q : Fin 8) (k : Fin 4) (s : State) : (feedStream q k s).dom = s.dom := by unfold feedStream; simp [ite_dom]
@[simp] theorem freeConvs_dom (q : Fin 8) (s : State) : (freeConvs q s).dom = s.dom := by unfold freeConvs; simp
@[simp] theorem endRunOf_dom (q : Fin 8) (s : State) : (endRunOf q s).dom = s.dom := by unfold endRunOf; simp [foldl_dom]
@[simp] theorem readNow_dom (ch : Nat) (avg : Nat) (s : State) : (readNow ch avg s).1.dom = s.dom := by unfold readNow; simp
@[simp] theorem serveSystem_dom (s : State) : (serveSystem s).dom = s.dom := by
  unfold serveSystem; repeat' split
  all_goals simp
@[simp] theorem setHold_dom (h : HoldSt) (s : State) : (setHold h s).dom = s.dom := by unfold setHold; simp [ite_dom]
@[simp] theorem holdOffVin_dom (s : State) : (holdOffVin s).dom = s.dom := by unfold holdOffVin; simp [ite_dom]
@[simp] theorem holdOfPack_dom (before : State) (s : State) : (holdOfPack before s).dom = s.dom := by
  unfold holdOfPack; repeat' split
  all_goals simp
@[simp] theorem setPhase_dom (p : ChgPh) (s : State) : (setPhase p s).dom = s.dom := by
  unfold setPhase; repeat' split
  all_goals simp
@[simp] theorem chgIdle_dom (s : State) : (chgIdle s).dom = s.dom := by
  unfold chgIdle; repeat' split
  all_goals simp
@[simp] theorem markRewrites_dom (before : State) (after : State) : (markRewrites before after).dom = after.dom := by
  unfold markRewrites; simp
@[simp] theorem judgeWarn_dom (evaluation : Bool) (s : State) : (judgeWarn evaluation s).dom = s.dom := by unfold judgeWarn; simp
@[simp] theorem takeThermRecords_dom (s : State) : (takeThermRecords s).dom = s.dom := by unfold takeThermRecords; simp [ite_dom]
@[simp] theorem evalThrottle_dom (s : State) : (evalThrottle s).dom = s.dom := by unfold evalThrottle; simp
@[simp] theorem requestSchedule_dom (s : State) : (requestSchedule s).dom = s.dom := by unfold requestSchedule; simp [foldl_dom]
@[simp] theorem setPwr_dom (x : PwrSt) (s : State) : (setPwr x s).dom = s.dom := by unfold setPwr; simp
@[simp] theorem enterAwake_dom (x : PwrSt) (s : State) : (enterAwake x s).dom = s.dom := by unfold enterAwake; simp
@[simp] theorem recordWake_dom (src : Nat) (detail : Nat) (left : Nat) (s : State) : (recordWake src detail left s).dom = s.dom := by
  unfold recordWake; simp
@[simp] theorem releaseAll_dom (s : State) : (releaseAll s).dom = s.dom := by unfold releaseAll; simp
@[simp] theorem beginHibernate_dom (s : State) : (beginHibernate s).dom = s.dom := by
  unfold beginHibernate; repeat' split
  all_goals simp
@[simp] theorem leaveHibernate_dom (s : State) : (leaveHibernate s).dom = s.dom := by unfold leaveHibernate; simp [ite_dom]
@[simp] theorem disarmShip_dom (s : State) : (disarmShip s).dom = s.dom := by unfold disarmShip; simp
@[simp] theorem fireAlarm_dom (k : Fin 2) (s : State) : (fireAlarm k s).dom = s.dom := by unfold fireAlarm; simp
@[simp] theorem wrapOver_dom (old : Nat) (s : State) : (wrapOver old s).dom = s.dom := by unfold wrapOver; simp [ite_dom]
@[simp] theorem stepCount_dom (d : Int) (s : State) : (stepCount d s).dom = s.dom := by unfold stepCount; simp [ite_dom]
@[simp] theorem setDisc_dom (d : DiscSt) (s : State) : (setDisc d s).dom = s.dom := by unfold setDisc; simp
@[simp] theorem leaveTracking_dom (s : State) : (leaveTracking s).dom = s.dom := by unfold leaveTracking; simp [ite_dom]
@[simp] theorem restartDisc_dom (s : State) : (restartDisc s).dom = s.dom := by unfold restartDisc; simp [ite_dom]
@[simp] theorem clearSuspect_dom (s : State) : (clearSuspect s).dom = s.dom := by unfold clearSuspect; simp
@[simp] theorem applyRtc_dom (count : Nat) (s : State) : (applyRtc count s).dom = s.dom := by unfold applyRtc; simp
@[simp] theorem ppsStepNow_dom (s : State) : (ppsStepNow s).dom = s.dom := by unfold ppsStepNow; simp
@[simp] theorem enterTracking_dom (s : State) : (enterTracking s).dom = s.dom := by unfold enterTracking; simp [ite_dom]
@[simp] theorem acquireEdge_dom (s : State) : (acquireEdge s).dom = s.dom := by unfold acquireEdge; simp [ite_dom]
@[simp] theorem trackEdge_dom (s : State) : (trackEdge s).dom = s.dom := by unfold trackEdge; simp [ite_dom]
@[simp] theorem acceptEdge_dom (s : State) : (acceptEdge s).dom = s.dom := by
  unfold acceptEdge; repeat' split
  all_goals simp
@[simp] theorem checkBackup_dom (s : State) : (checkBackup s).dom = s.dom := by unfold checkBackup; simp
@[simp] theorem ppsWrite_dom (p : List Byte) (s : State) : (ppsWrite p s).dom = s.dom := by unfold ppsWrite; simp [ite_dom]
@[simp] theorem bootBank_dom (s : State) : (bootBank s).dom = s.dom := by unfold bootBank; simp [ite_dom]
@[simp] theorem startEvents_dom (revert : Bool) (s : State) : (startEvents revert s).dom = s.dom := by unfold startEvents; simp [ite_dom]
@[simp] theorem domainStep_dom (d : Int) (s : State) : (domainStep d s).dom = s.dom := by unfold domainStep; simp
@[simp] theorem setAgree_dom (a : AgreeSt) (causes : Nat) (s : State) : (setAgree a causes s).dom = s.dom := by unfold setAgree; simp
@[simp] theorem evalAgreement_dom (s : State) : (evalAgreement s).dom = s.dom := by
  unfold evalAgreement; repeat' split
  all_goals simp
@[simp] theorem startGathering_dom (s : State) : (startGathering s).dom = s.dom := by unfold startGathering; simp [ite_dom]
@[simp] theorem resetStuck_dom (s : State) : (resetStuck s).dom = s.dom := by unfold resetStuck; simp [ite_dom]

/-! ## `free` -/

theorem ite_free (k : Prop) [Decidable k] (s t : State) : (if k then s else t).free = if k then s.free else t.free := apply_ite ..
theorem foldl_free {α : Type} (f : State → α → State) (h : ∀ s x, (f s x).free = s.free) (l : List α) (s : State) :
    (l.foldl f s).free = s.free := by
  induction l generalizing s with
  | nil => rfl
  | cons x xs ih => rw [List.foldl_cons, ih, h]
@[simp] theorem spurEval_free (s : State) : (spurEval s).free = s.free := by unfold spurEval; simp [ite_free]
@[simp] theorem pulses_free (es : List Nat) (s : State) : (pulses es s).free = s.free := by unfold pulses; simp [foldl_free]
@[simp] theorem changeCells_free (s : State) (f : Nat → Cell → Cell) : (changeCells s f).free = s.free := by
  unfold changeCells; simp [ite_free]
@[simp] theorem cancelRestart_free (s : State) : (cancelRestart s).free = s.free := by unfold cancelRestart; simp

/-! ## `fuse` -/

theorem ite_fuse (k : Prop) [Decidable k] (s t : State) : (if k then s else t).fuse = if k then s.fuse else t.fuse := apply_ite ..
theorem foldl_fuse {α : Type} (f : State → α → State) (h : ∀ s x, (f s x).fuse = s.fuse) (l : List α) (s : State) :
    (l.foldl f s).fuse = s.fuse := by
  induction l generalizing s with
  | nil => rfl
  | cons x xs ih => rw [List.foldl_cons, ih, h]
@[simp] theorem spurEval_fuse (s : State) : (spurEval s).fuse = s.fuse := by unfold spurEval; simp [ite_fuse]
@[simp] theorem recheckActive_fuse (s : State) : (recheckActive s).fuse = s.fuse := by unfold recheckActive; simp
@[simp] theorem pulses_fuse (es : List Nat) (s : State) : (pulses es s).fuse = s.fuse := by unfold pulses; simp [foldl_fuse]
@[simp] theorem changeCells_fuse (s : State) (f : Nat → Cell → Cell) : (changeCells s f).fuse = s.fuse := by
  unfold changeCells; simp [ite_fuse]
@[simp] theorem changeMembers_fuse (s : State) (r : Nat) (f : Nat → Cell → Cell) : (changeMembers s r f).fuse = s.fuse := by
  unfold changeMembers; simp
@[simp] theorem cancelRestart_fuse (s : State) : (cancelRestart s).fuse = s.fuse := by unfold cancelRestart; simp
@[simp] theorem assignRoles_fuse (s : State) (r : Nat) (lead : Nat) (order : List Nat) : (assignRoles s r lead order).fuse = s.fuse := by
  unfold assignRoles; simp
@[simp] theorem discardCommands_fuse (s : State) : (discardCommands s).fuse = s.fuse := by unfold discardCommands; simp
@[simp] theorem writeMembership_fuse (r : Nat) (s : State) : (writeMembership r s).fuse = s.fuse := by
  unfold writeMembership; simp [ite_fuse]
@[simp] theorem copyMap_fuse (s : State) : (copyMap s).fuse = s.fuse := by unfold copyMap; simp [foldl_fuse]
@[simp] theorem recordWake_fuse (src : Nat) (detail : Nat) (left : Nat) (s : State) : (recordWake src detail left s).fuse = s.fuse := by
  unfold recordWake; simp
@[simp] theorem checkBackup_fuse (s : State) : (checkBackup s).fuse = s.fuse := by unfold checkBackup; simp

/-! ## `fw` -/

theorem ite_fw (k : Prop) [Decidable k] (s t : State) : (if k then s else t).fw = if k then s.fw else t.fw := apply_ite ..
theorem foldl_fw {α : Type} (f : State → α → State) (h : ∀ s x, (f s x).fw = s.fw) (l : List α) (s : State) : (l.foldl f s).fw = s.fw := by
  induction l generalizing s with
  | nil => rfl
  | cons x xs ih => rw [List.foldl_cons, ih, h]
@[simp] theorem sendWaitingNotices_fw (s : State) : (sendWaitingNotices s).fw = s.fw := by unfold sendWaitingNotices; simp
@[simp] theorem spurEval_fw (s : State) : (spurEval s).fw = s.fw := by unfold spurEval; simp [ite_fw]
@[simp] theorem recheckActive_fw (s : State) : (recheckActive s).fw = s.fw := by unfold recheckActive; simp
@[simp] theorem pulses_fw (es : List Nat) (s : State) : (pulses es s).fw = s.fw := by unfold pulses; simp [foldl_fw]
@[simp] theorem changeCells_fw (s : State) (f : Nat → Cell → Cell) : (changeCells s f).fw = s.fw := by unfold changeCells; simp [ite_fw]
@[simp] theorem cancelRestart_fw (s : State) : (cancelRestart s).fw = s.fw := by unfold cancelRestart; simp
@[simp] theorem cutBurn_fw (job : BurnJob) (s : State) : (cutBurn job s).fw = s.fw := by unfold cutBurn; simp
@[simp] theorem startProbe_fw (s : State) : (startProbe s).fw = s.fw := by unfold startProbe; simp
@[simp] theorem setRef_fw (st : RefSt) (left : Nat) (s : State) : (setRef st left s).fw = s.fw := by unfold setRef; simp
@[simp] theorem startQual_fw (s : State) : (startQual s).fw = s.fw := by unfold startQual; simp
@[simp] theorem moveLevel_fw (s : State) : (moveLevel s).fw = s.fw := by unfold moveLevel; simp [ite_fw]
@[simp] theorem recordWake_fw (src : Nat) (detail : Nat) (left : Nat) (s : State) : (recordWake src detail left s).fw = s.fw := by
  unfold recordWake; simp
@[simp] theorem checkBackup_fw (s : State) : (checkBackup s).fw = s.fw := by unfold checkBackup; simp
@[simp] theorem startEvents_fw (revert : Bool) (s : State) : (startEvents revert s).fw = s.fw := by unfold startEvents; simp [ite_fw]
@[simp] theorem setAgree_fw (a : AgreeSt) (causes : Nat) (s : State) : (setAgree a causes s).fw = s.fw := by unfold setAgree; simp
@[simp] theorem startGathering_fw (s : State) : (startGathering s).fw = s.fw := by unfold startGathering; simp [ite_fw]
@[simp] theorem resetStuck_fw (s : State) : (resetStuck s).fw = s.fw := by unfold resetStuck; simp [ite_fw]
@[simp] theorem startWork_fw (s : State) : (startWork s).fw = s.fw := by unfold startWork; simp [ite_fw]

/-! ## `hem` -/

theorem ite_hem (k : Prop) [Decidable k] (s t : State) : (if k then s else t).hem = if k then s.hem else t.hem := apply_ite ..
theorem foldl_hem {α : Type} (f : State → α → State) (h : ∀ s x, (f s x).hem = s.hem) (l : List α) (s : State) :
    (l.foldl f s).hem = s.hem := by
  induction l generalizing s with
  | nil => rfl
  | cons x xs ih => rw [List.foldl_cons, ih, h]
@[simp] theorem releaseLines_hem (s : State) : (releaseLines s).hem = s.hem := by unfold releaseLines; simp [ite_hem, foldl_hem]
@[simp] theorem post_hem (ms : List Msg) (s : State) : (post ms s).hem = s.hem := by unfold post; simp
@[simp] theorem spurEval_hem (s : State) : (spurEval s).hem = s.hem := by unfold spurEval; simp [ite_hem]
@[simp] theorem recheckActive_hem (s : State) : (recheckActive s).hem = s.hem := by unfold recheckActive; simp
@[simp] theorem pulses_hem (es : List Nat) (s : State) : (pulses es s).hem = s.hem := by unfold pulses; simp [foldl_hem]
@[simp] theorem pgEvent_hem (r : Nat) (s : State) : (pgEvent r s).hem = s.hem := by unfold pgEvent; simp
@[simp] theorem targetEvent_hem (r : Nat) (s : State) : (targetEvent r s).hem = s.hem := by unfold targetEvent; simp
@[simp] theorem changeCell_hem (s : State) (c : Fin 256) (f : Cell → Cell) : (changeCell s c f).hem = s.hem := by
  unfold changeCell; simp [ite_hem]
@[simp] theorem changeCells_hem (s : State) (f : Nat → Cell → Cell) : (changeCells s f).hem = s.hem := by unfold changeCells; simp [ite_hem]
@[simp] theorem changeMembers_hem (s : State) (r : Nat) (f : Nat → Cell → Cell) : (changeMembers s r f).hem = s.hem := by
  unfold changeMembers; simp
@[simp] theorem capture_hem (cause : Nat) (index : Nat) (s : State) : (capture cause index s).hem = s.hem := by
  unfold capture; simp [ite_hem]
@[simp] theorem sendEcho_hem (kind : Nat) (seq : Nat) (s : State) : (sendEcho kind seq s).hem = s.hem := by unfold sendEcho; simp [ite_hem]
@[simp] theorem enterDom_hem (d : DomSt) (s : State) : (enterDom d s).hem = s.hem := by
  unfold enterDom; repeat' split
  all_goals simp
@[simp] theorem cancelRestart_hem (s : State) : (cancelRestart s).hem = s.hem := by unfold cancelRestart; simp
@[simp] theorem enterLatched_hem (s : State) : (enterLatched s).hem = s.hem := by
  unfold enterLatched; repeat' split
  all_goals simp
@[simp] theorem sendPhase_hem (r : Nat) (before : PhaseCtx) (s0 : State) : (sendPhase r before s0).hem = s0.hem := by
  unfold sendPhase; simp [ite_hem]
@[simp] theorem leaveRails_hem (out : Rail → Bool) (st : RailSt) (s : State) : (leaveRails out st s).hem = s.hem := by
  unfold leaveRails; simp [foldl_hem]
@[simp] theorem leaveRail_hem (r : Nat) (st : RailSt) (s : State) : (leaveRail r st s).hem = s.hem := by unfold leaveRail; simp
@[simp] theorem abortProbe_hem (s : State) : (abortProbe s).hem = s.hem := by unfold abortProbe; simp [ite_hem]
@[simp] theorem stopAllArming_hem (s : State) : (stopAllArming s).hem = s.hem := by unfold stopAllArming; simp
@[simp] theorem stopArming_hem (r : Nat) (s : State) : (stopArming r s).hem = s.hem := by unfold stopArming; simp
@[simp] theorem shutOff_hem (s : State) : (shutOff s).hem = s.hem := by
  unfold shutOff; repeat' split
  all_goals simp
@[simp] theorem faultRun_hem (index : Nat) (s : State) : (faultRun index s).hem = s.hem := by
  unfold faultRun; repeat' split
  all_goals simp
@[simp] theorem faultConfined_hem (r : Nat) (s : State) : (faultConfined r s).hem = s.hem := by unfold faultConfined; simp
@[simp] theorem railFault_hem (r : Nat) (ov : Bool) (s : State) : (railFault r ov s).hem = s.hem := by
  unfold railFault; repeat' split
  all_goals simp
@[simp] theorem assignRoles_hem (s : State) (r : Nat) (lead : Nat) (order : List Nat) : (assignRoles s r lead order).hem = s.hem := by
  unfold assignRoles; simp
@[simp] theorem beginRail_hem (r : Nat) (s : State) : (beginRail r s).hem = s.hem := by
  unfold beginRail; repeat' split
  all_goals simp
@[simp] theorem retarget_hem (r : Nat) (code : Nat) (s : State) : (retarget r code s).hem = s.hem := by unfold retarget; simp [ite_hem]
@[simp] theorem formIndex_hem (r : Nat) (s : State) : (formIndex r s).hem = s.hem := by unfold formIndex; simp [ite_hem]
@[simp] theorem countedFall_hem (r : Nat) (s : State) : (countedFall r s).hem = s.hem := by unfold countedFall; simp [ite_hem]
@[simp] theorem pgChange_hem (r : Fin 48) (f : Rail → Rail) (s : State) : (pgChange r f s).hem = s.hem := by unfold pgChange; simp [ite_hem]
@[simp] theorem discardCommands_hem (s : State) : (discardCommands s).hem = s.hem := by unfold discardCommands; simp
@[simp] theorem fuseChecks_hem (full : Bool) (s : State) : (fuseChecks full s).hem = s.hem := by unfold fuseChecks; simp [ite_hem]
@[simp] theorem cutBurn_hem (job : BurnJob) (s : State) : (cutBurn job s).hem = s.hem := by unfold cutBurn; simp
@[simp] theorem cutShort_hem (s : State) : (cutShort s).hem = s.hem := by
  unfold cutShort; repeat' split
  all_goals simp
@[simp] theorem writeMembership_hem (r : Nat) (s : State) : (writeMembership r s).hem = s.hem := by unfold writeMembership; simp [ite_hem]
@[simp] theorem copyMap_hem (s : State) : (copyMap s).hem = s.hem := by unfold copyMap; simp [foldl_hem]
@[simp] theorem startProbe_hem (s : State) : (startProbe s).hem = s.hem := by unfold startProbe; simp
@[simp] theorem sendCurrents_hem (r : Nat) (s : State) : (sendCurrents r s).hem = s.hem := by unfold sendCurrents; simp
@[simp] theorem clearTerm_hem (lead : Nat) (s : State) : (clearTerm lead s).hem = s.hem := by unfold clearTerm; simp
@[simp] theorem sendTerm_hem (r : Nat) (lead : Nat) (t : Nat) (s : State) : (sendTerm r lead t s).hem = s.hem := by
  unfold sendTerm; repeat' split
  all_goals simp
@[simp] theorem reached_hem (r : Nat) (s : State) : (reached r s).hem = s.hem := by unfold reached; simp [ite_hem]
@[simp] theorem stepReference_hem (r : Nat) (s : State) : (stepReference r s).hem = s.hem := by unfold stepReference; simp
@[simp] theorem sinkLimit_hem (r : Nat) (i : Int) (s : State) : (sinkLimit r i s).hem = s.hem := by unfold sinkLimit; simp [ite_hem]
@[simp] theorem creaseLearn_hem (r : Nat) (t : Nat) (s : State) : (creaseLearn r t s).hem = s.hem := by
  unfold creaseLearn; repeat' split
  all_goals simp
@[simp] theorem leaderSends_hem (r : Nat) (lead : Nat) (s : State) : (leaderSends r lead s).hem = s.hem := by unfold leaderSends; simp
@[simp] theorem endTick_hem (r : Nat) (lead : Nat) (t : Nat) (s : State) : (endTick r lead t s).hem = s.hem := by
  unfold endTick; repeat' split
  all_goals simp
@[simp] theorem leadTick_hem (r : Nat) (lead : Nat) (t : Nat) (s : State) : (leadTick r lead t s).hem = s.hem := by
  unfold leadTick; repeat' split
  all_goals simp
@[simp] theorem releaseRail_hem (r : Nat) (lead : Nat) (t : Nat) (s : State) : (releaseRail r lead t s).hem = s.hem := by
  unfold releaseRail; repeat' split
  all_goals simp
@[simp] theorem hubTick_hem (r : Nat) (t : Nat) (s : State) : (hubTick r t s).hem = s.hem := by unfold hubTick; simp
@[simp] theorem creaseSpoil_hem (r : Nat) (s : State) : (creaseSpoil r s).hem = s.hem := by
  unfold creaseSpoil; repeat' split
  all_goals simp
@[simp] theorem tickRail_hem (r : Nat) (s : State) : (tickRail r s).hem = s.hem := by
  unfold tickRail; repeat' split
  all_goals simp [ite_hem]
@[simp] theorem setRef_hem (st : RefSt) (left : Nat) (s : State) : (setRef st left s).hem = s.hem := by unfold setRef; simp
@[simp] theorem startQual_hem (s : State) : (startQual s).hem = s.hem := by unfold startQual; simp
@[simp] theorem moveLevel_hem (s : State) : (moveLevel s).hem = s.hem := by unfold moveLevel; simp [ite_hem]
@[simp] theorem stopManager_hem (s : State) : (stopManager s).hem = s.hem := by
  unfold stopManager; repeat' split
  all_goals simp [ite_hem]
@[simp] theorem inputFault_hem (k : Nat) (s : State) : (inputFault k s).hem = s.hem := by
  unfold inputFault; repeat' split
  all_goals simp
@[simp] theorem judge_hem (k : Fin 64) (s : State) : (judge k s).hem = s.hem := by
  unfold judge; repeat' split
  all_goals simp
@[simp] theorem setPwr_hem (x : PwrSt) (s : State) : (setPwr x s).hem = s.hem := by unfold setPwr; simp
@[simp] theorem leaveHibernate_hem (s : State) : (leaveHibernate s).hem = s.hem := by unfold leaveHibernate; simp [ite_hem]
@[simp] theorem bootBank_hem (s : State) : (bootBank s).hem = s.hem := by unfold bootBank; simp [ite_hem]
@[simp] theorem startEvents_hem (revert : Bool) (s : State) : (startEvents revert s).hem = s.hem := by unfold startEvents; simp [ite_hem]
@[simp] theorem setAgree_hem (a : AgreeSt) (causes : Nat) (s : State) : (setAgree a causes s).hem = s.hem := by unfold setAgree; simp
@[simp] theorem startGathering_hem (s : State) : (startGathering s).hem = s.hem := by unfold startGathering; simp [ite_hem]
@[simp] theorem resetStuck_hem (s : State) : (resetStuck s).hem = s.hem := by unfold resetStuck; simp [ite_hem]
@[simp] theorem startWork_hem (s : State) : (startWork s).hem = s.hem := by unfold startWork; simp [ite_hem]

/-! ## `hp` -/

theorem ite_hp (k : Prop) [Decidable k] (s t : State) : (if k then s else t).hp = if k then s.hp else t.hp := apply_ite ..
theorem foldl_hp {α : Type} (f : State → α → State) (h : ∀ s x, (f s x).hp = s.hp) (l : List α) (s : State) : (l.foldl f s).hp = s.hp := by
  induction l generalizing s with
  | nil => rfl
  | cons x xs ih => rw [List.foldl_cons, ih, h]
@[simp] theorem spurEval_hp (s : State) : (spurEval s).hp = s.hp := by unfold spurEval; simp [ite_hp]
@[simp] theorem pulses_hp (es : List Nat) (s : State) : (pulses es s).hp = s.hp := by unfold pulses; simp [foldl_hp]
@[simp] theorem changeCells_hp (s : State) (f : Nat → Cell → Cell) : (changeCells s f).hp = s.hp := by unfold changeCells; simp [ite_hp]
@[simp] theorem cancelRestart_hp (s : State) : (cancelRestart s).hp = s.hp := by unfold cancelRestart; simp
@[simp] theorem setPwr_hp (x : PwrSt) (s : State) : (setPwr x s).hp = s.hp := by unfold setPwr; simp

/-! ## `land` -/

theorem ite_land (k : Prop) [Decidable k] (s t : State) : (if k then s else t).land = if k then s.land else t.land := apply_ite ..
theorem foldl_land {α : Type} (f : State → α → State) (h : ∀ s x, (f s x).land = s.land) (l : List α) (s : State) :
    (l.foldl f s).land = s.land := by
  induction l generalizing s with
  | nil => rfl
  | cons x xs ih => rw [List.foldl_cons, ih, h]
@[simp] theorem losePower_land (s : State) : (losePower s).land = s.land := by unfold losePower; simp
@[simp] theorem serveTemps_land (s : State) : (serveTemps s).land = s.land := by unfold serveTemps; simp
@[simp] theorem joinTemp_land (r : TempReq) (s : State) : (joinTemp r s).land = s.land := by unfold joinTemp; simp
@[simp] theorem requestTemp_land (r : TempReq) (s : State) : (requestTemp r s).land = s.land := by unfold requestTemp; simp
@[simp] theorem post_land (ms : List Msg) (s : State) : (post ms s).land = s.land := by unfold post; simp
@[simp] theorem spurEval_land (s : State) : (spurEval s).land = s.land := by unfold spurEval; simp [ite_land]
@[simp] theorem recheckActive_land (s : State) : (recheckActive s).land = s.land := by unfold recheckActive; simp
@[simp] theorem pulses_land (es : List Nat) (s : State) : (pulses es s).land = s.land := by unfold pulses; simp [foldl_land]
@[simp] theorem pgEvent_land (r : Nat) (s : State) : (pgEvent r s).land = s.land := by unfold pgEvent; simp
@[simp] theorem changeCell_land (s : State) (c : Fin 256) (f : Cell → Cell) : (changeCell s c f).land = s.land := by
  unfold changeCell; simp [ite_land]
@[simp] theorem changeCells_land (s : State) (f : Nat → Cell → Cell) : (changeCells s f).land = s.land := by
  unfold changeCells; simp [ite_land]
@[simp] theorem changeMembers_land (s : State) (r : Nat) (f : Nat → Cell → Cell) : (changeMembers s r f).land = s.land := by
  unfold changeMembers; simp
@[simp] theorem capture_land (cause : Nat) (index : Nat) (s : State) : (capture cause index s).land = s.land := by
  unfold capture; simp [ite_land]
@[simp] theorem sendEcho_land (kind : Nat) (seq : Nat) (s : State) : (sendEcho kind seq s).land = s.land := by
  unfold sendEcho; simp [ite_land]
@[simp] theorem enterDom_land (d : DomSt) (s : State) : (enterDom d s).land = s.land := by
  unfold enterDom; repeat' split
  all_goals simp
@[simp] theorem cancelRestart_land (s : State) : (cancelRestart s).land = s.land := by unfold cancelRestart; simp
@[simp] theorem enterLatched_land (s : State) : (enterLatched s).land = s.land := by
  unfold enterLatched; repeat' split
  all_goals simp
@[simp] theorem domLoseVin_land (s : State) : (domLoseVin s).land = s.land := by
  unfold domLoseVin; repeat' split
  all_goals simp
@[simp] theorem sendPhase_land (r : Nat) (before : PhaseCtx) (s0 : State) : (sendPhase r before s0).land = s0.land := by
  unfold sendPhase; simp [ite_land]
@[simp] theorem leaveRails_land (out : Rail → Bool) (st : RailSt) (s : State) : (leaveRails out st s).land = s.land := by
  unfold leaveRails; simp [foldl_land]
@[simp] theorem abortProbe_land (s : State) : (abortProbe s).land = s.land := by unfold abortProbe; simp [ite_land]
@[simp] theorem stopAllArming_land (s : State) : (stopAllArming s).land = s.land := by unfold stopAllArming; simp
@[simp] theorem shutOff_land (s : State) : (shutOff s).land = s.land := by
  unfold shutOff; repeat' split
  all_goals simp
@[simp] theorem faultRun_land (index : Nat) (s : State) : (faultRun index s).land = s.land := by
  unfold faultRun; repeat' split
  all_goals simp
@[simp] theorem offEvents_land (before : State) (after : State) : (offEvents before after).land = after.land := by unfold offEvents; simp
@[simp] theorem assignRoles_land (s : State) (r : Nat) (lead : Nat) (order : List Nat) : (assignRoles s r lead order).land = s.land := by
  unfold assignRoles; simp
@[simp] theorem beginRail_land (r : Nat) (s : State) : (beginRail r s).land = s.land := by
  unfold beginRail; repeat' split
  all_goals simp
@[simp] theorem discardCommands_land (s : State) : (discardCommands s).land = s.land := by unfold discardCommands; simp
@[simp] theorem fuseChecks_land (full : Bool) (s : State) : (fuseChecks full s).land = s.land := by unfold fuseChecks; simp [ite_land]
@[simp] theorem cutBurn_land (job : BurnJob) (s : State) : (cutBurn job s).land = s.land := by unfold cutBurn; simp
@[simp] theorem cutShort_land (s : State) : (cutShort s).land = s.land := by
  unfold cutShort; repeat' split
  all_goals simp
@[simp] theorem startProbe_land (s : State) : (startProbe s).land = s.land := by unfold startProbe; simp
@[simp] theorem stopManager_land (s : State) : (stopManager s).land = s.land := by
  unfold stopManager; repeat' split
  all_goals simp [ite_land]
@[simp] theorem setHold_land (h : HoldSt) (s : State) : (setHold h s).land = s.land := by unfold setHold; simp [ite_land]
@[simp] theorem holdOffVin_land (s : State) : (holdOffVin s).land = s.land := by unfold holdOffVin; simp [ite_land]
@[simp] theorem holdOfPack_land (before : State) (s : State) : (holdOfPack before s).land = s.land := by
  unfold holdOfPack; repeat' split
  all_goals simp
@[simp] theorem setPhase_land (p : ChgPh) (s : State) : (setPhase p s).land = s.land := by
  unfold setPhase; repeat' split
  all_goals simp
@[simp] theorem judgeSusp_land (judgeTemp : Bool) (s : State) : (judgeSusp judgeTemp s).land = s.land := by
  unfold judgeSusp; repeat' split
  all_goals simp [ite_land]
@[simp] theorem powerCheck_land (s : State) : (powerCheck s).land = s.land := by
  unfold powerCheck; repeat' split
  all_goals simp
@[simp] theorem reselect_land (s : State) : (reselect s).land = s.land := by
  unfold reselect; repeat' split
  all_goals simp [ite_land]
@[simp] theorem stopSwitching_land (s : State) : (stopSwitching s).land = s.land := by
  unfold stopSwitching; repeat' split
  all_goals simp
@[simp] theorem markRewrites_land (before : State) (after : State) : (markRewrites before after).land = after.land := by
  unfold markRewrites; simp
@[simp] theorem recordWake_land (src : Nat) (detail : Nat) (left : Nat) (s : State) : (recordWake src detail left s).land = s.land := by
  unfold recordWake; simp
@[simp] theorem checkBackup_land (s : State) : (checkBackup s).land = s.land := by unfold checkBackup; simp
@[simp] theorem startEvents_land (revert : Bool) (s : State) : (startEvents revert s).land = s.land := by
  unfold startEvents; simp [ite_land]
@[simp] theorem setAgree_land (a : AgreeSt) (causes : Nat) (s : State) : (setAgree a causes s).land = s.land := by unfold setAgree; simp
@[simp] theorem startGathering_land (s : State) : (startGathering s).land = s.land := by unfold startGathering; simp [ite_land]
@[simp] theorem startWork_land (s : State) : (startWork s).land = s.land := by unfold startWork; simp [ite_land]

/-! ## `map` -/

theorem ite_map (k : Prop) [Decidable k] (s t : State) : (if k then s else t).map = if k then s.map else t.map := apply_ite ..
theorem foldl_map {α : Type} (f : State → α → State) (h : ∀ s x, (f s x).map = s.map) (l : List α) (s : State) :
    (l.foldl f s).map = s.map := by
  induction l generalizing s with
  | nil => rfl
  | cons x xs ih => rw [List.foldl_cons, ih, h]
@[simp] theorem sendWaitingNotices_map (s : State) : (sendWaitingNotices s).map = s.map := by unfold sendWaitingNotices; simp
@[simp] theorem post_map (ms : List Msg) (s : State) : (post ms s).map = s.map := by unfold post; simp
@[simp] theorem spurEval_map (s : State) : (spurEval s).map = s.map := by unfold spurEval; simp [ite_map]
@[simp] theorem pulses_map (es : List Nat) (s : State) : (pulses es s).map = s.map := by unfold pulses; simp [foldl_map]
@[simp] theorem pgEvent_map (r : Nat) (s : State) : (pgEvent r s).map = s.map := by unfold pgEvent; simp
@[simp] theorem targetEvent_map (r : Nat) (s : State) : (targetEvent r s).map = s.map := by unfold targetEvent; simp
@[simp] theorem changeCell_map (s : State) (c : Fin 256) (f : Cell → Cell) : (changeCell s c f).map = s.map := by
  unfold changeCell; simp [ite_map]
@[simp] theorem changeCells_map (s : State) (f : Nat → Cell → Cell) : (changeCells s f).map = s.map := by unfold changeCells; simp [ite_map]
@[simp] theorem changeMembers_map (s : State) (r : Nat) (f : Nat → Cell → Cell) : (changeMembers s r f).map = s.map := by
  unfold changeMembers; simp
@[simp] theorem capture_map (cause : Nat) (index : Nat) (s : State) : (capture cause index s).map = s.map := by
  unfold capture; simp [ite_map]
@[simp] theorem enterDom_map (d : DomSt) (s : State) : (enterDom d s).map = s.map := by
  unfold enterDom; repeat' split
  all_goals simp
@[simp] theorem cancelRestart_map (s : State) : (cancelRestart s).map = s.map := by unfold cancelRestart; simp
@[simp] theorem sendPhase_map (r : Nat) (before : PhaseCtx) (s0 : State) : (sendPhase r before s0).map = s0.map := by
  unfold sendPhase; simp [ite_map]
@[simp] theorem changePhase_map (r : Nat) (f : PhaseCtx → PhaseCtx) (s : State) : (changePhase r f s).map = s.map := by
  unfold changePhase; simp
@[simp] theorem leaveRail_map (r : Nat) (st : RailSt) (s : State) : (leaveRail r st s).map = s.map := by unfold leaveRail; simp
@[simp] theorem stopArming_map (r : Nat) (s : State) : (stopArming r s).map = s.map := by unfold stopArming; simp
@[simp] theorem dropMembers_map (r : Nat) (s : State) : (dropMembers r s).map = s.map := by unfold dropMembers; simp
@[simp] theorem abandonRail_map (r : Nat) (s : State) : (abandonRail r s).map = s.map := by unfold abandonRail; simp
@[simp] theorem stopRail_map (r : Nat) (imm : Bool) (s : State) : (stopRail r imm s).map = s.map := by
  unfold stopRail; dsimp only; repeat' split
  all_goals simp
@[simp] theorem assignRoles_map (s : State) (r : Nat) (lead : Nat) (order : List Nat) : (assignRoles s r lead order).map = s.map := by
  unfold assignRoles; simp
@[simp] theorem beginRail_map (r : Nat) (s : State) : (beginRail r s).map = s.map := by
  unfold beginRail; repeat' split
  all_goals simp
@[simp] theorem startRail_map (r : Nat) (s : State) : (startRail r s).map = s.map := by
  unfold startRail; repeat' split
  all_goals simp
@[simp] theorem retarget_map (r : Nat) (code : Nat) (s : State) : (retarget r code s).map = s.map := by unfold retarget; simp [ite_map]
@[simp] theorem formIndex_map (r : Nat) (s : State) : (formIndex r s).map = s.map := by unfold formIndex; simp [ite_map]
@[simp] theorem nextUp_map (k : Nat) (s : State) : (nextUp k s).map = s.map := by
  unfold nextUp; repeat' split
  all_goals simp
@[simp] theorem discardCommands_map (s : State) : (discardCommands s).map = s.map := by unfold discardCommands; simp
@[simp] theorem changePhasing_map (c : Fin 256) (f : Cell → Cell) (s : State) : (changePhasing c f s).map = s.map := by
  unfold changePhasing; simp
@[simp] theorem stepDetect_map (r : Nat) (code : Int) (s : State) : (stepDetect r code s).map = s.map := by
  unfold stepDetect; simp [ite_map]
@[simp] theorem fuseChecks_map (full : Bool) (s : State) : (fuseChecks full s).map = s.map := by unfold fuseChecks; simp [ite_map]
@[simp] theorem writeMembership_map (r : Nat) (s : State) : (writeMembership r s).map = s.map := by unfold writeMembership; simp [ite_map]
@[simp] theorem overIsolate_map (c : Fin 256) (s : State) : (overIsolate c s).map = s.map := by unfold overIsolate; simp [ite_map]
@[simp] theorem sendCurrents_map (r : Nat) (s : State) : (sendCurrents r s).map = s.map := by unfold sendCurrents; simp
@[simp] theorem clearTerm_map (lead : Nat) (s : State) : (clearTerm lead s).map = s.map := by unfold clearTerm; simp
@[simp] theorem sendTerm_map (r : Nat) (lead : Nat) (t : Nat) (s : State) : (sendTerm r lead t s).map = s.map := by
  unfold sendTerm; repeat' split
  all_goals simp
@[simp] theorem reached_map (r : Nat) (s : State) : (reached r s).map = s.map := by unfold reached; simp [ite_map]
@[simp] theorem stepReference_map (r : Nat) (s : State) : (stepReference r s).map = s.map := by unfold stepReference; simp
@[simp] theorem sinkLimit_map (r : Nat) (i : Int) (s : State) : (sinkLimit r i s).map = s.map := by unfold sinkLimit; simp [ite_map]
@[simp] theorem creaseLearn_map (r : Nat) (t : Nat) (s : State) : (creaseLearn r t s).map = s.map := by
  unfold creaseLearn; repeat' split
  all_goals simp
@[simp] theorem leaderSends_map (r : Nat) (lead : Nat) (s : State) : (leaderSends r lead s).map = s.map := by unfold leaderSends; simp
@[simp] theorem endTick_map (r : Nat) (lead : Nat) (t : Nat) (s : State) : (endTick r lead t s).map = s.map := by
  unfold endTick; repeat' split
  all_goals simp
@[simp] theorem leadTick_map (r : Nat) (lead : Nat) (t : Nat) (s : State) : (leadTick r lead t s).map = s.map := by
  unfold leadTick; repeat' split
  all_goals simp
@[simp] theorem releaseRail_map (r : Nat) (lead : Nat) (t : Nat) (s : State) : (releaseRail r lead t s).map = s.map := by
  unfold releaseRail; repeat' split
  all_goals simp
@[simp] theorem hubTick_map (r : Nat) (t : Nat) (s : State) : (hubTick r t s).map = s.map := by unfold hubTick; simp
@[simp] theorem creaseSpoil_map (r : Nat) (s : State) : (creaseSpoil r s).map = s.map := by
  unfold creaseSpoil; repeat' split
  all_goals simp
@[simp] theorem tickRail_map (r : Nat) (s : State) : (tickRail r s).map = s.map := by
  unfold tickRail; repeat' split
  all_goals simp [ite_map]
@[simp] theorem moveLevel_map (s : State) : (moveLevel s).map = s.map := by unfold moveLevel; simp [ite_map]
@[simp] theorem recordWake_map (src : Nat) (detail : Nat) (left : Nat) (s : State) : (recordWake src detail left s).map = s.map := by
  unfold recordWake; simp
@[simp] theorem checkBackup_map (s : State) : (checkBackup s).map = s.map := by unfold checkBackup; simp
@[simp] theorem bootBank_map (s : State) : (bootBank s).map = s.map := by unfold bootBank; simp [ite_map]
@[simp] theorem startEvents_map (revert : Bool) (s : State) : (startEvents revert s).map = s.map := by unfold startEvents; simp [ite_map]
@[simp] theorem setAgree_map (a : AgreeSt) (causes : Nat) (s : State) : (setAgree a causes s).map = s.map := by unfold setAgree; simp
@[simp] theorem startGathering_map (s : State) : (startGathering s).map = s.map := by unfold startGathering; simp [ite_map]
@[simp] theorem resetStuck_map (s : State) : (resetStuck s).map = s.map := by unfold resetStuck; simp [ite_map]

/-! ## `proto` -/

theorem ite_proto (k : Prop) [Decidable k] (s t : State) : (if k then s else t).proto = if k then s.proto else t.proto := apply_ite ..
theorem foldl_proto {α : Type} (f : State → α → State) (h : ∀ s x, (f s x).proto = s.proto) (l : List α) (s : State) :
    (l.foldl f s).proto = s.proto := by
  induction l generalizing s with
  | nil => rfl
  | cons x xs ih => rw [List.foldl_cons, ih, h]
@[simp] theorem sendWaitingNotices_proto (s : State) : (sendWaitingNotices s).proto = s.proto := by unfold sendWaitingNotices; simp
@[simp] theorem serveTemps_proto (s : State) : (serveTemps s).proto = s.proto := by unfold serveTemps; simp
@[simp] theorem joinTemp_proto (r : TempReq) (s : State) : (joinTemp r s).proto = s.proto := by unfold joinTemp; simp
@[simp] theorem requestTemp_proto (r : TempReq) (s : State) : (requestTemp r s).proto = s.proto := by unfold requestTemp; simp
@[simp] theorem modSeq_proto (q : Fin 8) (f : TSeq → TSeq) (s : State) : (modSeq q f s).proto = s.proto := by unfold modSeq; simp
@[simp] theorem countEvent_proto (before : Nat) (s : State) : (countEvent before s).proto = s.proto := by unfold countEvent; simp
@[simp] theorem trigger_proto (q : Fin 8) (tick : Nat) (s : State) : (trigger q tick s).proto = s.proto := by
  unfold trigger; simp [ite_proto]
@[simp] theorem post_proto (ms : List Msg) (s : State) : (post ms s).proto = s.proto := by unfold post; simp
@[simp] theorem recheckActive_proto (s : State) : (recheckActive s).proto = s.proto := by unfold recheckActive; simp
@[simp] theorem pulses_proto (es : List Nat) (s : State) : (pulses es s).proto = s.proto := by unfold pulses; simp [foldl_proto]
@[simp] theorem pgEvent_proto (r : Nat) (s : State) : (pgEvent r s).proto = s.proto := by unfold pgEvent; simp
@[simp] theorem targetEvent_proto (r : Nat) (s : State) : (targetEvent r s).proto = s.proto := by unfold targetEvent; simp
@[simp] theorem changeCells_proto (s : State) (f : Nat → Cell → Cell) : (changeCells s f).proto = s.proto := by
  unfold changeCells; simp [ite_proto]
@[simp] theorem changeMembers_proto (s : State) (r : Nat) (f : Nat → Cell → Cell) : (changeMembers s r f).proto = s.proto := by
  unfold changeMembers; simp
@[simp] theorem capture_proto (cause : Nat) (index : Nat) (s : State) : (capture cause index s).proto = s.proto := by
  unfold capture; simp [ite_proto]
@[simp] theorem enterDom_proto (d : DomSt) (s : State) : (enterDom d s).proto = s.proto := by
  unfold enterDom; repeat' split
  all_goals simp
@[simp] theorem cancelRestart_proto (s : State) : (cancelRestart s).proto = s.proto := by unfold cancelRestart; simp
@[simp] theorem enterLatched_proto (s : State) : (enterLatched s).proto = s.proto := by
  unfold enterLatched; repeat' split
  all_goals simp
@[simp] theorem domLoseVin_proto (s : State) : (domLoseVin s).proto = s.proto := by
  unfold domLoseVin; repeat' split
  all_goals simp
@[simp] theorem sendPhase_proto (r : Nat) (before : PhaseCtx) (s0 : State) : (sendPhase r before s0).proto = s0.proto := by
  unfold sendPhase; simp [ite_proto]
@[simp] theorem changePhase_proto (r : Nat) (f : PhaseCtx → PhaseCtx) (s : State) : (changePhase r f s).proto = s.proto := by
  unfold changePhase; simp
@[simp] theorem leaveRail_proto (r : Nat) (st : RailSt) (s : State) : (leaveRail r st s).proto = s.proto := by unfold leaveRail; simp
@[simp] theorem abortProbe_proto (s : State) : (abortProbe s).proto = s.proto := by unfold abortProbe; simp [ite_proto]
@[simp] theorem stopArming_proto (r : Nat) (s : State) : (stopArming r s).proto = s.proto := by unfold stopArming; simp
@[simp] theorem dropMembers_proto (r : Nat) (s : State) : (dropMembers r s).proto = s.proto := by unfold dropMembers; simp
@[simp] theorem abandonRail_proto (r : Nat) (s : State) : (abandonRail r s).proto = s.proto := by unfold abandonRail; simp
@[simp] theorem stopRail_proto (r : Nat) (imm : Bool) (s : State) : (stopRail r imm s).proto = s.proto := by
  unfold stopRail; dsimp only; repeat' split
  all_goals simp
@[simp] theorem assignRoles_proto (s : State) (r : Nat) (lead : Nat) (order : List Nat) : (assignRoles s r lead order).proto = s.proto := by
  unfold assignRoles; simp
@[simp] theorem beginRail_proto (r : Nat) (s : State) : (beginRail r s).proto = s.proto := by
  unfold beginRail; repeat' split
  all_goals simp
@[simp] theorem startRail_proto (r : Nat) (s : State) : (startRail r s).proto = s.proto := by
  unfold startRail; repeat' split
  all_goals simp
@[simp] theorem retarget_proto (r : Nat) (code : Nat) (s : State) : (retarget r code s).proto = s.proto := by
  unfold retarget; simp [ite_proto]
@[simp] theorem formIndex_proto (r : Nat) (s : State) : (formIndex r s).proto = s.proto := by unfold formIndex; simp [ite_proto]
@[simp] theorem nextUp_proto (k : Nat) (s : State) : (nextUp k s).proto = s.proto := by
  unfold nextUp; repeat' split
  all_goals simp
@[simp] theorem beginUp_proto (s : State) : (beginUp s).proto = s.proto := by
  unfold beginUp; repeat' split
  all_goals simp
@[simp] theorem enterRising_proto (s : State) : (enterRising s).proto = s.proto := by
  unfold enterRising; repeat' split
  all_goals simp
@[simp] theorem endRun_proto (s : State) : (endRun s).proto = s.proto := by
  unfold endRun; repeat' split
  all_goals simp
@[simp] theorem nextDown_proto (k : Nat) (s : State) : (nextDown k s).proto = s.proto := by
  unfold nextDown; repeat' split
  all_goals simp
@[simp] theorem beginDown_proto (s : State) : (beginDown s).proto = s.proto := by
  unfold beginDown; repeat' split
  all_goals simp
@[simp] theorem enterFalling_proto (latch : Bool) (s : State) : (enterFalling latch s).proto = s.proto := by
  unfold enterFalling; repeat' split
  all_goals simp
@[simp] theorem adoptAddress_proto (s : State) : (adoptAddress s).proto = s.proto := by
  unfold adoptAddress; repeat' split
  all_goals simp
@[simp] theorem changePhasing_proto (c : Fin 256) (f : Cell → Cell) (s : State) : (changePhasing c f s).proto = s.proto := by
  unfold changePhasing; simp
@[simp] theorem stepDetect_proto (r : Nat) (code : Int) (s : State) : (stepDetect r code s).proto = s.proto := by
  unfold stepDetect; simp [ite_proto]
@[simp] theorem configWord_proto (c : Fin 256) (m : Msg) (s : State) : (configWord c m s).proto = s.proto := by
  unfold configWord; repeat' split
  all_goals simp
@[simp] theorem clearCell_proto (c : Fin 256) (mask : Nat) (s : State) : (clearCell c mask s).proto = s.proto := by unfold clearCell; simp
@[simp] theorem clearClk_proto (mask : Nat) (s : State) : (clearClk mask s).proto = s.proto := by unfold clearClk; simp
@[simp] theorem clearLand_proto (mask : Nat) (s : State) : (clearLand mask s).proto = s.proto := by unfold clearLand; simp
@[simp] theorem clearSeq_proto (mask : Nat) (s : State) : (clearSeq mask s).proto = s.proto := by unfold clearSeq; simp
@[simp] theorem clearFw_proto (mask : Nat) (s : State) : (clearFw mask s).proto = s.proto := by unfold clearFw; simp
@[simp] theorem fuseChecks_proto (full : Bool) (s : State) : (fuseChecks full s).proto = s.proto := by unfold fuseChecks; simp [ite_proto]
@[simp] theorem writeMembership_proto (r : Nat) (s : State) : (writeMembership r s).proto = s.proto := by
  unfold writeMembership; simp [ite_proto]
@[simp] theorem copyMap_proto (s : State) : (copyMap s).proto = s.proto := by unfold copyMap; simp [foldl_proto]
@[simp] theorem startProbe_proto (s : State) : (startProbe s).proto = s.proto := by unfold startProbe; simp
@[simp] theorem overIsolate_proto (c : Fin 256) (s : State) : (overIsolate c s).proto = s.proto := by unfold overIsolate; simp [ite_proto]
@[simp] theorem restoreCell_proto (c : Fin 256) (s : State) : (restoreCell c s).proto = s.proto := by unfold restoreCell; simp
@[simp] theorem sendCurrents_proto (r : Nat) (s : State) : (sendCurrents r s).proto = s.proto := by unfold sendCurrents; simp
@[simp] theorem clearTerm_proto (lead : Nat) (s : State) : (clearTerm lead s).proto = s.proto := by unfold clearTerm; simp
@[simp] theorem sendTerm_proto (r : Nat) (lead : Nat) (t : Nat) (s : State) : (sendTerm r lead t s).proto = s.proto := by
  unfold sendTerm; repeat' split
  all_goals simp
@[simp] theorem reached_proto (r : Nat) (s : State) : (reached r s).proto = s.proto := by unfold reached; simp [ite_proto]
@[simp] theorem stepReference_proto (r : Nat) (s : State) : (stepReference r s).proto = s.proto := by unfold stepReference; simp
@[simp] theorem sinkLimit_proto (r : Nat) (i : Int) (s : State) : (sinkLimit r i s).proto = s.proto := by unfold sinkLimit; simp [ite_proto]
@[simp] theorem creaseLearn_proto (r : Nat) (t : Nat) (s : State) : (creaseLearn r t s).proto = s.proto := by
  unfold creaseLearn; repeat' split
  all_goals simp
@[simp] theorem leaderSends_proto (r : Nat) (lead : Nat) (s : State) : (leaderSends r lead s).proto = s.proto := by unfold leaderSends; simp
@[simp] theorem endTick_proto (r : Nat) (lead : Nat) (t : Nat) (s : State) : (endTick r lead t s).proto = s.proto := by
  unfold endTick; repeat' split
  all_goals simp
@[simp] theorem leadTick_proto (r : Nat) (lead : Nat) (t : Nat) (s : State) : (leadTick r lead t s).proto = s.proto := by
  unfold leadTick; repeat' split
  all_goals simp
@[simp] theorem releaseRail_proto (r : Nat) (lead : Nat) (t : Nat) (s : State) : (releaseRail r lead t s).proto = s.proto := by
  unfold releaseRail; repeat' split
  all_goals simp
@[simp] theorem hubTick_proto (r : Nat) (t : Nat) (s : State) : (hubTick r t s).proto = s.proto := by unfold hubTick; simp
@[simp] theorem creaseSpoil_proto (r : Nat) (s : State) : (creaseSpoil r s).proto = s.proto := by
  unfold creaseSpoil; repeat' split
  all_goals simp
@[simp] theorem tickRail_proto (r : Nat) (s : State) : (tickRail r s).proto = s.proto := by
  unfold tickRail; repeat' split
  all_goals simp [ite_proto]
@[simp] theorem moveLevel_proto (s : State) : (moveLevel s).proto = s.proto := by unfold moveLevel; simp [ite_proto]
@[simp] theorem modPort_proto (p : Port) (f : PortSt → PortSt) (s : State) : (modPort p f s).proto = s.proto := by unfold modPort; simp
@[simp] theorem countDrops_proto (n : Nat) (s : State) : (countDrops n s).proto = s.proto := by unfold countDrops; simp
@[simp] theorem setLink_proto (p : Port) (st : LinkSt) (s : State) : (setLink p st s).proto = s.proto := by
  unfold setLink; repeat' split
  all_goals simp [ite_proto]
@[simp] theorem powerDown_proto (p : Port) (s : State) : (powerDown p s).proto = s.proto := by
  unfold powerDown; repeat' split
  all_goals simp
@[simp] theorem setHold_proto (h : HoldSt) (s : State) : (setHold h s).proto = s.proto := by unfold setHold; simp [ite_proto]
@[simp] theorem holdOfPack_proto (before : State) (s : State) : (holdOfPack before s).proto = s.proto := by
  unfold holdOfPack; repeat' split
  all_goals simp
@[simp] theorem setPhase_proto (p : ChgPh) (s : State) : (setPhase p s).proto = s.proto := by
  unfold setPhase; repeat' split
  all_goals simp
@[simp] theorem chgIdle_proto (s : State) : (chgIdle s).proto = s.proto := by
  unfold chgIdle; repeat' split
  all_goals simp
@[simp] theorem judgeWarn_proto (evaluation : Bool) (s : State) : (judgeWarn evaluation s).proto = s.proto := by unfold judgeWarn; simp
@[simp] theorem setPwr_proto (x : PwrSt) (s : State) : (setPwr x s).proto = s.proto := by unfold setPwr; simp
@[simp] theorem enterAwake_proto (x : PwrSt) (s : State) : (enterAwake x s).proto = s.proto := by unfold enterAwake; simp
@[simp] theorem recordWake_proto (src : Nat) (detail : Nat) (left : Nat) (s : State) : (recordWake src detail left s).proto = s.proto := by
  unfold recordWake; simp
@[simp] theorem releaseAll_proto (s : State) : (releaseAll s).proto = s.proto := by unfold releaseAll; simp
@[simp] theorem disarmShip_proto (s : State) : (disarmShip s).proto = s.proto := by unfold disarmShip; simp
@[simp] theorem setDisc_proto (d : DiscSt) (s : State) : (setDisc d s).proto = s.proto := by unfold setDisc; simp
@[simp] theorem leaveTracking_proto (s : State) : (leaveTracking s).proto = s.proto := by unfold leaveTracking; simp [ite_proto]
@[simp] theorem restartDisc_proto (s : State) : (restartDisc s).proto = s.proto := by unfold restartDisc; simp [ite_proto]
@[simp] theorem clearSuspect_proto (s : State) : (clearSuspect s).proto = s.proto := by unfold clearSuspect; simp
@[simp] theorem applyRtc_proto (count : Nat) (s : State) : (applyRtc count s).proto = s.proto := by unfold applyRtc; simp
@[simp] theorem checkBackup_proto (s : State) : (checkBackup s).proto = s.proto := by unfold checkBackup; simp
@[simp] theorem ppsWrite_proto (p : List Byte) (s : State) : (ppsWrite p s).proto = s.proto := by unfold ppsWrite; simp [ite_proto]
@[simp] theorem bootBank_proto (s : State) : (bootBank s).proto = s.proto := by unfold bootBank; simp [ite_proto]
@[simp] theorem startEvents_proto (revert : Bool) (s : State) : (startEvents revert s).proto = s.proto := by
  unfold startEvents; simp [ite_proto]
@[simp] theorem setAgree_proto (a : AgreeSt) (causes : Nat) (s : State) : (setAgree a causes s).proto = s.proto := by unfold setAgree; simp
@[simp] theorem startGathering_proto (s : State) : (startGathering s).proto = s.proto := by unfold startGathering; simp [ite_proto]
@[simp] theorem beginFull_proto (cause : Nat) (s : State) : (beginFull cause s).proto = s.proto := by
  unfold beginFull; repeat' split
  all_goals simp
@[simp] theorem resetStuck_proto (s : State) : (resetStuck s).proto = s.proto := by unfold resetStuck; simp [ite_proto]
@[simp] theorem startWork_proto (s : State) : (startWork s).proto = s.proto := by unfold startWork; simp [ite_proto]

/-! ## `pwr` -/

theorem ite_pwr (k : Prop) [Decidable k] (s t : State) : (if k then s else t).pwr = if k then s.pwr else t.pwr := apply_ite ..
@[simp] theorem serveTemps_pwr (s : State) : (serveTemps s).pwr = s.pwr := by unfold serveTemps; simp
@[simp] theorem joinTemp_pwr (r : TempReq) (s : State) : (joinTemp r s).pwr = s.pwr := by unfold joinTemp; simp
@[simp] theorem requestTemp_pwr (r : TempReq) (s : State) : (requestTemp r s).pwr = s.pwr := by unfold requestTemp; simp
@[simp] theorem recheckActive_pwr (s : State) : (recheckActive s).pwr = s.pwr := by unfold recheckActive; simp
@[simp] theorem cancelRestart_pwr (s : State) : (cancelRestart s).pwr = s.pwr := by unfold cancelRestart; simp
@[simp] theorem moveLevel_pwr (s : State) : (moveLevel s).pwr = s.pwr := by unfold moveLevel; simp [ite_pwr]

/-! ## `rails` -/

theorem ite_rails (k : Prop) [Decidable k] (s t : State) : (if k then s else t).rails = if k then s.rails else t.rails := apply_ite ..
theorem foldl_rails {α : Type} (f : State → α → State) (h : ∀ s x, (f s x).rails = s.rails) (l : List α) (s : State) :
    (l.foldl f s).rails = s.rails := by
  induction l generalizing s with
  | nil => rfl
  | cons x xs ih => rw [List.foldl_cons, ih, h]
@[simp] theorem losePower_rails (s : State) : (losePower s).rails = s.rails := by unfold losePower; simp
@[simp] theorem sendWaitingNotices_rails (s : State) : (sendWaitingNotices s).rails = s.rails := by unfold sendWaitingNotices; simp
@[simp] theorem releaseLines_rails (s : State) : (releaseLines s).rails = s.rails := by unfold releaseLines; simp [ite_rails, foldl_rails]
@[simp] theorem serveTemps_rails (s : State) : (serveTemps s).rails = s.rails := by unfold serveTemps; simp
@[simp] theorem joinTemp_rails (r : TempReq) (s : State) : (joinTemp r s).rails = s.rails := by unfold joinTemp; simp
@[simp] theorem requestTemp_rails (r : TempReq) (s : State) : (requestTemp r s).rails = s.rails := by unfold requestTemp; simp
@[simp] theorem modSeq_rails (q : Fin 8) (f : TSeq → TSeq) (s : State) : (modSeq q f s).rails = s.rails := by unfold modSeq; simp
@[simp] theorem countEvent_rails (before : Nat) (s : State) : (countEvent before s).rails = s.rails := by unfold countEvent; simp
@[simp] theorem post_rails (ms : List Msg) (s : State) : (post ms s).rails = s.rails := by unfold post; simp
@[simp] theorem spurEval_rails (s : State) : (spurEval s).rails = s.rails := by unfold spurEval; simp [ite_rails]
@[simp] theorem recheckActive_rails (s : State) : (recheckActive s).rails = s.rails := by unfold recheckActive; simp
@[simp] theorem pulses_rails (es : List Nat) (s : State) : (pulses es s).rails = s.rails := by unfold pulses; simp [foldl_rails]
@[simp] theorem pgEvent_rails (r : Nat) (s : State) : (pgEvent r s).rails = s.rails := by unfold pgEvent; simp
@[simp] theorem changeCell_rails (s : State) (c : Fin 256) (f : Cell → Cell) : (changeCell s c f).rails = s.rails := by
  unfold changeCell; simp [ite_rails]
@[simp] theorem changeCells_rails (s : State) (f : Nat → Cell → Cell) : (changeCells s f).rails = s.rails := by
  unfold changeCells; simp [ite_rails]
@[simp] theorem changeMembers_rails (s : State) (r : Nat) (f : Nat → Cell → Cell) : (changeMembers s r f).rails = s.rails := by
  unfold changeMembers; simp
@[simp] theorem capture_rails (cause : Nat) (index : Nat) (s : State) : (capture cause index s).rails = s.rails := by
  unfold capture; simp [ite_rails]
@[simp] theorem sendEcho_rails (kind : Nat) (seq : Nat) (s : State) : (sendEcho kind seq s).rails = s.rails := by
  unfold sendEcho; simp [ite_rails]
@[simp] theorem enterDom_rails (d : DomSt) (s : State) : (enterDom d s).rails = s.rails := by
  unfold enterDom; repeat' split
  all_goals simp
@[simp] theorem cancelRestart_rails (s : State) : (cancelRestart s).rails = s.rails := by unfold cancelRestart; simp
@[simp] theorem enterLatched_rails (s : State) : (enterLatched s).rails = s.rails := by
  unfold enterLatched; repeat' split
  all_goals simp
@[simp] theorem domLoseVin_rails (s : State) : (domLoseVin s).rails = s.rails := by
  unfold domLoseVin; repeat' split
  all_goals simp
@[simp] theorem abortProbe_rails (s : State) : (abortProbe s).rails = s.rails := by unfold abortProbe; simp [ite_rails]
@[simp] theorem stopAllArming_rails (s : State) : (stopAllArming s).rails = s.rails := by unfold stopAllArming; simp
@[simp] theorem offEvents_rails (before : State) (after : State) : (offEvents before after).rails = after.rails := by unfold offEvents; simp
@[simp] theorem assignRoles_rails (s : State) (r : Nat) (lead : Nat) (order : List Nat) : (assignRoles s r lead order).rails = s.rails := by
  unfold assignRoles; simp
@[simp] theorem nextUp_rails (k : Nat) (s : State) : (nextUp k s).rails = s.rails := by
  unfold nextUp; repeat' split
  all_goals simp
@[simp] theorem beginUp_rails (s : State) : (beginUp s).rails = s.rails := by
  unfold beginUp; repeat' split
  all_goals simp
@[simp] theorem endRun_rails (s : State) : (endRun s).rails = s.rails := by
  unfold endRun; repeat' split
  all_goals simp
@[simp] theorem nextDown_rails (k : Nat) (s : State) : (nextDown k s).rails = s.rails := by
  unfold nextDown; repeat' split
  all_goals simp
@[simp] theorem beginDown_rails (s : State) : (beginDown s).rails = s.rails := by
  unfold beginDown; repeat' split
  all_goals simp
@[simp] theorem discardCommands_rails (s : State) : (discardCommands s).rails = s.rails := by unfold discardCommands; simp
@[simp] theorem adoptAddress_rails (s : State) : (adoptAddress s).rails = s.rails := by
  unfold adoptAddress; repeat' split
  all_goals simp
@[simp] theorem fuseChecks_rails (full : Bool) (s : State) : (fuseChecks full s).rails = s.rails := by unfold fuseChecks; simp [ite_rails]
@[simp] theorem cutBurn_rails (job : BurnJob) (s : State) : (cutBurn job s).rails = s.rails := by unfold cutBurn; simp
@[simp] theorem cutShort_rails (s : State) : (cutShort s).rails = s.rails := by
  unfold cutShort; repeat' split
  all_goals simp
@[simp] theorem startProbe_rails (s : State) : (startProbe s).rails = s.rails := by unfold startProbe; simp
@[simp] theorem overIsolate_rails (c : Fin 256) (s : State) : (overIsolate c s).rails = s.rails := by unfold overIsolate; simp [ite_rails]
@[simp] theorem restoreCell_rails (c : Fin 256) (s : State) : (restoreCell c s).rails = s.rails := by unfold restoreCell; simp
@[simp] theorem creaseLearn_rails (r : Nat) (t : Nat) (s : State) : (creaseLearn r t s).rails = s.rails := by
  unfold creaseLearn; repeat' split
  all_goals simp
@[simp] theorem leaderSends_rails (r : Nat) (lead : Nat) (s : State) : (leaderSends r lead s).rails = s.rails := by unfold leaderSends; simp
@[simp] theorem creaseSpoil_rails (r : Nat) (s : State) : (creaseSpoil r s).rails = s.rails := by
  unfold creaseSpoil; repeat' split
  all_goals simp
@[simp] theorem holdOffset_rails (s : State) : (holdOffset s).rails = s.rails := by unfold holdOffset; simp
@[simp] theorem updateU_rails (s : State) : (updateU s).rails = s.rails := by unfold updateU; simp [ite_rails]
@[simp] theorem setTb_rails (st : TbSt) (s : State) : (setTb st s).rails = s.rails := by unfold setTb; simp
@[simp] theorem setRef_rails (st : RefSt) (left : Nat) (s : State) : (setRef st left s).rails = s.rails := by unfold setRef; simp
@[simp] theorem startQual_rails (s : State) : (startQual s).rails = s.rails := by unfold startQual; simp
@[simp] theorem moveLevel_rails (s : State) : (moveLevel s).rails = s.rails := by unfold moveLevel; simp [ite_rails]
@[simp] theorem stopManager_rails (s : State) : (stopManager s).rails = s.rails := by
  unfold stopManager; repeat' split
  all_goals simp [ite_rails]
@[simp] theorem modPort_rails (p : Port) (f : PortSt → PortSt) (s : State) : (modPort p f s).rails = s.rails := by unfold modPort; simp
@[simp] theorem countDrops_rails (n : Nat) (s : State) : (countDrops n s).rails = s.rails := by unfold countDrops; simp
@[simp] theorem setLink_rails (p : Port) (st : LinkSt) (s : State) : (setLink p st s).rails = s.rails := by
  unfold setLink; repeat' split
  all_goals simp [ite_rails]
@[simp] theorem powerDown_rails (p : Port) (s : State) : (powerDown p s).rails = s.rails := by
  unfold powerDown; repeat' split
  all_goals simp
@[simp] theorem modInput_rails (k : Fin 64) (f : SupIn → SupIn) (s : State) : (modInput k f s).rails = s.rails := by unfold modInput; simp
@[simp] theorem supRecord_rails (s : State) (x : Nat × Nat × Nat × Nat) : (supRecord s x).rails = s.rails := by unfold supRecord; simp
@[simp] theorem takeSupConfig_rails (s : State) : (takeSupConfig s).rails = s.rails := by
  unfold takeSupConfig; repeat' split
  all_goals simp [foldl_rails]
@[simp] theorem modStream_rails (k : Fin 4) (f : Stream → Stream) (s : State) : (modStream k f s).rails = s.rails := by
  unfold modStream; simp
@[simp] theorem sendStream_rails (k : Fin 4) (s : State) : (sendStream k s).rails = s.rails := by unfold sendStream; simp [ite_rails]
@[simp] theorem feedStream_rails (q : Fin 8) (k : Fin 4) (s : State) : (feedStream q k s).rails = s.rails := by
  unfold feedStream; simp [ite_rails]
@[simp] theorem freeConvs_rails (q : Fin 8) (s : State) : (freeConvs q s).rails = s.rails := by unfold freeConvs; simp
@[simp] theorem endRunOf_rails (q : Fin 8) (s : State) : (endRunOf q s).rails = s.rails := by unfold endRunOf; simp [foldl_rails]
@[simp] theorem readNow_rails (ch : Nat) (avg : Nat) (s : State) : (readNow ch avg s).1.rails = s.rails := by unfold readNow; simp
@[simp] theorem serveSystem_rails (s : State) : (serveSystem s).rails = s.rails := by
  unfold serveSystem; repeat' split
  all_goals simp
@[simp] theorem setHold_rails (h : HoldSt) (s : State) : (setHold h s).rails = s.rails := by unfold setHold; simp [ite_rails]
@[simp] theorem holdOffVin_rails (s : State) : (holdOffVin s).rails = s.rails := by unfold holdOffVin; simp [ite_rails]
@[simp] theorem holdOfPack_rails (before : State) (s : State) : (holdOfPack before s).rails = s.rails := by
  unfold holdOfPack; repeat' split
  all_goals simp
@[simp] theorem setPhase_rails (p : ChgPh) (s : State) : (setPhase p s).rails = s.rails := by
  unfold setPhase; repeat' split
  all_goals simp
@[simp] theorem chgIdle_rails (s : State) : (chgIdle s).rails = s.rails := by
  unfold chgIdle; repeat' split
  all_goals simp
@[simp] theorem judgeSusp_rails (judgeTemp : Bool) (s : State) : (judgeSusp judgeTemp s).rails = s.rails := by
  unfold judgeSusp; repeat' split
  all_goals simp [ite_rails]
@[simp] theorem powerCheck_rails (s : State) : (powerCheck s).rails = s.rails := by
  unfold powerCheck; repeat' split
  all_goals simp
@[simp] theorem reselect_rails (s : State) : (reselect s).rails = s.rails := by
  unfold reselect; repeat' split
  all_goals simp [ite_rails]
@[simp] theorem judgeWarn_rails (evaluation : Bool) (s : State) : (judgeWarn evaluation s).rails = s.rails := by unfold judgeWarn; simp
@[simp] theorem requestSchedule_rails (s : State) : (requestSchedule s).rails = s.rails := by unfold requestSchedule; simp [foldl_rails]
@[simp] theorem setPwr_rails (x : PwrSt) (s : State) : (setPwr x s).rails = s.rails := by unfold setPwr; simp
@[simp] theorem enterAwake_rails (x : PwrSt) (s : State) : (enterAwake x s).rails = s.rails := by unfold enterAwake; simp
@[simp] theorem recordWake_rails (src : Nat) (detail : Nat) (left : Nat) (s : State) : (recordWake src detail left s).rails = s.rails := by
  unfold recordWake; simp
@[simp] theorem releaseAll_rails (s : State) : (releaseAll s).rails = s.rails := by unfold releaseAll; simp
@[simp] theorem leaveHibernate_rails (s : State) : (leaveHibernate s).rails = s.rails := by unfold leaveHibernate; simp [ite_rails]
@[simp] theorem disarmShip_rails (s : State) : (disarmShip s).rails = s.rails := by unfold disarmShip; simp
@[simp] theorem fireAlarm_rails (k : Fin 2) (s : State) : (fireAlarm k s).rails = s.rails := by unfold fireAlarm; simp
@[simp] theorem wrapOver_rails (old : Nat) (s : State) : (wrapOver old s).rails = s.rails := by unfold wrapOver; simp [ite_rails]
@[simp] theorem stepCount_rails (d : Int) (s : State) : (stepCount d s).rails = s.rails := by unfold stepCount; simp [ite_rails]
@[simp] theorem setDisc_rails (d : DiscSt) (s : State) : (setDisc d s).rails = s.rails := by unfold setDisc; simp
@[simp] theorem leaveTracking_rails (s : State) : (leaveTracking s).rails = s.rails := by unfold leaveTracking; simp [ite_rails]
@[simp] theorem restartDisc_rails (s : State) : (restartDisc s).rails = s.rails := by unfold restartDisc; simp [ite_rails]
@[simp] theorem clearSuspect_rails (s : State) : (clearSuspect s).rails = s.rails := by unfold clearSuspect; simp
@[simp] theorem applyRtc_rails (count : Nat) (s : State) : (applyRtc count s).rails = s.rails := by unfold applyRtc; simp
@[simp] theorem ppsStepNow_rails (s : State) : (ppsStepNow s).rails = s.rails := by unfold ppsStepNow; simp
@[simp] theorem enterTracking_rails (s : State) : (enterTracking s).rails = s.rails := by unfold enterTracking; simp [ite_rails]
@[simp] theorem acquireEdge_rails (s : State) : (acquireEdge s).rails = s.rails := by unfold acquireEdge; simp [ite_rails]
@[simp] theorem trackEdge_rails (s : State) : (trackEdge s).rails = s.rails := by unfold trackEdge; simp [ite_rails]
@[simp] theorem acceptEdge_rails (s : State) : (acceptEdge s).rails = s.rails := by
  unfold acceptEdge; repeat' split
  all_goals simp
@[simp] theorem checkBackup_rails (s : State) : (checkBackup s).rails = s.rails := by unfold checkBackup; simp
@[simp] theorem ppsWrite_rails (p : List Byte) (s : State) : (ppsWrite p s).rails = s.rails := by unfold ppsWrite; simp [ite_rails]
@[simp] theorem bootBank_rails (s : State) : (bootBank s).rails = s.rails := by unfold bootBank; simp [ite_rails]
@[simp] theorem startEvents_rails (revert : Bool) (s : State) : (startEvents revert s).rails = s.rails := by
  unfold startEvents; simp [ite_rails]
@[simp] theorem domainStep_rails (d : Int) (s : State) : (domainStep d s).rails = s.rails := by unfold domainStep; simp
@[simp] theorem setAgree_rails (a : AgreeSt) (causes : Nat) (s : State) : (setAgree a causes s).rails = s.rails := by unfold setAgree; simp
@[simp] theorem evalAgreement_rails (s : State) : (evalAgreement s).rails = s.rails := by
  unfold evalAgreement; repeat' split
  all_goals simp
@[simp] theorem startGathering_rails (s : State) : (startGathering s).rails = s.rails := by unfold startGathering; simp [ite_rails]
@[simp] theorem resetStuck_rails (s : State) : (resetStuck s).rails = s.rails := by unfold resetStuck; simp [ite_rails]
@[simp] theorem startWork_rails (s : State) : (startWork s).rails = s.rails := by unfold startWork; simp [ite_rails]

/-! ## `seam` -/

theorem ite_seam (k : Prop) [Decidable k] (s t : State) : (if k then s else t).seam = if k then s.seam else t.seam := apply_ite ..
@[simp] theorem recheckActive_seam (s : State) : (recheckActive s).seam = s.seam := by unfold recheckActive; simp
@[simp] theorem discardCommands_seam (s : State) : (discardCommands s).seam = s.seam := by unfold discardCommands; simp
@[simp] theorem cutBurn_seam (job : BurnJob) (s : State) : (cutBurn job s).seam = s.seam := by unfold cutBurn; simp
@[simp] theorem cutShort_seam (s : State) : (cutShort s).seam = s.seam := by
  unfold cutShort; repeat' split
  all_goals simp
@[simp] theorem moveLevel_seam (s : State) : (moveLevel s).seam = s.seam := by unfold moveLevel; simp [ite_seam]
@[simp] theorem stopManager_seam (s : State) : (stopManager s).seam = s.seam := by
  unfold stopManager; repeat' split
  all_goals simp [ite_seam]
@[simp] theorem recordWake_seam (src : Nat) (detail : Nat) (left : Nat) (s : State) : (recordWake src detail left s).seam = s.seam := by
  unfold recordWake; simp
@[simp] theorem checkBackup_seam (s : State) : (checkBackup s).seam = s.seam := by unfold checkBackup; simp
@[simp] theorem bootBank_seam (s : State) : (bootBank s).seam = s.seam := by unfold bootBank; simp [ite_seam]

/-! ## `sup` -/

theorem ite_sup (k : Prop) [Decidable k] (s t : State) : (if k then s else t).sup = if k then s.sup else t.sup := apply_ite ..
theorem foldl_sup {α : Type} (f : State → α → State) (h : ∀ s x, (f s x).sup = s.sup) (l : List α) (s : State) :
    (l.foldl f s).sup = s.sup := by
  induction l generalizing s with
  | nil => rfl
  | cons x xs ih => rw [List.foldl_cons, ih, h]
@[simp] theorem holdSystem_sup (ch : Nat) (value : Int) (s : State) : (holdSystem ch value s).sup = s.sup := by unfold holdSystem; simp
@[simp] theorem post_sup (ms : List Msg) (s : State) : (post ms s).sup = s.sup := by unfold post; simp
@[simp] theorem spurEval_sup (s : State) : (spurEval s).sup = s.sup := by unfold spurEval; simp [ite_sup]
@[simp] theorem recheckActive_sup (s : State) : (recheckActive s).sup = s.sup := by unfold recheckActive; simp
@[simp] theorem pulses_sup (es : List Nat) (s : State) : (pulses es s).sup = s.sup := by unfold pulses; simp [foldl_sup]
@[simp] theorem pgEvent_sup (r : Nat) (s : State) : (pgEvent r s).sup = s.sup := by unfold pgEvent; simp
@[simp] theorem changeCells_sup (s : State) (f : Nat → Cell → Cell) : (changeCells s f).sup = s.sup := by unfold changeCells; simp [ite_sup]
@[simp] theorem changeMembers_sup (s : State) (r : Nat) (f : Nat → Cell → Cell) : (changeMembers s r f).sup = s.sup := by
  unfold changeMembers; simp
@[simp] theorem sendEcho_sup (kind : Nat) (seq : Nat) (s : State) : (sendEcho kind seq s).sup = s.sup := by unfold sendEcho; simp [ite_sup]
@[simp] theorem cancelRestart_sup (s : State) : (cancelRestart s).sup = s.sup := by unfold cancelRestart; simp
@[simp] theorem sendPhase_sup (r : Nat) (before : PhaseCtx) (s0 : State) : (sendPhase r before s0).sup = s0.sup := by
  unfold sendPhase; simp [ite_sup]
@[simp] theorem leaveRails_sup (out : Rail → Bool) (st : RailSt) (s : State) : (leaveRails out st s).sup = s.sup := by
  unfold leaveRails; simp [foldl_sup]
@[simp] theorem leaveRail_sup (r : Nat) (st : RailSt) (s : State) : (leaveRail r st s).sup = s.sup := by unfold leaveRail; simp
@[simp] theorem abortProbe_sup (s : State) : (abortProbe s).sup = s.sup := by unfold abortProbe; simp [ite_sup]
@[simp] theorem stopAllArming_sup (s : State) : (stopAllArming s).sup = s.sup := by unfold stopAllArming; simp
@[simp] theorem stopArming_sup (r : Nat) (s : State) : (stopArming r s).sup = s.sup := by unfold stopArming; simp
@[simp] theorem clearProt_sup (r : Nat) (mask : Nat) (s : State) : (clearProt r mask s).sup = s.sup := by unfold clearProt; simp [ite_sup]
@[simp] theorem autoClear_sup (r : Nat) (s : State) : (autoClear r s).sup = s.sup := by unfold autoClear; simp [ite_sup]
@[simp] theorem skipScan_sup (s : State) : (skipScan s).sup = s.sup := by unfold skipScan; simp

/-! ## `therm` -/

theorem ite_therm (k : Prop) [Decidable k] (s t : State) : (if k then s else t).therm = if k then s.therm else t.therm := apply_ite ..
theorem foldl_therm {α : Type} (f : State → α → State) (h : ∀ s x, (f s x).therm = s.therm) (l : List α) (s : State) :
    (l.foldl f s).therm = s.therm := by
  induction l generalizing s with
  | nil => rfl
  | cons x xs ih => rw [List.foldl_cons, ih, h]
@[simp] theorem losePower_therm (s : State) : (losePower s).therm = s.therm := by unfold losePower; simp
@[simp] theorem sendWaitingNotices_therm (s : State) : (sendWaitingNotices s).therm = s.therm := by unfold sendWaitingNotices; simp
@[simp] theorem post_therm (ms : List Msg) (s : State) : (post ms s).therm = s.therm := by unfold post; simp
@[simp] theorem spurEval_therm (s : State) : (spurEval s).therm = s.therm := by unfold spurEval; simp [ite_therm]
@[simp] theorem recheckActive_therm (s : State) : (recheckActive s).therm = s.therm := by unfold recheckActive; simp
@[simp] theorem pulses_therm (es : List Nat) (s : State) : (pulses es s).therm = s.therm := by unfold pulses; simp [foldl_therm]
@[simp] theorem pgEvent_therm (r : Nat) (s : State) : (pgEvent r s).therm = s.therm := by unfold pgEvent; simp
@[simp] theorem changeCell_therm (s : State) (c : Fin 256) (f : Cell → Cell) : (changeCell s c f).therm = s.therm := by
  unfold changeCell; simp [ite_therm]
@[simp] theorem changeCells_therm (s : State) (f : Nat → Cell → Cell) : (changeCells s f).therm = s.therm := by
  unfold changeCells; simp [ite_therm]
@[simp] theorem changeMembers_therm (s : State) (r : Nat) (f : Nat → Cell → Cell) : (changeMembers s r f).therm = s.therm := by
  unfold changeMembers; simp
@[simp] theorem capture_therm (cause : Nat) (index : Nat) (s : State) : (capture cause index s).therm = s.therm := by
  unfold capture; simp [ite_therm]
@[simp] theorem sendEcho_therm (kind : Nat) (seq : Nat) (s : State) : (sendEcho kind seq s).therm = s.therm := by
  unfold sendEcho; simp [ite_therm]
@[simp] theorem enterDom_therm (d : DomSt) (s : State) : (enterDom d s).therm = s.therm := by
  unfold enterDom; repeat' split
  all_goals simp
@[simp] theorem cancelRestart_therm (s : State) : (cancelRestart s).therm = s.therm := by unfold cancelRestart; simp
@[simp] theorem enterLatched_therm (s : State) : (enterLatched s).therm = s.therm := by
  unfold enterLatched; repeat' split
  all_goals simp
@[simp] theorem domLoseVin_therm (s : State) : (domLoseVin s).therm = s.therm := by
  unfold domLoseVin; repeat' split
  all_goals simp
@[simp] theorem sendPhase_therm (r : Nat) (before : PhaseCtx) (s0 : State) : (sendPhase r before s0).therm = s0.therm := by
  unfold sendPhase; simp [ite_therm]
@[simp] theorem leaveRails_therm (out : Rail → Bool) (st : RailSt) (s : State) : (leaveRails out st s).therm = s.therm := by
  unfold leaveRails; simp [foldl_therm]
@[simp] theorem leaveRail_therm (r : Nat) (st : RailSt) (s : State) : (leaveRail r st s).therm = s.therm := by unfold leaveRail; simp
@[simp] theorem abortProbe_therm (s : State) : (abortProbe s).therm = s.therm := by unfold abortProbe; simp [ite_therm]
@[simp] theorem stopAllArming_therm (s : State) : (stopAllArming s).therm = s.therm := by unfold stopAllArming; simp
@[simp] theorem stopArming_therm (r : Nat) (s : State) : (stopArming r s).therm = s.therm := by unfold stopArming; simp
@[simp] theorem shutOff_therm (s : State) : (shutOff s).therm = s.therm := by
  unfold shutOff; repeat' split
  all_goals simp
@[simp] theorem faultRun_therm (index : Nat) (s : State) : (faultRun index s).therm = s.therm := by
  unfold faultRun; repeat' split
  all_goals simp
@[simp] theorem offEvents_therm (before : State) (after : State) : (offEvents before after).therm = after.therm := by unfold offEvents; simp
@[simp] theorem faultConfined_therm (r : Nat) (s : State) : (faultConfined r s).therm = s.therm := by unfold faultConfined; simp
@[simp] theorem railFault_therm (r : Nat) (ov : Bool) (s : State) : (railFault r ov s).therm = s.therm := by
  unfold railFault; repeat' split
  all_goals simp
@[simp] theorem assignRoles_therm (s : State) (r : Nat) (lead : Nat) (order : List Nat) : (assignRoles s r lead order).therm = s.therm := by
  unfold assignRoles; simp
@[simp] theorem beginRail_therm (r : Nat) (s : State) : (beginRail r s).therm = s.therm := by
  unfold beginRail; repeat' split
  all_goals simp
@[simp] theorem countedFall_therm (r : Nat) (s : State) : (countedFall r s).therm = s.therm := by unfold countedFall; simp [ite_therm]
@[simp] theorem pgChange_therm (r : Fin 48) (f : Rail → Rail) (s : State) : (pgChange r f s).therm = s.therm := by
  unfold pgChange; simp [ite_therm]
@[simp] theorem endRun_therm (s : State) : (endRun s).therm = s.therm := by
  unfold endRun; repeat' split
  all_goals simp
@[simp] theorem nextDown_therm (k : Nat) (s : State) : (nextDown k s).therm = s.therm := by
  unfold nextDown; repeat' split
  all_goals simp
@[simp] theorem beginDown_therm (s : State) : (beginDown s).therm = s.therm := by
  unfold beginDown; repeat' split
  all_goals simp
@[simp] theorem enterFalling_therm (latch : Bool) (s : State) : (enterFalling latch s).therm = s.therm := by
  unfold enterFalling; repeat' split
  all_goals simp
@[simp] theorem discardCommands_therm (s : State) : (discardCommands s).therm = s.therm := by unfold discardCommands; simp
@[simp] theorem cutBurn_therm (job : BurnJob) (s : State) : (cutBurn job s).therm = s.therm := by unfold cutBurn; simp
@[simp] theorem cutShort_therm (s : State) : (cutShort s).therm = s.therm := by
  unfold cutShort; repeat' split
  all_goals simp
@[simp] theorem stopManager_therm (s : State) : (stopManager s).therm = s.therm := by
  unfold stopManager; repeat' split
  all_goals simp [ite_therm]
@[simp] theorem inputFault_therm (k : Nat) (s : State) : (inputFault k s).therm = s.therm := by
  unfold inputFault; repeat' split
  all_goals simp
@[simp] theorem judge_therm (k : Fin 64) (s : State) : (judge k s).therm = s.therm := by
  unfold judge; repeat' split
  all_goals simp
@[simp] theorem setHold_therm (h : HoldSt) (s : State) : (setHold h s).therm = s.therm := by unfold setHold; simp [ite_therm]
@[simp] theorem holdOffVin_therm (s : State) : (holdOffVin s).therm = s.therm := by unfold holdOffVin; simp [ite_therm]
@[simp] theorem powerCheck_therm (s : State) : (powerCheck s).therm = s.therm := by
  unfold powerCheck; repeat' split
  all_goals simp
@[simp] theorem stopSwitching_therm (s : State) : (stopSwitching s).therm = s.therm := by
  unfold stopSwitching; repeat' split
  all_goals simp
@[simp] theorem startEvents_therm (revert : Bool) (s : State) : (startEvents revert s).therm = s.therm := by
  unfold startEvents; simp [ite_therm]
@[simp] theorem setAgree_therm (a : AgreeSt) (causes : Nat) (s : State) : (setAgree a causes s).therm = s.therm := by unfold setAgree; simp
@[simp] theorem startGathering_therm (s : State) : (startGathering s).therm = s.therm := by unfold startGathering; simp [ite_therm]
@[simp] theorem resetStuck_therm (s : State) : (resetStuck s).therm = s.therm := by unfold resetStuck; simp [ite_therm]

/-! ## `tlm` -/

theorem ite_tlm (k : Prop) [Decidable k] (s t : State) : (if k then s else t).tlm = if k then s.tlm else t.tlm := apply_ite ..
theorem foldl_tlm {α : Type} (f : State → α → State) (h : ∀ s x, (f s x).tlm = s.tlm) (l : List α) (s : State) :
    (l.foldl f s).tlm = s.tlm := by
  induction l generalizing s with
  | nil => rfl
  | cons x xs ih => rw [List.foldl_cons, ih, h]
@[simp] theorem sendWaitingNotices_tlm (s : State) : (sendWaitingNotices s).tlm = s.tlm := by unfold sendWaitingNotices; simp
@[simp] theorem serveTemps_tlm (s : State) : (serveTemps s).tlm = s.tlm := by unfold serveTemps; simp
@[simp] theorem countEvent_tlm (before : Nat) (s : State) : (countEvent before s).tlm = s.tlm := by unfold countEvent; simp
@[simp] theorem spurEval_tlm (s : State) : (spurEval s).tlm = s.tlm := by unfold spurEval; simp [ite_tlm]
@[simp] theorem pulses_tlm (es : List Nat) (s : State) : (pulses es s).tlm = s.tlm := by unfold pulses; simp [foldl_tlm]
@[simp] theorem changeCells_tlm (s : State) (f : Nat → Cell → Cell) : (changeCells s f).tlm = s.tlm := by unfold changeCells; simp [ite_tlm]
@[simp] theorem cancelRestart_tlm (s : State) : (cancelRestart s).tlm = s.tlm := by unfold cancelRestart; simp
@[simp] theorem fuseChecks_tlm (full : Bool) (s : State) : (fuseChecks full s).tlm = s.tlm := by unfold fuseChecks; simp [ite_tlm]
@[simp] theorem moveLevel_tlm (s : State) : (moveLevel s).tlm = s.tlm := by unfold moveLevel; simp [ite_tlm]
@[simp] theorem checkBackup_tlm (s : State) : (checkBackup s).tlm = s.tlm := by unfold checkBackup; simp
@[simp] theorem bootBank_tlm (s : State) : (bootBank s).tlm = s.tlm := by unfold bootBank; simp [ite_tlm]
@[simp] theorem startEvents_tlm (revert : Bool) (s : State) : (startEvents revert s).tlm = s.tlm := by unfold startEvents; simp [ite_tlm]
@[simp] theorem setAgree_tlm (a : AgreeSt) (causes : Nat) (s : State) : (setAgree a causes s).tlm = s.tlm := by unfold setAgree; simp
@[simp] theorem startGathering_tlm (s : State) : (startGathering s).tlm = s.tlm := by unfold startGathering; simp [ite_tlm]
@[simp] theorem resetStuck_tlm (s : State) : (resetStuck s).tlm = s.tlm := by unfold resetStuck; simp [ite_tlm]

end Sys2Proof.Machine
end

section
/-! PROOF. The rail map and the tack probe: staging, applying and storing a map, the start of a probe, its looks, slots and end (R71,
R83 to R94). -/

namespace Sys2Proof.Machine

theorem fin256_val (n : Fin 256) : fin256 n.val = n := by simp [fin256]

theorem fieldAt_one (p : List Byte) (k : Nat) : fieldAt p k 1 = byteAt p k := by
  unfold fieldAt byteAt
  rw [List.getD_eq_getElem?_getD, ← List.head?_drop]
  cases p.drop k with
  | nil => rfl
  | cons b bs => simp [leNat]

theorem mem_upto {n k : Nat} : k ∈ upto n ↔ k < n := List.mem_range

/-! ## The staged map -/

theorem stageEntries_only (first : Nat) (es : List MapEntry) (s : State) :
    stageEntries first es s = { s with map := { s.map with
      staged := (stageEntries first es s).map.staged, stagedChk := (stageEntries first es s).map.stagedChk } } := rfl

theorem stageEntries_staged (first : Nat) (es : List MapEntry) (s : State) (r : Fin 48) :
    (stageEntries first es s).map.staged[r] =
      if first ≤ r.val ∧ r.val < first + es.length then es.getD (r.val - first) s.map.staged[r] else s.map.staged[r] :=
  mapIdx_get ..

theorem stageEntries_chk (first : Nat) (es : List MapEntry) (s : State) (r : Fin 48) :
    (stageEntries first es s).map.stagedChk[r] = checkCode s (stageEntries first es s).map.staged r.val :=
  mapIdx_get _ _ r

theorem getD_map_upto {α : Type} (f : Nat → α) (n k : Nat) (d : α) (h : k < n) : ((upto n).map f).getD k d = f k := by
  simp [upto, List.getD_eq_getElem?_getD, h]

theorem railmapSetOp_paramCheck {p : List Byte} (h2 : 2 ≤ p.length) (h0 : byteAt p 0 ≤ 47) (h1 : 1 ≤ byteAt p 1) (h12 : byteAt p 1 ≤ 12)
    (hsum : byteAt p 0 + byteAt p 1 ≤ 48) (hl : p.length = 2 + 40 * byteAt p 1) : railmapSetOp.paramCheck 2 p = none := by
  have hb : rangeBad p 0 1 12 = none := by
    simp [rangeBad, firstBad, fieldAt_one, h0, h1, h12, Nat.not_lt.mpr hsum]
  have hlim : ¬ (496 < p.length) := by omega
  have hat : ¬ (p.length ≤ 1) := by omega
  simp [OpSpec.paramCheck, railmapSetOp, plenLimit, Plen.expected, hlim, hat, ← hl, hb]

/-! ## The map in force -/

theorem mapState_same {m : MapState} (h : m.staged = m.active) : mapState m = 0 := if_pos h

theorem mapState_bad {m : MapState} (h : m.staged ≠ m.active) (hc : ∃ r : Fin 48, m.stagedChk[r] ≠ 0) : mapState m = 2 := by
  obtain ⟨r, hr⟩ := hc
  unfold mapState
  rw [if_neg h, if_neg]
  intro hall
  have := List.all_eq_true.mp hall m.stagedChk[r] (by simp)
  exact hr (of_decide_eq_true this)

theorem mapState_good {m : MapState} (h : m.staged ≠ m.active) (hc : ∀ r : Fin 48, m.stagedChk[r] = 0) : mapState m = 1 := by
  unfold mapState
  rw [if_neg h, if_pos]
  refine List.all_eq_true.mpr fun x hx => ?_
  obtain ⟨i, hi, rfl⟩ := List.mem_iff_getElem.mp hx
  have := hc ⟨i, by simpa using hi⟩
  simpa using this

theorem railmapApplyOp_paramCheck {p : List Byte} (h : p.length = 0) : railmapApplyOp.paramCheck 2 p = none := by
  simp [OpSpec.paramCheck, railmapApplyOp, plenLimit, Plen.expected, h]

theorem applyUndefined_false {s : State} (h : ∀ r : Fin 48, s.map.staged[r] ≠ s.map.active[r] → s.rails[r].st = .off ∨ s.rails[r].st = .latchedOff) :
    applyUndefined s = false := by
  unfold applyUndefined
  refine List.any_eq_false.mpr fun r _ => ?_
  by_cases hne : s.map.staged[fin48 r] = s.map.active[fin48 r]
  · simp [State.entry, hne]
  · have hst := h (fin48 r) hne
    unfold State.rail
    obtain hst | hst := hst <;> rw [hst] <;> simp [RailSt.runs]

/-- Nothing waits for an apply (R94). -/
theorem judgeWaiting_idle {s : State} (h : s.dom.ph ≠ .waitApply) : judgeWaiting s = s := by
  unfold judgeWaiting
  split
  next hp _ => exact absurd hp h
  · rfl

theorem complete_of_exec {p : Packet} {d : Deferred} {s : State} (st : Status) (l : List Byte) (h : s.proto.exec = some (p, d)) :
    complete st l s = serveFailed (answer p st l { s with proto := { s.proto with exec := none } }) := by
  unfold complete
  rw [h]

/-! ## The probe -/

theorem tackProbeOp_paramCheck {p : List Byte} (h : p.length = 0) : tackProbeOp.paramCheck 2 p = none := by
  simp [OpSpec.paramCheck, tackProbeOp, plenLimit, Plen.expected, h]

theorem blankWords_get (n : Fin 256) : blankWords[n] = { net := n.val } := by
  unfold blankWords
  rw [mapIdx_get]
  simp

/-- The first number below `n` that passes a test. -/
theorem find_upto {n : Nat} {f : Nat → Bool} (c : Fin n) (hc : f c.val = true) (hl : ∀ k : Fin n, k < c → f k.val = false) :
    (upto n).find? f = some c.val := by
  unfold upto
  rw [List.find?_range_eq_some]
  refine ⟨hc, List.mem_range.mpr c.isLt, fun j hj => ?_⟩
  have h := hl ⟨j, by omega⟩ hj
  simpa using h

theorem find_upto_none {n : Nat} {f : Nat → Bool} (h : ∀ k : Fin n, f k.val = false) : (upto n).find? f = none := by
  refine List.find?_eq_none.mpr fun k hk => ?_
  have := h ⟨k, mem_upto.mp hk⟩
  simpa using this

theorem runs_iff {x : RailSt} : x.runs = true ↔ x ≠ .off ∧ x ≠ .latchedOff := by simp [RailSt.runs]

theorem lowestRunning_first {s : State} {r : Fin 48} (h1 : s.rails[r].st ≠ .off) (h2 : s.rails[r].st ≠ .latchedOff)
    (hl : ∀ k : Fin 48, k < r → s.rails[k].st = .off ∨ s.rails[k].st = .latchedOff) : lowestRunning s = some r.val := by
  refine find_upto r ?_ fun k hk => ?_
  · rw [rail_val, runs_iff]
    exact ⟨h1, h2⟩
  · rw [rail_val]
    obtain h | h := hl k hk <;> rw [h] <;> rfl

/-- A probe's look, slot and end (R87 to R91). -/
theorem begins_iff {s : State} {above : BitVec 256} {last : Bool} :
    (!(upto 256).any (fun n => above.getLsbD n && decide ((s.cell n).st ≠ .retired)) || last || decide (100 ≤ s.map.looks)) = true ↔
      last = true ∨ 100 ≤ s.map.looks ∨ ∀ n : Fin 256, above.getLsbD n = true → s.cells[n].st = .retired := by
  have h : (upto 256).any (fun n => above.getLsbD n && decide ((s.cell n).st ≠ .retired)) = false ↔
      ∀ n : Fin 256, above.getLsbD n = true → s.cells[n].st = .retired := by
    rw [List.any_eq_false]
    constructor
    · intro h n hn
      have := h n.val (mem_upto.mpr n.isLt)
      simpa [State.cell, fin256_val, hn] using this
    · intro h n hn
      have := h ⟨n, mem_upto.mp hn⟩
      have hv : s.cell n = s.cells[(⟨n, mem_upto.mp hn⟩ : Fin 256)] := congrArg (s.cells[·]) (fin256_val ⟨n, mem_upto.mp hn⟩)
      simpa [hv] using this
  rw [Bool.or_eq_true, Bool.or_eq_true, Bool.not_eq_true', h, decide_eq_true_iff]
  tauto

theorem nextProbed_first {s : State} {c : Fin 256} (hc : s.map.words[c].cls = 0) (hl : ∀ n : Fin 256, n < c → s.map.words[n].cls ≠ 0) :
    nextProbed s = some c.val :=
  find_upto c (by simpa [unplaced, fin256_val] using hc) fun n hn => by simpa [unplaced, fin256_val] using hl n hn

theorem nextProbed_none {s : State} (h : ∀ n : Fin 256, s.map.words[n].cls ≠ 0) : nextProbed s = none :=
  find_upto_none fun n => by simpa [unplaced, fin256_val] using h n

/-- Another cell hears a slot's cell when it takes part and hears half its amplitude (R89). -/
def Hears (s : State) (p : Fin 256) (amps : List Nat) (n : Fin 256) : Prop :=
  n ≠ p ∧ s.map.words[n].placeable = true ∧ amps.getD p 0 ≤ 2 * amps.getD n 0

/-- The cells that hear a slot's cell. -/
def hearers (s : State) (p : Nat) (amps : List Nat) : List Nat :=
  (upto 256).filter (fun n => decide (n ≠ p) && (s.map.words[fin256 n]).placeable && decide (amps.getD p 0 ≤ 2 * amps.getD n 0))

/-- The cells that a slot joins to its net. -/
def joined (s : State) (p : Nat) (amps : List Nat) (n : Nat) : Bool :=
  (hearers s p amps).contains n || (decide ((s.map.words[fin256 n]).cls = 2) && !(s.map.words[fin256 n]).kept &&
    (((hearers s p amps).filter (fun n => decide ((s.map.words[fin256 n]).cls = 2))).map (fun n => (s.map.words[fin256 n]).net)).contains
      (s.map.words[fin256 n]).net)

/-- The number of the net a slot makes. -/
def slotNet (s : State) (p : Nat) (amps : List Nat) : Nat := (((upto 256).find? (joined s p amps)).map (fun n => min n p)).getD p

theorem probeSlot_get (s : State) (p : Nat) (amps : List Nat) (fault : Bool) (n : Fin 256) :
    (probeSlot s p amps fault)[n] =
      if n.val = p then
        if fault then { cls := 6, kept := false, net := n, cap := 0 }
        else if amps.getD p 0 < 19 then { cls := 3, kept := false, net := n, cap := 0xFFFF }
        else { cls := if (hearers s p amps).isEmpty then 1 else 2, kept := false, net := slotNet s p amps, cap := capOf (amps.getD p 0) }
      else if !fault && decide (19 ≤ amps.getD p 0) && joined s p amps n then
        { cls := 2, kept := false, net := slotNet s p amps, cap := capOf (amps.getD p 0) }
      else s.map.words[n] :=
  mapIdx_get _ _ n

theorem mem_hearers {s : State} {p : Fin 256} {amps : List Nat} {n : Fin 256} : n.val ∈ hearers s p.val amps ↔ Hears s p amps n := by
  simp [hearers, Hears, mem_upto, fin256_val, Fin.ext_iff, and_assoc]

theorem joined_of_hears {s : State} {p n : Fin 256} {amps : List Nat} (h : Hears s p amps n) : joined s p.val amps n.val = true := by
  simp [joined, mem_hearers.mpr h]

theorem slotNet_le (s : State) (p : Nat) (amps : List Nat) : slotNet s p amps ≤ p := by
  unfold slotNet
  cases (upto 256).find? (joined s p amps) with
  | none => exact Nat.le_refl _
  | some k => exact Nat.min_le_right ..

theorem slotNet_le_joined {s : State} {p : Nat} {amps : List Nat} {n : Fin 256} (h : joined s p amps n.val = true) : slotNet s p amps ≤ n.val := by
  unfold slotNet
  cases hf : (upto 256).find? (joined s p amps) with
  | none => exact absurd h (by simpa using List.find?_eq_none.mp hf n.val (mem_upto.mpr n.isLt))
  | some k =>
    unfold upto at hf
    obtain ⟨_, _, hlow⟩ := List.find?_range_eq_some.mp hf
    have : k ≤ n.val := by
      by_contra hlt
      have := hlow n.val (by omega)
      simp [h] at this
    simp only [Option.map_some, Option.getD_some]
    omega

theorem hearers_nil {s : State} {p : Fin 256} {amps : List Nat} (h : ∀ n : Fin 256, ¬ Hears s p amps n) : hearers s p.val amps = [] := by
  refine List.eq_nil_iff_forall_not_mem.mpr fun n hn => ?_
  have h256 : n < 256 := mem_upto.mp (List.mem_of_mem_filter hn)
  exact h ⟨n, h256⟩ (mem_hearers.mp hn)

theorem joined_nil {s : State} {p : Nat} {amps : List Nat} (h : hearers s p amps = []) (n : Nat) : joined s p amps n = false := by
  simp [joined, h]

theorem slotNet_nil {s : State} {p : Nat} {amps : List Nat} (h : hearers s p amps = []) : slotNet s p amps = p := by
  unfold slotNet
  rw [List.find?_eq_none.mpr fun n _ => by simp [joined_nil h]]
  rfl

theorem changeCells_get (s : State) (f : Nat → Cell → Cell) (c : Fin 256) :
    (changeCells s f).cells[c] = if s.cells[c].st = .retired then s.cells[c] else f c.val s.cells[c] := by
  have h : (changeCells s f).cells = (mapCells s (fun n c => if c.st = .retired then c else f n c)).cells := by
    unfold changeCells
    simp only [ite_cells, spurEval_cells, pulses_cells, ite_self]
  rw [h, mapCells_get]

/-- What a probe starts with (R87). -/
theorem startProbe_map (s : State) :
    (startProbe s).map = { s.map with
      prev := if s.map.probe = .complete then some s.map.words else none
      probe := .running, words := blankWords, probing := false, looks := 0, above := 0, storedProbe := none
      activeChk := (startProbe s).map.activeChk } := by
  unfold startProbe
  simp only [changeCells_map]
  rfl

theorem startProbe_get (s : State) (c : Fin 256) :
    (startProbe s).cells[c] = if s.cells[c].st = .retired then s.cells[c] else { s.cells[c] with senseLocal := true, ref := 0 } :=
  changeCells_get s _ c

theorem copyMap_map (s : State) : (copyMap s).map = { s.map with active := s.map.staged, activeChk := (copyMap s).map.activeChk } := by
  unfold copyMap
  simp only [spurEval_map, foldl_map _ (fun s r => writeMembership_map r s), mapCells_map]
  rfl

/-- Settles O10: each command by its operation on the staged map, the store by completing the command in execution. -/
theorem railMapIsStagedAppliedAndStored : Obligations.RailMapIsStagedAppliedAndStored := by
  refine ⟨fun q s hr h2 h0 h1 h12 hsum hl => ?_, fun q s hr hl => ⟨fun hprobe => ?_, fun hp heq => ?_, fun hp hne hchk hst => ?_⟩,
    fun s happ hph p hex => ?_, fun s happ => ?_, fun q s hr hl hp hrails => ?_⟩
  · let es := (upto (byteAt q.params 1)).map (fun k => entryOf (q.params.drop (2 + 40 * k)))
    have hlen : es.length = byteAt q.params 1 := by simp [es, upto]
    refine ⟨stageEntries (byteAt q.params 0) es (arrived q s), ?_, ?_, fun r => ?_, fun r => stageEntries_chk ..⟩
    · exact runOp_reply hr (railmapSetOp_paramCheck h2 h0 h1 h12 hsum hl) rfl (arrived_waiting q s ▸ hr.empty)
    · rw [stageEntries_only, arrived_map]
    · rw [stageEntries_staged, hlen, arrived_map]
      split
      next h => exact getD_map_upto _ _ _ _ (by omega)
      · rfl
  · have hc : s.map.probe = .running ∨ mapState s.map = 2 := hprobe.imp id fun h => mapState_bad h.2.1 h.2.2
    refine completes_of_reply (o := railmapApplyOp) rfl hr (railmapApplyOp_paramCheck hl) ?_ (by rw [arrived_proto, hr.empty]) rfl
    obtain hc | hc := hc <;> simp [railmapApplyOp, hc, refuse, mapCode] <;> exact ⟨rfl, rfl⟩
  · refine completes_of_reply (o := railmapApplyOp) rfl hr (railmapApplyOp_paramCheck hl) ?_ (by rw [arrived_proto, hr.empty]) rfl
    simp [railmapApplyOp, hp, mapState_same heq, done, mapCode]
  · refine begins_of_run (o := railmapApplyOp)
      (t := { copyMap (arrived q s) with map := { (copyMap (arrived q s)).map with applying := true } }) rfl hr (railmapApplyOp_paramCheck hl) ?_ ?_
    · have hu : applyUndefined (arrived q s) = false := applyUndefined_false (by simpa using hst)
      simp [railmapApplyOp, hp, mapState_good hne hchk, hu]
    · dsimp only
      rw [copyMap_proto, copyMap_hem, copyMap_chg, copyMap_fuse, arrived_proto, arrived_hem, arrived_chg, arrived_fuse]
      refine ⟨?_, ?_, rfl, rfl, rfl, rfl, rfl⟩
      · rw [copyMap_map, arrived_map]
      · rw [copyMap_map, arrived_map]
  · refine ⟨{ s with map := { s.map with applying := false, stored := some s.map.active }, proto := { s.proto with exec := none } }, ?_, rfl⟩
    have hx : exec .mapStoreDone s = execMapStoreDone s := rfl
    rw [hx, execMapStoreDone, if_pos happ]
    simp only [hex]
    rw [complete_of_exec (p := p) (d := .mapStore) (s := { s with map := { s.map with applying := false, stored := some s.map.active } }) _ _
      hex, judgeWaiting_idle]
    · rfl
    · simpa using hph
  · exact if_neg (by simp [happ])
  · refine completes_of_reply (o := tackProbeOp) (t := startProbe (arrived q s)) rfl hr (tackProbeOp_paramCheck (by simp [hl])) ?_ ?_ ?_
    · have hlow : lowestRunning (arrived q s) = none := find_upto_none fun k => by simpa [rail_val] using hrails k
      simp [tackProbeOp, hp, hlow, started]
    · rw [startProbe_proto, arrived_proto, hr.empty]
    · rw [startProbe_map, startProbe_rails, startProbe_proto, arrived_proto, arrived_rails, arrived_map]
      refine ⟨rfl, rfl, rfl, rfl, rfl, fun c => ?_⟩
      rw [startProbe_get, arrived_cells]

/-- Settles O11: the start by its refusals, each look by what the discharge shows, each slot by the class of its cell. -/
theorem tackProbeClassesEveryCell : Obligations.TackProbeClassesEveryCell := by
  refine ⟨fun q s r hr hl hp h1 h2 hlow => ?_, fun q s hr hl hp hrails => ?_, fun above last s hp hpr => ?_,
    fun c amps fault s hp hpr hc hlow => ?_, fun s hp hpr hall => ?_⟩
  · have hlr : lowestRunning (arrived q s) = some r.val := lowestRunning_first (by simpa using h1) (by simpa using h2) (by simpa using hlow)
    refine completes_of_reply (o := tackProbeOp) rfl hr (tackProbeOp_paramCheck hl) ?_ (by rw [arrived_proto, hr.empty]) rfl
    simp [tackProbeOp, hp, hlr, refuse, rail_val]
    rfl
  · have hlow : lowestRunning (arrived q s) = none := lowestRunning_none (by simpa using hrails)
    refine completes_of_reply (o := tackProbeOp) (t := startProbe (arrived q s)) rfl hr (tackProbeOp_paramCheck hl) ?_ ?_ ?_
    · simp [tackProbeOp, hp, hlow, started]
    · rw [startProbe_proto, arrived_proto, hr.empty]
    · rw [startProbe_map, startProbe_rails, startProbe_dom, arrived_rails, arrived_map, arrived_dom]
      refine ⟨rfl, rfl, rfl, rfl, rfl, rfl, rfl, fun n => ?_⟩
      dsimp only
      rw [blankWords_get]
      exact ⟨rfl, rfl, rfl⟩
  · have hx : exec (.tackDischargeLook above last) s = execTackDischargeLook above last s := rfl
    rw [hx, execTackDischargeLook, if_pos ⟨hp, hpr⟩]
    refine ⟨_, rfl, rfl, begins_iff, fun h => if_neg (by simpa using h), fun h n hn => ?_⟩
    · dsimp only at h ⊢
      rw [if_pos h, mapIdx_get, outWord, cell_val, if_pos hn]
  · have hx : exec (.tackSlotEnd c amps fault) s = execTackSlotEnd c amps fault s := rfl
    rw [hx, execTackSlotEnd, if_pos ⟨hp, hpr, nextProbed_first hc hlow⟩]
    refine ⟨_, rfl, rfl, ?_, ?_, fun hf h19 => ?_⟩
    · rw [probeSlot_get, if_pos rfl]
      cases fault
      · simp only [Bool.false_eq_true, if_false, iff_false]
        split
        · simp
        · dsimp only
          split <;> simp
      · simp
    · rw [probeSlot_get, if_pos rfl]
      cases fault
      · simp only [Bool.false_eq_true, if_false, true_and]
        split
        next h => exact ⟨fun _ => h, fun _ => rfl⟩
        next h =>
          dsimp only
          split <;> exact ⟨fun h3 => absurd h3 (by decide), fun h' => absurd h' h⟩
      · simp
    · subst hf
      have hown : (probeSlot s c.val amps false)[c] =
          { cls := if (hearers s c.val amps).isEmpty then 1 else 2, kept := false, net := slotNet s c.val amps
            cap := capOf (amps.getD c.val 0) } := by
        rw [probeSlot_get, if_pos rfl, if_neg Bool.false_ne_true, if_neg (by omega)]
      refine ⟨?_, ?_, fun n hn hpl hamp => ?_, fun hno => ?_⟩
      · rw [hown]
        exact slotNet_le ..
      · rw [hown]
      · have hh : Hears s c amps n := ⟨hn, hpl, hamp⟩
        have hj := joined_of_hears hh
        have hne : (hearers s c.val amps).isEmpty = false := by
          rw [List.isEmpty_eq_false_iff_exists_mem]
          exact ⟨_, mem_hearers.mpr hh⟩
        have hget : (probeSlot s c.val amps false)[n] =
            { cls := 2, kept := false, net := slotNet s c.val amps, cap := capOf (amps.getD c.val 0) } := by
          rw [probeSlot_get, if_neg (fun h => hn (Fin.ext h)), if_pos (by rw [hj, decide_eq_true h19]; rfl)]
        rw [hown, hget, hne]
        exact ⟨rfl, rfl, slotNet_le_joined hj, rfl⟩
      · have hnil : hearers s c.val amps = [] := hearers_nil fun n ⟨hn, hpl, hamp⟩ => by
          have := hno n hn hpl
          omega
        rw [hown, hnil]
        refine ⟨rfl, slotNet_nil hnil, fun n hn => ?_⟩
        rw [probeSlot_get, if_neg (fun h => hn (Fin.ext h)), if_neg (by simp [joined_nil hnil])]
  · have hx : exec .tackDone s = execTackDone s := rfl
    rw [hx, execTackDone, if_pos ⟨hp, hpr, nextProbed_none hall⟩]
    refine ⟨_, rfl, ?_⟩
    simp [recheckActive]

end Sys2Proof.Machine
end

section
/-! PROOF. What the operations on one rail leave of the others, and of the rest of the state (R113 to R130). -/

namespace Sys2Proof.Machine

theorem modRail_val_self (s : State) (r : Fin 48) (f : Rail → Rail) : (modRail s (fin48 r.val) f).rails[r] = f s.rails[r] := by
  rw [fin48_val, modRail_self]

theorem modRail_val_other (s : State) {r k : Fin 48} (h : k ≠ r) (f : Rail → Rail) : (modRail s (fin48 r.val) f).rails[k] = s.rails[k] := by
  rw [fin48_val, modRail_other _ _ _ _ h.symm]

/-! ## The phase context sent -/

theorem sendPhase_only (r : Nat) (b : PhaseCtx) (s : State) :
    sendPhase r b s = { s with rails := (sendPhase r b s).rails, bus := (sendPhase r b s).bus } := by
  unfold sendPhase
  dsimp only
  rw [post_only]
  split <;> rfl

theorem sendPhase_other {r k : Fin 48} (h : k ≠ r) (b : PhaseCtx) (s : State) : (sendPhase r.val b s).rails[k] = s.rails[k] := by
  unfold sendPhase
  dsimp only
  rw [post_only]
  split
  · dsimp only
    exact modRail_val_other s h _
  · rfl

/-- Of the rail itself only ROT can change (R155). -/
theorem sendPhase_self (r : Fin 48) (b : PhaseCtx) (s : State) :
    (sendPhase r.val b s).rails[r] =
      { s.rails[r] with ph := { s.rails[r].ph with rot := (sendPhase r.val b s).rails[r].ph.rot } } := by
  unfold sendPhase
  dsimp only
  rw [post_only]
  split
  · dsimp only
    rw [modRail_val_self]
  · rfl

theorem leaveRail_only (r : Nat) (st : RailSt) (s : State) :
    leaveRail r st s = { s with rails := (leaveRail r st s).rails, bus := (leaveRail r st s).bus } := by
  unfold leaveRail
  rw [sendPhase_only]
  rfl

theorem leaveRail_other {r k : Fin 48} (h : k ≠ r) (st : RailSt) (s : State) : (leaveRail r.val st s).rails[k] = s.rails[k] := by
  unfold leaveRail
  rw [sendPhase_other h, modRail_val_other s h]

theorem leaveRail_self (r : Fin 48) (st : RailSt) (s : State) :
    (leaveRail r.val st s).rails[r] =
      { s.rails[r].leave st with ph := { s.rails[r].ph.cancel with rot := (leaveRail r.val st s).rails[r].ph.rot } } := by
  unfold leaveRail
  rw [sendPhase_self, modRail_val_self]
  rfl

/-! ## Who listens -/

theorem zero_get (k : Nat) : (0 : BitVec 256).getLsbD k = false := by simp

theorem cellBit_get (n : Nat) (c : Fin 256) : (cellBit n).getLsbD c.val = decide (n % 256 = c.val) := by
  rw [cellBit, BitVec.getLsbD_ofNat, Nat.testBit_two_pow, decide_eq_true c.isLt, Bool.true_and]

theorem foldl_cellBit (l : List Nat) (m : BitVec 256) (c : Fin 256) :
    (l.foldl (fun m n => m ||| cellBit n) m).getLsbD c.val = (m.getLsbD c.val || l.any (fun n => decide (n % 256 = c.val))) := by
  induction l generalizing m with
  | nil => simp
  | cons n l ih => rw [List.foldl_cons, ih, BitVec.getLsbD_or, cellBit_get, List.any_cons, Bool.or_assoc]

/-- The members of a rail that are not RETIRED listen to it. -/
theorem listeners_get (s : State) (r : Nat) (c : Fin 256) :
    (listeners s r).getLsbD c.val = ((s.memberSet r).getLsbD c.val && decide (s.cells[c].st ≠ .retired)) := by
  unfold listeners
  rw [foldl_cellBit, zero_get, Bool.false_or, Bool.eq_iff_iff, List.any_eq_true]
  simp only [List.mem_filter, mem_members, decide_eq_true_eq, Bool.and_eq_true]
  constructor
  · rintro ⟨n, ⟨⟨hn, hm⟩, hst⟩, hc⟩
    rw [Nat.mod_eq_of_lt hn] at hc
    rw [hc, cell_val] at hst
    exact ⟨hc ▸ hm, hst⟩
  · rintro ⟨hm, hst⟩
    refine ⟨c.val, ⟨⟨c.isLt, hm⟩, ?_⟩, Nat.mod_eq_of_lt c.isLt⟩
    rwa [cell_val]

theorem members_congr {s t : State} (hm : t.map = s.map) (r : Nat) : t.members r = s.members r := by
  unfold State.members State.memberSet State.entry
  rw [hm]

theorem memberSet_congr {s t : State} (hm : t.map = s.map) (r : Nat) : t.memberSet r = s.memberSet r := by
  unfold State.memberSet State.entry
  rw [hm]

theorem cell_congr {s t : State} (hc : t.cells = s.cells) (n : Nat) : t.cell n = s.cell n := by
  unfold State.cell
  rw [hc]

theorem listeners_congr {s t : State} (hm : t.map = s.map) (hc : t.cells = s.cells) (r : Nat) : listeners t r = listeners s r := by
  simp only [listeners, members_congr hm, cell_congr hc]

theorem configCast_congr {s t : State} (hm : t.map = s.map) (hc : t.cells = s.cells) (r k : Nat) (w : BitVec 32) :
    configCast s r k w = configCast t r k w := by
  rw [configCast, configCast, listeners_congr hm hc]

theorem listeners_zero {s : State} {r : Nat} (h : ∀ c : Fin 256, (s.memberSet r).getLsbD c.val = true → s.cells[c].st = .retired) :
    listeners s r = 0 := by
  refine BitVec.eq_of_getLsbD_eq fun i hi => ?_
  have hl := listeners_get s r ⟨i, hi⟩
  dsimp only at hl
  rw [hl, zero_get]
  cases hm : (s.memberSet r).getLsbD i with
  | false => rfl
  | true => simpa using h ⟨i, hi⟩ hm

theorem listeners_ne_zero {s : State} {r : Nat} (h : ∃ c : Fin 256, (s.memberSet r).getLsbD c.val = true ∧ s.cells[c].st ≠ .retired) :
    listeners s r ≠ 0 := by
  obtain ⟨c, hm, hst⟩ := h
  intro h0
  have hl := listeners_get s r c
  rw [h0, zero_get, hm, decide_eq_true hst] at hl
  exact absurd hl (by decide)

/-! ## The words of RAIL_SET_COMP -/

/-- A word that no cell listens for is not put on the bus. -/
theorem post_bus_unheard {ms : List Msg} {s : State} (h : ∀ m ∈ ms, m.waits = 0) :
    (post ms s).bus = s.bus.filter (fun m => !ms.any (fun n => n.sameWord m)) := by
  have : ms.filter (fun m => decide (m.waits ≠ 0)) = [] := List.filter_eq_nil_iff.mpr fun m hm => by simp [h m hm]
  rw [post, this, List.append_nil]

theorem wordsOut_post_unheard {ms : List Msg} {s : State} {r : Nat} (h : ∀ m ∈ ms, m.waits = 0) (hw : wordsOut s r = false) :
    wordsOut (post ms s) r = false := by
  unfold wordsOut at hw ⊢
  rw [post_bus_unheard h]
  refine List.any_eq_false.mpr fun m hm => ?_
  exact List.any_eq_false.mp hw m (List.mem_of_mem_filter hm)

/-- The coefficient words, each with its index. -/
def coefWords (r : Nat) (c : Coef) (s : State) : List Msg := listMapIdx (fun k w => configCast s r (coefWord + k) w) 0 c.words

theorem sendCoef_eq (r : Nat) (c : Coef) (s : State) : sendCoef r c s = post (coefWords r c s) s := rfl

theorem mem_coefWords {r : Nat} {c : Coef} {s : State} {m : Msg} :
    m ∈ coefWords r c s ↔ ∃ (k : Nat) (w : BitVec 32), c.words[k]? = some w ∧ m = configCast s r (coefWord + k) w := by
  have h5 (k : Nat) (w : BitVec 32) : c.words[k]? = some w → k < 5 := fun h => by
    have := (List.getElem?_eq_some_iff.mp h).1
    simpa [Coef.words] using this
  constructor
  · intro h
    simp only [coefWords, Coef.words, listMapIdx, List.mem_cons, List.not_mem_nil, or_false] at h
    obtain h | h | h | h | h := h
    · exact ⟨0, _, rfl, h⟩
    · exact ⟨1, _, rfl, h⟩
    · exact ⟨2, _, rfl, h⟩
    · exact ⟨3, _, rfl, h⟩
    · exact ⟨4, _, rfl, h⟩
  · rintro ⟨k, w, hk, rfl⟩
    have := h5 k w hk
    interval_cases k <;> simp only [Coef.words, List.getElem?_cons_zero, List.getElem?_cons_succ, Option.some.injEq] at hk <;>
      subst hk <;> simp [coefWords, Coef.words, listMapIdx]

theorem coefWords_waits {r : Nat} {c : Coef} {s : State} {m : Msg} (h : m ∈ coefWords r c s) : m.waits = listeners s r := by
  obtain ⟨k, w, _, rfl⟩ := mem_coefWords.mp h
  rfl

theorem wordsOut_of_mem {s : State} {r k : Nat} {w : BitVec 32} {t : State} (hk : k ≤ 5) (h : configCast t r (coefWord + k) w ∈ s.bus) :
    wordsOut s r = true := by
  unfold wordsOut
  refine List.any_eq_true.mpr ⟨_, h, ?_⟩
  have h1 : coefWord ≤ coefWord + k := by omega
  have h2 : coefWord + k ≤ sinkWord := by
    unfold coefWord sinkWord
    omega
  simp [configCast, h1, h2]

theorem sendCoef_wordsOut {r : Nat} {c : Coef} {s : State} (h : listeners s r ≠ 0) : wordsOut (sendCoef r c s) r = true := by
  have hm : configCast s r (coefWord + 0) (c.words.head (by simp [Coef.words])) ∈ coefWords r c s :=
    mem_coefWords.mpr ⟨0, _, rfl, rfl⟩
  exact wordsOut_of_mem (by decide) (mem_post s hm h)

/-! ## Targets -/

theorem upd_get_self {α : Type} {n : Nat} (v : Vector α n) (i : Fin n) : upd v i v[i] = v := by
  refine Vector.ext fun j hj => ?_
  by_cases h : i = ⟨j, hj⟩
  · subst h
    exact upd_self ..
  · exact upd_other v _ _ _ h

theorem railBad_none {v : Nat} {p : List Byte} {r : Fin 48} (h : byteAt p 0 = r.val) : railBad v p = none := by
  have := r.isLt
  simp [railBad, firstBad, fieldAt_one, h]
  omega

theorem retarget_only (r code : Nat) (s : State) :
    retarget r code s = { s with rails := (retarget r code s).rails, cells := (retarget r code s).cells, bus := (retarget r code s).bus } := by
  unfold retarget
  dsimp only
  split
  · rw [post_only]
    rfl
  · rfl

theorem retarget_other {r k : Fin 48} (h : k ≠ r) (code : Nat) (s : State) : (retarget r.val code s).rails[k] = s.rails[k] := by
  unfold retarget
  dsimp only
  split
  · rw [post_only]
    dsimp only [modCell]
    exact modRail_val_other s h _
  · exact modRail_val_other s h _

theorem retarget_self (r : Fin 48) (code : Nat) (s : State) : (retarget r.val code s).rails[r] = s.rails[r].retarget code := by
  unfold retarget
  dsimp only
  split
  · rw [post_only]
    dsimp only [modCell]
    exact modRail_val_self s r _
  · exact modRail_val_self s r _

theorem Rail.retarget_stopped {x : Rail} (code : Nat) (h : x.st = .off ∨ x.st = .latchedOff) : x.retarget code = x := by
  unfold Rail.retarget
  obtain h | h := h <;> rw [h]

theorem not_towards {x : RailSt} (h : x = .off ∨ x = .latchedOff) : ¬ (x = .starting ∨ x = .slewing ∨ x = .regulating) := by
  obtain rfl | rfl := h <;> decide

/-- A stopped rail has no reference to move (R129). -/
theorem retarget_stopped {r : Fin 48} {s : State} (code : Nat) (h : s.rails[r].st = .off ∨ s.rails[r].st = .latchedOff) :
    retarget r.val code s = s := by
  unfold retarget
  dsimp only
  rw [rail_val, fin48_val, if_neg (not_towards h), modRail, Rail.retarget_stopped code h, upd_get_self]

end Sys2Proof.Machine
end

section
/-! PROOF. Targets, set-points, rates and coefficients (R106 to R132). -/

namespace Sys2Proof.Machine

theorem railOp_eq {p : List Byte} {r : Fin 48} (h : byteAt p 0 = r.val) : railOp p = r.val := h

/-- A rail's command with its four bytes, or its one, passes the checks of its parameters. -/
theorem railOp_paramCheck {o : OpSpec} {p : List Byte} {r : Fin 48} {n : Nat} (hn : n ≤ 496) (hv : o.v ≤ 2) (ho : o.plen = .fixed n) (hbig : o.big = fun _ => none)
    (hb : o.bad = railBad) (hl : p.length = n) (h : byteAt p 0 = r.val) : o.paramCheck 2 p = none := by
  have hlim : ¬ (496 < n) := by omega
  simp [OpSpec.paramCheck, ho, hb, hbig, plenLimit, Plen.expected, hl, railBad_none h, hlim, hv]

/-! ## The pins' set-point -/

/-- A rail whose pins' set-point is empty. -/
def Rail.pinsEmpty (i : Nat) (x : Rail) : Rail := { x with sp := { x.sp with selEmpty := true, pending := some i } }

/-- A rail whose pins name the set-point it has. -/
def Rail.pinsSame (x : Rail) : Rail := { x with sp := { x.sp with pending := none } }

/-- A rail whose pins name another set-point. -/
def Rail.pinsMove (i : Nat) (x : Rail) : Rail := { x with sp := { x.sp with pending := none, index := i, direct := false } }

/-- What the pins of a rail can come to (R123, R124). -/
theorem formIndex_cases {P : State → Prop} (r : Nat) (s : State) (h0 : P s)
    (hempty : ∀ i, P (pgEvent r (modRail s (fin48 r) (Rail.pinsEmpty i)))) (hsame : P (modRail s (fin48 r) Rail.pinsSame))
    (hmove : ∀ i code, P (retarget r code (modRail s (fin48 r) (Rail.pinsMove i)))) : P (formIndex r s) := by
  unfold formIndex
  dsimp only
  repeat' split
  · exact h0
  · exact hempty _
  · exact hsame
  · exact hmove _ _

theorem formIndex_only (r : Nat) (s : State) :
    formIndex r s = { s with rails := (formIndex r s).rails, cells := (formIndex r s).cells, bus := (formIndex r s).bus
                             router := (formIndex r s).router, seam := (formIndex r s).seam, pwr := (formIndex r s).pwr
                             clk := (formIndex r s).clk } := by
  refine formIndex_cases (P := fun t => t = { s with rails := t.rails, cells := t.cells, bus := t.bus, router := t.router, seam := t.seam
                                                     pwr := t.pwr, clk := t.clk }) r s rfl (fun i => ?_) rfl fun i code => ?_
  · rw [pgEvent, pulse_only]
    rfl
  · rw [retarget_only]
    rfl

theorem formIndex_other {r k : Fin 48} (h : k ≠ r) (s : State) : (formIndex r.val s).rails[k] = s.rails[k] := by
  refine formIndex_cases (P := fun t => t.rails[k] = s.rails[k]) r.val s rfl (fun i => ?_) ?_ fun i code => ?_
  · rw [pgEvent, pulse_rails, modRail_val_other s h]
  · rw [modRail_val_other s h]
  · rw [retarget_other h, modRail_val_other s h]

theorem Rail.retarget_sp (x : Rail) (code : Nat) :
    (x.retarget code).sp = { x.sp with owed := (x.retarget code).sp.owed, retargets := (x.retarget code).sp.retargets } := by
  unfold Rail.retarget
  repeat' split
  all_goals rfl

/-- The binding stays. -/
theorem formIndex_bound (r : Fin 48) (s : State) :
    (formIndex r.val s).rails[r].sp.pinBound = s.rails[r].sp.pinBound ∧ (formIndex r.val s).rails[r].sp.selBind = s.rails[r].sp.selBind := by
  refine formIndex_cases (P := fun t => t.rails[r].sp.pinBound = s.rails[r].sp.pinBound ∧ t.rails[r].sp.selBind = s.rails[r].sp.selBind)
    r.val s ⟨rfl, rfl⟩ (fun i => ?_) ?_ fun i code => ?_
  · rw [pgEvent, pulse_rails, modRail_val_self]
    exact ⟨rfl, rfl⟩
  · rw [modRail_val_self]
    exact ⟨rfl, rfl⟩
  · rw [retarget_self, modRail_val_self, Rail.retarget_sp]
    exact ⟨rfl, rfl⟩

/-! ## A set-point stored -/

theorem setTarget_only (r : Nat) (sp : SetPt) (code : Nat) (s : State) :
    setTarget r sp code s = { s with rails := (setTarget r sp code s).rails, cells := (setTarget r sp code s).cells
                                     bus := (setTarget r sp code s).bus } := by
  unfold setTarget
  rw [retarget_only]
  rfl

theorem setTarget_other {r k : Fin 48} (h : k ≠ r) (sp : SetPt) (code : Nat) (s : State) : (setTarget r.val sp code s).rails[k] = s.rails[k] := by
  rw [setTarget, retarget_other h, modRail_val_other s h]

theorem setTarget_self (r : Fin 48) (sp : SetPt) (code : Nat) (s : State) :
    (setTarget r.val sp code s).rails[r] = { s.rails[r] with sp := sp }.retarget code := by
  rw [setTarget, retarget_self, modRail_val_self]

/-- What a change of the target leaves of a rail. -/
theorem Rail.retarget_rest (x : Rail) (code : Nat) :
    x.retarget code = { x with st := (x.retarget code).st, sp := (x.retarget code).sp
                               loop := { x.loop with target := (x.retarget code).loop.target } } := by
  unfold Rail.retarget
  repeat' split
  all_goals rfl

theorem setTarget_stopped {r : Fin 48} {sp : SetPt} {code : Nat} {s : State} (h : s.rails[r].st = .off ∨ s.rails[r].st = .latchedOff) :
    setTarget r.val sp code s = modRail s r (fun x => { x with sp := sp }) := by
  rw [setTarget, fin48_val, retarget_stopped]
  rwa [modRail_self]

/-- A regulating rail whose reference lies elsewhere slews (R129). -/
theorem Rail.retarget_slews {x : Rail} {code : Nat} (h : x.st = .regulating) (hr : x.loop.ref ≠ code * 65536) :
    x.retarget code = { x with st := .slewing, loop := { x.loop with target := code }, sp := { x.sp with owed := true } } := by
  unfold Rail.retarget
  rw [h]
  exact if_neg hr

theorem targetOf_direct {p : SetPt} {code : Nat} (h : code ≠ 0) : targetOf p 0xFF code = some ({ p with direct := true, code := code }, code) := by
  simp [targetOf, h]

theorem targetOf_stored {p : SetPt} {kind code : Nat} (hk : kind < 8) (h : p.stored[Fin.ofNat 8 kind] ≠ 0) :
    targetOf p kind code = some ({ p with direct := false, index := kind }, p.stored[Fin.ofNat 8 kind]) := by
  rw [targetOf, if_pos hk, if_neg h]

theorem storeSetpoint_only (r i code : Nat) (s : State) :
    storeSetpoint r i code s = { s with rails := (storeSetpoint r i code s).rails, cells := (storeSetpoint r i code s).cells
                                        bus := (storeSetpoint r i code s).bus } := by
  unfold storeSetpoint
  dsimp only
  repeat' split
  · rw [setTarget_only]
    rfl
  · rw [setTarget_only]
    rfl
  · rfl

theorem storeSetpoint_other {r k : Fin 48} (h : k ≠ r) (i code : Nat) (s : State) : (storeSetpoint r.val i code s).rails[k] = s.rails[k] := by
  unfold storeSetpoint
  dsimp only
  repeat' split
  · rw [setTarget_other h, modRail_val_other s h]
  · rw [setTarget_other h, modRail_val_other s h]
  · rw [modRail_val_other s h]

/-- The set-point is stored, whatever the rail then makes of it (R125). -/
theorem storeSetpoint_self (r : Fin 48) (i code : Nat) (s : State) :
    (storeSetpoint r.val i code s).rails[r].sp.stored = upd s.rails[r].sp.stored (Fin.ofNat 8 i) code ∧
      (storeSetpoint r.val i code s).rails[r].prot = s.rails[r].prot ∧
      (storeSetpoint r.val i code s).rails[r].loop.ref = s.rails[r].loop.ref ∧
      (storeSetpoint r.val i code s).rails[r].loop.coef = s.rails[r].loop.coef := by
  unfold storeSetpoint
  dsimp only
  repeat' split
  · rw [setTarget_self, modRail_val_self, rail_val, modRail_val_self, Rail.retarget_rest, Rail.retarget_sp]
    exact ⟨rfl, rfl, rfl, rfl⟩
  · rw [setTarget_self, modRail_val_self, rail_val, modRail_val_self, Rail.retarget_rest, Rail.retarget_sp]
    exact ⟨rfl, rfl, rfl, rfl⟩
  · rw [modRail_val_self]
    exact ⟨rfl, rfl, rfl, rfl⟩

theorem railSetTargetOp_refuses {q : Req} {s : State} {r : Fin 48} (h0 : byteAt q.params 0 = r.val)
    (h : s.rails[r].sp.pinBound = true ∨ s.rails[r].st = .stopping) : railSetTargetOp.run q s = refuseRail s r.val := by
  simp only [railSetTargetOp, railOp_eq h0, rail_val]
  exact if_pos h

theorem railSetTargetOp_none {q : Req} {s : State} {r : Fin 48} (h0 : byteAt q.params 0 = r.val) (hp : s.rails[r].sp.pinBound = false)
    (hst : s.rails[r].st ≠ .stopping) (h : targetOf s.rails[r].sp (byteAt q.params 1) (fieldAt q.params 2 2) = none) :
    railSetTargetOp.run q s = noted s [] := by
  have hb : ¬ (s.rails[r].sp.pinBound = true ∨ s.rails[r].st = .stopping) := not_or.mpr ⟨by rw [hp]; exact Bool.false_ne_true, hst⟩
  simp only [railSetTargetOp, railOp_eq h0, rail_val, h]
  exact if_neg hb

theorem railSetTargetOp_some {q : Req} {s : State} {r : Fin 48} {sp : SetPt} {code : Nat} (h0 : byteAt q.params 0 = r.val)
    (hp : s.rails[r].sp.pinBound = false) (hst : s.rails[r].st ≠ .stopping)
    (h : targetOf s.rails[r].sp (byteAt q.params 1) (fieldAt q.params 2 2) = some (sp, code)) :
    railSetTargetOp.run q s =
      if s.rails[r].st = .regulating ∧ s.rails[r].loop.ref = code * 65536 then done0 s
      else if s.rails[r].st = .off ∨ s.rails[r].st = .latchedOff then done0 (setTarget r.val sp code s) else started (setTarget r.val sp code s) := by
  have hb : ¬ (s.rails[r].sp.pinBound = true ∨ s.rails[r].st = .stopping) := not_or.mpr ⟨by rw [hp]; exact Bool.false_ne_true, hst⟩
  simp only [railSetTargetOp, railOp_eq h0, rail_val, h]
  exact if_neg hb

/-- A rail bound to its pins, or to commands (R126). -/
def Rail.bind (pin : Bool) (b : BitVec 16) (x : Rail) : Rail :=
  { x with sp := { x.sp with pinBound := pin, selBind := b, pending := if pin then x.sp.pending else none } }

theorem railBindSelectOp_run {q : Req} {r : Fin 48} (h0 : byteAt q.params 0 = r.val) (s : State) :
    ∃ c : Bool, railBindSelectOp.run q s = done0
      (if natBit (byteAt q.params 1) 0 = true ∧ c = true then
        formIndex r.val (modRail s (fin48 r.val) (Rail.bind (natBit (byteAt q.params 1) 0) (BitVec.ofNat 16 (fieldAt q.params 2 2) &&& 0x0FFF)))
      else modRail s (fin48 r.val) (Rail.bind (natBit (byteAt q.params 1) 0) (BitVec.ofNat 16 (fieldAt q.params 2 2) &&& 0x0FFF))) := by
  refine ⟨decide ((s.rail r.val).sp.pinBound = false ∨ (s.rail r.val).sp.selBind ≠ BitVec.ofNat 16 (fieldAt q.params 2 2) &&& 0x0FFF), ?_⟩
  simp only [railBindSelectOp, railOp_eq h0, decide_eq_true_eq]
  rfl

/-- The rail of RAIL_SET_COMP: a stopped one keeps the coefficients for its next start (R132). -/
def Rail.keepCoef (c : Coef) (x : Rail) : Rail := if x.st.runs then x else { x with loop := { x.loop with coef := c, coefNext := none } }

theorem railSetCompOp_run {q : Req} {s : State} {r : Fin 48} (h0 : byteAt q.params 0 = r.val)
    (h : ¬ (s.rails[r].st.runs = true ∧ (coefOf q.params).tick ≠ s.rails[r].loop.coef.tick)) :
    railSetCompOp.run q s = afterWords r.val (sendCoef r.val (coefOf q.params) (modRail s (fin48 r.val) (Rail.keepCoef (coefOf q.params)))) := by
  simp only [railSetCompOp, railOp_eq h0, rail_val]
  exact if_neg h

theorem stopped_not_runs {x : RailSt} (h : x = .off ∨ x = .latchedOff) : x.runs = false := by
  obtain rfl | rfl := h <;> rfl

theorem Rail.keepCoef_stopped {x : Rail} (c : Coef) (h : x.st = .off ∨ x.st = .latchedOff) :
    x.keepCoef c = { x with loop := { x.loop with coef := c, coefNext := none } } := by
  rw [Rail.keepCoef, stopped_not_runs h]
  rfl

theorem Rail.keepCoef_eq (x : Rail) (c : Coef) :
    x.keepCoef c = if x.st = .off ∨ x.st = .latchedOff then { x with loop := { x.loop with coef := c, coefNext := none } } else x := by
  split
  next h => exact Rail.keepCoef_stopped c h
  next h =>
    rw [Rail.keepCoef, if_pos (runs_iff.mpr (not_or.mp h))]

theorem no_tick_change {x : Rail} {c : Coef} (h : x.st = .off ∨ x.st = .latchedOff ∨ c.tick = x.loop.coef.tick) :
    ¬ (x.st.runs = true ∧ c.tick ≠ x.loop.coef.tick) := by
  rintro ⟨hr, ht⟩
  obtain ⟨h1, h2⟩ := runs_iff.mp hr
  obtain h | h | h := h
  · exact h1 h
  · exact h2 h
  · exact ht h

theorem stopped_ne_stopping {x : RailSt} (h : x = .off ∨ x = .latchedOff) : x ≠ .stopping := by
  obtain rfl | rfl := h <;> decide

theorem stopped_ne_regulating {x : RailSt} (h : x = .off ∨ x = .latchedOff) : x ≠ .regulating := by
  obtain rfl | rfl := h <;> decide

/-- Settles O13: each command by its operation on one rail; the coefficient words by who listens on the rail bus. -/
theorem setPointsSlewsAndCoefficientsAreTaken : Obligations.SetPointsSlewsAndCoefficientsAreTaken := by
  have hset {p : List Byte} {r : Fin 48} : p.length = 4 → byteAt p 0 = r.val → railSetTargetOp.paramCheck 2 p = none :=
    railOp_paramCheck (by decide) (by decide) rfl rfl rfl
  refine ⟨fun q s r h0 hl => ⟨fun hr => ⟨fun hbad => ?_, fun hpin hst hk hc => ?_, fun hpin hst hk hc => ?_, fun hpin hst hk hc href => ?_,
    fun hpin hst hk hc href => ?_⟩, fun hr => ?_, fun hr => ?_⟩, fun q s r h0 => ⟨fun hr hl => ?_, fun hr hl => ⟨fun hst hw hret => ?_,
    fun hst hlist => ?_, fun h1 h2 ht => ?_⟩⟩⟩
  · refine completes_of_reply (o := railSetTargetOp) rfl hr (hset hl h0) ?_ (by rw [arrived_proto, hr.empty]) rfl
    rw [railSetTargetOp_refuses h0 (by simpa only [arrived_rails] using hbad), refuseRail, refuse, rail_val, arrived_rails]
    rfl
  · refine completes_of_reply (o := railSetTargetOp) rfl hr (hset hl h0) ?_ (by rw [arrived_proto, hr.empty]) rfl
    rw [railSetTargetOp_none h0 (by rwa [arrived_rails]) (by rwa [arrived_rails])]
    · rfl
    · rw [hk, hc]
      rfl
  · refine completes_of_reply (o := railSetTargetOp) rfl hr (hset hl h0)
      (t := modRail (arrived q s) r (fun x => { x with sp := { s.rails[r].sp with direct := true, code := fieldAt q.params 2 2 } })) ?_ ?_ ?_
    · rw [railSetTargetOp_some h0 (by rwa [arrived_rails]) (by rw [arrived_rails]; exact stopped_ne_stopping hst)
        (by rw [hk]; exact targetOf_direct hc), arrived_rails, if_neg (fun h => stopped_ne_regulating hst h.1), if_pos hst,
        setTarget_stopped (by rwa [arrived_rails])]
      rfl
    · rw [modRail_proto, arrived_proto, hr.empty]
    · refine ⟨rfl, fun k hk => ?_, ?_, ?_⟩
      · rw [modRail_other _ _ _ _ hk.symm, arrived_rails]
      · rw [modRail_self, arrived_rails]
      · rw [modRail_self]
        rfl
  · refine completes_of_reply (o := railSetTargetOp) rfl hr (hset hl h0) ?_ (by rw [arrived_proto, hr.empty]) rfl
    rw [railSetTargetOp_some h0 (by rwa [arrived_rails]) (by rw [arrived_rails, hst]; decide) (by rw [hk]; exact targetOf_direct hc),
      arrived_rails, if_pos ⟨hst, href⟩]
    rfl
  · refine completes_of_reply (o := railSetTargetOp) rfl hr (hset hl h0) (t := setTarget r.val { s.rails[r].sp with
      direct := false, index := byteAt q.params 1 } s.rails[r].sp.stored[Fin.ofNat 8 (byteAt q.params 1)] (arrived q s)) ?_ ?_ ?_
    · rw [railSetTargetOp_some h0 (by rwa [arrived_rails]) (by rw [arrived_rails, hst]; decide)
        (targetOf_stored hk (by rwa [arrived_rails])), arrived_rails, if_neg (fun h => href h.2), if_neg (by rw [hst]; decide)]
      rfl
    · rw [setTarget_only, arrived_proto, hr.empty]
    · refine ⟨setTarget_only .., fun k hk => ?_, ?_⟩
      · rw [setTarget_other hk, arrived_rails]
      · rw [setTarget_self, arrived_rails, Rail.retarget_slews (by exact hst) (by exact href)]
        exact ⟨rfl, rfl, rfl, rfl, rfl⟩
  · refine completes_of_reply (o := railStoreSetpointOp) rfl hr (railOp_paramCheck (by decide) (by decide) rfl rfl rfl hl h0) rfl ?_ ?_
    · rw [storeSetpoint_only, arrived_proto, hr.empty]
    · rw [railOp_eq h0]
      refine ⟨storeSetpoint_only .., fun k hk => ?_, ?_⟩
      · rw [storeSetpoint_other hk, arrived_rails]
      · have h := storeSetpoint_self r (byteAt q.params 1 % 8) (fieldAt q.params 2 2) (arrived q s)
        rwa [arrived_rails] at h
  · obtain ⟨c, hrun⟩ := railBindSelectOp_run h0 (arrived q s)
    have hpar := railOp_paramCheck (o := railBindSelectOp) (by decide) (by decide) rfl rfl rfl hl h0
    by_cases hc : natBit (byteAt q.params 1) 0 = true ∧ c = true
    · rw [if_pos hc] at hrun
      refine completes_of_reply (o := railBindSelectOp) rfl hr hpar hrun ?_ ?_
      · rw [formIndex_only, modRail_proto, arrived_proto, hr.empty]
      · refine ⟨?_, ?_, fun hb => absurd (hb.symm.trans hc.1) Bool.false_ne_true, fun k hk => ?_, ?_⟩
        · rw [(formIndex_bound ..).1, modRail_val_self]
          rfl
        · rw [(formIndex_bound ..).2, modRail_val_self]
          rfl
        · rw [formIndex_other hk, modRail_val_other _ hk, arrived_rails]
        · rw [formIndex_only, modRail_proto, modRail_hem, modRail_dom, modRail_map, arrived_dom, arrived_map, arrived_proto, arrived_hem]
          exact ⟨rfl, rfl, rfl, rfl⟩
    · rw [if_neg hc] at hrun
      refine completes_of_reply (o := railBindSelectOp) rfl hr hpar hrun ?_ ?_
      · rw [modRail_proto, arrived_proto, hr.empty]
      · rw [modRail_val_self, arrived_rails]
        refine ⟨rfl, rfl, fun hb => ⟨by rw [Rail.bind, hb]; rfl, rfl⟩, fun k hk => ?_, ?_⟩
        · rw [modRail_val_other _ hk, arrived_rails]
        · simp
  · refine completes_of_reply (o := railSetSlewOp) rfl hr (railOp_paramCheck (by decide) (by decide) rfl rfl rfl hl h0) rfl ?_ ?_
    · rw [modRail_proto, arrived_proto, hr.empty]
    · rw [railOp_eq h0, fin48_val]
      refine ⟨rfl, fun k hk => ?_, ?_⟩
      · rw [modRail_other _ _ _ _ hk.symm, arrived_rails]
      · rw [modRail_self, arrived_rails]
  · have hst' : (arrived q s).rails[r].st = .off ∨ (arrived q s).rails[r].st = .latchedOff := by rwa [arrived_rails]
    have hun : ∀ m ∈ coefWords r.val (coefOf q.params) (modRail (arrived q s) (fin48 r.val) (Rail.keepCoef (coefOf q.params))), m.waits = 0 :=
      fun m hm => (coefWords_waits hm).trans ((listeners_congr (by rw [modRail_map, arrived_map])
        (by rw [modRail_cells, arrived_cells]) r.val).trans (listeners_zero hret))
    refine completes_of_reply (o := railSetCompOp) rfl hr (railOp_paramCheck (by decide) (by decide) rfl rfl rfl hl h0)
      (t := sendCoef r.val (coefOf q.params) (modRail (arrived q s) (fin48 r.val) (Rail.keepCoef (coefOf q.params)))) ?_ ?_ ?_
    · rw [railSetCompOp_run h0 (by rw [stopped_not_runs hst']; simp), afterWords, sendCoef_eq, if_neg]
      · rfl
      · rw [wordsOut_post_unheard hun]
        · exact Bool.false_ne_true
        · unfold wordsOut at hw ⊢
          rwa [modRail_bus, arrived_bus]
    · rw [sendCoef_eq, post_only, modRail_proto, arrived_proto, hr.empty]
    · rw [sendCoef_eq, post_only]
      refine ⟨rfl, fun k hk => ?_, ?_⟩
      · dsimp only
        rw [modRail_val_other _ hk, arrived_rails]
      · dsimp only
        rw [modRail_val_self, Rail.keepCoef_stopped _ hst', arrived_rails]
        exact ⟨rfl, rfl, rfl, rfl, rfl, rfl, rfl, rfl, rfl⟩
  · have hlist' : listeners (modRail (arrived q s) (fin48 r.val) (Rail.keepCoef (coefOf q.params))) r.val ≠ 0 := by
      rw [listeners_congr (s := s) (by rw [modRail_map, arrived_map]) (by rw [modRail_cells, arrived_cells])]
      exact listeners_ne_zero hlist
    refine begins_of_run (o := railSetCompOp) rfl hr (railOp_paramCheck (by decide) (by decide) rfl rfl rfl hl h0)
      (t := sendCoef r.val (coefOf q.params) (modRail (arrived q s) (fin48 r.val) (Rail.keepCoef (coefOf q.params)))) ?_ ?_
    · rw [railSetCompOp_run h0 (by rw [arrived_rails]; exact no_tick_change hst), afterWords, if_pos (sendCoef_wordsOut hlist')]
    · refine ⟨?_, fun k hk => ?_, ?_, fun k w hk => ?_⟩
      · rw [sendCoef_eq, post_only]
        rfl
      · rw [sendCoef_eq, post_only]
        dsimp only
        rw [modRail_val_other _ hk, arrived_rails]
      · rw [sendCoef_eq, post_only]
        dsimp only
        rw [modRail_val_self, Rail.keepCoef_eq, arrived_rails]
      · have hm : configCast s r.val (coefWord + k) w ∈
            coefWords r.val (coefOf q.params) (modRail (arrived q s) (fin48 r.val) (Rail.keepCoef (coefOf q.params))) :=
          mem_coefWords.mpr ⟨k, w, hk, configCast_congr (by rw [modRail_map, arrived_map]) (by rw [modRail_cells, arrived_cells]) ..⟩
        exact mem_post _ hm (by rw [coefWords_waits hm]; exact hlist')
  · refine completes_of_reply (o := railSetCompOp) rfl hr (railOp_paramCheck (by decide) (by decide) rfl rfl rfl hl h0) ?_ (by rw [arrived_proto, hr.empty]) rfl
    simp only [railSetCompOp, railOp_eq h0, rail_val, arrived_rails]
    rw [if_pos ⟨runs_iff.mpr ⟨h1, h2⟩, ht⟩, refuseRail, refuse, rail_val, arrived_rails]
    rfl

end Sys2Proof.Machine
end

section
/-! PROOF. A rail started, stopped and abandoned (R113 to R118). -/

namespace Sys2Proof.Machine

theorem abandonRail_other {r k : Fin 48} (h : k ≠ r) (s : State) : (abandonRail r.val s).rails[k] = s.rails[k] := by
  rw [abandonRail, pgEvent_rails, leaveRail_other h, dropMembers, changeMembers_rails]
  rfl

/-- An abandoned rail is OFF. -/
theorem abandonRail_self (r : Fin 48) (s : State) : (abandonRail r.val s).rails[r] =
    { s.rails[r].leave .off with ph := { s.rails[r].ph.cancel with rot := (abandonRail r.val s).rails[r].ph.rot } } := by
  rw [abandonRail, pgEvent_rails, leaveRail_self, dropMembers, changeMembers_rails]
  rfl

/-- Of the rails only `r` differs, and it is as `Q` says. -/
structure RailIs (r : Fin 48) (s t : State) (Q : Rail → Prop) : Prop where
  /-- The others are unchanged. -/
  others : ∀ k : Fin 48, k ≠ r → t.rails[k] = s.rails[k]
  /-- The rail itself. -/
  self : Q t.rails[r]

theorem RailIs.congr {r : Fin 48} {s t u : State} {Q : Rail → Prop} (h : RailIs r s t Q) (he : u.rails = t.rails) : RailIs r s u Q :=
  ⟨fun k hk => by rw [he]; exact h.others k hk, by rw [he]; exact h.self⟩

theorem railIs_modRail {r : Fin 48} {s t : State} {f : Rail → Rail} {Q : Rail → Prop} (ht : t.rails = s.rails) (hf : Q (f s.rails[r])) :
    RailIs r s (modRail t (fin48 r.val) f) Q :=
  ⟨fun k hk => by rw [modRail_val_other _ hk, ht], by rw [modRail_val_self, ht]; exact hf⟩

theorem railIs_modRail_fin {r : Fin 48} {s t : State} {f : Rail → Rail} {Q : Rail → Prop} (ht : t.rails = s.rails) (hf : Q (f s.rails[r])) :
    RailIs r s (modRail t r f) Q := by
  have h := railIs_modRail (f := f) ht hf
  rwa [fin48_val] at h

theorem RailIs.sendPhase {r : Fin 48} {s t : State} {Q : Rail → Prop} (h : RailIs r s t Q) (b : PhaseCtx)
    (hQ : ∀ x n, Q x → Q { x with ph := { x.ph with rot := n } }) : RailIs r s (sendPhase r.val b t) Q :=
  ⟨fun k hk => by rw [sendPhase_other hk]; exact h.others k hk, by rw [sendPhase_self]; exact hQ _ _ h.self⟩

/-- A rail at the start of its start (R114). -/
theorem beginRail_of_leader {r : Fin 48} {s : State} {lead : Nat} (h : startLeader s r.val = some lead) :
    RailIs r s (beginRail r.val s) (fun x => x.st = .starting ∧ x.leader = lead ∧ x.loop.target = s.rails[r].sp.start ∧
      x.measuring = true ∧ x.released = false ∧ x.ph.sheds = 0) := by
  unfold beginRail
  rw [h]
  dsimp only
  split
  · refine RailIs.congr (railIs_modRail ?_ ?_) (spurEval_rails _)
    · rw [changeMembers_rails, assignRoles_rails]
    · exact ⟨rfl, rfl, rfl, rfl, rfl, rfl⟩
  · refine railIs_modRail ?_ ?_
    · rw [changeMembers_rails, assignRoles_rails]
    · exact ⟨rfl, rfl, rfl, rfl, rfl, rfl⟩

theorem startRail_powered {r : Nat} {s : State} (h : s.undervolt = false) : startRail r s = beginRail r s := by
  rw [startRail, if_neg (fun hc => absurd (h.symm.trans hc.1) Bool.false_ne_true)]

theorem startRail_undervolt {r lead : Nat} {s : State} (h : s.undervolt = true) (hl : startLeader s r = some lead) :
    startRail r s = abandonRail r (beginRail r s) := by
  rw [startRail, if_pos ⟨h, by rw [hl]; rfl⟩]

/-- A rail whose start has been released, or which regulates, stops. -/
theorem stopRail_stops {r : Fin 48} {s : State} (h : s.rails[r].st = .regulating ∨ s.rails[r].st = .slewing ∨
    (s.rails[r].st = .starting ∧ s.rails[r].released = true)) :
    RailIs r s (stopRail r.val false s) (fun x => x.st = .stopping ∧ x.sp.owed = false ∧ x.supervised = false) := by
  have hns : ¬ (s.rails[r].st = .starting ∧ s.rails[r].released = false) := by
    rintro ⟨h1, h2⟩
    rw [h1, h2] at h
    simp at h
  have hrun : s.rails[r].st = .starting ∨ s.rails[r].st = .regulating ∨ s.rails[r].st = .slewing := by tauto
  unfold stopRail
  dsimp only
  rw [rail_val]
  split
  · rw [if_neg hns]
    refine RailIs.sendPhase (railIs_modRail (changeMembers_rails ..) ?_) _ fun x n hx => hx
    split <;> exact ⟨rfl, rfl, rfl⟩
  · rw [if_neg hns]
    refine RailIs.sendPhase (railIs_modRail (changeMembers_rails ..) ?_) _ fun x n hx => hx
    split <;> exact ⟨rfl, rfl, rfl⟩
  · rw [if_neg hns]
    refine RailIs.sendPhase (railIs_modRail (changeMembers_rails ..) ?_) _ fun x n hx => hx
    split <;> exact ⟨rfl, rfl, rfl⟩
  all_goals simp_all

/-- One whose start has not been released is abandoned. -/
theorem stopRail_abandons {r : Fin 48} {s : State} (h : s.rails[r].st = .starting) (hrel : s.rails[r].released = false) :
    stopRail r.val false s = abandonRail r.val s := by
  unfold stopRail
  dsimp only
  rw [rail_val, h]
  exact if_pos ⟨rfl, hrel⟩

theorem abandonRail_is (r : Fin 48) (s : State) : RailIs r s (abandonRail r.val s) (fun x => x.st = .off) :=
  ⟨fun _ hk => abandonRail_other hk s, by rw [abandonRail_self]; rfl⟩

/-- Nothing of an abandoned rail waits to be armed (R116). -/
theorem abandonRail_armQ (r : Nat) (s : State) : (abandonRail r s).armQ = s.armQ.filter (fun x => decide (x.1 ≠ r)) := by
  rw [abandonRail, pgEvent_armQ, leaveRail_only]
  dsimp only
  rw [dropMembers_armQ]
  rfl

theorem railEnableOp_paramCheck {p : List Byte} {r : Fin 48} (h : p = [byte r.val]) : byteAt p 0 = r.val ∧ p.length = 1 := by
  subst h
  have := r.isLt
  refine ⟨?_, rfl⟩
  simp [byteAt, byte]
  omega

theorem slotBound_false {s : State} {r : Nat} (h : slotOf s r = none ∨ s.dom.st = .down) : slotBound s r = false := by
  unfold slotBound
  obtain h | h := h <;> simp [h]

theorem slotBound_true {s : State} {r : Nat} (h : slotOf s r ≠ none) (hd : s.dom.st ≠ .down) : slotBound s r = true := by
  simp [slotBound, Option.isSome_iff_ne_none, h, hd]

theorem get48 {α : Type} (v : Vector α 48) (r : Fin 48) : v[fin48 r.val] = v[r] := by simp [fin48]

theorem entry_val (s : State) (r : Fin 48) : s.entry r.val = s.map.active[r] := get48 ..

theorem startRefused_none {s : State} {r : Fin 48} (hp : s.map.probe ≠ .running) (ha : s.map.applying = false) (hc : s.map.activeChk[r] = 0)
    (hv : s.map.active[r].valid = true) (hs : s.rails[r].sp.start ≠ 0) (ho : s.rails[r].prot.ovTrip = false)
    (hu : s.rails[r].prot.uvTrip = false) : startRefused s r.val = none := by
  unfold startRefused
  rw [rail_val, entry_val, get48, if_neg (by simp [hp, ha]), if_neg]
  rintro (h | h | h | h | h)
  · exact h hc
  · exact absurd (hv.symm.trans h) (by decide)
  · exact hs h
  · exact absurd (ho.symm.trans h) (by decide)
  · exact absurd (hu.symm.trans h) (by decide)

/-- RAIL_ENABLE of a rail that may start. -/
theorem railEnableOp_starts {q : Req} {s : State} {r : Fin 48} (h0 : byteAt q.params 0 = r.val) (hst : s.rails[r].st = .off)
    (hb : slotBound s r.val = false) (hp : s.map.probe ≠ .running) (ha : s.map.applying = false) (href : startRefused s r.val = none) :
    railEnableOp.run q s = started (startRail r.val s) := by
  simp only [railEnableOp, railOp_eq h0, rail_val, hb, href]
  rw [if_neg (by simp [hp, ha]), if_neg (not_not.mpr hst), if_neg Bool.false_ne_true]

/-- Settles O12: the start by its refusals and by what beginning a rail makes of it, the stop by whether the start was released. -/
theorem railEnableAndDisableMoveTheRail : Obligations.RailEnableAndDisableMoveTheRail := by
  refine ⟨fun q s r hr hpar => ?_, fun q s r hr hpar => ?_⟩
  · obtain ⟨h0, hl⟩ := railEnableOp_paramCheck hpar
    have hc : railEnableOp.paramCheck 2 q.params = none := railOp_paramCheck (by decide) (by decide) rfl rfl rfl hl h0
    refine ⟨fun hmap => ?_, fun hp ha hst => ?_, fun hp ha hst hslot hd => ?_, fun hst hslot hp ha hchk hval hsp hov huv lead hlead => ?_⟩
    · have hm : (arrived q s).map.probe = .running ∨ (arrived q s).map.applying = true := by rwa [arrived_map]
      refine completes_of_reply (o := railEnableOp) rfl hr hc ?_ (by rw [arrived_proto, hr.empty]) rfl
      simp only [railEnableOp]
      rw [if_pos hm, refuse, mapCode, mapCode, arrived_map]
      rfl
    · refine completes_of_reply (o := railEnableOp) rfl hr hc ?_ (by rw [arrived_proto, hr.empty]) rfl
      simp only [railEnableOp, railOp_eq h0, rail_val, arrived_map, arrived_rails]
      rw [if_neg (by simp [hp, ha]), if_pos hst, refuseRail, refuse, rail_val, arrived_rails]
      rfl
    · have hb : slotBound (arrived q s) r.val = true := by
        have := slotBound_true hslot hd
        unfold slotBound slotOf at this ⊢
        rwa [arrived_dom]
      refine completes_of_reply (o := railEnableOp) rfl hr hc ?_ (by rw [arrived_proto, hr.empty]) rfl
      simp only [railEnableOp, railOp_eq h0, rail_val, arrived_map, arrived_rails, hb]
      rw [if_neg (by simp [hp, ha]), if_neg (not_not.mpr hst), if_pos trivial, refuse, arrived_dom]
      rfl
    · have hb : slotBound (arrived q s) r.val = false := by
        have := slotBound_false hslot
        unfold slotBound slotOf at this ⊢
        rwa [arrived_dom]
      have hrun : railEnableOp.run q (arrived q s) = started (startRail r.val (arrived q s)) :=
        railEnableOp_starts h0 (by rwa [arrived_rails]) hb (by rwa [arrived_map]) (by rwa [arrived_map])
          (startRefused_none (by rwa [arrived_map]) (by rwa [arrived_map]) (by rwa [arrived_map]) (by rwa [arrived_map])
            (by rwa [arrived_rails]) (by rwa [arrived_rails]) (by rwa [arrived_rails]))
      have hl' : startLeader (arrived q s) r.val = some lead := by
        rw [← hlead]
        simp only [startLeader, State.entry, members_congr (arrived_map q s), cell_congr (arrived_cells q s), arrived_map]
      have hbegin := beginRail_of_leader hl'
      refine ⟨fun hv => ?_, fun hv => ?_⟩
      · have hstart := startRail_undervolt (s := arrived q s) (by simpa [State.undervolt] using hv) hl'
        refine completes_of_reply (o := railEnableOp) rfl hr hc hrun ?_ ⟨?_, fun k hk => ?_, ?_⟩
        · rw [startRail_proto, arrived_proto, hr.empty]
        · rw [hstart]
          exact (abandonRail_is r _).self
        · rw [hstart, (abandonRail_is r _).others k hk, hbegin.others k hk, arrived_rails]
        · rw [startRail_dom, startRail_map, startRail_proto, arrived_dom, arrived_map, arrived_proto]
          exact ⟨rfl, rfl, rfl⟩
      · have hstart := startRail_powered (r := r.val) (s := arrived q s) (by simpa [State.undervolt] using hv)
        obtain ⟨h1, h2, h3, h4, h5, h6⟩ := hbegin.self
        refine completes_of_reply (o := railEnableOp) rfl hr hc hrun ?_ ?_
        · rw [startRail_proto, arrived_proto, hr.empty]
        · rw [hstart]
          refine ⟨h1, h2, h3.trans (by rw [arrived_rails]), h4, h5, h6, fun k hk => ?_, ?_⟩
          · rw [hbegin.others k hk, arrived_rails]
          · rw [beginRail_dom, beginRail_map, beginRail_proto, beginRail_hem, arrived_dom, arrived_map, arrived_proto, arrived_hem]
            exact ⟨rfl, rfl, rfl, rfl⟩
  · obtain ⟨h0, hl⟩ := railEnableOp_paramCheck hpar
    have hc : railDisableOp.paramCheck 2 q.params = none := railOp_paramCheck (by decide) (by decide) rfl rfl rfl hl h0
    refine ⟨fun hst => ?_, fun hslot => ?_⟩
    · refine completes_of_reply (o := railDisableOp) rfl hr hc ?_ (by rw [arrived_proto, hr.empty]) rfl
      simp only [railDisableOp, railOp_eq h0, rail_val, arrived_rails]
      rw [if_pos, refuseRail, refuse, rail_val, arrived_rails]
      · rfl
      · obtain h | h | h := hst <;> rw [h] <;> decide
    · have hb : slotBound (arrived q s) r.val = false := by
        have := slotBound_false hslot
        unfold slotBound slotOf at this ⊢
        rwa [arrived_dom]
      have hrun (h : ¬ (s.rails[r].st ≠ .starting ∧ s.rails[r].st.regulates = false)) :
          railDisableOp.run q (arrived q s) = started (stopRail r.val false (arrived q s)) := by
        simp only [railDisableOp, railOp_eq h0, rail_val, arrived_rails, hb]
        rw [if_neg h, if_neg Bool.false_ne_true]
      refine ⟨fun hst => ?_, fun hst hrel => ?_⟩
      · have hstop := stopRail_stops (s := arrived q s) (r := r) (by rwa [arrived_rails])
        obtain ⟨h1, h2, h3⟩ := hstop.self
        refine completes_of_reply (o := railDisableOp) rfl hr hc (hrun ?_) ?_ ⟨h1, h2, h3, fun k hk => ?_, ?_⟩
        · obtain h | h | h := hst
          · rw [h]
            decide
          · rw [h]
            decide
          · exact fun hn => hn.1 h.1
        · rw [stopRail_proto, arrived_proto, hr.empty]
        · rw [hstop.others k hk, arrived_rails]
        · rw [stopRail_dom, stopRail_map, arrived_dom, arrived_map]
          exact ⟨rfl, rfl⟩
      · have hab := stopRail_abandons (s := arrived q s) (r := r) (by rwa [arrived_rails]) (by rwa [arrived_rails])
        refine completes_of_reply (o := railDisableOp) rfl hr hc (hrun fun hn => hn.1 hst) ?_ ⟨?_, fun x hx => ?_, fun k hk => ?_, ?_⟩
        · rw [stopRail_proto, arrived_proto, hr.empty]
        · rw [hab]
          exact (abandonRail_is r _).self
        · rw [hab, abandonRail_armQ] at hx
          simpa using (List.mem_filter.mp hx).2
        · rw [hab, (abandonRail_is r _).others k hk, arrived_rails]
        · rw [stopRail_dom, stopRail_map, arrived_dom, arrived_map]
          exact ⟨rfl, rfl⟩

end Sys2Proof.Machine
end

section
/-! PROOF. The happenings of a rail's start and stop, and the pins (R31, R44, R114 to R124). -/

namespace Sys2Proof.Machine

/-! ## A converter's readings held -/

theorem holdSystem_only (ch : Nat) (v : Int) (s : State) :
    holdSystem ch v s = { s with tlm := (holdSystem ch v s).tlm, free := (holdSystem ch v s).free } := rfl

/-- A start's measurement (R114): the readings are held, whatever they come to. -/
def measured (r : Fin 48) (vin : Nat) (sense co : Int) (s : State) : State :=
  holdSystem (0x90 + r.val) (quot co 100) (holdSystem r.val (quot sense 100) (holdSystem 0xC0 vin s))

theorem measured_only (r : Fin 48) (vin : Nat) (sense co : Int) (s : State) :
    measured r vin sense co s = { s with tlm := (measured r vin sense co s).tlm, free := (measured r vin sense co s).free } := rfl

theorem prestart_waits {r : Fin 48} {vin : Nat} {sense co : Int} {s : State} (h : s.rails[r].st ≠ .starting ∨ s.rails[r].measuring = false ∨
    (s.tlm.busy[Fin.ofNat 4 s.rails[r].measOn]).isSome = true) : execPrestartMeasureDone r vin sense co s = .next s := by
  unfold execPrestartMeasureDone
  dsimp only
  rw [if_pos h]

theorem prestart_fails {r : Fin 48} {vin : Nat} {sense co : Int} {s : State} (h : ¬ (s.rails[r].st ≠ .starting ∨ s.rails[r].measuring = false ∨
    (s.tlm.busy[Fin.ofNat 4 s.rails[r].measOn]).isSome = true)) (hd : 200000 < (clampInt 0 6553500 sense - clampInt 0 6553500 co).natAbs) :
    execPrestartMeasureDone r vin sense co s = .next (abandonStart r.val (changeMembers (measured r vin sense co s) r.val
      (fun _ c => { c with flags := c.flags ||| 0x4 }))) := by
  unfold execPrestartMeasureDone
  dsimp only
  rw [if_neg h, if_pos hd]
  rfl

theorem prestart_ready {x : Rail} {b : Option α} (hst : x.st = .starting) (hm : x.measuring = true) (hb : b = none) :
    ¬ (x.st ≠ .starting ∨ x.measuring = false ∨ b.isSome = true) := by
  simp [hst, hm, hb]

/-- The state in which a start's leader is loaded. -/
def preloaded (r : Fin 48) (vin : Nat) (sense co : Int) (s : State) : State :=
  changeMembers (modRail (measured r vin sense co s) r
    (fun y => y.preload (clampInt 0 6553500 sense / 500).toNat (min 65535 vin))) r.val
      (fun _ c => { c with diodeEm := s.rails[r].loop.coef.demStart, demNext := none, senseLocal := false })

theorem prestart_loads {r : Fin 48} {vin : Nat} {sense co : Int} {s : State} (h : ¬ (s.rails[r].st ≠ .starting ∨ s.rails[r].measuring = false ∨
    (s.tlm.busy[Fin.ofNat 4 s.rails[r].measOn]).isSome = true)) (hd : ¬ 200000 < (clampInt 0 6553500 sense - clampInt 0 6553500 co).natAbs) :
    ∃ t, execPrestartMeasureDone r vin sense co s = .next t ∧ t = { preloaded r vin sense co s with armQ := t.armQ } := by
  unfold execPrestartMeasureDone
  dsimp only
  rw [if_neg h, if_neg hd]
  exact ⟨_, rfl, rfl⟩

theorem changeMembers_get (s : State) (r : Nat) (f : Nat → Cell → Cell) (c : Fin 256) :
    (changeMembers s r f).cells[c] =
      if s.cells[c].st = .retired then s.cells[c] else if (s.memberSet r).getLsbD c.val = true then f c.val s.cells[c] else s.cells[c] :=
  changeCells_get s _ c

theorem abandonStart_is {r : Fin 48} {s : State} (h : s.rails[r].qualifying = false) :
    RailIs r s (abandonStart r.val s) (fun x => x.st = .off ∧ x.sp.startFail = true) := by
  unfold abandonStart
  dsimp only
  rw [rail_val, h, if_neg Bool.false_ne_true]
  refine ⟨fun k hk => ?_, ?_⟩
  · rw [abandonRail_other hk, modRail_val_other _ hk]
  · rw [abandonRail_self, modRail_val_self]
    exact ⟨rfl, rfl⟩

/-! ## The arming queue -/

theorem cellBit_ne_zero {n : Nat} : cellBit n ≠ 0 := by
  intro h
  have hb := cellBit_get n ⟨n % 256, Nat.mod_lt _ (by decide)⟩
  rw [h, zero_get] at hb
  simp at hb

theorem mem_of_post {ms : List Msg} {m : Msg} {s : State} (h : m ∈ (post ms s).bus) : m ∈ s.bus ∨ m ∈ ms := by
  simp only [post, List.mem_append, List.mem_filter] at h
  exact h.imp And.left And.left

/-! ## The pins -/

theorem selSet_get (x : BitVec 12) (pin k : Fin 12) (level : Bool) :
    (if level then x ||| BitVec.ofNat 12 (2 ^ pin.val) else x &&& ~~~ BitVec.ofNat 12 (2 ^ pin.val)).getLsbD k.val =
      if k = pin then level else x.getLsbD k.val := by
  have hb : (BitVec.ofNat 12 (2 ^ pin.val)).getLsbD k.val = decide (k = pin) := by
    rw [BitVec.getLsbD_ofNat, Nat.testBit_two_pow, decide_eq_true k.isLt, Bool.true_and, decide_eq_decide]
    omega
  cases level
  · rw [if_neg Bool.false_ne_true, BitVec.getLsbD_and, BitVec.getLsbD_not, hb, decide_eq_true k.isLt]
    by_cases h : k = pin <;> simp [h]
  · rw [if_pos rfl, BitVec.getLsbD_or, hb]
    by_cases h : k = pin <;> simp [h]

theorem foldl_formIndex_other {k : Fin 48} (l : List Nat) (h : ∀ n ∈ l, n < 48 ∧ n ≠ k.val) (s : State) :
    (l.foldl (fun t r => formIndex r t) s).rails[k] = s.rails[k] := by
  induction l generalizing s with
  | nil => rfl
  | cons n l ih =>
    obtain ⟨hn, hne⟩ := h n (by simp)
    rw [List.foldl_cons, ih (fun m hm => h m (by simp [hm]))]
    exact formIndex_other (r := ⟨n, hn⟩) (fun he => hne (congrArg Fin.val he).symm) s

/-- The pin word with a pin at a level. -/
def pinned (pin : Fin 12) (level : Bool) (s : State) : State :=
  { s with dom := { s.dom with sel := if level then s.dom.sel ||| BitVec.ofNat 12 (2 ^ pin.val)
                                      else s.dom.sel &&& ~~~ BitVec.ofNat 12 (2 ^ pin.val) } }

/-- A pin that changes forms the index anew of rails bound to pins (R123). -/
theorem selChange_is (pin : Fin 12) (level : Bool) (s : State) : ∃ l : List Nat, (∀ n ∈ l, n < 48 ∧ (s.rail n).sp.pinBound = true) ∧
    execSelChange pin level s = .next (l.foldl (fun t r => formIndex r t) (pinned pin level s)) := by
  by_cases hc : (pinned pin level s).dom.sel = s.dom.sel
  · exact ⟨[], by simp, congrArg _ (if_pos hc)⟩
  · refine ⟨(upto 48).filter (fun r => (s.rail r).sp.pinBound && (upto 3).any (fun k => decide
      ((s.rail r).sp.selBind.toNat / 16 ^ k % 16 = pin.val))), fun n hn => ?_, congrArg _ (if_neg hc)⟩
    obtain ⟨hu, hb⟩ := List.mem_filter.mp hn
    exact ⟨mem_upto.mp hu, (Bool.and_eq_true_iff.mp hb).1⟩

/-- Settles O14: each happening by what it makes of the one rail and of its members. -/
theorem startSequenceHappenings : Obligations.StartSequenceHappenings := by
  refine ⟨fun r vin sense co a b s hst hm hbusy ha hb => ⟨fun h1 h2 hv => ?_, fun hd hq => ?_⟩, fun r vin sense co s h => ?_, fun s => ?_,
    fun r s hst hdem hleft hneg => ?_, fun r s hst hserve => ?_, fun r s hst => ?_, fun pin level s => ?_⟩
  · obtain ⟨t, ht, heq⟩ := prestart_loads (vin := vin) (sense := sense) (co := co) (prestart_ready hst hm hbusy) (by subst ha hb; omega)
    refine ⟨t, ht, ?_⟩
    have hvin : min 65535 vin ≠ 0 := by omega
    have his : RailIs r s t (fun x => x = s.rails[r].preload (clampInt 0 6553500 sense / 500).toNat (min 65535 vin)) := by
      refine RailIs.congr (t := preloaded r vin sense co s) ?_ (by rw [heq])
      exact RailIs.congr (railIs_modRail_fin (s := s) (t := measured r vin sense co s) rfl rfl) (changeMembers_rails ..)
    have hself := his.self
    refine ⟨?_, ?_, ?_, ?_, ?_, his.others, ?_⟩
    · rw [hself]
      exact hst
    · rw [hself]
      rfl
    · rw [hself, ← ha]
      rfl
    · rw [hself, ← ha, Rail.preload, dutyPreset, if_neg hvin]
    · rw [hself]
      rfl
    · rw [heq]
      refine ⟨changeMembers_dom .., changeMembers_map .., changeMembers_proto .., fun c hc hret => ?_⟩
      have hget := changeMembers_get (modRail (measured r vin sense co s) r
        (fun y => y.preload (clampInt 0 6553500 sense / 500).toNat (min 65535 vin))) r.val
          (fun _ c => { c with diodeEm := s.rails[r].loop.coef.demStart, demNext := none, senseLocal := false }) c
      rw [if_neg (by exact hret), if_pos (by exact hc)] at hget
      exact congrArg Cell.senseLocal hget
  · rw [show exec (.prestartMeasureDone r vin sense co) s = execPrestartMeasureDone r vin sense co s from rfl,
      prestart_fails (prestart_ready hst hm hbusy) (by subst ha hb; omega)]
    have his := abandonStart_is (r := r) (s := changeMembers (measured r vin sense co s) r.val (fun _ c => { c with flags := c.flags ||| 0x4 }))
      (by rw [changeMembers_rails]; exact hq)
    refine ⟨_, rfl, his.self.1, his.self.2, fun k hk => ?_⟩
    rw [his.others k hk, changeMembers_rails]
    rfl
  · refine prestart_waits (h.imp_right fun hb => .inr ?_)
    exact Option.isSome_iff_ne_none.mpr hb
  · refine ⟨_, rfl, ?_, ?_, fun x hx hlt => ?_, fun m hm => ?_⟩
    · rw [post_only]
    · simp
    · refine mem_post s (List.mem_map.mpr ⟨x.2, List.mem_map_of_mem hx, rfl⟩) cellBit_ne_zero
    · refine (mem_of_post hm).imp_right fun h => ?_
      obtain ⟨n, hn, rfl⟩ := List.mem_map.mp h
      obtain ⟨x, hx, rfl⟩ := List.mem_map.mp hn
      exact ⟨x, hx, rfl⟩
  · have hx : exec (.demHoldEnd r) s = execDemHoldEnd r s := rfl
    have hreg : s.rails[r].st.regulates = true := by
      obtain h | h := hst <;> rw [h] <;> rfl
    rw [hx, execDemHoldEnd]
    dsimp only
    rw [if_pos ⟨hreg, hdem, hleft, hneg⟩]
    have his : RailIs r s (modRail s r (fun y => { y with loop := { y.loop with dem := false } }))
      (fun x => x = { s.rails[r] with loop := { s.rails[r].loop with dem := false } }) := railIs_modRail_fin rfl rfl
    have his' := his.congr (changeMembers_rails _ r.val (fun _ c => { c with demNext := some false }))
    refine ⟨_, rfl, his'.self, his'.others, ?_⟩
    rw [changeMembers_dom, changeMembers_map]
    exact ⟨rfl, rfl⟩
  · have hx : exec (.railStopped r) s = execRailStopped r s := rfl
    have hall : ((s.members r.val).all fun n => !(s.cell n).st.serves) = true := List.all_eq_true.mpr fun n hn => by rw [hserve n hn]; rfl
    rw [hx, execRailStopped, if_pos ⟨hst, hall⟩]
    have his := RailIs.congr (u := pgEvent r.val (modRail s r (fun x => x.leave .off)))
      (railIs_modRail_fin (s := s) (t := s) (r := r) (f := fun x => x.leave .off) (Q := fun x => x.st = .off) rfl rfl) (pgEvent_rails ..)
    refine ⟨_, rfl, his.self, his.others, ?_⟩
    rw [pgEvent, pulse_only]
    rfl
  · exact congrArg _ (if_neg fun h => hst h.1)
  · obtain ⟨l, hl, hx⟩ := selChange_is pin level s
    have hd : (l.foldl (fun t r => formIndex r t) (pinned pin level s)).dom = (pinned pin level s).dom :=
      foldl_dom _ (fun t r => formIndex_dom r t) l _
    refine ⟨_, hx, ?_, ?_, fun k hk => ?_, fun r hr => ?_, ?_⟩
    · rw [hd]
      rfl
    · rw [hd]
      exact (selSet_get s.dom.sel pin pin level).trans (if_pos rfl)
    · rw [hd]
      exact (selSet_get s.dom.sel pin k level).trans (if_neg hk)
    · rw [foldl_formIndex_other l fun n hn => ⟨(hl n hn).1, fun he => ?_⟩]
      · rfl
      · have hb := (hl n hn).2
        rw [he, rail_val, hr] at hb
        exact Bool.false_ne_true hb
    · rw [foldl_map _ (fun t r => formIndex_map r t), foldl_proto _ (fun t r => formIndex_proto r t), foldl_hem _ (fun t r => formIndex_hem r t)]
      exact ⟨rfl, rfl, rfl⟩

end Sys2Proof.Machine
end

section
/-! PROOF. Phases, firing order and creases: their commands (R145 to R171). -/

namespace Sys2Proof.Machine

theorem byteAt_drop (p : List Byte) (n k : Nat) : byteAt (p.drop n) k = byteAt p (n + k) := by
  simp [byteAt, List.getD_eq_getElem?_getD]

theorem fieldAt_drop (p : List Byte) (n k w : Nat) : fieldAt (p.drop n) k w = fieldAt p (n + k) w := by
  simp [fieldAt]

theorem oneRail_modRail {r : Fin 48} {s : State} (f : Rail → Rail) : OneRail r s (modRail s (fin48 r.val) f) (f s.rails[r]) :=
  ⟨rfl, modRail_val_self .., fun _ hk => modRail_val_other _ hk _⟩

/-! ## A crease changed -/

theorem changeCrease_only (x : Fin 8) (f : Crease → Crease) (s : State) :
    changeCrease x f s = { s with crease := (changeCrease x f s).crease, router := (changeCrease x f s).router
                                  seam := (changeCrease x f s).seam, pwr := (changeCrease x f s).pwr, clk := (changeCrease x f s).clk } := by
  unfold changeCrease
  rw [pulseIf_only]

theorem changeCrease_crease (x : Fin 8) (f : Crease → Crease) (s : State) :
    (changeCrease x f s).crease = upd s.crease x (f s.crease[x]) := by
  unfold changeCrease
  rw [pulseIf_crease]

theorem changeCrease_self (x : Fin 8) (f : Crease → Crease) (s : State) : (changeCrease x f s).crease[x] = f s.crease[x] := by
  rw [changeCrease_crease, upd_self]

theorem changeCrease_other {x y : Fin 8} (h : y ≠ x) (f : Crease → Crease) (s : State) : (changeCrease x f s).crease[y] = s.crease[y] := by
  rw [changeCrease_crease, upd_other _ _ _ _ h.symm]

/-- A context whose rail another one takes (R158). -/
def Crease.release (c : Crease) : Crease :=
  { c with rail := none, st := .disabled, period := none, nbE := none, strobes := [], lastOdd := none }

/-- Context `x` takes rail `r` from context `y`. -/
def takeRail (x : Fin 8) (r : Nat) (y : Fin 8) (s : State) : State :=
  if y ≠ x ∧ r ≤ 47 ∧ s.crease[y].rail = some r then changeCrease y Crease.release s else s

theorem takeRail_only (x : Fin 8) (r : Nat) (y : Fin 8) (s : State) :
    takeRail x r y s = { s with crease := (takeRail x r y s).crease, router := (takeRail x r y s).router
                                seam := (takeRail x r y s).seam, pwr := (takeRail x r y s).pwr, clk := (takeRail x r y s).clk } := by
  unfold takeRail
  split
  · rw [changeCrease_only]
  · rfl

theorem takeRail_self (x : Fin 8) (r : Nat) (y : Fin 8) (s : State) : (takeRail x r y s).crease[y] =
    if y ≠ x ∧ r ≤ 47 ∧ s.crease[y].rail = some r then s.crease[y].release else s.crease[y] := by
  unfold takeRail
  split
  · rw [changeCrease_self]
  · rfl

theorem takeRail_other (x : Fin 8) (r : Nat) {y z : Fin 8} (h : z ≠ y) (s : State) : (takeRail x r y s).crease[z] = s.crease[z] := by
  unfold takeRail
  split
  · rw [changeCrease_other h]
  · rfl

theorem foldl_takeRail_only (x : Fin 8) (r : Nat) (l : List (Fin 8)) (s : State) :
    l.foldl (fun t y => takeRail x r y t) s = { s with
      crease := (l.foldl (fun t y => takeRail x r y t) s).crease, router := (l.foldl (fun t y => takeRail x r y t) s).router
      seam := (l.foldl (fun t y => takeRail x r y t) s).seam, pwr := (l.foldl (fun t y => takeRail x r y t) s).pwr
      clk := (l.foldl (fun t y => takeRail x r y t) s).clk } := by
  induction l generalizing s with
  | nil => rfl
  | cons y l ih =>
    rw [List.foldl_cons, ih, takeRail_only]

theorem foldl_takeRail_not_mem (x : Fin 8) (r : Nat) {l : List (Fin 8)} {z : Fin 8} (h : z ∉ l) (s : State) :
    (l.foldl (fun t y => takeRail x r y t) s).crease[z] = s.crease[z] := by
  induction l generalizing s with
  | nil => rfl
  | cons y l ih =>
    rw [List.foldl_cons, ih (List.not_mem_of_not_mem_cons h), takeRail_other x r (List.ne_of_not_mem_cons h)]

/-- Each context is released once, as it stands (R158). -/
theorem foldl_takeRail_mem (x : Fin 8) (r : Nat) {l : List (Fin 8)} (hl : l.Nodup) {z : Fin 8} (h : z ∈ l) (s : State) :
    (l.foldl (fun t y => takeRail x r y t) s).crease[z] =
      if z ≠ x ∧ r ≤ 47 ∧ s.crease[z].rail = some r then s.crease[z].release else s.crease[z] := by
  induction l generalizing s with
  | nil => exact absurd h (List.not_mem_nil)
  | cons y l ih =>
    obtain ⟨hy, hl⟩ := List.nodup_cons.mp hl
    rw [List.foldl_cons]
    obtain rfl | hz := List.mem_cons.mp h
    · rw [foldl_takeRail_not_mem x r hy, takeRail_self]
    · have hne : z ≠ y := fun he => hy (he ▸ hz)
      rw [ih hl hz, takeRail_other x r hne]

/-! ## The record of a context -/

/-- The record written, before its effects on the context's state. -/
theorem Crease.configure_record (c : Crease) (b : List Byte) (v : Bool) :
    (c.configure b v).rail = (if byteAt b 0 ≤ 47 then some (byteAt b 0) else none) ∧ (c.configure b v).bins = binsOf (byteAt b 2) ∧
      (c.configure b v).enable = natBit (byteAt b 1) 0 := by
  unfold Crease.configure
  dsimp only
  generalize (if byteAt b 0 ≤ 47 then some (byteAt b 0) else none) = rail
  repeat' split
  all_goals exact ⟨rfl, rfl, rfl⟩

/-- A context is disabled unless it is enabled for a rail (R158). -/
theorem Crease.configure_disabled (c : Crease) (b : List Byte) (v : Bool) :
    (c.configure b v).st = .disabled ↔ 47 < byteAt b 0 ∨ natBit (byteAt b 1) 0 = false := by
  have hrail : (if byteAt b 0 ≤ 47 then some (byteAt b 0) else none) = none ↔ 47 < byteAt b 0 := by
    split <;> simp <;> omega
  rw [← hrail]
  unfold Crease.configure
  dsimp only
  generalize (if byteAt b 0 ≤ 47 then some (byteAt b 0) else none) = rail
  split
  next h => exact iff_of_true rfl h
  next h =>
    refine iff_of_false ?_ h
    split
    · exact CreaseSt.noConfusion
    next hst =>
      split
      · exact CreaseSt.noConfusion
      · split
        · exact CreaseSt.noConfusion
        · exact hst

theorem creaseConfigOp_run (q : Req) (s : State) : ∃ v, creaseConfigOp.run q s = done0
    ((List.finRange 8).foldl (fun t y => takeRail (Fin.ofNat 8 (byteAt q.params 0)) (byteAt (q.params.drop 4) 0) y t)
      (changeCrease (Fin.ofNat 8 (byteAt q.params 0)) (fun c => c.configure (q.params.drop 4) v) s)) := ⟨_, rfl⟩

theorem creaseConfigOp_paramCheck {p : List Byte} {x : Fin 8} (h0 : byteAt p 0 = x.val) (hl : p.length = 16)
    (h4 : byteAt p 4 ≤ 47 ∨ byteAt p 4 = 0xFF) : creaseConfigOp.paramCheck 2 p = none := by
  have hx : x.val ≤ 7 := by omega
  simp [OpSpec.paramCheck, creaseConfigOp, plenLimit, Plen.expected, hl, creaseBad, firstBad, fieldAt_one, h0, h4, hx]

theorem creaseClearOp_paramCheck {p : List Byte} {x : Fin 8} (h0 : byteAt p 0 = x.val) (hl : p.length = 1) :
    creaseClearOp.paramCheck 2 p = none := by
  have hx : x.val ≤ 7 := by omega
  simp [OpSpec.paramCheck, creaseClearOp, plenLimit, Plen.expected, hl, creaseBad, firstBad, fieldAt_one, h0, hx]

theorem fin8_of {n : Nat} {x : Fin 8} (h : n = x.val) : Fin.ofNat 8 n = x := by
  subst h
  simp

/-- Settles O15: each command by its operation on one rail or one crease context. -/
theorem phaseAndCreaseCommandsTakeEffect : Obligations.PhaseAndCreaseCommandsTakeEffect := by
  refine ⟨fun q s r h0 => ⟨fun hr hl => ⟨fun hlt => ?_, fun hle => ?_⟩, fun hr hl => ?_⟩, fun q s x h0 => ⟨fun hr hl h4 => ?_, fun hr hl => ?_⟩⟩
  · have hpol : (policyOf (q.params.drop 4)).shedI < (policyOf (q.params.drop 4)).addI := by
      simpa only [policyOf, fieldAt_drop] using hlt
    refine completes_of_reply (o := phasePolicyOp) rfl hr (railOp_paramCheck (by decide) (by decide) rfl rfl rfl hl h0) (if_pos hpol) ?_ ?_
    · rw [modRail_proto, arrived_proto, hr.empty]
    · rw [railOp_eq h0]
      have h := oneRail_modRail (r := r) (s := arrived q s) (fun x => { x with ph := { x.ph with polNext := some (policyOf (q.params.drop 4)) } })
      rwa [arrived_rails] at h
  · have hpol : ¬ (policyOf (q.params.drop 4)).shedI < (policyOf (q.params.drop 4)).addI := by
      simpa only [policyOf, fieldAt_drop, Nat.not_lt] using hle
    exact completes_of_reply (o := phasePolicyOp) rfl hr (railOp_paramCheck (by decide) (by decide) rfl rfl rfl hl h0) (if_neg hpol)
      (by rw [arrived_proto, hr.empty]) rfl
  · refine completes_of_reply (o := firingOrderOp) rfl hr (railOp_paramCheck (by decide) (by decide) rfl rfl rfl hl h0) rfl ?_ ?_
    · rw [modRail_proto, arrived_proto, hr.empty]
    · rw [railOp_eq h0]
      have h := oneRail_modRail (r := r) (s := arrived q s) (fun x => { x with ph := { x.ph with
        orderNext := some (decide (byteAt q.params 1 = 1), decide (byteAt q.params 2 = 1), max 1 (fieldAt q.params 4 2)) } })
      rwa [arrived_rails] at h
  · obtain ⟨v, hrun⟩ := creaseConfigOp_run q (arrived q s)
    rw [fin8_of h0] at hrun
    have hget (y : Fin 8) := foldl_takeRail_mem x (byteAt (q.params.drop 4) 0) (List.nodup_finRange 8) (List.mem_finRange y)
      (changeCrease x (fun c => c.configure (q.params.drop 4) v) (arrived q s))
    have hx := hget x
    rw [if_neg (fun h => h.1 rfl), changeCrease_self, arrived_crease] at hx
    obtain ⟨hrail, hbins, hen⟩ := s.crease[x].configure_record (q.params.drop 4) v
    have hdis := s.crease[x].configure_disabled (q.params.drop 4) v
    simp only [byteAt_drop] at hrail hbins hen hdis hx hget hrun
    refine completes_of_reply (o := creaseConfigOp) rfl hr (creaseConfigOp_paramCheck h0 hl h4) hrun ?_ ⟨?_, ?_, ?_, ?_, ?_, fun y hy => ?_⟩
    · rw [foldl_takeRail_only, changeCrease_only, arrived_proto, hr.empty]
    · rw [foldl_takeRail_only, changeCrease_only]
    · rw [hx, hrail]
    · rw [hx, hbins]
    · rw [hx, hen]
    · rw [hx]
      exact hdis
    · have hyv := hget y
      rw [changeCrease_other hy, arrived_crease] at hyv
      rw [hx, hrail]
      refine ⟨fun he hne => ?_, fun hne => ?_⟩
      · have hb : byteAt q.params 4 ≤ 47 := by
          by_contra hb
          exact hne (he.trans (if_neg hb))
        rw [hyv, if_pos ⟨hy, hb, he.trans (if_pos hb)⟩]
        exact ⟨rfl, rfl⟩
      · rw [hyv, if_neg]
        rintro ⟨_, hb, he⟩
        exact hne (he.trans (if_pos hb).symm)
  · refine completes_of_reply (o := creaseClearOp) rfl hr (creaseClearOp_paramCheck h0 hl) rfl ?_ ?_
    · rw [changeCrease_only, arrived_proto, hr.empty]
    · rw [fin8_of h0]
      refine ⟨changeCrease_only .., ?_⟩
      rw [changeCrease_self, arrived_crease]
      have hother (y : Fin 8) (hy : y ≠ x) := changeCrease_other hy
        (fun c => if c.st = .disabled then c.clearTable else c.clearTable.acquire []) (arrived q s)
      rw [arrived_crease] at hother
      by_cases h : s.crease[x].st = .disabled
      · rw [if_pos h, if_pos h]
        exact ⟨rfl, rfl, rfl, rfl, rfl, h, hother⟩
      · rw [if_neg h, if_neg h]
        exact ⟨rfl, rfl, rfl, rfl, rfl, rfl, hother⟩

end Sys2Proof.Machine
end

section
/-! PROOF. The phase manager's happenings: dwell, holdoff and tumble (R140 to R155). -/

namespace Sys2Proof.Machine

/-- ROT is left as it is where nothing the APPLY takes is new, under TUMBLE, or where it is 0 (R155). -/
def KeepsRot (b p : PhaseCtx) : Prop :=
  (p.pol.posMax = b.pol.posMax ∧ p.aNext = b.aNext ∧ p.committing = b.committing) ∨ p.tumble = true ∨ p.rot = 0

/-- The control words a change of the phase context sends (R140, R149). -/
def phaseWords (r : Nat) (b : PhaseCtx) (s : State) : List Msg :=
  let p := (s.rail r).ph
  let ended := b.pend.isSome && decide (p.pend ≠ b.pend)
  let begun := p.pend.isSome && decide (p.pend ≠ b.pend)
  let anew := (p.aNext.isSome && decide (p.aNext ≠ b.aNext)) || decide (p.rot ≠ b.rot) ||
    decide (p.pol.posMax ≠ b.pol.posMax) || (ended && b.committing)
  let a := if p.committing then p.pend.getD p.a else p.aim
  (if ended then [hubWord s r 2 0] else []) ++ (if begun then [hubWord s r 1 (p.pend.getD 0)] else []) ++
    (if anew || (p.committing && !b.committing) then [hubWord s r 0 a] else [])

theorem sendPhase_keep {r : Fin 48} {b : PhaseCtx} {s : State} (h : KeepsRot b s.rails[r].ph) :
    sendPhase r.val b s = post (phaseWords r.val b s) s := by
  have hc : ¬ ((s.rails[r].ph.pol.posMax ≠ b.pol.posMax ∨ s.rails[r].ph.aNext.isSome = true ∧ s.rails[r].ph.aNext ≠ b.aNext ∨
      s.rails[r].ph.committing = true ∧ b.committing = false) ∧ s.rails[r].ph.tumble = false ∧ s.rails[r].ph.rot ≠ 0) := by
    rintro ⟨h1, h2, h3⟩
    obtain ⟨hp, ha, hc⟩ | h | h := h
    · obtain h1 | h1 | h1 := h1
      · exact h1 hp
      · exact h1.2 ha
      · exact absurd (h1.1.symm.trans (hc.trans h1.2)) (by decide)
    · exact absurd (h.symm.trans h2) (by decide)
    · exact h3 h
  rw [← rail_val] at hc
  unfold sendPhase
  dsimp only
  rw [if_neg hc]
  rfl

theorem sendPhase_rails_keep {r : Fin 48} {b : PhaseCtx} {s : State} (h : KeepsRot b s.rails[r].ph) :
    (sendPhase r.val b s).rails = s.rails := by
  rw [sendPhase_keep h, post_only]

/-- A shed that begins to commit sends the APPLY of its pending count. -/
theorem sendPhase_commits {r : Fin 48} {b : PhaseCtx} {s : State} {a : Nat} (h : KeepsRot b s.rails[r].ph)
    (hb : b.committing = false) (hc : s.rails[r].ph.committing = true) (hp : s.rails[r].ph.pend = some a)
    (hw : (hubWord (sendPhase r.val b s) r.val 0 a).waits ≠ 0) : hubWord (sendPhase r.val b s) r.val 0 a ∈ (sendPhase r.val b s).bus := by
  rw [sendPhase_keep h] at hw ⊢
  have hm : hubWord s r.val 0 a ∈ phaseWords r.val b s := by
    simp only [phaseWords, rail_val, hc, hb, hp, if_true, Option.getD_some, Bool.not_false, Bool.and_true, Bool.or_true]
    simp
  exact mem_post s hm hw

/-- The rail with another phase context. -/
def Rail.withPhase (f : PhaseCtx → PhaseCtx) (x : Rail) : Rail := { x with ph := f x.ph }

theorem changePhase_eq (r : Fin 48) (f : PhaseCtx → PhaseCtx) (s : State) :
    changePhase r.val f s = sendPhase r.val s.rails[r].ph (modRail s r (Rail.withPhase f)) := by
  rw [changePhase, rail_val, fin48_val]
  rfl

/-- A change of the phase context that leaves ROT to itself. -/
theorem changePhase_sends {r : Fin 48} {f : PhaseCtx → PhaseCtx} {s : State} (h : KeepsRot s.rails[r].ph (f s.rails[r].ph)) :
    RailSends r s (changePhase r.val f s) { s.rails[r] with ph := f s.rails[r].ph } := by
  have hk : (changePhase r.val f s).rails = (modRail s r (Rail.withPhase f)).rails := by
    rw [changePhase_eq, sendPhase_rails_keep]
    rw [modRail_self]
    exact h
  refine ⟨?_, ?_, fun k hk' => ?_⟩
  · rw [changePhase_eq, sendPhase_only]
    rfl
  · rw [hk, modRail_self]
    rfl
  · rw [hk, modRail_other _ _ _ _ hk'.symm]

theorem boundary_commits {p : PhaseCtx} {a : Nat} (hc : p.committing = true) (hp : p.pend = some a) :
    p.boundary = { p with a := a, pend := none, committing := false, aNext := none, qual := 0, sheds := satInc 65535 p.sheds
                          armSent := false } := by
  unfold PhaseCtx.boundary
  rw [hc, hp]

theorem applyFlies_iff {s : State} {r : Nat} : applyFlies s r = true ↔ ∃ m ∈ s.bus, m.op = 0 ∧ m.dst = r := by
  simp [applyFlies, List.any_eq_true]

/-- A dwell's end (R149, R155). -/
def PhaseCtx.dwellEnds (acts : Bool) (p : PhaseCtx) : PhaseCtx := { p.carryRot acts with committing := true }

theorem PhaseCtx.dwellEnds_eq (acts : Bool) (p : PhaseCtx) : p.dwellEnds acts = { p with
    committing := true
    rotDue := if p.tumble = true ∧ acts = false then p.rotDue else 0
    rotHeld := if p.tumble = true then p.rotHeld else 0
    rot := if p.tumble = false then 0 else if acts = true then (p.rot + p.rotDue) % 256 else p.rot } := by
  unfold PhaseCtx.dwellEnds PhaseCtx.carryRot
  cases htu : p.tumble <;> cases acts <;> simp [htu]

/-- A holdoff's end (R153, R155). -/
def PhaseCtx.holdoffEnds (acts : Bool) (p : PhaseCtx) : PhaseCtx :=
  let q := { p with holdoff := false, rotDue := p.rotDue + p.rotHeld, rotHeld := 0 }
  if q.pend.isNone ∧ q.rotDue ≠ 0 ∧ acts then q.carryRot true else q

theorem PhaseCtx.holdoffEnds_none {acts : Bool} {p : PhaseCtx} (h : p.rotDue + p.rotHeld = 0) :
    p.holdoffEnds acts = { p with holdoff := false } := by
  have hd : p.rotDue = 0 := by omega
  have hh : p.rotHeld = 0 := by omega
  unfold PhaseCtx.holdoffEnds
  dsimp only
  rw [if_neg (fun hn => hn.2.1 h), hd, hh]

theorem PhaseCtx.holdoffEnds_due {p : PhaseCtx} (h : p.rotDue + p.rotHeld ≠ 0) (hp : p.pend = none) (ht : p.tumble = true) :
    p.holdoffEnds true = { p with holdoff := false, rotDue := 0, rotHeld := 0, rot := (p.rot + (p.rotDue + p.rotHeld)) % 256 } := by
  unfold PhaseCtx.holdoffEnds
  dsimp only
  rw [if_pos ⟨by rw [hp]; rfl, h, rfl⟩, PhaseCtx.carryRot, if_neg (by rw [ht]; decide), if_pos rfl]

theorem acts_tumbles {x : Rail} (ha : policyActs x = true) (ht : x.ph.tumble = true) : ¬ (policyActs x = false ∨ x.ph.tumble = false) := by
  rw [ha, ht]
  decide

/-- A rotation under TUMBLE (R155). -/
theorem tumble_sends {r : Fin 48} {s : State} {p : PhaseCtx} (ht : s.rails[r].ph.tumble = true) (h : (rotate s.rails[r]).ph = p)
    (hp : p.tumble = s.rails[r].ph.tumble) : RailSends r s (changePhase r.val (fun _ => (rotate s.rails[r]).ph) s) { s.rails[r] with ph := p } := by
  subst h
  exact changePhase_sends (f := fun _ => (rotate s.rails[r]).ph) (.inr (.inl (hp.trans ht)))

theorem exec_tumbleDue {r : Fin 48} {s : State} (h : s.rails[r].ph.tumbleStrobe = false) :
    exec (.tumbleDue r) s = .next (changePhase r.val (fun _ => (rotate s.rails[r]).ph) s) :=
  congrArg _ (if_pos h)

/-- Settles O16: each happening by the phase context it leaves, and the words sent for that. -/
theorem dwellHoldoffAndTumble : Obligations.DwellHoldoffAndTumble := by
  refine ⟨fun r s a hp hc => ?_, fun r s h => ?_, fun r c avg a s hr hl hp hc => ?_, fun r s hh => ⟨fun h0 => ?_, fun h0 hp ha ht => ?_⟩,
    fun r s hh => ?_, fun r s hs ha ht => ⟨fun hp hh => ?_, fun hh => ?_, fun hp hh => ?_⟩, fun r s hs => ?_⟩
  · have hx : exec (.dwellEnd r) s = .next (changePhase r.val (PhaseCtx.dwellEnds (policyActs s.rails[r])) s) :=
      congrArg _ (if_pos ⟨by rw [hp]; rfl, hc⟩)
    have hk : KeepsRot s.rails[r].ph (s.rails[r].ph.dwellEnds (policyActs s.rails[r])) := by
      rw [PhaseCtx.dwellEnds_eq]
      cases ht : s.rails[r].ph.tumble
      · exact .inr (.inr rfl)
      · exact .inr (.inl rfl)
    have hs := changePhase_sends hk
    rw [PhaseCtx.dwellEnds_eq] at hs
    refine ⟨_, hx, hs, fun hw => ?_⟩
    rw [changePhase_eq] at hw ⊢
    refine sendPhase_commits ?_ hc ?_ ?_ hw
    · rw [modRail_self]
      exact hk
    · rw [modRail_self]
      rfl
    · rw [modRail_self, Rail.withPhase, PhaseCtx.dwellEnds_eq]
      exact hp
  · refine congrArg _ (if_neg ?_)
    rintro ⟨h1, h2⟩
    obtain h | h := h
    · rw [h] at h1
      exact absurd h1 (by decide)
    · exact absurd (h.symm.trans h2) (by decide)
  · have hx : exec (.pwmPeriodBoundary c avg) s = .next (modRail (changeCell s c (Cell.periodBoundary avg)) (fin48 r.val)
        (fun x => { x with ph := if applyFlies s r.val then { x.ph with armSent := false } else x.ph.boundary })) := by
      have h : exec (.pwmPeriodBoundary c avg) s = execPwmPeriodBoundary c avg s := rfl
      rw [h, execPwmPeriodBoundary, hr]
      dsimp only
      rw [rail_val, if_pos hl]
    have his := railIs_modRail (s := s) (r := r) (t := changeCell s c (Cell.periodBoundary avg))
      (f := fun x => { x with ph := if applyFlies s r.val then { x.ph with armSent := false } else x.ph.boundary })
      (Q := fun x => x = { s.rails[r] with ph := if applyFlies s r.val then { s.rails[r].ph with armSent := false } else s.rails[r].ph.boundary })
      (changeCell_rails ..) rfl
    refine ⟨_, hx, ?_, his.others⟩
    rw [his.self, boundary_commits hc hp]
    by_cases hf : applyFlies s r.val = true
    · rw [if_pos hf, if_pos (applyFlies_iff.mp hf)]
    · rw [if_neg hf, if_neg (fun h => hf (applyFlies_iff.mpr h))]
  · have hx : exec (.holdoffEnd r) s = .next (changePhase r.val (PhaseCtx.holdoffEnds (policyActs s.rails[r])) s) := congrArg _ (if_pos hh)
    have hs := changePhase_sends (r := r) (s := s) (f := PhaseCtx.holdoffEnds (policyActs s.rails[r]))
      (by rw [PhaseCtx.holdoffEnds_none h0]; exact .inl ⟨rfl, rfl, rfl⟩)
    rw [PhaseCtx.holdoffEnds_none h0] at hs
    exact ⟨_, hx, hs⟩
  · have hx : exec (.holdoffEnd r) s = .next (changePhase r.val (PhaseCtx.holdoffEnds (policyActs s.rails[r])) s) := congrArg _ (if_pos hh)
    rw [ha] at hx
    have hs := changePhase_sends (r := r) (s := s) (f := PhaseCtx.holdoffEnds true)
      (by rw [PhaseCtx.holdoffEnds_due h0 hp ht]; exact .inr (.inl ht))
    rw [PhaseCtx.holdoffEnds_due h0 hp ht] at hs
    exact ⟨_, hx, hs⟩
  · exact congrArg _ (if_neg (by rw [hh]; decide))
  · have hrot : (rotate s.rails[r]).ph = { s.rails[r].ph with rot := (s.rails[r].ph.rot + 1) % 256 } := by
      rw [rotate, if_neg (acts_tumbles ha ht), if_neg (by rw [hh]; decide), if_neg (by rw [hp]; decide)]
    exact ⟨_, exec_tumbleDue hs, tumble_sends ht hrot rfl⟩
  · have hrot : (rotate s.rails[r]).ph = { s.rails[r].ph with rotHeld := s.rails[r].ph.rotHeld + 1 } := by
      rw [rotate, if_neg (acts_tumbles ha ht), if_pos hh]
    exact ⟨_, exec_tumbleDue hs, tumble_sends ht hrot rfl⟩
  · have hrot : (rotate s.rails[r]).ph = { s.rails[r].ph with rotDue := s.rails[r].ph.rotDue + 1 } := by
      rw [rotate, if_neg (acts_tumbles ha ht), if_neg (by rw [hh]; decide), if_pos (Option.isSome_iff_ne_none.mpr hp)]
    exact ⟨_, exec_tumbleDue hs, tumble_sends ht hrot rfl⟩
  · exact congrArg _ (if_neg (by rw [hs]; decide))

end Sys2Proof.Machine
end

section
/-! PROOF. Frame strobes and the crease contexts (R16, R25, R161, R165). -/

namespace Sys2Proof.Machine

theorem landSet_land (m : BitVec 32) (s : State) : (landSet m s).land = { s.land with flags := s.land.flags ||| m } := by
  unfold landSet
  rw [pulseIf_land]

theorem landSet_only (m : BitVec 32) (s : State) :
    landSet m s = { s with land := (landSet m s).land, router := (landSet m s).router, seam := (landSet m s).seam
                           pwr := (landSet m s).pwr, clk := (landSet m s).clk } := by
  unfold landSet
  rw [pulseIf_only]

/-! ## Telemetry triggered by a frame -/

theorem trigger_only (q : Fin 8) (n : Nat) (s : State) :
    trigger q n s = { s with tlm := (trigger q n s).tlm, router := (trigger q n s).router, seam := (trigger q n s).seam
                             pwr := (trigger q n s).pwr, clk := (trigger q n s).clk } := by
  unfold trigger countEvent
  dsimp only
  repeat' split
  · rfl
  · rfl
  · rw [pulseIf_only]
    rfl
  · rfl

theorem frameTrigger_only (c n : Nat) (s : State) :
    frameTrigger c n s = { s with tlm := (frameTrigger c n s).tlm, router := (frameTrigger c n s).router
                                  seam := (frameTrigger c n s).seam, pwr := (frameTrigger c n s).pwr, clk := (frameTrigger c n s).clk } := by
  unfold frameTrigger
  generalize List.finRange 8 = l
  induction l generalizing s with
  | nil => rfl
  | cons q l ih =>
    rw [List.foldl_cons, ih]
    split
    · rw [trigger_only]
    · rfl

theorem frameStarts_only (x : Fin 8) (c : Crease) (s : State) :
    frameStarts x c s = { s with tlm := (frameStarts x c s).tlm, router := (frameStarts x c s).router
                                 seam := (frameStarts x c s).seam, pwr := (frameStarts x c s).pwr, clk := (frameStarts x c s).clk } := by
  unfold frameStarts
  split
  · exact frameTrigger_only ..
  · rfl

/-- No frame begins at a context that is as it was. -/
theorem frameStarts_same {x : Fin 8} {c : Crease} {s : State} (h : s.crease[x] = c) : frameStarts x c s = s := by
  unfold frameStarts
  rw [h, if_neg]
  simp [frameBegan]

/-! ## A context's frame -/

theorem Crease.close_rest (c : Crease) :
    c.close.h = c.h ∧ c.close.fade = c.fade ∧ c.close.odd = c.odd ∧ c.close.missed = c.missed ∧ c.close.period = c.period ∧
      c.close.frameStart = c.frameStart ∧ c.close.learn = c.learn := by
  unfold Crease.close
  dsimp only
  split <;> exact ⟨rfl, rfl, rfl, rfl, rfl, rfl, rfl⟩

theorem Crease.lockedSt_cases (c : Crease) : c.lockedSt = .learning ∨ c.lockedSt = .frozen := by
  unfold Crease.lockedSt
  split
  · exact .inl rfl
  · exact .inr rfl

theorem Crease.close_st {c : Crease} (h : c.st = .learning ∨ c.st = .frozen) : c.close.st = .learning ∨ c.close.st = .frozen := by
  have hst : c.close.st = c.lockedSt := by
    unfold Crease.close
    dsimp only
    rw [if_pos]
    · split <;> rfl
    · split <;> exact h
  rw [hst]
  exact c.lockedSt_cases

/-- A strobe that comes early by no more than a 1024th of the frame. -/
theorem early_within {n a f : Nat} (hle : n ≤ a + f) (hon : (a + f - n) * 1024 ≤ f) : ((n : Int) - (a + f : Nat)).natAbs * 1024 ≤ f := by
  have h : ((n : Int) - (a + f : Nat)).natAbs = a + f - n := by
    clear hon
    omega
  rw [h]
  exact hon

/-- A strobe on time (R161). -/
theorem Crease.strobe_on_time {c : Crease} {n f : Nat} (hp : c.period = some f) (hst : c.st = .learning ∨ c.st = .frozen)
    (h : ((n : Int) - (c.frameStart + f : Nat)).natAbs * 1024 ≤ f) :
    (c.strobe n).frameStart = n ∧ (c.strobe n).h = min c.fade (c.h + 1) ∧ (c.strobe n).odd = c.odd ∧
      ((c.strobe n).st = .learning ∨ (c.strobe n).st = .frozen) := by
  obtain ⟨hh, _, hodd, _⟩ := c.close_rest
  have hcs := c.close_st hst
  unfold Crease.strobe
  dsimp only
  rw [hp, Option.getD_some, if_pos h]
  refine ⟨rfl, by rw [hh], hodd, ?_⟩
  dsimp only
  split
  · exact Crease.lockedSt_cases _
  · exact hcs

/-- The weight falls with a frame missed, and the context acquires anew at 0 (R165). -/
theorem Crease.miss_eq {c : Crease} (h : c.st.locked = true) :
    (c.missed < 65535 → c.miss.missed = c.missed + 1) ∧ (c.h ≤ 1 → c.miss.st = .acquiring ∧ c.miss.faded = true ∧ c.miss.h = 0) ∧
      (1 < c.h → c.miss.st = .fading ∧ c.miss.h = c.h - 1 ∧ c.miss.frameStart = c.frameStart + c.period.getD 0) := by
  obtain ⟨hh, _, _, hm, hp, hf, _⟩ := c.close_rest
  unfold Crease.miss
  dsimp only
  rw [if_pos h, hh, hm, hp, hf]
  by_cases h1 : c.h - 1 = 0
  · rw [if_pos h1]
    exact ⟨fun hlt => if_pos hlt, fun _ => ⟨rfl, rfl, rfl⟩, fun hgt => by omega⟩
  · rw [if_neg h1]
    exact ⟨fun hlt => if_pos hlt, fun hle => by omega, fun _ => ⟨rfl, rfl, rfl⟩⟩

/-! ## The strobe taken -/

theorem takeStrobe_absent {n : Nat} {s : State} (h : s.land.frameAbsent = true) :
    takeStrobe n s = ({ s with land := { s.land with frameAbsent := false, frameLast := some (n, true) } }, true) := by
  unfold takeStrobe
  rw [h]

theorem takeStrobe_good {n u : Nat} {ok : Bool} {s : State} (h : s.land.frameAbsent = false) (hl : s.land.frameLast = some (u, ok))
    (hn : n ≠ u) (h1 : u + 12500 ≤ n) (h2 : n ≤ u + 16000000) :
    takeStrobe n s = ({ s with land := { s.land with frameLast := some (n, true) } }, true) := by
  unfold takeStrobe
  rw [h, hl]
  simp [hn, h1, h2]

theorem takeStrobe_range {n u : Nat} {ok : Bool} {s : State} (h : s.land.frameAbsent = false) (hl : s.land.frameLast = some (u, ok))
    (hn : n ≠ u) (hr : n < u + 12500 ∨ u + 16000000 < n) :
    takeStrobe n s = (landSet 0x10000 { s with land := { s.land with frameLast := some (n, false) } }, false) := by
  have hg : (decide (u + 12500 ≤ n) && decide (n ≤ u + 16000000)) = false := by
    obtain hr | hr := hr <;> simp <;> omega
  unfold takeStrobe
  rw [h, hl]
  simp only [if_neg hn, hg]
  rfl

/-- A strobe that moves no context. -/
theorem frameStrobe_apart {x : Fin 8} {n : Nat} {s t : State} {ok : Bool} (h : takeStrobe n s = (t, ok)) (hc : ok = false ∨ s.crease[x].rail = none)
    (ht : t.crease = s.crease) : exec (.frameStrobe x n) s = .next t := by
  have hx : exec (.frameStrobe x n) s = execFrameStrobe x n s := rfl
  rw [hx, execFrameStrobe, h]
  dsimp only
  rw [if_pos hc, frameStarts_same (by rw [ht])]

/-- A strobe on time at a context that learns, or is frozen. -/
theorem frameStrobe_on_time {x : Fin 8} {n f r : Nat} {s t : State} (h : takeStrobe n s = (t, true)) (hr : s.crease[x].rail = some r)
    (hst : s.crease[x].st = .learning ∨ s.crease[x].st = .frozen) (hp : s.crease[x].period = some f)
    (hon : ((n : Int) - (s.crease[x].frameStart + f : Nat)).natAbs * 1024 ≤ f) :
    exec (.frameStrobe x n) s = .next (frameStarts x s.crease[x]
      (if (s.rail r).ph.tumbleStrobe = true then
        changePhase r (fun _ => (rotate ((changeCrease x (fun y => y.strobe n) t).rail r)).ph) (changeCrease x (fun y => y.strobe n) t)
      else changeCrease x (fun y => y.strobe n) t)) := by
  have hx : exec (.frameStrobe x n) s = execFrameStrobe x n s := rfl
  have hno : s.crease[x].railNo = r := by rw [Crease.railNo, hr]; rfl
  rw [hx, execFrameStrobe, h]
  dsimp only
  rw [if_neg (by rw [hr]; simp), hp, hno, Option.getD_some, decide_eq_true hon]
  generalize s.crease[x] = c at hst
  obtain hst | hst := hst <;> simp [hst]

/-- Settles O17: each strobe by what it makes of one crease context; what does not start a frame leaves them. -/
theorem frameStrobesMoveCreases : Obligations.FrameStrobesMoveCreases := by
  refine ⟨?_, ?_, ?_, ?_, ?_⟩
  · intro x n s ha hr
    refine ⟨_, frameStrobe_apart (takeStrobe_absent ha) (.inr hr) ?_, ?_⟩
    · rfl
    · rfl
  · intro x n u ok s ha hl hn hr
    refine ⟨_, frameStrobe_apart (takeStrobe_range ha hl hn hr) (.inl rfl) ?_, ?_, ?_, ?_, ?_⟩
    · rw [landSet_only]
    · rw [landSet_only]
    · rw [landSet_only]
    · rw [landSet_land]
    · rw [landSet_only]
  · intro x n u f r s ha hl hn h1 h2 hr hst hp hle hon
    have hon' : ((n : Int) - (s.crease[x].frameStart + f : Nat)).natAbs * 1024 ≤ f := early_within hle hon
    obtain ⟨hfs, hh, hodd, hcst⟩ := Crease.strobe_on_time hp hst hon'
    refine ⟨_, frameStrobe_on_time (takeStrobe_good ha hl hn h1 h2) hr hst hp hon', ?_⟩
    generalize hu : (if (s.rail r).ph.tumbleStrobe = true then _ else _ : State) = u
    have hcr : u.crease = upd s.crease x (s.crease[x].strobe n) := by
      subst hu
      split
      · rw [changePhase, sendPhase_only, modRail_crease, changeCrease_crease]
      · rw [changeCrease_crease]
    have hrest : u.dom = s.dom ∧ u.map = s.map ∧ u.proto = s.proto ∧ u.cells = s.cells := by
      subst hu
      split
      · rw [changePhase_dom, changePhase_map, changePhase_proto, changePhase_cells, changeCrease_only]
        exact ⟨rfl, rfl, rfl, rfl⟩
      · rw [changeCrease_only]
        exact ⟨rfl, rfl, rfl, rfl⟩
    rw [frameStarts_only]
    dsimp only
    rw [hcr, upd_self]
    exact ⟨hfs, hh, hodd, hcst, fun y hy => upd_other _ _ _ _ hy.symm, hrest⟩
  · intro x s hst
    have hlock : s.crease[x].st.locked = true := by
      obtain h | h | h := hst <;> rw [h] <;> rfl
    have hx : exec (.missed x) s = .next (frameTrigger x.val (s.crease[x].frameStart + s.crease[x].period.getD 0)
        (changeCrease x Crease.miss s)) := by
      have hx : exec (.missed x) s = execMissed x s := rfl
      rw [hx, execMissed, if_pos hlock]
    obtain ⟨hm, h1, h2⟩ := Crease.miss_eq hlock
    refine ⟨_, hx, ?_⟩
    rw [frameTrigger_only, changeCrease_only]
    dsimp only
    rw [changeCrease_self]
    exact ⟨rfl, hm, h1, h2, fun y hy => changeCrease_other hy _ _⟩
  · intro s
    exact (rfl : execFrameInAbsent s = _)

end Sys2Proof.Machine
end

section
/-! PROOF. What a cell does by itself, and its monitors (R36 to R63). -/

namespace Sys2Proof.Machine

/-! ## A cell changed -/

theorem changeCell_cells (s : State) (c : Fin 256) (f : Cell → Cell) :
    (changeCell s c f).cells = if s.cells[c].st = .retired then s.cells else (modCell s c f).cells := by
  unfold changeCell
  dsimp only
  rw [ite_cells, ite_cells, spurEval_cells, ite_self, pulseIf_cells]

theorem changeCell_self (s : State) (c : Fin 256) (f : Cell → Cell) :
    (changeCell s c f).cells[c] = if s.cells[c].st = .retired then s.cells[c] else f s.cells[c] := by
  rw [changeCell_cells]
  split
  next h => rfl
  next h => rw [modCell_self]

theorem changeCell_other (s : State) {c d : Fin 256} (h : d ≠ c) (f : Cell → Cell) : (changeCell s c f).cells[d] = s.cells[d] := by
  rw [changeCell_cells]
  split
  · rfl
  · rw [modCell_other _ _ _ _ h.symm]

theorem changeCell_not_retired {s : State} {c : Fin 256} (h : s.cells[c].st ≠ .retired) (f : Cell → Cell) :
    (changeCell s c f).cells[c] = f s.cells[c] := by
  rw [changeCell_self, if_neg h]

/-! ## A cell isolated -/

/-- A cell of no rail (R70). -/
theorem railOf_none {s : State} {c : Fin 256} (h : ∀ k : Nat, k < 48 → (s.memberSet k).getLsbD c.val = false) : railOf s c.val = none :=
  find_upto_none fun k => h k.val k.isLt

theorem railOf_congr {s t : State} (h : t.map.active = s.map.active) (c : Nat) : railOf t c = railOf s c := by
  unfold railOf State.memberSet State.entry
  rw [h]

theorem abortProbe_active (s : State) : (abortProbe s).map.active = s.map.active := by
  unfold abortProbe
  split
  · rw [pulse_map]
    rfl
  · rfl

/-- The cell is OFF, or serves. -/
def Cell.Alive (c : Cell) : Prop := c.st = .off ∨ c.st = .armed ∨ c.st = .switching ∨ c.st = .shed

theorem Cell.Alive.serves {c : Cell} (h : c.Alive) : c.st = .off ∨ c.st.serves = true := by
  obtain h | h | h | h := h
  · exact .inl h
  all_goals exact .inr (by rw [h]; rfl)

theorem Cell.Alive.not_retired {c : Cell} (h : c.Alive) : c.st ≠ .retired := by
  obtain h | h | h | h := h <;> rw [h] <;> decide

/-- A cell of no rail is isolated (R36, R70). -/
theorem isolateCell_alone {s : State} {c : Fin 256} (hc : s.cells[c].Alive) (hm : ∀ k : Nat, k < 48 → (s.memberSet k).getLsbD c.val = false)
    (cause : BitVec 8) : isolateCell c cause s = abortProbe (changeCell s c (Cell.isolated cause)) := by
  have hr : railOf (abortProbe (changeCell s c (Cell.isolated cause))) c.val = none := by
    rw [railOf_congr (s := s) (by rw [abortProbe_active, changeCell_map])]
    exact railOf_none hm
  unfold isolateCell
  dsimp only
  rw [if_pos hc.serves, hr]

theorem isolateCell_self {s : State} {c : Fin 256} (hc : s.cells[c].Alive) (hm : ∀ k : Nat, k < 48 → (s.memberSet k).getLsbD c.val = false)
    (cause : BitVec 8) : (isolateCell c cause s).cells[c] = s.cells[c].isolated cause := by
  rw [isolateCell_alone hc hm, abortProbe_cells, changeCell_not_retired hc.not_retired]

theorem isolateCell_other {s : State} {c d : Fin 256} (hd : d ≠ c) (hc : s.cells[c].Alive)
    (hm : ∀ k : Nat, k < 48 → (s.memberSet k).getLsbD c.val = false) (cause : BitVec 8) : (isolateCell c cause s).cells[d] = s.cells[d] := by
  rw [isolateCell_alone hc hm, abortProbe_cells, changeCell_other _ hd]

/-- A cell already ISOLATED, or RETIRED, stays. -/
theorem isolateCell_not_alive {s : State} {c : Fin 256} (h : s.cells[c].st = .isolated ∨ s.cells[c].st = .retired) (cause : BitVec 8) :
    isolateCell c cause s = s := by
  unfold isolateCell
  rw [if_neg]
  obtain h | h := h <;> rw [h] <;> decide

/-- Settles O18: a cell of no rail is isolated and nothing but the probe follows. -/
theorem monitorsIsolateTheCell : Obligations.MonitorsIsolateTheCell := by
  intro c s
  refine ⟨fun hc hm => ⟨fun cause h1 h11 h8 => ?_, fun hsw => ?_, fun kHz hk => ?_, ?_⟩, fun cause h => ?_, fun hp hi => ?_, fun kHz h1 h2 => ?_,
    fun h => ?_⟩
  · have hx : exec (.cellFault c cause) s = .next (isolateCell c cause s) := congrArg Host.Outcome.next (if_pos ⟨h1, h11, h8⟩)
    refine ⟨_, hx, isolateCell_self hc hm cause, ?_, ?_, ?_, ?_⟩
    · rw [isolateCell_self hc hm]
      rfl
    · rw [isolateCell_self hc hm]
      rfl
    · rw [isolateCell_self hc hm]
      rfl
    · rw [isolateCell_alone hc hm]
      refine ⟨?_, ?_, ?_, ?_, ?_, fun d hd => ?_⟩
      · rw [abortProbe_rails, changeCell_rails]
      · rw [abortProbe_dom, changeCell_dom]
      · rw [abortProbe_proto, changeCell_proto]
      · rw [abortProbe_hem, changeCell_hem]
      · rw [abortProbe_chg, changeCell_chg]
      · rw [abortProbe_cells, changeCell_other _ hd]
  · have hx : exec (.inputSwitch c) s = .next (isolateCell c 0x0A s) := congrArg Host.Outcome.next (if_pos (by simpa using hsw))
    refine ⟨_, hx, ?_, ?_, fun d hd => isolateCell_other hd hc hm _⟩
    · rw [isolateCell_self hc hm]
      rfl
    · rw [isolateCell_self hc hm]
      rfl
  · have hx : exec (.islandClock c kHz) s =
        .next (isolateCell c 0x09 (changeCell s c (fun x => { x with flags := x.flags ||| 0x200 }))) := congrArg Host.Outcome.next (if_pos hk)
    have hget := changeCell_not_retired (Cell.Alive.not_retired hc) (fun x => { x with flags := x.flags ||| 0x200 })
    have hc' : (changeCell s c (fun x => { x with flags := x.flags ||| 0x200 })).cells[c].Alive := by
      rw [hget]
      exact hc
    have hm' : ∀ k : Nat, k < 48 → ((changeCell s c (fun x => { x with flags := x.flags ||| 0x200 })).memberSet k).getLsbD c.val = false :=
      fun k hk => by rw [memberSet_congr (changeCell_map ..)]; exact hm k hk
    refine ⟨_, hx, ?_, ?_, ?_, fun d hd => ?_⟩
    · rw [isolateCell_self hc' hm']
      rfl
    · rw [isolateCell_self hc' hm']
      rfl
    · rw [isolateCell_self hc' hm', hget]
      exact BitVec.or_assoc ..
    · rw [isolateCell_other hd hc' hm', changeCell_other _ hd]
  · refine ⟨_, rfl, ?_, ?_, fun d hd => isolateCell_other hd hc hm _⟩
    · rw [isolateCell_self hc hm]
      rfl
    · rw [isolateCell_self hc hm]
      rfl
  · have hx : exec (.cellFault c cause) s = .next (if 1 ≤ cause.toNat ∧ cause.toNat ≤ 11 ∧ cause ≠ 8 then isolateCell c cause s else s) := rfl
    rw [hx]
    split
    next hca =>
      rw [isolateCell_not_alive]
      obtain h | h | h | h | h := h
      · subst h
        exact absurd hca.1 (by decide)
      · exact absurd h hca.2.2
      · omega
      · exact .inl h
      · exact .inr h
    · rfl
  · exact congrArg Host.Outcome.next (if_neg (by simp only [hp, hi]; decide))
  · exact congrArg Host.Outcome.next (if_neg (by omega))
  · exact congrArg Host.Outcome.next (isolateCell_not_alive h _)

end Sys2Proof.Machine
end

section
/-! PROOF. A cell's own happenings, and its period boundary (R36 to R60). -/

namespace Sys2Proof.Machine

/-! ## Error samples -/

theorem changePhasing_self {s : State} {c : Fin 256} (h : s.cells[c].st ≠ .retired) (f : Cell → Cell) :
    (changePhasing c f s).cells[c] = Cell.movePhase s.cells[c] (Config.freeBool s.free) (f s.cells[c]) := by
  unfold changePhasing
  exact changeCell_not_retired h _

theorem changePhasing_other {s : State} {c d : Fin 256} (h : d ≠ c) (f : Cell → Cell) : (changePhasing c f s).cells[d] = s.cells[d] :=
  changeCell_other s h _

theorem Cell.arm_rest (c : Cell) :
    c.arm = { c with precharge := c.arm.precharge, pendA := c.arm.pendA, armNext := c.arm.armNext } := by
  unfold Cell.arm
  split <;> rfl

theorem fin256_of {c : Fin 256} {n : Nat} (h : n = c.val) : fin256 n = c := by
  subst h
  exact fin256_val c

/-- What an error sample of the leader adds to its cell (R145): the ARM it may send itself. -/
theorem stepDetect_cells {r : Nat} {code : Int} {s : State} {c : Fin 256} (hl : (s.rail r).leader = c.val) (hc : s.cells[c].st ≠ .retired) :
    (∀ d : Fin 256, d ≠ c → (stepDetect r code s).cells[d] = s.cells[d]) ∧
      ∃ pre pend arm pulse, (stepDetect r code s).cells[c] =
        { s.cells[c] with precharge := pre, pendA := pend, armNext := arm, pulse := pulse } := by
  have hb (ms : List Msg) (t : State) : (post ms t).cells = t.cells := rfl
  unfold stepDetect
  dsimp only
  rw [hl, fin256_val]
  split
  · have hself := changePhasing_self (s := post [castFrom s r c.val .arm 0 0] s) (c := c) hc Cell.arm
    have hother (d : Fin 256) (hd : d ≠ c) := changePhasing_other (s := post [castFrom s r c.val .arm 0 0] s) hd Cell.arm
    rw [Cell.movePhase, Cell.arm_rest] at hself
    split
    · refine ⟨hother, _, _, _, _, hself⟩
    · refine ⟨hother, _, _, _, _, hself⟩
  · exact ⟨fun _ _ => rfl, _, _, _, _, rfl⟩

/-- A cell's sample, or what it hears in the tack probe (R85, R104). -/
def sampled (due : Bool) (s : State) (diff : Int) (x : Cell) : Cell :=
  if due then x.sample diff else if probeListens s x then x.saturation diff else x

theorem errorSample_cases {P : State → Prop} {c : Fin 256} {diff : Int} {s : State}
    (h0 : P (changeCell s c (sampled s.cells[c].sampleDue s diff)))
    (h1 : ∀ r : Nat, s.cells[c].sampleDue = true → (s.rail r).leader = c.val →
      P (stepDetect r (errCode diff) (changeCell s c (sampled s.cells[c].sampleDue s diff)))) :
    ∃ t, exec (.errorSample c diff) s = .next t ∧ P t := by
  have hx : exec (.errorSample c diff) s = execErrorSample c diff s := rfl
  rw [hx, execErrorSample]
  split
  next r _ =>
    split
    next h => exact ⟨_, rfl, h1 r h.2 h.1⟩
    · exact ⟨_, rfl, h0⟩
  · exact ⟨_, rfl, h0⟩

theorem Cell.saturation_rest (diff : Int) (c : Cell) :
    c.saturation diff = { c with errSats := (c.saturation diff).errSats, flags := (c.saturation diff).flags } := by
  unfold Cell.saturation
  repeat' split
  all_goals rfl

theorem Cell.saturation_flags (diff : Int) (c : Cell) :
    (255 < diff → (c.saturation diff).flags = c.flags ||| 1) ∧ (diff < -256 → (c.saturation diff).flags = c.flags ||| 2) := by
  unfold Cell.saturation
  refine ⟨fun h => ?_, fun h => ?_⟩
  · rw [if_pos h]
  · rw [if_neg (by omega), if_pos h]

/-- What is said of a cell after its error sample, whether or not it detects a step (R104). -/
structure Sampled (c : Fin 256) (diff : Int) (s t : State) : Prop where
  /-- A sample taken joins the tick's mean. -/
  taken : s.cells[c].st = .armed ∨ s.cells[c].st = .switching ∨ s.cells[c].st = .shed →
    s.cells[c].sampCnt < sampleCount s.cells[c].period → t.cells[c].sampCnt = s.cells[c].sampCnt + 1 ∧
    t.cells[c].errN = s.cells[c].errN + 1 ∧ t.cells[c].errSum = s.cells[c].errSum + clampInt (-256) 255 diff ∧
    (255 < diff → t.cells[c].flags = s.cells[c].flags ||| 1) ∧ (diff < -256 → t.cells[c].flags = s.cells[c].flags ||| 2)
  /-- One beyond the period's is not. -/
  full : s.cells[c].st = .armed ∨ s.cells[c].st = .switching ∨ s.cells[c].st = .shed →
    sampleCount s.cells[c].period ≤ s.cells[c].sampCnt → t.cells[c] = s.cells[c] ∧ t.rails = s.rails
  /-- A cell that does not serve listens in the tack probe. -/
  listens : s.cells[c].st = .off ∨ s.cells[c].st = .isolated → t.rails = s.rails ∧
    t.cells[c] = if s.map.probe = .running then s.cells[c].saturation diff else s.cells[c]
  /-- The other cells. -/
  others : ∀ d : Fin 256, d ≠ c → t.cells[d] = s.cells[d]
  /-- The rest. -/
  rest : t.dom = s.dom ∧ t.map = s.map ∧ t.proto = s.proto

theorem serves_iff {x : CellSt} : x.serves = true ↔ x = .armed ∨ x = .switching ∨ x = .shed := by
  simp [CellSt.serves, or_assoc]

theorem sampleDue_iff {c : Cell} : c.sampleDue = true ↔ (c.st = .armed ∨ c.st = .switching ∨ c.st = .shed) ∧ c.sampCnt < sampleCount c.period := by
  simp [Cell.sampleDue, serves_iff]

theorem Cell.sample_fields (diff : Int) (c : Cell) : (c.sample diff).sampCnt = c.sampCnt + 1 ∧ (c.sample diff).errN = c.errN + 1 ∧
    (c.sample diff).errSum = c.errSum + clampInt (-256) 255 diff ∧ (255 < diff → (c.sample diff).flags = c.flags ||| 1) ∧
    (diff < -256 → (c.sample diff).flags = c.flags ||| 2) := by
  have hf := Cell.saturation_flags diff { c with errSum := c.errSum + errCode diff, errN := c.errN + 1, sampCnt := c.sampCnt + 1 }
  refine ⟨?_, ?_, ?_, hf⟩
  · rw [Cell.sample, Cell.saturation_rest]
  · rw [Cell.sample, Cell.saturation_rest]
  · rw [Cell.sample, Cell.saturation_rest]
    rfl

/-- A sample that no step detection follows. -/
theorem sampled_alone (c : Fin 256) (diff : Int) {s : State} (h : s.cells[c].st ≠ .retired) :
    Sampled c diff s (changeCell s c (sampled s.cells[c].sampleDue s diff)) := by
  have hself := changeCell_not_retired h (sampled s.cells[c].sampleDue s diff)
  refine ⟨fun hst hn => ?_, fun hst hn => ⟨?_, changeCell_rails ..⟩, fun hst => ⟨changeCell_rails .., ?_⟩,
    fun d hd => changeCell_other s hd _, changeCell_dom .., changeCell_map .., changeCell_proto ..⟩
  · rw [hself, sampled, if_pos (sampleDue_iff.mpr ⟨hst, hn⟩)]
    exact Cell.sample_fields ..
  · have hl : probeListens s s.cells[c] = false := by
      rw [probeListens, serves_iff.mpr hst]
      simp
    rw [hself, sampled, if_neg (fun hd => by have := (sampleDue_iff.mp hd).2; omega), hl, if_neg Bool.false_ne_true]
  · have hns : s.cells[c].st.serves = false := by
      obtain h | h := hst <;> rw [h] <;> rfl
    have hnd : s.cells[c].sampleDue = false := by
      rw [Cell.sampleDue, hns, Bool.false_and]
    rw [hself, sampled, hnd, if_neg Bool.false_ne_true, probeListens, hns, Bool.not_false, Bool.and_true]
    simp only [decide_eq_true_eq]

/-- A sample that step detection follows (R145). -/
theorem sampled_stepDetect {c : Fin 256} {diff : Int} {r : Nat} {s : State} (h : s.cells[c].st ≠ .retired) (hdue : s.cells[c].sampleDue = true)
    (hl : (s.rail r).leader = c.val) :
    Sampled c diff s (stepDetect r (errCode diff) (changeCell s c (sampled s.cells[c].sampleDue s diff))) := by
  obtain ⟨hst, hn⟩ := sampleDue_iff.mp hdue
  have hone := sampled_alone c diff h
  have hret : (changeCell s c (sampled s.cells[c].sampleDue s diff)).cells[c].st ≠ .retired := by
    rw [changeCell_not_retired h, sampled, if_pos hdue, Cell.sample, Cell.saturation_rest]
    exact h
  obtain ⟨hother, pre, pend, arm, pulse, hself⟩ := stepDetect_cells (r := r) (code := errCode diff)
    (s := changeCell s c (sampled s.cells[c].sampleDue s diff)) (by rw [State.rail, changeCell_rails]; exact hl) hret
  refine ⟨fun _ _ => ?_, fun _ hfull => by omega, fun hoff => ?_, fun d hd => ?_, ?_⟩
  · rw [hself]
    exact hone.taken hst hn
  · obtain hoff | hoff := hoff <;> rw [hoff] at hst <;> simp at hst
  · rw [hother d hd, hone.others d hd]
  · rw [stepDetect_dom, stepDetect_map, stepDetect_proto]
    exact hone.rest

/-- Settles O19: each happening changes one cell by a function of that cell. -/
theorem cellsOwnHappenings : Obligations.CellsOwnHappenings := by
  intro c s h
  refine ⟨?_, fun step ma => ?_, ?_, fun hw => ?_, fun diff => ?_⟩
  · refine ⟨_, rfl, changeCell_oneCell h ?_⟩
    split
    next hc =>
      rw [Cell.healthy, Cell.healthy, hc.2]
      rfl
    · rfl
  · refine ⟨_, rfl, changeCell_oneCell h ?_⟩
    split <;> rfl
  · refine ⟨_, rfl, changeCell_oneCell h ?_⟩
    split <;> rfl
  · refine ⟨_, congrArg Host.Outcome.next (settleWords_of_no_words ?_), changeCell_oneCell (s := { s with
      bus := ((takeFrom (fun m => m.bcast) c.val s.bus).map Prod.snd).getD s.bus }) h rfl⟩
    rw [changeCell_proto]
    exact hw
  · obtain ⟨t, ht, hs⟩ := errorSample_cases (P := Sampled c diff s) (c := c) (diff := diff) (sampled_alone c diff h)
      fun r hdue hl => sampled_stepDetect h hdue hl
    obtain ⟨h1, h2, h3, h4, h5⟩ := hs
    exact ⟨t, ht, h1, h2, h3, h4, h5⟩

/-! ## The period boundary -/

theorem Cell.takePhase_rest (c : Cell) :
    c.takePhase = { c with aCnt := c.takePhase.aCnt, pos := c.takePhase.pos, rot := c.takePhase.rot, armNext := c.takePhase.armNext
                           applyNext := c.takePhase.applyNext, pendA := c.takePhase.pendA } := by
  unfold Cell.takePhase
  split <;> rfl

theorem Cell.takeShed_rest (c : Cell) : c.takeShed = { c with st := c.takeShed.st } := by
  unfold Cell.takeShed
  split <;> rfl

/-- The words a boundary takes, and the average it adds (R41, R46). -/
def Cell.counted (avg : Int) (c : Cell) : Cell :=
  { c.takeWords with iSum := c.takeWords.iSum + clampInt (-4000) 8000 avg, iN := c.takeWords.iN + 1 }

/-- A released armed cell begins to switch (R117). -/
def Cell.takeRun (c : Cell) : Cell := if c.runNext ∧ c.st = .armed then { c with st := .switching, runNext := false } else c

theorem Cell.takeRun_rest (c : Cell) : c.takeRun = { c with st := c.takeRun.st, runNext := c.takeRun.runNext } := by
  unfold Cell.takeRun
  split <;> rfl

/-- The boundary of a cell that is not to stop, before its period opens. -/
def Cell.committed (c : Cell) : Cell := c.takePhase.takeRun.takeShed

theorem Cell.committed_rest (c : Cell) : c.committed =
    { c with aCnt := c.takePhase.aCnt, pos := c.takePhase.pos, rot := c.takePhase.rot, armNext := c.takePhase.armNext
             applyNext := c.takePhase.applyNext, pendA := c.takePhase.pendA, st := c.committed.st, runNext := c.committed.runNext } := by
  unfold Cell.committed
  rw [Cell.takeShed_rest, Cell.takeRun_rest, Cell.takePhase_rest]

theorem Cell.periodBoundary_stop {c : Cell} (avg : Int) (h : c.stopNext = true) : c.periodBoundary avg = (c.counted avg).turnOff :=
  if_pos h

theorem Cell.periodBoundary_run {c : Cell} (avg : Int) (h : c.stopNext = false) : ∃ em dem ph, c.periodBoundary avg =
    ({ (c.counted avg).committed with diodeEm := em, demNext := dem, phase := ph } : Cell).openPeriod c.spills :=
  ⟨_, _, _, if_neg (fun hn => Bool.false_ne_true (h.symm.trans hn))⟩

/-- Whatever the boundary comes to, the words are taken and the average counted. -/
theorem Cell.periodBoundary_words (avg : Int) (c : Cell) :
    (c.periodBoundary avg).boundary = (c.boundary + 1) % 256 ∧ (c.periodBoundary avg).onTimeNext = none ∧
    (c.periodBoundary avg).onTime = c.onTimeNext.getD c.onTime ∧ (c.periodBoundary avg).iN = c.iN + 1 ∧
    (c.periodBoundary avg).sampCnt = 0 ∧ (c.periodBoundary avg).period = c.takeWords.period ∧
    (c.periodBoundary avg).periodNext = c.takeWords.periodNext ∧ (c.periodBoundary avg).periodAt = c.takeWords.periodAt := by
  cases h : c.stopNext with
  | true =>
    rw [Cell.periodBoundary_stop avg h]
    exact ⟨rfl, rfl, rfl, rfl, rfl, rfl, rfl, rfl⟩
  | false =>
    obtain ⟨em, dem, ph, hx⟩ := Cell.periodBoundary_run avg h
    rw [hx, Cell.committed_rest]
    exact ⟨rfl, rfl, rfl, rfl, rfl, rfl, rfl, rfl⟩

/-- A waiting PERIOD takes effect at its boundary (R183). -/
theorem Cell.takeWords_due {c : Cell} {w : Nat} (hn : c.periodNext = some w) (ha : c.periodAt = some ((c.boundary + 1) % 256)) :
    c.takeWords.period = w ∧ c.takeWords.periodNext = none ∧ c.takeWords.periodAt = none := by
  simp [Cell.takeWords, hn, ha]

theorem Cell.takeWords_not_due {c : Cell} (ha : c.periodAt ≠ some ((c.boundary + 1) % 256)) :
    c.takeWords.period = c.period ∧ c.takeWords.periodNext = c.periodNext ∧ c.takeWords.periodAt = c.periodAt := by
  simp [Cell.takeWords, ha]

theorem Cell.takePhase_none {c : Cell} (h : c.armNext = false) (hx : c.applyNext = none) : c.takePhase = c := by
  unfold Cell.takePhase
  rw [h, hx]

/-- An ARM latched, or an APPLY, or both (R137, R142). -/
theorem Cell.takePhase_some {c : Cell} (h : c.armNext = true ∨ c.applyNext ≠ none) : c.takePhase = { c with
    aCnt := if c.armNext then max 1 c.mCnt else actCount c.mCnt (c.applyNext.getD (c.aCnt, c.pos, c.rot)).1
    pos := (c.applyNext.getD (c.aCnt, c.pos, c.rot)).2.1, rot := (c.applyNext.getD (c.aCnt, c.pos, c.rot)).2.2
    armNext := false, applyNext := none, pendA := none } := by
  unfold Cell.takePhase
  split
  next ha hx =>
    obtain h | h := h
    · exact absurd (h.symm.trans ha) (by decide)
    · exact absurd hx h
  · rfl

theorem actCount_eq (m a : Nat) : actCount m a = min (max 1 a) (max 1 m) := by
  unfold actCount clampNat
  split <;> (try split) <;> omega

theorem Cell.committed_fields (c : Cell) : c.committed.armNext = c.takePhase.armNext ∧ c.committed.aCnt = c.takePhase.aCnt ∧
    c.committed.pos = c.takePhase.pos ∧ c.committed.rot = c.takePhase.rot ∧ c.committed.applyNext = c.takePhase.applyNext := by
  rw [Cell.committed_rest]
  exact ⟨rfl, rfl, rfl, rfl, rfl⟩

/-- The phase words of a boundary at which the cell is not to stop. -/
theorem Cell.periodBoundary_phase {c : Cell} (avg : Int) (h : c.stopNext = false) :
    (c.periodBoundary avg).armNext = (c.counted avg).takePhase.armNext ∧ (c.periodBoundary avg).aCnt = (c.counted avg).takePhase.aCnt ∧
    (c.periodBoundary avg).pos = (c.counted avg).takePhase.pos ∧ (c.periodBoundary avg).rot = (c.counted avg).takePhase.rot ∧
    (c.periodBoundary avg).applyNext = (c.counted avg).takePhase.applyNext := by
  obtain ⟨em, dem, ph, hx⟩ := Cell.periodBoundary_run avg h
  rw [hx]
  exact Cell.committed_fields _

/-- An armed cell of a released rail switches or is shed by its index (R117, R150). -/
theorem Cell.periodBoundary_released {c : Cell} (avg : Int) (h : c.stopNext = false) (hst : c.st = .armed) (hr : c.runNext = true)
    (ha : c.armNext = false) (hx : c.applyNext = none) : (c.periodBoundary avg).runNext = false ∧
      (c.periodBoundary avg).st = if c.fIdx < c.aCnt ∨ c.leadActive = true then .switching else .shed := by
  have hcom : (c.counted avg).committed = { c.counted avg with
      st := if c.fIdx < c.aCnt ∨ c.leadActive = true then .switching else .shed, runNext := false } := by
    have hrun : (c.counted avg).takePhase.takeRun = { c.counted avg with st := .switching, runNext := false } := by
      rw [Cell.takePhase_none (c := c.counted avg) ha hx]
      exact if_pos ⟨hr, hst⟩
    rw [Cell.committed, hrun]
    exact if_pos (.inl rfl)
  obtain ⟨em, dem, ph, hb⟩ := Cell.periodBoundary_run avg h
  rw [hb, hcom]
  exact ⟨rfl, rfl⟩

/-- A pulse after the boundary is that of a switching cell, or one a shed cell completes (R42, R51). -/
theorem Cell.periodBoundary_pulse {c : Cell} (avg : Int) (h : c.stopNext = false) (hp : (c.periodBoundary avg).pulse = true) :
    ((c.periodBoundary avg).st = .switching ∧ 231 ≤ (c.periodBoundary avg).issued) ∨
      ((c.periodBoundary avg).st = .shed ∧ c.spills = true) := by
  obtain ⟨em, dem, ph, hb⟩ := Cell.periodBoundary_run avg h
  rw [hb] at hp ⊢
  obtain hp | hp := Bool.or_eq_true_iff.mp hp
  · obtain ⟨h1, h2⟩ := Bool.and_eq_true_iff.mp hp
    exact .inl ⟨of_decide_eq_true h1, of_decide_eq_true h2⟩
  · obtain ⟨h1, h2⟩ := Bool.and_eq_true_iff.mp hp
    exact .inr ⟨of_decide_eq_true h1, h2⟩

theorem pwmPeriodBoundary_is (c : Fin 256) (avg : Int) (s : State) : ∃ t, exec (.pwmPeriodBoundary c avg) s = .next t ∧
    t.cells = (changeCell s c (Cell.periodBoundary avg)).cells ∧ t.dom = s.dom ∧ t.map = s.map ∧ t.proto = s.proto ∧ t.hem = s.hem ∧
    ∀ r : Fin 48, s.rails[r].leader ≠ c.val → t.rails[r] = s.rails[r] := by
  have hx : exec (.pwmPeriodBoundary c avg) s = execPwmPeriodBoundary c avg s := rfl
  rw [hx, execPwmPeriodBoundary]
  have hbase : (changeCell s c (Cell.periodBoundary avg)).dom = s.dom ∧ (changeCell s c (Cell.periodBoundary avg)).map = s.map ∧
      (changeCell s c (Cell.periodBoundary avg)).proto = s.proto ∧ (changeCell s c (Cell.periodBoundary avg)).hem = s.hem :=
    ⟨changeCell_dom .., changeCell_map .., changeCell_proto .., changeCell_hem ..⟩
  obtain ⟨h1, h2, h3, h4⟩ := hbase
  cases hr : railOf s c.val with
  | none => exact ⟨_, rfl, rfl, h1, h2, h3, h4, fun r _ => by rw [changeCell_rails]⟩
  | some k =>
    dsimp only
    split
    next hl =>
      refine ⟨_, rfl, rfl, h1, h2, h3, h4, fun r hne => ?_⟩
      rw [modRail_other, changeCell_rails]
      rintro rfl
      exact hne hl
    · exact ⟨_, rfl, rfl, h1, h2, h3, h4, fun r _ => by rw [changeCell_rails]⟩

/-- Settles O20: the boundary changes one cell by a function of that cell, read off case by case. -/
theorem periodBoundaryCommitsTheCell : Obligations.PeriodBoundaryCommitsTheCell := by
  intro c avg s h
  obtain ⟨t, ht, hcells, hdom, hmap, hproto, hhem, hrails⟩ := pwmPeriodBoundary_is c avg s
  have hc : t.cells[c] = s.cells[c].periodBoundary avg := by
    rw [hcells, changeCell_not_retired h]
  obtain ⟨hb, hon, hont, hin, hsc, hper, hpn, hpa⟩ := Cell.periodBoundary_words avg s.cells[c]
  refine ⟨t, ht, hc, fun d hd => ?_, hdom, hmap, hproto, hhem, ?_⟩
  · rw [hcells, changeCell_other s hd]
  · rw [hc, hb, hon, hont, hin, hsc, hper, hpn, hpa]
    refine ⟨rfl, rfl, rfl, ?_, fun w hn ha => Cell.takeWords_due hn ha, fun ha => Cell.takeWords_not_due ha, fun hs ha => ?_,
      fun a p q hs ha => ?_, rfl, rfl, hrails, fun hs hst => ?_, fun hs hst hr ha hx => Cell.periodBoundary_released avg hs hst hr ha hx,
      fun hp hs => Cell.periodBoundary_pulse avg hs hp⟩
    · rw [Cell.issued, hont, hper]
      rfl
    · obtain ⟨h1, h2, _⟩ := Cell.periodBoundary_phase avg hs
      rw [h1, h2, Cell.takePhase_some (c := s.cells[c].counted avg) (.inl ha)]
      exact ⟨rfl, if_pos ha⟩
    · obtain ⟨_, h2, h3, h4, h5⟩ := Cell.periodBoundary_phase avg hs
      have hph := Cell.takePhase_some (c := s.cells[c].counted avg) (.inr (by rw [show (s.cells[c].counted avg).applyNext = _ from ha]; simp))
      have hap : (s.cells[c].counted avg).applyNext = some (a, p, q) := ha
      rw [hap] at hph
      rw [h2, h3, h4, h5, hph]
      refine ⟨rfl, rfl, rfl, fun harm => ?_⟩
      have harm' : (s.cells[c].counted avg).armNext = false := harm
      rw [harm']
      exact actCount_eq ..
    · rw [Cell.periodBoundary_stop avg hs]
      refine ⟨?_, rfl, rfl⟩
      exact if_pos (serves_iff.mpr hst)

end Sys2Proof.Machine
end

section
/-! PROOF. Messages on the rail bus: their bits, and what a member makes of them (R38 to R61, R140 to R200). -/

namespace Sys2Proof.Machine

/-! ## The bits of a message -/

theorem MsgType.code_lt (t : MsgType) : t.code < 16 := by cases t <;> decide

theorem MsgType.ofCode_code (t : MsgType) : MsgType.ofCode t.code = some t := by cases t <;> rfl

theorem Msg.wire_eq {m : Msg} (h : m.index < 256) : m.wire = m.index := if_pos h

/-- A message's word, field by field (R57). -/
theorem Msg.word_toNat {m : Msg} (hs : m.src < 256) (hd : m.dst < if m.bcast = true then 64 else 256) (hi : m.index < 256) :
    m.word.toNat = m.type.code * 2 ^ 60 + m.src * 2 ^ 52 + m.dst * 2 ^ 44 + b2n m.bcast * 2 ^ 43 + m.index * 2 ^ 32 + m.payload.toNat := by
  have ht := m.type.code_lt
  have hp := m.payload.isLt
  have hd' : m.dst < 256 := by
    split at hd <;> omega
  have hb : b2n m.bcast ≤ 1 := by
    unfold b2n
    split <;> omega
  unfold Msg.word
  rw [Msg.wire_eq hi, Nat.mod_eq_of_lt hs, Nat.mod_eq_of_lt hd, BitVec.toNat_ofNat, Nat.mod_eq_of_lt]
  omega

theorem Msg.ofWord_word {m : Msg} (hs : m.src < 256) (hd : m.dst < if m.bcast = true then 64 else 256) (hi : m.index < 256) :
    Msg.ofWord m.word = some { m with waits := 0 } := by
  have hw := Msg.word_toNat hs hd hi
  have ht := m.type.code_lt
  have hp := m.payload.isLt
  have hd' : m.dst < 256 := by
    split at hd <;> omega
  have hb : b2n m.bcast ≤ 1 := by
    unfold b2n
    split <;> omega
  have htype : m.word.toNat / 2 ^ 60 = m.type.code := by omega
  have hsrc : m.word.toNat / 2 ^ 52 % 256 = m.src := by omega
  have hidx : m.word.toNat / 2 ^ 32 % 256 = m.index := by omega
  have hpay : BitVec.ofNat 32 m.word.toNat = m.payload := by
    refine BitVec.eq_of_toNat_eq ?_
    rw [BitVec.toNat_ofNat]
    omega
  have hbc : m.word.getLsbD 43 = m.bcast := by
    have h43 : m.word.toNat / 2 ^ 43 % 2 = b2n m.bcast := by omega
    rw [BitVec.getLsbD, Nat.testBit_eq_decide_div_mod_eq, h43]
    cases m.bcast <;> rfl
  have hdst : m.word.toNat / 2 ^ 44 % (if m.bcast = true then 64 else 256) = m.dst := by
    have hlim : (if m.bcast = true then 64 else 256) = 64 ∨ (if m.bcast = true then 64 else 256) = 256 := by split <;> simp
    generalize (if m.bcast = true then 64 else 256) = lim at hd hlim
    obtain rfl | rfl := hlim <;> omega
  unfold Msg.ofWord
  rw [htype, MsgType.ofCode_code, hbc, hdst, hsrc, hidx, hpay]
  rfl

theorem linkRead_link (m : Msg) : linkRead m.link = (.clean, m.word) := by
  have h0 : m.link.extractLsb' 0 64 = m.word := by
    unfold Msg.link
    exact BitVec.extractLsb'_append_eq_right
  have h1 : m.link.extractLsb' 64 8 = Config.secDed m.word := by
    unfold Msg.link
    exact BitVec.extractLsb'_append_eq_left
  unfold linkRead linkOk
  rw [h0, h1]
  simp

/-! ## The coefficient words -/

theorem toCode_lt (v : Int) : toCode 16 v < 65536 := by
  unfold toCode
  omega

theorem ofCode_toCode {v : Int} (h1 : -32768 ≤ v) (h2 : v ≤ 32767) : ofCode 16 (toCode 16 v) = v := by
  unfold ofCode toCode
  split <;> omega

/-- A word of two halves. -/
theorem halves_toNat {a b : Nat} (ha : a < 65536) (hb : b < 65536) :
    (BitVec.ofNat 32 (a % 65536 + b % 65536 * 65536)).toNat = a + b * 65536 := by
  rw [BitVec.toNat_ofNat]
  omega

theorem natBit_of {n k : Nat} {b : Bool} (h : n / 2 ^ k % 2 = b2n b) : natBit n k = b := by
  unfold natBit
  rw [h]
  cases b <;> rfl

theorem b2n_le (b : Bool) : b2n b ≤ 1 := by cases b <;> decide

/-- The five words of a coefficient set spell it again (R109). -/
theorem Coef.ofWords_words {k : Coef} (hkp : k.kp < 65536) (hki : k.ki < 65536) (hkd : k.kd < 65536) (ha1 : k.a1 < 65536) (ha2 : k.a2 < 65536)
    (hf1 : -32768 ≤ k.kff) (hf2 : k.kff ≤ 32767) (hmin : k.dMin < 65536) (hmax : k.dMax < 65536) (hh : k.demHold < 256)
    (hc : k.ctick < 1024) : Coef.ofWords k.words = k := by
  have h4 : (BitVec.ofNat 32 (b2n k.stopImm * 2 ^ 26 + b2n k.demStart * 2 ^ 25 + k.demHold % 256 * 2 ^ 16 + k.ctick % 1024)).toNat =
      b2n k.stopImm * 2 ^ 26 + b2n k.demStart * 2 ^ 25 + k.demHold * 2 ^ 16 + k.ctick := by
    have h1 := b2n_le k.stopImm
    have h2 := b2n_le k.demStart
    rw [BitVec.toNat_ofNat]
    omega
  have hb1 := b2n_le k.stopImm
  have hb2 := b2n_le k.demStart
  have hff := toCode_lt k.kff
  have w0 : (k.words.getD 0 0).toNat = _ := halves_toNat hkp hki
  have w1 : (k.words.getD 1 0).toNat = _ := halves_toNat hkd ha1
  have w2 : (k.words.getD 2 0).toNat = _ := halves_toNat ha2 hff
  have w3 : (k.words.getD 3 0).toNat = _ := halves_toNat hmin hmax
  have w4 : (k.words.getD 4 0).toNat = _ := h4
  unfold Coef.ofWords
  dsimp only
  rw [w0, w1, w2, w3, w4, natBit_of (b := k.stopImm) (by omega), natBit_of (b := k.demStart) (by omega)]
  have hkff : (k.a2 + toCode 16 k.kff * 65536) / 65536 = toCode 16 k.kff := by omega
  rw [hkff, ofCode_toCode hf1 hf2]
  have e1 (a b : Nat) (h : a < 65536) : (a + b * 65536) % 65536 = a := by omega
  have e2 (a b : Nat) (h : a < 65536) : (a + b * 65536) / 65536 = b := by omega
  have hhold : (b2n k.stopImm * 2 ^ 26 + b2n k.demStart * 2 ^ 25 + k.demHold * 2 ^ 16 + k.ctick) / 2 ^ 16 % 256 = k.demHold := by omega
  have htick : (b2n k.stopImm * 2 ^ 26 + b2n k.demStart * 2 ^ 25 + k.demHold * 2 ^ 16 + k.ctick) % 1024 = k.ctick := by omega
  rw [e1 _ _ hkp, e2 _ _ hkp, e1 _ _ hkd, e2 _ _ hkd, e1 _ _ ha2, e1 _ _ hmin, e2 _ _ hmin, hhold, htick]

/-! ## Messages latched -/

theorem takeFrom_sel {sel : Msg → Bool} {c : Nat} {ms : List Msg} {m : Msg} {rest : List Msg} (h : takeFrom sel c ms = some (m, rest)) :
    sel m = true := by
  induction ms generalizing rest with
  | nil => exact absurd h (by simp [takeFrom])
  | cons x xs ih =>
    rw [takeFrom] at h
    split at h
    next hx =>
      obtain ⟨rfl, _⟩ := Prod.mk.inj (Option.some.inj h)
      exact (Bool.and_eq_true_iff.mp hx).1
    · obtain ⟨y, hy, he⟩ := Option.map_eq_some_iff.mp h
      obtain ⟨rfl, _⟩ := Prod.mk.inj he
      exact ih hy

/-- A message whose test names its payload says it. -/
theorem takeFrom_saying {k : Msg → Bool} {w : BitVec 32} {c : Nat} {ms : List Msg} {m : Msg} {rest : List Msg}
    (h : takeFrom (fun m => k m && m.saying w) c ms = some (m, rest)) : m.payload = w := by
  have hs := takeFrom_sel h
  exact of_decide_eq_true (Bool.and_eq_true_iff.mp hs).2

theorem setWidth_toNat_mod (v : BitVec 16) : (v.setWidth 32).toNat % 65536 = v.toNat := by
  have := v.isLt
  rw [BitVec.toNat_setWidth]
  omega

/-- A row whose message is on its way latches it clean. -/
theorem latch_clean {sel : Msg → Bool} {c : Fin 256} {s : State} {m : Msg} {rest : List Msg} {act : Msg → State → State}
    (h : takeFrom sel c.val s.bus = some (m, rest)) : latch sel c .clean act s = act m { s with bus := rest } :=
  latch_of_some .clean act h

theorem latch_none {sel : Msg → Bool} {c : Fin 256} {s : State} {act : Msg → State → State} {e : Ecc}
    (h : takeFrom sel c.val s.bus = none) : latch sel c e act s = s := by
  unfold latch
  rw [h]

/-! ## A word that moves the PHASE -/

theorem Cell.phaseNext_pulse (c : Cell) (p : Bool) : ({ c with pulse := p } : Cell).phaseNext = c.phaseNext := by
  unfold Cell.phaseNext Cell.takePhase
  dsimp only
  split <;> rfl

/-- What is said of the pulse under way when a word may move the PHASE (log entry 149). -/
structure PulseMoves (x y : Cell) : Prop where
  /-- None begins. -/
  stays : x.pulse = false → y.pulse = false
  /-- Only one whose time has passed is left out. -/
  kept : y.phaseNext = x.phaseNext ∨ x.phase ≤ y.phaseNext → y.pulse = x.pulse

theorem pulseMoves_movePhase {x y : Cell} (past : Bool) (hp : y.pulse = x.pulse) (hph : y.phase = x.phase) :
    PulseMoves x (Cell.movePhase x past y) := by
  have hn : (Cell.movePhase x past y).phaseNext = y.phaseNext := Cell.phaseNext_pulse ..
  refine ⟨fun h => ?_, fun h => ?_⟩
  · unfold Cell.movePhase
    rw [hp, h]
    rfl
  · rw [hn] at h
    have hno : (decide (y.phaseNext ≠ x.phaseNext) && decide (y.phaseNext < y.phase) && past) = false := by
      obtain h | h := h
      · simp [h]
      · simp [hph, Nat.not_lt.mpr h]
    unfold Cell.movePhase
    rw [hno, hp]
    simp

/-- A word that may move the PHASE changes its cell alone, but for the draw of whether its time has passed. -/
theorem changePhasing_oneCell {s : State} {c : Fin 256} {f : Cell → Cell} (hr : s.cells[c].st ≠ .retired) (hst : (f s.cells[c]).st = s.cells[c].st)
    (hp : (f s.cells[c]).pulse = s.cells[c].pulse) (hph : (f s.cells[c]).phase = s.cells[c].phase) :
    OneCell c { s with free := s.free + 1 } (changePhasing c f s) { f s.cells[c] with pulse := (changePhasing c f s).cells[c].pulse } ∧
      PulseMoves s.cells[c] (changePhasing c f s).cells[c] := by
  have hself := changePhasing_self hr f
  have hheal : (Cell.movePhase s.cells[c] (Config.freeBool s.free) (f s.cells[c])).healthy = s.cells[c].healthy := by
    unfold Cell.healthy
    rw [show (Cell.movePhase s.cells[c] (Config.freeBool s.free) (f s.cells[c])).st = (f s.cells[c]).st from rfl, hst]
  have hone := changeCell_oneCell (f := fun x => Cell.movePhase x (Config.freeBool s.free) (f x)) hr hheal
  obtain ⟨h1, h2, h3⟩ := hone
  refine ⟨⟨?_, ?_, h3⟩, ?_⟩
  · unfold changePhasing
    rw [h1]
    rfl
  · rw [hself]
    rfl
  · rw [hself]
    exact pulseMoves_movePhase _ hp hph

theorem Cell.phaseControl_keeps (w : Nat) (c : Cell) :
    (c.phaseControl w).st = c.st ∧ (c.phaseControl w).pulse = c.pulse ∧ (c.phaseControl w).phase = c.phase := by
  unfold Cell.phaseControl
  split <;> exact ⟨rfl, rfl, rfl⟩

theorem Cell.coefIn_keeps (k : Nat) (w : BitVec 32) (c : Cell) :
    (c.coefIn k w).st = c.st ∧ (c.coefIn k w).pulse = c.pulse ∧ (c.coefIn k w).phase = c.phase := by
  unfold Cell.coefIn
  dsimp only
  generalize (if k = 0 then [w] else if k = c.coefPart.length then c.coefPart ++ [w] else []) = part
  split <;> exact ⟨rfl, rfl, rfl⟩

/-- A configuration word leaves the cell's state, and its pulse and phase. -/
theorem Cell.config_keeps (i w : Nat) (c : Cell) : (c.config i w).st = c.st ∧ (c.config i w).pulse = c.pulse ∧ (c.config i w).phase = c.phase := by
  unfold Cell.config
  split
  · exact Cell.phaseControl_keeps ..
  · exact ⟨rfl, rfl, rfl⟩
  · exact ⟨rfl, rfl, rfl⟩
  · exact ⟨rfl, rfl, rfl⟩
  · exact ⟨rfl, rfl, rfl⟩
  · exact ⟨rfl, rfl, rfl⟩
  · exact ⟨rfl, rfl, rfl⟩
  · split
    · exact Cell.coefIn_keeps ..
    · exact ⟨rfl, rfl, rfl⟩

theorem Cell.arm_keeps (c : Cell) : c.arm.st = c.st ∧ c.arm.pulse = c.pulse ∧ c.arm.phase = c.phase := by
  rw [Cell.arm_rest]
  exact ⟨rfl, rfl, rfl⟩

/-- The operation of a phase control word is its two upper bits. -/
theorem op_payload {m : Msg} {k : Nat} (hk : k < 4) (h : m.op = k) : m.payload.toNat / 2 ^ 30 % 4 = k := by
  have := m.payload.isLt
  unfold Msg.op at h
  split at h <;> omega

/-! ## Configuration words -/

theorem configWord_rails {c : Fin 256} {m : Msg} {s : State} (r : Fin 48) :
    (railOf s c.val ≠ some r.val ∨ s.rails[r].leader ≠ c.val → (configWord c m s).rails[r] = s.rails[r]) ∧
    (railOf s c.val = some r.val → s.rails[r].leader = c.val → (configWord c m s).rails[r] =
      s.rails[r].config s.cells[c] (changePhasing c (Cell.config m.index m.payload.toNat) s).cells[c] m.index m.payload.toNat) := by
  have hrails : (changePhasing c (Cell.config m.index m.payload.toNat) s).rails = s.rails := by
    unfold changePhasing
    exact changeCell_rails ..
  unfold configWord
  dsimp only
  refine ⟨fun h => ?_, fun h hl => ?_⟩
  · cases hr : railOf s c.val with
    | none => exact congrArg (·[r]) hrails
    | some k =>
      dsimp only
      split
      next hlead =>
        rw [modRail_other, hrails]
        rintro rfl
        have hk : k < 48 := mem_upto.mp (List.mem_of_find?_eq_some hr)
        have hkv : (fin48 k).val = k := Nat.mod_eq_of_lt hk
        obtain h | h := h
        · exact h (hr.trans (congrArg some hkv.symm))
        · exact h hlead
      · exact congrArg (·[r]) hrails
  · rw [h]
    dsimp only
    rw [rail_val, if_pos hl, modRail_val_self, hrails]

/-- Outside the cell and the rail it leads, a configuration word changes nothing. -/
theorem configWord_oneCell {c : Fin 256} {m : Msg} {s : State} (hr : s.cells[c].st ≠ .retired) :
    OneCell c { s with free := s.free + 1, rails := (configWord c m s).rails } (configWord c m s)
      { s.cells[c].config m.index m.payload.toNat with pulse := (configWord c m s).cells[c].pulse } ∧
      PulseMoves s.cells[c] (configWord c m s).cells[c] := by
  obtain ⟨hst, hp, hph⟩ := Cell.config_keeps m.index m.payload.toNat s.cells[c]
  obtain ⟨⟨h1, h2, h3⟩, hmoves⟩ := changePhasing_oneCell hr hst hp hph
  have heq : configWord c m s = { changePhasing c (Cell.config m.index m.payload.toNat) s with rails := (configWord c m s).rails } := by
    unfold configWord
    dsimp only
    split
    · split <;> rfl
    · rfl
  have hcells : (configWord c m s).cells = (changePhasing c (Cell.config m.index m.payload.toNat) s).cells := by rw [heq]
  refine ⟨⟨?_, ?_, fun d hd => ?_⟩, ?_⟩
  · rw [heq, h1]
  · rw [hcells]
    exact h2
  · rw [hcells]
    exact h3 d hd
  · rw [hcells]
    exact hmoves

theorem Rail.config_limits (before c : Cell) (w : Nat) (x : Rail) :
    x.config before c ilimWord w = { x with prot := { x.prot with ilimNext := some w } } ∧
    x.config before c sinkWord w = { x with prot := { x.prot with sinkNext := some (w % 65536, w / 65536) } } := ⟨rfl, rfl⟩

theorem Rail.config_coef {before : Cell} (c : Cell) (w : Nat) {x : Rail} (h : before.coefPart.length = 4) (hr : x.st.runs = true) :
    x.config before c (coefWord + 4) w = { x with loop := { x.loop with coefNext := some c.coef } } := by
  unfold Rail.config
  rw [if_pos ⟨rfl, h⟩, if_pos hr]

theorem Rail.config_low {before c : Cell} {i w : Nat} (x : Rail) (h : i < 0x100) : x.config before c i w = x := by
  have h1 : ¬ (i = coefWord + 4 ∧ before.coefPart.length = 4) := fun hi => by
    have := hi.1
    unfold coefWord at this
    omega
  have h2 : i ≠ ilimWord := by
    unfold ilimWord
    omega
  have h3 : i ≠ sinkWord := by
    unfold sinkWord
    omega
  unfold Rail.config
  rw [if_neg h1, if_neg h2, if_neg h3]

/-- The last of five coefficient words completes the set (R109). -/
theorem Cell.config_coef {c : Cell} (w : BitVec 32) (h : c.coefPart.length = 4) :
    (c.config (coefWord + 4) w.toNat).coef = Coef.ofWords (c.coefPart ++ [w]) := by
  have hc : c.config (coefWord + 4) w.toNat = c.coefIn 4 (BitVec.ofNat 32 w.toNat) := rfl
  rw [hc, BitVec.ofNat_toNat, BitVec.setWidth_eq, Cell.coefIn]
  rw [if_neg (show ¬ (4 = 0) by decide), if_pos h.symm, if_pos (by simp [h])]

theorem exec_configWr {c : Fin 256} {i : Nat} {w : BitVec 32} {s : State} {m : Msg} {rest : List Msg}
    (h : takeFrom (fun m => m.isConfig i && m.saying w) c.val s.bus = some (m, rest)) :
    exec (.configWr c i w .clean) s = .next (settleWords (configWord c m { s with bus := rest })) := by
  have hx : exec (.configWr c i w .clean) s = execConfigWr c i w .clean s := rfl
  rw [hx, execConfigWr, if_pos (by rw [h]; rfl), latch_clean h]

/-! ## The manager's copy -/

theorem oneCell_modCell (s : State) (c : Fin 256) (f : Cell → Cell) : OneCell c s (modCell s c f) (f s.cells[c]) :=
  ⟨rfl, modCell_self .., fun _ hd => modCell_other _ _ _ _ hd.symm⟩

/-- A row that changes its own cell by the message it latches. -/
theorem latch_changeCell {i : Instr} {sel : Msg → Bool} {g : Msg → Cell → Cell} {c : Fin 256} {s : State} {m : Msg} {rest : List Msg} {y : Cell}
    (hx : exec i s = .next (latch sel c .clean (fun m t => changeCell t c (g m)) s)) (h : takeFrom sel c.val s.bus = some (m, rest))
    (hr : s.cells[c].st ≠ .retired) (hy : g m s.cells[c] = y) (hst : (g m s.cells[c]).st = s.cells[c].st) :
    ∃ t, exec i s = .next t ∧ OneCell c { s with bus := rest } t y := by
  refine ⟨_, hx.trans (congrArg _ (latch_clean h)), ?_⟩
  subst hy
  refine changeCell_oneCell (s := { s with bus := rest }) hr ?_
  unfold Cell.healthy
  rw [hst]

theorem Cell.shadowIn_st (self src i : Nat) (w : BitVec 32) (c : Cell) : (c.shadowIn self src i w).st = c.st := by
  unfold Cell.shadowIn
  split
  · rfl
  · rw [apply_dite Cell.st]
    simp only [dite_eq_ite, ite_self]

/-- The eighth word completes the shadow set (R56). -/
theorem Cell.shadowIn_last {c : Cell} {self src : Fin 256} {w : BitVec 32} (hl : c.leader = src.val) (hne : src ≠ self)
    (hlen : c.shadowPart.length = 7) :
    (c.shadowIn self.val src.val 7 w).shadow.toList = c.shadowPart ++ [w] ∧ (c.shadowIn self.val src.val 7 w).shadowPart = [] := by
  have hno : ¬ (src.val ≠ c.leader ∨ c.leader = self.val) := by
    rintro (h | h)
    · exact h hl.symm
    · exact hne (Fin.ext (hl.symm.trans h))
  have h8 : (c.shadowPart ++ [w]).length = 8 := by simp [hlen]
  unfold Cell.shadowIn
  rw [if_neg hno]
  simp [hlen]

/-- The manager's copy of a member's current (R61). -/
def Cell.currentIn (running : Bool) (w : BitVec 32) (x : Cell) : Cell :=
  { x with
    mirCurrent := ofCode 16 (w.toNat % 65536)
    mirror := if running then putMirror (putMirror x.mirror 2 (le16 w.toNat)) 12 (le16 (w.toNat / 65536)) else x.mirror }

theorem Cell.arm_off {x : Cell} (h : x.st = .off) (hrole : x.role ≠ .none) : x.arm.precharge = true := by
  simp [Cell.arm, h, hrole]

theorem Cell.arm_shed {x : Cell} (h : x.st = .shed) : x.arm.armNext = true ∧ x.arm.pendA = none := by
  simp [Cell.arm, h]

theorem Cell.phaseControl_apply {w : Nat} {c : Cell} (h : w / 2 ^ 30 % 4 = 0) :
    c.phaseControl w = { c with applyNext := some (w % 512, wordPos w, w / 2 ^ 20 % 256), pendA := none } := by
  rw [Cell.phaseControl, h]
  rfl

/-- Settles O21: each row latches the message in flight to the cell and acts on it by what the message holds. -/
theorem railBusMessagesActOnTheMember : Obligations.RailBusMessagesActOnTheMember := by
  intro c s hr
  refine ⟨fun m hs hd hi => ⟨Msg.ofWord_word hs hd hi, linkRead_link m⟩, fun src m sel e hm hnone => ?_, fun n w e hnone => ?_,
    fun on m rest h => ?_, fun code m rest h => ?_, fun src index w m rest h => ?_, fun src w hl hne hlen => ?_, fun index w m rest h hw => ?_,
    fun k h1 h2 h3 h4 h5 h6 h7 h8 h9 h10 h11 => Coef.ofWords_words h1 h2 h3 h4 h5 h6 h7 h8 h9 h10 h11, fun w => ?_, fun w m rest h => ?_,
    fun w m rest h => ?_, fun w m rest h => ?_, fun m rest h => ?_, fun index h16 h4 => ?_, fun o v hdue hrun => ?_, fun type h1 h2 => ?_,
    fun src w m rest h hret => ?_⟩
  · obtain ⟨act, hact, _⟩ := hm.latches
    rw [hact, latch_none hnone]
  · have hx : exec (.configWr c n w e) s = execConfigWr c n w e s := rfl
    rw [hx, execConfigWr, if_neg (by rw [hnone]; decide)]
  · refine latch_changeCell rfl h hr ?_ rfl
    rw [takeFrom_saying h, setWidth_toNat_mod]
  · refine latch_changeCell rfl h hr ?_ rfl
    rw [takeFrom_saying h, setWidth_toNat_mod]
  · refine latch_changeCell rfl h hr ?_ (Cell.shadowIn_st ..)
    rw [takeFrom_saying h]
  · exact Cell.shadowIn_last hl hne hlen
  · have hx := exec_configWr h
    rw [settleWords_of_no_words (by rw [configWord_proto]; exact hw)] at hx
    have hp := takeFrom_saying h
    obtain ⟨hone, hmoves⟩ := configWord_oneCell (m := m) (s := { s with bus := rest }) hr
    rw [hp] at hone
    refine ⟨_, hx, hone, hmoves.stays, hmoves.kept, fun r => ?_⟩
    obtain ⟨h1, h2⟩ := configWord_rails (c := c) (m := m) (s := { s with bus := rest }) r
    refine ⟨h1, fun hrail hlead => ?_⟩
    have hself := h2 hrail hlead
    rw [hp] at hself
    refine ⟨fun hi => ?_, fun hi => ?_, fun hi hlen hruns => ?_, fun hi => ?_⟩
    · rw [hself, hi]
      exact (Rail.config_limits ..).1
    · rw [hself, hi]
      exact (Rail.config_limits ..).2
    · have hcoef := congrArg Cell.coef (changePhasing_self (s := { s with bus := rest }) (f := Cell.config (coefWord + 4) w.toNat) hr)
      rw [hself, hi, Rail.config_coef _ _ hlen hruns]
      exact congrArg (fun k => { s.rails[r] with loop := { s.rails[r].loop with coefNext := some k } })
        (hcoef.trans (Cell.config_coef w hlen))
    · rw [hself, Rail.config_low _ hi]
  · exact ⟨rfl, rfl, rfl, rfl, rfl⟩
  · have hop : m.op = 0 := of_decide_eq_true (Bool.and_eq_true_iff.mp (takeFrom_sel h)).1
    have hp := takeFrom_saying h
    have hpay := op_payload (by decide) hop
    obtain ⟨h1, h2, h3⟩ := Cell.phaseControl_keeps m.payload.toNat s.cells[c]
    obtain ⟨hone, hmoves⟩ := changePhasing_oneCell (s := { s with bus := rest }) (f := Cell.phaseControl m.payload.toNat) hr h1 h2 h3
    rw [hp] at hone hpay
    refine ⟨_, congrArg Host.Outcome.next (latch_clean h), ?_, hmoves.stays, hmoves.kept⟩
    rw [hp]
    rw [Cell.phaseControl_apply hpay] at hone
    exact hone
  · have hop : m.op = 1 := of_decide_eq_true (Bool.and_eq_true_iff.mp (takeFrom_sel h)).1
    have hpay := op_payload (by decide) hop
    refine latch_changeCell rfl h hr ?_ (Cell.phaseControl_keeps ..).1
    rw [takeFrom_saying h] at hpay ⊢
    rw [Cell.phaseControl, hpay]
    rfl
  · have hop : m.op = 2 := of_decide_eq_true (Bool.and_eq_true_iff.mp (takeFrom_sel h)).1
    have hpay := op_payload (by decide) hop
    refine latch_changeCell rfl h hr ?_ (Cell.phaseControl_keeps ..).1
    rw [takeFrom_saying h] at hpay ⊢
    rw [Cell.phaseControl, hpay]
    rfl
  · obtain ⟨h1, h2, h3⟩ := Cell.arm_keeps s.cells[c]
    obtain ⟨hone, hmoves⟩ := changePhasing_oneCell (s := { s with bus := rest }) (f := Cell.arm) hr h1 h2 h3
    have hself := hone.2.1
    refine ⟨_, congrArg Host.Outcome.next (latch_clean h), hone, hmoves.stays, hmoves.kept, fun hoff hrole => ?_, fun hshed => ?_⟩
    · exact (congrArg Cell.precharge hself).trans (Cell.arm_off hoff hrole)
    · exact ⟨(congrArg Cell.armNext hself).trans (Cell.arm_shed hshed).1, (congrArg Cell.pendA hself).trans (Cell.arm_shed hshed).2⟩
  · have hx : exec (.statusRd c index .clean) s = .next (if index % 4 = 0 ∧ index < 16 then
        modCell s c (fun x => { x with replyDue := some (index, fieldAt x.block index 4) }) else s) := rfl
    rw [hx, if_pos ⟨h4, h16⟩]
    exact ⟨_, rfl, oneCell_modCell ..⟩
  · refine ⟨_, rfl, ?_⟩
    have hone := oneCell_modCell s c (fun x => match x.replyDue with
      | some (o, v) => { x with replyDue := none, mirror := if s.proto.running then putMirror x.mirror o (le32 v) else x.mirror }
      | none => x)
    rw [hdue] at hone
    dsimp only at hone
    rwa [if_pos hrun] at hone
  · exact ⟨_, congrArg Host.Outcome.next (if_pos ⟨h1, h2⟩),
      changeCell_oneCell (f := fun x => { x with busErrs := satInc 255 x.busErrs }) hr rfl⟩
  · have hp := takeFrom_saying h
    obtain ⟨h1, h2, h3⟩ := changeCell_oneCell (s := { s with bus := rest }) (c := src) (f := Cell.currentIn s.proto.running m.payload) hret rfl
    have hm := congrArg Cell.mirror h2
    refine ⟨_, congrArg Host.Outcome.next (latch_clean h), ⟨h1, h2.trans ?_, h3⟩, fun hrun => hm.trans ?_⟩
    · rw [← hp, Cell.currentIn]
      exact congrArg (fun k => { s.cells[src] with mirCurrent := ofCode 16 (m.payload.toNat % 65536), mirror := k }) hm.symm
    · rw [Cell.currentIn, hrun]
      rfl

end Sys2Proof.Machine
end

section
/-! PROOF. HEARTBEAT and ISOLATE at a member (R36, R57, R78, R79). -/

namespace Sys2Proof.Machine

/-! ## A heartbeat heard -/

theorem Cell.heartbeat_leader {x : Cell} {self src : Nat} (n : Nat) (h : x.leader = src) (hf : x.former ≠ some src) :
    x.heartbeat self src n = ({ x with lastCount := n, missing := 0, heard := true }, false, false) := by
  unfold Cell.heartbeat
  dsimp only
  rw [if_neg hf, if_pos h.symm]

/-- The leader yields to a cell nearer the former leader (R79). -/
theorem Cell.heartbeat_yields {x : Cell} {self src : Nat} (n : Nat) (h : x.leader = self) (hne : src ≠ self) (hf : x.former ≠ some src)
    (hp : precedes (x.former.getD self) src self = true) :
    x.heartbeat self src n =
      ({ x with former := some self, leader := src, role := .follower, lastCount := n, missing := 0, heard := true }, true, true) := by
  unfold Cell.heartbeat
  dsimp only
  rw [if_neg hf, if_neg (by rw [h]; exact hne), if_pos h, h, if_pos hp]

/-- What a member of the sender's rail takes from a heartbeat (R57, R79). -/
def heartbeatIn (c : Fin 256) (src : Nat) (out : Cell × Bool × Bool) (s : State) : State :=
  if out.2.1 ∧ s.cells[c].st ≠ .retired then
    modRail (changeCell s c (fun _ => out.1)) (fin48 s.cells[c].rail)
      (fun x => { x with leaderConflict := true, leader := if out.2.2 then src else x.leader })
  else changeCell s c (fun _ => out.1)

theorem exec_heartbeat {c src : Fin 256} {n : Nat} {s : State} {m : Msg} {rest : List Msg}
    (h : takeFrom (fun m => m.isFrom .heartbeat src.val && m.saying (BitVec.ofNat 32 n)) c.val s.bus = some (m, rest))
    (hrole : s.cells[c].role ≠ .none) (hmem : s.cells[c].members.getLsbD src.val = true) :
    exec (.heartbeat c src n .clean) s =
      .next (heartbeatIn c src.val (s.cells[c].heartbeat c.val src.val (n % 2 ^ 32)) { s with bus := rest }) := by
  have hno : ¬ (s.cells[c].role = .none ∨ s.cells[c].members.getLsbD src.val = false) := by
    rw [hmem]
    exact fun h => h.elim hrole nofun
  have hp : m.payload.toNat = n % 2 ^ 32 := by rw [takeFrom_saying h, BitVec.toNat_ofNat]
  rw [← hp]
  exact congrArg Host.Outcome.next ((latch_clean h).trans (if_neg hno))

/-- Settles O23: a heartbeat by the leader it hears, an isolation by what isolating a cell of no rail does. -/
theorem heartbeatsAndIsolatesActOnTheMember : Obligations.HeartbeatsAndIsolatesActOnTheMember := by
  refine ⟨fun c src n m rest s h hret hrole hmem hf => ⟨fun hl => ?_, fun hl hne hp => ?_⟩, fun c cause s hc hm => ?_⟩
  · rw [exec_heartbeat h hrole hmem, Cell.heartbeat_leader _ hl hf]
    exact ⟨_, rfl, changeCell_oneCell (s := { s with bus := rest })
      (f := fun _ => { s.cells[c] with lastCount := n % 2 ^ 32, missing := 0, heard := true }) hret rfl⟩
  · have hne' : src.val ≠ c.val := fun h => hne (Fin.ext h)
    let x := { s.cells[c] with former := some c.val, leader := src.val, role := .follower, lastCount := n % 2 ^ 32, missing := 0, heard := true }
    have hself := changeCell_not_retired (s := { s with bus := rest }) hret (fun _ => x)
    have hin : heartbeatIn c src.val (x, true, true) { s with bus := rest } =
        modRail (changeCell { s with bus := rest } c (fun _ => x)) (fin48 s.cells[c].rail)
          (fun y => { y with leaderConflict := true, leader := src.val }) := if_pos ⟨rfl, hret⟩
    rw [exec_heartbeat h hrole hmem, Cell.heartbeat_yields _ hl hne' hf hp, hin]
    refine ⟨_, rfl, ?_, ?_, ?_, ?_, ?_, fun d hd => ?_, ?_⟩
    · exact congrArg Cell.leader hself
    · exact congrArg Cell.role hself
    · exact congrArg Cell.former hself
    · rw [modRail_self]
    · rw [modRail_self]
    · exact changeCell_other _ hd _
    · rw [modRail_dom, changeCell_dom]
  · let k := if 1 ≤ cause.toNat ∧ cause.toNat ≤ 11 then cause else 8
    let u := { s with bus := ((takeFrom (Msg.isolates cause) c.val s.bus).map Prod.snd).getD s.bus }
    have hu : u.cells[c].Alive := hc
    have hself : (isolateCell c k u).cells[c] = u.cells[c].isolated k := isolateCell_self hu hm k
    refine ⟨isolateCell c k u, rfl, congrArg Cell.st hself, congrArg Cell.isoCause hself, ?_, ?_, fun d hd => isolateCell_other hd hu hm k⟩
    · rw [isolateCell_alone hu hm, abortProbe_rails, changeCell_rails]
    · rw [isolateCell_alone hu hm, abortProbe_dom, changeCell_dom]

end Sys2Proof.Machine
end

section
/-! PROOF. Check points, and the rewrite of a rail's ranks (R74 to R82). -/

namespace Sys2Proof.Machine

/-! ## The order of succession -/

theorem succession_filter_length (lead : Nat) (ms : List Nat) (p : Nat → Bool) :
    List.length ((succession lead ms).filter p) = List.length (ms.filter p) := by
  have hneg : (fun n => decide (n < lead)) = (fun n => !decide (lead ≤ n)) := funext fun n => by rw [← decide_not, decide_eq_decide, Nat.not_le]
  have hperm : (succession lead ms).Perm ms := by
    unfold succession
    rw [hneg]
    exact List.filter_append_perm (fun n => decide (lead ≤ n)) ms
  exact (hperm.filter p).length_eq

theorem mem_succession {l n : Nat} {ms : List Nat} (h : n ∈ ms) : n ∈ succession l ms := by
  simp only [succession, List.mem_append, List.mem_filter, decide_eq_true_eq]
  exact (Nat.lt_or_ge n l).symm.imp (⟨h, ·⟩) (⟨h, ·⟩)

theorem posIn_none {l : List Nat} {n : Nat} (h : n ∉ l) (k : Nat) : posIn l n k = none := by
  induction l generalizing k with
  | nil => rfl
  | cons x xs ih =>
    have hx : x ≠ n := fun hx => h (by rw [hx]; exact List.mem_cons_self)
    rw [posIn, if_neg hx]
    exact ih (fun hx => h (List.mem_cons_of_mem _ hx)) _

theorem posIn_some {l : List Nat} {n : Nat} (h : n ∈ l) (k : Nat) : ∃ j, posIn l n k = some (k + j) ∧ j < l.length := by
  induction l generalizing k with
  | nil => cases h
  | cons x xs ih =>
    by_cases hx : x = n
    · exact ⟨0, by rw [posIn, if_pos hx, Nat.add_zero], by simp⟩
    · obtain ⟨j, hj, hlt⟩ := ih ((List.mem_cons.mp h).resolve_left (Ne.symm hx)) (k + 1)
      exact ⟨j + 1, by rw [posIn, if_neg hx, hj]; congr 1; omega, by simpa using hlt⟩

/-! ## The ranks rewritten -/

/-- The healthy members in the order of succession (R74). -/
def rankOrder (s : State) (r : Nat) : List Nat := (succession (s.rail r).leader (s.members r)).filter (fun n => (s.cell n).healthy)

theorem rankOrder_length (s : State) (r : Nat) : (rankOrder s r).length = s.healthyN r := succession_filter_length ..

theorem mem_rankOrder {s : State} {r : Nat} {c : Fin 256} : c.val ∈ rankOrder s r ↔
    (s.memberSet r).getLsbD c.val = true ∧ s.cells[c].healthy = true := by
  unfold rankOrder
  rw [List.mem_filter, cell_val]
  refine and_congr_left fun _ => ⟨fun h => (mem_members.mp (mem_of_mem_succession h)).2, fun h => mem_succession (mem_members.mpr ⟨c.isLt, h⟩)⟩

/-- What the rewrite makes of cell `n` (R74, R75, R97). -/
def ranked (s : State) (r n : Nat) (c : Cell) : Cell :=
  if (s.memberSet r).getLsbD n = false ∨ c.st = .retired then c
  else
    match posIn (rankOrder s r) n 0 with
    | some k =>
      Cell.movePhase c (Config.freeBool (s.free + n)) { c with
        role := if n = (s.rail r).leader then .leader
          else if (promoted s (rankOrder s r) (s.entry r).rated).contains n then .follower
          else if c.role = .none then .none else .spare
        rank := if (rankOrder s r).contains (s.rail r).leader then k else k + 1
        fIdx := k, mCnt := (rankOrder s r).length, leadActive := c.leadActive && decide (k ≠ 0) }
    | none => if c.st = .isolated then { c with role := .none } else c

/-- What the rewrite makes of the rail (R80, R82, R149). -/
def Rail.reranked (m : Nat) (x : Rail) : Rail :=
  { x with
    rewriteDue := false, formerDue := []
    ph := if x.st.runs then { x.ph.cancel.carryRot (policyActs x) with aNext := some (min x.ph.aim (max 1 m)), m := m }
      else { x.ph with m := m } }

theorem rewriteRanks_cells (s : State) (r : Nat) (c : Fin 256) : (rewriteRanks r s).cells[c] = ranked s r c.val s.cells[c] := by
  have h : (rewriteRanks r s).cells = (mapCells s (ranked s r)).cells := by
    unfold rewriteRanks
    dsimp only
    rw [ite_cells]
    exact ite_self ..
  rw [h, mapCells_get]

theorem rewriteRanks_rails (s : State) (r : Fin 48) : (rewriteRanks r.val s).rails = (modRail s r (Rail.reranked (s.healthyN r.val))).rails := by
  have h : (rewriteRanks r.val s).rails =
      (modRail s (fin48 r.val) (fun x => { x with
        rewriteDue := false, formerDue := []
        ph := if x.st.runs then { x.ph.cancel.carryRot (policyActs x) with
            aNext := some (min (s.rail r.val).ph.aim (max 1 (rankOrder s r.val).length)), m := (rankOrder s r.val).length }
          else { x.ph with m := (rankOrder s r.val).length } })).rails := by
    unfold rewriteRanks
    dsimp only
    rw [ite_rails]
    exact ite_self ..
  rw [h, fin48_val, rankOrder_length, rail_val]
  rfl

theorem rewriteRanks_only (s : State) (r : Nat) :
    rewriteRanks r s = { s with cells := (rewriteRanks r s).cells, rails := (rewriteRanks r s).rails, bus := (rewriteRanks r s).bus,
                                free := s.free + 256 } := by
  unfold rewriteRanks
  dsimp only
  split <;> rfl

theorem rewriteRanks_bus_stopped {s : State} {r : Nat} (h : (s.rail r).st.runs = false) : (rewriteRanks r s).bus = s.bus := by
  unfold rewriteRanks
  dsimp only
  rw [if_neg (by rw [h]; decide)]
  rfl

theorem promoted_role {s : State} {l : List Nat} {n rated : Nat} (h : (s.cell n).role = .none) : (promoted s l rated).contains n = false := by
  rw [← Bool.not_eq_true, List.contains_iff_mem]
  intro hm
  unfold promoted at hm
  rw [List.mem_append] at hm
  obtain hm | hm := hm
  · have := (List.mem_filter.mp hm).2
    rw [h] at this
    cases this
  · have := (List.mem_filter.mp (List.mem_of_mem_take hm)).2
    rw [h] at this
    cases this

/-- A healthy member is numbered anew (R74, R97). -/
theorem ranked_healthy {s : State} {r : Nat} {c : Fin 256} (hm : (s.memberSet r).getLsbD c.val = true) (hc : s.cells[c].healthy = true) :
    (ranked s r c.val s.cells[c]).mCnt = s.healthyN r ∧ (ranked s r c.val s.cells[c]).fIdx < s.healthyN r ∧
      (s.cells[c].role = .none → c.val ≠ (s.rail r).leader → (ranked s r c.val s.cells[c]).role = .none) ∧
      (ranked s r c.val s.cells[c]).st = s.cells[c].st := by
  obtain ⟨j, hj, hlt⟩ := posIn_some (mem_rankOrder.mpr ⟨hm, hc⟩) 0
  have hret : s.cells[c].st ≠ .retired := fun h => by
    rw [Cell.healthy, h] at hc
    simp at hc
  have hno : ¬ ((s.memberSet r).getLsbD c.val = false ∨ s.cells[c].st = .retired) := by
    rw [hm]
    exact fun h => h.elim nofun hret
  rw [rankOrder_length] at hlt
  rw [Nat.zero_add] at hj
  unfold ranked
  rw [if_neg hno, hj]
  refine ⟨rankOrder_length .., hlt, fun hrole hlead => ?_, rfl⟩
  have hact := promoted_role (l := rankOrder s r) (rated := (s.entry r).rated) ((congrArg Cell.role (cell_val s c)).trans hrole)
  refine (if_neg hlead).trans ?_
  rw [hact, if_neg (by decide), if_pos hrole]

/-- An ISOLATED member loses its role (R75). -/
theorem ranked_isolated {s : State} {r : Nat} {c : Fin 256} (hm : (s.memberSet r).getLsbD c.val = true) (hc : s.cells[c].st = .isolated) :
    ranked s r c.val s.cells[c] = { s.cells[c] with role := .none } := by
  have hno : ¬ ((s.memberSet r).getLsbD c.val = false ∨ s.cells[c].st = .retired) := by
    rw [hm, hc]
    decide
  have hpos : posIn (rankOrder s r) c.val 0 = none := posIn_none (fun h => by
    have := (mem_rankOrder.mp h).2
    rw [Cell.healthy, hc] at this
    simp at this) 0
  unfold ranked
  rw [if_neg hno, hpos]
  exact if_pos hc

theorem PhaseCtx.carryRot_pend (b : Bool) (p : PhaseCtx) : (p.carryRot b).pend = p.pend ∧ (p.carryRot b).a = p.a := by
  unfold PhaseCtx.carryRot
  split
  · exact ⟨rfl, rfl⟩
  · split <;> exact ⟨rfl, rfl⟩

theorem PhaseCtx.cancel_pend (p : PhaseCtx) : p.cancel.pend = none := by
  unfold PhaseCtx.cancel
  split
  next h => exact h
  next h => rfl

theorem Rail.reranked_runs {x : Rail} (m : Nat) (h : x.st.runs = true) :
    (x.reranked m).ph.pend = none ∧ (x.reranked m).ph.aNext = some (min x.ph.aim (max 1 m)) := by
  unfold Rail.reranked
  rw [if_pos h]
  exact ⟨(PhaseCtx.carryRot_pend ..).1.trans (PhaseCtx.cancel_pend _), rfl⟩

theorem Rail.reranked_m (x : Rail) (m : Nat) : (x.reranked m).ph.m = m := by
  unfold Rail.reranked
  dsimp only
  split <;> rfl

theorem Rail.reranked_stopped {x : Rail} (m : Nat) (h : x.st.runs = false) : (x.reranked m).ph.a = x.ph.a := by
  unfold Rail.reranked
  rw [if_neg (by rw [h]; decide)]

/-! ## A former leader dropped -/

theorem mem_post_keep {ms : List Msg} {m : Msg} {s : State} (h : m ∈ s.bus) (hno : ∀ n ∈ ms, n.sameWord m = false) : m ∈ (post ms s).bus := by
  simp only [post, List.mem_append, List.mem_filter]
  refine .inl ⟨h, ?_⟩
  rw [Bool.not_eq_true', ← Bool.not_eq_true, List.any_eq_true]
  rintro ⟨n, hn, hs⟩
  rw [hno n hn] at hs
  cases hs

theorem rewriteRanks_keeps_isolate {s : State} {r src dst : Nat} {w : BitVec 32} (h : msgTo .isolate src dst w ∈ s.bus) :
    msgTo .isolate src dst w ∈ (rewriteRanks r s).bus := by
  unfold rewriteRanks
  dsimp only
  split
  · refine mem_post_keep h fun n hn => ?_
    rw [List.mem_append] at hn
    obtain hn | hn := hn
    · split at hn
      · rw [List.mem_singleton.mp hn]
        rfl
      · cases hn
    · rw [List.mem_singleton.mp hn]
      rfl
  · exact h

theorem dropFormer_none {s : State} {r : Fin 48} (h : s.rails[r].formerDue = []) : dropFormer r.val s = s := by
  unfold dropFormer
  rw [rail_val, h]
  rfl

theorem dropFormer_one {s : State} {r : Fin 48} {n : Nat} (h : s.rails[r].formerDue = [n]) :
    dropFormer r.val s = modRail (if (s.cell n).healthy then post [msgTo .isolate managerPort n 8] s else s) r
      (fun x => { x with takeovers := satInc 255 x.takeovers }) := by
  unfold dropFormer
  rw [rail_val, h, fin48_val]
  rfl

/-- Settles O25: the check point by the judgement without a takeover, the rewrite by what it makes of each cell and of the rail. -/
theorem checkPointsAndRankRewrite : Obligations.CheckPointsAndRankRewrite := by
  refine ⟨fun r s h => ?_, fun r s hst hrel hhub hheard => ?_, fun r s h => ?_, fun r s hdue hrun hf => ?_, fun r n s hdue hrun hf => ?_⟩
  · have hno : ¬ (s.rails[r].st.runs = true ∧ (s.rails[r].released = true ∨ (s.cell s.rails[r].leader).healthy = false)) := by
      obtain h | h := h <;> rw [h] <;> exact fun h => nomatch h.1
    exact congrArg Host.Outcome.next (if_neg hno)
  · have hx := execCheckPoint_of_no_takeover (r := r) (s := s) (by rw [hst]; rfl) hrel (by omega) fun d hd => by
      by_cases hret : s.cells[d].st = .retired
      · rw [judged_cell_of_retired r d s hret]
        exact Cell.takesOver_of_retired _ hret
      · rw [judged_cell r d s hd hret]
        exact Cell.judge_takesOver _ (.inl (hheard d hd))
    refine ⟨_, hx, rfl, ?_, fun k hk => modRail_other _ _ _ _ hk.symm, fun c hc hret hlead => ?_⟩
    · rw [modRail_self]
      have : (judged r s).rails = s.rails := rfl
      rw [this, hhub]
      rfl
    · rw [modRail_cells, judged_cell r c s hc hret]
      unfold Cell.judge
      rw [if_neg hlead, if_pos (hheard c hc)]
  · have hno : ¬ (s.rails[r].rewriteDue = true ∧ s.proto.running = true) := by
      obtain h | h := h <;> rw [h] <;> simp
    exact congrArg Host.Outcome.next (if_neg hno)
  · have hx : exec (.rankRewrite r) s = .next (rewriteRanks r.val s) := by
      have := dropFormer_none hf
      exact congrArg Host.Outcome.next ((if_pos ⟨hdue, hrun⟩).trans (by rw [this]))
    have hself : (rewriteRanks r.val s).rails[r] = s.rails[r].reranked (s.healthyN r.val) := by
      rw [rewriteRanks_rails, modRail_self]
    refine ⟨_, hx, rewriteRanks_only .., ?_, fun hoff => ⟨?_, ?_⟩, fun hruns => ?_, ?_, fun c hc => ⟨fun hh => ?_, fun hi => ?_⟩, ?_, ?_, fun k hk => ?_⟩
    · rw [hself]
      rfl
    · refine rewriteRanks_bus_stopped ?_
      rw [rail_val, hoff]
      rfl
    · rw [hself]
      exact Rail.reranked_stopped _ (by rw [hoff]; rfl)
    · rw [hself]
      exact Rail.reranked_runs _ hruns
    · rw [hself]
      exact Rail.reranked_m ..
    · rw [rewriteRanks_cells]
      have := ranked_healthy hc hh
      rwa [rail_val] at this
    · rw [rewriteRanks_cells]
      exact ranked_isolated hc hi
    · rw [hself]
      rfl
    · rw [hself]
      rfl
    · rw [rewriteRanks_rails, modRail_other _ _ _ _ hk.symm]
  · have hx : exec (.rankRewrite r) s = .next (rewriteRanks r.val (dropFormer r.val s)) := congrArg Host.Outcome.next (if_pos ⟨hdue, hrun⟩)
    have hrails : (dropFormer r.val s).rails = (modRail s r (fun x => { x with takeovers := satInc 255 x.takeovers })).rails := by
      rw [dropFormer_one hf]
      split <;> rfl
    refine ⟨_, hx, fun hh => ?_, ?_, ?_, fun k hk => ?_⟩
    · refine rewriteRanks_keeps_isolate ?_
      rw [dropFormer_one hf, modRail_bus, if_pos hh]
      exact mem_post _ (List.mem_singleton_self _) cellBit_ne_zero
    · rw [rewriteRanks_rails, modRail_self, hrails, modRail_self]
      rfl
    · rw [rewriteRanks_rails, modRail_self]
      rfl
    · rw [rewriteRanks_rails, modRail_other _ _ _ _ hk.symm, hrails, modRail_other _ _ _ _ hk.symm]

end Sys2Proof.Machine
end

section
/-! PROOF. CONTROL_TICK (R104 to R127). -/

namespace Sys2Proof.Machine

/-! ## What a part of the tick leaves -/

/-- What every part of rail `r`'s tick leaves: the map, what the cells are and their periods, the other rails. -/
structure Beside (r : Fin 48) (s t : State) : Prop where
  map : t.map = s.map
  cells : ∀ c : Fin 256, t.cells[c].st = s.cells[c].st ∧ t.cells[c].period = s.cells[c].period
  rails : ∀ k : Fin 48, k ≠ r → t.rails[k] = s.rails[k]

namespace Beside

variable {r : Fin 48} {s t u : State}

theorem refl (s : State) : Beside r s s := ⟨rfl, fun _ => ⟨rfl, rfl⟩, fun _ _ => rfl⟩

theorem trans (h : Beside r s t) (k : Beside r t u) : Beside r s u :=
  ⟨k.map.trans h.map, fun c => ⟨(k.cells c).1.trans (h.cells c).1, (k.cells c).2.trans (h.cells c).2⟩,
    fun i hi => (k.rails i hi).trans (h.rails i hi)⟩

theorem of_eq (hm : t.map = s.map) (hc : t.cells = s.cells) (hr : t.rails = s.rails) : Beside r s t :=
  ⟨hm, fun _ => by rw [hc]; exact ⟨rfl, rfl⟩, fun _ _ => by rw [hr]⟩

theorem modRail (s : State) (f : Rail → Rail) : Beside r s (modRail s (fin48 r.val) f) :=
  ⟨rfl, fun _ => ⟨rfl, rfl⟩, fun _ hk => modRail_val_other s hk f⟩

theorem modCell (s : State) {c : Fin 256} {f : Cell → Cell} (hf : ∀ x, (f x).st = x.st ∧ (f x).period = x.period) :
    Beside r s (modCell s c f) := by
  refine ⟨rfl, fun d => ?_, fun _ _ => rfl⟩
  by_cases h : c = d
  · subst h
    rw [modCell_self]
    exact hf _
  · rw [modCell_other _ _ _ _ h]
    exact ⟨rfl, rfl⟩

theorem members (s : State) {f : Nat → Cell → Cell} (hf : ∀ n x, (f n x).st = x.st ∧ (f n x).period = x.period) :
    Beside r s (changeMembers s r.val f) := by
  refine ⟨changeMembers_map .., fun c => ?_, fun _ _ => by rw [changeMembers_rails]⟩
  rw [changeMembers_get]
  split
  · exact ⟨rfl, rfl⟩
  · split
    · exact hf _ _
    · exact ⟨rfl, rfl⟩

theorem listeners (h : Beside r s t) (k : Nat) : listeners t k = Machine.listeners s k := by
  have hc : ∀ n, (t.cell n).st = (s.cell n).st := fun n => (h.cells (fin256 n)).1
  simp only [Machine.listeners, members_congr h.map, hc]

theorem castFrom (h : Beside r s t) (k lead : Nat) (m : MsgType) (i : Nat) (w : BitVec 32) :
    castFrom t k lead m i w = Machine.castFrom s k lead m i w := by
  rw [Machine.castFrom, Machine.castFrom, h.listeners]

end Beside

/-! ## The parts of the tick -/

theorem sinkLimit_beside (r : Fin 48) (i : Int) (s : State) : Beside r s (sinkLimit r.val i s) := by
  unfold sinkLimit
  dsimp only
  split
  · exact (Beside.modRail s _).trans (Beside.members _ fun _ _ => ⟨rfl, rfl⟩)
  · exact Beside.modRail s _

theorem reached_beside (r : Fin 48) (s : State) : Beside r s (reached r.val s) := by
  unfold reached
  dsimp only
  split
  · split
    · exact (Beside.modRail s _).trans (.of_eq (pulse_map ..) (pulse_cells ..) (pulse_rails ..))
    · exact Beside.modRail s _
  · split
    · refine Beside.members _ fun n x => ?_
      split <;> exact ⟨rfl, rfl⟩
    · exact .refl s

theorem creaseLearn_beside (r : Fin 48) (n t : Nat) (s : State) : Beside r s (creaseLearn n t s) :=
  .of_eq (creaseLearn_map ..) (creaseLearn_cells ..) (creaseLearn_rails ..)

theorem creaseSpoil_beside (r : Fin 48) (n : Nat) (s : State) : Beside r s (creaseSpoil n s) :=
  .of_eq (creaseSpoil_map ..) (creaseSpoil_cells ..) (creaseSpoil_rails ..)

theorem leaderSends_beside (r : Fin 48) (n lead : Nat) (s : State) : Beside r s (leaderSends n lead s) :=
  (Beside.of_eq (s := s) (t := post (leaderWords s n lead) s) rfl rfl rfl).trans (Beside.modCell _ fun _ => ⟨rfl, rfl⟩)

theorem sendTerm_beside (r : Fin 48) (n lead t : Nat) (s : State) : Beside r s (sendTerm n lead t s) := by
  unfold sendTerm
  split
  · exact .of_eq rfl rfl rfl
  · exact .refl s

theorem endTick_beside (r : Fin 48) (lead t : Nat) (s : State) : Beside r s (endTick r.val lead t s) := by
  unfold endTick clearTerm
  refine Beside.trans (Beside.trans ?_ (sendTerm_beside ..)) (Beside.modRail _ _)
  exact Beside.modCell s fun _ => ⟨rfl, rfl⟩

theorem leadTick_beside (r : Fin 48) (lead t : Nat) (s : State) : Beside r s (leadTick r.val lead t s) := by
  unfold leadTick stepReference
  dsimp only
  refine Beside.trans ?_ (endTick_beside ..)
  refine Beside.trans ?_ (leaderSends_beside ..)
  refine Beside.trans ?_ (creaseLearn_beside ..)
  refine Beside.trans ?_ (reached_beside ..)
  refine Beside.trans ?_ (Beside.modRail _ _)
  exact (Beside.modRail _ _).trans (sinkLimit_beside ..)

theorem releaseRail_beside (r : Fin 48) (lead t : Nat) (s : State) : Beside r s (releaseRail r.val lead t s) := by
  unfold releaseRail
  dsimp only
  refine Beside.trans ?_ (endTick_beside ..)
  refine Beside.trans ?_ (leaderSends_beside ..)
  refine Beside.trans ?_ (reached_beside ..)
  refine Beside.trans (Beside.members s fun n x => ?_) (Beside.modRail _ _)
  split <;> exact ⟨rfl, rfl⟩

theorem sendPhase_beside (r : Fin 48) (b : PhaseCtx) (s : State) : Beside r s (sendPhase r.val b s) := by
  refine ⟨?_, fun c => ?_, fun k hk => sendPhase_other hk b s⟩
  · rw [sendPhase_only]
  · rw [sendPhase_only]
    exact ⟨rfl, rfl⟩

/-- The state in which the leader's part of the tick begins: waiting values taken, the members' sums closed, their currents sent. -/
def tickBegun (r : Nat) (s : State) : State :=
  sendCurrents r (changeMembers
    (if (s.rail r).ph.polNext.isSome then spurEval (modRail s (fin48 r) Rail.takeWaiting) else modRail s (fin48 r) Rail.takeWaiting)
    r (fun _ c => c.closeTick))

/-- The leader's part of the tick. -/
def tickLed (r : Nat) (s : State) : State :=
  let t := boundaryTime s (s.rail r).loop.coef.tick
  let lead := (s.rail r).leader
  if (s.cell lead).st.serves then
    if (s.rail r).released then leadTick r lead t s
    else if (s.rail r).measuring = false ∧ armedAll s r then creaseSpoil r (releaseRail r lead t s)
    else creaseSpoil r s
  else creaseSpoil r s

theorem tickRail_eq (r : Nat) (s : State) : tickRail r s =
    bump (sendPhase r (s.rail r).ph (hubTick r (boundaryTime (tickBegun r s) ((tickBegun r s).rail r).loop.coef.tick)
      (tickLed r (tickBegun r s)))) := rfl

theorem sendCurrents_beside (r : Fin 48) (n : Nat) (s : State) : Beside r s (sendCurrents n s) := by
  unfold sendCurrents
  exact .of_eq rfl rfl rfl

theorem hubTick_beside (r : Fin 48) (t : Nat) (s : State) : Beside r s (hubTick r.val t s) := by
  unfold hubTick
  exact Beside.modRail s _

theorem tickBegun_rails (r : Nat) (s : State) : (tickBegun r s).rails = (modRail s (fin48 r) Rail.takeWaiting).rails := by
  unfold tickBegun sendCurrents
  rw [post_only]
  dsimp only
  rw [changeMembers_rails, ite_rails, spurEval_rails, ite_self]

theorem tickBegun_beside (r : Fin 48) (s : State) : Beside r s (tickBegun r.val s) := by
  have hs : Beside r s (if (s.rail r.val).ph.polNext.isSome then spurEval (modRail s (fin48 r.val) Rail.takeWaiting)
      else modRail s (fin48 r.val) Rail.takeWaiting) := by
    refine (Beside.modRail s Rail.takeWaiting).trans (.of_eq ?_ ?_ ?_)
    · rw [ite_map, spurEval_map, ite_self]
    · rw [ite_cells, spurEval_cells, ite_self]
    · rw [ite_rails, spurEval_rails, ite_self]
  unfold tickBegun
  refine Beside.trans (hs.trans (Beside.members _ fun _ x => ?_)) (sendCurrents_beside ..)
  exact ⟨rfl, rfl⟩

theorem tickLed_beside (r : Fin 48) (s : State) : Beside r s (tickLed r.val s) := by
  unfold tickLed
  dsimp only
  split
  · split
    · exact leadTick_beside ..
    · split
      · exact (releaseRail_beside ..).trans (creaseSpoil_beside ..)
      · exact creaseSpoil_beside ..
  · exact creaseSpoil_beside ..

theorem tickRail_beside (r : Fin 48) (s : State) : Beside r s (tickRail r.val s) := by
  rw [tickRail_eq]
  refine Beside.trans ?_ (.of_eq (bump_map ..) (bump_cells ..) (bump_rails ..))
  refine Beside.trans ?_ (sendPhase_beside ..)
  exact ((tickBegun_beside r s).trans (tickLed_beside ..)).trans (hubTick_beside ..)

/-! ## The loop -/

theorem rail_of_rails {s t : State} (h : t.rails = s.rails) (r : Fin 48) : t.rails[r] = s.rails[r] := by rw [h]

/-- A limit on the sink current touches the emulation of a diode alone (R208). -/
theorem sinkLimit_rail (r : Fin 48) (i : Int) (s : State) :
    (sinkLimit r.val i s).rails[r].st = s.rails[r].st ∧ (sinkLimit r.val i s).rails[r].sp = s.rails[r].sp ∧
      ∃ d, (sinkLimit r.val i s).rails[r].loop = { s.rails[r].loop with dem := d } := by
  unfold sinkLimit
  dsimp only
  split
  · rw [rail_of_rails (changeMembers_rails ..), modRail_val_self]
    exact ⟨rfl, rfl, true, rfl⟩
  · rw [modRail_val_self]
    exact ⟨rfl, rfl, _, rfl⟩

theorem reached_loop (r : Fin 48) (s : State) : ∃ d, (reached r.val s).rails[r].loop = { s.rails[r].loop with demLeft := d } := by
  have hreach : (modRail s (fin48 r.val) (fun x => x.reach.notePg s.hem.ticks x)).rails[r].loop = s.rails[r].reach.loop := by
    rw [modRail_val_self]
    unfold Rail.notePg
    split <;> rfl
  unfold reached
  dsimp only
  split
  · split
    · refine ⟨s.rails[r].reach.loop.demLeft, ?_⟩
      rw [targetEvent, rail_of_rails (pulse_rails ..), hreach]
      rfl
    · exact ⟨s.rails[r].reach.loop.demLeft, hreach⟩
  · split
    · rw [rail_of_rails (changeMembers_rails ..)]
      exact ⟨_, rfl⟩
    · exact ⟨_, rfl⟩

/-- The rail once its controller has run (R105, R108). -/
def Rail.controlled (e i exc c : Int) (x : Rail) : Rail :=
  { x with loop := { x.loop.compensate e i exc x.prot.klim c with demLeft := x.loop.demLeft - 1 }
           prot := { x.prot with limiting := decide (0 < exc) }, hubMissing := 0 }

theorem clampInt_bounds {lo hi : Int} (x : Int) (h : lo ≤ hi) : lo ≤ clampInt lo hi x ∧ clampInt lo hi x ≤ hi := by
  unfold clampInt
  omega

theorem Rail.controlled_loop (e i exc c : Int) (x : Rail) :
    (x.controlled e i exc c).loop.ticks = x.loop.ticks ∧ (x.controlled e i exc c).loop.coef = x.loop.coef ∧
      (x.controlled e i exc c).nextRef = x.nextRef ∧
      (x.loop.coef.lo : Int) * 65536 ≤ (x.controlled e i exc c).loop.dPrev ∧
      (x.controlled e i exc c).loop.dPrev ≤ (x.loop.coef.dMax : Int) * 65536 := by
  have hlo : (x.loop.coef.lo : Int) * 65536 ≤ (x.loop.coef.dMax : Int) * 65536 := by
    have : x.loop.coef.lo ≤ x.loop.coef.dMax := Nat.min_le_right ..
    omega
  exact ⟨rfl, rfl, rfl, clampInt_bounds _ hlo⟩

theorem Rail.nextRef_congr {x y : Rail} (hst : y.st = x.st) (hsp : y.sp = x.sp) {d : Bool} (hl : y.loop = { x.loop with dem := d }) :
    y.nextRef = x.nextRef := by
  unfold Rail.nextRef Rail.goal Rail.rate
  rw [hst, hsp, hl]

/-- The state the leader sends from: its controller has run, and the reference has moved (R105, R108, R119). -/
def leaderReady (r lead t : Nat) (s : State) : State :=
  let i := iRailOf s r lead
  let exc := i - (ilimEff s r : Int)
  creaseLearn r t (stepReference r (sinkLimit r i (modRail s (fin48 r) (Rail.controlled (s.cell lead).errMean i exc (termOf s r lead)))))

theorem leadTick_eq (r lead t : Nat) (s : State) : leadTick r lead t s = endTick r lead t (leaderSends r lead (leaderReady r lead t s)) := rfl

/-- What the leader's controller makes of the loop: `y` after, `x` before. -/
structure Led (x y : Loop) (ref : Nat) : Prop where
  coef : y.coef = x.coef
  low : (x.coef.lo : Int) * 65536 ≤ y.dPrev
  high : y.dPrev ≤ (x.coef.dMax : Int) * 65536
  ref : y.ref = ref

theorem leaderReady_led (r : Fin 48) (lead t : Nat) (s : State) :
    Led s.rails[r].loop (leaderReady r.val lead t s).rails[r].loop s.rails[r].nextRef ∧
      (leaderReady r.val lead t s).rails[r].loop.ticks = s.rails[r].loop.ticks := by
  unfold leaderReady stepReference
  dsimp only
  generalize hi : iRailOf s r.val lead = i
  generalize i - (ilimEff s r.val : Int) = exc
  obtain ⟨hst, hsp, d, hd⟩ := sinkLimit_rail r i (modRail s (fin48 r.val) (Rail.controlled (s.cell lead).errMean i exc (termOf s r.val lead)))
  obtain ⟨d', hd'⟩ := reached_loop r (modRail (sinkLimit r.val i (modRail s (fin48 r.val)
    (Rail.controlled (s.cell lead).errMean i exc (termOf s r.val lead)))) (fin48 r.val) (fun x => { x with loop := { x.loop with ref := x.nextRef } }))
  have hnext := Rail.nextRef_congr hst hsp hd
  rw [modRail_val_self] at hd' hd hnext
  dsimp only at hd'
  rw [creaseLearn_rails, hd', hnext, hd]
  obtain ⟨h1, h2, h3, h4, h5⟩ := Rail.controlled_loop (s.cell lead).errMean i exc (termOf s r.val lead) s.rails[r]
  exact ⟨⟨h2, h4, h5, h3⟩, h1⟩

theorem leaderReady_beside (r : Fin 48) (lead t : Nat) (s : State) : Beside r s (leaderReady r.val lead t s) := by
  unfold leaderReady stepReference
  dsimp only
  refine Beside.trans ?_ (creaseLearn_beside ..)
  refine Beside.trans ?_ (reached_beside ..)
  refine Beside.trans ?_ (Beside.modRail _ _)
  exact (Beside.modRail _ _).trans (sinkLimit_beside ..)

theorem endTick_rail (r : Fin 48) (lead t : Nat) (s : State) :
    (endTick r.val lead t s).rails[r] =
      { s.rails[r] with loop := { s.rails[r].loop with ticks := (s.rails[r].loop.ticks + 1) % 2 ^ 32 } } := by
  have h : (sendTerm r.val lead t (clearTerm lead s)).rails = s.rails := by
    unfold sendTerm
    split <;> rfl
  unfold endTick
  rw [modRail_val_self, h]

/-- The words the leader sends at the end of its part (R47, R77). -/
theorem mem_endTick {r lead t : Nat} {s : State} {m : Msg} (h : m ∈ s.bus) (ht : m.type ≠ .configWr) : m ∈ (endTick r lead t s).bus := by
  unfold endTick
  rw [modRail_bus]
  unfold sendTerm
  split
  · refine mem_post_keep h fun n hn => ?_
    rw [List.mem_singleton.mp hn]
    simp [Msg.sameWord, configTo, msgTo, ht.symm]
  · exact h

theorem eq_of_mem_ite {α : Type} {k : Prop} [Decidable k] {m n : α} (h : n ∈ if k then [m] else []) : n = m := by
  split at h
  · exact List.mem_singleton.mp h
  · cases h

theorem mem_sendPhase {r : Nat} {b : PhaseCtx} {s : State} {m : Msg} (h : m ∈ s.bus) (ht : m.type ≠ .configWr) : m ∈ (sendPhase r b s).bus := by
  have hno : ∀ (u : State) op a, (hubWord u r op a).sameWord m = false := fun u op a => by
    simp [Msg.sameWord, hubWord, configCast, ht.symm]
  unfold sendPhase
  dsimp only
  refine mem_post_keep ?_ fun n hn => ?_
  · split <;> exact h
  · simp only [List.mem_append] at hn
    obtain (hn | hn) | hn := hn
    all_goals
      rw [eq_of_mem_ite hn]
      exact hno ..

theorem hubTick_loop (r : Fin 48) (t : Nat) (s : State) : (hubTick r.val t s).rails[r].loop = s.rails[r].loop := by
  unfold hubTick
  dsimp only
  rw [modRail_val_self]
  unfold Rail.phaseTick
  dsimp only
  repeat' split
  all_goals rfl

theorem sendPhase_loop (r : Fin 48) (b : PhaseCtx) (s : State) : (sendPhase r.val b s).rails[r].loop = s.rails[r].loop := by
  rw [sendPhase_self]

/-! ## The whole tick -/

/-- The leader of a released rail that switches runs its part (R104). -/
theorem tickLed_leads {r : Fin 48} {s : State} (hrel : s.rails[r].released = true) (hsw : (s.cell s.rails[r].leader).st = .switching) :
    tickLed r.val s = leadTick r.val s.rails[r].leader (boundaryTime s s.rails[r].loop.coef.tick) s := by
  unfold tickLed
  dsimp only
  rw [rail_val, if_pos (by rw [hsw]; rfl), if_pos hrel]

theorem tickRail_loop (r : Fin 48) (s : State) : (tickRail r.val s).rails[r].loop = (tickLed r.val (tickBegun r.val s)).rails[r].loop := by
  rw [tickRail_eq, rail_of_rails (bump_rails _), sendPhase_loop, hubTick_loop]

theorem mem_tickRail {r : Nat} {s : State} {m : Msg} (h : m ∈ (tickLed r (tickBegun r s)).bus) (ht : m.type ≠ .configWr) :
    m ∈ (tickRail r s).bus := by
  rw [tickRail_eq, bump_bus]
  refine mem_sendPhase ?_ ht
  rw [hubTick_bus]
  exact h

/-- What the tick of a led rail leaves in its loop, and the words it sends (R47, R77, R105). -/
structure TickOfLeader (r : Fin 48) (s t : State) : Prop where
  loop : Led s.rails[r].takeWaiting.loop t.rails[r].loop s.rails[r].takeWaiting.nextRef
  ticks : t.rails[r].loop.ticks = (s.rails[r].loop.ticks + 1) % 2 ^ 32
  sends : ∀ m : Msg, m = castFrom s r.val s.rails[r].leader .heartbeat 0 (BitVec.ofNat 32 s.rails[r].loop.ticks) ∨
      m = castFrom s r.val s.rails[r].leader .reference 0 (BitVec.ofNat 32 (t.rails[r].loop.ref / 65536)) ∨
      m = castFrom s r.val s.rails[r].leader .duty 0
        (BitVec.ofNat 32 (onTimeOf t.rails[r].loop.dPrev (s.cell s.rails[r].leader).period % 65536)) →
    m.waits ≠ 0 → m ∈ t.bus

theorem mem_leaderWords {r : Fin 48} {s u : State} {lead : Nat} (h : Beside r s u) {m : Msg}
    (hm : m = castFrom s r.val lead .heartbeat 0 (BitVec.ofNat 32 u.rails[r].loop.ticks) ∨
      m = castFrom s r.val lead .reference 0 (BitVec.ofNat 32 (u.rails[r].loop.ref / 65536)) ∨
      m = castFrom s r.val lead .duty 0 (BitVec.ofNat 32 (onTimeOf u.rails[r].loop.dPrev (s.cell lead).period % 65536))) :
    m ∈ leaderWords u r.val lead := by
  have hper : (u.cell lead).period = (s.cell lead).period := (h.cells _).2
  unfold leaderWords
  dsimp only
  rw [rail_val, hper]
  simp only [h.castFrom]
  refine List.mem_append_left _ ?_
  obtain rfl | rfl | rfl := hm
  · exact .head _
  · exact .tail _ (.head _)
  · exact .tail _ (.tail _ (.head _))

theorem mem_leaderSends {r lead : Nat} {s : State} {m : Msg} (h : m ∈ leaderWords s r lead) (hw : m.waits ≠ 0) : m ∈ (leaderSends r lead s).bus := by
  unfold leaderSends
  rw [modCell_bus]
  exact mem_post s h hw

theorem tickRail_leads {r : Fin 48} {s : State} (hrel : s.rails[r].released = true) (hsw : (s.cell s.rails[r].leader).st = .switching) :
    TickOfLeader r s (tickRail r.val s) := by
  have hb := tickBegun_beside r s
  have hrail : (tickBegun r.val s).rails[r] = s.rails[r].takeWaiting := by
    rw [rail_of_rails (tickBegun_rails ..), modRail_val_self]
  have hled := tickLed_leads (r := r) (s := tickBegun r.val s) (by rw [hrail]; exact hrel) (by
    rw [hrail]
    exact ((hb.cells (fin256 s.rails[r].leader)).1).trans hsw)
  rw [hrail] at hled
  have hlead : s.rails[r].takeWaiting.leader = s.rails[r].leader := rfl
  rw [hlead] at hled
  generalize boundaryTime (tickBegun r.val s) s.rails[r].takeWaiting.loop.coef.tick = now at hled
  have hready := hb.trans (leaderReady_beside r s.rails[r].leader now (tickBegun r.val s))
  obtain ⟨hloop, hticks⟩ := leaderReady_led r s.rails[r].leader now (tickBegun r.val s)
  rw [hrail] at hloop hticks
  have hend : (tickRail r.val s).rails[r].loop =
      { (leaderReady r.val s.rails[r].leader now (tickBegun r.val s)).rails[r].loop with
        ticks := ((leaderReady r.val s.rails[r].leader now (tickBegun r.val s)).rails[r].loop.ticks + 1) % 2 ^ 32 } := by
    rw [tickRail_loop, hled, leadTick_eq, endTick_rail, rail_of_rails (leaderSends_rails ..)]
  have hbus : ∀ m : Msg, m ∈ leaderWords (leaderReady r.val s.rails[r].leader now (tickBegun r.val s)) r.val s.rails[r].leader →
      m.type ≠ .configWr → m.waits ≠ 0 → m ∈ (tickRail r.val s).bus := fun m hm ht hw => by
    refine mem_tickRail ?_ ht
    rw [hled, leadTick_eq]
    exact mem_endTick (mem_leaderSends hm hw) ht
  generalize tickRail r.val s = t at hend hbus ⊢
  generalize leaderReady r.val s.rails[r].leader now (tickBegun r.val s) = u at hready hloop hticks hend hbus
  obtain ⟨h1, h2, h3, h4⟩ := hloop
  constructor
  case loop =>
    rw [hend]
    exact ⟨h1, h2, h3, h4⟩
  case ticks =>
    rw [hend, hticks]
    rfl
  case sends =>
    rw [hend, ← show u.rails[r].loop.ticks = s.rails[r].loop.ticks from hticks]
    intro m hm hw
    refine hbus m (mem_leaderWords hready hm) ?_ hw
    obtain rfl | rfl | rfl := hm <;> exact nofun

theorem badTarget_false {code : Nat} (h1 : 800 ≤ code) (h2 : code ≤ 7200) : badTarget code = false := by
  simp [badTarget, h1, h2]

theorem badTarget_true {code : Nat} (h : code < 800 ∨ 7200 < code) : badTarget code = true := by
  simpa [badTarget] using h

theorem creaseSpoil_only (r : Nat) (s : State) : creaseSpoil r s = { s with crease := (creaseSpoil r s).crease } := by
  unfold creaseSpoil
  split
  · split <;> rfl
  · rfl

theorem creaseSpoil_other {r : Nat} {s : State} {x : Fin 8} (h : s.crease[x].rail ≠ some r) : (creaseSpoil r s).crease[x] = s.crease[x] := by
  unfold creaseSpoil
  split
  next k hk =>
    have hrail : s.crease[k].rail = some r := by
      unfold creaseOf at hk
      simpa using List.find?_some hk
    split
    · rfl
    · exact upd_other _ _ _ _ fun hx : k = x => h (hx ▸ hrail)
  next => rfl

/-- A regulating rail keeps its reference; a slewing one moves it to its target by its rate (R119, R127). -/
theorem Rail.nextRef_regulating {x : Rail} (h : x.st = .regulating) : x.takeWaiting.nextRef = x.loop.ref := by
  have htake : x.takeWaiting.st = .regulating := h
  unfold Rail.nextRef
  rw [htake, if_neg (by decide)]
  rfl

theorem Rail.nextRef_slewing {x : Rail} (h : x.st = .slewing) (hc : x.loop.coefNext = none) :
    x.takeWaiting.nextRef = moveRef x.loop.ref (x.loop.target * 65536) (refStep x.sp.slew x.loop.coef.tick) := by
  have htake : x.takeWaiting.st = .slewing := h
  have hcoef : x.takeWaiting.loop.coef = x.loop.coef := by
    unfold Rail.takeWaiting
    rw [hc]
    rfl
  unfold Rail.nextRef Rail.goal Rail.rate
  rw [htake, hcoef, if_pos (by decide), if_neg (by decide), if_neg (by decide), if_neg (by decide)]
  rfl

/-- Settles O24: what the tick leaves beside its rail, and the loop and the words of a rail whose leader switches. -/
theorem controlTickRegulates : Obligations.ControlTickRegulates := by
  refine ⟨fun r s h => ?_, fun r s hst hbad => ?_, fun r s h => ?_⟩
  · have hreg : ¬ (s.rails[r].st.regulates = true ∧ badTarget s.rails[r].loop.target = true) := by
      obtain h | h := h <;> rw [h] <;> exact fun h => nomatch h.1
    have hruns : ¬ s.rails[r].st.runs = true := by
      obtain h | h := h <;> rw [h] <;> decide
    refine ⟨_, (if_neg hreg).trans (if_neg hruns), ?_, ?_, fun k hk => ?_, fun x hx => creaseSpoil_other hx⟩
    · rw [creaseSpoil_only]
      rfl
    · rw [rail_of_rails (creaseSpoil_rails ..), modRail_self]
    · rw [rail_of_rails (creaseSpoil_rails ..), modRail_other _ _ _ _ hk.symm]
  · exact if_pos ⟨by obtain h | h := hst <;> rw [h] <;> rfl, badTarget_true hbad⟩
  · have hreg : ¬ (s.rails[r].st.regulates = true ∧ badTarget s.rails[r].loop.target = true) := by
      obtain h | h | ⟨_, h1, h2⟩ := h
      · rw [h]
        exact fun h => nomatch h.1
      · rw [h]
        exact fun h => nomatch h.1
      · rw [badTarget_false h1 h2]
        exact fun h => nomatch h.2
    have hruns : s.rails[r].st.runs = true := by
      obtain h | h | ⟨h | h, _⟩ := h <;> rw [h] <;> rfl
    refine ⟨tickRail r.val s, (if_neg hreg).trans (if_pos hruns), (tickRail_beside r s).rails, tickRail_dom .., tickRail_map .., tickRail_proto ..,
      tickRail_hem .., fun hrel hsw => ?_⟩
    have hled := tickRail_leads hrel hsw
    generalize tickRail r.val s = t at hled ⊢
    obtain ⟨⟨hcoef, hlo, hhi, href⟩, hticks, hmsgs⟩ := hled
    refine ⟨hticks, ?_, ?_, hmsgs, fun hst => href.trans ?_, fun hst hnext => href.trans ?_⟩
    · rw [hcoef]
      exact hlo
    · rw [hcoef]
      exact hhi
    · exact Rail.nextRef_regulating hst
    · exact Rail.nextRef_slewing hst hnext

end Sys2Proof.Machine
end

section
/-! PROOF. What an event leaves of the manager's clock and of the power states: of the first all but the supply, of the second all but the
wake recorded and the gate of the clock (R453, R470). -/

namespace Sys2Proof.Machine

/-- The clock without its supply. -/
def Clk.core (c : Clk) : Clk := { c with supply := 0, bias := 0, assist := .off }

/-- The power states without the wake recorded and the gate of the clock. -/
def Pwr.core (p : Pwr) : Pwr := { p with wake := none, gated := false }

theorem Clk.eq_of_core {c d : Clk} (h : c.core = d.core) : c = { d with supply := c.supply, bias := c.bias, assist := c.assist } := by
  obtain ⟨⟩ := c
  obtain ⟨⟩ := d
  simpa [Clk.core] using h

theorem setSupply_core (c : Clk) (mv : Nat) (b : Int) (a : Assist) : (setSupply c mv b a).core = c.core := by
  unfold setSupply
  split <;> rfl

theorem wakeReq_clkcore (w : WakeSource) (s : State) : (wakeReq w s).clk.core = s.clk.core := by
  unfold wakeReq
  split
  · rfl
  · dsimp only
    split
    · exact setSupply_core ..
    · rfl

theorem wakeReq_pwrcore (w : WakeSource) (s : State) : (wakeReq w s).pwr.core = s.pwr.core := by
  unfold wakeReq
  split <;> rfl

theorem eventWake_clkcore (e : Fin 1024) (b : Bool) (s : State) : (eventWake e b s).clk.core = s.clk.core := by
  unfold eventWake
  split
  · split
    · exact wakeReq_clkcore ..
    · rfl
  · rfl

theorem eventWake_pwrcore (e : Fin 1024) (b : Bool) (s : State) : (eventWake e b s).pwr.core = s.pwr.core := by
  unfold eventWake
  split
  · split
    · exact wakeReq_pwrcore ..
    · rfl
  · rfl

@[simp] theorem evChange_clkcore (f : Ev → Ev) (k : Ev → Bool) (e : Fin 1024) (s : State) : (evChange f k e s).clk.core = s.clk.core := by
  unfold evChange
  dsimp only
  rw [eventWake_clkcore, eventWake_clkcore]
  rfl

@[simp] theorem evChange_pwrcore (f : Ev → Ev) (k : Ev → Bool) (e : Fin 1024) (s : State) : (evChange f k e s).pwr.core = s.pwr.core := by
  unfold evChange
  dsimp only
  rw [eventWake_pwrcore, eventWake_pwrcore]
  rfl

@[simp] theorem pulse_clkcore (e : Fin 1024) (s : State) : (pulse e s).clk.core = s.clk.core := by
  unfold pulse
  split
  · exact evChange_clkcore ..
  · rfl

@[simp] theorem pulse_pwrcore (e : Fin 1024) (s : State) : (pulse e s).pwr.core = s.pwr.core := by
  unfold pulse
  split
  · exact evChange_pwrcore ..
  · rfl

@[simp] theorem pulseIf_clkcore (k : Bool) (e : Fin 1024) (s : State) : (pulseIf k e s).clk.core = s.clk.core := by
  unfold pulseIf
  split
  · exact pulse_clkcore ..
  · rfl

@[simp] theorem pulseIf_pwrcore (k : Bool) (e : Fin 1024) (s : State) : (pulseIf k e s).pwr.core = s.pwr.core := by
  unfold pulseIf
  split
  · exact pulse_pwrcore ..
  · rfl

@[simp] theorem setLine_clkcore (e : Fin 1024) (b : Bool) (s : State) : (setLine e b s).clk.core = s.clk.core := by
  unfold setLine
  split
  · rfl
  · split
    · exact evChange_clkcore ..
    · rfl

@[simp] theorem setLine_pwrcore (e : Fin 1024) (b : Bool) (s : State) : (setLine e b s).pwr.core = s.pwr.core := by
  unfold setLine
  split
  · rfl
  · split
    · exact evChange_pwrcore ..
    · rfl

@[simp] theorem arrived_clkcore (q : Req) (s : State) : (arrived q s).clk.core = s.clk.core := by
  have h : (arrived q s).clk = (resume s).clk := by rw [arrived_only]
  rw [h, resume]
  dsimp only
  split
  · exact setSupply_core ..
  · rfl

@[simp] theorem arrived_pwrcore (q : Req) (s : State) : (arrived q s).pwr.core = s.pwr.core := by
  rw [arrived_only]
  rfl

/-- A field that the core keeps. -/
theorem Clk.get {α : Type} {c d : Clk} (h : c.core = d.core) (f : Clk → α) (hf : ∀ x : Clk, f x.core = f x) : f c = f d := by
  rw [← hf c, h, hf]

theorem Pwr.get {α : Type} {c d : Pwr} (h : c.core = d.core) (f : Pwr → α) (hf : ∀ x : Pwr, f x.core = f x) : f c = f d := by
  rw [← hf c, h, hf]

theorem off_of_core {s t : State} (h : t.pwr.core = s.pwr.core) : t.off = s.off := by
  unfold State.off
  rw [Pwr.get h Pwr.lost (fun _ => rfl), Pwr.get h Pwr.st (fun _ => rfl)]

theorem loopStopped_of_core {s t : State} (h : t.pwr.core = s.pwr.core) : t.loopStopped = s.loopStopped := by
  unfold State.loopStopped
  rw [off_of_core h, Pwr.get h Pwr.st (fun _ => rfl), Pwr.get h Pwr.entering (fun _ => rfl)]

end Sys2Proof.Machine
end

section
/-! PROOF. What each operation of the model leaves of the clock's core and the power's core. -/

namespace Sys2Proof.Machine

/-! ## `clkcore` -/

theorem ite_clkcore (k : Prop) [Decidable k] (s t : State) :
    (if k then s else t).clk.core = if k then s.clk.core else t.clk.core := apply_ite (fun s : State => s.clk.core) ..
@[simp] theorem recheckActive_clkcore (s : State) : (recheckActive s).clk.core = s.clk.core := by unfold recheckActive; simp
@[simp] theorem discardCommands_clkcore (s : State) : (discardCommands s).clk.core = s.clk.core := by unfold discardCommands; simp
@[simp] theorem cutBurn_clkcore (job : BurnJob) (s : State) : (cutBurn job s).clk.core = s.clk.core := by unfold cutBurn; simp
@[simp] theorem cutShort_clkcore (s : State) : (cutShort s).clk.core = s.clk.core := by
  unfold cutShort; repeat' split
  all_goals simp
@[simp] theorem stopManager_clkcore (s : State) : (stopManager s).clk.core = s.clk.core := by
  unfold stopManager; repeat' split
  all_goals simp [ite_clkcore]
@[simp] theorem releaseAll_clkcore (s : State) : (releaseAll s).clk.core = s.clk.core := by unfold releaseAll; simp

/-! ## `pwrcore` -/

theorem ite_pwrcore (k : Prop) [Decidable k] (s t : State) :
    (if k then s else t).pwr.core = if k then s.pwr.core else t.pwr.core := apply_ite (fun s : State => s.pwr.core) ..
theorem foldl_pwrcore {α : Type} (f : State → α → State) (h : ∀ s x, (f s x).pwr.core = s.pwr.core) (l : List α) (s : State) :
    (l.foldl f s).pwr.core = s.pwr.core := by
  induction l generalizing s with
  | nil => rfl
  | cons x xs ih => rw [List.foldl_cons, ih, h]
@[simp] theorem landSet_pwrcore (m : BitVec 32) (s : State) : (landSet m s).pwr.core = s.pwr.core := by unfold landSet; simp
@[simp] theorem seqSet_pwrcore (m : BitVec 16) (s : State) : (seqSet m s).pwr.core = s.pwr.core := by unfold seqSet; simp
@[simp] theorem pwrSet_pwrcore (m : BitVec 16) (s : State) : (pwrSet m s).pwr.core = s.pwr.core := by unfold pwrSet; simp
@[simp] theorem hemSet_pwrcore (m : BitVec 16) (s : State) : (hemSet m s).pwr.core = s.pwr.core := by unfold hemSet; simp
@[simp] theorem serveTemps_pwrcore (s : State) : (serveTemps s).pwr.core = s.pwr.core := by unfold serveTemps; simp
@[simp] theorem joinTemp_pwrcore (r : TempReq) (s : State) : (joinTemp r s).pwr.core = s.pwr.core := by unfold joinTemp; simp
@[simp] theorem requestTemp_pwrcore (r : TempReq) (s : State) : (requestTemp r s).pwr.core = s.pwr.core := by unfold requestTemp; simp
@[simp] theorem post_pwrcore (ms : List Msg) (s : State) : (post ms s).pwr.core = s.pwr.core := by unfold post; simp
@[simp] theorem spurEval_pwrcore (s : State) : (spurEval s).pwr.core = s.pwr.core := by unfold spurEval; simp [ite_pwrcore]
@[simp] theorem recheckActive_pwrcore (s : State) : (recheckActive s).pwr.core = s.pwr.core := by unfold recheckActive; simp
@[simp] theorem pulses_pwrcore (es : List Nat) (s : State) : (pulses es s).pwr.core = s.pwr.core := by unfold pulses; simp [foldl_pwrcore]
@[simp] theorem changeCells_pwrcore (s : State) (f : Nat → Cell → Cell) : (changeCells s f).pwr.core = s.pwr.core := by
  unfold changeCells; simp [ite_pwrcore]
@[simp] theorem capture_pwrcore (cause : Nat) (index : Nat) (s : State) : (capture cause index s).pwr.core = s.pwr.core := by
  unfold capture; simp [ite_pwrcore]
@[simp] theorem sendEcho_pwrcore (kind : Nat) (seq : Nat) (s : State) : (sendEcho kind seq s).pwr.core = s.pwr.core := by
  unfold sendEcho; simp [ite_pwrcore]
@[simp] theorem enterDom_pwrcore (d : DomSt) (s : State) : (enterDom d s).pwr.core = s.pwr.core := by
  unfold enterDom; repeat' split
  all_goals simp
@[simp] theorem domLoseVin_pwrcore (s : State) : (domLoseVin s).pwr.core = s.pwr.core := by
  unfold domLoseVin; repeat' split
  all_goals simp
@[simp] theorem sendPhase_pwrcore (r : Nat) (before : PhaseCtx) (s0 : State) : (sendPhase r before s0).pwr.core = s0.pwr.core := by
  unfold sendPhase; simp [ite_pwrcore]
@[simp] theorem leaveRails_pwrcore (out : Rail → Bool) (st : RailSt) (s : State) : (leaveRails out st s).pwr.core = s.pwr.core := by
  unfold leaveRails; simp [foldl_pwrcore]
@[simp] theorem abortProbe_pwrcore (s : State) : (abortProbe s).pwr.core = s.pwr.core := by unfold abortProbe; simp [ite_pwrcore]
@[simp] theorem stopAllArming_pwrcore (s : State) : (stopAllArming s).pwr.core = s.pwr.core := by unfold stopAllArming; simp
@[simp] theorem offEvents_pwrcore (before : State) (after : State) : (offEvents before after).pwr.core = after.pwr.core := by
  unfold offEvents; simp
@[simp] theorem discardCommands_pwrcore (s : State) : (discardCommands s).pwr.core = s.pwr.core := by unfold discardCommands; simp
@[simp] theorem cutBurn_pwrcore (job : BurnJob) (s : State) : (cutBurn job s).pwr.core = s.pwr.core := by unfold cutBurn; simp
@[simp] theorem cutShort_pwrcore (s : State) : (cutShort s).pwr.core = s.pwr.core := by
  unfold cutShort; repeat' split
  all_goals simp
@[simp] theorem setHold_pwrcore (h : HoldSt) (s : State) : (setHold h s).pwr.core = s.pwr.core := by unfold setHold; simp [ite_pwrcore]
@[simp] theorem holdOffVin_pwrcore (s : State) : (holdOffVin s).pwr.core = s.pwr.core := by unfold holdOffVin; simp [ite_pwrcore]
@[simp] theorem holdOfPack_pwrcore (before : State) (s : State) : (holdOfPack before s).pwr.core = s.pwr.core := by
  unfold holdOfPack; repeat' split
  all_goals simp
@[simp] theorem setPhase_pwrcore (p : ChgPh) (s : State) : (setPhase p s).pwr.core = s.pwr.core := by
  unfold setPhase; repeat' split
  all_goals simp
@[simp] theorem chgIdle_pwrcore (s : State) : (chgIdle s).pwr.core = s.pwr.core := by
  unfold chgIdle; repeat' split
  all_goals simp
@[simp] theorem judgeSusp_pwrcore (judgeTemp : Bool) (s : State) : (judgeSusp judgeTemp s).pwr.core = s.pwr.core := by
  unfold judgeSusp; repeat' split
  all_goals simp [ite_pwrcore]
@[simp] theorem unconfigured_pwrcore (s : State) : (unconfigured s).pwr.core = s.pwr.core := by
  unfold unconfigured; repeat' split
  all_goals simp
@[simp] theorem stopSwitching_pwrcore (s : State) : (stopSwitching s).pwr.core = s.pwr.core := by
  unfold stopSwitching; repeat' split
  all_goals simp

end Sys2Proof.Machine
end

section
/-! PROOF. The reference and the timebase (R174 to R181). -/

namespace Sys2Proof.Machine

/-! ## The operations on the clock -/

/-- Nothing differs but the clock, what an event changes, and the count of free values. -/
def ClockOnly (s t : State) : Prop := t = { s with free := t.free, clk := t.clk, router := t.router, seam := t.seam, pwr := t.pwr }

namespace ClockOnly

theorem refl (s : State) : ClockOnly s s := rfl

theorem of_clk (s : State) (c : Clk) : ClockOnly s { s with clk := c } := rfl

theorem of_clk_bump (s : State) (c : Clk) : ClockOnly s (Machine.bump { s with clk := c }) := rfl

theorem trans {s t u : State} (h : ClockOnly s t) (k : ClockOnly t u) : ClockOnly s u := by
  unfold ClockOnly at h k ⊢
  rw [k, h]

theorem pulseIf (k : Bool) (e : Fin 1024) (s : State) : ClockOnly s (Machine.pulseIf k e s) := by
  unfold ClockOnly
  rw [pulseIf_only]

theorem setLine (e : Fin 1024) (b : Bool) (s : State) : ClockOnly s (Machine.setLine e b s) := by
  unfold ClockOnly
  rw [setLine_only]

end ClockOnly

theorem clkSet_clock (m : BitVec 16) (s : State) : ClockOnly s (clkSet m s) := (ClockOnly.of_clk ..).trans (.pulseIf ..)

theorem clkSet_core (m : BitVec 16) (s : State) : (clkSet m s).clk.core = { s.clk with flags := s.clk.flags ||| m }.core := pulseIf_clkcore ..

theorem clkSet_pwr (m : BitVec 16) (s : State) : (clkSet m s).pwr.core = s.pwr.core := pulseIf_pwrcore ..

theorem spurEval_clock (s : State) : ClockOnly s (spurEval s) := by
  unfold spurEval
  dsimp only
  split
  · exact .refl s
  · exact (ClockOnly.of_clk ..).trans (.setLine ..)

theorem spurEval_core (s : State) :
    (spurEval s).clk.core = { s.clk with spurViol := !(planViols s s.clk.bands s.clk.u).isEmpty }.core := by
  unfold spurEval
  dsimp only
  split
  next h => rw [h]
  next => exact setLine_clkcore ..

theorem spurEval_pwr (s : State) : (spurEval s).pwr.core = s.pwr.core := by
  unfold spurEval
  dsimp only
  split
  · rfl
  · exact setLine_pwrcore ..

theorem updateU_clock (s : State) : ClockOnly s (updateU s) := by
  have h : ClockOnly s { holdOffset s with clk := { (holdOffset s).clk with u := uOf (holdOffset s) } } := rfl
  unfold updateU
  dsimp only
  split
  · exact h
  · exact h.trans (spurEval_clock _)

theorem updateU_core (s : State) : (updateU s).clk.core =
    { s.clk with offNow := offsetLive s, offAt := s.hem.ticks, u := uOf (holdOffset s), spurViol := (updateU s).clk.spurViol }.core := by
  unfold updateU
  dsimp only
  split
  · rfl
  · rw [spurEval_core, Clk.get (spurEval_core _) Clk.spurViol (fun _ => rfl)]
    rfl

theorem updateU_pwr (s : State) : (updateU s).pwr.core = s.pwr.core := by
  unfold updateU
  dsimp only
  split
  · rfl
  · exact spurEval_pwr _

/-- The clock as a state of the timebase is entered (R174, R178). -/
def Clk.enter (st : TbSt) (off : Int) (now : Nat) (c : Clk) : Clk :=
  { c with
    tb := st, offNow := if st = .free then 0 else off, offAt := now
    hoRun := c.hoRun || st.onRef, hoTime := if (c.tb.onRef && !st.onRef) = true ∨ st.onRef = true then 0 else c.hoTime
    means := if st = .locked ∧ c.tb ≠ .locked then [] else c.means }

theorem setTb_eq (st : TbSt) (s : State) : setTb st s =
    updateU (pulseIf (decide (st ≠ s.clk.tb)) 464 { s with clk := s.clk.enter st (offsetLive s) s.hem.ticks }) := rfl

theorem setTb_clock (st : TbSt) (s : State) : ClockOnly s (setTb st s) := by
  rw [setTb_eq]
  exact ((ClockOnly.of_clk ..).trans (.pulseIf ..)).trans (updateU_clock _)

theorem setTb_pwr (st : TbSt) (s : State) : (setTb st s).pwr.core = s.pwr.core := by
  rw [setTb_eq, updateU_pwr, pulseIf_pwrcore]

/-- Entering a state of the timebase sets the offset, U and what follows from them, and nothing else of the clock. -/
theorem setTb_core (st : TbSt) (s : State) : ∃ o u v, (setTb st s).clk.core =
    { s.clk.enter st (offsetLive s) s.hem.ticks with offNow := o, u := u, spurViol := v }.core := by
  refine ⟨(setTb st s).clk.offNow, (setTb st s).clk.u, (setTb st s).clk.spurViol, ?_⟩
  rw [setTb_eq]
  generalize hp : pulseIf (decide (st ≠ s.clk.tb)) 464 { s with clk := s.clk.enter st (offsetLive s) s.hem.ticks } = p
  have hc : p.clk.core = (s.clk.enter st (offsetLive s) s.hem.ticks).core := by
    rw [← hp]
    exact pulseIf_clkcore ..
  have ht : p.hem = s.hem := by
    rw [← hp]
    exact pulseIf_hem ..
  have hu := updateU_core p
  rw [Clk.get hu Clk.offNow (fun _ => rfl), Clk.get hu Clk.u (fun _ => rfl), hu, ht]
  have h : ∀ (c d : Clk) o a u v, c.core = d.core →
      { c with offNow := o, offAt := a, u := u, spurViol := v }.core = { d with offNow := o, offAt := a, u := u, spurViol := v }.core :=
    fun c d o a u v h => congrArg (fun x : Clk => { x with offNow := o, offAt := a, u := u, spurViol := v }) h
  exact h _ _ _ _ _ _ hc

/-- In LOCKED, U is the reference's; in HOLDOVER and FREE the offset stands (R174). -/
theorem setTb_locked (s : State) : (setTb .locked s).clk.u = s.clk.uRef := by
  rw [setTb_eq, Clk.get (updateU_core _) Clk.u (fun _ => rfl)]
  generalize hp : pulseIf (decide (TbSt.locked ≠ s.clk.tb)) 464 { s with clk := s.clk.enter .locked (offsetLive s) s.hem.ticks } = p
  have hc : p.clk.core = (s.clk.enter .locked (offsetLive s) s.hem.ticks).core := by
    rw [← hp]
    exact pulseIf_clkcore ..
  have htb : (holdOffset p).clk.tb = .locked := Clk.get hc Clk.tb (fun _ => rfl)
  have hu : (holdOffset p).clk.uRef = s.clk.uRef := Clk.get hc Clk.uRef (fun _ => rfl)
  show uOf (holdOffset p) = _
  unfold uOf
  dsimp only
  rw [htb, hu]

theorem offsetLive_still {s : State} (h1 : s.clk.tb ≠ .slide) (h2 : s.clk.tb.onRef = false) : offsetLive s = s.clk.offNow := by
  unfold offsetLive
  dsimp only
  split
  next h => exact absurd h h1
  next h =>
    rw [h] at h2
    cases h2
  next h =>
    rw [h] at h2
    cases h2
  next => rfl

/-- A slide that has reached its target stands there. -/
theorem offsetLive_at_target {s : State} (h : s.clk.tb = .slide) (ho : s.clk.offNow = s.clk.target) : offsetLive s = s.clk.target := by
  unfold offsetLive
  dsimp only
  rw [h, ho]
  unfold clampInt
  dsimp only
  omega

theorem setTb_tb (st : TbSt) (s : State) : (setTb st s).clk.tb = st := by
  obtain ⟨_, _, _, h⟩ := setTb_core st s
  exact Clk.get h Clk.tb (fun _ => rfl)

theorem setTb_still {st : TbSt} {s : State} (h1 : st ≠ .slide) (h2 : st.onRef = false) :
    (setTb st s).clk.offNow = if st = .free then 0 else offsetLive s := by
  rw [setTb_eq, Clk.get (updateU_core _) Clk.offNow (fun _ => rfl)]
  generalize hp : pulseIf (decide (st ≠ s.clk.tb)) 464 { s with clk := s.clk.enter st (offsetLive s) s.hem.ticks } = p
  have hc : p.clk.core = (s.clk.enter st (offsetLive s) s.hem.ticks).core := by
    rw [← hp]
    exact pulseIf_clkcore ..
  have htb : p.clk.tb = st := Clk.get hc Clk.tb (fun _ => rfl)
  exact (offsetLive_still (by rw [htb]; exact h1) (by rw [htb]; exact h2)).trans (Clk.get hc Clk.offNow (fun _ => rfl))

theorem enterSlide_clock (s : State) : ClockOnly s (enterSlide s) := (ClockOnly.of_clk ..).trans (setTb_clock ..)

theorem enterSlide_pwr (s : State) : (enterSlide s).pwr.core = s.pwr.core := setTb_pwr ..

theorem enterSlide_tb (s : State) : (enterSlide s).clk.tb = .slide := by
  obtain ⟨_, _, _, h⟩ := setTb_core .slide { s with clk := { s.clk with slideLearned := decide (s.clk.mode ≠ 2) && s.clk.offValid } }
  exact Clk.get h Clk.tb (fun _ => rfl)

/-- What entering a state of the timebase leaves of the clock. -/
structure SameSettings (c d : Clk) : Prop where
  ref : d.ref = c.ref
  mode : d.mode = c.mode
  edges : d.edges = c.edges
  xoBad : d.xoBad = c.xoBad
  flags : d.flags = c.flags
  qualLeft : d.qualLeft = c.qualLeft
  offLearned : d.offLearned = c.offLearned
  offValid : d.offValid = c.offValid
  offPreset : d.offPreset = c.offPreset
  uLrn : d.uLrn = c.uLrn
  soMode : d.soMode = c.soMode
  soNext : d.soNext = c.soNext
  bands : d.bands = c.bands
  level : d.level = c.level
  changing : d.changing = c.changing
  switching : d.switching = c.switching

namespace SameSettings

theorem refl (c : Clk) : SameSettings c c := by constructor <;> rfl

theorem trans {c d e : Clk} (h : SameSettings c d) (k : SameSettings d e) : SameSettings c e := by
  obtain ⟨⟩ := h
  obtain ⟨⟩ := k
  constructor <;> simp_all

theorem of_core {c d : Clk} (h : d.core = c.core) : SameSettings c d :=
  ⟨Clk.get h Clk.ref (fun _ => rfl), Clk.get h Clk.mode (fun _ => rfl), Clk.get h Clk.edges (fun _ => rfl), Clk.get h Clk.xoBad (fun _ => rfl), Clk.get h Clk.flags (fun _ => rfl), Clk.get h Clk.qualLeft (fun _ => rfl),
    Clk.get h Clk.offLearned (fun _ => rfl), Clk.get h Clk.offValid (fun _ => rfl), Clk.get h Clk.offPreset (fun _ => rfl), Clk.get h Clk.uLrn (fun _ => rfl), Clk.get h Clk.soMode (fun _ => rfl),
    Clk.get h Clk.soNext (fun _ => rfl), Clk.get h Clk.bands (fun _ => rfl), Clk.get h Clk.level (fun _ => rfl), Clk.get h Clk.changing (fun _ => rfl), Clk.get h Clk.switching (fun _ => rfl)⟩

theorem setTb (st : TbSt) (s : State) : SameSettings s.clk (setTb st s).clk := by
  obtain ⟨o, u, v, h⟩ := setTb_core st s
  exact (show SameSettings s.clk { s.clk.enter st (offsetLive s) s.hem.ticks with offNow := o, u := u, spurViol := v } by
    constructor <;> rfl).trans (.of_core h)

theorem enterSlide (s : State) : SameSettings s.clk (enterSlide s).clk := by
  unfold Machine.enterSlide
  refine SameSettings.trans ?_ (setTb .slide _)
  constructor <;> rfl

end SameSettings

/-! ## The reference -/

theorem setRef_clock (st : RefSt) (n : Nat) (s : State) : ClockOnly s (setRef st n s) := (ClockOnly.of_clk ..).trans (.pulseIf ..)

theorem setRef_core (st : RefSt) (n : Nat) (s : State) : (setRef st n s).clk.core = { s.clk with ref := st, qualLeft := n }.core :=
  pulseIf_clkcore ..

theorem setRef_pwr (st : RefSt) (n : Nat) (s : State) : (setRef st n s).pwr.core = s.pwr.core := pulseIf_pwrcore ..

theorem loseRef_clock (s : State) : ClockOnly s (loseRef s) := by
  have h := setRef_clock .absent 0 s
  unfold loseRef
  dsimp only
  split
  · split
    · exact (h.trans (clkSet_clock ..)).trans (setTb_clock ..)
    · exact (h.trans (clkSet_clock ..)).trans (enterSlide_clock ..)
  · exact h

theorem loseRef_pwr (s : State) : (loseRef s).pwr.core = s.pwr.core := by
  unfold loseRef
  dsimp only
  split
  · split
    · rw [setTb_pwr, clkSet_pwr, setRef_pwr]
    · rw [enterSlide_pwr, clkSet_pwr, setRef_pwr]
  · exact setRef_pwr ..

theorem loseRef_ref (s : State) : (loseRef s).clk.ref = .absent ∧ (loseRef s).clk.edges = s.clk.edges ∧ (loseRef s).clk.xoBad = s.clk.xoBad := by
  have hr := setRef_core .absent 0 s
  have hc := clkSet_core 0x80 (setRef .absent 0 s)
  have h : ∀ t : State, SameSettings (clkSet 0x80 (setRef .absent 0 s)).clk t.clk →
      t.clk.ref = .absent ∧ t.clk.edges = s.clk.edges ∧ t.clk.xoBad = s.clk.xoBad := fun t h =>
    ⟨(h.ref.trans (Clk.get hc Clk.ref (fun _ => rfl))).trans (Clk.get hr Clk.ref (fun _ => rfl)), (h.edges.trans (Clk.get hc Clk.edges (fun _ => rfl))).trans (Clk.get hr Clk.edges (fun _ => rfl)),
      (h.xoBad.trans (Clk.get hc Clk.xoBad (fun _ => rfl))).trans (Clk.get hr Clk.xoBad (fun _ => rfl))⟩
  unfold loseRef
  dsimp only
  split
  · split
    · exact h _ (.setTb ..)
    · exact h _ (.enterSlide _)
  · exact ⟨Clk.get hr Clk.ref (fun _ => rfl), Clk.get hr Clk.edges (fun _ => rfl), Clk.get hr Clk.xoBad (fun _ => rfl)⟩

/-- A locked timebase that loses its reference slides, with LOCK_LOST (R176, R199). -/
theorem loseRef_locked {s : State} (hq : s.clk.ref = .qualified) (ht : s.clk.tb = .locked) (hx : s.clk.xoBad = false) :
    (loseRef s).clk.tb = .slide ∧ (loseRef s).clk.flags = s.clk.flags ||| 0x80 := by
  have heq : loseRef s = enterSlide (clkSet 0x80 (setRef .absent 0 s)) := by
    unfold loseRef
    dsimp only
    rw [if_pos ⟨hq, by rw [ht]; rfl⟩, hx, if_neg (by decide)]
  have hf : (setRef .absent 0 s).clk.flags = s.clk.flags := Clk.get (setRef_core ..) Clk.flags (fun _ => rfl)
  rw [heq]
  refine ⟨enterSlide_tb _, (SameSettings.enterSlide _).flags.trans ((Clk.get (clkSet_core ..) Clk.flags (fun _ => rfl)).trans ?_)⟩
  rw [← hf]

theorem startQual_clock (s : State) : ClockOnly s (startQual s) := (ClockOnly.of_clk_bump ..).trans (setRef_clock ..)

theorem requalify_clock (s : State) : ClockOnly s (requalify s) := by
  unfold requalify
  split
  · exact startQual_clock s
  · exact .refl s

/-- Where edges are present the qualification begins anew (R175). -/
theorem requalify_absent {s : State} (h : s.clk.ref = .absent) (hx : s.clk.xoBad = false) : (requalify s).clk.ref =
    (if s.clk.edges = true ∧ s.loopStopped = false then .qualifying else .absent) ∧ (requalify s).clk.tb = s.clk.tb ∧
      (requalify s).clk.flags = s.clk.flags := by
  unfold requalify
  by_cases hc : s.clk.edges = true ∧ s.loopStopped = false
  · rw [if_pos ⟨h, hc.1, hx, hc.2⟩, if_pos hc]
    exact ⟨Clk.get (setRef_core ..) Clk.ref (fun _ => rfl), Clk.get (setRef_core ..) Clk.tb (fun _ => rfl), Clk.get (setRef_core ..) Clk.flags (fun _ => rfl)⟩
  · rw [if_neg (fun k => hc ⟨k.2.1, k.2.2.2⟩), if_neg hc]
    exact ⟨h, rfl, rfl⟩

theorem landSet_clkcore (m : BitVec 32) (s : State) : (landSet m s).clk.core = s.clk.core := pulseIf_clkcore ..

theorem ClockOnly.rails {s t : State} (h : ClockOnly s t) : t.rails = s.rails := by rw [h]
theorem ClockOnly.dom {s t : State} (h : ClockOnly s t) : t.dom = s.dom := by rw [h]
theorem ClockOnly.land {s t : State} (h : ClockOnly s t) : t.land = s.land := by rw [h]

/-! ## Edges and measurements -/

theorem exec_syncInPresent (s : State) : exec .syncInPresent s = .next (requalify { s with clk := { s.clk with edges := true } }) := rfl

theorem clampInt_span {lo hi : Int} (x : Int) (h : lo ≤ hi) : lo ≤ clampInt lo hi x ∧ clampInt lo hi x ≤ hi := by
  unfold clampInt
  omega

/-- A qualification that begins draws an offset within the tolerance (R175). -/
theorem startQual_core (s : State) : (startQual s).clk.core =
    { s.clk with ref := .qualifying, qualLeft := s.clk.qualMs, refOff := (startQual s).clk.refOff }.core := by
  have hc : (startQual s).clk.core = { s.clk with
      ref := .qualifying, qualLeft := s.clk.qualMs
      refOff := clampInt (-((s.clk.tol : Int) * 1000)) ((s.clk.tol : Int) * 1000) (Config.freeInt s.free) }.core := setRef_core ..
  have ho := Clk.get hc Clk.refOff (fun _ => rfl)
  rw [hc, ho]

theorem startQual_span (s : State) : -((s.clk.tol : Int) * 1000) ≤ (startQual s).clk.refOff ∧ (startQual s).clk.refOff ≤ (s.clk.tol : Int) * 1000 := by
  have ho : (startQual s).clk.refOff = clampInt (-((s.clk.tol : Int) * 1000)) ((s.clk.tol : Int) * 1000) (Config.freeInt s.free) :=
    Clk.get (setRef_core ..) Clk.refOff (fun _ => rfl)
  rw [ho]
  exact clampInt_span _ (by omega)

/-- The state a measurement that passes leaves (R176). -/
def measuredRef (hz : Nat) (s : State) : State :=
  { holdOffset s with clk := { (holdOffset s).clk with refOff := (holdOffset s).clk.refOffset hz } }

/-- What the judgement of a measurement makes of the state (R175, R176). -/
def judgedRef (hz ps : Nat) (s : State) : State :=
  if s.clk.ref = .absent ∨ s.clk.xoBad then s
  else if s.clk.passes hz = false ∨ (s.clk.tb = .locked ∧ 100000 < ps) then requalify (loseRef s)
  else if s.clk.ref = .qualifying then { s with clk := { s.clk with qualLeft := s.clk.qualLeft - 1 } }
  else s

theorem exec_syncMeasurement (hz ps : Nat) (s : State) : exec (.syncMeasurement ⟨hz, ps⟩) s =
    .next (judgedRef hz ps (if s.clk.ref = .absent ∨ s.clk.xoBad ∨ s.clk.passes hz = false then s else measuredRef hz s)) := rfl

theorem judgedRef_fails {hz ps : Nat} {s : State} (hr : s.clk.ref ≠ .absent) (hx : s.clk.xoBad = false)
    (hf : s.clk.passes hz = false ∨ (s.clk.tb = .locked ∧ 100000 < ps)) : judgedRef hz ps s = requalify (loseRef s) := by
  unfold judgedRef
  rw [if_neg (by rw [hx]; exact fun h => h.elim hr nofun), if_pos hf]

theorem exec_syncMeasurement_fails {hz ps : Nat} {s : State} (hr : s.clk.ref ≠ .absent) (hx : s.clk.xoBad = false)
    (hf : s.clk.passes hz = false ∨ (s.clk.tb = .locked ∧ 100000 < ps)) :
    ∃ u, exec (.syncMeasurement ⟨hz, ps⟩) s = .next (requalify (loseRef u)) ∧ ClockOnly s u ∧ u.pwr = s.pwr ∧ u.clk.ref = s.clk.ref ∧
      u.clk.tb = s.clk.tb ∧ u.clk.xoBad = false ∧ u.clk.edges = s.clk.edges ∧ u.clk.flags = s.clk.flags := by
  rw [exec_syncMeasurement]
  by_cases hp : s.clk.passes hz = false
  · rw [if_pos (.inr (.inr hp)), judgedRef_fails hr hx hf]
    exact ⟨s, rfl, .refl s, rfl, rfl, rfl, hx, rfl, rfl⟩
  · rw [if_neg (by rw [hx]; exact fun h => h.elim hr (fun h => h.elim nofun hp)), judgedRef_fails (s := measuredRef hz s) hr hx hf]
    exact ⟨_, rfl, rfl, rfl, rfl, rfl, hx, rfl, rfl⟩

theorem exec_syncMeasurement_passes {hz ps : Nat} {s : State} (hr : s.clk.ref ≠ .absent) (hx : s.clk.xoBad = false)
    (hp : s.clk.passes hz = true) (hl : s.clk.tb ≠ .locked ∨ ps ≤ 100000) : exec (.syncMeasurement ⟨hz, ps⟩) s =
      .next { s with free := s.free + 1, clk := { s.clk with
        offNow := offsetLive s, offAt := s.hem.ticks, refOff := s.clk.refOffset hz
        qualLeft := if s.clk.ref = .qualifying then s.clk.qualLeft - 1 else s.clk.qualLeft } } := by
  have hfail : ¬ ((measuredRef hz s).clk.passes hz = false ∨ ((measuredRef hz s).clk.tb = .locked ∧ 100000 < ps)) := by
    have hp' : (measuredRef hz s).clk.passes hz = true := hp
    rw [hp']
    exact fun h => h.elim nofun fun h => hl.elim (fun k => k h.1) (fun k => absurd h.2 (by omega))
  have hno : ¬ ((measuredRef hz s).clk.ref = .absent ∨ (measuredRef hz s).clk.xoBad = true) := by
    have : (measuredRef hz s).clk.xoBad = false := hx
    rw [this]
    exact fun h => h.elim hr nofun
  rw [exec_syncMeasurement, if_neg (by rw [hx, hp]; exact fun h => h.elim hr (fun h => h.elim nofun nofun)), judgedRef, if_neg hno, if_neg hfail]
  by_cases hq : s.clk.ref = .qualifying
  · have hq' : (measuredRef hz s).clk.ref = .qualifying := hq
    rw [if_pos hq', if_pos hq]
    rfl
  · have hq' : (measuredRef hz s).clk.ref ≠ .qualifying := hq
    rw [if_neg hq', if_neg hq]
    rfl

/-! ## The timebase -/

theorem tbCheck_clock (s : State) : ClockOnly s (tbCheck s) := by
  unfold tbCheck
  split
  · exact setTb_clock ..
  · exact .refl s

theorem updateU_u (s : State) : (updateU s).clk.u = uOf (holdOffset s) := Clk.get (updateU_core s) Clk.u (fun _ => rfl)

theorem uOf_tb (s : State) : (s.clk.tb = .free → uOf (holdOffset s) = 2000) ∧ (s.clk.tb = .locked → uOf (holdOffset s) = s.clk.uRef) ∧
    (s.clk.tb = .coast → uOf (holdOffset s) = 50000) := by
  have htb : (holdOffset s).clk.tb = s.clk.tb := rfl
  refine ⟨fun h => ?_, fun h => ?_, fun h => ?_⟩
  all_goals
    unfold uOf
    dsimp only
    rw [htb, h]
  rfl

theorem quot_one (m : Int) : quot ([m].sum) ([m].length) = m := by
  simp [quot]

/-- Settles O27: each happening by the operations on the reference and the timebase it is made of. -/
theorem timebaseFollowsTheReference : Obligations.TimebaseFollowsTheReference := by
  refine ⟨fun s => ⟨fun hr hx hl => ?_, fun h => ?_⟩, fun s => ?_, fun hz ps s => ⟨fun h => ?_, fun hr hx hp hl => ?_, fun hr hx hf => ?_⟩,
    fun s => ⟨fun h => ?_, fun hr hm hx ht => ?_⟩, fun s => ⟨fun h => ?_, fun h => ?_⟩, fun s => ⟨fun h => ?_, fun h => ?_⟩,
    fun mean s => ⟨fun h => ?_, fun h hx hb => ?_⟩, fun s => ?_⟩
  · have heq : requalify { s with clk := { s.clk with edges := true } } = startQual { s with clk := { s.clk with edges := true } } :=
      if_pos ⟨hr, rfl, hx, hl⟩
    rw [exec_syncInPresent, heq]
    exact ⟨_, rfl, Clk.eq_of_core (startQual_core _), (startQual_span _).1, (startQual_span _).2, (ClockOnly.of_clk ..).trans (startQual_clock _)⟩
  · refine congrArg Host.Outcome.next (if_neg ?_)
    rintro ⟨h1, _, h3, h4⟩
    obtain h | h | h := h
    · exact h h1
    · exact absurd (h3.symm.trans h) nofun
    · exact absurd (h4.symm.trans h) nofun
  · generalize hu : landSet 0x4000 { s with clk := { s.clk with edges := false } } = u
    have hc : u.clk.core = { s.clk with edges := false }.core := by
      rw [← hu]
      exact landSet_clkcore ..
    have hrails : u.rails = s.rails := by rw [← hu, landSet_rails]
    have hdom : u.dom = s.dom := by rw [← hu, landSet_dom]
    have hland : u.land.flags = s.land.flags ||| 0x4000 := by
      rw [← hu]
      unfold landSet
      rw [pulseIf_land]
    have hx : exec .syncRange s = .next (loseRef u) := by
      rw [← hu]
      rfl
    obtain ⟨h1, h2, h3⟩ := loseRef_ref u
    refine ⟨_, hx, h1, h2.trans (Clk.get hc Clk.edges (fun _ => rfl)), ?_, ?_, ?_, fun hq ht hxo => ?_⟩
    · rw [(loseRef_clock u).land, hland]
    · rw [(loseRef_clock u).rails, hrails]
    · rw [(loseRef_clock u).dom, hdom]
    · have hl := loseRef_locked ((Clk.get hc Clk.ref (fun _ => rfl)).trans hq) ((Clk.get hc Clk.tb (fun _ => rfl)).trans ht) ((Clk.get hc Clk.xoBad (fun _ => rfl)).trans hxo)
      exact ⟨hl.1, hl.2.trans (congrArg (· ||| 0x80) (Clk.get hc Clk.flags (fun _ => rfl)))⟩
  · rw [exec_syncMeasurement, if_pos (h.imp_right .inl), judgedRef, if_pos h]
  · exact exec_syncMeasurement_passes hr hx hp hl
  · obtain ⟨u, hx', ho, hpwr, href, htb, hxo, hedges, hflags⟩ := exec_syncMeasurement_fails hr hx hf
    obtain ⟨h1, h2, h3⟩ := loseRef_ref u
    obtain ⟨k1, k2, k3⟩ := requalify_absent h1 (h3.trans hxo)
    have hall := (ho.trans (loseRef_clock u)).trans (requalify_clock _)
    refine ⟨_, hx', ?_, fun hq ht => ?_, hall.rails, hall.dom, hall.land⟩
    · rw [k1, h2, hedges, loopStopped_of_core (loseRef_pwr u), loopStopped_of_core (congrArg Pwr.core hpwr)]
    · obtain ⟨l1, l2⟩ := loseRef_locked (href.trans hq) (htb.trans ht) hxo
      exact ⟨k2.trans l1, k3.trans (l2.trans (congrArg (· ||| 0x80) hflags))⟩
  · exact congrArg Host.Outcome.next (if_neg h)
  · generalize hu : setRef .qualified 0 s = u
    have hc : u.clk.core = { s.clk with ref := .qualified, qualLeft := 0 }.core := by
      rw [← hu]
      exact setRef_core ..
    have hcl : ClockOnly s u := by
      rw [← hu]
      exact setRef_clock ..
    have hx' : exec .qualified s = .next (setTb .pullIn u) := by
      refine congrArg Host.Outcome.next ((if_pos hr).trans ?_)
      rw [hu]
      refine if_pos ⟨Clk.get hc Clk.ref (fun _ => rfl), (Clk.get hc Clk.mode (fun _ => rfl)).trans hm, (Clk.get hc Clk.xoBad (fun _ => rfl)).trans hx, ?_⟩
      rw [show u.clk.tb = s.clk.tb from Clk.get hc Clk.tb (fun _ => rfl)]
      exact ht
    have hset := SameSettings.setTb .pullIn u
    obtain ⟨_, _, _, ht'⟩ := setTb_core .pullIn u
    refine ⟨_, hx', hset.ref.trans (Clk.get hc Clk.ref (fun _ => rfl)), Clk.get ht' Clk.tb (fun _ => rfl), hset.qualLeft.trans (Clk.get hc Clk.qualLeft (fun _ => rfl)), ?_,
      (hcl.trans (setTb_clock ..)).rails⟩
    exact (Clk.get ht' Clk.hoTime (fun _ => rfl)).trans (if_pos (.inr rfl))
  · exact congrArg Host.Outcome.next (if_neg h)
  · have hx : exec .locked s = .next (setTb .locked { s with clk := { s.clk with secBad := false } }) := congrArg Host.Outcome.next (if_pos h)
    obtain ⟨_, _, _, hc⟩ := setTb_core .locked { s with clk := { s.clk with secBad := false } }
    have hcl := (ClockOnly.of_clk s { s.clk with secBad := false }).trans (setTb_clock .locked _)
    refine ⟨_, hx, Clk.get hc Clk.tb (fun _ => rfl), setTb_locked _, (Clk.get hc Clk.means (fun _ => rfl)).trans (if_pos ⟨rfl, ?_⟩), (Clk.get hc Clk.hoTime (fun _ => rfl)).trans (if_pos (.inr rfl)),
      Clk.get hc Clk.offLearned (fun _ => rfl), hcl.rails, hcl.dom⟩
    dsimp only
    rw [h]
    decide
  · exact congrArg Host.Outcome.next (if_neg h)
  · have hx : exec .slideDone s = .next (setTb (if s.clk.slideLearned then .holdover else .free)
        { s with clk := { s.clk with offNow := s.clk.target } }) := congrArg Host.Outcome.next (if_pos h)
    have hcl := fun st => (ClockOnly.of_clk s { s.clk with offNow := s.clk.target }).trans (setTb_clock st _)
    have hoff := offsetLive_at_target (s := { s with clk := { s.clk with offNow := s.clk.target } }) h rfl
    rw [hx]
    by_cases hl : s.clk.slideLearned = true
    · rw [if_pos hl]
      refine ⟨_, rfl, setTb_tb .., fun _ => ?_, fun h => absurd (hl.symm.trans h) nofun, (hcl _).rails⟩
      rw [setTb_still (by decide) rfl, if_neg (by decide), hoff]
      rfl
    · rw [if_neg hl]
      refine ⟨_, rfl, setTb_tb .., fun h => absurd h hl, fun _ => ?_, (hcl _).rails⟩
      rw [setTb_still (by decide) rfl, if_pos rfl]
  · exact congrArg Host.Outcome.next (if_pos h)
  · have hno : ¬ (s.clk.xoBad = true ∨ s.clk.secBad = true) := by simp [hx, hb]
    refine ⟨_, congrArg Host.Outcome.next ((if_neg (not_not.mpr h)).trans (if_neg hno)), rfl, rfl, rfl, rfl, fun hm => ?_, fun hm => ?_⟩
    · dsimp only
      rw [hm]
      exact ⟨quot_one mean, rfl⟩
    · exact if_pos (by simp only [List.length_take, List.length_cons]; omega)
  · have hcl := (ClockOnly.of_clk s { s.clk with
      hoTime := if s.clk.hoRun = true ∧ s.clk.tb.onRef = false then min (s.clk.hoTime + 1) (2 ^ 32 - 1) else 0 }).trans (updateU_clock _)
    generalize hu : ({ s with clk := { s.clk with
      hoTime := if s.clk.hoRun = true ∧ s.clk.tb.onRef = false then min (s.clk.hoTime + 1) (2 ^ 32 - 1) else 0 } } : State) = u at hcl
    have hx : exec .uUpdate s = .next (updateU u) := by
      rw [← hu]
      rfl
    have htb : u.clk.tb = s.clk.tb := by rw [← hu]
    have href : u.clk.uRef = s.clk.uRef := by rw [← hu]
    have hho : u.clk.hoTime = if s.clk.hoRun = true ∧ s.clk.tb.onRef = false then min (s.clk.hoTime + 1) (2 ^ 32 - 1) else 0 := by rw [← hu]
    have hc := updateU_core u
    obtain ⟨h1, h2, h3⟩ := uOf_tb u
    rw [htb] at h1 h2 h3
    refine ⟨_, hx, ?_, (Clk.get hc Clk.tb (fun _ => rfl)).trans htb, fun h => (updateU_u u).trans (h1 h), fun h => (updateU_u u).trans ((h2 h).trans href),
      fun h => (updateU_u u).trans (h3 h), hcl⟩
    refine ((Clk.get hc Clk.hoTime (fun _ => rfl)).trans hho).trans ?_
    simp only [TbSt.onRef, Bool.or_eq_false_iff, decide_eq_false_iff_not, ne_eq]

end Sys2Proof.Machine
end

section
/-! PROOF. The manager's clock and its supply (R191 to R195): with a failed XO a clock switch leaves the supply where the coast oscillator
needs it. -/

namespace Sys2Proof.Machine

/-- A switch to a level other than the coast oscillator's, with a failed XO: the supply is the coast oscillator's all the same. -/
theorem clockSwitch_xoBad {s : State} {l : MgrLevel} (hs : s.clk.switching = some l) (hl : l ≠ .coast) (hx : s.clk.xoBad = true) :
    ∃ t, exec (.clockSwitch false) s = .next t ∧ t.clk.supply = 720 := by
  have he : exec (.clockSwitch false) s = execClockSwitch false s := rfl
  rw [he, execClockSwitch, hs]
  refine ⟨_, congrArg Host.Outcome.next (if_pos (decide_eq_false hl)), ?_⟩
  unfold Clk.supplyFor setSupply
  rw [if_pos hx]

/-- Refutes O28: the clause of a clock switch does not ask for a good XO. From the reset state with the XO failed and a switch to level 0
under way, the multiplexer takes level 0 with the supply at 720 mV, where the clause says 900 mV. -/
theorem not_managerClockFollowsSupplyAndXo : ¬ Obligations.ManagerClockFollowsSupplyAndXo := by
  rintro ⟨_, _, hswitch, _⟩
  let s : State := { State.reset with clk := { State.reset.clk with xoBad := true, switching := some .l0 } }
  obtain ⟨t, ht, _, _, _, _, hsupply⟩ := (hswitch .l0 false s rfl).1 rfl
  obtain ⟨u, hu, hcoast⟩ := clockSwitch_xoBad (s := s) rfl (by decide) rfl
  obtain rfl : t = u := Host.Outcome.next.inj (ht.symm.trans hu)
  exact absurd (hcoast.symm.trans hsupply) (by decide)

end Sys2Proof.Machine
end

section
/-! PROOF. The commands of the clocks and of the spur plan (R182 to R197). -/

namespace Sys2Proof.Machine

/-- A command of fixed length whose fields are in range passes the checks of its parameters. -/
theorem fixed_paramCheck {o : OpSpec} {p : List Byte} {n : Nat} (hn : n ≤ 496) (hv : o.v ≤ 2) (ho : o.plen = .fixed n)
    (hl : p.length = n) (hb : o.bad 2 p = none) : o.paramCheck 2 p = none := by
  have hlim : ¬ (496 < n) := by omega
  simp [OpSpec.paramCheck, ho, hb, plenLimit, Plen.expected, hl, hlim, hv]

theorem ClockOnly.proto {s t : State} (h : ClockOnly s t) : t.proto = s.proto := by rw [h]
theorem ClockOnly.cells {s t : State} (h : ClockOnly s t) : t.cells = s.cells := by rw [h]
theorem ClockOnly.map {s t : State} (h : ClockOnly s t) : t.map = s.map := by rw [h]

theorem ClockOnly.with_free {s t : State} (h : ClockOnly s t) (hf : t.free = s.free) :
    t = { s with clk := t.clk, router := t.router, seam := t.seam, pwr := t.pwr } := by
  unfold ClockOnly at h
  rw [hf] at h
  exact h

theorem ClockOnly.waiting {op : Nat} {q : Req} {s t : State} (hr : Ready op q s) (h : ClockOnly (arrived q s) t) : t.proto.waiting = [] := by
  rw [h.proto, arrived_proto, hr.empty]

/-! ## The mode and the offset -/

theorem tbCheck_settings (s : State) : SameSettings s.clk (tbCheck s).clk := by
  unfold tbCheck
  split
  · exact .setTb ..
  · exact .refl _

theorem setMode_clock (m : Nat) (s : State) : ClockOnly s (setMode m s) := by
  have h := ClockOnly.of_clk s { s.clk with mode := m }
  unfold setMode
  dsimp only
  split
  · exact h
  · split
    · exact h.trans (enterSlide_clock _)
    · split
      · exact h.trans (enterSlide_clock _)
      · exact h.trans (tbCheck_clock _)

theorem setMode_settings (m : Nat) (s : State) : SameSettings { s.clk with mode := m } (setMode m s).clk := by
  unfold setMode
  dsimp only
  split
  · exact .refl _
  · split
    · exact .enterSlide { s with clk := { s.clk with mode := m } }
    · split
      · exact .enterSlide { s with clk := { s.clk with mode := m } }
      · exact tbCheck_settings { s with clk := { s.clk with mode := m } }

theorem setMode_same {m : Nat} {s : State} (h : m = s.clk.mode) : setMode m s = { s with clk := { s.clk with mode := m } } := if_pos h

theorem updateU_settings (s : State) : SameSettings s.clk (updateU s).clk :=
  (show SameSettings s.clk { s.clk with
    offNow := offsetLive s, offAt := s.hem.ticks, u := uOf (holdOffset s), spurViol := (updateU s).clk.spurViol } by constructor <;> rfl).trans
      (.of_core (updateU_core s))

theorem holdOffset_clock (s : State) : ClockOnly s (holdOffset s) := rfl

/-- The state whose learned offset has been replaced (R182). -/
def presetState (v : Int) (s : State) : State :=
  { s with clk := { s.clk with offLearned := v, offValid := true, offPreset := true, uLrn := 100 } }

theorem presetState_clock (v : Int) (s : State) : ClockOnly s (presetState v s) := rfl

/-- A preset replaces the learned offset, whatever the timebase does next (R182). -/
theorem presetOffset_is (v : Int) (s : State) : ∃ u, ClockOnly s (presetState v u) ∧ ClockOnly (presetState v u) (presetOffset v s) ∧
    SameSettings (presetState v u).clk (presetOffset v s).clk := by
  unfold presetOffset
  by_cases hs : s.clk.tb = .slide
  · refine ⟨holdOffset s, (holdOffset_clock s).trans (presetState_clock v _), ?_⟩
    dsimp only
    rw [if_pos hs, hs]
    exact ⟨updateU_clock _, updateU_settings (presetState v (holdOffset s))⟩
  · refine ⟨s, presetState_clock v s, ?_⟩
    dsimp only
    rw [if_neg hs]
    split
    · exact ⟨enterSlide_clock _, .enterSlide (presetState v s)⟩
    · split
      · exact ⟨enterSlide_clock _, .enterSlide (presetState v s)⟩
      · exact ⟨.refl _, .refl _⟩
    next h => exact absurd h hs
    · exact ⟨.refl _, .refl _⟩

/-! ## The record of the reference -/

/-- What SYNC_QUALIFY writes of the clock (R185). -/
def Clk.record (c : Clk) : Nat × Nat × Nat × Nat × Nat × Nat := (c.fNom, c.qd, c.tol, c.uRef, c.dHo, c.slideRate)

theorem setTb_record (st : TbSt) (s : State) : (setTb st s).clk.record = s.clk.record := by
  obtain ⟨_, _, _, h⟩ := setTb_core st s
  exact Clk.get h Clk.record (fun _ => rfl)

theorem enterSlide_record (s : State) : (enterSlide s).clk.record = s.clk.record := setTb_record ..

theorem setRef_record (st : RefSt) (n : Nat) (s : State) : (setRef st n s).clk.record = s.clk.record := Clk.get (setRef_core st n s) Clk.record (fun _ => rfl)

theorem clkSet_record (m : BitVec 16) (s : State) : (clkSet m s).clk.record = s.clk.record := Clk.get (clkSet_core m s) Clk.record (fun _ => rfl)

theorem loseRef_record (s : State) : (loseRef s).clk.record = s.clk.record := by
  unfold loseRef
  dsimp only
  split
  · split
    · rw [setTb_record, clkSet_record, setRef_record]
    · rw [enterSlide_record, clkSet_record, setRef_record]
  · exact setRef_record ..

theorem requalify_record (s : State) : (requalify s).clk.record = s.clk.record := by
  unfold requalify
  split
  · exact Clk.get (startQual_core s) Clk.record (fun _ => rfl)
  · rfl

theorem requalify_ref {s : State} (h : s.clk.ref = .absent) : (requalify s).clk.ref =
    if s.clk.edges = true ∧ s.clk.xoBad = false ∧ s.loopStopped = false then .qualifying else .absent := by
  unfold requalify
  by_cases hc : s.clk.edges = true ∧ s.clk.xoBad = false ∧ s.loopStopped = false
  · rw [if_pos ⟨h, hc⟩, if_pos hc]
    exact Clk.get (startQual_core s) Clk.ref (fun _ => rfl)
  · rw [if_neg fun k => hc k.2, if_neg hc]
    exact h

/-! ## The spur plan -/

theorem railViols_congr {s t : State} (hm : t.map = s.map) (hc : t.cells = s.cells) (hr : t.rails = s.rails) (b : Vector Band 16) (u r p : Nat) :
    railViols t b u r p = railViols s b u r p := by
  have he : t.entry = s.entry := funext fun k => by
    unfold State.entry
    rw [hm]
  have hrail : t.rail = s.rail := funext fun k => by
    unfold State.rail
    rw [hr]
  have hn : t.healthyN = s.healthyN := funext fun k => by simp only [State.healthyN, members_congr hm, cell_congr hc]
  unfold railViols comps peffs degraded
  rw [he, hrail, hn]

theorem planViols_congr {s t : State} (hm : t.map = s.map) (hc : t.cells = s.cells) (hr : t.rails = s.rails) (b : Vector Band 16) (u : Nat) :
    planViols t b u = planViols s b u := by
  have hrail : t.rail = s.rail := funext fun k => by
    unfold State.rail
    rw [hr]
  simp only [planViols, railViols_congr hm hc hr, hrail]

theorem planViols_arrived (q : Req) (s : State) (b : Vector Band 16) (u : Nat) : planViols (arrived q s) b u = planViols s b u :=
  planViols_congr (arrived_map ..) (arrived_cells ..) (arrived_rails ..) b u

/-! ## The commands -/

theorem clockSourceOp_paramCheck {p : List Byte} (hl : p.length = 10) (h : byteAt p 2 ≠ 2 ∨ byteAt p 3 ≤ 47) : clockSourceOp.paramCheck 2 p = none := by
  refine fixed_paramCheck (n := 10) (by decide) (by decide) rfl hl ?_
  have hb : clockSourceOp.bad 2 p = if byteAt p 2 = 2 then firstBad p [{ off := 3, hi := 47 }] else none := rfl
  rw [hb]
  split
  next h2 => simp [firstBad, fieldAt_one, h.resolve_left (not_not.mpr h2)]
  next => rfl

/-- The state CLOCK_SOURCE leaves before it looks at a preset (R182, R184). -/
def sourced (p : List Byte) (s : State) : State :=
  let t := setMode (if byteAt p 0 ≤ 2 then byteAt p 0 else 0) s
  { t with clk := { t.clk with soNext := some (if byteAt p 2 ≤ 2 then byteAt p 2 else 0, byteAt p 3, max 2 (fieldAt p 8 2)) } }

theorem clockSourceOp_run (q : Req) (s : State) : clockSourceOp.run q s =
    if natBit (byteAt q.params 1) 0 = false then done0 (sourced q.params s)
    else if (sourced q.params s).clk.tb.onRef then noted (sourced q.params s) []
    else done0 (presetOffset (s32At q.params 4) (sourced q.params s)) := rfl

theorem sourced_clock (p : List Byte) (s : State) : ClockOnly s (sourced p s) := (setMode_clock ..).trans (.of_clk ..)

theorem syncQualifyOp_paramCheck {p : List Byte} (hl : p.length = 12) : syncQualifyOp.paramCheck 2 p = none :=
  fixed_paramCheck (n := 12) (by decide) (by decide) rfl hl rfl

/-- The reference's settings taken (R185). -/
def refSettings (p : List Byte) (s : State) : State :=
  { holdOffset s with clk := { (holdOffset s).clk with
      fNom := fieldAt p 0 4, qd := min 20 (byteAt p 4), tol := max 1 (byteAt p 5), uRef := fieldAt p 6 2, dHo := fieldAt p 8 2
      slideRate := clampNat 1 200 (byteAt p 10) } }

theorem syncQualifyOp_run (q : Req) (s : State) : syncQualifyOp.run q s =
    if fieldAt q.params 0 4 < 1000000 ∨ 100000000 < fieldAt q.params 0 4 then noted s []
    else done0 (if fieldAt q.params 0 4 ≠ s.clk.fNom ∨ max 1 (byteAt q.params 5) ≠ s.clk.tol ∨ min 20 (byteAt q.params 4) ≠ s.clk.qd
      then requalify (loseRef (refSettings q.params s)) else refSettings q.params s) := rfl

theorem keepoutSetOp_paramCheck {p : List Byte} (h : byteAt p 0 ≤ 16) (hl : p.length = 4 + 20 * byteAt p 0) : keepoutSetOp.paramCheck 2 p = none := by
  have hlim : ¬ (496 < p.length) := by omega
  have hat : ¬ (p.length ≤ 0) := by omega
  simp [OpSpec.paramCheck, keepoutSetOp, plenLimit, Plen.expected, hlim, hat, ← hl, firstBad, fieldAt_one, h]

theorem keepoutSetOp_run (q : Req) (s : State) : keepoutSetOp.run q s =
    if bandsOrdered ((bandsOf q.params).toList.filter (fun b => b.enable)) = false then (s, .undef .undefinedKeepout)
    else if natBit (byteAt q.params 1) 0 ∧ planViols s (bandsOf q.params) s.clk.u ≠ [] then
      (s, .reply .planImpossible ([byte (min 255 (planViols s (bandsOf q.params) s.clk.u).length)] ++
        violRecords (planViols s (bandsOf q.params) s.clk.u)))
    else done0 (spurEval { s with clk := { s.clk with bands := bandsOf q.params } }) := rfl

theorem runOp_undef {o : OpSpec} {q : Req} {s t : State} {f : Fault} (h : Ready o.op q s) (hp : o.paramCheck 2 q.params = none)
    (hr : o.run q (arrived q s) = (t, .undef f)) : runOp o q s = .fault f := by
  rw [runOp_ready h hp, hr]
  rfl

theorem arrived_u (q : Req) (s : State) : (arrived q s).clk.u = s.clk.u := Clk.get (arrived_clkcore q s) Clk.u (fun _ => rfl)

theorem railViols_arrived (q : Req) (s : State) (r p : Nat) :
    railViols (arrived q s) (arrived q s).clk.bands (arrived q s).clk.u r p = railViols s s.clk.bands s.clk.u r p := by
  rw [arrived_u, show (arrived q s).clk.bands = s.clk.bands from Clk.get (arrived_clkcore q s) Clk.bands (fun _ => rfl)]
  exact railViols_congr (arrived_map ..) (arrived_cells ..) (arrived_rails ..) ..

theorem railFswSetOp_run {q : Req} {r : Fin 48} (h : byteAt q.params 0 = r.val) (s : State) : railFswSetOp.run q s =
    if railViols s s.clk.bands s.clk.u r.val (periodOf (fswAct (fieldAt q.params 4 4)) (natBit (byteAt q.params 1) 0)) ≠ [] then
      (s, .reply .planImpossible (le32 s.rails[r].period ++
        [byte (min 255 (railViols s s.clk.bands s.clk.u r.val (periodOf (fswAct (fieldAt q.params 4 4)) (natBit (byteAt q.params 1) 0))).length), 0, 0, 0] ++
        violRecords (railViols s s.clk.bands s.clk.u r.val (periodOf (fswAct (fieldAt q.params 4 4)) (natBit (byteAt q.params 1) 0)))))
    else doneOr (decide (fswAct (fieldAt q.params 4 4) ≠ fieldAt q.params 4 4))
      (spurEval (sendPeriod r.val (periodOf (fswAct (fieldAt q.params 4 4)) (natBit (byteAt q.params 1) 0))
        (modRail s r (fun x => { x with
          fsw := fswAct (fieldAt q.params 4 4), period := periodOf (fswAct (fieldAt q.params 4 4)) (natBit (byteAt q.params 1) 0) }))))
      (le32 (periodOf (fswAct (fieldAt q.params 4 4)) (natBit (byteAt q.params 1) 0))) := by
  unfold railFswSetOp
  dsimp only
  rw [railOp_eq h, rail_val, fin48_val]

theorem sendPeriod_stopped {r : Fin 48} {s : State} (p : Nat) (h : s.rails[r].st.runs = false) : sendPeriod r.val p s = s := by
  unfold sendPeriod
  rw [rail_val, if_neg (by rw [h]; decide)]

/-- CLOCK_SOURCE of the mode in force leaves the timebase and the learned offset. -/
structure SameTb (c d : Clk) : Prop where
  tb : d.tb = c.tb
  offLearned : d.offLearned = c.offLearned
  offValid : d.offValid = c.offValid

theorem sourced_same {q : Req} {s : State} (hm : byteAt q.params 0 = s.clk.mode) (h2 : s.clk.mode ≤ 2) :
    SameTb s.clk (sourced q.params (arrived q s)).clk := by
  have hcore := arrived_clkcore q s
  have hmode : (if byteAt q.params 0 ≤ 2 then byteAt q.params 0 else 0) = (arrived q s).clk.mode := by
    rw [hm, if_pos h2, Clk.get hcore Clk.mode (fun _ => rfl)]
  have hsame := setMode_same hmode
  unfold sourced
  rw [hsame]
  exact ⟨Clk.get hcore Clk.tb (fun _ => rfl), Clk.get hcore Clk.offLearned (fun _ => rfl), Clk.get hcore Clk.offValid (fun _ => rfl)⟩

/-- Settles O26: each command by what its handler does, on the clock alone or on the clock and one rail. -/
theorem clockAndSpurCommandsTakeEffect : Obligations.ClockAndSpurCommandsTakeEffect := by
  refine ⟨fun q s => ⟨fun hr hl hso => ⟨fun hb => ?_, fun hb hm hm2 => ⟨fun ht => ?_, fun h1 h2 => ?_⟩⟩, fun hr hl => ⟨fun h => ?_, fun h1 h2 => ?_⟩⟩,
    fun q s => ⟨fun hr h16 hl => ⟨fun h => ?_, fun ho => ⟨fun hb hv => ?_, fun h => ?_⟩⟩, fun r hr hl h0 p hp => ⟨fun hv => ?_, fun hv hst => ?_⟩⟩⟩
  · refine completes_of_reply (o := clockSourceOp) (t := sourced q.params (arrived q s)) rfl hr (clockSourceOp_paramCheck hl hso) ?_
      (ClockOnly.waiting hr (sourced_clock ..)) ?_
    · rw [clockSourceOp_run, if_pos hb]
      rfl
    · have hset := setMode_settings (if byteAt q.params 0 ≤ 2 then byteAt q.params 0 else 0) (arrived q s)
      have hcore := arrived_clkcore q s
      exact ⟨sourced_clock .., hset.mode, rfl, hset.soMode.trans (Clk.get hcore Clk.soMode (fun _ => rfl)), hset.offLearned.trans (Clk.get hcore Clk.offLearned (fun _ => rfl)),
        hset.bands.trans (Clk.get hcore Clk.bands (fun _ => rfl))⟩
  · have hsame := sourced_same (q := q) (s := s) (hm.trans rfl) hm2
    refine completes_of_reply (o := clockSourceOp) (t := sourced q.params (arrived q s)) rfl hr (clockSourceOp_paramCheck hl hso) ?_
      (ClockOnly.waiting hr (sourced_clock ..)) ⟨?_, ?_, ?_, ?_⟩
    · have honref : (sourced q.params (arrived q s)).clk.tb.onRef = true := by
        rw [hsame.tb]
        obtain h | h := ht <;> rw [h] <;> rfl
      rw [clockSourceOp_run, if_neg (by rw [hb]; decide), if_pos honref]
      rfl
    · exact hsame.offLearned
    · exact hsame.offValid
    · exact hsame.tb
    · rw [(sourced_clock ..).rails, arrived_rails]
  · have hsame := sourced_same (q := q) (s := s) (hm.trans rfl) hm2
    obtain ⟨u, hu1, hu2, hu3⟩ := presetOffset_is (s32At q.params 4) (sourced q.params (arrived q s))
    have hcl := (sourced_clock q.params (arrived q s)).trans (hu1.trans hu2)
    refine completes_of_reply (o := clockSourceOp) (t := presetOffset (s32At q.params 4) (sourced q.params (arrived q s))) rfl hr
      (clockSourceOp_paramCheck hl hso) ?_ (hcl.waiting hr) ⟨hu3.offLearned, hu3.offValid, hu3.offPreset, hu3.uLrn, hcl⟩
    have honref : ¬ (sourced q.params (arrived q s)).clk.tb.onRef = true := by
      rw [hsame.tb]
      simp [TbSt.onRef, h1, h2]
    rw [clockSourceOp_run, if_neg (by rw [hb]; decide), if_neg honref]
    rfl
  · refine completes_of_reply (o := syncQualifyOp) (t := arrived q s) rfl hr (syncQualifyOp_paramCheck hl) ?_ (ClockOnly.waiting hr (.refl _)) rfl
    rw [syncQualifyOp_run, if_pos h]
    rfl
  · have hno : ¬ (fieldAt q.params 0 4 < 1000000 ∨ 100000000 < fieldAt q.params 0 4) := by omega
    have hset : ClockOnly (arrived q s) (refSettings q.params (arrived q s)) := rfl
    have hcore := arrived_clkcore q s
    have hrun : syncQualifyOp.run q (arrived q s) = done0 (if fieldAt q.params 0 4 ≠ s.clk.fNom ∨ max 1 (byteAt q.params 5) ≠ s.clk.tol ∨
        min 20 (byteAt q.params 4) ≠ s.clk.qd then requalify (loseRef (refSettings q.params (arrived q s)))
        else refSettings q.params (arrived q s)) := by
      rw [syncQualifyOp_run, if_neg hno, Clk.get hcore Clk.fNom (fun _ => rfl), Clk.get hcore Clk.tol (fun _ => rfl), Clk.get hcore Clk.qd (fun _ => rfl)]
    by_cases hc : fieldAt q.params 0 4 ≠ s.clk.fNom ∨ max 1 (byteAt q.params 5) ≠ s.clk.tol ∨ min 20 (byteAt q.params 4) ≠ s.clk.qd
    · rw [if_pos hc] at hrun
      have hcl := (hset.trans (loseRef_clock _)).trans (requalify_clock _)
      have hrec : (requalify (loseRef (refSettings q.params (arrived q s)))).clk.record = (refSettings q.params (arrived q s)).clk.record := by
        rw [requalify_record, loseRef_record]
      simp only [Clk.record, Prod.mk.injEq] at hrec
      obtain ⟨r1, r2, r3, r4, r5, r6⟩ := hrec
      refine completes_of_reply (o := syncQualifyOp) rfl hr (syncQualifyOp_paramCheck hl) hrun (hcl.waiting hr)
        ⟨r1, r2, r3, r4, r5, r6, fun _ => ?_, hcl⟩
      obtain ⟨l1, l2, l3⟩ := loseRef_ref (refSettings q.params (arrived q s))
      have hstop : (loseRef (refSettings q.params (arrived q s))).loopStopped = s.loopStopped :=
        (loopStopped_of_core (loseRef_pwr _)).trans (loopStopped_of_core (arrived_pwrcore q s))
      rw [requalify_ref l1, l2, l3, hstop]
      have e1 : (refSettings q.params (arrived q s)).clk.edges = s.clk.edges := Clk.get hcore Clk.edges (fun _ => rfl)
      have e2 : (refSettings q.params (arrived q s)).clk.xoBad = s.clk.xoBad := Clk.get hcore Clk.xoBad (fun _ => rfl)
      rw [e1, e2]
    · rw [if_neg hc] at hrun
      exact completes_of_reply (o := syncQualifyOp) rfl hr (syncQualifyOp_paramCheck hl) hrun (hset.waiting hr)
        ⟨rfl, rfl, rfl, rfl, rfl, rfl, fun h => absurd (.inl h) hc, hset⟩
  · refine runOp_undef hr (keepoutSetOp_paramCheck h16 hl) (t := arrived q s) ?_
    rw [keepoutSetOp_run, if_pos h]
  · refine completes_of_reply (o := keepoutSetOp) (t := arrived q s) rfl hr (keepoutSetOp_paramCheck h16 hl) ?_ (ClockOnly.waiting hr (.refl _)) rfl
    rw [keepoutSetOp_run, planViols_arrived, arrived_u, if_neg (by rw [ho]; decide), if_pos ⟨hb, hv⟩]
  · have hno : ¬ (natBit (byteAt q.params 1) 0 = true ∧ planViols s (bandsOf q.params) s.clk.u ≠ []) := by
      rintro ⟨h1, h2⟩
      obtain h | h := h
      · exact absurd (h1.symm.trans h) nofun
      · exact h2 h
    have hcl : ClockOnly (arrived q s) (spurEval { arrived q s with clk := { (arrived q s).clk with bands := bandsOf q.params } }) :=
      (ClockOnly.of_clk ..).trans (spurEval_clock _)
    have hc := spurEval_core { arrived q s with clk := { (arrived q s).clk with bands := bandsOf q.params } }
    have hv : planViols { arrived q s with clk := { (arrived q s).clk with bands := bandsOf q.params } } (bandsOf q.params) (arrived q s).clk.u =
        planViols s (bandsOf q.params) s.clk.u := by
      rw [arrived_u]
      exact (planViols_congr rfl rfl rfl ..).trans (planViols_arrived ..)
    refine completes_of_reply (o := keepoutSetOp) (t := spurEval { arrived q s with clk := { (arrived q s).clk with bands := bandsOf q.params } })
      rfl hr (keepoutSetOp_paramCheck h16 hl) ?_ (hcl.waiting hr) ⟨Clk.get hc Clk.bands (fun _ => rfl), ?_, (Clk.get hc Clk.u (fun _ => rfl)).trans (arrived_u ..), ?_⟩
    · rw [keepoutSetOp_run, planViols_arrived, arrived_u, if_neg (by rw [ho]; decide), if_neg hno]
      rfl
    · rw [show (spurEval { arrived q s with clk := { (arrived q s).clk with bands := bandsOf q.params } }).clk.spurViol = _ from
        Clk.get hc Clk.spurViol (fun _ => rfl)]
      dsimp only
      rw [hv]
      simp
    · exact hcl.with_free (spurEval_free _)
  · refine completes_of_reply (o := railFswSetOp) (t := arrived q s) rfl hr (railOp_paramCheck (by decide) (by decide) rfl rfl rfl hl h0) ?_
      (ClockOnly.waiting hr (.refl _)) rfl
    have hv' := railViols_arrived q s r.val p
    subst hp
    rw [railFswSetOp_run h0, fswAct, hv', if_pos hv, arrived_rails]
  · have hv' := railViols_arrived q s r.val p
    have hruns : s.rails[r].st.runs = false := by
      obtain h | h := hst <;> rw [h] <;> rfl
    have hx : railFswSetOp.run q (arrived q s) = doneOr (decide (clampNat 1000000 4000000 (fieldAt q.params 4 4) ≠ fieldAt q.params 4 4))
        (spurEval (modRail (arrived q s) r (fun x => { x with fsw := clampNat 1000000 4000000 (fieldAt q.params 4 4), period := p }))) (le32 p) := by
      subst hp
      rw [railFswSetOp_run h0, fswAct, hv', if_neg (not_not.mpr hv), sendPeriod_stopped]
      rw [modRail_self]
      rw [arrived_rails]
      exact hruns
    have hcl := spurEval_clock (modRail (arrived q s) r (fun x => { x with fsw := clampNat 1000000 4000000 (fieldAt q.params 4 4), period := p }))
    have hnote : (if decide (clampNat 1000000 4000000 (fieldAt q.params 4 4) ≠ fieldAt q.params 4 4) = true then Status.doneWithNote else .done) =
        if 1000000 ≤ fieldAt q.params 4 4 ∧ fieldAt q.params 4 4 ≤ 4000000 then .done else .doneWithNote := by
      by_cases hin : 1000000 ≤ fieldAt q.params 4 4 ∧ fieldAt q.params 4 4 ≤ 4000000
      · rw [if_pos hin, if_neg]
        simp [clampNat, Nat.not_lt.mpr hin.1, Nat.not_lt.mpr hin.2]
      · rw [if_neg hin, if_pos]
        rw [decide_eq_true_eq]
        unfold clampNat
        split
        · omega
        · split <;> omega
    rw [← hnote]
    refine completes_of_reply (o := railFswSetOp) rfl hr (railOp_paramCheck (by decide) (by decide) rfl rfl rfl hl h0) hx ?_ ⟨?_, fun k hk => ?_, ?_, ?_, ?_⟩
    · rw [hcl.proto, modRail_proto, arrived_proto, hr.empty]
    · rw [rail_of_rails hcl.rails, modRail_self, arrived_rails]
    · rw [rail_of_rails hcl.rails, modRail_other _ _ _ _ hk.symm, arrived_rails]
    · rw [hcl.cells, modRail_cells, arrived_cells]
    · rw [hcl.dom, modRail_dom, arrived_dom]
    · rw [hcl.map, modRail_map, arrived_map]

end Sys2Proof.Machine
end

section
/-! PROOF. A rail's limits and window (R200, R203). -/

namespace Sys2Proof.Machine

/-! ## LIMITS_SET -/

/-- The rail as LIMITS_SET leaves it before the leader takes the rest (R200). -/
def Rail.limited (p : List Byte) (x : Rail) : Rail :=
  if x.st.runs then { x with prot := { x.prot with pkLim := byteAt p 1, ramp := byteAt p 2 } }
  else { x with prot := { x.prot with
    pkLim := byteAt p 1, ramp := byteAt p 2, ilim := some (fieldAt p 4 4), negIlim := some (fieldAt p 8 2), klim := fieldAt p 10 2
    ilimNext := none, sinkNext := none } }

/-- The words LIMITS_SET sends. -/
def wordsOfLimits (p : List Byte) (s : State) (r : Nat) : List Msg :=
  limitWords s r (byteAt p 1) (byteAt p 2) (fieldAt p 4 4) (fieldAt p 8 2) (fieldAt p 10 2)

/-- The state LIMITS_SET leaves. -/
def limitsSent (p : List Byte) (r : Fin 48) (s : State) : State := post (wordsOfLimits p s r.val) (modRail s r (Rail.limited p))

theorem limitsSetOp_run {q : Req} {r : Fin 48} (h : byteAt q.params 0 = r.val) (s : State) :
    limitsSetOp.run q s = afterWords r.val (limitsSent q.params r s) := by
  unfold limitsSetOp limitsSent
  dsimp only
  rw [railOp_eq h, fin48_val]
  rfl

theorem limitsSent_only (p : List Byte) (r : Fin 48) (s : State) :
    limitsSent p r s = { s with rails := (limitsSent p r s).rails, bus := (limitsSent p r s).bus } := rfl

theorem limitsSent_rail {p : List Byte} {r : Fin 48} {s : State} {x : Rail} (h : s.rails[r].limited p = x) :
    OneRail r { s with bus := (limitsSent p r s).bus } (limitsSent p r s) x := by
  subst h
  exact ⟨rfl, modRail_self .., fun k hk => modRail_other _ _ _ _ hk.symm⟩

theorem Rail.limited_stopped {x : Rail} (p : List Byte) (h : x.st = .off ∨ x.st = .latchedOff) :
    x.limited p = { x with prot := { x.prot with
      pkLim := byteAt p 1, ramp := byteAt p 2, ilim := some (fieldAt p 4 4), ilimNext := none, negIlim := some (fieldAt p 8 2)
      klim := fieldAt p 10 2, sinkNext := none } } := by
  unfold Rail.limited
  rw [stopped_not_runs h]
  rfl

theorem Rail.limited_runs {x : Rail} (p : List Byte) (h : x.st.runs = true) :
    x.limited p = { x with prot := { x.prot with pkLim := byteAt p 1, ramp := byteAt p 2 } } := if_pos h

theorem wordsOfLimits_stopped {p : List Byte} {r : Fin 48} {s : State} (h : s.rails[r].st = .off ∨ s.rails[r].st = .latchedOff) :
    wordsOfLimits p s r.val = [configCast s r.val 0x35 (BitVec.ofNat 32 (byteAt p 1 + byteAt p 2 * 256))] := by
  unfold wordsOfLimits limitWords
  rw [rail_val, if_neg (by rw [stopped_not_runs h]; decide)]

theorem wordsOfLimits_runs {p : List Byte} {r : Fin 48} {s : State} (h : s.rails[r].st.runs = true) :
    wordsOfLimits p s r.val = [configCast s r.val 0x35 (BitVec.ofNat 32 (byteAt p 1 + byteAt p 2 * 256)),
      configTo ilimWord s.rails[r].leader (BitVec.ofNat 32 (fieldAt p 4 4)),
      configTo sinkWord s.rails[r].leader (BitVec.ofNat 32 (fieldAt p 8 2 + fieldAt p 10 2 * 65536))] := by
  unfold wordsOfLimits limitWords
  rw [rail_val, if_pos h]

/-- A word of LIMITS_SET in flight keeps the command waiting. -/
theorem wordsOut_of_peak {s t : State} {r : Nat} {w : BitVec 32} (h : configCast t r 0x35 w ∈ s.bus) : wordsOut s r = true := by
  unfold wordsOut
  refine List.any_eq_true.mpr ⟨_, h, ?_⟩
  simp [configCast]

theorem wordsOut_of_ilim {s : State} {r n : Nat} {w : BitVec 32} (h : configTo ilimWord n w ∈ s.bus) : wordsOut s r = true := by
  unfold wordsOut
  refine List.any_eq_true.mpr ⟨_, h, ?_⟩
  have h1 : coefWord ≤ ilimWord := by decide
  have h2 : ilimWord ≤ sinkWord := by decide
  simp [configTo, msgTo, h1, h2]

theorem configCast_arrived (q : Req) (s : State) (r k : Nat) (w : BitVec 32) : configCast (arrived q s) r k w = configCast s r k w :=
  (configCast_congr (arrived_map ..) (arrived_cells ..) ..).symm

/-! ## The last word latched -/

theorem settleWords_of_words {s : State} {p : Packet} {r : Nat} (h : s.proto.exec = some (p, .words r)) :
    settleWords s = if wordsOut s r then s else complete .done [] s := by
  unfold settleWords
  rw [h]

theorem wordsOut_congr {s t : State} (h : t.bus = s.bus) (r : Nat) : wordsOut t r = wordsOut s r := by
  unfold wordsOut
  rw [h]

/-- Settles O29: the limits by the words they send and who listens, a word latched by the words still in flight. -/
theorem limitsAndWindowsAreWritten : Obligations.LimitsAndWindowsAreWritten := by
  refine ⟨fun q s r h0 => ⟨fun hr hl => ⟨fun hst => ⟨fun hw hret => ?_, fun hlist => ?_⟩, fun h1 h2 => ?_⟩, fun hr hl => ?_⟩,
    fun c n w p r m rest s hret hex h => ⟨fun hw => ?_, fun hw => ?_⟩⟩
  · have hst' : (arrived q s).rails[r].st = .off ∨ (arrived q s).rails[r].st = .latchedOff := by
      rw [arrived_rails]
      exact hst
    have hx : s.rails[r].limited q.params = _ := Rail.limited_stopped q.params hst
    rw [← rail_of_rails (arrived_rails q s) r] at hx
    have hone := limitsSent_rail hx
    have hun : ∀ m ∈ wordsOfLimits q.params (arrived q s) r.val, m.waits = 0 := fun m hm => by
      rw [wordsOfLimits_stopped hst', configCast_arrived] at hm
      rw [List.mem_singleton.mp hm]
      exact listeners_zero hret
    refine completes_of_reply (o := limitsSetOp) (t := limitsSent q.params r (arrived q s)) rfl hr
      (railOp_paramCheck (by decide) (by decide) rfl rfl rfl hl h0) ?_ ?_ ⟨rfl, ?_⟩
    · rw [limitsSetOp_run h0, afterWords, if_neg]
      · rfl
      · rw [limitsSent, wordsOut_post_unheard hun]
        · exact Bool.false_ne_true
        · rw [wordsOut_congr (modRail_bus ..), wordsOut_congr (arrived_bus ..)]
          exact hw
    · rw [limitsSent_only, arrived_proto, hr.empty]
    · rw [rail_of_rails (arrived_rails q s) r] at hone
      exact hone
  · have hst' : (arrived q s).rails[r].st = .off ∨ (arrived q s).rails[r].st = .latchedOff := by
      rw [arrived_rails]
      exact hst
    have hx : s.rails[r].limited q.params = _ := Rail.limited_stopped q.params hst
    rw [← rail_of_rails (arrived_rails q s) r] at hx
    have hone := limitsSent_rail hx
    rw [rail_of_rails (arrived_rails q s) r] at hone
    have hmem : configCast s r.val 0x35 (BitVec.ofNat 32 (byteAt q.params 1 + byteAt q.params 2 * 256)) ∈
        (limitsSent q.params r (arrived q s)).bus := by
      refine mem_post _ ?_ (listeners_ne_zero hlist)
      rw [wordsOfLimits_stopped hst', configCast_arrived]
      exact List.mem_singleton_self _
    refine begins_of_run (o := limitsSetOp) (t := limitsSent q.params r (arrived q s)) rfl hr
      (railOp_paramCheck (by decide) (by decide) rfl rfl rfl hl h0) ?_ ⟨hone, hmem⟩
    rw [limitsSetOp_run h0, afterWords, if_pos (wordsOut_of_peak hmem)]
  · have hruns : s.rails[r].st.runs = true := runs_iff.mpr ⟨h1, h2⟩
    have hruns' : (arrived q s).rails[r].st.runs = true := by
      rw [arrived_rails]
      exact hruns
    have hx : s.rails[r].limited q.params = _ := Rail.limited_runs q.params hruns
    rw [← rail_of_rails (arrived_rails q s) r] at hx
    have hone := limitsSent_rail hx
    rw [rail_of_rails (arrived_rails q s) r] at hone
    have hwords := wordsOfLimits_runs (p := q.params) hruns'
    rw [configCast_arrived, rail_of_rails (arrived_rails q s) r] at hwords
    have hilim : configTo ilimWord s.rails[r].leader (BitVec.ofNat 32 (fieldAt q.params 4 4)) ∈ (limitsSent q.params r (arrived q s)).bus := by
      refine mem_post _ ?_ cellBit_ne_zero
      rw [hwords]
      exact .tail _ (.head _)
    refine begins_of_run (o := limitsSetOp) (t := limitsSent q.params r (arrived q s)) rfl hr
      (railOp_paramCheck (by decide) (by decide) rfl rfl rfl hl h0) ?_ ⟨hone, hilim, ?_, fun hlist => ?_⟩
    · rw [limitsSetOp_run h0, afterWords, if_pos (wordsOut_of_ilim hilim)]
    · refine mem_post _ ?_ cellBit_ne_zero
      rw [hwords]
      exact .tail _ (.tail _ (.head _))
    · refine mem_post _ ?_ (listeners_ne_zero hlist)
      rw [hwords]
      exact .head _
  · refine completes_of_reply (o := windowSetOp) (t := modRail (arrived q s) (fin48 r.val) (fun x => { x with prot := { x.prot with
        autoClr := natBit (byteAt q.params 1) 0, ovMv := min 1000 (fieldAt q.params 2 2), uvMv := min 1000 (fieldAt q.params 4 2)
        ovFilt := byteAt q.params 6, uvFilt := fieldAt q.params 8 2 } })) rfl hr
      (railOp_paramCheck (by decide) (by decide) rfl rfl rfl hl h0) ?_ ?_ ⟨rfl, ?_, fun k hk => modRail_val_other _ hk _⟩
    · unfold windowSetOp
      dsimp only
      rw [railOp_eq h0]
      rfl
    · rw [modRail_proto, arrived_proto, hr.empty]
    · rw [modRail_val_self, arrived_rails]
  all_goals
    have hx := exec_configWr h
    obtain ⟨⟨hall, -, hother⟩, -⟩ := configWord_oneCell (m := m) (s := { s with bus := rest }) hret
    have hbus : (configWord c m { s with bus := rest }).bus = rest := by rw [hall]
    have hproto : (configWord c m { s with bus := rest }).proto = s.proto := by rw [hall]
    rw [settleWords_of_words (by rw [hproto]; exact hex), wordsOut_congr (s := { s with bus := rest }) hbus, hw] at hx
  · rw [if_neg (by decide), complete_of_exec _ _ (by rw [hproto]; exact hex)] at hx
    refine ⟨_, hx, hbus, ?_, hother⟩
    rw [hproto]
  · exact ⟨_, hx, hbus, hproto⟩

end Sys2Proof.Machine
end

section
/-! PROOF. Cells retired and restored (R96, R213). -/

namespace Sys2Proof.Machine

/-! ## What a retirement touches -/

/-- Nothing differs but the cells, the map and what an event changes. -/
def CellsAndMap (s t : State) : Prop :=
  t = { s with cells := t.cells, map := t.map, router := t.router, seam := t.seam, pwr := t.pwr, clk := t.clk }

namespace CellsAndMap

theorem trans {s t u : State} (h : CellsAndMap s t) (k : CellsAndMap t u) : CellsAndMap s u := by
  unfold CellsAndMap at h k ⊢
  rw [k, h]

theorem pulseIf (k : Bool) (e : Fin 1024) (s : State) : CellsAndMap s (Machine.pulseIf k e s) := by
  unfold CellsAndMap
  rw [pulseIf_only]

theorem pulse (e : Fin 1024) (s : State) : CellsAndMap s (Machine.pulse e s) := by
  unfold CellsAndMap
  rw [pulse_only]

theorem spurEval (s : State) : CellsAndMap s (Machine.spurEval s) := by
  unfold CellsAndMap
  rw [(spurEval_clock s).with_free (spurEval_free s)]

theorem changeCell (s : State) (c : Fin 256) (f : Cell → Cell) : CellsAndMap s (Machine.changeCell s c f) := by
  have hm : CellsAndMap s (modCell s c f) := rfl
  unfold Machine.changeCell
  split
  · rfl
  · dsimp only
    split
    · exact hm.trans (.pulseIf ..)
    · exact (hm.trans (.pulseIf ..)).trans (.spurEval _)

theorem withMap (s : State) (m : MapState) : CellsAndMap s { s with map := m } := rfl

theorem modCell (s : State) (c : Fin 256) (f : Cell → Cell) : CellsAndMap s (Machine.modCell s c f) := rfl

theorem recheckNaming (c : Nat) (s : State) : CellsAndMap s (Machine.recheckNaming c s) := rfl

theorem waiting {op : Nat} {q : Req} {s t : State} (hr : Ready op q s) (h : CellsAndMap (arrived q s) t) : t.proto.waiting = [] := by
  have hp : t.proto = (arrived q s).proto := by rw [h]
  rw [hp, arrived_proto, hr.empty]

end CellsAndMap

/-- The retired set written, and the entries that name the cell checked anew (R96). -/
def renamed (c : Nat) (set : BitVec 256) (s : State) : State := recheckNaming c { s with map := { s.map with retiredSet := set } }

theorem renamed_only (c : Nat) (set : BitVec 256) (s : State) : CellsAndMap s (renamed c set s) := rfl

theorem renamed_cells (c : Nat) (set : BitVec 256) (s : State) : (renamed c set s).cells = s.cells := rfl

/-- Of the map only the retired set and the checks of the entries that name the cell change. -/
structure Renamed (c : Nat) (set : BitVec 256) (m n : MapState) : Prop where
  active : n.active = m.active
  retiredSet : n.retiredSet = set
  activeChk : ∀ k : Fin 48, m.active[k].members.getLsbD c = false → n.activeChk[k] = m.activeChk[k]
  stagedChk : ∀ k : Fin 48, m.staged[k].members.getLsbD c = false → n.stagedChk[k] = m.stagedChk[k]

theorem renamed_map (c : Nat) (set : BitVec 256) (s : State) : Renamed c set s.map (renamed c set s).map := by
  refine ⟨rfl, rfl, fun k h => ?_, fun k h => ?_⟩
  all_goals
    refine (mapIdx_get ..).trans (if_neg ?_)
    dsimp only
    rw [get48, h]
    decide

theorem pow_bit (c : Fin 256) : (BitVec.ofNat 256 (2 ^ c.val)).getLsbD c.val = true := by
  rw [BitVec.getLsbD_ofNat, Nat.testBit_two_pow_self, decide_eq_true c.isLt, Bool.true_and]

/-! ## The retirement -/

/-- A cell of no rail that is OFF is retired (R213). -/
def retiredState (c : Fin 256) (s : State) : State :=
  let t := changeCell s c (fun x => { x with st := .retired, precharge := false })
  renamed c.val (t.map.retiredSet ||| BitVec.ofNat 256 (2 ^ c.val)) t

theorem retireCell_alone {c : Fin 256} {s : State} (hoff : s.cells[c].st = .off) (hm : ∀ k : Nat, k < 48 → (s.memberSet k).getLsbD c.val = false) :
    retireCell c s = retiredState c s := by
  have hr : railOf (changeCell s c (fun x => { x with st := .retired, precharge := false })) c.val = none := by
    rw [railOf_congr (s := s) (by rw [changeCell_map])]
    exact railOf_none hm
  unfold retireCell
  dsimp only
  rw [if_neg (by rw [hoff]; decide), hr]
  rfl

theorem retiredState_only (c : Fin 256) (s : State) : CellsAndMap s (retiredState c s) :=
  (CellsAndMap.changeCell ..).trans (renamed_only ..)

theorem retiredState_cell {c : Fin 256} {s : State} (h : s.cells[c].st ≠ .retired) :
    (retiredState c s).cells[c] = { s.cells[c] with st := .retired, precharge := false } := by
  unfold retiredState
  rw [renamed_cells]
  exact changeCell_not_retired h _

theorem retiredState_other {c d : Fin 256} (h : d ≠ c) (s : State) : (retiredState c s).cells[d] = s.cells[d] := by
  unfold retiredState
  rw [renamed_cells]
  exact changeCell_other _ h _

theorem retiredState_map (c : Fin 256) (s : State) :
    Renamed c.val (s.map.retiredSet ||| BitVec.ofNat 256 (2 ^ c.val)) s.map (retiredState c s).map := by
  unfold retiredState
  dsimp only
  rw [changeCell_map]
  have h := renamed_map c.val (s.map.retiredSet ||| BitVec.ofNat 256 (2 ^ c.val))
    (changeCell s c (fun x => { x with st := .retired, precharge := false }))
  rwa [changeCell_map] at h

theorem lastHealthy_none {s : State} {c : Fin 256} (hm : ∀ k : Nat, k < 48 → (s.memberSet k).getLsbD c.val = false) :
    lastHealthy s c.val = none :=
  find_upto_none fun k => by
    rw [hm k.val k.isLt, Bool.and_false, Bool.false_and, Bool.false_and]

theorem lastHealthy_congr {s t : State} (hm : t.map = s.map) (hc : t.cells = s.cells) (hr : t.rails = s.rails) (c : Nat) :
    lastHealthy t c = lastHealthy s c := by
  have hrail : t.rail = s.rail := funext fun k => by
    unfold State.rail
    rw [hr]
  have hn : t.healthyN = s.healthyN := funext fun k => by simp only [State.healthyN, members_congr hm, cell_congr hc]
  have hset : t.memberSet = s.memberSet := funext fun k => memberSet_congr hm k
  unfold lastHealthy
  rw [hrail, hn, hset, cell_congr hc]

theorem rail_congr {s t : State} (h : t.rails = s.rails) (n : Nat) : t.rail n = s.rail n := by
  unfold State.rail
  rw [h]

/-! ## The commands -/

theorem cellOp_of {p : List Byte} {c : Fin 256} (h : p = [byte c.val]) : fin256 (byteAt p 0) = c ∧ p.length = 1 := by
  subst h
  have := c.isLt
  exact ⟨fin256_of (by simp [byteAt, byte]), rfl⟩

theorem cellRetireOp_run {q : Req} {c : Fin 256} (h : fin256 (byteAt q.params 0) = c) (s : State) : cellRetireOp.run q s =
    if s.map.probe = .running then refuse s 2 (mapCode s) 0xFF
    else if s.cells[c].st = .retired then done0 s
    else
      match lastHealthy s c.val with
      | some r => refuseRail s r
      | none => done0 (retireCell c s) := by
  subst h
  rfl

/-- The cell put back (R213). -/
def restoredState (c : Fin 256) (s : State) : State :=
  let t := pulse (evt c.val) (modCell s c (fun x => { x with st := .off, role := .none }))
  spurEval (renamed c.val (t.map.retiredSet &&& ~~~ BitVec.ofNat 256 (2 ^ c.val)) t)

theorem cellRestoreOp_run {q : Req} {c : Fin 256} (h : fin256 (byteAt q.params 0) = c) (s : State) : cellRestoreOp.run q s =
    if s.map.probe = .running then refuse s 2 (mapCode s) 0xFF
    else if s.cells[c].st ≠ .retired then noted s []
    else done0 (overIsolate c (restoredState c s)) := by
  subst h
  rfl

theorem restoredState_only (c : Fin 256) (s : State) : CellsAndMap s (restoredState c s) :=
  (((CellsAndMap.modCell ..).trans (.pulse ..)).trans (renamed_only ..)).trans (.spurEval _)

theorem restoredState_cells (c : Fin 256) (s : State) :
    (restoredState c s).cells = (modCell s c (fun x => { x with st := .off, role := .none })).cells := by
  unfold restoredState
  rw [spurEval_cells, renamed_cells, pulse_cells]

theorem restoredState_map (c : Fin 256) (s : State) :
    Renamed c.val (s.map.retiredSet &&& ~~~ BitVec.ofNat 256 (2 ^ c.val)) s.map (restoredState c s).map := by
  have h := renamed_map c.val (s.map.retiredSet &&& ~~~ BitVec.ofNat 256 (2 ^ c.val))
    (pulse (evt c.val) (modCell s c (fun x => { x with st := .off, role := .none })))
  unfold restoredState
  dsimp only
  rw [spurEval_map, pulse_map, modCell_map]
  rwa [pulse_map, modCell_map] at h

theorem overIsolate_only (c : Fin 256) (s : State) : CellsAndMap s (overIsolate c s) := by
  unfold overIsolate
  split
  · exact .changeCell ..
  · rfl

theorem overIsolate_other {c d : Fin 256} (h : d ≠ c) (s : State) : (overIsolate c s).cells[d] = s.cells[d] := by
  unfold overIsolate
  split
  · exact changeCell_other _ h _
  · rfl

/-- A cell OFF while VIN lies above 16.5 V is isolated (R21). -/
theorem overIsolate_over {c : Fin 256} {s : State} (h : s.land.vinOver = true) (hoff : s.cells[c].st = .off) :
    (overIsolate c s).cells[c].st = .isolated ∧ (overIsolate c s).cells[c].isoCause = 7 := by
  have hself := changeCell_not_retired (s := s) (c := c) (by rw [hoff]; decide) (Cell.isolated 7)
  unfold overIsolate
  rw [if_pos ⟨h, hoff⟩]
  exact ⟨congrArg Cell.st hself, congrArg Cell.isoCause hself⟩

theorem overIsolate_not_over {c : Fin 256} {s : State} (h : s.land.vinOver = false) : overIsolate c s = s := by
  unfold overIsolate
  rw [if_neg]
  rw [h]
  exact fun h => nomatch h.1

/-- Settles O30: the retirement of a cell of no rail, the restoration, and what rechecking the entries that name the cell leaves. -/
theorem cellRetireAndRestore : Obligations.CellRetireAndRestore := by
  intro q s c hp
  obtain ⟨hc, hlen⟩ := cellOp_of hp
  have hcheck : cellRetireOp.paramCheck 2 q.params = none := fixed_paramCheck (n := 1) (by decide) (by decide) rfl hlen rfl
  have hcheck' : cellRestoreOp.paramCheck 2 q.params = none := fixed_paramCheck (n := 1) (by decide) (by decide) rfl hlen rfl
  have hcell : (arrived q s).cells[c] = s.cells[c] := by rw [arrived_cells]
  have hmap : (arrived q s).map = s.map := arrived_map q s
  refine ⟨fun hr => ⟨fun hrun => ?_, fun hrun hret => ?_, fun hrun hoff hm => ?_, fun r hrun hret hlast => ?_⟩, fun hr hrun => ⟨fun hret => ?_, fun hret => ?_⟩⟩
  · refine completes_of_reply (o := cellRetireOp) (t := arrived q s) rfl hr hcheck ?_ (CellsAndMap.waiting hr rfl) rfl
    rw [cellRetireOp_run hc, hmap, if_pos hrun, refuse, mapCode, hmap]
    rfl
  · refine completes_of_reply (o := cellRetireOp) (t := arrived q s) rfl hr hcheck ?_ (CellsAndMap.waiting hr rfl) rfl
    rw [cellRetireOp_run hc, hmap, if_neg hrun, hcell, if_pos hret]
    rfl
  · have hm' : ∀ k : Nat, k < 48 → ((arrived q s).memberSet k).getLsbD c.val = false := fun k hk => by
      rw [memberSet_congr hmap]
      exact hm k hk
    have honly := retiredState_only c (arrived q s)
    refine completes_of_reply (o := cellRetireOp) (t := retiredState c (arrived q s)) rfl hr hcheck ?_ (honly.waiting hr)
      ⟨honly, ?_, ?_, ?_, fun k hk => ?_, fun k hk => ?_, fun d hd => ?_⟩
    · rw [cellRetireOp_run hc, hmap, if_neg hrun, hcell, if_neg (by rw [hoff]; decide), lastHealthy_none hm',
        retireCell_alone (by rw [hcell]; exact hoff) hm']
      rfl
    · exact congrArg Cell.st (retiredState_cell (by rw [hcell, hoff]; decide))
    · rw [(retiredState_map c (arrived q s)).retiredSet, BitVec.getLsbD_or, pow_bit, Bool.or_true]
    · rw [(retiredState_map c (arrived q s)).active, hmap]
    · rw [(retiredState_map c (arrived q s)).activeChk k (by rw [hmap]; exact hk), hmap]
    · rw [(retiredState_map c (arrived q s)).stagedChk k (by rw [hmap]; exact hk), hmap]
    · rw [retiredState_other hd, arrived_cells]
  · refine completes_of_reply (o := cellRetireOp) (t := arrived q s) rfl hr hcheck ?_ (CellsAndMap.waiting hr rfl) rfl
    rw [cellRetireOp_run hc, hmap, if_neg hrun, hcell, if_neg hret,
      lastHealthy_congr hmap (arrived_cells ..) (arrived_rails ..), hlast]
    dsimp only
    rw [refuseRail, refuse, rail_congr (arrived_rails q s)]
    rfl
  · have honly := (restoredState_only c (arrived q s)).trans (overIsolate_only c _)
    have hself : (restoredState c (arrived q s)).cells[c] = { s.cells[c] with st := .off, role := .none } := by
      rw [restoredState_cells, modCell_self, hcell]
    have hland : (restoredState c (arrived q s)).land = s.land := by rw [restoredState_only, arrived_land]
    have hm := restoredState_map c (arrived q s)
    rw [hmap] at hm
    refine completes_of_reply (o := cellRestoreOp) (t := overIsolate c (restoredState c (arrived q s))) rfl hr hcheck' ?_ (honly.waiting hr)
      ⟨honly, fun hv => ?_, fun hv => ?_, ?_, fun k hk => ?_, ?_, fun d hd => ?_⟩
    · rw [cellRestoreOp_run hc, hmap, if_neg hrun, hcell, if_neg (not_not.mpr hret)]
      rfl
    · rw [overIsolate_not_over (by rw [hland]; exact hv), hself]
    · exact overIsolate_over (by rw [hland]; exact hv) (by rw [hself])
    · rw [overIsolate_map, hm.retiredSet, BitVec.getLsbD_and, BitVec.getLsbD_not, pow_bit]
      simp
    · rw [overIsolate_map, hm.stagedChk k hk]
    · rw [overIsolate_map, hm.active]
    · rw [overIsolate_other hd, restoredState_cells, modCell_other _ _ _ _ hd.symm, arrived_cells]
  · refine completes_of_reply (o := cellRestoreOp) (t := arrived q s) rfl hr hcheck' ?_ (CellsAndMap.waiting hr rfl) rfl
    rw [cellRestoreOp_run hc, hmap, if_neg hrun, hcell, if_pos hret]
    rfl

end Sys2Proof.Machine
end

section
/-! PROOF. FAULT_CLEAR and the self-test (R66, R212, R391). -/

namespace Sys2Proof.Machine

/-! ## The command -/

theorem clearBad_none {p : List Byte} (h : byteAt p 0 = 0 ∨ 4 < byteAt p 0) : clearBad 2 p = none := by
  unfold clearBad
  rw [if_neg (by omega), if_neg (by omega)]

theorem faultClearOp_paramCheck {p : List Byte} (hl : p.length = 8) (h : byteAt p 0 = 0 ∨ 4 < byteAt p 0) : faultClearOp.paramCheck 2 p = none :=
  fixed_paramCheck (n := 8) (by decide) (by decide) rfl hl (clearBad_none h)

/-- A scope without a RESTORE clears its field (R391). -/
theorem faultClearOp_clears {q : Req} {s t : State} (h0 : byteAt q.params 0 ≠ 0)
    (h : clearScope (byteAt q.params 0) (byteAt q.params 1) (fieldAt q.params 4 4) s = some t) :
    faultClearOp.run q s = done t [0xFF] := by
  unfold faultClearOp
  dsimp only
  rw [if_neg (fun k => h0 k.1), h]
  exact if_pos (.inl h0)

theorem clearScope_reserved {n : Nat} (h : 17 < n) (i m : Nat) (s : State) : clearScope n i m s = none := by
  obtain ⟨k, rfl⟩ : ∃ k, n = k + 18 := ⟨n - 18, by omega⟩
  rfl

theorem faultClearOp_reserved {q : Req} {s : State} (h : 17 < byteAt q.params 0) : faultClearOp.run q s = noted s [0xFF] := by
  unfold faultClearOp
  dsimp only
  rw [if_neg (fun k => by omega), clearScope_reserved h]

/-- The cell's scope (R66, R212). -/
theorem faultClearOp_cell {q : Req} {c : Fin 256} (h0 : byteAt q.params 0 = 0) (h1 : byteAt q.params 1 = c.val) (s : State) :
    faultClearOp.run q s =
      if s.cells[c].st = .retired then (s, .undef .undefinedRetiredCell)
      else if natBit (fieldAt q.params 4 4) 16 = false then done (clearCell c (fieldAt q.params 4 4) s) [0xFF]
      else if s.cells[c].st ≠ .isolated then noted (clearCell c (fieldAt q.params 4 4) s) [3]
      else if s.cells[c].isoCause = 1 ∨ s.cells[c].isoCause = 2 then noted (clearCell c (fieldAt q.params 4 4) s) [1]
      else (clearCell c (fieldAt q.params 4 4) s, .defer (.restore c)) := by
  obtain rfl := fin256_of h1
  have hscope : clearScope 0 (byteAt q.params 1) (fieldAt q.params 4 4) s =
      some (clearCell (fin256 (byteAt q.params 1)) (fieldAt q.params 4 4) s) := rfl
  unfold faultClearOp
  dsimp only
  rw [h0, hscope]
  simp only [true_and, ne_eq, not_true_eq_false, false_or]

/-- Clearing a cell's flags leaves what it is (R212). -/
theorem clearCell_self {c : Fin 256} {s : State} (m : Nat) (h : s.cells[c].st ≠ .retired) :
    (clearCell c m s).cells[c].st = s.cells[c].st ∧ (clearCell c m s).cells[c].flags = w1c s.cells[c].flags 0x3FF m := by
  have hself := changeCell_not_retired h (fun x => { x with
      flags := w1c x.flags 0x3FF m
      peakTrips := if natBit m 3 then 0 else x.peakTrips
      busErrs := if natBit m 5 then 0 else x.busErrs
      errSats := if natBit m 0 ∨ natBit m 1 then 0 else x.errSats })
  unfold clearCell
  rw [hself]
  exact ⟨rfl, rfl⟩

theorem clearCell_other {c d : Fin 256} (m : Nat) (h : d ≠ c) (s : State) : (clearCell c m s).cells[d] = s.cells[d] := changeCell_other _ h _

/-! ## The self-test -/

theorem restoreCell_self {c : Fin 256} {s : State} (h : s.cells[c].st = .isolated) :
    (restoreCell c s).cells[c] = { s.cells[c] with st := .off, role := .none } :=
  (changeCell_not_retired (by rw [h]; decide) _).trans (if_pos h)

theorem exec_cellSelfTestDone {c : Fin 256} {p : Packet} {s : State} (h : s.proto.exec = some (p, .restore c)) (passed : Bool) :
    exec (.cellSelfTestDone passed) s =
      .next (if passed then complete .done [0] (overIsolate c (restoreCell c s)) else complete .doneWithNote [2] s) := by
  have hx : exec (.cellSelfTestDone passed) s = execCellSelfTestDone passed s := rfl
  rw [hx, execCellSelfTestDone, h]

theorem restored_proto (c : Fin 256) (s : State) : (overIsolate c (restoreCell c s)).proto = s.proto := by
  rw [overIsolate_proto, restoreCell_proto]

/-- Settles O31: each scope by the field it clears, the cell's by what its handler answers, the self-test by completing the command. -/
theorem faultClearAndRestore : Obligations.FaultClearAndRestore := by
  refine ⟨fun q s hr hl => ⟨fun h => ?_, fun h => ?_, fun h => ?_, fun h => ?_, fun h => ?_,
    fun c h0 h1 => ⟨fun hret => ?_, fun hret hb => ?_, fun hb hiso => ⟨fun hcause => ?_, fun hc1 hc2 => ?_⟩⟩⟩,
    fun c p s hex hiso => ⟨?_, ?_⟩, fun passed s hex => ?_⟩
  · refine completes_of_reply (o := faultClearOp) (t := clearLand (fieldAt q.params 4 4) (arrived q s)) rfl hr
      (faultClearOp_paramCheck hl (by omega)) (faultClearOp_clears (by omega) (by rw [h]; rfl)) ?_ ?_
    · rw [clearLand_proto, arrived_proto, hr.empty]
    · rw [clearLand, arrived_land]
      rfl
  · refine completes_of_reply (o := faultClearOp) (t := clearClk (fieldAt q.params 4 4) (arrived q s)) rfl hr
      (faultClearOp_paramCheck hl (by omega)) (faultClearOp_clears (by omega) (by rw [h]; rfl)) ?_ ?_
    · rw [clearClk_proto, arrived_proto, hr.empty]
    · rw [clearClk, show (arrived q s).clk.flags = s.clk.flags from Clk.get (arrived_clkcore q s) Clk.flags (fun _ => rfl)]
      rfl
  · refine completes_of_reply (o := faultClearOp) (t := clearSeq (fieldAt q.params 4 4) (arrived q s)) rfl hr
      (faultClearOp_paramCheck hl (by omega)) (faultClearOp_clears (by omega) (by rw [h]; rfl)) ?_ ?_
    · rw [clearSeq_proto, arrived_proto, hr.empty]
    · rw [clearSeq, arrived_dom]
      rfl
  · refine completes_of_reply (o := faultClearOp) (t := clearFw (fieldAt q.params 4 4) (arrived q s)) rfl hr
      (faultClearOp_paramCheck hl (by omega)) (faultClearOp_clears (by omega) (by rw [h]; rfl)) ?_ ?_
    · rw [clearFw_proto, arrived_proto, hr.empty]
    · rw [clearFw, arrived_fw]
      rfl
  · refine completes_of_reply (o := faultClearOp) (t := arrived q s) rfl hr (faultClearOp_paramCheck hl (by omega)) (faultClearOp_reserved h) ?_ rfl
    rw [arrived_proto, hr.empty]
  · refine runOp_undef (t := arrived q s) hr (faultClearOp_paramCheck hl (.inl h0)) ?_
    rw [faultClearOp_cell h0 h1, arrived_cells, if_pos hret]
  · refine completes_of_reply (o := faultClearOp) (t := clearCell c (fieldAt q.params 4 4) (arrived q s)) rfl hr
      (faultClearOp_paramCheck hl (.inl h0)) ?_ ?_ ?_
    · rw [faultClearOp_cell h0 h1, arrived_cells, if_neg hret, if_pos hb]
      rfl
    · rw [clearCell_proto, arrived_proto, hr.empty]
    · obtain ⟨hst, hflags⟩ := clearCell_self (s := arrived q s) (c := c) (fieldAt q.params 4 4) (by rw [arrived_cells]; exact hret)
      rw [arrived_cells] at hst hflags
      exact ⟨hst, hflags, fun d hd => by rw [clearCell_other _ hd, arrived_cells]⟩
  · have hret : s.cells[c].st ≠ .retired := by
      rw [hiso]
      decide
    refine completes_of_reply (o := faultClearOp) (t := clearCell c (fieldAt q.params 4 4) (arrived q s)) rfl hr
      (faultClearOp_paramCheck hl (.inl h0)) ?_ ?_ ?_
    · rw [faultClearOp_cell h0 h1, arrived_cells, if_neg hret, if_neg (by rw [hb]; decide), if_neg (not_not.mpr hiso), if_pos hcause]
      rfl
    · rw [clearCell_proto, arrived_proto, hr.empty]
    · rw [(clearCell_self (s := arrived q s) (c := c) (fieldAt q.params 4 4) (by rw [arrived_cells]; exact hret)).1, arrived_cells]
      exact hiso
  · have hret : s.cells[c].st ≠ .retired := by
      rw [hiso]
      decide
    refine begins_of_run (o := faultClearOp) (t := clearCell c (fieldAt q.params 4 4) (arrived q s)) rfl hr
      (faultClearOp_paramCheck hl (.inl h0)) ?_ ⟨?_, ?_⟩
    · rw [faultClearOp_cell h0 h1, arrived_cells, if_neg hret, if_neg (by rw [hb]; decide), if_neg (not_not.mpr hiso),
        if_neg (not_or.mpr ⟨hc1, hc2⟩)]
    · rw [(clearCell_self (s := arrived q s) (c := c) (fieldAt q.params 4 4) (by rw [arrived_cells]; exact hret)).1, arrived_cells]
      exact hiso
    · rw [clearCell_proto, arrived_proto]
  · have hself := restoreCell_self hiso
    have hland : (restoreCell c s).land = s.land := changeCell_land ..
    rw [exec_cellSelfTestDone hex, if_pos rfl, complete_of_exec _ _ (by rw [restored_proto]; exact hex)]
    refine ⟨_, rfl, fun hv => ?_, fun hv => ?_, ?_, ?_, fun d hd => ?_⟩
    · dsimp only
      rw [overIsolate_not_over (by rw [hland]; exact hv), hself]
    · exact overIsolate_over (by rw [hland]; exact hv) (by rw [hself])
    · dsimp only
      rw [restored_proto]
    · dsimp only
      rw [overIsolate_rails, restoreCell_rails]
    · exact (overIsolate_other hd _).trans (changeCell_other _ hd _)
  · rw [exec_cellSelfTestDone hex, if_neg (by decide), complete_of_exec _ _ hex]
  · have hx : exec (.cellSelfTestDone passed) s = execCellSelfTestDone passed s := rfl
    rw [hx, execCellSelfTestDone, hex]

end Sys2Proof.Machine
end

section
/-! PROOF. The sequencing domain as the fault and sequencing operations leave it: its core, its flags, and the rails that a shut-off leaves
(R101, R238, R255). -/

namespace Sys2Proof.Machine

/-! ## The domain's core and its flags -/

/-- The domain without its flags and the echoes it has sent. -/
def Dom.core (d : Dom) : Dom := { d with flags := 0, echoId := 0, echoSecond := [] }

/-- A field that the core keeps. -/
theorem Dom.get {α : Type} {c d : Dom} (h : c.core = d.core) (f : Dom → α) (hf : ∀ x : Dom, f x.core = f x) : f c = f d := by
  rw [← hf c, h, hf]

theorem seqSet_dom (m : BitVec 16) (s : State) : (seqSet m s).dom = { s.dom with flags := s.dom.flags ||| m } := by
  unfold seqSet
  rw [pulseIf_dom]

@[simp] theorem seqSet_domcore (m : BitVec 16) (s : State) : (seqSet m s).dom.core = s.dom.core := by
  rw [seqSet_dom]
  rfl

@[simp] theorem capture_domcore (cause index : Nat) (s : State) : (capture cause index s).dom.core = s.dom.core := by
  unfold capture
  split
  · rfl
  · exact seqSet_domcore ..

@[simp] theorem sendEcho_domcore (kind seq : Nat) (s : State) : (sendEcho kind seq s).dom.core = s.dom.core := by
  unfold sendEcho
  split <;> rfl

theorem enterDom_domcore (d : DomSt) (s : State) : (enterDom d s).dom.core = { s.dom with st := d }.core := by
  unfold enterDom
  dsimp only
  split <;> simp

theorem enterDom_st (d : DomSt) (s : State) : (enterDom d s).dom.st = d :=
  Dom.get (enterDom_domcore d s) Dom.st (fun _ => rfl)

/-- What was set of SEQ_FLAGS stays set. -/
def FlagsStay (s t : State) : Prop := ∀ i : Nat, s.dom.flags.getLsbD i = true → t.dom.flags.getLsbD i = true

namespace FlagsStay

theorem refl (s : State) : FlagsStay s s := fun _ h => h

theorem of_dom {s t : State} (h : t.dom.flags = s.dom.flags) : FlagsStay s t := fun i hi => by rw [h]; exact hi

theorem trans {s t u : State} (h : FlagsStay s t) (k : FlagsStay t u) : FlagsStay s u := fun i hi => k i (h i hi)

theorem seqSet (m : BitVec 16) (s : State) : FlagsStay s (Machine.seqSet m s) := fun i hi => by
  rw [seqSet_dom, BitVec.getLsbD_or, hi, Bool.true_or]

theorem capture (cause index : Nat) (s : State) : FlagsStay s (Machine.capture cause index s) := by
  unfold Machine.capture
  split
  · exact refl s
  · exact seqSet _ _

theorem sendEcho (kind seq : Nat) (s : State) : FlagsStay s (Machine.sendEcho kind seq s) := by
  unfold Machine.sendEcho
  split
  · exact refl s
  · exact refl s

theorem enterDom (d : DomSt) (s : State) : FlagsStay s (Machine.enterDom d s) := by
  have h : FlagsStay s (pulse d.event { s with dom := { s.dom with st := d } }) := of_dom (by rw [pulse_dom])
  unfold Machine.enterDom
  cases d with
  | up => exact h.trans (capture _ _ _)
  | down => exact h.trans (capture _ _ _)
  | rising => exact h
  | falling => exact h
  | latched => exact h

theorem enterLatched (s : State) : FlagsStay s (Machine.enterLatched s) := by
  unfold Machine.enterLatched
  dsimp only
  split
  · exact refl s
  · exact fun i hi => FlagsStay.enterDom _ _ i hi

end FlagsStay

theorem seqSet_flag {m : BitVec 16} {i : Nat} (h : m.getLsbD i = true) (s : State) : (seqSet m s).dom.flags.getLsbD i = true := by
  rw [seqSet_dom, BitVec.getLsbD_or, h, Bool.or_true]

/-! ## A module shut off -/

/-- LATCHED ends the run and every restart (R101). -/
theorem enterLatched_domcore (s : State) : (enterLatched s).dom.core = { s.dom with
    st := .latched, cur := none, ph := .idle, upWait := false, autoUp := false, restartDue := false, vinMem := false }.core := by
  unfold enterLatched cancelRestart
  dsimp only
  split
  case isTrue h => rw [← h]
  case isFalse => rw [enterDom_domcore]

/-- The rail without the rotation of its phases. -/
def Rail.base (x : Rail) : Rail := { x with ph := { x.ph with rot := 0 } }

/-- A field that the base keeps. -/
theorem Rail.get {α : Type} {x y : Rail} (h : x.base = y.base) (f : Rail → α) (hf : ∀ x : Rail, f x.base = f x) : f x = f y := by
  rw [← hf x, h, hf]

theorem sendPhase_base (n : Nat) (b : PhaseCtx) (k : Fin 48) (s : State) : (sendPhase n b s).rails[k].base = s.rails[k].base := by
  unfold sendPhase
  dsimp only
  rw [post_only]
  split
  · dsimp only
    by_cases h : fin48 n = k
    · subst h
      rw [modRail_self]
      rfl
    · rw [modRail_other _ _ _ _ h]
  · rfl

theorem foldl_sendPhase_base (l : List Nat) (b : Nat → PhaseCtx) (k : Fin 48) (s : State) :
    (l.foldl (fun t r => sendPhase r (b r) t) s).rails[k].base = s.rails[k].base := by
  induction l generalizing s with
  | nil => rfl
  | cons n l ih => rw [List.foldl_cons, ih, sendPhase_base]

theorem leaveRails_base (out : Rail → Bool) (st : RailSt) (k : Fin 48) (s : State) :
    (leaveRails out st s).rails[k].base = (if out s.rails[k] = true then s.rails[k].leave st else s.rails[k]).base := by
  unfold leaveRails
  rw [foldl_sendPhase_base, mapRails_get]

theorem shutOff_leaves (x : Rail) : (decide (x.st ≠ .off) || x.offFrom.isSome) = true ↔ ¬ (x.st = .off ∧ x.offFrom = none) := by
  cases h : x.offFrom <;> simp

/-- Every rail that is not OFF, or that has turned OFF in this control tick, is LATCHED_OFF (R238). -/
theorem shutOff_base (k : Fin 48) (s : State) : (shutOff s).rails[k].base =
    (if s.rails[k].st = .off ∧ s.rails[k].offFrom = none then s.rails[k] else s.rails[k].leave .latchedOff).base := by
  have h : (shutOff s).rails = (leaveRails (fun x => decide (x.st ≠ .off) || x.offFrom.isSome) .latchedOff
      (abortProbe (changeCells s (fun _ c => c.turnOff)))).rails := by
    unfold shutOff
    rw [enterLatched_rails, stopAllArming_rails]
  have hr : (abortProbe (changeCells s (fun _ c => c.turnOff))).rails = s.rails := by rw [abortProbe_rails, changeCells_rails]
  rw [rail_of_rails h k, leaveRails_base, rail_of_rails hr k]
  by_cases hx : s.rails[k].st = .off ∧ s.rails[k].offFrom = none
  · rw [if_pos hx, if_neg (mt (shutOff_leaves _).mp (not_not.mpr hx))]
  · rw [if_neg hx, if_pos ((shutOff_leaves _).mpr hx)]

theorem shutOff_railSt (k : Fin 48) (s : State) :
    (shutOff s).rails[k].st = if s.rails[k].st = .off ∧ s.rails[k].offFrom = none then .off else .latchedOff := by
  rw [Rail.get (shutOff_base k s) Rail.st (fun _ => rfl)]
  split
  case isTrue h => exact h.1
  case isFalse => rfl

theorem shutOff_prot (k : Fin 48) (s : State) : (shutOff s).rails[k].prot = s.rails[k].prot := by
  rw [Rail.get (shutOff_base k s) Rail.prot (fun _ => rfl)]
  split <;> rfl

/-- Every cell that is not RETIRED is turned off (R238). -/
theorem shutOff_cell (c : Fin 256) (s : State) :
    (shutOff s).cells[c] = if s.cells[c].st = .retired then s.cells[c] else s.cells[c].turnOff := by
  have h : (shutOff s).cells = (changeCells s (fun _ c => c.turnOff)).cells := by
    unfold shutOff
    rw [enterLatched_cells, stopAllArming_cells, leaveRails_cells, abortProbe_cells]
  rw [h, changeCells_get]

theorem shutOff_armQ (s : State) : (shutOff s).armQ = [] := by
  unfold shutOff
  rw [enterLatched_armQ]
  rfl

theorem shutOff_domcore (s : State) : (shutOff s).dom.core = { s.dom with
    st := .latched, cur := none, ph := .idle, upWait := false, autoUp := false, restartDue := false, vinMem := false }.core := by
  unfold shutOff
  dsimp only
  rw [enterLatched_domcore, stopAllArming_dom, leaveRails_dom, abortProbe_dom, changeCells_dom]

/-- The module shut off, FAULT_N driven and the fault sent (R238, R239). -/
theorem faultRun_dom (n : Nat) (s : State) : (faultRun n s).dom.st = .latched ∧ (faultRun n s).dom.fnDrive = true ∧
    (faultRun n s).dom.fnLow = true := by
  have h : (faultRun n s).dom.core = { (shutOff s).dom with fnDrive := true, fnLow := true, fnAt := some (shutOff s).hem.ticks }.core := by
    unfold faultRun
    rw [sendEcho_domcore, capture_domcore]
  exact ⟨(Dom.get h Dom.st (fun _ => rfl)).trans (Dom.get (shutOff_domcore s) Dom.st (fun _ => rfl)), Dom.get h Dom.fnDrive (fun _ => rfl), Dom.get h Dom.fnLow (fun _ => rfl)⟩

theorem faultRun_rails (n : Nat) (s : State) : (faultRun n s).rails = (shutOff s).rails := by
  unfold faultRun
  rw [sendEcho_rails, capture_rails]

theorem faultRun_armQ (n : Nat) (s : State) : (faultRun n s).armQ = [] := by
  unfold faultRun
  rw [sendEcho_armQ, capture_armQ]
  exact shutOff_armQ s

/-- A rail that FALLING does not keep confined shuts the module off (R101, R238). -/
theorem railFault_run {s : State} {ov : Bool} (h : s.dom.st ≠ .falling ∨ ov = true) (r : Nat) : railFault r ov s = faultRun r s := by
  unfold railFault
  rw [if_neg (by rintro ⟨h1, h2⟩; simp_all)]

end Sys2Proof.Machine
end

section
/-! PROOF. The falls of power-good, comparator trips and comparator faults (R101, R202-R208, R238). -/

namespace Sys2Proof.Machine

/-! ## Power-good -/

/-- The rail whose power-good has fallen while it was judged (R226). -/
def Rail.fell (x : Rail) : Rail :=
  if (x.qualifying || x.supervised) = true then { x with chatter := satInc 255 x.chatter, fallSeen := true } else x

theorem Rail.fell_rest (x : Rail) : x.fell = { x with chatter := x.fell.chatter, fallSeen := x.fell.fallSeen } := by
  unfold Rail.fell
  split <;> rfl

theorem Rail.notePg_rest (x y : Rail) (n : Nat) : x.notePg n y = { x with pgAt := (x.notePg n y).pgAt } := by
  unfold Rail.notePg
  split <;> rfl

theorem countedFall_self (r : Fin 48) (s : State) : (countedFall r.val s).rails[r] = s.rails[r].fell := by
  unfold countedFall Rail.fell
  dsimp only
  rw [rail_val]
  split
  · split
    · rw [rail_of_rails (pgEvent_rails ..), modRail_val_self]
    · rw [rail_of_rails (capture_rails ..), rail_of_rails (pgEvent_rails ..), modRail_val_self]
  · rfl

theorem countedFall_other {r k : Fin 48} (h : k ≠ r) (s : State) : (countedFall r.val s).rails[k] = s.rails[k] := by
  unfold countedFall
  dsimp only
  split
  · split
    · rw [rail_of_rails (pgEvent_rails ..), modRail_val_other _ h]
    · rw [rail_of_rails (capture_rails ..), rail_of_rails (pgEvent_rails ..), modRail_val_other _ h]
  · rfl

@[simp] theorem countedFall_domcore (r : Nat) (s : State) : (countedFall r s).dom.core = s.dom.core := by
  unfold countedFall pgEvent
  dsimp only
  split
  · split
    · rw [pulse_dom]
      rfl
    · rw [capture_domcore, pulse_dom]
      rfl
  · rfl

theorem pgChange_self (r : Fin 48) (f : Rail → Rail) (s : State) : (pgChange r f s).rails[r] =
    if (s.rails[r].pgRaw && !(f s.rails[r]).pgRaw) = true then ((f s.rails[r]).notePg s.hem.ticks s.rails[r]).fell
    else (f s.rails[r]).notePg s.hem.ticks s.rails[r] := by
  unfold pgChange
  dsimp only
  split
  · rw [countedFall_self, modRail_self]
  · rw [modRail_self]

theorem pgChange_rest (r : Fin 48) (f : Rail → Rail) (s : State) : (pgChange r f s).rails[r] = { f s.rails[r] with
    pgAt := (pgChange r f s).rails[r].pgAt, chatter := (pgChange r f s).rails[r].chatter
    fallSeen := (pgChange r f s).rails[r].fallSeen } := by
  rw [pgChange_self]
  split
  · rw [Rail.fell_rest, Rail.notePg_rest]
  · rw [Rail.notePg_rest]

theorem pgChange_other {r k : Fin 48} (h : k ≠ r) (f : Rail → Rail) (s : State) : (pgChange r f s).rails[k] = s.rails[k] := by
  unfold pgChange
  dsimp only
  split
  · rw [countedFall_other h, modRail_other _ _ _ _ h.symm]
  · rw [modRail_other _ _ _ _ h.symm]

@[simp] theorem pgChange_domcore (r : Fin 48) (f : Rail → Rail) (s : State) : (pgChange r f s).dom.core = s.dom.core := by
  unfold pgChange
  dsimp only
  split
  · rw [countedFall_domcore]
    rfl
  · rfl

/-! ## The trips -/

/-- A trip latched on the rail: the comparator's present reading, the trip, and its event line (R101, R204). -/
def tripped (r : Fin 48) (now trip : Prot → Prot) (e : Fin 1024) (s : State) : State :=
  setLine e true (modRail (pgChange r (fun x => { x with prot := now x.prot }) s) r (fun x => { x with prot := trip x.prot }))

section
variable (r : Fin 48) (now trip : Prot → Prot) (e : Fin 1024) (s : State)

theorem tripped_self : (tripped r now trip e s).rails[r] = { s.rails[r] with
    prot := trip (now s.rails[r].prot), pgAt := (tripped r now trip e s).rails[r].pgAt
    chatter := (tripped r now trip e s).rails[r].chatter, fallSeen := (tripped r now trip e s).rails[r].fallSeen } := by
  unfold tripped
  rw [rail_of_rails (setLine_rails ..), modRail_self, pgChange_rest]

theorem tripped_other {k : Fin 48} (h : k ≠ r) : (tripped r now trip e s).rails[k] = s.rails[k] := by
  unfold tripped
  rw [rail_of_rails (setLine_rails ..), modRail_other _ _ _ _ h.symm, pgChange_other h]

theorem tripped_state (k : Fin 48) : (tripped r now trip e s).rails[k].st = s.rails[k].st ∧
    (tripped r now trip e s).rails[k].offFrom = s.rails[k].offFrom := by
  by_cases h : k = r
  · subst h
    rw [tripped_self]
    exact ⟨rfl, rfl⟩
  · rw [tripped_other r now trip e s h]
    exact ⟨rfl, rfl⟩

theorem tripped_domcore : (tripped r now trip e s).dom.core = s.dom.core := by
  unfold tripped
  rw [setLine_dom]
  exact pgChange_domcore ..

theorem tripped_cells : (tripped r now trip e s).cells = s.cells := by
  unfold tripped
  rw [setLine_cells, modRail_cells, pgChange_cells]

/-- A trip that shuts the module off: every rail not OFF LATCHED_OFF, the domain latched, FAULT_N driven, no arming left (R238). -/
theorem tripped_shut : (faultRun r.val (tripped r now trip e s)).rails[r].prot = trip (now s.rails[r].prot) ∧
    ∀ k : Fin 48, (faultRun r.val (tripped r now trip e s)).rails[k].st =
      if s.rails[k].st = .off ∧ s.rails[k].offFrom = none then .off else .latchedOff := by
  constructor
  · rw [rail_of_rails (faultRun_rails ..), shutOff_prot, tripped_self]
  · intro k
    obtain ⟨hst, hoff⟩ := tripped_state r now trip e s k
    rw [rail_of_rails (faultRun_rails ..), shutOff_railSt, hst, hoff]

end

theorem runs_of_regulates {x : RailSt} (h : x.regulates = true) : x.runs = true := by
  cases x <;> simp_all [RailSt.regulates, RailSt.runs]

theorem regulates_iff {x : RailSt} : x.regulates = true ↔ x = .regulating ∨ x = .slewing := by
  cases x <;> simp [RailSt.regulates]

theorem execOvTrip_eq (r : Fin 48) (s : State) : exec (.ovTrip r) s = .next (if s.off then s
    else if s.rails[r].st.runs ∨ s.rails[r].offFrom.any RailSt.runs then
      faultRun r.val (tripped r (fun p => { p with ovNow := true }) (fun p => { p with ovTrip := true }) (evt (256 + 4 * r.val)) s)
    else tripped r (fun p => { p with ovNow := true }) (fun p => { p with ovTrip := true }) (evt (256 + 4 * r.val)) s) := by
  have h := railFault_run (ov := true) (s := tripped r (fun p => { p with ovNow := true }) (fun p => { p with ovTrip := true })
    (evt (256 + 4 * r.val)) s) (.inr rfl) r.val
  rw [← h]
  rfl

theorem execUvTrip_eq {r : Fin 48} {s : State} (h : s.off = false ∧ (s.rails[r].st.regulates ∨ s.rails[r].offFrom.any RailSt.regulates))
    (hd : s.dom.st ≠ .falling) : exec (.uvTrip r) s = .next (faultRun r.val
      (tripped r (fun p => { p with uvNow := true }) (fun p => { p with uvTrip := true }) (evt (257 + 4 * r.val)) s)) := by
  rw [← railFault_run (ov := false) (.inl (by rw [Dom.get (tripped_domcore ..) Dom.st (fun _ => rfl)]; exact hd)) r.val]
  exact congrArg Host.Outcome.next (if_pos h)

/-! ## The obligation -/

theorem thrOff_iff (reading code : Nat) : thrOff reading code = true ↔ reading + 3 < code ∨ code + 3 < reading := by
  unfold thrOff
  rw [decide_eq_true_eq]
  omega

/-- A threshold read back marks its rail (R206). -/
theorem thresholdReadback_marks {r : Fin 48} {ov uv : Nat} {s : State} (hv : s.map.active[r].valid = true) (hp : s.proto.running = true)
    (hb : s.tlm.busy[Fin.ofNat 4 s.tlm.sysConv] = none) : ∃ t, exec (.thresholdReadback r ov uv) s = .next t ∧
      t.rails[r].prot.thrFailOv = (s.rails[r].prot.thrFailOv || thrOff ov s.rails[r].ovInForce) ∧
      (∀ k : Fin 48, k ≠ r → t.rails[k] = s.rails[k]) ∧ t.cells = s.cells ∧ t.dom = s.dom ∧ t.map = s.map := by
  have hx : exec (.thresholdReadback r ov uv) s = execThresholdReadback r ov uv s := rfl
  rw [hx, execThresholdReadback]
  dsimp only
  rw [if_pos ⟨hv, hp, by rw [hb]; rfl⟩]
  have hhold : ∀ a b c d, (holdSystem a b (holdSystem c d s)).rails = s.rails := fun _ _ _ _ => rfl
  split
  · refine ⟨_, rfl, ?_, fun k hk => ?_, ?_, ?_, ?_⟩
    · rw [rail_of_rails (pgEvent_rails ..), modRail_self]
      rfl
    · rw [rail_of_rails (pgEvent_rails ..), modRail_other _ _ _ _ hk.symm]
      exact rail_of_rails (hhold ..) k
    · exact pgEvent_cells ..
    · exact pgEvent_dom ..
    · exact pgEvent_map ..
  case isFalse h =>
    refine ⟨_, rfl, ?_, fun k _ => rfl, rfl, rfl, rfl⟩
    rw [Bool.eq_false_of_not_eq_true (fun k => h (.inl k)), Bool.or_false]
    rfl

/-- Settles O32: a trip is a rail marked and, where it shuts the module off, the module shut off after it. -/
theorem tripsAndComparatorFaults : Obligations.TripsAndComparatorFaults := by
  intro r s
  refine ⟨fun hoff => ?_, fun hoff hst hfrom => ?_, fun hoff hrun => ?_, fun h1 h2 h3 => ?_, fun hoff hreg hdom => ?_, fun ov uv => ?_,
    fun h1 h2 => ?_, fun hreg => ?_, fun h => ?_, fun h1 h2 => ?_⟩
  case refine_1 =>
    refine ⟨?_, congrArg Host.Outcome.next (if_neg (by rw [hoff]; simp))⟩
    rw [execOvTrip_eq, if_pos hoff]
  case refine_2 =>
    have hno : ¬ (s.rails[r].st.runs = true ∨ s.rails[r].offFrom.any RailSt.runs = true) := by
      rw [hfrom]
      obtain h | h := hst <;> rw [h] <;> decide
    refine ⟨_, by rw [execOvTrip_eq, if_neg (by simp [hoff]), if_neg hno], ?_, ?_, tripped_cells .., Dom.get (tripped_domcore ..) Dom.st (fun _ => rfl),
      fun k hk => tripped_other _ _ _ _ _ hk⟩
    · rw [tripped_self]
    · exact (tripped_state ..).1
  case refine_3 =>
    have hyes : s.rails[r].st.runs = true ∨ s.rails[r].offFrom.any RailSt.runs = true :=
      hrun.imp_left (fun h => by simp only [RailSt.runs, h.1, h.2, ne_eq, not_false_eq_true, decide_true, Bool.and_self])
    obtain ⟨hprot, hrails⟩ := tripped_shut r (fun p => { p with ovNow := true }) (fun p => { p with ovTrip := true }) (evt (256 + 4 * r.val)) s
    obtain ⟨hst, hdrive, hlow⟩ := faultRun_dom r.val
      (tripped r (fun p => { p with ovNow := true }) (fun p => { p with ovTrip := true }) (evt (256 + 4 * r.val)) s)
    refine ⟨_, by rw [execOvTrip_eq, if_neg (by simp [hoff]), if_pos hyes], ?_, hst, hdrive, hlow, faultRun_armQ .., hrails⟩
    rw [hprot]
  case refine_4 =>
    refine congrArg Host.Outcome.next (if_neg ?_)
    rintro ⟨-, h | h⟩
    · exact (regulates_iff.mp h).elim h1 h2
    · exact Bool.false_ne_true (h3.symm.trans h)
  case refine_5 =>
    obtain ⟨hprot, hrails⟩ := tripped_shut r (fun p => { p with uvNow := true }) (fun p => { p with uvTrip := true }) (evt (257 + 4 * r.val)) s
    obtain ⟨hst, hdrive, -⟩ := faultRun_dom r.val
      (tripped r (fun p => { p with uvNow := true }) (fun p => { p with uvTrip := true }) (evt (257 + 4 * r.val)) s)
    refine ⟨_, execUvTrip_eq ⟨hoff, hreg.imp_left regulates_iff.mpr⟩ hdom, by rw [hprot], hst, hdrive, ?_⟩
    rw [hrails, if_neg]
    rintro ⟨h1, h2⟩
    rw [h1, h2] at hreg
    simp at hreg
  case refine_6 =>
    refine ⟨fun h => congrArg Host.Outcome.next (if_neg ?_), fun hv hp hb => ?_⟩
    · rintro ⟨hv, hp, hb⟩
      obtain h | h | h := h
      · exact Bool.false_ne_true (h.symm.trans hv)
      · exact Bool.false_ne_true (h.symm.trans hp)
      · exact h (Option.isNone_iff_eq_none.mp hb)
    · obtain ⟨t, hx, hthr, hrest⟩ := thresholdReadback_marks (ov := ov) (uv := uv) hv hp hb
      refine ⟨t, hx, ?_, hrest⟩
      rw [hthr, Bool.or_eq_true, thrOff_iff]
  case refine_7 =>
    exact congrArg Host.Outcome.next (if_neg (fun h => (regulates_iff.mp h).elim h1 h2))
  case refine_8 =>
    refine ⟨_, congrArg Host.Outcome.next (if_pos (regulates_iff.mpr hreg)), ?_, ?_, ?_, ?_, fun k hk => ?_, fun c => ?_⟩
    · rw [rail_of_rails (changeMembers_rails ..), modRail_self]
    · rw [rail_of_rails (changeMembers_rails ..), modRail_self]
    · exact changeMembers_dom ..
    · exact changeMembers_map ..
    · rw [rail_of_rails (changeMembers_rails ..), modRail_other _ _ _ _ hk.symm]
    · rw [changeMembers_get]
      have hm : (modRail s r (fun x => { x with prot := { x.prot with senseFault := true } })).memberSet r.val = s.memberSet r.val := rfl
      rw [hm]
      by_cases hc : s.cells[c].st = .retired
      · exact (if_pos hc).trans (if_neg (fun k => k.2 hc)).symm
      · exact (if_neg hc).trans (by simp only [ne_eq, hc, not_false_eq_true, and_true]; rfl)
  case refine_9 =>
    refine congrArg Host.Outcome.next (if_neg ?_)
    rintro ⟨h1, h2⟩
    obtain h | h := h
    · exact Bool.false_ne_true (h.symm.trans h1)
    · exact Nat.not_lt.mpr h2 h
  case refine_10 =>
    refine ⟨_, congrArg Host.Outcome.next (if_pos ⟨h1, h2⟩), ?_⟩
    dsimp only
    split
    · exact ⟨by rw [modRail_self], by rw [modRail_self], rfl, rfl, fun k hk => modRail_other _ _ _ _ hk.symm⟩
    · refine ⟨?_, ?_, changeMembers_dom .., changeMembers_map .., fun k hk => ?_⟩
      · rw [rail_of_rails (changeMembers_rails ..), modRail_self, modRail_self]
      · rw [rail_of_rails (changeMembers_rails ..), modRail_self, modRail_self]
      · rw [rail_of_rails (changeMembers_rails ..), modRail_other _ _ _ _ hk.symm, modRail_other _ _ _ _ hk.symm]

end Sys2Proof.Machine
end

section
/-! PROOF. The runs of the sequencing domain through its slots: what the next slot is, and what beginning and ending a run leaves
(R230-R235, R242). -/

namespace Sys2Proof.Machine

/-! ## The next slot -/

theorem slot_val (d : Dom) (j : Fin 16) : d.slot j.val = d.slotsNow[j] := by
  unfold Dom.slot
  congr 1
  exact Fin.ext (Nat.mod_eq_of_lt j.isLt)

/-- The first slot used from `k` on comes next in a rise (R232). -/
theorem nextUp_first {k : Nat} {j : Fin 16} {s : State} (hk : k ≤ j.val) (hj : s.dom.slotsNow[j].used = true)
    (hi : ∀ i : Fin 16, k ≤ i.val → i < j → s.dom.slotsNow[i].used = false) :
    nextUp k s = { s with dom := { s.dom with cur := some j.val, leftZero := s.dom.leftZero ||| BitVec.ofNat 16 (2 ^ j.val)
                                              ph := if gateOpen s.dom j.val then .upDelay else .gate } } := by
  have h : (upto 16).find? (fun j => decide (k ≤ j) && (s.dom.slot j).used) = some j.val := by
    refine find_upto j (by rw [slot_val, hj]; simpa using hk) fun i hij => ?_
    rw [slot_val]
    by_cases hki : k ≤ i.val
    · rw [hi i hki hij, Bool.and_false]
    · rw [decide_eq_false hki, Bool.false_and]
  unfold nextUp
  rw [h]

/-- With no slot left the domain is UP (R232). -/
theorem nextUp_none {k : Nat} {s : State} (h : ∀ j : Fin 16, k ≤ j.val → s.dom.slotsNow[j].used = false) :
    nextUp k s = enterDom .up { s with dom := { s.dom with cur := none, ph := .idle } } := by
  have hf : (upto 16).find? (fun j => decide (k ≤ j) && (s.dom.slot j).used) = none := by
    refine find_upto_none fun j => ?_
    rw [slot_val]
    by_cases hkj : k ≤ j.val
    · rw [h j hkj, Bool.and_false]
    · rw [decide_eq_false hkj, Bool.false_and]
  unfold nextUp
  rw [hf]

theorem find_down {n : Nat} {f : Nat → Bool} {c : Nat} (hn : c < n) (hc : f c = true) (hl : ∀ k : Nat, c < k → k < n → f k = false) :
    (upto n).reverse.find? f = some c := by
  have hs : ∀ m, (upto (m + 1)).reverse = m :: (upto m).reverse := fun m => by simp [upto, List.range_succ]
  induction n with
  | zero => exact absurd hn (Nat.not_lt_zero c)
  | succ n ih =>
    rw [hs]
    by_cases hcn : c = n
    · rw [← hcn, List.find?_cons_of_pos hc]
    · rw [List.find?_cons_of_neg (by rw [hl n (by omega) (by omega)]; decide)]
      exact ih (by omega) (fun k h1 h2 => hl k h1 (by omega))

theorem slotRan_iff (s : State) (j : Fin 16) : (s.dom.leftZero.getLsbD j.val && (s.dom.slot j.val).used &&
    (s.dom.ran.getLsbD j.val || (s.dom.slot j.val).railList.any (fun r => decide ((s.rail r).st ≠ .off)))) = true ↔ SlotRan s j := by
  have hany : (s.dom.slot j.val).railList.any (fun r => decide ((s.rail r).st ≠ .off)) = true ↔
      ∃ r : Fin 48, natBit s.dom.slotsNow[j].rails r.val = true ∧ s.rails[r].st ≠ .off := by
    rw [List.any_eq_true, slot_val]
    constructor
    · rintro ⟨n, hn, hst⟩
      obtain ⟨hlt, hbit⟩ := List.mem_filter.mp hn
      refine ⟨⟨n, mem_upto.mp hlt⟩, hbit, ?_⟩
      rw [← rail_val]
      exact of_decide_eq_true hst
    · rintro ⟨r, hbit, hst⟩
      refine ⟨r.val, List.mem_filter.mpr ⟨mem_upto.mpr r.isLt, hbit⟩, ?_⟩
      rw [rail_val]
      exact decide_eq_true hst
  unfold SlotRan
  rw [Bool.and_eq_true, Bool.and_eq_true, Bool.or_eq_true, hany, slot_val, and_assoc]

/-- The highest slot below `k` that has run comes next in a fall (R242). -/
theorem nextDown_last {k : Nat} {j : Fin 16} {s : State} (hk : j.val < k) (hj : SlotRan s j)
    (hi : ∀ i : Fin 16, i.val < k → j < i → ¬ SlotRan s i) :
    nextDown k s = { s with dom := { s.dom with cur := some j.val, ph := .downDelay } } := by
  have h : (upto 16).reverse.find? (fun j => decide (j < k) && s.dom.leftZero.getLsbD j && (s.dom.slot j).used &&
      (s.dom.ran.getLsbD j || (s.dom.slot j).railList.any (fun r => decide ((s.rail r).st ≠ .off)))) = some j.val := by
    refine find_down j.isLt ?_ fun n hij hn => ?_
    · rw [Bool.and_assoc, Bool.and_assoc, ← Bool.and_assoc (s.dom.leftZero.getLsbD j.val), (slotRan_iff s j).mpr hj, Bool.and_true]
      exact decide_eq_true hk
    · obtain ⟨i, rfl⟩ : ∃ i : Fin 16, i.val = n := ⟨⟨n, hn⟩, rfl⟩
      rw [Bool.and_assoc, Bool.and_assoc, ← Bool.and_assoc (s.dom.leftZero.getLsbD i.val)]
      by_cases hik : i.val < k
      · rw [Bool.eq_false_of_not_eq_true (mt (slotRan_iff s i).mp (hi i hik hij)), Bool.and_false]
      · rw [decide_eq_false hik, Bool.false_and]
  unfold nextDown
  rw [h]

theorem nextDown_none {k : Nat} {s : State} (h : ∀ j : Fin 16, j.val < k → ¬ SlotRan s j) : nextDown k s = endRun s := by
  have hf : (upto 16).reverse.find? (fun j => decide (j < k) && s.dom.leftZero.getLsbD j && (s.dom.slot j).used &&
      (s.dom.ran.getLsbD j || (s.dom.slot j).railList.any (fun r => decide ((s.rail r).st ≠ .off)))) = none := by
    refine List.find?_eq_none.mpr fun n hn => ?_
    obtain ⟨i, rfl⟩ : ∃ i : Fin 16, i.val = n := ⟨⟨n, mem_upto.mp (List.mem_reverse.mp hn)⟩, rfl⟩
    rw [Bool.and_assoc, Bool.and_assoc, ← Bool.and_assoc (s.dom.leftZero.getLsbD i.val)]
    by_cases hik : i.val < k
    · rw [Bool.eq_false_of_not_eq_true (mt (slotRan_iff s i).mp (h i hik)), Bool.and_false]
      decide
    · rw [decide_eq_false hik, Bool.false_and]
      decide
  unfold nextDown
  rw [hf]

/-- A run that has ended leaves the domain DOWN, or LATCHED where the fall latches (R242). -/
theorem endRun_domcore (s : State) : (endRun s).dom.core =
    if s.dom.latchPend = true then { s.dom with
      st := .latched, cur := none, ph := .idle, upWait := false, autoUp := false, restartDue := false, vinMem := false }.core
    else { s.dom with st := .down, cur := none, ph := .idle }.core := by
  unfold endRun
  dsimp only
  split
  · rw [enterLatched_domcore]
  · rw [enterDom_domcore]

/-! ## A rise and a fall begun -/

/-- What a rise makes of the domain before its first slot (R230, R231). -/
def Dom.rise (d : Dom) : Dom :=
  { d with st := .rising, slotsNow := d.slots, slotQual := 0, leftZero := 0, ran := 0, latchPend := false, cur := none, ph := .idle
           restartDue := false, vinMem := false }

/-- The state in which a rise looks for its first slot. -/
def risen (s : State) : State :=
  let s1 := mapRails (cancelRestart s) (fun _ x => { x with chatter := 0 })
  enterDom .rising { s1 with dom := { s1.dom with
    slotsNow := s1.dom.slots, slotQual := 0, leftZero := 0, ran := 0, latchPend := false, cur := none, ph := .idle } }

theorem enterRising_eq (s : State) : enterRising s = if s.undervolt then domLoseVin (risen s) else beginUp (risen s) := rfl

theorem risen_dom (s : State) : (risen s).dom = s.dom.rise := by
  unfold risen enterDom
  dsimp only
  rw [pulse_dom]
  rfl

theorem risen_rail (s : State) (r : Fin 48) : (risen s).rails[r] = { s.rails[r] with chatter := 0 } := by
  unfold risen
  dsimp only
  rw [rail_of_rails (enterDom_rails ..)]
  exact mapRails_get ..

theorem risen_running (s : State) : (risen s).proto.running = s.proto.running := by
  unfold risen
  dsimp only
  rw [enterDom_proto]
  rfl

theorem enterRising_rail (s : State) (r : Fin 48) : (enterRising s).rails[r] = { s.rails[r] with chatter := 0 } := by
  rw [enterRising_eq]
  split
  · rw [rail_of_rails (domLoseVin_rails ..), risen_rail]
  · rw [rail_of_rails (beginUp_rails ..), risen_rail]

/-- A rise in undervoltage comes to nothing (log entry 113). -/
theorem enterRising_undervolt {s : State} (h : s.undervolt = true) : (enterRising s).dom.core =
    { s.dom.rise with st := .down, vinMem := true, cycle := true, upWait := false }.core := by
  rw [enterRising_eq, if_pos h]
  unfold domLoseVin
  have hst : (risen s).dom.st = .rising := by rw [risen_dom]; rfl
  rw [if_neg (by rw [hst]; decide)]
  dsimp only
  rw [if_neg (by rw [hst]; decide), enterDom_domcore, risen_dom]
  rfl

/-- A rise that needs no cascade looks for its first slot (R230, R232). -/
theorem enterRising_slots {s : State} (hu : s.undervolt = false) (hp : s.proto.running = true)
    (hr : (s.dom.role ≠ 2 ∧ s.dom.role ≠ 3) ∨ s.dom.squi = true) : enterRising s = nextUp 0 (risen s) := by
  rw [enterRising_eq, if_neg (by rw [hu]; decide), beginUp, if_neg (by rw [risen_running, hp]; decide), if_neg]
  rw [risen_dom]
  rintro ⟨h1, h2⟩
  obtain h | h := hr
  · exact h1.elim h.1 h.2
  · exact Bool.false_ne_true (h2.symm.trans h)

/-- A rise that waits for SQUI (R235). -/
theorem enterRising_waits {s : State} (hu : s.undervolt = false) (hp : s.proto.running = true) (hr : s.dom.role = 2 ∨ s.dom.role = 3)
    (hq : s.dom.squi = false) : (enterRising s).dom = { s.dom.rise with ph := .waitSqui } := by
  rw [enterRising_eq, if_neg (by rw [hu]; decide), beginUp, if_neg (by rw [risen_running, hp]; decide), if_pos]
  · dsimp only
    rw [risen_dom]
  · rw [risen_dom]
    exact ⟨hr, hq⟩

/-- The domain as a rise begun leaves it: with no slot UP, else at its first slot (R232). -/
theorem enterRising_first {s : State} {j : Fin 16} (hu : s.undervolt = false) (hp : s.proto.running = true)
    (hr : (s.dom.role ≠ 2 ∧ s.dom.role ≠ 3) ∨ s.dom.squi = true) (hj : s.dom.slots[j].used = true)
    (hi : ∀ i : Fin 16, i < j → s.dom.slots[i].used = false) : (enterRising s).dom = { s.dom.rise with
      cur := some j.val, leftZero := 0 ||| BitVec.ofNat 16 (2 ^ j.val), ph := if gateOpen s.dom.rise j.val then .upDelay else .gate } := by
  rw [enterRising_slots hu hp hr, nextUp_first (j := j) (Nat.zero_le _) (by rw [risen_dom]; exact hj)
    (fun i _ hij => by rw [risen_dom]; exact hi i hij)]
  dsimp only
  rw [risen_dom]
  rfl

theorem enterRising_none {s : State} (hu : s.undervolt = false) (hp : s.proto.running = true)
    (hr : (s.dom.role ≠ 2 ∧ s.dom.role ≠ 3) ∨ s.dom.squi = true) (hj : ∀ j : Fin 16, s.dom.slots[j].used = false) :
    (enterRising s).dom.core = { s.dom.rise with st := .up }.core := by
  rw [enterRising_slots hu hp hr, nextUp_none (fun j _ => by rw [risen_dom]; exact hj j), enterDom_domcore]
  dsimp only
  rw [risen_dom]
  rfl

/-- The state in which a fall looks for the slot that goes down first (R242). -/
def fallen (latch : Bool) (s : State) : State :=
  let s1 := mapRails s (fun _ x => { x with qualifying := false })
  enterDom .falling { s1 with dom := { s1.dom with latchPend := latch, cur := none, ph := .idle, cycle := true } }

theorem enterFalling_eq {latch : Bool} {s : State} (h : s.dom.st = .rising ∨ s.dom.st = .up) :
    enterFalling latch s = beginDown (fallen latch s) := by
  unfold enterFalling
  rw [if_neg (by obtain h | h := h <;> rw [h] <;> decide), if_pos h]
  rfl

theorem fallen_dom (latch : Bool) (s : State) : (fallen latch s).dom =
    { s.dom with st := .falling, latchPend := latch, cur := none, ph := .idle, cycle := true } := by
  unfold fallen enterDom
  dsimp only
  rw [pulse_dom]
  rfl

theorem fallen_running (latch : Bool) (s : State) : (fallen latch s).proto.running = s.proto.running := by
  unfold fallen
  dsimp only
  rw [enterDom_proto]
  rfl

theorem fallen_rail (latch : Bool) (s : State) (r : Fin 48) : (fallen latch s).rails[r] = { s.rails[r] with qualifying := false } := by
  unfold fallen
  dsimp only
  rw [rail_of_rails (enterDom_rails ..)]
  exact mapRails_get ..

theorem slotRan_congr {s t : State} (hz : t.dom.leftZero = s.dom.leftZero) (hn : t.dom.slotsNow = s.dom.slotsNow) (hr : t.dom.ran = s.dom.ran)
    (hst : ∀ r : Fin 48, t.rails[r].st = s.rails[r].st) (j : Fin 16) : SlotRan t j ↔ SlotRan s j := by
  unfold SlotRan
  rw [hz, hn, hr]
  simp only [hst]

theorem fallen_slotRan (latch : Bool) (s : State) (j : Fin 16) : SlotRan (fallen latch s) j ↔ SlotRan s j := by
  refine slotRan_congr ?_ ?_ ?_ (fun r => ?_) j
  · rw [fallen_dom]
  · rw [fallen_dom]
  · rw [fallen_dom]
  · rw [fallen_rail]

/-- A fall without a manager waits for its start (R242). -/
theorem enterFalling_stopped {latch : Bool} {s : State} (h : s.dom.st = .rising ∨ s.dom.st = .up) (hp : s.proto.running = false) :
    (enterFalling latch s).dom = { s.dom with st := .falling, latchPend := latch, cur := none, ph := .begin, cycle := true } := by
  rw [enterFalling_eq h, beginDown, if_pos (by rw [fallen_running, hp])]
  dsimp only
  rw [fallen_dom]

/-- A fall that waits for SQDI (R235). -/
theorem enterFalling_waits {latch : Bool} {s : State} (h : s.dom.st = .rising ∨ s.dom.st = .up) (hp : s.proto.running = true)
    (hr : s.dom.role = 1 ∨ s.dom.role = 2) (hq : s.dom.sqdi = false) : (enterFalling latch s).dom =
      { s.dom with st := .falling, latchPend := latch, cur := none, ph := .waitSqdi, cycle := true } := by
  rw [enterFalling_eq h, beginDown, if_neg (by rw [fallen_running, hp]; decide), if_pos]
  · dsimp only
    rw [fallen_dom]
  · rw [fallen_dom]
    exact ⟨hr, hq⟩

theorem enterFalling_slots {latch : Bool} {s : State} (h : s.dom.st = .rising ∨ s.dom.st = .up) (hp : s.proto.running = true)
    (hr : (s.dom.role ≠ 1 ∧ s.dom.role ≠ 2) ∨ s.dom.sqdi = true) : enterFalling latch s = nextDown 16 (fallen latch s) := by
  rw [enterFalling_eq h, beginDown, if_neg (by rw [fallen_running, hp]; decide), if_neg]
  rw [fallen_dom]
  rintro ⟨h1, h2⟩
  obtain h | h := hr
  · exact h1.elim h.1 h.2
  · exact Bool.false_ne_true (h2.symm.trans h)

/-- A fall that needs no cascade is at the highest slot that has run (R242). -/
theorem enterFalling_last {latch : Bool} {s : State} {j : Fin 16} (h : s.dom.st = .rising ∨ s.dom.st = .up) (hp : s.proto.running = true)
    (hr : (s.dom.role ≠ 1 ∧ s.dom.role ≠ 2) ∨ s.dom.sqdi = true) (hj : SlotRan s j) (hi : ∀ i : Fin 16, j < i → ¬ SlotRan s i) :
    (enterFalling latch s).dom = { s.dom with st := .falling, latchPend := latch, cur := some j.val, ph := .downDelay, cycle := true } := by
  rw [enterFalling_slots h hp hr, nextDown_last (j := j) j.isLt ((fallen_slotRan ..).mpr hj)
    (fun i _ hij => mt (fallen_slotRan ..).mp (hi i hij))]
  dsimp only
  rw [fallen_dom]

/-- With no slot that has run the fall ends at once (R242). -/
theorem enterFalling_none {latch : Bool} {s : State} (h : s.dom.st = .rising ∨ s.dom.st = .up) (hp : s.proto.running = true)
    (hr : (s.dom.role ≠ 1 ∧ s.dom.role ≠ 2) ∨ s.dom.sqdi = true) (hj : ∀ j : Fin 16, ¬ SlotRan s j) :
    (enterFalling latch s).dom.core = if latch = true then { s.dom with
        st := .latched, latchPend := latch, cur := none, ph := .idle, cycle := true
        upWait := false, autoUp := false, restartDue := false, vinMem := false }.core
      else { s.dom with st := .down, latchPend := latch, cur := none, ph := .idle, cycle := true }.core := by
  rw [enterFalling_slots h hp hr, nextDown_none (fun j _ => mt (fallen_slotRan ..).mp (hj j)), endRun_domcore, fallen_dom]

end Sys2Proof.Machine
end

section
/-! PROOF. The commands of the sequencing domain (R228-R232, R242, R255-R258, R261). -/

namespace Sys2Proof.Machine

/-! ## Sets of rails as numbers -/

theorem natBit_eq_testBit (n k : Nat) : natBit n k = n.testBit k := by
  rw [Nat.testBit_eq_decide_div_mod_eq]
  exact rfl

/-- The number whose bits are the members of a set below `m`. -/
theorem testBit_foldl (p : Nat → Bool) (m : Nat) : (upto m).foldl (fun a r => if p r then a + 2 ^ r else a) 0 < 2 ^ m ∧
    ∀ r : Nat, ((upto m).foldl (fun a r => if p r then a + 2 ^ r else a) 0).testBit r = (decide (r < m) && p r) := by
  induction m with
  | zero => exact ⟨by simp [upto], fun r => by simp [upto]⟩
  | succ m ih =>
    obtain ⟨hlt, hbit⟩ := ih
    have hs : (upto (m + 1)).foldl (fun a r => if p r then a + 2 ^ r else a) 0 =
        if p m then (upto m).foldl (fun a r => if p r then a + 2 ^ r else a) 0 + 2 ^ m
        else (upto m).foldl (fun a r => if p r then a + 2 ^ r else a) 0 := by
      simp [upto, List.range_succ, List.foldl_append]
    rw [hs]
    generalize (upto m).foldl (fun a r => if p r then a + 2 ^ r else a) 0 = F at hlt hbit
    by_cases hp : p m = true
    · rw [if_pos hp]
      refine ⟨by rw [Nat.pow_succ]; omega, fun r => ?_⟩
      have hor : 2 ^ m + F = 2 ^ m ||| F := by simpa using Nat.two_pow_add_eq_or_of_lt hlt 1
      rw [Nat.add_comm, hor, Nat.testBit_or, hbit, Nat.testBit_two_pow]
      by_cases hr : r = m
      · subst hr
        simp [hp]
      · have hne : ¬ m = r := fun h => hr h.symm
        have hiff : (r < m + 1) ↔ r < m := by omega
        simp [hne, hiff]
    · rw [if_neg hp]
      refine ⟨by rw [Nat.pow_succ]; omega, fun r => ?_⟩
      rw [hbit]
      by_cases hr : r = m
      · subst hr
        simp [hp]
      · have hiff : (r < m + 1) ↔ r < m := by omega
        simp [hiff]

theorem get16 {α : Type} (v : Vector α 16) (j : Fin 16) : v[Fin.ofNat 16 j.val] = v[j] := by
  congr 1
  exact Fin.ext (Nat.mod_eq_of_lt j.isLt)

/-- The rails that another USED slot names (R228). -/
theorem natBit_namedElsewhere (s : State) (k : Fin 16) {r : Nat} (hr : r < 48) : natBit (namedElsewhere s k.val) r = true ↔
    ∃ j : Fin 16, j ≠ k ∧ s.dom.slots[j].used = true ∧ natBit s.dom.slots[j].rails r = true := by
  rw [natBit_eq_testBit, namedElsewhere, (testBit_foldl _ 48).2, decide_eq_true hr, Bool.true_and, List.any_eq_true]
  constructor
  · rintro ⟨n, hn, h⟩
    obtain ⟨j, rfl⟩ : ∃ j : Fin 16, j.val = n := ⟨⟨n, mem_upto.mp hn⟩, rfl⟩
    rw [get16, Bool.and_eq_true, Bool.and_eq_true, decide_eq_true_eq] at h
    exact ⟨j, fun e => h.1.1 (congrArg Fin.val e), h.1.2, h.2⟩
  · rintro ⟨j, hjk, hu, hb⟩
    refine ⟨j.val, mem_upto.mpr j.isLt, ?_⟩
    rw [get16, hu, hb, Bool.and_true, Bool.and_true]
    exact decide_eq_true fun e => hjk (Fin.ext e)

/-! ## The slot record -/

/-- The slot as it is written (R228). -/
def slotWritten (q : Req) (s : State) (k : Nat) : Slot :=
  { slotOfBytes (q.params.drop 4) with
    rails := Nat.xor (fieldAt q.params 4 6) (Nat.land (fieldAt q.params 4 6) (namedElsewhere s k)) }

theorem slotWritten_rails (q : Req) (s : State) (k : Fin 16) {r : Nat} (hr : r < 48) : natBit (slotWritten q s k.val).rails r = true ↔
    natBit (fieldAt q.params 4 6) r = true ∧ ∀ j : Fin 16, j ≠ k → s.dom.slots[j].used = true → natBit s.dom.slots[j].rails r = false := by
  have hx : natBit (slotWritten q s k.val).rails r =
      (natBit (fieldAt q.params 4 6) r ^^ (natBit (fieldAt q.params 4 6) r && natBit (namedElsewhere s k.val) r)) := by
    simp only [natBit_eq_testBit]
    exact (Nat.testBit_xor ..).trans (by rw [show Nat.land = HAnd.hAnd from rfl, Nat.testBit_and])
  have hn := natBit_namedElsewhere s k hr
  rw [hx]
  cases hb : natBit (fieldAt q.params 4 6) r with
  | false => simp
  | true =>
    rw [Bool.true_and, Bool.true_xor, Bool.not_eq_true', ← Bool.not_eq_true, hn]
    simp only [true_and, not_exists, not_and, Bool.not_eq_true]

theorem domIdle_iff {s : State} : domIdle s = true ↔ s.dom.st = .down ∨ s.dom.st = .latched := by
  simp [domIdle]

theorem domIdle_false {s : State} (h1 : s.dom.st ≠ .down) (h2 : s.dom.st ≠ .latched) : domIdle s = false :=
  Bool.eq_false_of_not_eq_true fun h => (domIdle_iff.mp h).elim h1 h2

theorem seqSlotSetOp_run {q : Req} {s : State} {k : Fin 16} (hk : byteAt q.params 0 = k.val) (h : domIdle s = true) :
    seqSlotSetOp.run q s = ({ s with dom := { s.dom with slots := upd s.dom.slots k (slotWritten q s k.val) } },
      .reply (if Nat.land (fieldAt q.params 4 6) (namedElsewhere s k.val) = 0 then .done else .doneWithNote)
        (leBytes 8 (Nat.land (fieldAt q.params 4 6) (namedElsewhere s k.val)))) := by
  have hj : Fin.ofNat 16 k.val = k := Fin.ext (Nat.mod_eq_of_lt k.isLt)
  have hf : fieldAt (q.params.drop 4) 0 6 = fieldAt q.params 4 6 := fieldAt_drop ..
  unfold seqSlotSetOp
  dsimp only
  rw [if_pos h, hk]
  unfold writeSlot doneOr
  dsimp only
  rw [hj, show (slotOfBytes (q.params.drop 4)).rails = fieldAt q.params 4 6 from hf]
  by_cases hz : Nat.land (fieldAt q.params 4 6) (namedElsewhere s k.val) = 0
  · rw [if_pos hz, if_neg (mt of_decide_eq_true (not_not.mpr hz))]
    rfl
  · rw [if_neg hz, if_pos (decide_eq_true hz)]
    rfl

theorem seqSlotSetOp_paramCheck {q : Req} (hl : q.params.length = 28) (hk : byteAt q.params 0 < 16) : seqSlotSetOp.paramCheck 2 q.params = none := by
  refine fixed_paramCheck (n := 28) (by decide) (by decide) rfl hl ?_
  have hok : fieldAt q.params 0 1 ≤ 15 := by
    rw [fieldAt_one]
    omega
  simp [seqSlotSetOp, firstBad, hok]

/-! ## Refusals and the other commands -/

theorem refuseDom_arrived (q : Req) (s : State) : refuseDom (arrived q s) = (arrived q s, .reply .refusedState [3, byte s.dom.st.code, 0xFF, 0]) := by
  unfold refuseDom refuse
  rw [arrived_dom]
  rfl

theorem badSlotRail_congr {s t : State} (hm : t.map = s.map) (hd : t.dom = s.dom) : badSlotRail t = badSlotRail s := by
  unfold badSlotRail
  rw [hm, hd]

theorem outranked_false {s : State} (h : s.dom.cycle = false) : outranked s = false := by
  unfold outranked
  rw [h, Bool.false_and]

theorem domainUpOp_rises {q : Req} {s : State} (hp : s.map.probe ≠ .running) (hst : s.dom.st = .down) (hsrc : s.dom.upSrc ≠ 1)
    (hb : badSlotRail s = none) (h1 : s.seam.agree ≠ .gathering) (h2 : s.seam.agree ≠ .disagree) (hc : s.dom.cycle = false) :
    domainUpOp.run q s = (enterRising s, .reply .started []) := by
  unfold domainUpOp
  dsimp only
  rw [if_neg hp, if_neg (not_or.mpr ⟨not_not.mpr hst, hsrc⟩), hb, outranked_false hc]
  cases ha : s.seam.agree with
  | gathering => exact absurd ha h1
  | disagree => exact absurd ha h2
  | alone => rfl
  | agreed => rfl

theorem domainUpOp_refuses {q : Req} {s : State} (hp : s.map.probe ≠ .running) (h : s.dom.st ≠ .down ∨ s.dom.upSrc = 1) :
    domainUpOp.run q s = refuseDom s := by
  unfold domainUpOp
  dsimp only
  rw [if_neg hp, if_pos h]

/-- A latch released (R255, R261): every rail LATCHED_OFF is OFF. -/
def released (s : State) : State :=
  let s1 := mapRails s (fun _ x => if x.st = .latchedOff then { x with st := .off, offFrom := some .latchedOff } else x)
  { s1 with dom := { s1.dom with latchPend := false } }

/-- The state in which the domain is DOWN with its latch released. -/
def releasedDown (s : State) : State := if s.dom.st = .latched then enterDom .down (released s) else released s

theorem releasedDown_st {s : State} (h : domIdle s = true) : (releasedDown s).dom.st = .down := by
  unfold releasedDown
  by_cases hst : s.dom.st = .latched
  · rw [if_pos hst, enterDom_st]
  · rw [if_neg hst]
    exact (domIdle_iff.mp h).resolve_right hst

theorem latchReleaseOp_releases {q : Req} {s : State} (h : domIdle s = true) (hf : s.dom.fnLow = false) (hc : allCellsOff s = true) :
    latchReleaseOp.run q s = (releasedDown s, .reply .done [0]) := by
  have hrun : latchReleaseOp.run q s = done (releasedDown s) [byte (releasedDown s).dom.st.code] := by
    unfold latchReleaseOp
    dsimp only
    rw [if_neg (by simp [h, hf]), if_neg (by simp [hc])]
    rfl
  rw [hrun, releasedDown_st h]
  rfl

theorem released_rail (s : State) (r : Fin 48) : (released s).rails[r] =
    if s.rails[r].st = .latchedOff then { s.rails[r] with st := .off, offFrom := some .latchedOff } else s.rails[r] := mapRails_get ..

/-! ## What a rise and a fall keep -/

/-- The records of the slots that run, and what a rise clears at once (R230). -/
def Dom.riseKeeps (d : Dom) : Vector Slot 16 × BitVec 16 × Bool × Bool := (d.slotsNow, d.slotQual, d.restartDue, d.latchPend)

theorem nextUp_riseKeeps (k : Nat) (s : State) : (nextUp k s).dom.riseKeeps = s.dom.riseKeeps := by
  unfold nextUp
  split
  · rfl
  · exact Dom.get (enterDom_domcore ..) Dom.riseKeeps (fun _ => rfl)

theorem enterRising_riseKeeps (s : State) : (enterRising s).dom.riseKeeps = (s.dom.slots, 0, false, false) := by
  by_cases hu : s.undervolt = true
  · exact Dom.get (enterRising_undervolt hu) Dom.riseKeeps (fun _ => rfl)
  · have hr : (risen s).dom.riseKeeps = (s.dom.slots, 0, false, false) := by rw [risen_dom]; rfl
    rw [enterRising_eq, if_neg hu, beginUp]
    split
    · exact hr
    · split
      · exact hr
      · rw [nextUp_riseKeeps, hr]

/-- What no fall changes of the slots' records (R242). -/
def Dom.records (d : Dom) : Vector Slot 16 × Vector Slot 16 := (d.slots, d.slotsNow)

theorem nextDown_records (k : Nat) (s : State) : (nextDown k s).dom.records = s.dom.records ∧
    (s.dom.restartDue = false → (nextDown k s).dom.restartDue = false) := by
  unfold nextDown
  split
  · exact ⟨rfl, id⟩
  · have h := endRun_domcore s
    by_cases hl : s.dom.latchPend = true
    · rw [if_pos hl] at h
      exact ⟨Dom.get h Dom.records (fun _ => rfl), fun _ => Dom.get h Dom.restartDue (fun _ => rfl)⟩
    · rw [if_neg hl] at h
      exact ⟨Dom.get h Dom.records (fun _ => rfl), fun hd => (Dom.get h Dom.restartDue (fun _ => rfl)).trans hd⟩

theorem enterFalling_records {latch : Bool} {s : State} (h : s.dom.st = .rising ∨ s.dom.st = .up) :
    (enterFalling latch s).dom.records = s.dom.records ∧ (s.dom.restartDue = false → (enterFalling latch s).dom.restartDue = false) := by
  have hf : (fallen latch s).dom.records = s.dom.records ∧ (fallen latch s).dom.restartDue = s.dom.restartDue := by
    rw [fallen_dom]
    exact ⟨rfl, rfl⟩
  rw [enterFalling_eq h, beginDown]
  split
  · exact ⟨hf.1, hf.2.trans⟩
  · split
    · exact ⟨hf.1, hf.2.trans⟩
    · obtain ⟨h1, h2⟩ := nextDown_records 16 (fallen latch s)
      exact ⟨h1.trans hf.1, fun hd => h2 (hf.2.trans hd)⟩

theorem nil_paramCheck {o : OpSpec} {p : List Byte} (h : p = []) (hv : o.v ≤ 2) (ho : o.plen = .fixed 0)
    (hb : o.bad = fun _ _ => none) : o.paramCheck 2 p = none :=
  fixed_paramCheck (by decide) hv ho (congrArg List.length h) (by rw [hb])

/-- Settles O33: each command is its handler on the state as the command arrives, and a rise or a fall begun is known by its first slot. -/
theorem domainCommandsTakeEffect : Obligations.DomainCommandsTakeEffect := by
  intro q s
  refine ⟨fun k hr hl hk hst => ?_, fun hr hl hk h1 h2 => ?_, fun hr hp hst hsrc hprobe hbad hg hd hc => ?_, fun hr hp hprobe => ?_,
    fun hr hp hprobe hst => ?_, fun hr hp hst hsrc => ?_, fun hr hp hst => ?_, fun hr hp hst hfn hoff => ?_, fun hr hp hst => ?_,
    fun hr hl hst => ?_⟩
  case refine_1 =>
    have hn : namedElsewhere (arrived q s) k.val = namedElsewhere s k.val := by
      unfold namedElsewhere
      rw [arrived_dom]
    have hidle : domIdle (arrived q s) = true := domIdle_iff.mpr (by rw [arrived_dom]; exact hst)
    have hw : slotWritten q (arrived q s) k.val = slotWritten q s k.val := by
      unfold slotWritten
      rw [hn]
    have hself := upd_self s.dom.slots k (slotWritten q s k.val)
    have hrun := seqSlotSetOp_run (s := arrived q s) hk hidle
    rw [hn, hw, arrived_dom] at hrun
    refine completes_of_reply rfl hr (seqSlotSetOp_paramCheck hl (by omega)) hrun (by rw [arrived_proto]; exact hr.empty) ?_
    dsimp only
    rw [hself]
    refine ⟨rfl, fieldAt_drop .., fieldAt_drop .., fieldAt_drop .., fieldAt_drop .., ?_, ?_, fieldAt_drop .., fun r hr => slotWritten_rails q s k hr,
      fun j hj => upd_other _ _ _ _ hj.symm⟩
    · exact congrArg (natBit · 0) (byteAt_drop q.params 4 16)
    · exact congrArg (· / 2 % 8) (byteAt_drop q.params 4 16)
  case refine_2 =>
    refine completes_of_reply rfl hr (seqSlotSetOp_paramCheck hl hk) (t := arrived q s) ?_ (by rw [arrived_proto]; exact hr.empty) rfl
    rw [← refuseDom_arrived]
    exact if_neg (by rw [domIdle_false (by rw [arrived_dom]; exact h1) (by rw [arrived_dom]; exact h2)]; decide)
  case refine_3 =>
    have hrun := domainUpOp_rises (q := q) (s := arrived q s) (by rwa [arrived_map]) (by rwa [arrived_dom]) (by rwa [arrived_dom])
      (by rwa [badSlotRail_congr (arrived_map ..) (arrived_dom ..)]) (by rwa [arrived_seam]) (by rwa [arrived_seam]) (by rwa [arrived_dom])
    have hu : (arrived q s).undervolt = s.undervolt := by
      unfold State.undervolt
      rw [arrived_land, arrived_therm]
    have hpr : (arrived q s).proto.running = true := by rw [arrived_proto, hr.running]
    refine completes_of_reply rfl hr (nil_paramCheck hp (by decide) rfl rfl) hrun
      (by rw [enterRising_proto, arrived_proto]; exact hr.empty) ?_
    have hdom : (arrived q s).dom = s.dom := arrived_dom ..
    obtain ⟨h1, h2, h3, h4⟩ : (enterRising (arrived q s)).dom.slotsNow = s.dom.slots ∧ (enterRising (arrived q s)).dom.slotQual = 0 ∧
        (enterRising (arrived q s)).dom.restartDue = false ∧ (enterRising (arrived q s)).dom.latchPend = false := by
      simpa [Dom.riseKeeps, hdom] using enterRising_riseKeeps (arrived q s)
    refine ⟨h1, h2, h3, h4, by rw [enterRising_cells, arrived_cells], fun r => by rw [enterRising_rail, arrived_rails], fun hv => ?_,
      fun hv => ⟨fun hrole hq => ?_, fun hr2 hr3 hno => ?_, fun j hr2 hr3 hj hi => ?_⟩⟩
    · have h := enterRising_undervolt (hu.trans hv)
      exact ⟨Dom.get h Dom.st (fun _ => rfl), Dom.get h Dom.cur (fun _ => rfl), Dom.get h Dom.ph (fun _ => rfl)⟩
    · rw [enterRising_waits (hu.trans hv) hpr (by rwa [hdom]) (by rwa [hdom])]
      exact ⟨rfl, rfl, rfl⟩
    · have h := enterRising_none (hu.trans hv) hpr (.inl (by rw [hdom]; exact ⟨hr2, hr3⟩)) (by rwa [hdom])
      exact ⟨Dom.get h Dom.st (fun _ => rfl), Dom.get h Dom.ph (fun _ => rfl), Dom.get h Dom.cur (fun _ => rfl)⟩
    · rw [enterRising_first (j := j) (hu.trans hv) hpr (.inl (by rw [hdom]; exact ⟨hr2, hr3⟩)) (by rwa [hdom]) (by rwa [hdom])]
      refine ⟨rfl, rfl, fun hg => if_pos ?_⟩
      rw [hdom]
      unfold gateOpen
      rw [slot_val]
      dsimp only [Dom.rise]
      rw [hg]
      rfl
  case refine_4 =>
    refine completes_of_reply rfl hr (nil_paramCheck hp (by decide) rfl rfl) (t := arrived q s) ?_
      (by rw [arrived_proto]; exact hr.empty) rfl
    unfold domainUpOp
    dsimp only
    rw [arrived_map, if_pos hprobe]
    unfold mapCode
    rw [arrived_map]
    rfl
  case refine_5 =>
    refine completes_of_reply rfl hr (nil_paramCheck hp (by decide) rfl rfl) (t := arrived q s) ?_
      (by rw [arrived_proto]; exact hr.empty) rfl
    rw [← refuseDom_arrived, domainUpOp_refuses (by rwa [arrived_map]) (by rwa [arrived_dom])]
  case refine_6 =>
    have hdom : (cancelRestart (arrived q s)).dom = { s.dom with restartDue := false, vinMem := false } := by
      unfold cancelRestart
      rw [arrived_dom]
    have hst' : (cancelRestart (arrived q s)).dom.st = .rising ∨ (cancelRestart (arrived q s)).dom.st = .up := by rwa [hdom]
    have hpr : (cancelRestart (arrived q s)).proto.running = true := (congrArg Proto.running (arrived_proto q s)).trans hr.running
    have hran : ∀ j, SlotRan (cancelRestart (arrived q s)) j ↔ SlotRan s j :=
      slotRan_congr (by rw [hdom]) (by rw [hdom]) (by rw [hdom]) (fun r => congrArg Rail.st (rail_of_rails (arrived_rails q s) r))
    obtain ⟨hrec, hdue⟩ := enterFalling_records (latch := false) hst'
    rw [hdom] at hrec hdue
    have hgo : ((arrived q s).dom.st = .rising ∨ (arrived q s).dom.st = .up) ∧ (arrived q s).dom.upSrc ≠ 1 := by
      rw [arrived_dom]
      exact ⟨hst, hsrc⟩
    refine completes_of_reply (o := domainDownOp) rfl hr (nil_paramCheck hp (by decide) rfl rfl)
      (t := enterFalling false (cancelRestart (arrived q s))) (if_pos hgo) (by rw [enterFalling_proto]; exact (congrArg Proto.waiting (arrived_proto q s)).trans hr.empty) ?_
    refine ⟨?_, hdue rfl, congrArg Prod.fst hrec, congrArg Prod.snd hrec, fun hrole hq => ?_, fun h1 h2 hno => ?_, fun j h1 h2 hj hi => ?_⟩
    · rw [enterFalling_cells]
      exact arrived_cells ..
    · rw [enterFalling_waits hst' hpr (by rwa [hdom]) (by rwa [hdom])]
      exact ⟨rfl, rfl, rfl⟩
    · have h := enterFalling_none (latch := false) hst' hpr (.inl (by rw [hdom]; exact ⟨h1, h2⟩)) (fun j => mt (hran j).mp (hno j))
      rw [if_neg (by decide)] at h
      exact ⟨Dom.get h Dom.st (fun _ => rfl), Dom.get h Dom.ph (fun _ => rfl), Dom.get h Dom.cur (fun _ => rfl)⟩
    · rw [enterFalling_last (j := j) hst' hpr (.inl (by rw [hdom]; exact ⟨h1, h2⟩)) ((hran j).mpr hj) (fun i hij => mt (hran i).mp (hi i hij))]
      exact ⟨rfl, rfl, rfl⟩
  case refine_7 =>
    refine completes_of_reply rfl hr (nil_paramCheck hp (by decide) rfl rfl) (t := arrived q s) ?_
      (by rw [arrived_proto]; exact hr.empty) rfl
    rw [← refuseDom_arrived]
    refine if_neg ?_
    rw [arrived_dom]
    rintro ⟨h1, h2⟩
    exact hst.elim (fun h => h1.elim h.1 h.2) (fun h => h2 h)
  case refine_8 =>
    have hidle : domIdle (arrived q s) = true := domIdle_iff.mpr (by rw [arrived_dom]; exact hst)
    have hcells : allCellsOff (arrived q s) = true := by
      unfold allCellsOff
      simp only [cell_congr (arrived_cells q s)]
      exact hoff
    have hrun := latchReleaseOp_releases (q := q) hidle (by rwa [arrived_dom]) hcells
    refine completes_of_reply rfl hr (nil_paramCheck hp (by decide) rfl rfl) hrun ?_ ⟨releasedDown_st hidle, ?_, ?_, fun r => ?_⟩
    · unfold releasedDown
      rw [ite_proto, enterDom_proto, ite_self]
      exact (congrArg Proto.waiting (arrived_proto q s)).trans hr.empty
    · unfold releasedDown
      split
      · exact Dom.get (enterDom_domcore ..) Dom.latchPend (fun _ => rfl)
      · rfl
    · unfold releasedDown
      rw [ite_cells, enterDom_cells, ite_self]
      exact arrived_cells ..
    · have hrails : (releasedDown (arrived q s)).rails = (released (arrived q s)).rails := by
        unfold releasedDown
        rw [ite_rails, enterDom_rails, ite_self]
      rw [rail_of_rails hrails, released_rail, arrived_rails]
  case refine_9 =>
    refine completes_of_reply rfl hr (nil_paramCheck hp (by decide) rfl rfl) (t := arrived q s) ?_
      (by rw [arrived_proto]; exact hr.empty) rfl
    rw [← refuseDom_arrived]
    refine if_pos ?_
    rw [arrived_dom]
    exact hst.imp_left (fun h => domIdle_false (by rw [arrived_dom]; exact h.1) (by rw [arrived_dom]; exact h.2))
  case refine_10 =>
    have hidle : domIdle (arrived q s) = true := domIdle_iff.mpr (by rw [arrived_dom]; exact hst)
    refine completes_of_reply rfl hr (fixed_paramCheck (o := domainConfigOp) (n := 16) (by decide) (by decide) rfl hl rfl)
      (t := { arrived q s with dom := domConfig q.params (arrived q s).dom }) (if_pos hidle) (by rw [arrived_proto]; exact hr.empty) ?_
    rw [arrived_dom]
    refine ⟨rfl, rfl, fun n => ?_⟩
    match n with
    | 0 | 1 | 2 | 3 | 4 | 5 | 6 | 7 => rfl

end Sys2Proof.Machine
end

section
/-! PROOF. The progress of a slot: its rails started, qualified, stopped and turned off (R228, R232-R235, R242). -/

namespace Sys2Proof.Machine

/-! ## What is done to one rail after another -/

/-- An operation on each rail of a list, each changing its rail alone. -/
theorem foldl_eachRail {f : State → Nat → State} {P : State → Prop} {Q : Fin 48 → Rail → Rail → Prop} {L : List Nat}
    (hstep : ∀ (r : Fin 48) (t : State), r.val ∈ L → P t →
      P (f t r.val) ∧ (∀ k : Fin 48, k ≠ r → (f t r.val).rails[k] = t.rails[k]) ∧ Q r t.rails[r] (f t r.val).rails[r])
    (l : List Nat) (hl : ∀ n ∈ l, n < 48 ∧ n ∈ L) (hd : l.Nodup) (t : State) (h : P t) :
    P (l.foldl f t) ∧ ∀ k : Fin 48, (k.val ∉ l → (l.foldl f t).rails[k] = t.rails[k]) ∧ (k.val ∈ l → Q k t.rails[k] (l.foldl f t).rails[k]) := by
  induction l generalizing t with
  | nil => exact ⟨h, fun k => ⟨fun _ => rfl, fun hk => absurd hk List.not_mem_nil⟩⟩
  | cons n l ih =>
    obtain ⟨hn48, hnL⟩ := hl n List.mem_cons_self
    obtain ⟨r, rfl⟩ : ∃ r : Fin 48, r.val = n := ⟨⟨n, hn48⟩, rfl⟩
    obtain ⟨hnl, hd'⟩ := List.nodup_cons.mp hd
    obtain ⟨hP, hother, hself⟩ := hstep r t hnL h
    obtain ⟨hP', hrails⟩ := ih (fun m hm => hl m (List.mem_cons_of_mem _ hm)) hd' (f t r.val) hP
    refine ⟨hP', fun k => ⟨fun hk => ?_, fun hk => ?_⟩⟩
    · obtain ⟨hkr, hkl⟩ := not_or.mp (mt List.mem_cons.mpr hk)
      rw [List.foldl_cons, (hrails k).1 hkl, hother k fun e => hkr (congrArg Fin.val e)]
    · rw [List.foldl_cons]
      by_cases hkr : k = r
      · subst hkr
        rw [(hrails k).1 hnl]
        exact hself
      · have hkl : k.val ∈ l := (List.mem_cons.mp hk).resolve_left fun e => hkr (Fin.ext e)
        rw [← hother k hkr]
        exact (hrails k).2 hkl

theorem railList_mem {d : Dom} {k : Fin 16} {n : Nat} : n ∈ (d.slot k.val).railList ↔ n < 48 ∧ natBit d.slotsNow[k].rails n = true := by
  unfold Slot.railList
  rw [List.mem_filter, mem_upto, slot_val]

theorem railList_nodup (x : Slot) : x.railList.Nodup := List.nodup_range.filter _

theorem railList_nil {d : Dom} {k : Fin 16} (h : ∀ r : Fin 48, natBit d.slotsNow[k].rails r.val = false) : (d.slot k.val).railList = [] := by
  refine List.eq_nil_iff_forall_not_mem.mpr fun n hn => ?_
  obtain ⟨hlt, hb⟩ := railList_mem.mp hn
  exact Bool.false_ne_true ((h ⟨n, hlt⟩).symm.trans hb)

theorem railList_all {d : Dom} {k : Fin 16} {p : Nat → Bool} :
    (d.slot k.val).railList.all p = true ↔ ∀ r : Fin 48, natBit d.slotsNow[k].rails r.val = true → p r.val = true := by
  rw [List.all_eq_true]
  exact ⟨fun h r hr => h r.val (railList_mem.mpr ⟨r.isLt, hr⟩), fun h n hn => h ⟨n, (railList_mem.mp hn).1⟩ (railList_mem.mp hn).2⟩

/-! ## The rails of a slot start -/

theorem assignRoles_cellSt (s : State) (r lead : Nat) (order : List Nat) (c : Fin 256) : (assignRoles s r lead order).cells[c].st = s.cells[c].st := by
  unfold assignRoles
  dsimp only
  rw [mapCells_get]
  split
  · split
    · rfl
    · split <;> rfl
  · rfl

theorem changeMembers_cellSt {s : State} {r : Nat} {f : Nat → Cell → Cell} (hf : ∀ n c, (f n c).st = c.st) (c : Fin 256) :
    (changeMembers s r f).cells[c].st = s.cells[c].st := by
  rw [changeMembers_get]
  split
  · rfl
  · split
    · exact hf ..
    · rfl

theorem beginRail_cellSt (r : Nat) (s : State) (c : Fin 256) : (beginRail r s).cells[c].st = s.cells[c].st := by
  unfold beginRail
  split
  · rw [pgEvent_cells, modRail_cells]
  · next lead h =>
    dsimp only
    have hcells : ∀ (b : Bool) (t : State), (if b = true then spurEval t else t).cells = t.cells := fun b t => by
      split
      · exact spurEval_cells t
      · rfl
    rw [hcells, modRail_cells, changeMembers_cellSt, assignRoles_cellSt]
    exact fun _ _ => rfl

/-- A rail at the start of its start: its reference at its start target, not supervised (R114). -/
theorem beginRail_loop {r : Fin 48} {s : State} {lead : Nat} (h : startLeader s r.val = some lead) :
    RailIs r s (beginRail r.val s) (fun x => x.st = .starting ∧ x.supervised = false ∧ x.loop.ref = s.rails[r].sp.start * 65536) := by
  unfold beginRail
  rw [h]
  dsimp only
  split
  · refine RailIs.congr (railIs_modRail ?_ ?_) (spurEval_rails _)
    · rw [changeMembers_rails, assignRoles_rails]
    · exact ⟨rfl, rfl, rfl⟩
  · refine railIs_modRail ?_ ?_
    · rw [changeMembers_rails, assignRoles_rails]
    · exact ⟨rfl, rfl, rfl⟩

theorem startLeader_congr {s t : State} (hm : t.map = s.map) (hc : ∀ c : Fin 256, t.cells[c].st = s.cells[c].st) (r : Nat) :
    startLeader t r = startLeader s r := by
  have hh : ∀ n, (t.cell n).healthy = (s.cell n).healthy := fun n => by
    unfold Cell.healthy State.cell
    rw [hc]
  unfold startLeader
  simp only [members_congr hm, hh, State.entry, hm]

/-- What the start of a rail leaves for the start of the next. -/
structure Startable (s t : State) : Prop where
  powered : t.undervolt = false
  map : t.map = s.map
  dom : t.dom = s.dom
  cells : ∀ c : Fin 256, t.cells[c].st = s.cells[c].st

theorem Startable.startRail {s t : State} {r : Fin 48} (h : Startable s t) (hl : startLeader s r.val ≠ none) :
    Startable s (startRail r.val t) ∧ RailIs r t (Machine.startRail r.val t) (fun x => x.st = .starting ∧ x.supervised = false ∧
      x.loop.ref = t.rails[r].sp.start * 65536) := by
  rw [startRail_powered h.powered]
  obtain ⟨lead, hlead⟩ : ∃ lead, startLeader t r.val = some lead := by
    rw [startLeader_congr h.map h.cells]
    exact Option.ne_none_iff_exists'.mp hl
  refine ⟨⟨?_, ?_, ?_, fun c => ?_⟩, beginRail_loop hlead⟩
  · unfold State.undervolt
    rw [beginRail_land, beginRail_therm]
    exact h.powered
  · rw [beginRail_map, h.map]
  · rw [beginRail_dom, h.dom]
  · rw [beginRail_cellSt, h.cells]

/-! ## The rails of a slot stop -/

/-- What a stop makes of a rail's state (R117, R118). -/
def Rail.stopped (x : Rail) : RailSt :=
  if x.st.runs = true then (if x.st = .starting ∧ x.released = false then .off else .stopping) else x.st

theorem stopRail_is (r : Fin 48) (imm : Bool) (s : State) : RailIs r s (stopRail r.val imm s) (fun x => x.st = s.rails[r].stopped) := by
  have habandon := abandonRail_is r s
  unfold stopRail
  dsimp only
  rw [rail_val]
  have hsend : ∀ f : Nat → Cell → Cell, RailIs r s (sendPhase r.val s.rails[r].ph (modRail (changeMembers s r.val f) (fin48 r.val) (fun y =>
      let z := y.leave .stopping
      if imm || s.rails[r].loop.coef.stopImm then z else { z with loop := { z.loop with dem := true, demLeft := 0 } })))
      (fun x => x.st = .stopping) := by
    refine fun f => RailIs.sendPhase (railIs_modRail (changeMembers_rails ..) ?_) _ (fun _ _ h => h)
    dsimp only
    split <;> rfl
  have hkeep : ∀ {t : State} {x : RailSt}, t.rails = s.rails → s.rails[r].st = x → RailIs r s t (fun y => y.st = x) :=
    fun ht hx => ⟨fun k _ => by rw [ht], by rw [ht]; exact hx⟩
  have hto : ∀ {x : RailSt} {n : State}, s.rails[r].stopped = x → RailIs r s n (fun y => y.st = x) →
      RailIs r s n (fun y => y.st = s.rails[r].stopped) := fun hx h => by rw [hx]; exact h
  cases hst : s.rails[r].st with
  | off => exact hto (by simp only [Rail.stopped, hst]; rfl) (hkeep rfl hst)
  | latchedOff => exact hto (by simp only [Rail.stopped, hst]; rfl) (hkeep rfl hst)
  | stopping =>
    refine hto (by simp only [Rail.stopped, hst]; rfl) ?_
    dsimp only
    split
    · exact hkeep (changeMembers_rails ..) hst
    · exact hkeep rfl hst
  | starting =>
    dsimp only
    by_cases hrel : s.rails[r].released = false
    · rw [if_pos ⟨rfl, hrel⟩]
      exact hto (by simp only [Rail.stopped, hst, hrel]; rfl) habandon
    · rw [if_neg (fun h => hrel h.2)]
      exact hto (by simp only [Rail.stopped, hst, hrel, and_false]; rfl) (hsend _)
  | regulating =>
    dsimp only
    rw [if_neg (fun h => RailSt.noConfusion h.1)]
    exact hto (by simp only [Rail.stopped, hst]; rfl) (hsend _)
  | slewing =>
    dsimp only
    rw [if_neg (fun h => RailSt.noConfusion h.1)]
    exact hto (by simp only [Rail.stopped, hst]; rfl) (hsend _)

/-! ## The happenings of a slot -/

theorem mapRails_id {s : State} {f : Nat → Rail → Rail} (h : ∀ r : Fin 48, f r.val s.rails[r] = s.rails[r]) : mapRails s f = s := by
  have hr : (mapRails s f).rails = s.rails := Vector.ext fun k hk => (mapRails_get s f ⟨k, hk⟩).trans (h ⟨k, hk⟩)
  calc mapRails s f = { s with rails := (mapRails s f).rails } := rfl
    _ = s := by rw [hr]

section
variable {s : State} {k : Fin 16} (hcur : s.dom.cur = some k.val) (hrun : s.proto.running = true)
include hcur hrun

theorem exec_upDelayEnd (h : s.dom.ph = .upDelay) : exec .upDelayEnd s = .next (startSlot k.val s) := by
  have hx : exec .upDelayEnd s = execUpDelayEnd s := rfl
  rw [hx, execUpDelayEnd, h, hcur]
  exact congrArg Host.Outcome.next (if_pos hrun)

/-- The rails of a slot qualified are supervised, and the slot counts (R233). -/
def qualifiedSlot (k : Nat) (s : State) : State :=
  let s1 := mapRails s (fun n x =>
    if natBit (s.dom.slot k).rails n then { x with qualifying := false, supervised := true, fallSeen := false } else x)
  { s1 with dom := { s1.dom with slotQual := s1.dom.slotQual ||| BitVec.ofNat 16 (2 ^ k) } }

theorem exec_slotQualified (h : s.dom.ph = .qualify) : exec .slotQualified s =
    .next (if (s.dom.slot k.val).railList.all (fun r => (s.rail r).pgRaw) = true then nextUp (k.val + 1) (qualifiedSlot k.val s) else s) := by
  have hx : exec .slotQualified s = execSlotQualified s := rfl
  rw [hx, execSlotQualified, h, hcur]
  simp only [hrun, true_and]
  rfl

theorem exec_slotTimeout : exec .slotTimeout s = .next (failStart k.val s) := by
  have hx : exec .slotTimeout s = execSlotTimeout s := rfl
  rw [hx, execSlotTimeout, hcur]
  unfold failStart
  simp only [hrun, true_and]
  split <;> rfl

theorem exec_downDelayEnd (h : s.dom.ph = .downDelay) : exec .downDelayEnd s =
    .next ((s.dom.slot k.val).railList.foldl (fun t r => stopRail r false t) { s with dom := { s.dom with ph := .downWait } }) := by
  have hx : exec .downDelayEnd s = execDownDelayEnd s := rfl
  rw [hx, execDownDelayEnd, h, hcur]
  exact congrArg Host.Outcome.next (if_pos hrun)

theorem exec_slotDownDone (h : s.dom.ph = .downWait) : exec .slotDownDone s =
    .next (if slotOff s k.val = true then nextDown k.val s else s) := by
  have hx : exec .slotDownDone s = execSlotDownDone s := rfl
  rw [hx, execSlotDownDone, h, hcur]
  simp only [hrun, true_and]

theorem exec_downTimeout {r : Fin 48} (h : s.dom.ph = .downWait) (hr : natBit s.dom.slotsNow[k].rails r.val = true)
    (hst : s.rails[r].st.runs = true) : exec (.downTimeout r) s = .next (capture 6 r.val (seqSet 0x2 (stopRail r.val true s))) := by
  have hx : exec (.downTimeout r) s = execDownTimeout r s := rfl
  rw [hx, execDownTimeout, h, hcur]
  exact congrArg Host.Outcome.next (if_pos ⟨hrun, by rw [slot_val, hr], hst⟩)

end

theorem startSlot_empty {s : State} {k : Fin 16} (ha : s.map.applying = false) (h : ∀ r : Fin 48, natBit s.dom.slotsNow[k].rails r.val = false) :
    startSlot k.val s = { s with dom := { s.dom with ph := .qualify } } := by
  unfold startSlot
  dsimp only
  rw [if_neg (by rw [ha]; decide), railList_nil h]
  simp only [List.any_nil, List.all_nil, List.foldl_nil, Bool.false_eq_true, if_false, if_true]
  refine (mapRails_id fun r => if_neg ?_)
  rw [slot_val, h]
  decide

/-- The rails of a slot, none of which refuses, are all started (R232). -/
theorem startSlot_starts {s : State} {k : Fin 16} (ha : s.map.applying = false) (hu : s.undervolt = false)
    (h : ∀ r : Fin 48, natBit s.dom.slotsNow[k].rails r.val = true → s.rails[r].st = .off ∧ startRefused s r.val = none ∧ startLeader s r.val ≠ none) :
    (startSlot k.val s).dom.ph = .qualify ∧ (startSlot k.val s).dom.st = s.dom.st ∧ (startSlot k.val s).dom.cur = s.dom.cur ∧
    ∀ r : Fin 48, (natBit s.dom.slotsNow[k].rails r.val = true → (startSlot k.val s).rails[r].st = .starting ∧
        (startSlot k.val s).rails[r].qualifying = true ∧ (startSlot k.val s).rails[r].supervised = false ∧
        (startSlot k.val s).rails[r].loop.ref = s.rails[r].sp.start * 65536) ∧
      (natBit s.dom.slotsNow[k].rails r.val = false → (startSlot k.val s).rails[r] = s.rails[r]) := by
  have hall : (s.dom.slot k.val).railList.all (slotStarts s) = true := railList_all.mpr fun r hr => by
    obtain ⟨hst, href, hlead⟩ := h r hr
    unfold slotStarts
    rw [rail_val, hst, href]
    simpa [Option.isSome_iff_ne_none] using hlead
  generalize hs1 : { s with dom := { s.dom with
      ph := .qualify, ran := if (s.dom.slot k.val).railList.any (slotStarts s) then s.dom.ran ||| BitVec.ofNat 16 (2 ^ k.val) else s.dom.ran } } = s1
  have hrails1 : s1.rails = s.rails := by rw [← hs1]
  have hstart : Startable s1 s1 := ⟨by rw [← hs1]; exact hu, rfl, rfl, fun _ => rfl⟩
  have hlead1 : ∀ r, startLeader s1 r = startLeader s r := startLeader_congr (by rw [← hs1]) (fun c => by rw [← hs1])
  obtain ⟨hP, hQ⟩ := foldl_eachRail (P := Startable s1) (L := (s.dom.slot k.val).railList)
    (Q := fun _ x y => y.st = .starting ∧ y.supervised = false ∧ y.loop.ref = x.sp.start * 65536)
    (f := fun t r => if (s.rail r).st = .off ∧ (startRefused s r).isNone = true then startRail r t else t)
    (fun r t hr ht => by
      obtain ⟨hst, href, hlead⟩ := h r (railList_mem.mp hr).2
      rw [if_pos ⟨by rw [rail_val]; exact hst, by rw [href]; rfl⟩]
      obtain ⟨h1, h2, h3⟩ := ht.startRail (r := r) (by rw [hlead1]; exact hlead)
      exact ⟨h1, h2, h3⟩)
    (s.dom.slot k.val).railList (fun n hn => ⟨(railList_mem.mp hn).1, hn⟩) (railList_nodup _) s1 hstart
  have heq : startSlot k.val s = mapRails ((s.dom.slot k.val).railList.foldl
      (fun t r => if (s.rail r).st = .off ∧ (startRefused s r).isNone = true then startRail r t else t) s1)
      (fun n x => if natBit (s.dom.slot k.val).rails n then { x with qualifying := true, fallSeen := false } else x) := by
    unfold startSlot
    dsimp only
    rw [if_neg (by rw [ha]; decide), if_pos hall, hs1]
  rw [heq]
  generalize (s.dom.slot k.val).railList.foldl (fun t r => if (s.rail r).st = .off ∧ (startRefused s r).isNone = true then startRail r t else t)
    s1 = u at hP hQ
  have hdom : ∀ f, (mapRails u f).dom = s1.dom := fun _ => hP.dom
  refine ⟨by rw [hdom, ← hs1], by rw [hdom, ← hs1], by rw [hdom, ← hs1], fun r => ⟨fun hr => ?_, fun hr => ?_⟩⟩
  · obtain ⟨h1, h2, h3⟩ := (hQ r).2 (railList_mem.mpr ⟨r.isLt, hr⟩)
    rw [mapRails_get, slot_val, if_pos hr, ← hrails1]
    exact ⟨h1, rfl, h2, h3⟩
  · rw [mapRails_get, slot_val, if_neg (by rw [hr]; decide), (hQ r).1 (fun k => Bool.false_ne_true (hr.symm.trans (railList_mem.mp k).2)), hrails1]

theorem slotBit (k : Fin 16) : (BitVec.ofNat 16 (2 ^ k.val)).getLsbD k.val = true := by
  revert k
  decide

/-! ## A rise that fails -/

theorem FlagsStay.endRun (s : State) : FlagsStay s (Machine.endRun s) := by
  unfold Machine.endRun
  dsimp only
  split
  · exact fun i hi => FlagsStay.enterLatched _ i hi
  · exact fun i hi => FlagsStay.enterDom _ _ i hi

theorem FlagsStay.nextDown (k : Nat) (s : State) : FlagsStay s (Machine.nextDown k s) := by
  unfold Machine.nextDown
  split
  · exact .of_dom rfl
  · exact .endRun s

theorem FlagsStay.enterFalling (latch : Bool) (s : State) : FlagsStay s (Machine.enterFalling latch s) := by
  by_cases h : s.dom.st = .rising ∨ s.dom.st = .up
  · have hf : FlagsStay s (fallen latch s) := .of_dom (by rw [fallen_dom])
    rw [enterFalling_eq h, beginDown]
    split
    · exact hf.trans (.of_dom rfl)
    · split
      · exact hf.trans (.of_dom rfl)
      · exact hf.trans (.nextDown _ _)
  · unfold Machine.enterFalling
    rw [if_neg h]
    split
    · exact .of_dom rfl
    · exact .refl s

/-- A fall that latches is FALLING with its latch pending, or has ended LATCHED (R242). -/
theorem enterFalling_latches {s : State} (h : s.dom.st = .rising ∨ s.dom.st = .up) :
    ((enterFalling true s).dom.st = .falling ∧ (enterFalling true s).dom.latchPend = true) ∨ (enterFalling true s).dom.st = .latched := by
  have hst : (fallen true s).dom.st = .falling ∧ (fallen true s).dom.latchPend = true := by
    rw [fallen_dom]
    exact ⟨rfl, rfl⟩
  rw [enterFalling_eq h, beginDown]
  split
  · exact .inl hst
  · split
    · exact .inl hst
    · unfold nextDown
      split
      · exact .inl hst
      · have h := endRun_domcore (fallen true s)
        rw [if_pos hst.2] at h
        exact .inr (Dom.get h Dom.st (fun _ => rfl))

/-- A rise that fails sets its flag and falls to the latch (R234). -/
theorem failStart_falls {s : State} (n : Nat) (h : s.dom.st = .rising) : (failStart n s).dom.flags.getLsbD 0 = true ∧
    ((failStart n s).dom.st = .falling ∧ (failStart n s).dom.latchPend = true ∨ (failStart n s).dom.st = .latched) ∧
    FlagsStay s (failStart n s) := by
  have hst : (capture 3 n (seqSet 0x1 s)).dom.st = .rising :=
    (Dom.get ((capture_domcore ..).trans (seqSet_domcore ..)) Dom.st (fun _ => rfl)).trans h
  have hto := enterFalling_latches (.inl hst)
  have hstay : FlagsStay (seqSet 0x1 s) (failStart n s) := by
    unfold failStart
    rw [if_pos h]
    exact (FlagsStay.capture 3 n (seqSet 0x1 s)).trans
      ((FlagsStay.enterFalling true (capture 3 n (seqSet 0x1 s))).trans (FlagsStay.sendEcho 2 _ _))
  refine ⟨hstay 0 (seqSet_flag (by decide) s), ?_, (FlagsStay.seqSet _ _).trans hstay⟩
  have hcore : (failStart n s).dom.core = (enterFalling true (capture 3 n (seqSet 0x1 s))).dom.core := by
    unfold failStart
    rw [if_pos h, sendEcho_domcore]
  rw [Dom.get hcore Dom.st (fun _ => rfl), Dom.get hcore Dom.latchPend (fun _ => rfl)]
  exact hto

/-- Settles O34: each happening is its operation on the slot in turn, and the rails of a slot are started or stopped one after another, each
changing its rail alone. -/
theorem slotsProgress : Obligations.SlotsProgress := by
  intro k s hcur hrun
  refine ⟨fun hph ha => ?_, fun hph ha hno => ?_, fun hph ha hu hall => ?_, fun hph hpg => ?_, fun hph hno => ?_, fun hst h1 h2 => ?_,
    fun hst => ?_, fun hph => ?_, fun hph hoff => ?_, fun hph hrun' => ?_, fun r hph hr hst => ?_⟩
  case refine_1 =>
    rw [exec_upDelayEnd hcur hrun hph]
    exact congrArg Host.Outcome.next (if_pos ha)
  case refine_2 => rw [exec_upDelayEnd hcur hrun hph, startSlot_empty ha hno]
  case refine_3 =>
    exact ⟨_, exec_upDelayEnd hcur hrun hph, startSlot_starts ha hu hall⟩
  case refine_4 =>
    have hall : (s.dom.slot k.val).railList.all (fun r => (s.rail r).pgRaw) = true :=
      railList_all.mpr fun r hr => by rw [rail_val]; exact hpg r hr
    have hx := exec_slotQualified hcur hrun hph
    rw [if_pos hall] at hx
    refine ⟨_, hx, nextUp_cells .., nextUp_map .., ?_, fun r => ?_, fun hno => ?_, fun j hkj hj hi => ?_⟩
    · have hkeep := congrArg (fun x => x.2.1) (nextUp_riseKeeps (k.val + 1) (qualifiedSlot k.val s))
      have hq : (nextUp (k.val + 1) (qualifiedSlot k.val s)).dom.slotQual = s.dom.slotQual ||| BitVec.ofNat 16 (2 ^ k.val) := hkeep
      rw [hq, BitVec.getLsbD_or, slotBit, Bool.or_true]
    · rw [rail_of_rails (nextUp_rails ..)]
      refine (mapRails_get ..).trans ?_
      rw [slot_val]
    · rw [nextUp_none (k := k.val + 1) (s := qualifiedSlot k.val s) (fun j hj => hno j hj)]
      have h := enterDom_domcore .up { (qualifiedSlot k.val s) with dom := { (qualifiedSlot k.val s).dom with cur := none, ph := .idle } }
      exact ⟨Dom.get h Dom.st (fun _ => rfl), Dom.get h Dom.cur (fun _ => rfl), Dom.get h Dom.ph (fun _ => rfl)⟩
    · rw [nextUp_first (k := k.val + 1) (j := j) (s := qualifiedSlot k.val s) hkj hj (fun i h1 h2 => hi i h1 h2)]
      exact ⟨rfl, rfl⟩
  case refine_5 =>
    obtain ⟨r, hr, hpg⟩ := hno
    rw [exec_slotQualified hcur hrun hph, if_neg]
    intro h
    have := railList_all.mp h r hr
    rw [rail_val, hpg] at this
    exact Bool.false_ne_true this
  case refine_6 =>
    obtain ⟨hflag, hto, -⟩ := failStart_falls k.val hst
    exact ⟨_, exec_slotTimeout hcur hrun, hflag, hto, failStart_cells ..⟩
  case refine_7 =>
    rw [exec_slotTimeout hcur hrun]
    exact congrArg Host.Outcome.next (if_neg hst)
  case refine_8 =>
    refine ⟨_, exec_downDelayEnd hcur hrun hph, ?_⟩
    generalize hs1 : { s with dom := { s.dom with ph := .downWait } } = s1
    obtain ⟨hP, hQ⟩ := foldl_eachRail (P := fun t => t.dom = s1.dom) (L := (s.dom.slot k.val).railList) (Q := fun _ x y => y.st = x.stopped)
      (f := fun t r => stopRail r false t)
      (fun r t _ ht => ⟨(stopRail_dom ..).trans ht, (stopRail_is r false t).others, (stopRail_is r false t).self⟩)
      (s.dom.slot k.val).railList (fun n hn => ⟨(railList_mem.mp hn).1, hn⟩) (railList_nodup _) s1 rfl
    have hrails : s1.rails = s.rails := by rw [← hs1]
    rw [hP]
    refine ⟨by rw [← hs1], by rw [← hs1], by rw [← hs1], fun r => ?_⟩
    by_cases hr : natBit s.dom.slotsNow[k].rails r.val = true
    · rw [(hQ r).2 (railList_mem.mpr ⟨r.isLt, hr⟩), hrails]
      simp only [hr, true_and]
      rfl
    · rw [(hQ r).1 (fun h => hr (railList_mem.mp h).2), hrails, if_neg (fun h => hr h.1)]
  case refine_9 =>
    have hall : slotOff s k.val = true := railList_all.mpr fun r hr => by rw [rail_val, hoff r hr]; rfl
    have hx := exec_slotDownDone hcur hrun hph
    rw [if_pos hall] at hx
    refine ⟨_, hx, nextDown_cells .., nextDown_rails .., fun hno hl => ?_, fun hno hl => ?_, fun j hjk hj hi => ?_⟩
    · have h := endRun_domcore s
      rw [if_neg (by rw [hl]; decide)] at h
      rw [nextDown_none hno]
      exact ⟨Dom.get h Dom.st (fun _ => rfl), Dom.get h Dom.cur (fun _ => rfl), Dom.get h Dom.ph (fun _ => rfl)⟩
    · have h := endRun_domcore s
      rw [if_pos hl] at h
      rw [nextDown_none hno]
      exact ⟨Dom.get h Dom.st (fun _ => rfl), Dom.get h Dom.cur (fun _ => rfl), Dom.get h Dom.ph (fun _ => rfl)⟩
    · rw [nextDown_last (j := j) hjk hj (fun i h1 h2 => hi i h2 h1)]
      exact ⟨rfl, rfl, rfl⟩
  case refine_10 =>
    obtain ⟨r, hr, hst⟩ := hrun'
    rw [exec_slotDownDone hcur hrun hph, if_neg]
    intro h
    have := railList_all.mp h r hr
    rw [rail_val, hst] at this
    exact Bool.false_ne_true this
  case refine_11 =>
    have his := stopRail_is r true s
    have hdom : (capture 6 r.val (seqSet 0x2 (stopRail r.val true s))).dom.core = s.dom.core := by
      rw [capture_domcore, seqSet_domcore, stopRail_dom]
    have hrails : (capture 6 r.val (seqSet 0x2 (stopRail r.val true s))).rails = (stopRail r.val true s).rails := by
      rw [capture_rails, seqSet_rails]
    refine ⟨_, exec_downTimeout hcur hrun hph hr hst, FlagsStay.capture _ _ _ _ (seqSet_flag (by decide) _), Dom.get hdom Dom.st (fun _ => rfl), ?_, fun j hj => ?_⟩
    · have hself : (stopRail r.val true s).rails[r].st = s.rails[r].stopped := his.self
      rw [rail_of_rails hrails, hself, Rail.stopped, if_pos hst]
      split
      · exact .inl rfl
      · exact .inr rfl
    · rw [rail_of_rails hrails, his.others j hj]

end Sys2Proof.Machine
end

section
/-! PROOF. The pins and lines of the domain (R226, R230, R232-R235, R237-R244). -/

namespace Sys2Proof.Machine

/-! ## The pins -/

/-- The enable pins after an edge of one (R230). -/
def enEdge (pin : Fin 4) (level : Bool) (en : BitVec 4) : BitVec 4 :=
  if level then en ||| BitVec.ofNat 4 (2 ^ pin.val) else en &&& ~~~ BitVec.ofNat 4 (2 ^ pin.val)

theorem enEdge_bit (pin : Fin 4) (level : Bool) (en : BitVec 4) (k : Fin 4) :
    (enEdge pin level en).getLsbD k.val = if k = pin then level else en.getLsbD k.val := by
  revert pin level en k
  decide

/-- Only an enable pin changes. -/
def EnOnly (s t : State) : Prop := t = { s with dom := { s.dom with en := t.dom.en } }

theorem pollPins_idle {s : State} (h : s.dom.ph = .idle) : pollPins s = s := by
  unfold pollPins
  rw [h]
  split <;> rfl

/-- In the phases of a slot the pins decide nothing but the gate (R232). -/
theorem pollPins_slot {s : State} (h : s.dom.ph = .upDelay ∨ s.dom.ph = .downDelay) : pollPins s = s := by
  unfold pollPins
  split
  · rfl
  · obtain h | h := h <;> rw [h]

theorem pollPins_gate {s : State} (h : s.dom.ph = .gate) : (pollPins s).dom.st = s.dom.st ∧ (pollPins s).dom.cur = s.dom.cur ∧
    (pollPins s).dom.en = s.dom.en ∧ (pollPins s).cells = s.cells := by
  unfold pollPins
  split
  · exact ⟨rfl, rfl, rfl, rfl⟩
  · rw [h]
    cases hc : s.dom.cur with
    | none => exact ⟨rfl, hc, rfl, rfl⟩
    | some k =>
      dsimp only
      split
      · exact ⟨rfl, hc, rfl, rfl⟩
      · exact ⟨rfl, hc, rfl, rfl⟩

theorem exec_enPinEdge_kept {pin : Fin 4} {level : Bool} {s : State} (h : s.dom.en.getLsbD pin.val = level) :
    exec (.enPinEdge pin level) s = .next s := if_pos h

/-- The state with the edge taken (R230). -/
def withPin (pin : Fin 4) (level : Bool) (s : State) : State := { s with dom := { s.dom with en := enEdge pin level s.dom.en } }

/-- The bound pin acts on a module that is powered and awake (log entry 125). -/
def pinActs (pin : Fin 4) (s : State) : Bool :=
  !s.off && decide (s.pwr.st ≠ .hibernate) && decide (s.dom.enPin = pin) && (decide (s.dom.upSrc = 1) || decide (s.dom.upSrc = 2))

theorem exec_enPinEdge_eq {pin : Fin 4} {level : Bool} {s : State} (h : s.dom.en.getLsbD pin.val ≠ level) :
    exec (.enPinEdge pin level) s = .next (pollPins (if (pinActs pin s && level) = true then pinUp (withPin pin level s)
      else if pinActs pin s = true then enterFalling false (cancelRestart
        { withPin pin level s with dom := { (withPin pin level s).dom with upWait := false, autoUp := false } })
      else withPin pin level s)) := if_neg h

theorem exec_enPinEdge_ignored {pin : Fin 4} {level : Bool} {s : State} (h : s.dom.en.getLsbD pin.val ≠ level)
    (hi : s.dom.enPin ≠ pin ∨ (s.dom.upSrc ≠ 1 ∧ s.dom.upSrc ≠ 2) ∨ s.off = true ∨ s.pwr.st = .hibernate) :
    exec (.enPinEdge pin level) s = .next (pollPins (withPin pin level s)) := by
  have hacts : pinActs pin s = false := by
    unfold pinActs
    obtain hi | ⟨h1, h2⟩ | hi | hi := hi
    · rw [decide_eq_false hi, Bool.and_false, Bool.false_and]
    · rw [decide_eq_false h1, decide_eq_false h2, Bool.or_false, Bool.and_false]
    · rw [hi, Bool.not_true, Bool.false_and, Bool.false_and, Bool.false_and]
    · rw [decide_eq_false (not_not.mpr hi), Bool.and_false, Bool.false_and, Bool.false_and]
  rw [exec_enPinEdge_eq h, hacts, Bool.false_and, if_neg (by decide), if_neg (by decide)]

theorem exec_enPinEdge_bound {level : Bool} {s : State} (h : s.dom.en.getLsbD s.dom.enPin.val ≠ level) (hs : s.dom.upSrc = 1 ∨ s.dom.upSrc = 2)
    (hoff : s.off = false) (hp : s.pwr.st ≠ .hibernate) : exec (.enPinEdge s.dom.enPin level) s =
      .next (pollPins (if level = true then pinUp (withPin s.dom.enPin level s) else enterFalling false (cancelRestart
        { withPin s.dom.enPin level s with dom := { (withPin s.dom.enPin level s).dom with upWait := false, autoUp := false } }))) := by
  have hacts : pinActs s.dom.enPin s = true := by
    unfold pinActs
    rw [hoff, decide_eq_true hp, decide_eq_true rfl]
    simpa using hs
  rw [exec_enPinEdge_eq h, hacts, Bool.true_and, if_pos rfl]

/-- The bound pin's rise begins the rise of the domain (R230). -/
theorem pinUp_rises {s : State} (hst : s.dom.st = .down) (hp : s.pwr.st ≠ .safeHold) (hc : s.dom.cycle = false) (ha : s.seam.agree = .alone)
    (hprobe : s.map.probe ≠ .running) (hb : badSlotRail s = none) (hcfg : s.proto.cfg ≠ .applying) :
    pinUp s = enterRising (cancelRestart { s with dom := { s.dom with upWait := false } }) := by
  unfold pinUp
  rw [if_neg (not_or.mpr ⟨not_not.mpr hst, hp⟩), if_neg (by rw [outranked_false hc]; decide), ha]
  dsimp only
  rw [if_neg]
  rintro (h | h | h)
  · exact hprobe h
  · exact Bool.false_ne_true ((congrArg Option.isSome hb).symm.trans h)
  · exact hcfg h

/-! ## The cascade lost -/

/-- The state in which a lost cascade begins its fall (R235). -/
def dropped (s : State) : State := capture 9 0 (seqSet 0x4 { s with dom := { s.dom with sqdi := true } })

theorem dropped_domcore (s : State) : (dropped s).dom.core = { s.dom with sqdi := true }.core := by
  unfold dropped
  rw [capture_domcore, seqSet_domcore]

theorem dropped_running (s : State) : (dropped s).proto.running = s.proto.running := by
  unfold dropped
  rw [capture_proto, seqSet_proto]

theorem dropped_slotRan (s : State) (j : Fin 16) : SlotRan (dropped s) j ↔ SlotRan s j := by
  have hr : (dropped s).rails = s.rails := by
    unfold dropped
    rw [capture_rails, seqSet_rails]
  exact slotRan_congr (Dom.get (dropped_domcore s) Dom.leftZero (fun _ => rfl)) (Dom.get (dropped_domcore s) Dom.slotsNow (fun _ => rfl)) (Dom.get (dropped_domcore s) Dom.ran (fun _ => rfl))
    (fun r => congrArg Rail.st (rail_of_rails hr r)) j

/-- The highest of the slots that have run. -/
theorem exists_last_slotRan {s : State} (h : ∃ j : Fin 16, SlotRan s j) : ∃ j : Fin 16, SlotRan s j ∧ ∀ i : Fin 16, j < i → ¬ SlotRan s i := by
  obtain ⟨j, hj, hmax⟩ := (Set.toFinite { j : Fin 16 | SlotRan s j }).exists_maximal h
  exact ⟨j, hj, fun i hij hi => absurd (hmax hi hij.le) (not_le.mpr hij)⟩

/-- A cascade lost while the domain is up takes it down to the latch (R235, R237). -/
theorem cascadeDrop_falls {s : State} (hst : s.dom.st = .rising ∨ s.dom.st = .up) :
    FlagsStay (dropped s) (enterFalling true (dropped s)) ∧ (enterFalling true (dropped s)).dom.sqdi = true ∧
    (enterFalling true (dropped s)).cells = s.cells ∧
    (s.proto.running = false → (enterFalling true (dropped s)).dom.st = .falling ∧ (enterFalling true (dropped s)).dom.latchPend = true ∧
      (enterFalling true (dropped s)).dom.ph = .begin) ∧
    (s.proto.running = true → ((∀ j : Fin 16, ¬ SlotRan s j) → (enterFalling true (dropped s)).dom.st = .latched) ∧
      ((∃ j : Fin 16, SlotRan s j) → (enterFalling true (dropped s)).dom.st = .falling ∧ (enterFalling true (dropped s)).dom.latchPend = true)) := by
  have hcore := dropped_domcore s
  have hst' : (dropped s).dom.st = .rising ∨ (dropped s).dom.st = .up := by
    rw [Dom.get hcore Dom.st (fun _ => rfl)]
    exact hst
  have hq : (dropped s).dom.sqdi = true := Dom.get hcore Dom.sqdi (fun _ => rfl)
  have hcells : (enterFalling true (dropped s)).cells = s.cells := by
    unfold dropped
    rw [enterFalling_cells, capture_cells, seqSet_cells]
  refine ⟨.enterFalling _ _, ?_, hcells, fun hp => ?_, fun hp => ⟨fun hno => ?_, fun hj => ?_⟩⟩
  · by_cases hp : s.proto.running = true
    · by_cases hj : ∃ j : Fin 16, SlotRan s j
      · obtain ⟨j, hj, hi⟩ := exists_last_slotRan hj
        rw [enterFalling_last (j := j) hst' ((dropped_running s).trans hp) (.inr hq) ((dropped_slotRan s j).mpr hj)
          (fun i hij => mt (dropped_slotRan s i).mp (hi i hij))]
        exact hq
      · have h := enterFalling_none (latch := true) hst' ((dropped_running s).trans hp) (.inr hq)
          (fun j => mt (dropped_slotRan s j).mp (fun k => hj ⟨j, k⟩))
        rw [if_pos rfl] at h
        exact (Dom.get h Dom.sqdi (fun _ => rfl)).trans hq
    · rw [enterFalling_stopped hst' ((dropped_running s).trans (Bool.eq_false_of_not_eq_true hp))]
      exact hq
  · rw [enterFalling_stopped hst' ((dropped_running s).trans hp)]
    exact ⟨rfl, rfl, rfl⟩
  · have h := enterFalling_none (latch := true) hst' ((dropped_running s).trans hp) (.inr hq) (fun j => mt (dropped_slotRan s j).mp (hno j))
    rw [if_pos rfl] at h
    exact Dom.get h Dom.st (fun _ => rfl)
  · obtain ⟨j, hj, hi⟩ := exists_last_slotRan hj
    rw [enterFalling_last (j := j) hst' ((dropped_running s).trans hp) (.inr hq) ((dropped_slotRan s j).mpr hj)
      (fun i hij => mt (dropped_slotRan s i).mp (hi i hij))]
    exact ⟨rfl, rfl⟩

/-! ## A rise and a fall by the bound pin -/

theorem exists_first_used (v : Vector Slot 16) (h : ∃ j : Fin 16, v[j].used = true) :
    ∃ j : Fin 16, v[j].used = true ∧ ∀ i : Fin 16, i < j → v[i].used = false := by
  obtain ⟨j, hj, hmin⟩ := (Set.toFinite { j : Fin 16 | v[j].used = true }).exists_minimal h
  exact ⟨j, hj, fun i hij => Bool.eq_false_of_not_eq_true fun hi => absurd (hmin hi hij.le) (not_le.mpr hij)⟩

/-- After the rise by the pin, which still looks at the pins (R230, R232). -/
theorem polled_rise {u : State} (hu : u.undervolt = false) (hp : u.proto.running = true) (h2 : u.dom.role ≠ 2) (h3 : u.dom.role ≠ 3) :
    (pollPins (enterRising u)).dom.en = u.dom.en ∧ (pollPins (enterRising u)).cells = u.cells ∧
    ((∀ j : Fin 16, u.dom.slots[j].used = false) → (pollPins (enterRising u)).dom.st = .up) ∧
    ∀ j : Fin 16, u.dom.slots[j].used = true → (∀ i : Fin 16, i < j → u.dom.slots[i].used = false) →
      (pollPins (enterRising u)).dom.st = .rising ∧ (pollPins (enterRising u)).dom.cur = some j.val := by
  by_cases hj : ∃ j : Fin 16, u.dom.slots[j].used = true
  · obtain ⟨j, hj, hi⟩ := exists_first_used _ hj
    have hdom := enterRising_first hu hp (.inl ⟨h2, h3⟩) hj hi
    have hpoll : (pollPins (enterRising u)).dom.st = .rising ∧ (pollPins (enterRising u)).dom.cur = some j.val ∧
        (pollPins (enterRising u)).dom.en = u.dom.en ∧ (pollPins (enterRising u)).cells = u.cells := by
      by_cases hg : gateOpen u.dom.rise j.val = true
      · rw [pollPins_slot (.inl (by rw [hdom]; exact if_pos hg)), enterRising_cells, hdom]
        exact ⟨rfl, rfl, rfl, rfl⟩
      · obtain ⟨h1, h2, h3, h4⟩ := pollPins_gate (s := enterRising u) (by rw [hdom]; exact if_neg hg)
        rw [h1, h2, h3, h4, enterRising_cells, hdom]
        exact ⟨rfl, rfl, rfl, rfl⟩
    obtain ⟨h1, h2, h3, h4⟩ := hpoll
    refine ⟨h3, h4, fun hno => absurd ((hno j).symm.trans hj) Bool.false_ne_true, fun k hk hik => ?_⟩
    obtain rfl : j = k := by
      obtain h | h | h := lt_trichotomy j k
      · exact absurd ((hik j h).symm.trans hj) Bool.false_ne_true
      · exact h
      · exact absurd ((hi k h).symm.trans hk) Bool.false_ne_true
    exact ⟨h1, h2⟩
  · have hno : ∀ j : Fin 16, u.dom.slots[j].used = false := fun j => Bool.eq_false_of_not_eq_true fun k => hj ⟨j, k⟩
    have h := enterRising_none hu hp (.inl ⟨h2, h3⟩) hno
    rw [pollPins_idle (Dom.get h Dom.ph (fun _ => rfl))]
    exact ⟨Dom.get h Dom.en (fun _ => rfl), enterRising_cells .., fun _ => Dom.get h Dom.st (fun _ => rfl), fun j hk => absurd ⟨j, hk⟩ hj⟩

/-- After the fall by the pin (R230, R242). -/
theorem polled_fall {u : State} (hst : u.dom.st = .rising ∨ u.dom.st = .up) (hp : u.proto.running = true) (h1 : u.dom.role ≠ 1)
    (h2 : u.dom.role ≠ 2) : (pollPins (enterFalling false u)).dom.en = u.dom.en ∧ (pollPins (enterFalling false u)).cells = u.cells ∧
    ((∀ j : Fin 16, ¬ SlotRan u j) → (pollPins (enterFalling false u)).dom.st = .down) ∧
    ∀ j : Fin 16, SlotRan u j → (∀ i : Fin 16, j < i → ¬ SlotRan u i) →
      (pollPins (enterFalling false u)).dom.st = .falling ∧ (pollPins (enterFalling false u)).dom.cur = some j.val := by
  by_cases hj : ∃ j : Fin 16, SlotRan u j
  · obtain ⟨j, hj, hi⟩ := exists_last_slotRan hj
    have hdom := enterFalling_last (latch := false) hst hp (.inl ⟨h1, h2⟩) hj hi
    rw [pollPins_slot (.inr (by rw [hdom])), enterFalling_cells, hdom]
    refine ⟨rfl, rfl, fun hno => absurd hj (hno j), fun k hk hik => ?_⟩
    obtain rfl : j = k := by
      obtain h | h | h := lt_trichotomy j k
      · exact absurd hk (hi k h)
      · exact h
      · exact absurd hj (hik j h)
    exact ⟨rfl, rfl⟩
  · have h := enterFalling_none (latch := false) hst hp (.inl ⟨h1, h2⟩) (fun j k => hj ⟨j, k⟩)
    rw [if_neg (by decide)] at h
    rw [pollPins_idle (Dom.get h Dom.ph (fun _ => rfl))]
    exact ⟨Dom.get h Dom.en (fun _ => rfl), enterFalling_cells .., fun _ => Dom.get h Dom.st (fun _ => rfl), fun j hk => absurd ⟨j, hk⟩ hj⟩

/-! ## FAULT_N accepted low -/

/-- FAULT_N accepted low from another driver shuts the module off (R238). -/
theorem exec_faultNLow_in {s : State} (hd : s.dom.fnDrive = false) (hoff : s.off = false) : exec .faultNLow s =
    .next (capture 2 0 (shutOff { s with dom := { s.dom with fnLow := true, fnAt := some s.hem.ticks } })) := by
  have hx : exec .faultNLow s = execFaultNLow s := rfl
  rw [hx, execFaultNLow]
  dsimp only
  rw [if_neg (by rw [hoff]; decide), if_neg (by rw [hd]; decide)]
  exact congrArg Host.Outcome.next (if_neg (by rw [hd]; decide))

/-- SQUI releases the rise that waits for it (R235). -/
theorem squiHigh_first {s : State} {j : Fin 16} (hrun : s.proto.running = true) (hph : s.dom.ph = .waitSqui) (hj : s.dom.slotsNow[j].used = true)
    (hi : ∀ i : Fin 16, i < j → s.dom.slotsNow[i].used = false) : ∃ t, exec .squiHigh s = .next t ∧ t = { s with dom := t.dom } ∧
      t.dom.squi = true ∧ t.dom.cur = some j.val ∧ t.dom.st = s.dom.st := by
  have hpoll : pollPins { s with dom := { s.dom with squi := true } } = nextUp 0 { s with dom := { s.dom with squi := true } } := by
    unfold pollPins
    rw [if_neg (by rw [hrun]; decide)]
    dsimp only
    rw [hph]
    rfl
  refine ⟨_, congrArg Host.Outcome.next hpoll, ?_⟩
  rw [nextUp_first (k := 0) (j := j) (s := { s with dom := { s.dom with squi := true } }) (Nat.zero_le _) hj (fun i _ hij => hi i hij)]
  exact ⟨rfl, rfl, rfl, rfl⟩

/-- A rise that waits for SQUI in vain fails (R235). -/
theorem casTimeout_fails {s : State} (hrun : s.proto.running = true) (hph : s.dom.ph = .waitSqui) (hst : s.dom.st = .rising) :
    ∃ t, exec .casTimeout s = .next t ∧ t.dom.flags.getLsbD 3 = true ∧ t.dom.flags.getLsbD 0 = true ∧
      (t.dom.st = .falling ∧ t.dom.latchPend = true ∨ t.dom.st = .latched) ∧ t.cells = s.cells := by
  have hx : exec .casTimeout s = .next (failStart 0xFF (seqSet 0x8 s)) := by
    have hx : exec .casTimeout s = execCasTimeout s := rfl
    rw [hx, execCasTimeout, hph]
    exact congrArg Host.Outcome.next (if_neg (by rw [hrun]; decide))
  obtain ⟨h0, hto, hstay⟩ := failStart_falls (s := seqSet 0x8 s) 0xFF ((Dom.get (seqSet_domcore ..) Dom.st (fun _ => rfl)).trans hst)
  exact ⟨_, hx, hstay 3 (seqSet_flag (by decide) s), h0, hto, by rw [failStart_cells, seqSet_cells]⟩

/-- SQDI releases the fall that waits for it (R235). -/
theorem sqdiHigh_last {s : State} {j : Fin 16} (hrun : s.proto.running = true) (hph : s.dom.ph = .waitSqdi) (hj : SlotRan s j)
    (hi : ∀ i : Fin 16, j < i → ¬ SlotRan s i) : ∃ t, exec .sqdiHigh s = .next t ∧ t = { s with dom := t.dom } ∧ t.dom.sqdi = true ∧
      t.dom.cur = some j.val ∧ t.dom.ph = .downDelay := by
  have hpoll : pollPins { s with dom := { s.dom with sqdi := true } } = nextDown 16 { s with dom := { s.dom with sqdi := true } } := by
    unfold pollPins
    rw [if_neg (by rw [hrun]; decide)]
    dsimp only
    rw [hph]
    rfl
  refine ⟨_, congrArg Host.Outcome.next hpoll, ?_⟩
  rw [nextDown_last (k := 16) (j := j) (s := { s with dom := { s.dom with sqdi := true } }) j.isLt hj (fun i _ hij => hi i hij)]
  exact ⟨rfl, rfl, rfl, rfl⟩

/-- A fall passes over an absent SQDI (R235). -/
theorem casTimeout_passed {s : State} {j : Fin 16} (hrun : s.proto.running = true) (hph : s.dom.ph = .waitSqdi) (hj : SlotRan s j)
    (hi : ∀ i : Fin 16, j < i → ¬ SlotRan s i) : ∃ t, exec .casTimeout s = .next t ∧ t.dom.flags.getLsbD 3 = true ∧ t.dom.cur = some j.val ∧
      t.dom.ph = .downDelay ∧ t.cells = s.cells ∧ t.rails = s.rails := by
  have hx : exec .casTimeout s = .next (nextDown 16 (capture 9 1 (seqSet 0x8 s))) := by
    have hx : exec .casTimeout s = execCasTimeout s := rfl
    rw [hx, execCasTimeout, hph]
    exact congrArg Host.Outcome.next (if_neg (by rw [hrun]; decide))
  have hcore : (capture 9 1 (seqSet 0x8 s)).dom.core = s.dom.core := by rw [capture_domcore, seqSet_domcore]
  have hrails : (capture 9 1 (seqSet 0x8 s)).rails = s.rails := by rw [capture_rails, seqSet_rails]
  have hran : ∀ i, SlotRan (capture 9 1 (seqSet 0x8 s)) i ↔ SlotRan s i :=
    slotRan_congr (Dom.get hcore Dom.leftZero (fun _ => rfl)) (Dom.get hcore Dom.slotsNow (fun _ => rfl)) (Dom.get hcore Dom.ran (fun _ => rfl))
      (fun r => congrArg Rail.st (rail_of_rails hrails r))
  refine ⟨_, hx, ?_⟩
  rw [nextDown_last (k := 16) (j := j) (s := capture 9 1 (seqSet 0x8 s)) j.isLt ((hran j).mpr hj) (fun i _ hij => mt (hran i).mp (hi i hij))]
  exact ⟨FlagsStay.capture _ _ _ _ (seqSet_flag (by decide) s), rfl, rfl, by rw [capture_cells, seqSet_cells], hrails⟩

theorem faultNLow_shuts {s : State} (hd : s.dom.fnDrive = false) (hoff : s.off = false) : ∃ t, exec .faultNLow s = .next t ∧ t.dom.fnLow = true ∧
    t.dom.fnAt = some s.hem.ticks ∧ t.dom.st = .latched ∧ t.armQ = [] ∧
    (∀ c : Fin 256, t.cells[c] = if s.cells[c].st = .retired then s.cells[c] else s.cells[c].turnOff) ∧
    ∀ r : Fin 48, t.rails[r].st = if s.rails[r].st = .off ∧ s.rails[r].offFrom = none then .off else .latchedOff := by
  obtain ⟨u, hu⟩ : ∃ u, u = { s with dom := { s.dom with fnLow := true, fnAt := some s.hem.ticks } } := ⟨_, rfl⟩
  have hx := exec_faultNLow_in hd hoff
  rw [← hu] at hx
  have hcells : u.cells = s.cells := by rw [hu]
  have hrails : u.rails = s.rails := by rw [hu]
  have hdom : u.dom = { s.dom with fnLow := true, fnAt := some s.hem.ticks } := by rw [hu]
  have hcore := (capture_domcore 2 0 (shutOff u)).trans (shutOff_domcore u)
  rw [hdom] at hcore
  refine ⟨_, hx, Dom.get hcore Dom.fnLow (fun _ => rfl), Dom.get hcore Dom.fnAt (fun _ => rfl), Dom.get hcore Dom.st (fun _ => rfl), ?_, fun c => ?_, fun r => ?_⟩
  · rw [capture_armQ, shutOff_armQ]
  · rw [capture_cells, shutOff_cell, hcells]
  · rw [rail_of_rails (capture_rails ..), shutOff_railSt, hrails]

/-! ## Power-good falls and rises -/

/-- A condition that fails leaves the rail out of power-good, and a fall of a judged rail counts (R226). -/
theorem pgChange_falls {r : Fin 48} {f : Rail → Rail} {s : State} (h : (f s.rails[r]).pgRaw = false) :
    (pgChange r f s).rails[r] = if s.rails[r].pgRaw = true then (f s.rails[r]).fell else f s.rails[r] := by
  have hnote : (f s.rails[r]).notePg s.hem.ticks s.rails[r] = f s.rails[r] := by
    unfold Rail.notePg
    rw [if_neg (by rw [h]; exact Bool.false_ne_true)]
  rw [pgChange_self, hnote, h, Bool.not_false, Bool.and_true]

/-- A rail that a comparator takes out of power-good (R226). -/
theorem pgFall_ov (r : Fin 48) (s : State) : ∃ t, exec (.pgFall r .ov) s = .next t ∧ t.rails[r].prot.ovNow = true ∧ t.rails[r].pgRaw = false ∧
    t.rails[r].st = s.rails[r].st ∧ t.rails[r].chatter =
      (if s.rails[r].pgRaw = true ∧ (s.rails[r].qualifying = true ∨ s.rails[r].supervised = true) then
        satInc 255 s.rails[r].chatter else s.rails[r].chatter) ∧
    t.cells = s.cells ∧ t.dom.st = s.dom.st ∧ ∀ j : Fin 48, j ≠ r → t.rails[j] = s.rails[j] := by
  have hx : exec (.pgFall r .ov) s = .next (pgChange r (Rail.pgCond .ov true) s) := rfl
  have hpg : ∀ x : Rail, (x.pgCond .ov true).pgRaw = false := fun x => by simp [Rail.pgRaw, Rail.pgCond]
  have hself := pgChange_falls (s := s) (f := Rail.pgCond .ov true) (hpg s.rails[r])
  have hrest := pgChange_rest r (Rail.pgCond .ov true) s
  refine ⟨_, hx, by rw [hrest]; rfl, ?_, by rw [hrest]; rfl, ?_, pgChange_cells .., Dom.get (pgChange_domcore ..) Dom.st (fun _ => rfl),
    fun j hj => pgChange_other hj _ _⟩
  · rw [hrest]
    exact hpg s.rails[r]
  · rw [hself]
    generalize s.rails[r] = x
    by_cases hp : x.pgRaw = true
    · rw [if_pos hp]
      unfold Rail.fell
      have hj : ((x.pgCond .ov true).qualifying || (x.pgCond .ov true).supervised) = true ↔ x.qualifying = true ∨ x.supervised = true :=
        Bool.or_eq_true_iff
      by_cases hjudged : x.qualifying = true ∨ x.supervised = true
      · rw [if_pos (hj.mpr hjudged), if_pos ⟨hp, hjudged⟩]
        rfl
      · rw [if_neg (mt hj.mp hjudged), if_neg (fun k => hjudged k.2)]
        rfl
    · rw [if_neg hp, if_neg (fun k => hp k.1)]
      rfl

theorem pgFall_supervisor {r : Fin 48} {s : State} {code : Nat} (hw : inWindow s r.val (min 4095 code) = false) (hc : s.converts = true) :
    ∃ t, exec (.pgFall r (.supervisor code)) s = .next t ∧ t.rails[r].supIn = false ∧ t.rails[r].pgRaw = false ∧ t.cells = s.cells ∧
      ∀ j : Fin 48, j ≠ r → t.rails[j] = s.rails[j] := by
  have hx : exec (.pgFall r (.supervisor code)) s = .next (pgChange r (Rail.pgCond (.supervisor code) true)
      (modInput (Fin.ofNat 64 r.val) (fun i => { i with code := min 4095 code }) s)) := by
    have hx : exec (.pgFall r (.supervisor code)) s = execPgFall r (.supervisor code) s := rfl
    rw [hx, execPgFall, pgSample, if_neg (by rw [hw, hc]; decide)]
  have hrails : (modInput (Fin.ofNat 64 r.val) (fun i => { i with code := min 4095 code }) s).rails = s.rails := rfl
  have hcells : (modInput (Fin.ofNat 64 r.val) (fun i => { i with code := min 4095 code }) s).cells = s.cells := rfl
  have hrest := pgChange_rest r (Rail.pgCond (.supervisor code) true) (modInput (Fin.ofNat 64 r.val) (fun i => { i with code := min 4095 code }) s)
  refine ⟨_, hx, by rw [hrest]; rfl, ?_, ?_, fun j hj => ?_⟩
  · rw [hrest]
    exact Bool.and_false _
  · rw [pgChange_cells, hcells]
  · rw [pgChange_other hj, hrails]

theorem pgFall_not_taken {r : Fin 48} {s : State} {code : Nat} (h : inWindow s r.val (min 4095 code) = true ∨ s.converts = false) :
    exec (.pgFall r (.supervisor code)) s = .next s := by
  have hx : exec (.pgFall r (.supervisor code)) s = execPgFall r (.supervisor code) s := rfl
  rw [hx, execPgFall, pgSample, if_pos h]

/-- The undervoltage comparator releases its rail (R226). -/
theorem pgRawRise_uv (r : Fin 48) (s : State) : ∃ t, exec (.pgRawRise r .uv) s = .next t ∧ OneRail r s t { s.rails[r] with
      prot := { s.rails[r].prot with uvNow := false }, pgAt := t.rails[r].pgAt } ∧
    t.rails[r].pgAt = if t.rails[r].pgRaw = true ∧ s.rails[r].pgRaw = false then some s.hem.ticks else s.rails[r].pgAt := by
  have hraw : ∀ x : Rail, (x.pgRaw && !(x.pgCond .uv false).pgRaw) = false := fun x => by
    cases h : x.prot.uvNow <;> simp [Rail.pgRaw, Rail.pgCond, h]
  have hx : exec (.pgRawRise r .uv) s = .next (modRail s r (fun x => (x.pgCond .uv false).notePg s.hem.ticks x)) := by
    have hx : exec (.pgRawRise r .uv) s = .next (pgChange r (Rail.pgCond .uv false) s) := rfl
    rw [hx, pgChange, if_neg (by rw [hraw]; decide)]
  refine ⟨_, hx, ⟨rfl, ?_, fun k hk => modRail_other _ _ _ _ hk.symm⟩, ?_⟩
  · rw [modRail_self, Rail.notePg_rest]
    rfl
  · rw [modRail_self]
    generalize s.rails[r] = x
    have hpg : ((x.pgCond .uv false).notePg s.hem.ticks x).pgRaw = (x.pgCond .uv false).pgRaw := by
      rw [Rail.notePg_rest]
      rfl
    rw [hpg]
    unfold Rail.notePg
    by_cases h : (x.pgCond .uv false).pgRaw = true ∧ x.pgRaw = false
    · rw [if_pos h, if_pos (by rw [h.1, h.2]; rfl)]
    · rw [if_neg h, if_neg (by simpa using h)]
      rfl

/-- Settles O35: an edge of the bound pin is a rise or a fall begun, a cascade line the next slot, and FAULT_N the module shut off. -/
theorem domainPinsAndFaultLine : Obligations.DomainPinsAndFaultLine := by
  intro s
  refine ⟨fun pin level => ⟨exec_enPinEdge_kept, fun h hph hi => ?_⟩, fun hsrc hr1 hr2 hr3 hoff hp hrun => ⟨fun hen hst hsafe hag hcyc hu hprobe hbad hcfg => ?_,
    fun hen hst => ?_⟩, fun hph => ⟨?_, ?_, ?_⟩, fun hrun hph => ⟨fun j hj hi => ?_, fun hst => ?_⟩, fun hrun hph j hj hi => ⟨?_, ?_⟩,
    fun hrole hst hoff => ?_, fun h => ?_, fun hoff => ⟨?_, ?_⟩, fun hd => ⟨fun hoff => ?_, ?_, ?_, fun hc => ?_, fun hc => ?_⟩,
    fun hd => ⟨?_, ?_, fun hl => ?_, fun hl hoff => ?_, fun hoff => ?_⟩, fun r => ⟨?_, fun code hw hc => ?_, fun code hw => ?_, ?_, fun h1 h2 h3 => ?_,
      fun h => ?_⟩⟩
  case refine_1 =>
    rw [exec_enPinEdge_ignored h hi, pollPins_idle (s := withPin pin level s) hph]
    refine ⟨_, rfl, rfl, (enEdge_bit ..).trans (if_pos rfl), fun k hk => (enEdge_bit ..).trans (if_neg hk)⟩
  case refine_2 =>
    have hx := exec_enPinEdge_bound (level := true) (by rw [hen]; decide) hsrc hoff hp
    rw [if_pos rfl, pinUp_rises (s := withPin s.dom.enPin true s) hst hsafe hcyc hag hprobe hbad hcfg] at hx
    obtain ⟨hen', hcells, hno, hfirst⟩ := polled_rise (u := cancelRestart { withPin s.dom.enPin true s with
      dom := { (withPin s.dom.enPin true s).dom with upWait := false } }) hu hrun hr2 hr3
    exact ⟨_, hx, by rw [hen']; exact (enEdge_bit ..).trans (if_pos rfl), hcells, hno, hfirst⟩
  case refine_3 =>
    have hx := exec_enPinEdge_bound (level := false) (by rw [hen]; decide) hsrc hoff hp
    rw [if_neg (by decide)] at hx
    obtain ⟨hen', hcells, hno, hlast⟩ := polled_fall (u := cancelRestart { withPin s.dom.enPin false s with
      dom := { (withPin s.dom.enPin false s).dom with upWait := false, autoUp := false } }) hst hrun hr1 hr2
    exact ⟨_, hx, by rw [hen']; exact (enEdge_bit ..).trans (if_pos rfl), hcells, hno, hlast⟩
  case refine_4 => exact congrArg Host.Outcome.next (pollPins_idle (s := { s with dom := { s.dom with squi := true } }) hph)
  case refine_5 => exact congrArg Host.Outcome.next (pollPins_idle (s := { s with dom := { s.dom with sqdi := true } }) hph)
  case refine_6 =>
    have hx : exec .casTimeout s = execCasTimeout s := rfl
    rw [hx, execCasTimeout, hph]
    exact congrArg Host.Outcome.next (ite_self s)
  case refine_7 => exact squiHigh_first hrun hph hj hi
  case refine_8 => exact casTimeout_fails hrun hph hst
  case refine_9 => exact sqdiHigh_last hrun hph hj hi
  case refine_10 => exact casTimeout_passed hrun hph hj hi
  case refine_11 =>
    obtain ⟨hstay, hq, hcells, hstop, hgo⟩ := cascadeDrop_falls hst
    exact ⟨_, congrArg Host.Outcome.next (if_pos ⟨hoff, hrole, hst⟩), hq,
      hstay 2 (FlagsStay.capture _ _ _ _ (seqSet_flag (by decide) _)), hcells, hstop, hgo⟩
  case refine_12 =>
    refine congrArg Host.Outcome.next (if_neg ?_)
    rintro ⟨h1, h2, h3⟩
    obtain h | h | h := h
    · exact Bool.false_ne_true (h1.symm.trans h)
    · exact h2.elim h.1 h.2
    · exact h3.elim h.1 h.2
  case refine_13 => exact congrArg Host.Outcome.next (if_pos hoff)
  case refine_14 => exact congrArg Host.Outcome.next (if_neg (fun h => Bool.false_ne_true (h.2.2.symm.trans hoff)))
  case refine_15 =>
    have hx : exec .faultNLow s = execFaultNLow s := rfl
    rw [hx, execFaultNLow]
    dsimp only
    rw [if_neg (by rw [hoff]; decide), if_pos hd]
  case refine_16 => exact congrArg Host.Outcome.next (if_neg (fun h => Bool.false_ne_true (h.2.1.symm.trans hd)))
  case refine_17 =>
    refine ⟨_, congrArg Host.Outcome.next (if_pos hd), ?_, ?_, ?_, by rw [seqSet_cells], by rw [seqSet_rails]⟩
    all_goals rw [seqSet_dom]
  case refine_18 =>
    refine ⟨_, fun hl => ?_, congrArg Host.Outcome.next (if_pos ⟨hd, hc⟩)⟩
    rw [hl, Bool.false_and]
  case refine_19 => exact congrArg Host.Outcome.next (if_neg (fun h => Bool.false_ne_true (hc.symm.trans h.2)))
  case refine_20 => exact congrArg Host.Outcome.next (if_neg (fun h => Bool.false_ne_true (hd.symm.trans h)))
  case refine_21 => exact congrArg Host.Outcome.next (if_neg (fun h => Bool.false_ne_true (hd.symm.trans h.1)))
  case refine_22 => exact congrArg Host.Outcome.next (if_neg (fun h => Bool.false_ne_true (hl.symm.trans h.1)))
  case refine_23 =>
    have hcore : (capture 0x0E 0 (seqSet 0x20 s)).dom.core = s.dom.core := by rw [capture_domcore, seqSet_domcore]
    exact ⟨_, congrArg Host.Outcome.next (if_pos ⟨hl, hd, hoff⟩), FlagsStay.capture _ _ _ _ (seqSet_flag (by decide) s), Dom.get hcore Dom.st (fun _ => rfl),
      by rw [capture_cells, seqSet_cells], by rw [capture_rails, seqSet_rails]⟩
  case refine_24 => exact faultNLow_shuts hd hoff
  case refine_25 => exact pgFall_ov r s
  case refine_26 => exact pgFall_supervisor hw hc
  case refine_27 => exact pgFall_not_taken hw
  case refine_28 => exact pgRawRise_uv r s
  case refine_29 => exact congrArg Host.Outcome.next (if_pos ⟨h1, h2, h3⟩)
  case refine_30 =>
    refine congrArg Host.Outcome.next (if_neg ?_)
    rintro ⟨h1, h2, h3⟩
    obtain h | h | h := h
    · exact h h1
    · exact Bool.false_ne_true (h.symm.trans h2)
    · exact Bool.false_ne_true (h3.symm.trans h)

end Sys2Proof.Machine
end

section
/-! PROOF. The supervisor's judgements and scans, and the log of pressings (R209, R246-R256, R273). -/

namespace Sys2Proof.Machine

/-! ## The supervisor without its capture buffers -/

/-- The supervisor without the buffers that captures fill. -/
def Sup.core (x : Sup) : Sup := { x with bufs := [], next := 0 }

theorem Sup.get {α : Type} {c d : Sup} (h : c.core = d.core) (f : Sup → α) (hf : ∀ x : Sup, f x.core = f x) : f c = f d := by
  rw [← hf c, h, hf]

@[simp] theorem capture_supcore (cause index : Nat) (s : State) : (capture cause index s).sup.core = s.sup.core := by
  unfold capture
  split
  · rfl
  · rw [seqSet_sup]

@[simp] theorem enterLatched_sup (s : State) : (enterLatched s).sup = s.sup := by
  unfold enterLatched
  dsimp only
  split
  · rfl
  · unfold enterDom
    dsimp only
    rw [pulse_sup]
    rfl

@[simp] theorem shutOff_sup (s : State) : (shutOff s).sup = s.sup := by
  unfold shutOff
  rw [enterLatched_sup, stopAllArming_sup, leaveRails_sup, abortProbe_sup, changeCells_sup]

@[simp] theorem faultRun_supcore (n : Nat) (s : State) : (faultRun n s).sup.core = s.sup.core := by
  unfold faultRun
  rw [sendEcho_sup, capture_supcore, shutOff_sup]

@[simp] theorem faultConfined_supcore (r : Nat) (s : State) : (faultConfined r s).sup.core = s.sup.core := by
  unfold faultConfined
  rw [capture_supcore, seqSet_sup]
  rw [stopArming_sup, leaveRail_sup, changeMembers_sup]

@[simp] theorem railFault_supcore (r : Nat) (ov : Bool) (s : State) : (railFault r ov s).sup.core = s.sup.core := by
  unfold railFault
  split
  · exact faultConfined_supcore ..
  · exact faultRun_supcore ..

@[simp] theorem countedFall_supcore (r : Nat) (s : State) : (countedFall r s).sup.core = s.sup.core := by
  unfold countedFall
  dsimp only
  split
  · split
    · rw [pgEvent_sup]
      rfl
    · rw [capture_supcore, pgEvent_sup]
      rfl
  · rfl

@[simp] theorem pgChange_supcore (r : Fin 48) (f : Rail → Rail) (s : State) : (pgChange r f s).sup.core = s.sup.core := by
  unfold pgChange
  dsimp only
  split
  · exact countedFall_supcore ..
  · rfl

@[simp] theorem crossCheck_supcore (k : Nat) (x : Int) (s : State) : (crossCheck k x s).sup.core = s.sup.core := by
  unfold crossCheck
  split
  · split
    · rw [capture_supcore, pgEvent_sup]
      rfl
    · rw [capture_supcore, seqSet_sup]
  · rfl

@[simp] theorem crossCheck_domcore (k : Nat) (x : Int) (s : State) : (crossCheck k x s).dom.core = s.dom.core := by
  unfold crossCheck
  split
  · split
    · rw [capture_domcore, pgEvent_dom]
      rfl
    · rw [capture_domcore, seqSet_domcore]
  · rfl

/-- What every step of a fold keeps, the fold keeps. -/
theorem foldl_keeps {α β : Type} {f : State → α → State} {g : State → β} (h : ∀ t x, g (f t x) = g t) (l : List α) (s : State) :
    g (l.foldl f s) = g s := by
  induction l generalizing s with
  | nil => rfl
  | cons x l ih => rw [List.foldl_cons, ih, h]

/-! ## A judgement -/

/-- The state in which an input has been judged out of its window (R246). -/
def judgedOut (k : Fin 64) (code : Nat) (s : State) : State :=
  modInput k (fun i => { i with code := min 4095 code, judged := true, inCnt := 0, outCnt := 0 }) s

theorem exec_judgement_skipped {k : Fin 64} {code : Nat} {s : State} (h : 60 ≤ k.val ∨ s.converts = false ∨ s.sup.inputs[k].judged = true ∨
    inWindow s k.val (min 4095 code) = true ∨ s.sup.inputs[k].outCnt + 1 < s.sup.judgeN) : exec (.supervisorJudgement k code) s = .next s :=
  congrArg Host.Outcome.next (if_pos h)

theorem exec_judgement {k : Fin 64} {code : Nat} {s : State} (hj : s.sup.inputs[k].judged = false) (hk : k.val < 60)
    (hw : inWindow s k.val (min 4095 code) = false) (hn : s.sup.judgeN ≤ s.sup.inputs[k].outCnt + 1) (hc : s.converts = true) :
    exec (.supervisorJudgement k code) s = .next (judge k (if h : k.val < 48 then
      pgChange ⟨k.val, h⟩ (fun x => { x with supIn := false }) (judgedOut k code s) else judgedOut k code s)) := by
  refine congrArg Host.Outcome.next (if_neg ?_)
  rintro (h | h | h | h | h)
  · omega
  · exact Bool.false_ne_true (h.symm.trans hc)
  · exact Bool.false_ne_true (hj.symm.trans h)
  · exact Bool.false_ne_true (hw.symm.trans h)
  · omega

theorem judge_supcore (k : Fin 64) (s : State) : (judge k s).sup.core = s.sup.core := by
  unfold judge
  split
  · split
    · exact railFault_supcore ..
    · rfl
  · split
    · unfold inputFault
      split
      · rw [capture_supcore, seqSet_sup]
      · exact faultRun_supcore ..
    · rfl
    · rw [pulse_sup, capture_supcore]

/-- Of a judgement's input only what it was judged by is new (R246). -/
theorem judgedOut_inputs (k : Fin 64) (code : Nat) (s t : State) (h : t.sup.core = (judgedOut k code s).sup.core) :
    t.sup.inputs[k] = { s.sup.inputs[k] with code := min 4095 code, judged := true, inCnt := 0, outCnt := 0 } ∧
    ∀ j : Fin 64, j ≠ k → t.sup.inputs[j] = s.sup.inputs[j] := by
  have hin : t.sup.inputs = (judgedOut k code s).sup.inputs := Sup.get h Sup.inputs (fun _ => rfl)
  rw [hin]
  exact ⟨upd_self .., fun j hj => upd_other _ _ _ _ hj.symm⟩

/-- An input of the module, judged by its action (R247, R248). -/
theorem judge_module {k : Fin 64} {s : State} (hk : 48 ≤ k.val) :
    (s.sup.inputs[k].act ≠ 1 → (judge k s).rails = s.rails ∧ (judge k s).cells = s.cells ∧ (judge k s).dom.st = s.dom.st) ∧
    (s.sup.inputs[k].act = 2 → judge k s = s) ∧
    (s.sup.inputs[k].act = 1 → s.dom.st ≠ .falling → (judge k s).dom.st = .latched ∧ (judge k s).dom.fnDrive = true) := by
  have heq : judge k s = match s.sup.inputs[k].act with
      | 1 => inputFault k.val s
      | 2 => s
      | _ => pulse 454 (capture 7 k.val s) := if_neg (Nat.not_lt.mpr hk)
  refine ⟨fun h => ?_, fun h => ?_, fun h hd => ?_⟩
  · rw [heq]
    split
    next h1 => exact absurd h1 h
    · exact ⟨rfl, rfl, rfl⟩
    · rw [pulse_rails, capture_rails, pulse_cells, capture_cells, pulse_dom]
      exact ⟨rfl, rfl, Dom.get (capture_domcore ..) Dom.st (fun _ => rfl)⟩
  · rw [heq, h]
    rfl
  · have hfault : judge k s = inputFault k.val s := by
      rw [heq, h]
      rfl
    rw [hfault, inputFault, if_neg hd]
    obtain ⟨h1, h2, -⟩ := faultRun_dom (0x80 + k.val) s
    exact ⟨h1, h2⟩

theorem judge_rail {k : Fin 64} {r : Fin 48} {s : State} (h : r.val = k.val) :
    judge k s = if s.rails[r].supervised = true then railFault k.val false s else s := by
  unfold judge
  rw [if_pos (by omega), ← h, rail_val]

/-- The rail of an input that has left its window (R209, R246). -/
theorem judge_railInput {k : Fin 64} {r : Fin 48} {code : Nat} {s : State} (h : r.val = k.val) :
    judge k (if h : k.val < 48 then pgChange ⟨k.val, h⟩ (fun x => { x with supIn := false }) (judgedOut k code s) else judgedOut k code s) =
      judge k (pgChange r (fun x => { x with supIn := false }) (judgedOut k code s)) := by
  have hr : (⟨k.val, by omega⟩ : Fin 48) = r := Fin.ext h.symm
  rw [dif_pos (by omega), hr]

theorem supIn_off (x : Rail) : Rail.pgRaw { x with supIn := false } = false := Bool.and_false _

/-- What a judged input does to its rail: a supervised one faults, and one that is not judged loses power-good alone (R209, R246). -/
theorem judgement_rail {k : Fin 64} {r : Fin 48} {code : Nat} {s : State} (h : r.val = k.val) :
    (s.rails[r].supervised = true → s.dom.st ≠ .falling →
      (judge k (pgChange r (fun x => { x with supIn := false }) (judgedOut k code s))).dom.st = .latched ∧
      (judge k (pgChange r (fun x => { x with supIn := false }) (judgedOut k code s))).dom.fnDrive = true) ∧
    (s.rails[r].supervised = false → s.rails[r].qualifying = false →
      (judge k (pgChange r (fun x => { x with supIn := false }) (judgedOut k code s))).rails[r] = { s.rails[r] with supIn := false } ∧
      (judge k (pgChange r (fun x => { x with supIn := false }) (judgedOut k code s))).cells = s.cells ∧
      (judge k (pgChange r (fun x => { x with supIn := false }) (judgedOut k code s))).dom = s.dom) := by
  have hrails : (judgedOut k code s).rails = s.rails := rfl
  have hsup : (pgChange r (fun x => { x with supIn := false }) (judgedOut k code s)).rails[r].supervised = s.rails[r].supervised := by
    rw [pgChange_rest, hrails]
  rw [judge_rail h, hsup]
  refine ⟨fun hs hd => ?_, fun hs hq => ?_⟩
  · have hdom : (pgChange r (fun x => { x with supIn := false }) (judgedOut k code s)).dom.st = s.dom.st := Dom.get (pgChange_domcore ..) Dom.st (fun _ => rfl)
    rw [if_pos hs, railFault_run (.inl (by rw [hdom]; exact hd))]
    obtain ⟨h1, h2, -⟩ := faultRun_dom k.val (pgChange r (fun x => { x with supIn := false }) (judgedOut k code s))
    exact ⟨h1, h2⟩
  · have hfell : countedFall r.val (modRail (judgedOut k code s) r (fun x => Rail.notePg { x with supIn := false } (judgedOut k code s).hem.ticks x)) =
        modRail (judgedOut k code s) r (fun x => Rail.notePg { x with supIn := false } (judgedOut k code s).hem.ticks x) := by
      unfold countedFall
      dsimp only
      rw [rail_val, modRail_self, Rail.notePg_rest]
      dsimp only
      rw [hrails, hs, hq]
      rfl
    have hself := pgChange_falls (r := r) (f := fun x => { x with supIn := false }) (s := judgedOut k code s) (supIn_off _)
    have hdom : (pgChange r (fun x => { x with supIn := false }) (judgedOut k code s)).dom = s.dom := by
      unfold pgChange
      dsimp only
      rw [hfell, ite_self]
      rfl
    rw [if_neg (by rw [hs]; decide)]
    refine ⟨?_, pgChange_cells .., hdom⟩
    rw [hself, hrails]
    have hnot : Rail.fell { s.rails[r] with supIn := false } = { s.rails[r] with supIn := false } :=
      if_neg (by dsimp only; rw [hs, hq]; decide)
    rw [hnot, ite_self]

/-! ## A scan -/

theorem get64 {α : Type} (v : Vector α 64) (k : Fin 64) : v[Fin.ofNat 64 k.val] = v[k] := by
  congr 1
  exact Fin.ext (Nat.mod_eq_of_lt k.isLt)

/-- The code a scan takes of an input (R251). -/
def scanCode (codes : List Nat) (s : State) (k : Nat) : Nat := if 60 ≤ k then 0 else min 4095 (codes.getD k (s.sup.inputs[Fin.ofNat 64 k]).code)

theorem scanCode_of {codes : List Nat} (h : codes.length = 64) (s : State) (k : Fin 64) :
    min 4095 (scanCode codes s k.val) = if k.val < 60 then min 4095 (codes.getD k.val 0) else 0 := by
  have hget : codes.getD k.val (s.sup.inputs[Fin.ofNat 64 k.val]).code = codes.getD k.val 0 := by
    have hk : k.val < codes.length := by omega
    rw [List.getD_eq_getElem _ _ hk, List.getD_eq_getElem _ _ hk]
  unfold scanCode
  rw [hget]
  by_cases hk : k.val < 60
  · rw [if_neg (by omega), if_pos hk]
    omega
  · rw [if_pos (by omega), if_neg hk]
    rfl

/-- The inputs after a scan (R251). -/
def scanInputs (codes : List Nat) (s : State) : Vector SupIn 64 :=
  mapIdx s.sup.inputs (fun k i => i.sample (scanCode codes s k) s.sup.judgeN (inWindow s k (scanCode codes s k)))

theorem takeSamples_supcore (codes : List Nat) (s : State) :
    (takeSamples codes s).sup.core = { s.sup with inputs := scanInputs codes s }.core :=
  foldl_keeps (g := fun t => t.sup.core) (fun _ _ => pgChange_supcore ..) ..

theorem takeSamples_domcore (codes : List Nat) (s : State) : (takeSamples codes s).dom.core = s.dom.core :=
  foldl_keeps (g := fun t => t.dom.core) (fun _ _ => pgChange_domcore ..) ..

theorem scanInputs_code (codes : List Nat) (s : State) (k : Fin 64) : (scanInputs codes s)[k].code = min 4095 (scanCode codes s k.val) := by
  unfold scanInputs
  rw [mapIdx_get]
  rfl

theorem scanInputs_window (codes : List Nat) (s : State) (k : Fin 64) : (scanInputs codes s)[k].lo = s.sup.inputs[k].lo ∧
    (scanInputs codes s)[k].hi = s.sup.inputs[k].hi ∧ (scanInputs codes s)[k].act = s.sup.inputs[k].act := by
  unfold scanInputs
  rw [mapIdx_get]
  exact ⟨rfl, rfl, rfl⟩

/-- The state in which the inputs have been sampled and the trips cleared that clear themselves (R209, R251). -/
def sampledScan (codes : List Nat) (s : State) : State := (upto 48).foldl (fun t r => autoClear r t) (takeSamples codes s)

theorem sampledScan_keeps (codes : List Nat) (s : State) :
    (sampledScan codes s).sup.core = { s.sup with inputs := scanInputs codes s }.core ∧
    (sampledScan codes s).dom.core = s.dom.core ∧ (sampledScan codes s).cells = s.cells :=
  ⟨(foldl_keeps (g := fun t => t.sup.core) (fun _ _ => congrArg Sup.core (autoClear_sup ..)) ..).trans (takeSamples_supcore ..),
    (foldl_keeps (g := fun t => t.dom.core) (fun _ _ => congrArg Dom.core (autoClear_dom ..)) ..).trans (takeSamples_domcore ..),
    (foldl_keeps (g := fun t => t.cells) (fun _ _ => autoClear_cells ..) ..).trans (takeSamples_cells ..)⟩

/-- The state in which the input in turn has been compared (R256). -/
def compared (codes : List Nat) (cross : Option (Fin 60 × Int)) (s : State) : State :=
  if s.proto.running ∧ crossMay s (cross.map (fun x => x.1.val)) then
    match cross with
    | some (k, reading) =>
      let ch := if k.val < 48 then k.val else 0xC0 + (k.val - 48)
      crossCheck k.val (spanOf ch reading).1 (holdSystem ch reading (sampledScan codes s))
    | none => skipScan (sampledScan codes s)
  else sampledScan codes s

theorem compared_keeps (codes : List Nat) (cross : Option (Fin 60 × Int)) (s : State) :
    (compared codes cross s).sup.core = { s.sup with inputs := scanInputs codes s }.core ∧
    (compared codes cross s).dom.core = s.dom.core ∧ (compared codes cross s).cells = s.cells := by
  obtain ⟨hsup, hdom, hcells⟩ := sampledScan_keeps codes s
  unfold compared
  split
  · split
    · dsimp only
      rw [crossCheck_supcore, crossCheck_domcore, crossCheck_cells, holdSystem_sup, holdSystem_dom, holdSystem_cells]
      exact ⟨hsup, hdom, hcells⟩
    · rw [skipScan_sup, skipScan_dom, skipScan_cells]
      exact ⟨hsup, hdom, hcells⟩
  · exact ⟨hsup, hdom, hcells⟩

theorem exec_scan {codes : List Nat} {cross : Option (Fin 60 × Int)} {s : State} (h : s.converts = true) : exec (.supervisorScanEnd codes cross) s =
    .next (takeSupConfig { compared codes cross s with
      sup := { (compared codes cross s).sup with xptr := ((compared codes cross s).sup.xptr + 1) % 60 } }) := by
  have hx : exec (.supervisorScanEnd codes cross) s = execSupervisorScanEnd codes cross s := rfl
  rw [hx]
  unfold execSupervisorScanEnd
  dsimp only
  rw [if_pos h]
  rfl

/-- A configuration record changes an input's code never, and its input alone (R246). -/
theorem supRecord_code (x : Nat × Nat × Nat × Nat) (k : Fin 64) (t : State) : ((supRecord t x).sup.inputs[k]).code = (t.sup.inputs[k]).code := by
  unfold supRecord modInput
  dsimp only
  by_cases h : Fin.ofNat 64 x.1 = k
  · rw [← h, upd_self]
  · rw [upd_other _ _ _ _ h]

/-- What the configuration taken at a scan's end leaves (R251). -/
theorem takeSupConfig_keeps (t : State) : (takeSupConfig t).sup.xptr = t.sup.xptr ∧ (takeSupConfig t).sup.cfgNext = none ∧
    ∀ k : Fin 64, (takeSupConfig t).sup.inputs[k].code = t.sup.inputs[k].code := by
  unfold takeSupConfig
  split
  next n recs _ =>
    exact ⟨foldl_keeps (f := supRecord) (g := fun t => t.sup.xptr) (fun _ _ => rfl) recs t, rfl,
      fun k => foldl_keeps (f := supRecord) (g := fun t => (t.sup.inputs[k]).code) (fun t x => supRecord_code x k t) recs t⟩
  next h => exact ⟨rfl, h, fun _ => rfl⟩

theorem takeSupConfig_one {t : State} {k : Fin 64} {n lo hi act : Nat} (h : t.sup.cfgNext = some (n, [(k.val, lo, hi, act)])) :
    (takeSupConfig t).sup.judgeN = n ∧ (takeSupConfig t).sup.inputs[k] = { t.sup.inputs[k] with
      lo := lo, hi := hi, act := if k.val < 48 then t.sup.inputs[k].act else act, inCnt := 0, outCnt := 0, judged := false } := by
  have hk : Fin.ofNat 64 k.val = k := Fin.ext (Nat.mod_eq_of_lt k.isLt)
  unfold takeSupConfig
  rw [h]
  refine ⟨rfl, ?_⟩
  dsimp only [List.foldl_cons, List.foldl_nil]
  unfold supRecord
  rw [hk]
  exact upd_self ..

/-- The comparison marks the rail whose input and reading differ (R256). -/
theorem crossCheck_marks {r : Fin 48} {x : Int} {s : State} (h : crossFails r.val (s.sup.inputs[Fin.ofNat 64 r.val]).code x = true) :
    (crossCheck r.val x s).rails[r].prot.supXchk = true := by
  unfold crossCheck
  rw [if_pos h, if_pos r.isLt, rail_of_rails (capture_rails ..), rail_of_rails (pgEvent_rails ..), modRail_val_self]

/-! ## The configuration and the log -/

theorem supervisorConfigOp_paramCheck {q : Req} (hl : q.params.length = 4 + 8 * byteAt q.params 2) (h1 : byteAt q.params 1 < 64)
    (h2 : 1 ≤ byteAt q.params 2) (h3 : byteAt q.params 2 ≤ 48) (h4 : byteAt q.params 1 + byteAt q.params 2 ≤ 64) :
    supervisorConfigOp.paramCheck 2 q.params = none := by
  have hb : supBad 2 q.params = none := by
    have hf : firstBad q.params [{ off := 1, hi := 63 }, { off := 2, lo := 1, hi := 48 }] = none := by
      have ho1 : fieldAt q.params 1 1 ≤ 63 := by
        rw [fieldAt_one]
        omega
      have ho2 : 1 ≤ fieldAt q.params 2 1 ∧ fieldAt q.params 2 1 ≤ 48 := by
        rw [fieldAt_one]
        omega
      simp [firstBad, ho1, ho2]
    unfold supBad
    rw [hf, if_neg (by omega)]
    rfl
  have hbig : ¬ (496 < 4 + 8 * byteAt q.params 2) := by omega
  have hmin : ¬ (4 + 8 * byteAt q.params 2 ≤ 2) := by omega
  simp [OpSpec.paramCheck, supervisorConfigOp, hb, plenLimit, Plen.expected, hl, hbig, hmin]

theorem pressings_congr {s t : State} (h : t.sup = s.sup) : pressings t = pressings s := by
  unfold pressings
  rw [h]

/-- A pressing is read in halves, without a capture (R255). -/
theorem pressingReadOp_run {q : Req} (h : natBit (byteAt q.params 4) 1 = false) (s : State) : pressingReadOp.run q s =
    match (pressings s).find? (fun p => decide (p.seq = if fieldAt q.params 0 4 = 0xFFFFFFFF then newestSeq s else fieldAt q.params 0 4)),
      (pressings s).head? with
    | some p, some o => (s, .reply .done (le32 o.seq ++ le32 (newestSeq s) ++
        (p.bytes.drop (b2n (natBit (byteAt q.params 4) 0) * 256)).take 256))
    | _, _ => (s, .reply .notPresent [0xFF, 0xFF]) := by
  unfold pressingReadOp
  dsimp only
  rw [h]
  rfl

/-- Settles O36: a judgement, a scan and a pressing are their operations on the supervisor, which captures leave as it was but for its buffers. -/
theorem supervisorAndPressingLog : Obligations.SupervisorAndPressingLog := by
  intro s
  refine ⟨fun k code => ⟨exec_judgement_skipped, fun hj hk hw hn hc => ?_⟩, fun hc codes cross => ?_, fun codes cross hl hc => ?_, fun h => ?_,
    fun p rest hb hr => ?_, fun q => ⟨fun hr hl h1 h2 h3 h4 hcfg => ?_, fun hr hl hb => ⟨fun hno => ?_, fun p o ho hp hseq hlast huniq => ?_⟩⟩⟩
  case refine_1 =>
    have hx := exec_judgement hj hk hw hn hc
    generalize hu : (if h : k.val < 48 then pgChange ⟨k.val, h⟩ (fun x => { x with supIn := false }) (judgedOut k code s)
      else judgedOut k code s) = u at hx
    obtain ⟨hsup, hhem, hchg, htherm⟩ : u.sup.core = (judgedOut k code s).sup.core ∧ u.hem = s.hem ∧ u.chg = s.chg ∧ u.therm = s.therm := by
      rw [← hu]
      split
      · rw [pgChange_supcore, pgChange_hem, pgChange_chg, pgChange_therm]
        exact ⟨rfl, rfl, rfl, rfl⟩
      · exact ⟨rfl, rfl, rfl, rfl⟩
    have hmodule : 48 ≤ k.val → u = judgedOut k code s := fun h => by rw [← hu, dif_neg (Nat.not_lt.mpr h)]
    have hact : (judgedOut k code s).sup.inputs[k].act = s.sup.inputs[k].act := by
      rw [(judgedOut_inputs k code s (judgedOut k code s) rfl).1]
    obtain ⟨hk', hother⟩ := judgedOut_inputs k code s (judge k u) ((judge_supcore k u).trans hsup)
    have hrail : ∀ r : Fin 48, r.val = k.val → judge k u = judge k (pgChange r (fun x => { x with supIn := false }) (judgedOut k code s)) :=
      fun r hr => by rw [← hu, judge_railInput hr]
    refine ⟨_, hx, hk', hother, (judge_hem ..).trans hhem, (judge_chg ..).trans hchg, (judge_therm ..).trans htherm, fun h1 h2 => ?_, fun h1 h2 => ?_,
      fun h1 h2 h3 => ?_, fun r hr hs hd => ?_, fun r hr hs hq => ?_⟩
    · rw [hmodule h1]
      exact (judge_module h1).1 (by rw [hact]; exact h2)
    · rw [hmodule h1, (judge_module h1).2.1 (by rw [hact]; exact h2)]
      rfl
    · rw [hmodule h1]
      exact (judge_module h1).2.2 (by rw [hact]; exact h2) h3
    · rw [hrail r hr]
      exact (judgement_rail hr).1 hs hd
    · rw [hrail r hr]
      exact (judgement_rail hr).2 hs hq
  case refine_2 =>
    have hx : exec (.supervisorScanEnd codes cross) s = execSupervisorScanEnd codes cross s := rfl
    rw [hx]
    unfold execSupervisorScanEnd
    dsimp only
    rw [if_neg (by rw [hc]; decide)]
  case refine_3 =>
    obtain ⟨hsup, hdom, hcells⟩ := compared_keeps codes cross s
    obtain ⟨u, hu⟩ : ∃ u, u = { compared codes cross s with
      sup := { (compared codes cross s).sup with xptr := ((compared codes cross s).sup.xptr + 1) % 60 } } := ⟨_, rfl⟩
    have hx := exec_scan (codes := codes) (cross := cross) hc
    rw [← hu] at hx
    have hin : u.sup.inputs = scanInputs codes s := by
      rw [hu]
      exact Sup.get hsup Sup.inputs (fun _ => rfl)
    obtain ⟨hptr, hcfg, hcode⟩ := takeSupConfig_keeps u
    refine ⟨_, hx, ?_, hcfg, ?_, ?_, fun k => ?_, fun hno => ?_, fun n lo hi act k hone => ?_, fun k reading r hcr hrk hrun hturn hfail => ?_⟩
    · rw [hptr, hu]
      exact congrArg (fun n => (n + 1) % 60) (Sup.get hsup Sup.xptr (fun _ => rfl))
    · rw [takeSupConfig_cells, hu]
      exact hcells
    · rw [takeSupConfig_dom, hu]
      exact Dom.get hdom Dom.st (fun _ => rfl)
    · rw [hcode, hin, scanInputs_code, scanCode_of hl]
    · have hn : u.sup.cfgNext = none := by
        rw [hu]
        exact (Sup.get hsup Sup.cfgNext (fun _ => rfl)).trans hno
      have hid : takeSupConfig u = u := by
        unfold takeSupConfig
        rw [hn]
      rw [hid]
      refine ⟨?_, fun k => ?_⟩
      · rw [hu]
        exact Sup.get hsup Sup.judgeN (fun _ => rfl)
      · rw [hin]
        exact scanInputs_window codes s k
    · have hn : u.sup.cfgNext = some (n, [(k.val, lo, hi, act)]) := by
        rw [hu]
        exact (Sup.get hsup Sup.cfgNext (fun _ => rfl)).trans hone
      obtain ⟨hone', hself⟩ := takeSupConfig_one hn
      rw [hself, hin, (scanInputs_window codes s k).2.2]
      exact ⟨hone', rfl, rfl, rfl, rfl⟩
    · rw [rail_of_rails (takeSupConfig_rails u)]
      subst hcr
      have hk48 : k.val < 48 := by omega
      have hcmp : compared codes (some (k, reading)) s = crossCheck r.val (spanOf k.val reading).1 (holdSystem k.val reading (sampledScan codes s)) := by
        unfold compared
        rw [if_pos ⟨hrun, by simp [crossMay, hturn]⟩]
        dsimp only
        rw [if_pos hk48, hrk]
      have hmark := crossCheck_marks (r := r) (x := (spanOf k.val reading).1) (s := holdSystem k.val reading (sampledScan codes s)) ?_
      · rw [← hcmp] at hmark
        rw [hu]
        exact hmark
      · have hcodes := scanInputs_code codes s ⟨r.val, by omega⟩
        rw [scanCode_of hl, if_pos (by dsimp only; omega)] at hcodes
        have hin' : (holdSystem k.val reading (sampledScan codes s)).sup.inputs = scanInputs codes s := by
          rw [holdSystem_sup]
          exact Sup.get (sampledScan_keeps codes s).1 Sup.inputs (fun _ => rfl)
        have hcode' : ((holdSystem k.val reading (sampledScan codes s)).sup.inputs[Fin.ofNat 64 r.val]).code = min 4095 (codes.getD r.val 0) := by
          rw [hin', ← hcodes]
          exact congrArg SupIn.code (get64 (scanInputs codes s) ⟨r.val, by omega⟩)
        rw [hcode', hrk]
        exact hfail
  case refine_4 =>
    have hx : exec .pressingWrite s = execPressingWrite s := rfl
    rw [hx, execPressingWrite]
    cases hb : s.sup.bufs with
    | nil => rfl
    | cons p rest =>
      obtain h | h := h
      · exact absurd (hb.symm.trans h) (List.cons_ne_nil _ _)
      · exact congrArg Host.Outcome.next (if_neg (by rw [h]; decide))
  case refine_5 =>
    have hx : exec .pressingWrite s = .next (pulse 455 { s with sup := { s.sup with
        bufs := rest, log := (if s.sup.log.length < 4096 then s.sup.log else s.sup.log.drop 128) ++ [p] } }) := by
      have hx : exec .pressingWrite s = execPressingWrite s := rfl
      rw [hx, execPressingWrite, hb]
      exact congrArg Host.Outcome.next (if_pos hr)
    refine ⟨_, hx, ?_, ?_⟩
    · rw [pulse_only]
    · rw [pulse_sup]
  case refine_6 =>
    refine completes_of_reply (o := supervisorConfigOp) (t := { arrived q s with sup := { s.sup with
      cfgNext := some (clampNat 1 8 (byteAt q.params 0), supRecords q.params) } }) rfl hr (supervisorConfigOp_paramCheck hl h1 h2 h3 h4) ?_
      ((congrArg Proto.waiting (arrived_proto q s)).trans hr.empty) rfl
    unfold supervisorConfigOp
    dsimp only
    rw [arrived_sup, hcfg]
    rfl
  case refine_7 =>
    refine completes_of_reply (o := pressingReadOp) (t := arrived q s) rfl hr (fixed_paramCheck (n := 8) (by decide) (by decide) rfl hl rfl) ?_
      ((congrArg Proto.waiting (arrived_proto q s)).trans hr.empty) rfl
    rw [pressingReadOp_run hb, pressings_congr (arrived_sup q s), hno]
    rfl
  case refine_8 =>
    have hnew : newestSeq (arrived q s) = newestSeq s := by
      unfold newestSeq
      rw [pressings_congr (arrived_sup q s)]
    refine completes_of_reply (o := pressingReadOp) (t := arrived q s) rfl hr (fixed_paramCheck (n := 8) (by decide) (by decide) rfl hl rfl) ?_
      ((congrArg Proto.waiting (arrived_proto q s)).trans hr.empty) rfl
    have hfind : (pressings s).find? (fun x => decide (x.seq = p.seq)) = some p := by
      cases hf : (pressings s).find? (fun x => decide (x.seq = p.seq)) with
      | none => exact absurd (decide_eq_true rfl) (List.find?_eq_none.mp hf p hp)
      | some x => rw [huniq x (List.mem_of_find?_eq_some hf) (by simpa using List.find?_some hf)]
    rw [pressingReadOp_run hb, pressings_congr (arrived_sup q s), ← hseq, if_neg hlast, hfind, ho, hnew]

end Sys2Proof.Machine
end

section
/-! PROOF. The telemetry commands (R263-R267, R272, R276, R278-R282). -/

namespace Sys2Proof.Machine

/-! ## TSEQ_SET -/

theorem target_paramCheck {o : OpSpec} {p : List Byte} {n : Nat} (hv : o.v ≤ 2) (ho : o.plen = .target) (hl : p.length = n) (h0 : n ≠ 0)
    (hn : n = if byteAt p 0 < 0x80 then 52 else if byteAt p 0 < 0xF0 then 12 else 8) (hb : o.bad 2 p = none) : o.paramCheck 2 p = none := by
  have hlim : ¬ (496 < n) := by
    rw [hn]
    split
    · decide
    · split <;> decide
  simp [OpSpec.paramCheck, ho, hb, plenLimit, Plen.expected, hl, hlim, hv, h0, ← hn]

theorem tseqBad_seq {p : List Byte} (h0 : byteAt p 0 ≤ 7) (h1 : byteAt p 6 = 1 ∨ byteAt p 6 = 3 → byteAt p 7 ≤ 7)
    (h2 : byteAt p 6 = 2 → byteAt p 7 ≤ 47) : tseqBad 2 p = none := by
  unfold tseqBad
  dsimp only
  rw [if_pos h0]
  split
  next h =>
    have := h1 (.inl h)
    simp [firstBad, fieldAt_one, this]
  next h =>
    have := h2 h
    simp [firstBad, fieldAt_one, this]
  next h =>
    have := h1 (.inr h)
    simp [firstBad, fieldAt_one, this]
  · rfl

theorem tseqSetOp_seq {q : Req} {k : Fin 8} (h : byteAt q.params 0 = k.val) (s : State) : tseqSetOp.run q s =
    if s.tlm.seqs[k].running = true then refuse s 5 1 k.val else done0 (modSeq k (TSeq.write (q.params.drop 4)) s) := by
  have hk : Fin.ofNat 8 (byteAt q.params 0) = k := Fin.ext ((Nat.mod_eq_of_lt (by omega)).trans h)
  subst hk
  unfold tseqSetOp
  refine (if_pos (by omega : byteAt q.params 0 ≤ 7)).trans ?_
  have hr : refuse s 5 1 (byteAt q.params 0) = refuse s 5 1 (Fin.ofNat 8 (byteAt q.params 0)).val := congrArg (refuse s 5 1) h
  rw [hr]

theorem TSeq.write_eq (p : List Byte) (x : TSeq) : x.write (p.drop 4) = { x with
    conv := byteAt p 4 % 16, urgent := natBit (byteAt p 5) 0, single := natBit (byteAt p 5) 1
    kind := byteAt p 6, trig := byteAt p 7, evt := byteAt p 8, q := byteAt p 9
    decim := byteAt p 10, count := byteAt p 11, delay := fieldAt p 12 2
    entries := (upto 16).map (fun i => (fieldAt p (20 + 2 * i) 2 % 1024, fieldAt p (20 + 2 * i) 2 / 1024 % 8)), noEvent := false } := by
  have he : ∀ i, 4 + (0x10 + 2 * i) = 20 + 2 * i := fun i => by omega
  unfold TSeq.write
  simp only [byteAt_drop, fieldAt_drop, he]

theorem tseqSetOp_timer {q : Req} {k : Fin 8} (h : byteAt q.params 0 = 0x80 + k.val) (s : State) : tseqSetOp.run q s =
    done0 { s with tlm := { s.tlm with timers := upd s.tlm.timers k (timerOf (q.params.drop 4)) } } := by
  have hk : Fin.ofNat 8 (byteAt q.params 0) = k := Fin.ext (by
    rw [h]
    change (128 + k.val) % 8 = k.val
    omega)
  subst hk
  unfold tseqSetOp
  exact (if_neg (by omega : ¬ byteAt q.params 0 ≤ 7)).trans (if_pos (by omega))

theorem tseqSetOp_system {q : Req} (h : byteAt q.params 0 = 0xF0) (h4 : byteAt q.params 4 ≤ 3) (s : State) : tseqSetOp.run q s =
    done0 (bump { s with tlm := { s.tlm with sysOld := s.tlm.sysConv, sysConv := byteAt q.params 4 } }) := by
  unfold tseqSetOp
  refine (if_neg (by omega : ¬ byteAt q.params 0 ≤ 7)).trans ((if_neg (by omega)).trans ?_)
  rw [if_pos h4]

/-! ## TSEQ_START and TSEQ_STOP -/

theorem seqByte {p : List Byte} {k : Fin 8} (h : p = [byte k.val]) : byteAt p 0 = k.val ∧ p.length = 1 := by
  subst h
  exact ⟨Nat.mod_eq_of_lt (by omega), rfl⟩

theorem seq_paramCheck {o : OpSpec} {p : List Byte} {k : Fin 8} (hv : o.v ≤ 2) (ho : o.plen = .fixed 1)
    (hb : o.bad = fun _ p => firstBad p [{ off := 0, hi := 7 }]) (h : p = [byte k.val]) : o.paramCheck 2 p = none := by
  obtain ⟨h0, hl⟩ := seqByte h
  refine fixed_paramCheck (n := 1) (by decide) hv ho hl ?_
  have : fieldAt p 0 1 ≤ 7 := by
    rw [fieldAt_one, h0]
    omega
  simp [hb, firstBad, this]

/-- The sequence started from its first run (R264). -/
def TSeq.started (x : TSeq) : TSeq := { x with running := true, dec := 0, run := 0 }

theorem tseqStartOp_run {q : Req} {k : Fin 8} (h : q.params = [byte k.val]) (s : State) : tseqStartOp.run q s =
    if s.tlm.seqs[k].running = true then refuse s 5 1 k.val
    else if s.tlm.seqs[k].kindN = 0 then started (bump (trigger k (fabricNow s) (modSeq k TSeq.started s)))
    else if s.tlm.seqs[k].single = true then started (modSeq k TSeq.started s)
    else done0 (modSeq k TSeq.started s) := by
  have hk : Fin.ofNat 8 (byteAt q.params 0) = k := Fin.ext ((Nat.mod_eq_of_lt (by rw [(seqByte h).1]; omega)).trans (seqByte h).1)
  subst hk
  rfl

theorem tseqStopOp_run {q : Req} {k : Fin 8} (h : q.params = [byte k.val]) (s : State) : tseqStopOp.run q s =
    done0 (modSeq k (fun y => { y with running := false, delayed := false, waiting := false, stopping := y.stopping || y.converting }) s) := by
  have hk : Fin.ofNat 8 (byteAt q.params 0) = k := Fin.ext ((Nat.mod_eq_of_lt (by rw [(seqByte h).1]; omega)).trans (seqByte h).1)
  subst hk
  rfl

theorem modSeq_self (q : Fin 8) (f : TSeq → TSeq) (s : State) : (modSeq q f s).tlm.seqs[q] = f s.tlm.seqs[q] := upd_self ..

theorem modSeq_other {q j : Fin 8} (h : j ≠ q) (f : TSeq → TSeq) (s : State) : (modSeq q f s).tlm.seqs[j] = s.tlm.seqs[j] :=
  upd_other _ _ _ _ h.symm

theorem modSeq_modSeq (q : Fin 8) (f g : TSeq → TSeq) (s : State) : modSeq q f (modSeq q g s) = modSeq q (fun x => f (g x)) s := by
  unfold modSeq
  dsimp only
  rw [upd_self]
  simp only [upd, Vector.set_set]

theorem modSeq_id {q : Fin 8} {f : TSeq → TSeq} {s : State} (h : f s.tlm.seqs[q] = s.tlm.seqs[q]) : modSeq q f s = s := by
  unfold modSeq
  rw [h, upd_get_self]

/-- Two changes that agree on the sequence as it stands are one. -/
theorem modSeq_congr {q : Fin 8} {f g : TSeq → TSeq} {s : State} (h : f s.tlm.seqs[q] = g s.tlm.seqs[q]) : modSeq q f s = modSeq q g s := by
  unfold modSeq
  rw [h]

/-- A trigger without an overrun is the sequence triggered (R265). -/
theorem trigger_begins {q : Fin 8} {tick : Nat} {s : State} (h1 : s.tlm.seqs[q].delayed = false) (h2 : s.tlm.seqs[q].waiting = false)
    (h3 : s.tlm.seqs[q].converting = false) : trigger q tick s = modSeq q (triggered tick) s := by
  have hb : (s.tlm.seqs[q].delayed || s.tlm.seqs[q].waiting || s.tlm.seqs[q].converting) = false := by rw [h1, h2, h3]; rfl
  unfold trigger
  dsimp only
  by_cases hr : s.tlm.seqs[q].running = false
  · rw [if_pos hr, modSeq_id (f := triggered tick) (if_pos hr)]
  · rw [if_neg hr]
    by_cases hd : s.tlm.seqs[q].dec = 0
    · rw [if_neg (not_not.mpr hd), hb, if_neg (by decide), modSeq_modSeq]
      refine modSeq_congr ?_
      unfold triggered
      dsimp only
      rw [if_neg hr, if_neg (not_not.mpr hd), hb, if_neg (by decide), hd]
    · rw [if_pos hd]
      refine modSeq_congr ?_
      unfold triggered
      dsimp only
      rw [if_neg hr, if_pos hd]

/-- What a trigger makes of its sequence (R265, R276). -/
theorem trigger_tlm (q : Fin 8) (tick : Nat) (s : State) : (trigger q tick s).tlm = (modSeq q (triggered tick) s).tlm := by
  by_cases hb : (s.tlm.seqs[q].delayed || s.tlm.seqs[q].waiting || s.tlm.seqs[q].converting) = true
  · unfold trigger
    dsimp only
    by_cases hr : s.tlm.seqs[q].running = false
    · rw [if_pos hr, modSeq_id (f := triggered tick) (if_pos hr)]
    · rw [if_neg hr]
      by_cases hd : s.tlm.seqs[q].dec = 0
      · rw [if_neg (not_not.mpr hd), if_pos hb, countEvent_tlm, modSeq_modSeq]
        refine congrArg State.tlm (modSeq_congr ?_)
        unfold triggered
        dsimp only
        rw [if_neg hr, if_neg (not_not.mpr hd), if_pos hb, hd]
        rfl
      · rw [if_pos hd]
        refine congrArg State.tlm (modSeq_congr ?_)
        unfold triggered
        dsimp only
        rw [if_neg hr, if_pos hd]
  · rw [Bool.not_eq_true, Bool.or_eq_false_iff, Bool.or_eq_false_iff] at hb
    rw [trigger_begins hb.1.1 hb.1.2 hb.2]

/-! ## READ_CHANNEL -/

theorem roundDiv_span {a : Int} {b : Nat} (hb : 0 < b) (h0 : 0 ≤ a) (h1 : a ≤ 65535 * b) : 0 ≤ roundDiv a b ∧ roundDiv a b ≤ 65535 := by
  unfold roundDiv
  rw [if_neg (by omega), if_pos h0]
  constructor
  · exact Int.ediv_nonneg (by omega) (by omega)
  · have hlt : (2 * a + b) / (2 * b) < 65536 := Int.ediv_lt_of_lt_mul (by omega) (by omega)
    omega

theorem spanOf_lands {ch : Nat} (h : ch < 0xCC) (v : Int) : 0 ≤ (spanOf ch v).1 ∧ (spanOf ch v).1 ≤ 65535 := by
  have hd : derivedChannel ch = false := by
    unfold derivedChannel
    simp
    omega
  have hr : reservedChannel ch = false := by
    unfold reservedChannel
    simp
    omega
  unfold spanOf
  rw [if_neg (by rw [hd]; decide), if_neg (by rw [hr]; decide)]
  dsimp only
  rw [if_neg (by omega)]
  exact clampInt_span v (by decide)

/-- A conversion of a land is within its span (R264). -/
theorem convertNow_span {ch : Nat} (h : ch < 0xCC) (avg : Nat) (s : State) : 0 ≤ (convertNow s ch avg).1 ∧ (convertNow s ch avg).1 ≤ 65535 := by
  have hsum : ∀ l : List Nat, 0 ≤ ((l.map (fun i => spanOf ch (Config.conversion (s.free + i) ch))).map Prod.fst).sum ∧
      ((l.map (fun i => spanOf ch (Config.conversion (s.free + i) ch))).map Prod.fst).sum ≤ 65535 * (l.length : Int) := by
    intro l
    induction l with
    | nil => exact ⟨by simp, by simp⟩
    | cons i l ih =>
      obtain ⟨h1, h2⟩ := spanOf_lands h (Config.conversion (s.free + i) ch)
      simp only [List.map_cons, List.sum_cons, List.length_cons]
      push_cast
      omega
  obtain ⟨h1, h2⟩ := hsum (upto (2 ^ avg))
  have hlen : (upto (2 ^ avg)).length = 2 ^ avg := List.length_range
  rw [hlen] at h2
  exact roundDiv_span (Nat.two_pow_pos avg) h1 (by exact_mod_cast h2)

theorem readChannelOp_paramCheck {q : Req} (hl : q.params.length = 4) (h : fieldAt q.params 0 2 < 1024) :
    readChannelOp.paramCheck 2 q.params = none := by
  refine fixed_paramCheck (n := 4) (by decide) (by decide) rfl hl ?_
  have : fieldAt q.params 0 2 ≤ 0x3FF := by omega
  simp [readChannelOp, firstBad, this]

/-- The averaging a READ_CHANNEL asks for (R267, log entry 134). -/
def avgOf (q : Req) : Nat := if byteAt q.params 2 ≤ 7 then byteAt q.params 2 else 0

/-- What READ_CHANNEL does for a channel of no RETIRED cell (R267, R272). -/
theorem readChannelOp_run {q : Req} {s : State} (h : retiredChannel s (fieldAt q.params 0 2) = false) : readChannelOp.run q s =
    if byteAt q.params 3 = 1 then
      match s.tlm.held.find? (fun x => decide (x.1 = fieldAt q.params 0 2)) with
      | some (_, v, stamp, flags, src) => done s (channelResult v stamp flags src)
      | none => absent s 0xFFFF
    else if derivedChannel (fieldAt q.params 0 2) = true then
      done (bump s) (channelResult (derivedValue s (fieldAt q.params 0 2)) (fabricNow s % 2 ^ 32) 0 0xFF)
    else if (s.tlm.busy[Fin.ofNat 4 s.tlm.sysConv]).isNone = true then
      done (readNow (fieldAt q.params 0 2) (avgOf q) s).1 (readNow (fieldAt q.params 0 2) (avgOf q) s).2
    else (s, .defer (.channel (fieldAt q.params 0 2) (avgOf q) s.tlm.sysConv)) := by
  unfold readChannelOp
  exact if_neg (by rw [h]; decide)

theorem derivedChannel_lands {ch : Nat} (h : ch < 0xCC) : derivedChannel ch = false := by
  unfold derivedChannel
  simp
  omega

theorem retiredChannel_congr {s t : State} (h : t.cells = s.cells) (ch : Nat) : retiredChannel t ch = retiredChannel s ch := by
  unfold retiredChannel
  rw [cell_congr h]

theorem railMa_congr {s t : State} (hm : t.map = s.map) (hc : t.cells = s.cells) (r : Nat) : t.railMa r = s.railMa r := by
  unfold State.railMa
  simp only [members_congr hm, cell_congr hc]

/-! ## The drops and the streams -/

theorem streamConfigOp_run {q : Req} {k : Fin 4} (h : byteAt q.params 0 = k.val) (s : State) : streamConfigOp.run q s =
    done0 (modStream k (fun y => { y with
      enable := natBit (byteAt q.params 1) 0, bcast := natBit (byteAt q.params 1) 1, seq := byteAt q.params 2, sdecim := byteAt q.params 3
      recs := byteAt q.params 4, dest := fieldAt q.params 6 2 % 4096, cnt := 0, part := [], gap := y.gap || y.enable }) s) := by
  have hk : Fin.ofNat 4 (byteAt q.params 0) = k := Fin.ext ((Nat.mod_eq_of_lt (by omega)).trans h)
  subst hk
  rfl

theorem streamConfigOp_paramCheck {q : Req} (hl : q.params.length = 8) {k : Fin 4} (h : byteAt q.params 0 = k.val) (h2 : byteAt q.params 2 < 8) :
    streamConfigOp.paramCheck 2 q.params = none := by
  refine fixed_paramCheck (n := 8) (by decide) (by decide) rfl hl ?_
  have h0 : fieldAt q.params 0 1 ≤ 3 := by
    rw [fieldAt_one]
    omega
  have h2' : fieldAt q.params 2 1 ≤ 7 := by
    rw [fieldAt_one]
    omega
  simp [streamConfigOp, firstBad, h0, h2']

/-! ## The obligation -/

/-- TSEQ_START of a command-triggered sequence makes its run due at once, or is an overrun (R265, R276). -/
theorem tseqStart_command {q : Req} {k : Fin 8} {s : State} (h : q.params = [byte k.val]) (hr : Ready 0x0802 q s)
    (hrun : s.tlm.seqs[k].running = false) (hk : s.tlm.seqs[k].kindN = 0) : Completes (.tseqStart q) 0x0802 q s .started [] (fun t =>
      t = bump (trigger k (fabricNow (arrived q s)) (modSeq k TSeq.started (arrived q s)))) := by
  refine completes_of_reply (o := tseqStartOp) rfl hr (seq_paramCheck (by decide) rfl rfl h) ?_ ?_ rfl
  · rw [tseqStartOp_run h, arrived_tlm, if_neg (by rw [hrun]; decide), if_pos hk]
    rfl
  · rw [bump_proto, trigger_proto]
    exact (congrArg Proto.waiting (arrived_proto q s)).trans hr.empty

theorem triggered_started {x : TSeq} (tick : Nat) (h1 : x.delayed = false) (h2 : x.waiting = false) (h3 : x.converting = false) :
    triggered tick x.started = { x with running := true, dec := 1 % x.decimN, run := 0, delayed := true, dueAt := tick + x.delay } := by
  have hr : ¬ x.started.running = false := Bool.noConfusion
  have hd : ¬ x.started.dec ≠ 0 := fun h => h rfl
  have hb : ¬ (x.started.delayed || x.started.waiting || x.started.converting) = true := by simp [TSeq.started, h1, h2, h3]
  unfold triggered
  dsimp only
  rw [if_neg hr, if_neg hd, if_neg hb]
  rfl

theorem triggered_overrun {x : TSeq} (tick : Nat) (hk : x.kindN = 0) (h : x.converting = true) : triggered tick x.started =
    { x with running := false, dec := 1 % x.decimN, run := 0, overruns := satInc 65535 x.overruns } := by
  have hr : ¬ x.started.running = false := Bool.noConfusion
  have hd : ¬ x.started.dec ≠ 0 := fun h => h rfl
  have hb : (x.started.delayed || x.started.waiting || x.started.converting) = true := by simp [TSeq.started, h]
  have hk' : decide (x.started.kindN ≠ 0) = false := decide_eq_false (not_not.mpr hk)
  unfold triggered
  dsimp only
  rw [if_neg hr, if_neg hd, if_pos hb, hk']
  rfl

theorem converter_congr {s t : State} (h : t.tlm = s.tlm) : t.tlm.busy[Fin.ofNat 4 t.tlm.sysConv] = s.tlm.busy[Fin.ofNat 4 s.tlm.sysConv] :=
  congrArg (fun x : Tlm => x.busy[Fin.ofNat 4 x.sysConv]) h

/-- Settles O37: each command is its handler on the state as it arrives, and a sequence written or started is one sequence changed. -/
theorem telemetryCommandsTakeEffect : Obligations.TelemetryCommandsTakeEffect := by
  intro q s
  have hempty : ∀ {op}, Ready op q s → (arrived q s).proto.waiting = [] := fun hr => by rw [arrived_proto]; exact hr.empty
  refine ⟨fun k hr h0 hl h1 h2 => ⟨fun hrun => ?_, fun hrun => ?_⟩, fun k hr h0 hl => ?_, fun hr h0 hl h4 => ?_,
    fun k hp => ⟨fun hr hrun => ?_, fun hr hrun hk => ?_, fun hr hrun hk hd hw hc => ?_, fun hr hrun hk hc => ?_, fun hr => ?_⟩,
    fun hr hl hch => ⟨fun hret => ?_, fun hret => ⟨fun v stamp flags src h3 hfind => ?_, fun h3 hno => ?_, fun h3 hlo hhi => ?_, fun h3 hlo hbusy => ?_,
      fun h3 hlo hfree => ?_⟩⟩, fun hr hl => ?_, fun k hr hl h0 h2 => ?_⟩
  case refine_1 =>
    refine completes_of_reply (o := tseqSetOp) rfl hr (target_paramCheck (by decide) rfl hl (by decide) (by rw [if_pos (by omega)])
      (tseqBad_seq (by omega) h1 h2)) (t := arrived q s) ?_ (hempty hr) rfl
    rw [tseqSetOp_seq h0, arrived_tlm, if_pos hrun]
    rfl
  case refine_2 =>
    refine completes_of_reply (o := tseqSetOp) rfl hr (target_paramCheck (by decide) rfl hl (by decide) (by rw [if_pos (by omega)])
      (tseqBad_seq (by omega) h1 h2)) (t := modSeq k (TSeq.write (q.params.drop 4)) (arrived q s)) ?_ (hempty hr) ?_
    · rw [tseqSetOp_seq h0, arrived_tlm, if_neg (by rw [hrun]; decide)]
      rfl
    · refine ⟨?_, fun j hj => by rw [modSeq_other hj, arrived_tlm], ?_⟩
      · unfold modSeq
        rw [arrived_tlm]
      · rw [modSeq_self, arrived_tlm, TSeq.write_eq]
        refine ⟨rfl, by simp [upto], fun i hi => ?_⟩
        have hlt : i < ((upto 16).map (fun i => (fieldAt q.params (20 + 2 * i) 2 % 1024, fieldAt q.params (20 + 2 * i) 2 / 1024 % 8))).length := by
          simpa [upto] using hi
        refine (List.getD_eq_getElem _ _ hlt).trans ?_
        simp [upto]
  case refine_3 =>
    refine completes_of_reply (o := tseqSetOp) rfl hr (target_paramCheck (by decide) rfl hl (by decide) (by rw [if_neg (by omega), if_pos (by omega)])
      ?_) (tseqSetOp_timer h0 (arrived q s)) (hempty hr) ?_
    · change tseqBad 2 q.params = none
      unfold tseqBad
      dsimp only
      rw [if_neg (by omega), if_pos (by omega)]
    · rw [arrived_tlm]
      unfold timerOf
      rw [fieldAt_drop, fieldAt_drop]
  case refine_4 =>
    refine completes_of_reply (o := tseqSetOp) rfl hr (target_paramCheck (by decide) rfl hl (by decide) (by rw [if_neg (by omega), if_neg (by omega)])
      ?_) (tseqSetOp_system h0 h4 (arrived q s)) (hempty hr) ?_
    · change tseqBad 2 q.params = none
      unfold tseqBad
      dsimp only
      rw [if_neg (by omega), if_pos (.inr h0)]
    · rw [arrived_tlm]
      unfold bump
      rw [arrived_free]
  case refine_5 =>
    refine completes_of_reply (o := tseqStartOp) rfl hr (seq_paramCheck (by decide) rfl rfl hp) (t := arrived q s) ?_ (hempty hr) rfl
    rw [tseqStartOp_run hp, arrived_tlm, if_pos hrun]
    rfl
  case refine_6 =>
    refine completes_of_reply (o := tseqStartOp) rfl hr (seq_paramCheck (by decide) rfl rfl hp) (t := modSeq k TSeq.started (arrived q s)) ?_ (hempty hr) ?_
    · rw [tseqStartOp_run hp, arrived_tlm, if_neg (by rw [hrun]; decide), if_neg hk]
      split <;> rfl
    · unfold modSeq
      rw [arrived_tlm]
      rfl
  case refine_7 =>
    obtain ⟨t, hx, rfl⟩ := tseqStart_command hp hr hrun hk
    refine ⟨_, hx, ?_⟩
    have hself : (modSeq k TSeq.started (arrived q s)).tlm.seqs[k] = TSeq.started s.tlm.seqs[k] := by rw [modSeq_self, arrived_tlm]
    rw [trigger_begins (by rw [hself]; exact hd) (by rw [hself]; exact hw) (by rw [hself]; exact hc), modSeq_modSeq]
    unfold modSeq bump
    dsimp only
    rw [arrived_tlm, arrived_free, triggered_started _ hd hw hc]
  case refine_8 =>
    obtain ⟨t, hx, rfl⟩ := tseqStart_command hp hr hrun hk
    refine ⟨_, hx, ?_, ?_⟩
    · rw [trigger_only]
      exact ⟨arrived_cells .., arrived_rails .., arrived_dom .., arrived_crease ..⟩
    · have htlm : (bump (trigger k (fabricNow (arrived q s)) (modSeq k TSeq.started (arrived q s)))).tlm =
          (modSeq k (triggered (fabricNow (arrived q s))) (modSeq k TSeq.started (arrived q s))).tlm := trigger_tlm ..
      rw [htlm, modSeq_self, modSeq_self, arrived_tlm, triggered_overrun _ hk hc]
  case refine_9 =>
    refine completes_of_reply (o := tseqStopOp) rfl hr (seq_paramCheck (by decide) rfl rfl hp) (tseqStopOp_run hp (arrived q s)) (hempty hr) ?_
    unfold modSeq
    rw [arrived_tlm]
  case refine_10 =>
    refine runOp_undef (o := readChannelOp) (t := arrived q s) hr (readChannelOp_paramCheck hl hch) ?_
    exact if_pos (by rw [retiredChannel_congr (arrived_cells q s)]; exact hret)
  case refine_11 =>
    refine completes_of_reply (o := readChannelOp) rfl hr (readChannelOp_paramCheck hl hch) (t := arrived q s) ?_ (hempty hr) rfl
    rw [readChannelOp_run (by rw [retiredChannel_congr (arrived_cells q s)]; exact hret), if_pos h3, arrived_tlm, hfind]
    rfl
  case refine_12 =>
    have hnone : s.tlm.held.find? (fun x => decide (x.1 = fieldAt q.params 0 2)) = none :=
      List.find?_eq_none.mpr fun x hx => by simpa using hno x hx
    refine completes_of_reply (o := readChannelOp) rfl hr (readChannelOp_paramCheck hl hch) (t := arrived q s) ?_ (hempty hr) rfl
    rw [readChannelOp_run (by rw [retiredChannel_congr (arrived_cells q s)]; exact hret), if_pos h3, arrived_tlm, hnone]
    rfl
  case refine_13 =>
    have hd : derivedChannel (fieldAt q.params 0 2) = true := by
      unfold derivedChannel
      simp
      omega
    have hv : derivedValue (arrived q s) (fieldAt q.params 0 2) = tenMa (s.railMa (fieldAt q.params 0 2 - 0x200)) := by
      unfold derivedValue
      rw [if_neg (by omega), if_pos (by omega), railMa_congr (arrived_map q s) (arrived_cells q s)]
    refine ⟨fabricNow (arrived q s) % 2 ^ 32, completes_of_reply (o := readChannelOp) rfl hr (readChannelOp_paramCheck hl hch)
      (t := bump (arrived q s)) ?_ (hempty hr) rfl⟩
    rw [readChannelOp_run (by rw [retiredChannel_congr (arrived_cells q s)]; exact hret), if_neg h3, if_pos hd, hv]
    rfl
  case refine_14 =>
    refine begins_of_run (o := readChannelOp) rfl hr (readChannelOp_paramCheck hl hch) (t := arrived q s) ?_ rfl
    rw [readChannelOp_run (by rw [retiredChannel_congr (arrived_cells q s)]; exact hret), if_neg h3,
      if_neg (by rw [derivedChannel_lands hlo]; decide), if_neg]
    · rw [arrived_tlm]
      rfl
    · rw [converter_congr (arrived_tlm q s), Option.isNone_iff_eq_none]
      exact Option.isSome_iff_ne_none.mp hbusy
  case refine_15 =>
    obtain ⟨h0, h1⟩ := convertNow_span hlo (avgOf q) (arrived q s)
    refine ⟨(convertNow (arrived q s) (fieldAt q.params 0 2) (avgOf q)).1, fabricNow (arrived q s) % 2 ^ 32,
      b2n (convertNow (arrived q s) (fieldAt q.params 0 2) (avgOf q)).2, h0, h1, Nat.lt_succ_of_le (b2n_le _),
      completes_of_reply (o := readChannelOp) rfl hr (readChannelOp_paramCheck hl hch) (t := (readNow (fieldAt q.params 0 2) (avgOf q) (arrived q s)).1)
        ?_ (hempty hr) ⟨rfl, ?_, ?_⟩⟩
    · rw [readChannelOp_run (by rw [retiredChannel_congr (arrived_cells q s)]; exact hret), if_neg h3,
        if_neg (by rw [derivedChannel_lands hlo]; decide), if_pos]
      · rfl
      · rw [converter_congr (arrived_tlm q s), hfree]
        rfl
    · exact (congrArg Tlm.seqs (arrived_tlm q s) : (arrived q s).tlm.seqs = s.tlm.seqs)
    · exact arrived_therm ..
  case refine_16 =>
    refine completes_of_reply (o := dropCountsOp) rfl hr (fixed_paramCheck (n := 1) (by decide) (by decide) rfl hl rfl)
      (t := if natBit (byteAt q.params 0) 0 then { arrived q s with tlm := (arrived q s).tlm.clearDrops } else arrived q s) ?_ ?_ ⟨fun h => ?_, fun h => ?_⟩
    · rw [← arrived_tlm q s]
      rfl
    · split
      · exact hempty hr
      · exact hempty hr
    · rw [if_neg (by rw [h]; decide)]
    · rw [if_pos h, arrived_tlm]
      exact ⟨rfl, rfl, fun k => mapIdx_get .., fun k => mapIdx_get ..⟩
  case refine_17 =>
    refine completes_of_reply (o := streamConfigOp) rfl hr (streamConfigOp_paramCheck hl h0 h2) (streamConfigOp_run h0 (arrived q s)) (hempty hr) ?_
    unfold modStream
    rw [arrived_tlm]

end Sys2Proof.Machine
end

section
/-! PROOF. The runs of the telemetry sequences (R265-R271, R274-R276, R281). -/

namespace Sys2Proof.Machine

/-! ## What is done to one sequence after another -/

/-- An operation on each item in turn, each changing its item alone. -/
theorem foldl_each {ι β : Type} [DecidableEq ι] {get : State → ι → β} {f : State → ι → State} {P : State → Prop} {Q : ι → β → β → Prop}
    (hstep : ∀ (q : ι) (t : State), P t → P (f t q) ∧ (∀ j, j ≠ q → get (f t q) j = get t j) ∧ Q q (get t q) (get (f t q) q))
    (l : List ι) (hd : l.Nodup) (t : State) (h : P t) : P (l.foldl f t) ∧
      ∀ q, (q ∉ l → get (l.foldl f t) q = get t q) ∧ (q ∈ l → Q q (get t q) (get (l.foldl f t) q)) := by
  induction l generalizing t with
  | nil => exact ⟨h, fun q => ⟨fun _ => rfl, fun hq => absurd hq List.not_mem_nil⟩⟩
  | cons r l ih =>
    obtain ⟨hrl, hd'⟩ := List.nodup_cons.mp hd
    obtain ⟨hP, hother, hself⟩ := hstep r t h
    obtain ⟨hP', hitems⟩ := ih hd' (f t r) hP
    refine ⟨hP', fun q => ⟨fun hq => ?_, fun hq => ?_⟩⟩
    · obtain ⟨hqr, hql⟩ := not_or.mp (mt List.mem_cons.mpr hq)
      rw [List.foldl_cons, (hitems q).1 hql, hother q hqr]
    · rw [List.foldl_cons]
      by_cases hqr : q = r
      · subst hqr
        rw [(hitems q).1 hrl]
        exact hself
      · rw [← hother q hqr]
        exact (hitems q).2 ((List.mem_cons.mp hq).resolve_left hqr)

theorem finRange_split (q : Fin 8) : List.finRange 8 = (List.finRange 8).take q.val ++ q :: (List.finRange 8).drop (q.val + 1) ∧
    (∀ j ∈ (List.finRange 8).take q.val, j < q) ∧ q ∉ (List.finRange 8).drop (q.val + 1) := by
  revert q
  decide

/-- A step that leaves a sequence alone unless it is called for. -/
structure StepOn (C : TSeq → Prop) (f : State → Fin 8 → State) : Prop where
  idle : ∀ (t : State) (j : Fin 8), ¬ C t.tlm.seqs[j] → f t j = t
  other : ∀ (t : State) (j k : Fin 8), k ≠ j → (f t j).tlm.seqs[k] = t.tlm.seqs[k]

namespace StepOn

variable {C : TSeq → Prop} {f : State → Fin 8 → State} (hf : StepOn C f)
include hf

/-- Steps that are not called for change nothing. -/
theorem skip (l : List (Fin 8)) (s : State) (h : ∀ j ∈ l, ¬ C s.tlm.seqs[j]) : l.foldl f s = s := by
  induction l with
  | nil => rfl
  | cons j l ih =>
    rw [List.foldl_cons, hf.idle s j (h j List.mem_cons_self)]
    exact ih fun k hk => h k (List.mem_cons_of_mem _ hk)

/-- A sequence for which no step is called for stays as it is. -/
theorem keep {q : Fin 8} (l : List (Fin 8)) (s : State) (h : q ∈ l → ¬ C s.tlm.seqs[q]) : (l.foldl f s).tlm.seqs[q] = s.tlm.seqs[q] := by
  induction l generalizing s with
  | nil => rfl
  | cons j l ih =>
    rw [List.foldl_cons]
    by_cases hjq : j = q
    · subst hjq
      rw [hf.idle s j (h List.mem_cons_self)]
      exact ih s fun hk => h (List.mem_cons_of_mem _ hk)
    · have hkeep := hf.other s j q (fun e => hjq e.symm)
      rw [ih (f s j) fun hk => by rw [hkeep]; exact h (List.mem_cons_of_mem _ hk), hkeep]

/-- Where only the sequences from `q` on are called for, the first step is `q`'s. -/
theorem first {q : Fin 8} (s : State) (h : ∀ j : Fin 8, j < q → ¬ C s.tlm.seqs[j]) :
    ∃ l : List (Fin 8), q ∉ l ∧ (List.finRange 8).foldl f s = l.foldl f (f s q) := by
  obtain ⟨hl, h1, h2⟩ := finRange_split q
  refine ⟨(List.finRange 8).drop (q.val + 1), h2, ?_⟩
  conv => lhs; rw [hl]
  rw [List.foldl_append, List.foldl_cons, hf.skip _ s fun j hj => h j (h1 j hj)]

/-- Where only `q` is called for, the steps are `q`'s alone. -/
theorem only {q : Fin 8} (s : State) (h : ∀ j : Fin 8, j ≠ q → ¬ C s.tlm.seqs[j]) : (List.finRange 8).foldl f s = f s q := by
  obtain ⟨l, hq, hl⟩ := hf.first (q := q) s fun j hj => h j (ne_of_lt hj)
  rw [hl]
  refine hf.skip l _ fun j hj => ?_
  have hjq : j ≠ q := fun e => hq (e ▸ hj)
  rw [hf.other s q j hjq]
  exact h j hjq

end StepOn

/-! ## A run started -/

/-- The sums with the derived channels of a row read (R268, R272). -/
def rowSums (q : Fin 8) (j : Nat) (s : State) : List (Int × Bool) :=
  mapWhere (s.tlm.seqs[q].rowEntries j) s.tlm.seqs[q].sums (fun i z =>
    if derivedChannel (s.tlm.seqs[q].channel i) then (derivedValue s (s.tlm.seqs[q].channel i), false) else z)

theorem beginRow_succ (q : Fin 8) (n j : Nat) (s : State) : beginRow q (n + 1) j s =
    if s.tlm.seqs[q].rowSteps j = 0 then beginRow q n (j + 1) (modSeq q (fun y => { y with row := j, step := 0, sums := rowSums q j s }) s)
    else modSeq q (fun y => { y with row := j, step := 0, sums := rowSums q j s }) s := by
  have hrow : modSeq q (fun y => { y with row := j, step := 0, sums := mapWhere (y.rowEntries j) y.sums (fun i z =>
      if derivedChannel (y.channel i) then (derivedValue s (y.channel i), false) else z) }) s =
      modSeq q (fun y => { y with row := j, step := 0, sums := rowSums q j s }) s := modSeq_congr rfl
  rw [beginRow, hrow]

/-- A run begins at a row: the derived rows before it take no conversion (R266, R268). -/
theorem beginRow_is (q : Fin 8) (n j : Nat) (s : State) : ∃ row sums, beginRow q (n + 1) j s =
    modSeq q (fun y => { y with row := row, step := 0, sums := sums }) s ∧ j ≤ row := by
  induction n generalizing j s with
  | zero =>
    rw [beginRow_succ, beginRow, ite_self]
    exact ⟨j, rowSums q j s, rfl, Nat.le_refl j⟩
  | succ n ih =>
    rw [beginRow_succ]
    split
    · obtain ⟨row, sums, heq, hle⟩ := ih (j + 1) (modSeq q (fun y => { y with row := j, step := 0, sums := rowSums q j s }) s)
      exact ⟨row, sums, by rw [heq, modSeq_modSeq], by omega⟩
    · exact ⟨j, rowSums q j s, rfl, Nat.le_refl j⟩

/-- The sequence whose run starts (R267, R270). -/
def TSeq.begun (tick row : Nat) (sums : List (Int × Bool)) (x : TSeq) : TSeq :=
  { x with delayed := false, waiting := false, converting := true, lateNow := x.waiting, stampNow := tick % 2 ^ 32
           lates := if x.waiting then satInc 65535 x.lates else x.lates, row := row, step := 0, sums := sums }

/-- The converters a run takes (R267). -/
def takenConvs (q : Fin 8) (s : State) : Vector (Option Nat) 4 :=
  mapIdx s.tlm.busy (fun k b => if s.tlm.seqs[q].needs.contains k then some q.val else b)

/-- The state in which a run has taken its converters (R267). -/
def runTaken (q : Fin 8) (tick : Nat) (s : State) : State :=
  let s1 := modSeq q (fun y =>
    { y with delayed := false, waiting := false, converting := true, lateNow := y.waiting, stampNow := tick % 2 ^ 32
             sums := List.replicate 16 (0, false), lates := if y.waiting then satInc 65535 y.lates else y.lates }) s
  { s1 with tlm := { s1.tlm with busy := takenConvs q s } }

theorem startRun_eq (q : Fin 8) (tick : Nat) (s : State) : startRun q tick s = bump (beginRow q 17 0
    (if s.tlm.seqs[q].waiting then countEvent s.tlm.seqs[q].lates (runTaken q tick s) else runTaken q tick s)) := rfl

/-- Only a sequence, its converters and what an event changes. -/
def RunOnly (s t : State) : Prop := t = { s with
  tlm := { s.tlm with seqs := t.tlm.seqs, busy := t.tlm.busy }, router := t.router, seam := t.seam, pwr := t.pwr, clk := t.clk }

theorem countEvent_only (n : Nat) (s : State) : countEvent n s = { s with
    router := (countEvent n s).router, seam := (countEvent n s).seam, pwr := (countEvent n s).pwr, clk := (countEvent n s).clk } := pulseIf_only ..

/-- A run started is one sequence begun and its converters taken, with the event of a late run beside them (R267, R270). -/
theorem startRun_is (q : Fin 8) (tick : Nat) (s : State) : ∃ u row sums, startRun q tick s = bump u ∧ RunOnly s u ∧
    u.tlm.seqs = upd s.tlm.seqs q (s.tlm.seqs[q].begun tick row sums) ∧ u.tlm.busy = takenConvs q s := by
  obtain ⟨row, sums, heq, -⟩ := beginRow_is q 16 0
    (if s.tlm.seqs[q].waiting then countEvent s.tlm.seqs[q].lates (runTaken q tick s) else runTaken q tick s)
  refine ⟨_, row, sums, by rw [startRun_eq, heq], ?_, ?_, ?_⟩
  · split
    · rw [countEvent_only]
      rfl
    · rfl
  · have htlm : (if s.tlm.seqs[q].waiting then countEvent s.tlm.seqs[q].lates (runTaken q tick s) else runTaken q tick s).tlm =
        (runTaken q tick s).tlm := by rw [ite_tlm, countEvent_tlm, ite_self]
    have hself := modSeq_modSeq q (fun y => { y with row := row, step := 0, sums := sums }) (fun y =>
      { y with delayed := false, waiting := false, converting := true, lateNow := y.waiting, stampNow := tick % 2 ^ 32
               sums := List.replicate 16 (0, false), lates := if y.waiting then satInc 65535 y.lates else y.lates }) s
    unfold modSeq at hself ⊢
    dsimp only at hself ⊢
    rw [htlm]
    exact congrArg (fun t => t.tlm.seqs) hself
  · unfold modSeq
    dsimp only
    rw [ite_tlm, countEvent_tlm, ite_self]
    rfl

theorem startRun_self (q : Fin 8) (tick : Nat) (s : State) : ∃ row sums,
    (startRun q tick s).tlm.seqs[q] = s.tlm.seqs[q].begun tick row sums := by
  obtain ⟨u, row, sums, heq, -, hseqs, -⟩ := startRun_is q tick s
  refine ⟨row, sums, ?_⟩
  rw [heq, bump_tlm, hseqs]
  exact upd_self ..

theorem startRun_other {q j : Fin 8} (h : j ≠ q) (tick : Nat) (s : State) : (startRun q tick s).tlm.seqs[j] = s.tlm.seqs[j] := by
  obtain ⟨u, row, sums, heq, -, hseqs, -⟩ := startRun_is q tick s
  rw [heq, bump_tlm, hseqs]
  exact upd_other _ _ _ _ h.symm

/-! ## A run that is due, started, dropped or waiting -/

/-- The sequence whose urgent run is dropped (R270). -/
def TSeq.dropped (x : TSeq) : TSeq :=
  { x with delayed := false, running := x.running && decide (x.kindN ≠ 0), urgentDrops := satInc 65535 x.urgentDrops }

/-- The sequence whose run waits for its converters (R267). -/
def TSeq.queued (x : TSeq) : TSeq := { x with delayed := false, waiting := true }

variable {left : List Nat} {q : Fin 8} {tick : Nat} {s : State}

theorem tryRun_free (h : convFree s left s.tlm.seqs[q].needs = true) : tryRun left q tick s = startRun q tick s := if_pos h

theorem tryRun_drops (h : convFree s left s.tlm.seqs[q].needs = false) (hu : s.tlm.seqs[q].urgent = true) :
    tryRun left q tick s = bump (countEvent s.tlm.seqs[q].urgentDrops (modSeq q TSeq.dropped s)) :=
  (if_neg (ne_true_of_eq_false h)).trans (if_pos hu)

theorem tryRun_queues (h : convFree s left s.tlm.seqs[q].needs = false) (hu : s.tlm.seqs[q].urgent = false) :
    tryRun left q tick s = bump (modSeq q TSeq.queued s) :=
  (if_neg (ne_true_of_eq_false h)).trans (if_neg (ne_true_of_eq_false hu))

theorem tryRun_other {j : Fin 8} (h : j ≠ q) : (tryRun left q tick s).tlm.seqs[j] = s.tlm.seqs[j] := by
  by_cases hf : convFree s left s.tlm.seqs[q].needs = true
  · rw [tryRun_free hf]
    exact startRun_other h tick s
  · have hf := eq_false_of_ne_true hf
    by_cases hu : s.tlm.seqs[q].urgent = true
    · rw [tryRun_drops hf hu, bump_tlm, countEvent_tlm]
      exact modSeq_other h ..
    · rw [tryRun_queues hf (eq_false_of_ne_true hu), bump_tlm]
      exact modSeq_other h ..

/-! ## The runs served in turn -/

/-- The urgent run of one sequence served (R270). -/
def urgentStep (left : List Nat) (tick : Nat) (t : State) (q : Fin 8) : State :=
  if t.tlm.seqs[q].due tick ∧ t.tlm.seqs[q].urgent then tryRun left q tick t else t

/-- The run of one sequence served, waiting or due (R267). -/
def runStep (tick : Nat) (t : State) (q : Fin 8) : State :=
  if t.tlm.seqs[q].waiting then (if convFree t [] t.tlm.seqs[q].needs then startRun q tick t else bump t)
  else if t.tlm.seqs[q].due tick then tryRun [] q tick t else t

theorem serveUrgent_eq (left : List Nat) (tick : Nat) (s : State) : serveUrgent left tick s = (List.finRange 8).foldl (urgentStep left tick) s := rfl

theorem serveRuns_eq (tick : Nat) (s : State) : serveRuns tick s = (List.finRange 8).foldl (runStep tick) s := rfl

/-- A run that urgent runs are served for: due and urgent (R270). -/
def DueUrgent (tick : Nat) (x : TSeq) : Prop := x.due tick = true ∧ x.urgent = true

theorem Quiet.not_dueUrgent {x : TSeq} (h : Quiet tick x) : ¬ DueUrgent tick x := fun hx => ne_true_of_eq_false h.1 hx.1

theorem urgentStep_on (left : List Nat) (tick : Nat) : StepOn (DueUrgent tick) (urgentStep left tick) where
  idle _ _ h := if_neg h
  other t j k h := by
    unfold urgentStep
    split
    · exact tryRun_other h
    · rfl

theorem runStep_idle {j : Fin 8} (h : Quiet tick s.tlm.seqs[j]) : runStep tick s j = s :=
  (if_neg (ne_true_of_eq_false h.2)).trans (if_neg (ne_true_of_eq_false h.1))

theorem runStep_due {j : Fin 8} (hd : s.tlm.seqs[j].due tick = true) (hw : s.tlm.seqs[j].waiting = false) :
    runStep tick s j = tryRun [] j tick s := (if_neg (ne_true_of_eq_false hw)).trans (if_pos hd)

theorem runStep_waiting {j : Fin 8} (hw : s.tlm.seqs[j].waiting = true) : runStep tick s j =
    if convFree s [] s.tlm.seqs[j].needs then startRun j tick s else bump s := if_pos hw

theorem runStep_on (tick : Nat) : StepOn (fun x => ¬ Quiet tick x) (runStep tick) where
  idle _ _ h := runStep_idle (not_not.mp h)
  other t j k h := by
    unfold runStep
    split
    · split
      · exact startRun_other h tick t
      · rfl
    · split
      · exact tryRun_other h
      · rfl

theorem serveUrgent_idle (h : ∀ j : Fin 8, ¬ DueUrgent tick s.tlm.seqs[j]) : serveUrgent left tick s = s :=
  (urgentStep_on left tick).skip _ s fun j _ => h j

theorem serveRuns_idle (h : ∀ j : Fin 8, Quiet tick s.tlm.seqs[j]) : serveRuns tick s = s :=
  (runStep_on tick).skip _ s fun j _ => not_not.mpr (h j)

theorem serveRuns_keeps (h : Quiet tick s.tlm.seqs[q]) : (serveRuns tick s).tlm.seqs[q] = s.tlm.seqs[q] := by
  rw [serveRuns_eq]
  exact (runStep_on tick).keep _ s fun _ => not_not.mpr h

theorem serveUrgent_only (h : ∀ j : Fin 8, j ≠ q → ¬ DueUrgent tick s.tlm.seqs[j]) (hd : s.tlm.seqs[q].due tick = true)
    (hu : s.tlm.seqs[q].urgent = true) : serveUrgent left tick s = tryRun left q tick s := by
  rw [serveUrgent_eq, (urgentStep_on left tick).only s h]
  exact if_pos ⟨hd, hu⟩

theorem serveRuns_only (h : ∀ j : Fin 8, j ≠ q → Quiet tick s.tlm.seqs[j]) : serveRuns tick s = runStep tick s q :=
  (runStep_on tick).only s fun j hj => not_not.mpr (h j hj)

theorem begun_quiet (x : TSeq) (tick row : Nat) (sums : List (Int × Bool)) : Quiet tick (x.begun tick row sums) := ⟨rfl, rfl⟩

/-- An urgent run that is due and finds its converters free starts before any other is served (R270). -/
theorem serveUrgent_starts (hd : s.tlm.seqs[q].due tick = true) (hu : s.tlm.seqs[q].urgent = true)
    (hfirst : ∀ j : Fin 8, j < q → ¬ DueUrgent tick s.tlm.seqs[j]) (hfree : convFree s left s.tlm.seqs[q].needs = true) :
    ∃ row sums, (serveUrgent left tick s).tlm.seqs[q] = s.tlm.seqs[q].begun tick row sums := by
  obtain ⟨l, hq, hl⟩ := (urgentStep_on left tick).first (q := q) s hfirst
  obtain ⟨row, sums, hself⟩ := startRun_self q tick s
  refine ⟨row, sums, ?_⟩
  have hstep : urgentStep left tick s q = startRun q tick s := (if_pos ⟨hd, hu⟩).trans (tryRun_free hfree)
  rw [serveUrgent_eq, hl, (urgentStep_on left tick).keep l _ fun h => absurd h hq, hstep, hself]

end Sys2Proof.Machine
end

section
/-! PROOF. O38: telemetry runs are triggered, started and completed (R265-R271, R274-R276, R281). -/

namespace Sys2Proof.Machine

variable {q : Fin 8} {tick : Nat} {s : State}

/-! ## Triggers -/

theorem trigger_self (q : Fin 8) (tick : Nat) (s : State) : (trigger q tick s).tlm.seqs[q] = triggered tick s.tlm.seqs[q] :=
  (congrArg (fun x : Tlm => x.seqs[q]) (trigger_tlm q tick s)).trans (modSeq_self ..)

theorem trigger_other {j : Fin 8} (h : j ≠ q) (tick : Nat) (s : State) : (trigger q tick s).tlm.seqs[j] = s.tlm.seqs[j] :=
  (congrArg (fun x : Tlm => x.seqs[j]) (trigger_tlm q tick s)).trans (modSeq_other h ..)

/-- Only the sequences and what an event changes. -/
def TriggersOnly (s t : State) : Prop := t = { s with
  tlm := { s.tlm with seqs := t.tlm.seqs }, router := t.router, seam := t.seam, pwr := t.pwr, clk := t.clk }

theorem TriggersOnly.triggers {s t : State} (h : TriggersOnly s t) (q : Fin 8) (tick : Nat) : TriggersOnly s (trigger q tick t) := by
  have ht : trigger q tick t = { t with
      tlm := { t.tlm with seqs := (trigger q tick t).tlm.seqs }, router := (trigger q tick t).router
      seam := (trigger q tick t).seam, pwr := (trigger q tick t).pwr, clk := (trigger q tick t).clk } := by
    conv => lhs; rw [trigger_only, trigger_tlm]
    conv => rhs; rw [trigger_tlm]
    rfl
  unfold TriggersOnly at h ⊢
  generalize trigger q tick t = u at ht ⊢
  rw [h] at ht
  exact ht

/-- What a timer does to one sequence (R265). -/
def timerStep (k : Fin 8) (tick : Nat) (t : State) (q : Fin 8) : State :=
  if t.tlm.seqs[q].kindN = 1 ∧ t.tlm.seqs[q].trig = k.val then trigger q tick t else t

theorem timerStep_self (k q : Fin 8) (tick : Nat) (t : State) : (timerStep k tick t q).tlm.seqs[q] =
    if t.tlm.seqs[q].kindN = 1 ∧ t.tlm.seqs[q].trig = k.val then triggered tick t.tlm.seqs[q] else t.tlm.seqs[q] := by
  unfold timerStep
  split
  · exact trigger_self ..
  · rfl

theorem timerStep_other {j : Fin 8} (h : j ≠ q) (k : Fin 8) (tick : Nat) (t : State) :
    (timerStep k tick t q).tlm.seqs[j] = t.tlm.seqs[j] := by
  unfold timerStep
  split
  · exact trigger_other h ..
  · rfl

theorem TriggersOnly.step {s t : State} (h : TriggersOnly s t) (k q : Fin 8) (tick : Nat) : TriggersOnly s (timerStep k tick t q) := by
  unfold timerStep
  split
  · exact h.triggers q tick
  · exact h

theorem timerSteps (k : Fin 8) (tick : Nat) (s : State) : TriggersOnly s ((List.finRange 8).foldl (timerStep k tick) s) ∧
    ∀ q : Fin 8, ((List.finRange 8).foldl (timerStep k tick) s).tlm.seqs[q] =
      if s.tlm.seqs[q].kindN = 1 ∧ s.tlm.seqs[q].trig = k.val then triggered tick s.tlm.seqs[q] else s.tlm.seqs[q] := by
  obtain ⟨hP, hQ⟩ := foldl_each (get := fun t (q : Fin 8) => t.tlm.seqs[q]) (f := timerStep k tick) (P := TriggersOnly s)
    (Q := fun _ x y => y = if x.kindN = 1 ∧ x.trig = k.val then triggered tick x else x)
    (fun q t ht => ⟨ht.step k q tick, fun j hj => timerStep_other hj k tick t, timerStep_self k q tick t⟩)
    (List.finRange 8) (List.nodup_finRange 8) s rfl
  exact ⟨hP, fun q => (hQ q).2 (List.mem_finRange q)⟩

/-- A timer that triggers, triggers its running sequences (R265). -/
theorem timerFire_triggers (k : Fin 8) (tick : Nat) (s : State) (h : tick % s.tlm.timers[k].1 = s.tlm.timers[k].2) :
    ∃ t, exec (.timerFire ⟨k, tick⟩) s = .next t ∧ TriggersOnly s t ∧ ∀ q : Fin 8, t.tlm.seqs[q] =
      if s.tlm.seqs[q].kindN = 1 ∧ s.tlm.seqs[q].trig = k.val then triggered tick s.tlm.seqs[q] else s.tlm.seqs[q] := by
  have hx : exec (.timerFire ⟨k, tick⟩) s = .next ((List.finRange 8).foldl (timerStep k tick) s) := by
    refine congrArg Host.Outcome.next ((if_pos h).trans ?_)
    rfl
  obtain ⟨hP, hQ⟩ := timerSteps k tick s
  exact ⟨_, hx, hP, hQ⟩

theorem sequenceTrigger_occurs (hk : s.tlm.seqs[q].kindN = 2) (hp : pwmOccurs s s.tlm.seqs[q] = true) :
    ∃ t, exec (.sequenceTrigger ⟨q, tick⟩) s = .next t ∧
      t = { s with tlm := { s.tlm with seqs := upd s.tlm.seqs q (triggered tick { s.tlm.seqs[q] with noEvent := false }) }
                   router := t.router, seam := t.seam, pwr := t.pwr, clk := t.clk } := by
  refine ⟨trigger q tick (modSeq q (fun y => { y with noEvent := false }) s),
    congrArg Host.Outcome.next ((if_neg (not_not.mpr hk)).trans (if_pos hp)), ?_⟩
  conv => lhs; rw [trigger_only, trigger_tlm, modSeq_modSeq]
  rfl

theorem sequenceTrigger_missing (hk : s.tlm.seqs[q].kindN = 2) (hp : pwmOccurs s s.tlm.seqs[q] = false) :
    exec (.sequenceTrigger ⟨q, tick⟩) s = exec (.noEvent q) s :=
  congrArg Host.Outcome.next (((if_neg (not_not.mpr hk)).trans (if_neg (ne_true_of_eq_false hp))).trans (if_pos hk).symm)

/-! ## Runs that are due -/

theorem runStart_serves (h : s.tlm.seqs[q].due tick = true ∨ s.tlm.seqs[q].waiting = true) :
    exec (.runStart ⟨q, tick⟩) s = .next (serveRuns tick (serveUrgent [] tick s)) :=
  congrArg Host.Outcome.next (if_pos (Bool.or_eq_true_iff.mpr h))

theorem tryRun_quiet {left : List Nat} (h : s.tlm.seqs[q].urgent = true) (hw : s.tlm.seqs[q].waiting = false) :
    Quiet tick (tryRun left q tick s).tlm.seqs[q] := by
  by_cases hf : convFree s left s.tlm.seqs[q].needs = true
  · rw [tryRun_free hf]
    obtain ⟨row, sums, hself⟩ := startRun_self q tick s
    rw [hself]
    exact begun_quiet ..
  · rw [tryRun_drops (eq_false_of_ne_true hf) h, bump_tlm, countEvent_tlm]
    have hself : (modSeq q TSeq.dropped s).tlm.seqs[q] = s.tlm.seqs[q].dropped := modSeq_self ..
    rw [hself]
    exact ⟨rfl, hw⟩

/-- The one run that is due is tried once, whether it is urgent or not (R267, R270). -/
theorem runStart_tries (hd : s.tlm.seqs[q].due tick = true) (hw : s.tlm.seqs[q].waiting = false)
    (hother : ∀ j : Fin 8, j ≠ q → Quiet tick s.tlm.seqs[j]) : serveRuns tick (serveUrgent [] tick s) = tryRun [] q tick s := by
  by_cases hu : s.tlm.seqs[q].urgent = true
  · rw [serveUrgent_only (fun j hj => (hother j hj).not_dueUrgent) hd hu]
    refine serveRuns_idle fun j => ?_
    by_cases hj : j = q
    · subst hj
      exact tryRun_quiet hu hw
    · rw [tryRun_other hj]
      exact hother j hj
  · have hidle : ∀ j : Fin 8, ¬ DueUrgent tick s.tlm.seqs[j] := fun j hj => by
      by_cases hjq : j = q
      · subst hjq
        exact hu hj.2
      · exact (hother j hjq).not_dueUrgent hj
    rw [serveUrgent_idle hidle, serveRuns_only hother, runStep_due hd hw]

/-- The effects of a run that is tried (R267, R270). -/
theorem tryRun_is (hw : s.tlm.seqs[q].waiting = false) : ∃ u, tryRun [] q tick s = bump u ∧ RunOnly s u ∧
    (∀ j : Fin 8, j ≠ q → u.tlm.seqs[j] = s.tlm.seqs[j]) ∧
    (convFree s [] s.tlm.seqs[q].needs = true → u.tlm.busy = takenConvs q s ∧
      ∃ row sums, u.tlm.seqs[q] = s.tlm.seqs[q].begun tick row sums) ∧
    (convFree s [] s.tlm.seqs[q].needs = false → u.tlm.busy = s.tlm.busy ∧
      u.tlm.seqs[q] = if s.tlm.seqs[q].urgent then s.tlm.seqs[q].dropped else s.tlm.seqs[q].queued) := by
  by_cases hf : convFree s [] s.tlm.seqs[q].needs = true
  · obtain ⟨u, row, sums, heq, honly, hseqs, hbusy⟩ := startRun_is q tick s
    refine ⟨u, (tryRun_free hf).trans heq, honly, fun j hj => ?_, fun _ => ⟨hbusy, row, sums, ?_⟩, fun h => absurd hf (ne_true_of_eq_false h)⟩
    · rw [hseqs]
      exact upd_other _ _ _ _ hj.symm
    · rw [hseqs]
      exact upd_self ..
  · have hf' := eq_false_of_ne_true hf
    by_cases hu : s.tlm.seqs[q].urgent = true
    · refine ⟨_, tryRun_drops hf' hu, ?_, fun j hj => ?_, fun h => absurd h hf, fun _ => ⟨?_, ?_⟩⟩
      · rw [countEvent_only]
        rfl
      · rw [countEvent_tlm]
        exact modSeq_other hj ..
      · rw [countEvent_tlm]
        rfl
      · rw [countEvent_tlm, if_pos hu]
        exact modSeq_self ..
    · refine ⟨_, tryRun_queues hf' (eq_false_of_ne_true hu), rfl, fun j hj => modSeq_other hj .., fun h => absurd h hf, fun _ => ⟨rfl, ?_⟩⟩
      rw [if_neg hu]
      exact modSeq_self ..

theorem takenConvs_get (q : Fin 8) (s : State) (k : Fin 4) :
    (takenConvs q s)[k] = if s.tlm.seqs[q].needs.contains k.val = true then some q.val else s.tlm.busy[k] := mapIdx_get ..

theorem runStart_due (hd : s.tlm.seqs[q].due tick = true) (hw : s.tlm.seqs[q].waiting = false)
    (hother : ∀ j : Fin 8, j ≠ q → Quiet tick s.tlm.seqs[j]) :
    ∃ t, exec (.runStart ⟨q, tick⟩) s = .next t ∧
      t = { s with tlm := { s.tlm with seqs := t.tlm.seqs, busy := t.tlm.busy }, free := s.free + 1
                   router := t.router, seam := t.seam, pwr := t.pwr, clk := t.clk } ∧
      (∀ j : Fin 8, j ≠ q → t.tlm.seqs[j] = s.tlm.seqs[j]) ∧
      (convFree s [] s.tlm.seqs[q].needs = true → t.tlm.seqs[q].converting = true ∧ t.tlm.seqs[q].delayed = false ∧
        t.tlm.seqs[q].waiting = false ∧ t.tlm.seqs[q].lateNow = false ∧ t.tlm.seqs[q].stampNow = tick % 2 ^ 32 ∧
        ∀ k : Fin 4, t.tlm.busy[k] = if s.tlm.seqs[q].needs.contains k.val = true then some q.val else s.tlm.busy[k]) ∧
      (convFree s [] s.tlm.seqs[q].needs = false → t.tlm.busy = s.tlm.busy ∧ t.tlm.seqs[q].delayed = false ∧
        (s.tlm.seqs[q].urgent = false → t.tlm.seqs[q] = { s.tlm.seqs[q] with delayed := false, waiting := true }) ∧
        (s.tlm.seqs[q].urgent = true → t.tlm.seqs[q] = { s.tlm.seqs[q] with
          delayed := false, running := s.tlm.seqs[q].running && decide (s.tlm.seqs[q].kindN ≠ 0)
          urgentDrops := satInc 65535 s.tlm.seqs[q].urgentDrops })) := by
  obtain ⟨u, heq, honly, hkeep, hfree, hheld⟩ := tryRun_is (tick := tick) hw
  refine ⟨bump u, (runStart_serves (.inl hd)).trans (congrArg Host.Outcome.next ((runStart_tries hd hw hother).trans heq)), ?_, hkeep,
    fun hf => ?_, fun hf => ?_⟩
  · conv => lhs; rw [honly]
    rfl
  · obtain ⟨hbusy, row, sums, hself⟩ := hfree hf
    rw [bump_tlm, hself, hbusy]
    exact ⟨rfl, rfl, rfl, hw, rfl, fun k => takenConvs_get ..⟩
  · obtain ⟨hbusy, hself⟩ := hheld hf
    rw [bump_tlm, hself, hbusy]
    refine ⟨rfl, ?_, fun hu => ?_, fun hu => ?_⟩
    · split <;> rfl
    · rw [if_neg (ne_true_of_eq_false hu)]
      rfl
    · rw [if_pos hu]
      rfl

/-- A run that waits is tried once (R267). -/
theorem runStart_waits (hd : s.tlm.seqs[q].delayed = false) (hw : s.tlm.seqs[q].waiting = true)
    (hother : ∀ j : Fin 8, j ≠ q → Quiet tick s.tlm.seqs[j]) : exec (.runStart ⟨q, tick⟩) s = .next
      (if convFree s [] s.tlm.seqs[q].needs then startRun q tick s else bump s) := by
  have hidle : ∀ j : Fin 8, ¬ DueUrgent tick s.tlm.seqs[j] := fun j hj => by
    by_cases hjq : j = q
    · subst hjq
      have hdue := hj.1
      unfold TSeq.due at hdue
      rw [hd] at hdue
      exact Bool.false_ne_true hdue
    · exact (hother j hjq).not_dueUrgent hj
  rw [runStart_serves (.inr hw), serveUrgent_idle hidle, serveRuns_only hother, runStep_waiting hw]

theorem runStart_waited (hd : s.tlm.seqs[q].delayed = false) (hw : s.tlm.seqs[q].waiting = true)
    (hother : ∀ j : Fin 8, j ≠ q → Quiet tick s.tlm.seqs[j]) (hf : convFree s [] s.tlm.seqs[q].needs = true) :
    ∃ t, exec (.runStart ⟨q, tick⟩) s = .next t ∧ t.tlm.seqs[q].converting = true ∧
      t.tlm.seqs[q].waiting = false ∧ t.tlm.seqs[q].lateNow = true ∧ t.tlm.seqs[q].lates = satInc 65535 s.tlm.seqs[q].lates := by
  obtain ⟨row, sums, hself⟩ := startRun_self q tick s
  refine ⟨startRun q tick s, (runStart_waits hd hw hother).trans (congrArg Host.Outcome.next (if_pos hf)), ?_⟩
  rw [hself]
  exact ⟨rfl, rfl, hw, if_pos hw⟩

theorem runStart_urgent {p : Fin 8} (hp : s.tlm.seqs[p].due tick = true ∨ s.tlm.seqs[p].waiting = true)
    (hd : s.tlm.seqs[q].due tick = true) (hu : s.tlm.seqs[q].urgent = true)
    (hfirst : ∀ j : Fin 8, j < q → s.tlm.seqs[j].urgent = false) (hf : convFree s [] s.tlm.seqs[q].needs = true) :
    ∃ t, exec (.runStart ⟨p, tick⟩) s = .next t ∧ t.tlm.seqs[q].converting = true ∧
      t.tlm.seqs[q].stampNow = tick % 2 ^ 32 ∧ t.tlm.seqs[q].urgentDrops = s.tlm.seqs[q].urgentDrops := by
  obtain ⟨row, sums, hself⟩ := serveUrgent_starts hd hu (fun j hj h => ne_true_of_eq_false (hfirst j hj) h.2) hf
  refine ⟨_, runStart_serves hp, ?_⟩
  rw [serveRuns_keeps (by rw [hself]; exact begun_quiet ..), hself]
  exact ⟨rfl, rfl, rfl⟩

end Sys2Proof.Machine
end

section
/-! PROOF. O38, continued: conversions and the ends of runs (R267-R271, R276). -/

namespace Sys2Proof.Machine

variable {q : Fin 8} {tick : Nat} {s : State}

/-! ## What serving the converters leaves alone -/

theorem serveSystem_seqs (s : State) : (serveSystem s).tlm.seqs = s.tlm.seqs := by
  unfold serveSystem
  split
  · split
    · dsimp only
      rw [complete_tlm, serveTemps_tlm]
      rfl
    · rw [serveTemps_tlm]
  · rw [serveTemps_tlm]

theorem serveSystem_streams (s : State) : (serveSystem s).tlm.streams = s.tlm.streams := by
  unfold serveSystem
  split
  · split
    · dsimp only
      rw [complete_tlm, serveTemps_tlm]
      rfl
    · rw [serveTemps_tlm]
  · rw [serveTemps_tlm]

theorem Elsewhere.refl (s : State) : Elsewhere s s := ⟨rfl, rfl, rfl, rfl⟩

theorem Elsewhere.trans {s t u : State} (h : Elsewhere s t) (h' : Elsewhere t u) : Elsewhere s u := by
  obtain ⟨hc, hr, hd, hf⟩ := h
  obtain ⟨hc', hr', hd', hf'⟩ := h'
  exact ⟨hc'.trans hc, hr'.trans hr, hd'.trans hd, hf'.trans hf⟩

theorem serveSystem_elsewhere (s : State) : Elsewhere s (serveSystem s) :=
  ⟨serveSystem_cells s, serveSystem_rails s, serveSystem_dom s, serveSystem_crease s⟩

/-- The converters a run frees are handed on: nothing waits, so only the manager's own readings are served. -/
theorem freed_idle {left : List Nat} (h : ∀ j : Fin 8, Quiet tick s.tlm.seqs[j]) :
    serveRuns tick (serveSystem (serveUrgent left tick s)) = serveSystem s := by
  rw [serveUrgent_idle fun j => (h j).not_dueUrgent]
  refine serveRuns_idle fun j => ?_
  have hj : (serveSystem s).tlm.seqs[j] = s.tlm.seqs[j] := congrArg (fun v : Vector TSeq 8 => v[j]) (serveSystem_seqs s)
  rw [hj]
  exact h j

/-- The converters a run frees go to the urgent run that is due (R270). -/
theorem freed_starts {left : List Nat} {p : Fin 8} (hd : s.tlm.seqs[p].due tick = true) (hu : s.tlm.seqs[p].urgent = true)
    (hfirst : ∀ j : Fin 8, j < p → ¬ DueUrgent tick s.tlm.seqs[j]) (hf : convFree s left s.tlm.seqs[p].needs = true) :
    ∃ row sums, (serveRuns tick (serveSystem (serveUrgent left tick s))).tlm.seqs[p] = s.tlm.seqs[p].begun tick row sums := by
  obtain ⟨row, sums, hself⟩ := serveUrgent_starts hd hu hfirst hf
  have hsys : (serveSystem (serveUrgent left tick s)).tlm.seqs[p] = s.tlm.seqs[p].begun tick row sums :=
    (congrArg (fun v : Vector TSeq 8 => v[p]) (serveSystem_seqs _)).trans hself
  refine ⟨row, sums, ?_⟩
  rw [serveRuns_keeps (by rw [hsys]; exact begun_quiet ..), hsys]

/-! ## The end of a run -/

/-- The sequence whose run has ended (R269, R276). -/
def TSeq.ended (x : TSeq) : TSeq :=
  { x with converting := false, stopping := false
           running := x.running && !((decide (x.kindN = 0) || x.single) && !x.stopping)
           run := (x.run + 1) % 2 ^ 32, stamp := x.stampNow, late := x.lateNow
           sat := (runResults x).any Prod.snd, results := (runResults x).map Prod.fst }

/-- What a run leaves held is all that changes with it (R276). -/
theorem holdRun_is (n : Nat) (x : TSeq) (t : Tlm) : ∃ h, holdRun n x t = { t with held := h } := by
  have hfold (l : List Nat) (a : Tlm) : ∃ h, l.foldl (fun a i => holdAt (x.channel i) (x.results.getD i 0) x.stamp
      (b2n (x.noEvent && decide (x.kindN = 2)) * 4 + b2n x.late * 2 + b2n x.sat) n a) a = { a with held := h } := by
    induction l generalizing a with
    | nil => exact ⟨a.held, rfl⟩
    | cons i l ih =>
      obtain ⟨h, heq⟩ := ih (holdAt (x.channel i) (x.results.getD i 0) x.stamp
        (b2n (x.noEvent && decide (x.kindN = 2)) * 4 + b2n x.late * 2 + b2n x.sat) n a)
      exact ⟨h, heq⟩
  unfold holdRun
  split
  · exact ⟨t.held, rfl⟩
  · exact hfold ..

theorem modStream_modStream (k : Fin 4) (f g : Stream → Stream) (s : State) :
    modStream k f (modStream k g s) = modStream k (fun x => f (g x)) s := by
  unfold modStream
  dsimp only
  rw [upd_self]
  simp only [upd, Vector.set_set]

/-- A stream that is sent changes its own record alone (R281). -/
theorem sendStream_tlm (k : Fin 4) (s : State) : ∃ f, (sendStream k s).tlm = (modStream k f s).tlm := by
  unfold sendStream
  dsimp only
  split
  · exact ⟨_, countEvent_tlm ..⟩
  · exact ⟨fun y => { y with part := [], gap := false }, rfl⟩

/-- A run feeds each stream's own record alone (R281). -/
theorem feedStream_tlm (q : Fin 8) (k : Fin 4) (s : State) : ∃ f, (feedStream q k s).tlm = (modStream k f s).tlm := by
  unfold feedStream
  extract_lets x r n s1
  split
  · exact ⟨id, congrArg State.tlm (by unfold modStream; rw [id, upd_get_self])⟩
  · split
    · exact ⟨_, rfl⟩
    · split
      · obtain ⟨f, hf⟩ := sendStream_tlm k s1
        exact ⟨_, hf.trans (congrArg State.tlm (modStream_modStream ..))⟩
      · exact ⟨_, rfl⟩

/-- What of the telemetry a stream's feeding leaves. -/
def Tlm.runs (t : Tlm) : Vector TSeq 8 × Vector (Option Nat) 4 := (t.seqs, t.busy)

theorem Tlm.of_runs {t u : Tlm} (h : t.runs = u.runs) : t.seqs = u.seqs ∧ t.busy = u.busy := Prod.mk.injEq .. ▸ h

theorem feedStream_runs (q : Fin 8) (k : Fin 4) (s : State) : (feedStream q k s).tlm.runs = s.tlm.runs := by
  obtain ⟨f, hf⟩ := feedStream_tlm q k s
  exact (congrArg Tlm.runs hf).trans rfl

theorem feedStream_other {k j : Fin 4} (h : j ≠ k) (q : Fin 8) (s : State) : (feedStream q k s).tlm.streams[j] = s.tlm.streams[j] := by
  obtain ⟨f, hf⟩ := feedStream_tlm q k s
  exact (congrArg (fun x : Tlm => x.streams[j]) hf).trans (upd_other _ _ _ _ h.symm)

/-- What a stream that is fed becomes, as far as its run does not complete a record (R281). -/
def StreamFed (q : Fin 8) (x y : Stream) : Prop :=
  (x.enable = false ∨ x.seq ≠ q.val → y = x) ∧
  (x.enable = true → x.seq = q.val → x.cnt + 1 < (if x.sdecim = 0 then 256 else x.sdecim) → y = { x with cnt := x.cnt + 1 })

theorem feedStream_self (q : Fin 8) (k : Fin 4) (s : State) : StreamFed q s.tlm.streams[k] (feedStream q k s).tlm.streams[k] := by
  refine ⟨fun h => congrArg (fun t : State => t.tlm.streams[k]) (if_pos h), fun he hq hc => ?_⟩
  have hne : ¬ (s.tlm.streams[k].enable = false ∨ s.tlm.streams[k].seq ≠ q.val) := by rw [he, hq]; simp
  have hx : feedStream q k s = modStream k (fun y => { y with cnt := y.cnt + 1 }) s := (if_neg hne).trans (if_pos hc)
  rw [hx]
  exact upd_self ..

theorem feedStreams (q : Fin 8) (s : State) : ((List.finRange 4).foldl (fun t k => feedStream q k t) s).tlm.runs = s.tlm.runs ∧
    ∀ k : Fin 4, StreamFed q s.tlm.streams[k] ((List.finRange 4).foldl (fun t k => feedStream q k t) s).tlm.streams[k] := by
  obtain ⟨hP, hQ⟩ := foldl_each (get := fun t (k : Fin 4) => t.tlm.streams[k]) (f := fun t k => feedStream q k t)
    (P := fun t => t.tlm.runs = s.tlm.runs) (Q := fun _ => StreamFed q)
    (fun k t ht => ⟨(feedStream_runs q k t).trans ht, fun j hj => feedStream_other hj q t, feedStream_self q k t⟩)
    (List.finRange 4) (List.nodup_finRange 4) s rfl
  exact ⟨hP, fun k => (hQ k).2 (List.mem_finRange k)⟩

/-- The converters once a run has ended (R267). -/
def givenBack (q : Fin 8) (s : State) : Vector (Option Nat) 4 := mapIdx s.tlm.busy (fun _ b => if b = some q.val then none else b)

/-- The state in which a run has ended, before the streams are fed (R276). -/
def runEnded (q : Fin 8) (s : State) : State :=
  let s1 := modSeq q TSeq.ended s
  freeConvs q { s1 with tlm := holdRun q.val s1.tlm.seqs[q] s1.tlm }

theorem endRunOf_eq (q : Fin 8) (s : State) : endRunOf q s = (List.finRange 4).foldl (fun t k => feedStream q k t)
    (pulseIf (decide (s.tlm.seqs[q].kindN = 0) || s.tlm.seqs[q].single) (evt (544 + q.val)) (runEnded q s)) := rfl

theorem runEnded_tlm (q : Fin 8) (s : State) : ∃ h, (runEnded q s).tlm =
    { s.tlm with seqs := upd s.tlm.seqs q s.tlm.seqs[q].ended, busy := givenBack q s, held := h } := by
  obtain ⟨h, heq⟩ := holdRun_is q.val (modSeq q TSeq.ended s).tlm.seqs[q] (modSeq q TSeq.ended s).tlm
  refine ⟨h, ?_⟩
  unfold runEnded freeConvs
  dsimp only
  rw [heq]
  rfl

theorem endRunOf_is (q : Fin 8) (s : State) : (endRunOf q s).tlm.seqs = upd s.tlm.seqs q s.tlm.seqs[q].ended ∧
    (endRunOf q s).tlm.busy = givenBack q s ∧
    ∀ k : Fin 4, StreamFed q s.tlm.streams[k] (endRunOf q s).tlm.streams[k] := by
  obtain ⟨hruns, hstreams⟩ := feedStreams q
    (pulseIf (decide (s.tlm.seqs[q].kindN = 0) || s.tlm.seqs[q].single) (evt (544 + q.val)) (runEnded q s))
  obtain ⟨h, htlm⟩ := runEnded_tlm q s
  rw [pulseIf_tlm, htlm] at hruns hstreams
  rw [endRunOf_eq]
  obtain ⟨hseqs, hbusy⟩ := Tlm.of_runs hruns
  exact ⟨hseqs, hbusy, hstreams⟩

theorem endRunOf_elsewhere (q : Fin 8) (s : State) : Elsewhere s (endRunOf q s) :=
  ⟨endRunOf_cells q s, endRunOf_rails q s, endRunOf_dom q s, endRunOf_crease q s⟩

theorem endRunOf_self (q : Fin 8) (s : State) : (endRunOf q s).tlm.seqs[q] = s.tlm.seqs[q].ended :=
  (congrArg (fun v : Vector TSeq 8 => v[q]) (endRunOf_is q s).1).trans (upd_self ..)

theorem endRunOf_other {q j : Fin 8} (h : j ≠ q) (s : State) : (endRunOf q s).tlm.seqs[j] = s.tlm.seqs[j] :=
  (congrArg (fun v : Vector TSeq 8 => v[j]) (endRunOf_is q s).1).trans (upd_other _ _ _ _ h.symm)

theorem endRunOf_busy (q : Fin 8) (s : State) (k : Fin 4) :
    (endRunOf q s).tlm.busy[k] = if s.tlm.busy[k] = some q.val then none else s.tlm.busy[k] :=
  (congrArg (fun v : Vector (Option Nat) 4 => v[k]) (endRunOf_is q s).2.1).trans (mapIdx_get ..)

/-! ## Conversions -/

theorem conversionDone_none (codes : List Int) (hc : s.tlm.seqs[q].converting = false) :
    exec (.conversionDone ⟨q, tick⟩ codes) s = .next s := congrArg Host.Outcome.next (if_pos hc)

/-- The last conversion of a run ends it (R269). -/
theorem conversionDone_last (codes : List Int) (hc : s.tlm.seqs[q].converting = true)
    (hstep : s.tlm.seqs[q].rowSteps s.tlm.seqs[q].row ≤ s.tlm.seqs[q].step + 1) (hrow : s.tlm.seqs[q].rows ≤ s.tlm.seqs[q].row + 1) :
    exec (.conversionDone ⟨q, tick⟩ codes) s = .next (serveRuns tick (serveSystem (serveUrgent s.tlm.seqs[q].needs tick
      (endRunOf q (modSeq q (TSeq.convert codes) s))))) :=
  congrArg Host.Outcome.next ((if_neg (ne_false_of_eq_true hc)).trans (if_pos ⟨hstep, hrow⟩))

/-- The state in which a run that is stopped has given its converters back (R266). -/
def runCut (q : Fin 8) (codes : List Int) (s : State) : State :=
  freeConvs q (modSeq q (fun y => { y with converting := false, stopping := false }) (modSeq q (TSeq.convert codes) s))

theorem conversionDone_stops (codes : List Int) (hc : s.tlm.seqs[q].converting = true) (hs : s.tlm.seqs[q].stopping = true)
    (hmore : s.tlm.seqs[q].step + 1 < s.tlm.seqs[q].rowSteps s.tlm.seqs[q].row ∨ s.tlm.seqs[q].row + 1 < s.tlm.seqs[q].rows) :
    exec (.conversionDone ⟨q, tick⟩ codes) s =
      .next (serveRuns tick (serveSystem (serveUrgent s.tlm.seqs[q].needs tick (runCut q codes s)))) := by
  have hlast : ¬ (s.tlm.seqs[q].rowSteps s.tlm.seqs[q].row ≤ s.tlm.seqs[q].step + 1 ∧ s.tlm.seqs[q].rows ≤ s.tlm.seqs[q].row + 1) := by omega
  exact congrArg Host.Outcome.next ((if_neg (ne_false_of_eq_true hc)).trans ((if_neg hlast).trans (if_pos hs)))

theorem conversionDone_step (codes : List Int) (hc : s.tlm.seqs[q].converting = true) (hs : s.tlm.seqs[q].stopping = false)
    (hmore : s.tlm.seqs[q].step + 1 < s.tlm.seqs[q].rowSteps s.tlm.seqs[q].row) :
    exec (.conversionDone ⟨q, tick⟩ codes) s = .next (modSeq q (TSeq.convert codes) s) := by
  have hlast : ¬ (s.tlm.seqs[q].rowSteps s.tlm.seqs[q].row ≤ s.tlm.seqs[q].step + 1 ∧ s.tlm.seqs[q].rows ≤ s.tlm.seqs[q].row + 1) := by omega
  exact congrArg Host.Outcome.next ((if_neg (ne_false_of_eq_true hc)).trans ((if_neg hlast).trans
    ((if_neg (ne_true_of_eq_false hs)).trans (if_neg (Nat.not_le.mpr hmore)))))

theorem conversionDone_row (codes : List Int) (hc : s.tlm.seqs[q].converting = true) (hs : s.tlm.seqs[q].stopping = false)
    (hstep : s.tlm.seqs[q].rowSteps s.tlm.seqs[q].row ≤ s.tlm.seqs[q].step + 1) (hmore : s.tlm.seqs[q].row + 1 < s.tlm.seqs[q].rows) :
    ∃ t, exec (.conversionDone ⟨q, tick⟩ codes) s = .next t ∧ t = { s with tlm := { s.tlm with seqs := t.tlm.seqs } } ∧
      t.tlm.seqs[q].converting = true ∧ s.tlm.seqs[q].row < t.tlm.seqs[q].row ∧ t.tlm.seqs[q].step = 0 ∧
      t.tlm.seqs[q].results = s.tlm.seqs[q].results ∧ ∀ j : Fin 8, j ≠ q → t.tlm.seqs[j] = s.tlm.seqs[j] := by
  have hlast : ¬ (s.tlm.seqs[q].rowSteps s.tlm.seqs[q].row ≤ s.tlm.seqs[q].step + 1 ∧ s.tlm.seqs[q].rows ≤ s.tlm.seqs[q].row + 1) := by omega
  obtain ⟨row, sums, heq, hle⟩ := beginRow_is q 16 (s.tlm.seqs[q].row + 1) (modSeq q (TSeq.convert codes) s)
  rw [modSeq_modSeq] at heq
  have hself : ∀ f : TSeq → TSeq, (modSeq q f s).tlm.seqs[q] = f s.tlm.seqs[q] := fun f => modSeq_self q f s
  refine ⟨_, congrArg Host.Outcome.next ((if_neg (ne_false_of_eq_true hc)).trans ((if_neg hlast).trans
    ((if_neg (ne_true_of_eq_false hs)).trans ((if_pos hstep).trans heq)))), rfl, ?_, ?_, ?_, ?_, fun j hj => modSeq_other hj ..⟩
  · rw [hself]
    exact hc
  · rw [hself]
    exact hle
  · rw [hself]
  · rw [hself]
    rfl

/-! ## The converters handed on -/

theorem mem_needs_lt {x : TSeq} {k : Nat} (h : k ∈ x.needs) : k < 4 :=
  mem_upto.mp (List.mem_of_mem_filter (List.mem_of_mem_filter h))


theorem Quiet.of_eq {x y : TSeq} (h : Quiet tick x) (hd : y.delayed = x.delayed) (ha : y.dueAt = x.dueAt) (hw : y.waiting = x.waiting) :
    Quiet tick y := by
  unfold Quiet TSeq.due at h ⊢
  rw [hd, ha, hw]
  exact h

theorem conversionDone_cut (codes : List Int) (hc : s.tlm.seqs[q].converting = true) (hs : s.tlm.seqs[q].stopping = true)
    (hquiet : ∀ j : Fin 8, Quiet tick s.tlm.seqs[j])
    (hmore : s.tlm.seqs[q].step + 1 < s.tlm.seqs[q].rowSteps s.tlm.seqs[q].row ∨ s.tlm.seqs[q].row + 1 < s.tlm.seqs[q].rows) :
    ∃ t, exec (.conversionDone ⟨q, tick⟩ codes) s = .next t ∧ Elsewhere s t ∧ t.tlm.seqs[q].converting = false ∧
      t.tlm.seqs[q].results = s.tlm.seqs[q].results ∧ t.tlm.seqs[q].run = s.tlm.seqs[q].run ∧ t.tlm.streams = s.tlm.streams := by
  have hself : (runCut q codes s).tlm.seqs[q] = { s.tlm.seqs[q].convert codes with converting := false, stopping := false } := by
    have h : (modSeq q (fun y => { y with converting := false, stopping := false }) (modSeq q (TSeq.convert codes) s)).tlm.seqs[q] =
        { s.tlm.seqs[q].convert codes with converting := false, stopping := false } := by
      rw [modSeq_modSeq]
      exact modSeq_self ..
    exact h
  have hother (j : Fin 8) (hj : j ≠ q) : (runCut q codes s).tlm.seqs[j] = s.tlm.seqs[j] :=
    (modSeq_other hj (fun y => { y with converting := false, stopping := false }) (modSeq q (TSeq.convert codes) s)).trans
      (modSeq_other hj (TSeq.convert codes) s)
  have hidle : ∀ j : Fin 8, Quiet tick (runCut q codes s).tlm.seqs[j] := fun j => by
    by_cases hj : j = q
    · subst hj
      rw [hself]
      exact (hquiet j).of_eq rfl rfl rfl
    · rw [hother j hj]
      exact hquiet j
  have hseq : (serveSystem (runCut q codes s)).tlm.seqs[q] = { s.tlm.seqs[q].convert codes with converting := false, stopping := false } :=
    (congrArg (fun v : Vector TSeq 8 => v[q]) (serveSystem_seqs _)).trans hself
  refine ⟨serveSystem (runCut q codes s), (conversionDone_stops codes hc hs hmore).trans (congrArg Host.Outcome.next (freed_idle hidle)),
    serveSystem_elsewhere _, ?_, ?_, ?_, serveSystem_streams _⟩
  all_goals rw [hseq]
  all_goals rfl

/-- A run that has ended, with nothing waiting for its converters (R269, R276). -/
theorem conversionDone_ends (codes : List Int) (hc : s.tlm.seqs[q].converting = true) (hquiet : ∀ j : Fin 8, Quiet tick s.tlm.seqs[j])
    (hstep : s.tlm.seqs[q].rowSteps s.tlm.seqs[q].row ≤ s.tlm.seqs[q].step + 1) (hrow : s.tlm.seqs[q].rows ≤ s.tlm.seqs[q].row + 1) :
    ∃ t, exec (.conversionDone ⟨q, tick⟩ codes) s = .next t ∧ Elsewhere s t ∧
      t.tlm.seqs[q] = (s.tlm.seqs[q].convert codes).ended ∧ ∀ k : Fin 4, StreamFed q s.tlm.streams[k] t.tlm.streams[k] := by
  have hconv : (modSeq q (TSeq.convert codes) s).tlm.seqs[q] = s.tlm.seqs[q].convert codes := modSeq_self ..
  have hself := (endRunOf_self q (modSeq q (TSeq.convert codes) s)).trans (congrArg TSeq.ended hconv)
  have hidle : ∀ j : Fin 8, Quiet tick (endRunOf q (modSeq q (TSeq.convert codes) s)).tlm.seqs[j] := fun j => by
    by_cases hj : j = q
    · subst hj
      rw [hself]
      exact (hquiet j).of_eq rfl rfl rfl
    · rw [endRunOf_other hj, modSeq_other hj]
      exact hquiet j
  refine ⟨_, (conversionDone_last codes hc hstep hrow).trans (congrArg Host.Outcome.next (freed_idle hidle)),
    (endRunOf_elsewhere q (modSeq q (TSeq.convert codes) s)).trans (serveSystem_elsewhere _),
    (congrArg (fun v : Vector TSeq 8 => v[q]) (serveSystem_seqs _)).trans hself, fun k => ?_⟩
  have hk := (endRunOf_is q (modSeq q (TSeq.convert codes) s)).2.2 k
  rw [← serveSystem_streams (endRunOf q (modSeq q (TSeq.convert codes) s))] at hk
  exact hk

/-- A run that ends hands its converters to the urgent run that is due (R270). -/
theorem conversionDone_hands {p : Fin 8} (codes : List Int) (hp : p ≠ q) (hc : s.tlm.seqs[q].converting = true)
    (hstep : s.tlm.seqs[q].rowSteps s.tlm.seqs[q].row ≤ s.tlm.seqs[q].step + 1) (hrow : s.tlm.seqs[q].rows ≤ s.tlm.seqs[q].row + 1)
    (hd : s.tlm.seqs[p].due tick = true) (hu : s.tlm.seqs[p].urgent = true)
    (hfirst : ∀ j : Fin 8, j < p → s.tlm.seqs[j].due tick = false ∨ s.tlm.seqs[j].urgent = false)
    (hneeds : ∀ k : Fin 4, s.tlm.seqs[p].needs.contains k.val = true →
      s.tlm.seqs[q].needs.contains k.val = true ∧ s.tlm.busy[k] = some q.val) :
    ∃ t, exec (.conversionDone ⟨q, tick⟩ codes) s = .next t ∧ t.tlm.seqs[p].converting = true ∧
      t.tlm.seqs[p].urgentDrops = s.tlm.seqs[p].urgentDrops := by
  generalize hu' : endRunOf q (modSeq q (TSeq.convert codes) s) = u
  have hother (j : Fin 8) (hj : j ≠ q) : u.tlm.seqs[j] = s.tlm.seqs[j] := by
    rw [← hu', endRunOf_other hj, modSeq_other hj]
  have hself : u.tlm.seqs[q] = (s.tlm.seqs[q].convert codes).ended := by
    rw [← hu', endRunOf_self, modSeq_self]
  have hbusy (k : Fin 4) (hk : s.tlm.busy[k] = some q.val) : u.tlm.busy[k] = none := by
    rw [← hu', endRunOf_busy]
    exact if_pos hk
  have hnone : ∀ j : Fin 8, j < p → ¬ DueUrgent tick u.tlm.seqs[j] := fun j hj h => by
    have hj' : DueUrgent tick s.tlm.seqs[j] := by
      by_cases hjq : j = q
      · subst hjq
        rw [hself] at h
        exact h
      · rw [hother j hjq] at h
        exact h
    exact (hfirst j hj).elim (fun hf => ne_true_of_eq_false hf hj'.1) (fun hf => ne_true_of_eq_false hf hj'.2)
  have hfree : convFree u s.tlm.seqs[q].needs u.tlm.seqs[p].needs = true := by
    rw [hother p hp]
    refine List.all_eq_true.mpr fun k hk => ?_
    have hval : (Fin.ofNat 4 k).val = k := Nat.mod_eq_of_lt (mem_needs_lt hk)
    obtain ⟨hin, hbk⟩ := hneeds (Fin.ofNat 4 k) (by rw [hval]; exact List.contains_iff_mem.mpr hk)
    rw [hval] at hin
    rw [hbusy _ hbk, hin]
    rfl
  rw [← hother p hp] at hd hu ⊢
  obtain ⟨row, sums, hbegun⟩ := freed_starts hd hu hnone hfree
  refine ⟨_, (conversionDone_last codes hc hstep hrow).trans (congrArg Host.Outcome.next (by rw [hu'])), ?_⟩
  rw [hbegun]
  exact ⟨rfl, rfl⟩

/-- Settles O38: triggers, runs started, waiting and dropped, and conversions, each stated above for one sequence. -/
theorem telemetryRuns : Obligations.TelemetryRuns := by
  intro tick s
  refine ⟨fun k => ⟨timerFire_triggers k tick s, fun h => congrArg Host.Outcome.next (if_neg h)⟩, fun q => ⟨fun h => ?_,
    sequenceTrigger_occurs, sequenceTrigger_missing, fun h => congrArg Host.Outcome.next (if_pos h), fun hd hw => ?_, runStart_due,
    fun hd hw hother => ⟨fun hf => ?_, runStart_waited hd hw hother⟩, fun p => runStart_urgent, fun codes => ⟨fun p => ?_,
    conversionDone_none codes, conversionDone_step codes, conversionDone_row codes, conversionDone_cut codes, fun hc hquiet hstep hrow => ?_⟩⟩⟩
  case refine_1 => exact ⟨congrArg Host.Outcome.next (if_pos h), congrArg Host.Outcome.next (if_neg h)⟩
  case refine_2 =>
    refine congrArg Host.Outcome.next (if_neg ?_)
    rw [hd, hw]
    exact Bool.false_ne_true
  case refine_3 => exact (runStart_waits hd hw hother).trans (congrArg Host.Outcome.next (if_neg (ne_true_of_eq_false hf)))
  case refine_4 => exact fun hp hc hstep hrow hd hu => conversionDone_hands codes hp hc hstep hrow hd hu
  case refine_5 =>
    obtain ⟨t, hx, helse, hself, hstreams⟩ := conversionDone_ends codes hc hquiet hstep hrow
    exact ⟨t, hx, helse, hself, fun k => (hstreams k).1, fun k => (hstreams k).2⟩

end Sys2Proof.Machine
end

section
/-! PROOF. The readings of the temperatures (R283-R286, R289, R290). -/

namespace Sys2Proof.Machine

/-! ## The queue of the readings -/

/-- A request without the mark that it is being served. -/
def TempReq.bare (x : TempReq) : TempReq := { x with served := false }

theorem serveTemp_bare (ok : TempReq → Bool) (q : List TempReq) : (serveTemp ok q).map TempReq.bare = q.map TempReq.bare := by
  unfold serveTemp
  split
  case h_1 x _ =>
    rw [List.map_map]
    refine List.map_congr_left fun y _ => ?_
    rw [Function.comp_apply]
    split <;> rfl
  case h_2 => rfl

theorem foldl_bare {α : Type} {f : List TempReq → α → List TempReq} (h : ∀ q x, (f q x).map TempReq.bare = q.map TempReq.bare)
    (l : List α) (q : List TempReq) : (l.foldl f q).map TempReq.bare = q.map TempReq.bare := by
  induction l generalizing q with
  | nil => rfl
  | cons x l ih => rw [List.foldl_cons, ih, h]

/-- Serving the requests marks some of them, and changes nothing else (R283). -/
theorem serveTemps_is (s : State) : ∃ l, serveTemps s = { s with therm := { s.therm with queue := l } } ∧
    l.map TempReq.bare = s.therm.queue.map TempReq.bare := by
  refine ⟨_, rfl, ?_⟩
  rw [foldl_bare fun q x => serveTemp_bare .., foldl_bare]
  intro q x
  split
  · rfl
  · exact serveTemp_bare ..

theorem codes_of_bare {l m : List TempReq} (h : l.map TempReq.bare = m.map TempReq.bare) : l.map TempReq.code = m.map TempReq.code := by
  have hc : ∀ l : List TempReq, l.map TempReq.code = (l.map TempReq.bare).map TempReq.code := fun l => by rw [List.map_map]; rfl
  rw [hc l, hc m, h]

/-- A request for the host, whatever is being served. -/
theorem host_of_bare {l m : List TempReq} {c : Nat} (h : l.map TempReq.bare = m.map TempReq.bare)
    (hm : ∃ x ∈ m, x.code = c ∧ x.host = true) : ∃ x ∈ l, x.code = c ∧ x.host = true := by
  obtain ⟨x, hx, hc, hh⟩ := hm
  obtain ⟨y, hy, hxy⟩ := List.mem_map.mp (h ▸ List.mem_map_of_mem hx : x.bare ∈ l.map TempReq.bare)
  exact ⟨y, hy, (congrArg TempReq.code hxy).trans hc, (congrArg TempReq.host hxy).trans hh⟩

/-- The queue once a request has joined it (R283). -/
def joinedQueue (r : TempReq) (conv : Nat) (l : List TempReq) : List TempReq :=
  if l.any (fun x => decide (x.code = r.code)) then
    l.map (fun x => if x.code = r.code then { x with sched := x.sched || r.sched, chg := x.chg || r.chg, host := x.host || r.host } else x)
  else if tempsFull l then l else l ++ [{ r with conv := conv }]

theorem joinTemp_eq (r : TempReq) (s : State) :
    joinTemp r s = { s with therm := { s.therm with queue := joinedQueue r s.tlm.sysConv s.therm.queue } } := rfl

theorem any_code {l : List TempReq} {c : Nat} : l.any (fun x => decide (x.code = c)) = true ↔ ∃ x ∈ l, x.code = c := by
  simp only [List.any_eq_true, decide_eq_true_eq]

theorem tempsFull_iff {l : List TempReq} : tempsFull l = true ↔ 32 ≤ (l.filter (fun x => !x.served)).length := decide_eq_true_iff

/-- The host's request is in the queue once it has joined it (R283). -/
theorem joinedQueue_host {l : List TempReq} {c conv : Nat}
    (h : (∃ x ∈ l, x.code = c) ∨ (l.filter (fun x => !x.served)).length < 32) :
    ∃ x ∈ joinedQueue { code := c, host := true } conv l, x.code = c ∧ x.host = true := by
  unfold joinedQueue
  by_cases hany : ∃ x ∈ l, x.code = c
  · rw [if_pos (any_code.mpr hany)]
    obtain ⟨x, hx, hc⟩ := hany
    refine ⟨_, List.mem_map_of_mem hx, ?_⟩
    rw [if_pos hc]
    exact ⟨hc, Bool.or_true _⟩
  · have hlt := h.resolve_left hany
    rw [if_neg (mt any_code.mp hany), if_neg (mt tempsFull_iff.mp (by omega))]
    exact ⟨_, List.mem_append_right _ List.mem_cons_self, rfl, rfl⟩

/-! ## The end of a reading -/

theorem judgeWarn_therm (b : Bool) (s : State) : (judgeWarn b s).therm =
    { s.therm with rise := rateHot s || (s.therm.rise && !b), fast := rateHot s || (s.therm.rise && !b), junc := juncHot s } := by
  unfold judgeWarn
  dsimp only
  rw [setLine_therm, setLine_therm]

/-- The readings that timed out, once a reading has ended (R285). -/
def timeouts (code : Nat) (timedOut : Bool) (l : List Nat) : List Nat :=
  if timedOut then code :: l.filter (fun y => decide (y ≠ code)) else l.filter (fun y => decide (y ≠ code))

/-- The state in which a request has been taken from the queue (R283). -/
def requestTaken (code : Nat) (timedOut : Bool) (s : State) : State := { s with therm := { s.therm with
  queue := s.therm.queue.filter (fun y => decide (y.code ≠ code)), timedOut := timeouts code timedOut s.therm.timedOut } }

/-- What a reading of a cell leaves, before the rail comparators and the queue are looked at (R284). -/
def cellRead (c : Fin 256) (reading : BitVec 16) (timedOut : Bool) (s : State) : State :=
  let s1 := changeCell (requestTaken c.val timedOut s) c (fun x => { x with temp := reading })
  { s1 with therm := { s1.therm with cellAt := upd s1.therm.cellAt c (some s1.hem.ticks) } }

theorem takeReading_cell {c : Fin 256} {s : State} (h : s.cells[c].st ≠ .retired) (reading : BitVec 16) (sched : Bool) :
    takeReading c.val reading sched s =
      { changeCell s c (fun x => { x with temp := reading }) with
        therm := { (changeCell s c (fun x => { x with temp := reading })).therm with
          cellAt := upd (changeCell s c (fun x => { x with temp := reading })).therm.cellAt c
            (some (changeCell s c (fun x => { x with temp := reading })).hem.ticks) } } := by
  unfold takeReading
  rw [if_pos c.isLt, if_neg (by rw [cell_val]; exact h), fin256_val]

variable {c : Fin 256} {reading : BitVec 16} {timedOut : Bool} {s : State}

/-- What the reading of a cell changes: the cell, the times and the requests. -/
structure CellReading (c : Fin 256) (reading : BitVec 16) (timedOut : Bool) (s t : State) : Prop where
  self : t.cells[c] = { s.cells[c] with temp := reading }
  other : ∀ d : Fin 256, d ≠ c → t.cells[d] = s.cells[d]
  queue : t.therm.queue.map TempReq.code = (s.therm.queue.map TempReq.code).filter (fun x => decide (x ≠ c.val))
  timeouts : t.therm.timedOut = timeouts c.val timedOut s.therm.timedOut
  at_ : t.therm.cellAt[c] = some s.hem.ticks
  proto : t.proto = s.proto
  rails : t.rails = s.rails
  dom : t.dom = s.dom

theorem cellRead_is (h : s.cells[c].st ≠ .retired) : CellReading c reading timedOut s (cellRead c reading timedOut s) where
  self := changeCell_not_retired (s := requestTaken c.val timedOut s) h _
  other _ hd := changeCell_other _ hd _
  queue := by
    unfold cellRead
    dsimp only
    rw [changeCell_therm, requestTaken, List.filter_map]
    rfl
  timeouts := by
    unfold cellRead
    dsimp only
    rw [changeCell_therm]
    rfl
  at_ := by
    unfold cellRead
    dsimp only
    rw [changeCell_therm, changeCell_hem]
    exact upd_self ..
  proto := by
    unfold cellRead
    dsimp only
    rw [changeCell_proto]
    rfl
  rails := by
    unfold cellRead
    dsimp only
    rw [changeCell_rails]
    rfl
  dom := by
    unfold cellRead
    dsimp only
    rw [changeCell_dom]
    rfl

/-- The warnings judged and the next request served leave the reading as it is. -/
theorem CellReading.served {t : State} (h : CellReading c reading timedOut s t) :
    CellReading c reading timedOut s (serveTemps (bump (judgeWarn false t))) := by
  obtain ⟨l, heq, hl⟩ := serveTemps_is (bump (judgeWarn false t))
  rw [bump_therm, judgeWarn_therm] at hl
  have hcells : (serveTemps (bump (judgeWarn false t))).cells = t.cells := by rw [serveTemps_cells, bump_cells, judgeWarn_cells]
  have hcell (d : Fin 256) : (serveTemps (bump (judgeWarn false t))).cells[d] = t.cells[d] := congrArg (fun v : Vector Cell 256 => v[d]) hcells
  have htherm : (serveTemps (bump (judgeWarn false t))).therm = { (judgeWarn false t).therm with queue := l } := congrArg State.therm heq
  rw [judgeWarn_therm] at htherm
  exact {
    self := (hcell c).trans h.self
    other := fun d hd => (hcell d).trans (h.other d hd)
    queue := by
      rw [htherm]
      exact (codes_of_bare hl).trans h.queue
    timeouts := by
      rw [htherm]
      exact h.timeouts
    at_ := (congrArg (fun x : Therm => x.cellAt[c]) htherm).trans h.at_
    proto := by rw [serveTemps_proto, bump_proto, judgeWarn_proto, h.proto]
    rails := by rw [serveTemps_rails, bump_rails, judgeWarn_rails, h.rails]
    dom := by rw [serveTemps_dom, bump_dom, judgeWarn_dom, h.dom] }

/-- The state in which a cell's reading has ended, before a command that waits for it is answered. -/
def cellReadOut (c : Fin 256) (reading : BitVec 16) (timedOut : Bool) (s : State) : State :=
  serveTemps (bump (judgeWarn false (cellRead c reading timedOut s)))

theorem cellReadOut_is (h : s.cells[c].st ≠ .retired) : CellReading c reading timedOut s (cellReadOut c reading timedOut s) :=
  (cellRead_is h).served

theorem find_served {code : Nat} (h : ∃ x ∈ s.therm.queue, x.code = code ∧ x.served = true) :
    ∃ x, s.therm.queue.find? (fun x => decide (x.code = code) && x.served) = some x := by
  obtain ⟨x, hx, hc, hs⟩ := h
  refine Option.isSome_iff_exists.mp (List.find?_isSome.mpr ⟨x, hx, ?_⟩)
  rw [hc, hs, decide_eq_true rfl]
  rfl

theorem find_unserved {code : Nat} (h : ∀ x ∈ s.therm.queue, x.code = code → x.served = false) :
    s.therm.queue.find? (fun x => decide (x.code = code) && x.served) = none := by
  refine List.find?_eq_none.mpr fun x hx hp => ?_
  obtain ⟨hc, hs⟩ := Bool.and_eq_true_iff.mp hp
  exact ne_true_of_eq_false (h x hx (of_decide_eq_true hc)) hs

theorem endReading_unserved {code : Nat} (h : ∀ x ∈ s.therm.queue, x.code = code → x.served = false) (reading : BitVec 16) (b : Bool) :
    endReading code reading b s = s := by
  unfold endReading
  rw [find_unserved h]

/-- The end of a cell's reading, with the answer to the command that waits for it (R283-R285). -/
theorem endReading_cell (hq : ∃ x ∈ s.therm.queue, x.code = c.val ∧ x.served = true) (h : s.cells[c].st ≠ .retired) :
    ∃ stamp, endReading c.val reading timedOut s = match s.proto.exec with
      | some (_, .temp d) =>
        if d = c.val then complete (if timedOut then .doneWithNote else .done) (le16 reading.toNat ++ [0, 0] ++ le32 stamp)
          (cellReadOut c reading timedOut s)
        else cellReadOut c reading timedOut s
      | _ => cellReadOut c reading timedOut s := by
  obtain ⟨x, hx⟩ := find_served hq
  have hexec : (cellReadOut c reading timedOut s).proto.exec = s.proto.exec := by rw [(cellReadOut_is h).proto]
  refine ⟨fabricNow (cellRead c reading timedOut s) % 2 ^ 32, ?_⟩
  have hread : takeReading c.val reading x.sched (requestTaken c.val timedOut s) = cellRead c reading timedOut s :=
    takeReading_cell (s := requestTaken c.val timedOut s) h reading x.sched
  unfold requestTaken timeouts at hread
  have hdie : ¬ (0x100 ≤ c.val ∧ c.val < 0x110 ∧ s.therm.dieBad.getLsbD (c.val - 0x100) = true) := fun hd => by
    have := c.isLt
    omega
  unfold endReading
  rw [hx]
  dsimp only
  rw [hread, if_neg hdie]
  unfold cellReadOut at hexec ⊢
  rw [hexec] <;> rfl

end Sys2Proof.Machine
end

section
/-! PROOF. O39: temperatures are read and rails throttled (R283-R286, R289, R290, R295, R296, R299). -/

namespace Sys2Proof.Machine

variable {q : Req} {s : State}

/-! ## Measurements asked for -/

theorem tempMeasureOp_paramCheck (hl : q.params.length = 2) (h : fieldAt q.params 0 2 ≤ 0x110) :
    tempMeasureOp.paramCheck 2 q.params = none := by
  refine fixed_paramCheck (n := 2) (by decide) (by decide) rfl hl ?_
  simp [tempMeasureOp, firstBad, h]

theorem tempMeasureOp_run (h : ¬ (fieldAt q.params 0 2 < 0x100 ∧ (s.cell (fieldAt q.params 0 2)).st = .retired)) : tempMeasureOp.run q s =
    if s.therm.queue.any (fun x => decide (x.code = fieldAt q.params 0 2)) = false ∧ tempsFull s.therm.queue then busy s 2
    else (requestTemp { code := fieldAt q.params 0 2, host := true } s, .defer (.temp (fieldAt q.params 0 2))) := if_neg h

theorem notRetired_code {code : Nat} (h : ∀ c : Fin 256, code = c.val → s.cells[c].st ≠ .retired) :
    ¬ (code < 0x100 ∧ (s.cell code).st = .retired) := fun ⟨hlt, hst⟩ =>
  h ⟨code, hlt⟩ rfl (by rw [← cell_val]; exact hst)

theorem tempMeasure_retired (hr : Ready 0x0901 q s) (hl : q.params.length = 2) (hc : fieldAt q.params 0 2 ≤ 0x110) {c : Fin 256}
    (h : fieldAt q.params 0 2 = c.val) (hst : s.cells[c].st = .retired) : exec (.tempMeasure q) s = .fault .undefinedRetiredCell := by
  refine runOp_undef (o := tempMeasureOp) (t := arrived q s) hr (tempMeasureOp_paramCheck hl hc) (if_pos ?_)
  rw [cell_congr (arrived_cells q s), h, cell_val]
  exact ⟨c.isLt, hst⟩

theorem tempMeasure_busy (hr : Ready 0x0901 q s) (hl : q.params.length = 2) (hc : fieldAt q.params 0 2 ≤ 0x110)
    (h : ∀ c : Fin 256, fieldAt q.params 0 2 = c.val → s.cells[c].st ≠ .retired)
    (hno : ∀ x ∈ s.therm.queue, x.code ≠ fieldAt q.params 0 2) (hfull : 32 ≤ (s.therm.queue.filter (fun x => !x.served)).length) :
    Completes (.tempMeasure q) 0x0901 q s .busy [2] (fun t => t = arrived q s) := by
  have hrun := tempMeasureOp_run (q := q) (s := arrived q s) (by rw [cell_congr (arrived_cells q s)]; exact notRetired_code h)
  refine completes_of_reply (o := tempMeasureOp) rfl hr (tempMeasureOp_paramCheck hl hc) (t := arrived q s) (hrun.trans (if_pos ?_))
    (by rw [arrived_proto]; exact hr.empty) rfl
  rw [arrived_therm]
  refine ⟨eq_false_of_ne_true fun hany => ?_, tempsFull_iff.mpr hfull⟩
  obtain ⟨x, hx, hcode⟩ := any_code.mp hany
  exact hno x hx hcode

theorem tempMeasure_begins (hr : Ready 0x0901 q s) (hl : q.params.length = 2) (hc : fieldAt q.params 0 2 ≤ 0x110)
    (h : ∀ c : Fin 256, fieldAt q.params 0 2 = c.val → s.cells[c].st ≠ .retired)
    (hroom : (∃ x ∈ s.therm.queue, x.code = fieldAt q.params 0 2) ∨ (s.therm.queue.filter (fun x => !x.served)).length < 32) :
    Begins (.tempMeasure q) 0x0901 q s (.temp (fieldAt q.params 0 2)) (fun t =>
      t = { arrived q s with therm := { s.therm with queue := t.therm.queue } } ∧
      ∃ x ∈ t.therm.queue, x.code = fieldAt q.params 0 2 ∧ x.host = true) := by
  have hrun := tempMeasureOp_run (q := q) (s := arrived q s) (by rw [cell_congr (arrived_cells q s)]; exact notRetired_code h)
  obtain ⟨l, heq, hl'⟩ := serveTemps_is (joinTemp { code := fieldAt q.params 0 2, host := true } (arrived q s))
  have htherm : (joinTemp { code := fieldAt q.params 0 2, host := true } (arrived q s)).therm = { s.therm with
      queue := joinedQueue { code := fieldAt q.params 0 2, host := true } (arrived q s).tlm.sysConv s.therm.queue } := by
    rw [joinTemp_eq]
    dsimp only
    rw [arrived_therm]
  rw [htherm] at heq hl'
  have hqueue : requestTemp { code := fieldAt q.params 0 2, host := true } (arrived q s) =
      { arrived q s with therm := { s.therm with queue := l } } := heq
  refine begins_of_run (o := tempMeasureOp) (t := { arrived q s with therm := { s.therm with queue := l } }) rfl hr
    (tempMeasureOp_paramCheck hl hc) (hrun.trans ((if_neg ?_).trans (by rw [hqueue]))) ⟨rfl, host_of_bare hl' (joinedQueue_host hroom)⟩
  rw [arrived_therm]
  rintro ⟨hno, hfull⟩
  exact hroom.elim (fun he => ne_true_of_eq_false hno (any_code.mpr he)) (fun hlt => by have := tempsFull_iff.mp hfull; omega)

/-! ## Readings -/

theorem answered {p : Packet} {d : Deferred} {t : State} (h : t.proto.exec = some (p, d)) (st : Status) (l : List Byte) :
    complete st l t = serveFailed (answer p st l { t with proto := { t.proto with exec := none } }) := by
  unfold complete
  rw [h]

theorem tempReading_ends (c : Fin 256) (reading : BitVec 16) (hq : ∃ x ∈ s.therm.queue, x.code = c.val ∧ x.served = true)
    (hst : s.cells[c].st ≠ .retired) :
    (s.proto.exec = none → ∃ t, exec (.tempReadingDone c.val reading) s = .next t ∧ t.cells[c] = { s.cells[c] with temp := reading } ∧
      (∀ d : Fin 256, d ≠ c → t.cells[d] = s.cells[d]) ∧
        t.therm.queue.map TempReq.code = (s.therm.queue.map TempReq.code).filter (fun x => decide (x ≠ c.val)) ∧
      t.therm.cellAt[c] = some s.hem.ticks ∧ t.proto = s.proto ∧ t.rails = s.rails ∧ t.dom = s.dom) ∧
    (s.proto.exec = none → ∃ t, exec (.tempReadingTimeout c.val) s = .next t ∧ t.cells[c].temp = 0x8000 ∧ c.val ∈ t.therm.timedOut ∧
      (∀ d : Fin 256, d ≠ c → t.cells[d] = s.cells[d]) ∧ t.proto = s.proto ∧ t.rails = s.rails ∧ t.dom = s.dom) ∧
    ∀ p, s.proto.exec = some (p, .temp c.val) →
      (∃ t stamp, exec (.tempReadingDone c.val reading) s = .next (serveFailed (answer p .done (le16 reading.toNat ++ [0, 0] ++ le32 stamp) t)) ∧
        t.proto = { s.proto with exec := none } ∧ t.cells[c].temp = reading) ∧
      ∃ t stamp, exec (.tempReadingTimeout c.val) s = .next (serveFailed (answer p .doneWithNote ([0, 0x80, 0, 0] ++ le32 stamp) t)) ∧
        t.proto = { s.proto with exec := none } ∧ t.cells[c].temp = 0x8000 := by
  have hdone : exec (.tempReadingDone c.val reading) s = .next (endReading c.val reading false s) :=
    congrArg Host.Outcome.next (if_neg fun ⟨hc, _⟩ => by have := c.isLt; omega)
  have hout : exec (.tempReadingTimeout c.val) s = .next (endReading c.val 0x8000 true s) := rfl
  obtain ⟨stamp, hend⟩ := endReading_cell (reading := reading) (timedOut := false) hq hst
  obtain ⟨stamp', hend'⟩ := endReading_cell (reading := 0x8000) (timedOut := true) hq hst
  have hr := cellReadOut_is (reading := reading) (timedOut := false) hst
  have hr' := cellReadOut_is (reading := 0x8000) (timedOut := true) hst
  refine ⟨fun he => ?_, fun he => ?_, fun p he => ⟨?_, ?_⟩⟩
  · rw [he] at hend
    exact ⟨_, hdone.trans (congrArg Host.Outcome.next hend), hr.self, hr.other, hr.queue, hr.at_, hr.proto, hr.rails, hr.dom⟩
  · rw [he] at hend'
    refine ⟨_, hout.trans (congrArg Host.Outcome.next hend'), congrArg Cell.temp hr'.self, ?_, hr'.other, hr'.proto, hr'.rails, hr'.dom⟩
    rw [hr'.timeouts]
    exact List.mem_cons_self
  · rw [he] at hend
    refine ⟨_, stamp, hdone.trans (congrArg Host.Outcome.next (hend.trans ((if_pos rfl).trans
      (answered (p := p) (d := .temp c.val) (by rw [hr.proto, he]) ..)))), ?_, congrArg Cell.temp hr.self⟩
    dsimp only
    rw [hr.proto]
  · rw [he] at hend'
    refine ⟨_, stamp', hout.trans (congrArg Host.Outcome.next (hend'.trans ((if_pos rfl).trans
      (answered (p := p) (d := .temp c.val) (by rw [hr'.proto, he]) ..)))), ?_, congrArg Cell.temp hr'.self⟩
    dsimp only
    rw [hr'.proto]

/-! ## Die sensors -/

theorem dieBit_set (k : Fin 16) (b : BitVec 16) : (b ||| BitVec.ofNat 16 (2 ^ k.val)).getLsbD k.val = true := by
  rw [BitVec.getLsbD_or, BitVec.getLsbD_ofNat, Nat.testBit_two_pow_self, decide_eq_true k.isLt]
  exact Bool.or_true _

theorem dieBit_cleared (k : Fin 16) (b : BitVec 16) : (b &&& ~~~ BitVec.ofNat 16 (2 ^ k.val)).getLsbD k.val = false := by
  rw [BitVec.getLsbD_and, BitVec.getLsbD_not, BitVec.getLsbD_ofNat, Nat.testBit_two_pow_self, decide_eq_true k.isLt]
  exact Bool.and_false _

theorem dieSense_fault (k : Fin 16) (s : State) : ∃ t, exec (.dieSenseFault k true) s = .next t ∧ t.therm.dieBad.getLsbD k.val = true ∧
    t.therm.die[k] = 0x8000 ∧ t.therm.rate[k] = 0 ∧
    (∀ j : Fin 16, j ≠ k → t.therm.die[j] = s.therm.die[j] ∧ t.therm.rate[j] = s.therm.rate[j]) ∧
    t.cells = s.cells ∧ t.rails = s.rails ∧ t.dom = s.dom ∧ t.chg = s.chg := by
  refine ⟨_, rfl, ?_, ?_, ?_, fun j hj => ⟨?_, ?_⟩, setLine_cells .., setLine_rails .., setLine_dom .., setLine_chg ..⟩
  · rw [setLine_therm]
    exact dieBit_set ..
  · exact (congrArg (fun x : Therm => x.die[k]) (setLine_therm ..)).trans (upd_self ..)
  · exact (congrArg (fun x : Therm => x.rate[k]) (setLine_therm ..)).trans (upd_self ..)
  · exact (congrArg (fun x : Therm => x.die[j]) (setLine_therm ..)).trans (upd_other _ _ _ _ hj.symm)
  · exact (congrArg (fun x : Therm => x.rate[j]) (setLine_therm ..)).trans (upd_other _ _ _ _ hj.symm)

theorem dieSense_restored (k : Fin 16) (s : State) : ∃ t, exec (.dieSenseFault k false) s = .next t ∧
    t.therm = { s.therm with dieBad := t.therm.dieBad } ∧
    t.therm.dieBad.getLsbD k.val = false ∧ t.cells = s.cells ∧ t.rails = s.rails ∧ t.dom = s.dom := by
  refine ⟨_, rfl, ?_, ?_, setLine_cells .., setLine_rails .., setLine_dom ..⟩
  · rw [setLine_therm]
    rfl
  · rw [setLine_therm]
    exact dieBit_cleared ..

end Sys2Proof.Machine
end

section
/-! PROOF. O39, continued: the scheduled evaluation of the temperatures (R290, R295, R296, R299). -/

namespace Sys2Proof.Machine

variable {q : Req} {s : State}

/-! ## The steps of the evaluation -/

/-- The limits that wait, taken (R290). -/
def Therm.limited (t : Therm) : Therm :=
  match t.limNext with
  | some b => t.setLimits b
  | none => t

/-- The policy `p` that waits, taken (R299). -/
def Therm.policed (p : Option (List Byte)) (t : Therm) : Therm :=
  match p with
  | some b => t.setPolicy b
  | none => t

theorem takeThermRecords_therm (s : State) : (takeThermRecords s).therm = s.therm.limited.policed s.therm.polNext := by
  unfold takeThermRecords
  dsimp only
  split <;> rfl

/-- The limits, which the policy does not touch. -/
def Therm.limits (t : Therm) : BitVec 16 × Nat × Nat × Nat × Nat × Nat := (t.warn, t.riseWarn, t.schedMs, t.fastMs, t.stopLead, t.stopMin)

theorem policed_limits (p : Option (List Byte)) (t : Therm) : (t.policed p).limits = t.limits := by
  cases p <;> rfl

theorem policed_limNext (p : Option (List Byte)) (t : Therm) : (t.policed p).limNext = t.limNext := by
  cases p <;> rfl

theorem policed_bank (p : Option (List Byte)) (t : Therm) : (t.policed p).bank = t.bank := by
  cases p <;> rfl

theorem limited_of_some {t : Therm} {b : List Byte} (h : t.limNext = some b) : t.limited = t.setLimits b := by
  unfold Therm.limited
  rw [h]

theorem limited_of_none {t : Therm} (h : t.limNext = none) : t.limited = t := by
  unfold Therm.limited
  rw [h]

theorem limited_bank (t : Therm) : t.limited.bank = t.bank ∧ t.limited.limNext = none ∧ t.limited.polNext = t.polNext := by
  cases h : t.limNext
  case none => rw [limited_of_none h]; exact ⟨rfl, h, rfl⟩
  case some b => rw [limited_of_some h]; exact ⟨rfl, rfl, rfl⟩

theorem taken_bank (s : State) : (takeThermRecords s).therm.bank = s.therm.bank := by
  rw [takeThermRecords_therm, policed_bank, (limited_bank s.therm).1]

theorem taken_limNext (s : State) : (takeThermRecords s).therm.limNext = none := by
  rw [takeThermRecords_therm, policed_limNext, (limited_bank s.therm).2.1]

theorem taken_polNext (s : State) : (takeThermRecords s).therm.polNext = none := by
  rw [takeThermRecords_therm]
  cases h : s.therm.polNext
  case none => exact (limited_bank s.therm).2.2.trans h
  case some b => rfl

theorem taken_limits {b : List Byte} (h : s.therm.limNext = some b) : (takeThermRecords s).therm.limits =
    (BitVec.ofNat 16 (fieldAt b 0 2), max 1 (fieldAt b 2 2), clampNat 10 10000 (fieldAt b 4 2), clampNat 1 1000 (fieldAt b 6 2),
      fieldAt b 8 2, fieldAt b 10 2) := by
  rw [takeThermRecords_therm, policed_limits, limited_of_some h]
  rfl

theorem taken_policy {b : List Byte} (h : s.therm.polNext = some b) : (takeThermRecords s).therm = s.therm.limited.setPolicy b := by
  rw [takeThermRecords_therm, h]
  rfl

theorem takeThermRecords_none (hl : s.therm.limNext = none) (hp : s.therm.polNext = none) : takeThermRecords s = s := by
  unfold takeThermRecords
  rw [hl, hp]
  rfl

/-- The next steps of the rails (R295). -/
def throttledRails (s : State) : State := mapRails s (fun r x =>
  { x with prot := { x.prot with
    thrStep := nextStep s r, thrAt := if nextStep s r = x.prot.thrStep then x.prot.thrAt else s.hem.ticks } })

theorem throttledRails_step (s : State) (r : Fin 48) : (throttledRails s).rails[r].prot.thrStep = nextStep s r.val :=
  congrArg (fun x : Rail => x.prot.thrStep) (mapRails_get ..)

theorem evalThrottle_eq (s : State) : evalThrottle s = setLine 482 ((upto 48).any (fun r => decide (((throttledRails s).rail r).prot.thrStep ≠ 0)))
    { throttledRails s with therm := { s.therm with
      throttling := (upto 48).any (fun r => decide (((throttledRails s).rail r).prot.thrStep ≠ 0)) } } := rfl

theorem evalThrottle_therm (s : State) : (evalThrottle s).therm = { s.therm with
    throttling := (upto 48).any (fun r => decide (((throttledRails s).rail r).prot.thrStep ≠ 0)) } := by
  rw [evalThrottle_eq, setLine_therm]

theorem evalThrottle_step (s : State) (r : Fin 48) : (evalThrottle s).rails[r].prot.thrStep = nextStep s r.val := by
  rw [evalThrottle_eq, rail_of_rails (setLine_rails ..)]
  exact throttledRails_step s r

theorem throttling_iff (s : State) : ((upto 48).any (fun r => decide (((throttledRails s).rail r).prot.thrStep ≠ 0))) = true ↔
    ∃ r : Fin 48, nextStep s r.val ≠ 0 := by
  rw [List.any_eq_true]
  constructor
  · rintro ⟨r, hr, h⟩
    have hlt := mem_upto.mp hr
    have h := of_decide_eq_true h
    rw [show (throttledRails s).rail r = (throttledRails s).rails[(⟨r, hlt⟩ : Fin 48)] from rail_val _ ⟨r, hlt⟩] at h
    rw [throttledRails_step] at h
    exact ⟨⟨r, hlt⟩, h⟩
  · rintro ⟨r, h⟩
    refine ⟨r.val, mem_upto.mpr r.isLt, decide_eq_true ?_⟩
    rw [rail_val, throttledRails_step]
    exact h

/-- A fall that is begun leaves the rails' protections (R242). -/
theorem enterFalling_prot (latch : Bool) (s : State) (r : Fin 48) : (enterFalling latch s).rails[r].prot = s.rails[r].prot := by
  by_cases h : s.dom.st = .rising ∨ s.dom.st = .up
  · rw [enterFalling_eq h, rail_of_rails (beginDown_rails _), fallen_rail]
  · unfold enterFalling
    rw [if_neg h]
    split <;> rfl

theorem thermalStop_prot (s : State) (r : Fin 48) : (thermalStop s).rails[r].prot = s.rails[r].prot := by
  unfold thermalStop
  split
  · dsimp only
    rw [rail_of_rails (sendEcho_rails ..), rail_of_rails (capture_rails ..), rail_of_rails (pulse_rails ..), rail_of_rails (thermSet_rails ..)]
    exact enterFalling_prot ..
  · rfl

theorem thermalStop_therm (s : State) : (thermalStop s).therm = { s.therm with flags := (thermalStop s).therm.flags } := by
  unfold thermalStop
  split
  · dsimp only
    rw [sendEcho_therm, capture_therm, pulse_therm]
    unfold thermSet
    dsimp only
    rw [enterFalling_therm]
  · rfl

theorem thermalStop_none (h : s.therm.stopLead = 0) : thermalStop s = s := by
  refine if_neg fun hs => ?_
  unfold stopNow at hs
  rw [h] at hs
  exact Bool.false_ne_true hs

theorem foldl_joinTemp (f : Nat → TempReq) (l : List Nat) (s : State) : ∃ m, l.foldl (fun t k => joinTemp (f k) t) s =
    { s with therm := { s.therm with queue := m } } := by
  induction l generalizing s with
  | nil => exact ⟨s.therm.queue, rfl⟩
  | cons k l ih =>
    obtain ⟨m, hm⟩ := ih (joinTemp (f k) s)
    exact ⟨m, hm⟩

/-- The next readings asked for (R286). -/
theorem requestSchedule_is (s : State) : ∃ l, requestSchedule s = { s with therm := { s.therm with queue := l, bank := (s.therm.bank + 1) % 16 } } := by
  obtain ⟨m1, h1⟩ := foldl_joinTemp (fun k => { code := 0x100 + k, sched := true }) (upto 16) s
  obtain ⟨m2, h2⟩ := foldl_joinTemp (fun k => { code := 16 * s.therm.bank + k, sched := true }) (upto 16)
    { s with therm := { s.therm with queue := m1 } }
  obtain ⟨l, h3, -⟩ := serveTemps_is { s with therm := { s.therm with queue := m2 } }
  refine ⟨l, ?_⟩
  unfold requestSchedule
  dsimp only
  rw [h1, h2, h3]

/-! ## The evaluation -/

/-- The state whose temperatures are judged (R290). -/
def warned (s : State) : State := judgeWarn true (takeThermRecords s)

theorem thermalSchedule_runs (h : s.proto.running = true) :
    exec .thermalSchedule s = .next (requestSchedule (thermalStop (evalThrottle (warned s)))) := congrArg Host.Outcome.next (if_pos h)

/-- What the evaluation leaves of the temperature unit: the records taken, with the judgement beside them. -/
theorem scheduled_therm (s : State) : ∃ l flags rise fast junc, (requestSchedule (thermalStop (evalThrottle (warned s)))).therm =
    { (takeThermRecords s).therm with
      queue := l, bank := (s.therm.bank + 1) % 16, flags := flags, rise := rise, fast := fast, junc := junc
      throttling := (upto 48).any (fun r => decide (((throttledRails (warned s)).rail r).prot.thrStep ≠ 0)) } := by
  obtain ⟨l, hl⟩ := requestSchedule_is (thermalStop (evalThrottle (warned s)))
  rw [hl]
  dsimp only
  generalize hf : (thermalStop (evalThrottle (warned s))).therm = x
  rw [thermalStop_therm, evalThrottle_therm, warned, judgeWarn_therm] at hf
  subst hf
  rw [← taken_bank s]
  exact ⟨l, _, _, _, _, rfl⟩

theorem scheduled_step (s : State) (r : Fin 48) :
    (requestSchedule (thermalStop (evalThrottle (warned s)))).rails[r].prot.thrStep = nextStep (warned s) r.val := by
  rw [rail_of_rails (requestSchedule_rails _), thermalStop_prot, evalThrottle_step]

theorem scheduled_throttling (s : State) : (requestSchedule (thermalStop (evalThrottle (warned s)))).therm.throttling = true ↔
    ∃ r : Fin 48, (requestSchedule (thermalStop (evalThrottle (warned s)))).rails[r].prot.thrStep ≠ 0 := by
  obtain ⟨l, flags, rise, fast, junc, h⟩ := scheduled_therm s
  simp only [scheduled_step]
  rw [h]
  exact throttling_iff _

/-! ## The steps of the rails -/

theorem judgeWarn_only (b : Bool) (s : State) : ∃ router seam pwr clk, judgeWarn b s = { s with
    therm := { s.therm with rise := rateHot s || (s.therm.rise && !b), fast := rateHot s || (s.therm.rise && !b), junc := juncHot s }
    router := router, seam := seam, pwr := pwr, clk := clk } := by
  unfold judgeWarn
  dsimp only
  rw [setLine_only, setLine_only]
  exact ⟨_, _, _, _, rfl⟩

theorem predicted10_judgeWarn (b : Bool) (s : State) (r : Nat) : predicted10 (judgeWarn b s) r = predicted10 s r := by
  obtain ⟨router, seam, pwr, clk, h⟩ := judgeWarn_only b s
  rw [h]
  rfl

theorem nextStep_judgeWarn (b : Bool) (s : State) (r : Nat) : nextStep (judgeWarn b s) r = nextStep s r := by
  have hp := predicted10_judgeWarn b s r
  obtain ⟨router, seam, pwr, clk, h⟩ := judgeWarn_only b s
  rw [h] at hp ⊢
  unfold nextStep
  rw [hp]
  rfl

section
variable {r : Fin 48}

theorem nextStep_exempt (h : natBit s.therm.exempt r.val = true ∨ s.therm.thrMode = 0) : nextStep s r.val = 0 := by
  unfold nextStep
  dsimp only
  split
  · rfl
  · rename_i he
    exact if_pos (h.resolve_left he)

theorem nextStep_fixed (he : natBit s.therm.exempt r.val = false) (hm : s.therm.thrMode = 2) :
    nextStep s r.val = min 7 s.therm.fixedStep :=
  (if_neg (ne_true_of_eq_false he)).trans ((if_neg (by rw [hm]; decide)).trans (if_pos hm))

/-- The steps that follow the temperatures, once the dwell of the last is over (R295). -/
theorem nextStep_auto (he : natBit s.therm.exempt r.val = false) (hm : s.therm.thrMode = 1) : nextStep s r.val =
    if s.map.active[r].valid = false ∨ dwellOver s s.rails[r] = false then s.rails[r].prot.thrStep
    else match predicted10 s r.val with
      | none => s.rails[r].prot.thrStep
      | some p =>
        if 10 * s.therm.thrOn.toInt ≤ p then min 7 (s.rails[r].prot.thrStep + 1)
        else if p < 10 * (s.therm.thrOn.toInt - s.therm.thrHyst) then s.rails[r].prot.thrStep - 1
        else s.rails[r].prot.thrStep := by
  unfold nextStep
  dsimp only
  rw [if_neg (ne_true_of_eq_false he), if_neg (by rw [hm]; decide), if_neg (by rw [hm]; decide), rail_val, entry_val] <;> rfl

theorem nextStep_waits (he : natBit s.therm.exempt r.val = false) (hm : s.therm.thrMode = 1)
    (h : s.map.active[r].valid = false ∨ (s.hem.ticks - s.rails[r].prot.thrAt) * 1000 < s.therm.stepDwell * 32768) :
    nextStep s r.val = s.rails[r].prot.thrStep :=
  (nextStep_auto he hm).trans (if_pos (h.imp_right fun hd => decide_eq_false (Nat.not_le.mpr hd)))

theorem nextStep_follows (he : natBit s.therm.exempt r.val = false) (hm : s.therm.thrMode = 1) {p : Int}
    (hv : s.map.active[r].valid = true) (hd : s.therm.stepDwell * 32768 ≤ (s.hem.ticks - s.rails[r].prot.thrAt) * 1000)
    (hp : predicted10 s r.val = some p) : nextStep s r.val =
      if 10 * s.therm.thrOn.toInt ≤ p then min 7 (s.rails[r].prot.thrStep + 1)
      else if p < 10 * (s.therm.thrOn.toInt - s.therm.thrHyst) then s.rails[r].prot.thrStep - 1
      else s.rails[r].prot.thrStep := by
  have hover : dwellOver s s.rails[r] = true := decide_eq_true hd
  rw [nextStep_auto he hm, if_neg (not_or.mpr ⟨ne_false_of_eq_true hv, ne_false_of_eq_true hover⟩), hp]

end

/-- The scheduled evaluation (R286, R290, R295, R296, R299). -/
theorem thermalSchedule_evaluates (h : s.proto.running = true) : ∃ t, exec .thermalSchedule s = .next t ∧ t.cells = s.cells ∧ t.chg = s.chg ∧
    t.therm.bank = (s.therm.bank + 1) % 16 ∧ t.therm.limNext = none ∧ t.therm.polNext = none ∧
    (∀ b, s.therm.limNext = some b → t.therm.warn = BitVec.ofNat 16 (fieldAt b 0 2) ∧ t.therm.riseWarn = max 1 (fieldAt b 2 2) ∧
      t.therm.schedMs = clampNat 10 10000 (fieldAt b 4 2) ∧ t.therm.fastMs = clampNat 1 1000 (fieldAt b 6 2) ∧
      t.therm.stopLead = fieldAt b 8 2 ∧ t.therm.stopMin = fieldAt b 10 2) ∧
    (∀ b, s.therm.polNext = some b → t.therm.thrMode = (if byteAt b 0 ≤ 2 then byteAt b 0 else 1) ∧
      t.therm.fixedStep = min 7 (byteAt b 1) ∧ t.therm.thrOn = BitVec.ofNat 16 (fieldAt b 2 2) ∧ t.therm.thrHyst = fieldAt b 4 2 ∧
      t.therm.lookahead = fieldAt b 6 2 ∧ t.therm.stepDwell = max 10 (fieldAt b 8 2) ∧ t.therm.exempt = fieldAt b 10 6) ∧
    (t.therm.throttling = true ↔ ∃ r : Fin 48, t.rails[r].prot.thrStep ≠ 0) ∧
    (s.therm.limNext = none → s.therm.polNext = none → s.therm.stopLead = 0 → t.dom = s.dom) ∧
    (s.therm.limNext = none → s.therm.polNext = none → ∀ r : Fin 48, t.rails[r].prot.thrStep = nextStep s r.val) := by
  obtain ⟨l, flags, rise, fast, junc, htherm⟩ := scheduled_therm s
  refine ⟨_, thermalSchedule_runs h, ?_, ?_, ?_, ?_, ?_, fun b hb => ?_, fun b hb => ?_, scheduled_throttling s, fun hl hp hs => ?_, fun hl hp r => ?_⟩
  · rw [requestSchedule_cells, thermalStop_cells, evalThrottle_cells, warned, judgeWarn_cells, takeThermRecords_cells]
  · rw [requestSchedule_chg, thermalStop_chg, evalThrottle_chg, warned, judgeWarn_chg, takeThermRecords_chg]
  · rw [htherm]
  · rw [htherm]
    exact taken_limNext s
  · rw [htherm]
    exact taken_polNext s
  · have hlim := taken_limits hb
    rw [htherm]
    simpa only [Therm.limits, Prod.mk.injEq] using hlim
  · rw [htherm, taken_policy hb]
    exact ⟨rfl, rfl, rfl, rfl, rfl, rfl, rfl⟩
  · have hlead : (evalThrottle (warned s)).therm.stopLead = 0 := by
      rw [evalThrottle_therm, warned, judgeWarn_therm, takeThermRecords_none hl hp]
      exact hs
    rw [requestSchedule_dom, thermalStop_none hlead, evalThrottle_dom, warned, judgeWarn_dom, takeThermRecords_dom]
  · rw [scheduled_step, warned, takeThermRecords_none hl hp, nextStep_judgeWarn]

/-- Settles O39: the commands, the readings, the die sensors and the scheduled evaluation, each stated above. -/
theorem temperaturesAndThrottling : Obligations.TemperaturesAndThrottling := by
  intro q s
  have hempty : ∀ {op}, Ready op q s → (arrived q s).proto.waiting = [] := fun hr => by rw [arrived_proto]; exact hr.empty
  refine ⟨fun hr hl hc => ⟨fun ⟨c, h, hst⟩ => tempMeasure_retired hr hl hc h hst, fun h => ⟨tempMeasure_busy hr hl hc h, tempMeasure_begins hr hl hc h⟩⟩,
    fun hr hl => ?_, fun hr hl => ?_, fun code reading h => ⟨?_, ?_⟩, fun c reading hq hst => tempReading_ends c reading hq hst,
    fun k => ⟨dieSense_fault k s, dieSense_restored k s⟩, fun h => ?_, fun h => ?_⟩
  case refine_1 =>
    exact completes_of_reply (o := thermalLimitsOp) rfl hr (fixed_paramCheck (n := 12) (by decide) (by decide) rfl hl rfl) rfl (hempty hr)
      (by rw [arrived_therm])
  case refine_2 =>
    exact completes_of_reply (o := throttlePolicyOp) rfl hr (fixed_paramCheck (n := 16) (by decide) (by decide) rfl hl rfl) rfl (hempty hr)
      (by rw [arrived_therm])
  case refine_3 =>
    refine congrArg Host.Outcome.next ((if_neg fun ⟨_, hany⟩ => ?_).trans (endReading_unserved h ..))
    obtain ⟨x, hx, hp⟩ := List.any_eq_true.mp hany
    obtain ⟨hcode, hserved⟩ := Bool.and_eq_true_iff.mp hp
    exact ne_true_of_eq_false (h x hx (of_decide_eq_true hcode)) hserved
  case refine_4 => exact congrArg Host.Outcome.next (endReading_unserved h ..)
  case refine_5 => exact congrArg Host.Outcome.next (if_neg (ne_true_of_eq_false h))
  case refine_6 =>
    obtain ⟨t, hx, hcells, hchg, hbank, hlim, hpol, hlims, hpols, hthr, hdom, hstep⟩ := thermalSchedule_evaluates h
    refine ⟨t, hx, hcells, hchg, hbank, hlim, hpol, hlims, hpols, hthr, hdom, fun hl hp r => ?_⟩
    rw [hstep hl hp r]
    exact ⟨nextStep_exempt, nextStep_fixed, fun he hm => ⟨nextStep_waits he hm, fun p => nextStep_follows he hm⟩⟩

end Sys2Proof.Machine
end

section
/-! PROOF. HOLD and the phases of the charger, one operation after the other (R303-R309, R312-R324). -/

namespace Sys2Proof.Machine

variable {s t u : State}

/-! ## HOLD -/

theorem pwrSet_only (m : BitVec 16) (s : State) : pwrSet m s = { s with
    chg := { s.chg with flags := s.chg.flags ||| m }
    router := (pwrSet m s).router, seam := (pwrSet m s).seam, pwr := (pwrSet m s).pwr, clk := (pwrSet m s).clk } := pulseIf_only ..

theorem HoldMoves.flagged {h : HoldSt} (hm : HoldMoves s t h) (m : BitVec 16) : HoldMoves s (pwrSet m t) h := by
  unfold HoldMoves at hm ⊢
  have hp := pwrSet_only m t
  generalize pwrSet m t = u at hp ⊢
  rw [hp, hm]

theorem holdMoves_pulse (e : Fin 1024) (h : HoldSt) (n : Nat) (s : State) :
    HoldMoves s (pulse e { s with chg := { s.chg with hold := h, switchovers := n } }) h := by
  unfold HoldMoves
  have hp := pulse_only e { s with chg := { s.chg with hold := h, switchovers := n } }
  generalize pulse e { s with chg := { s.chg with hold := h, switchovers := n } } = u at hp ⊢
  rw [hp]

theorem holdMoves_self (s : State) : HoldMoves s s s.chg.hold := rfl

/-- The changeovers counted when HOLD moves (R303). -/
def countMove (h : HoldSt) (c : Chg) : Nat :=
  if (decide (c.hold = .onVin) || decide (c.hold = .onPack)) && (decide (h = .onVin) || decide (h = .onPack)) then
    satInc 0xFFFFFFFF c.switchovers
  else c.switchovers

/-- The state in which HOLD has moved, before its flags are set. -/
def holdMoved (h : HoldSt) (s : State) : State := pulse 496 { s with chg := { s.chg with hold := h, switchovers := countMove h s.chg } }

theorem holdMoved_moves (h : HoldSt) (s : State) : HoldMoves s (holdMoved h s) h := holdMoves_pulse ..

theorem holdMoved_chg (h : HoldSt) (s : State) : (holdMoved h s).chg = { s.chg with hold := h, switchovers := countMove h s.chg } := pulse_chg ..

theorem setHold_eq (h : HoldSt) (s : State) : setHold h s = if s.chg.hold = h then s
    else if (decide (s.chg.hold = .onVin) || decide (s.chg.hold = .onPack)) && decide (h = .lost) then pwrSet 0x8 (holdMoved h s)
    else if h = .retry then pwrSet 0x10 (holdMoved h s) else holdMoved h s := rfl

/-- HOLD moves to another state (R303-R309). -/
theorem setHold_moves (h : HoldSt) (s : State) : HoldMoves s (setHold h s) h := by
  rw [setHold_eq]
  split
  case isTrue heq => exact heq ▸ holdMoves_self s
  case isFalse =>
    split
    · exact (holdMoved_moves ..).flagged _
    · split
      · exact (holdMoved_moves ..).flagged _
      · exact holdMoved_moves ..

theorem pwrSet_flags (m : BitVec 16) (s : State) : (pwrSet m s).chg.flags = s.chg.flags ||| m :=
  congrArg (fun t : State => t.chg.flags) (pwrSet_only m s)

theorem setHold_lost_flags (h : s.chg.hold = .onPack) : (setHold .lost s).chg.flags = s.chg.flags ||| 0x8 := by
  rw [setHold_eq, if_neg (by rw [h]; decide), if_pos (by rw [h]; decide), pwrSet_flags, holdMoved_chg]

theorem setHold_retry_flags (h : s.chg.hold ≠ .retry) : (setHold .retry s).chg.flags = s.chg.flags ||| 0x10 := by
  have hlost : ((decide (s.chg.hold = .onVin) || decide (s.chg.hold = .onPack)) && decide (HoldSt.retry = .lost)) = false := Bool.and_false _
  rw [setHold_eq, if_neg h, if_neg (ne_true_of_eq_false hlost), if_pos rfl, pwrSet_flags, holdMoved_chg]

/-- What HOLD does when the pack's usability changes: it moves, or stays (R303, R306). -/
theorem holdOfPack_moves (b s : State) : ∃ h, HoldMoves s (holdOfPack b s) h := by
  unfold holdOfPack
  split
  · split
    · exact ⟨_, holdMoves_self s⟩
    · exact ⟨_, setHold_moves ..⟩
  · split
    · exact ⟨_, setHold_moves ..⟩
    · exact ⟨_, holdMoves_self s⟩
  · exact ⟨_, holdMoves_self s⟩

theorem holdOffVin_moves (s : State) : ∃ h, HoldMoves s (holdOffVin s) h := by
  unfold holdOffVin
  split
  · exact ⟨_, setHold_moves ..⟩
  · exact ⟨_, holdMoves_self s⟩

/-! ## What the charger's operations change -/

/-- Only the charger's record, the requests for readings, and what an event changes. -/
def ChargeOnly (s t : State) : Prop := t = { s with
  chg := t.chg, therm := { s.therm with queue := t.therm.queue }, router := t.router, seam := t.seam, pwr := t.pwr, clk := t.clk }

theorem ChargeOnly.refl (s : State) : ChargeOnly s s := rfl

theorem ChargeOnly.trans (h : ChargeOnly s t) (h' : ChargeOnly t u) : ChargeOnly s u := by
  unfold ChargeOnly at h h' ⊢
  rw [h] at h'
  exact h'

theorem HoldMoves.chargeOnly {h : HoldSt} (hm : HoldMoves s t h) : ChargeOnly s t := by
  unfold HoldMoves at hm
  unfold ChargeOnly
  rw [hm]

theorem ChargeOnly.elsewhere (h : ChargeOnly s t) : Elsewhere s t := by
  unfold ChargeOnly at h
  rw [h]
  exact ⟨rfl, rfl, rfl, rfl⟩

theorem ChargeOnly.land (h : ChargeOnly s t) : t.land = s.land := by
  unfold ChargeOnly at h
  rw [h]

theorem ChargeOnly.hem (h : ChargeOnly s t) : t.hem = s.hem := by
  unfold ChargeOnly at h
  rw [h]

theorem ChargeOnly.proto (h : ChargeOnly s t) : t.proto = s.proto := by
  unfold ChargeOnly at h
  rw [h]

theorem ChargeOnly.free (h : ChargeOnly s t) : t.free = s.free := by
  unfold ChargeOnly at h
  rw [h]

theorem ChargeOnly.therm (h : ChargeOnly s t) : t.therm = { s.therm with queue := t.therm.queue } := by
  unfold ChargeOnly at h
  rw [h]

theorem chargeOnly_chg (c : Chg) (s : State) : ChargeOnly s { s with chg := c } := rfl

theorem chargeOnly_pulse (e : Fin 1024) (s : State) : ChargeOnly s (pulse e s) := by
  unfold ChargeOnly
  have hp := pulse_only e s
  generalize pulse e s = u at hp ⊢
  rw [hp]

theorem chargeOnly_requestTemp (r : TempReq) (s : State) : ChargeOnly s (requestTemp r s) := by
  obtain ⟨l, h, -⟩ := serveTemps_is (joinTemp r s)
  unfold ChargeOnly requestTemp
  rw [h]
  rfl

/-- The charger's record without what HOLD's moves change. -/
def Chg.phase (c : Chg) : Chg := { c with hold := .off, switchovers := 0, flags := 0 }

theorem HoldMoves.phase {h : HoldSt} (hm : HoldMoves s t h) : t.chg.phase = s.chg.phase := by
  unfold HoldMoves at hm
  rw [hm]
  rfl

theorem HoldMoves.hold {h : HoldSt} (hm : HoldMoves s t h) : t.chg.hold = h := by
  unfold HoldMoves at hm
  rw [hm]

/-- A field that HOLD's moves leave. -/
theorem Chg.get {α : Type} {c d : Chg} (h : c.phase = d.phase) (f : Chg → α) (hf : ∀ c : Chg, f c.phase = f c) : f c = f d := by
  rw [← hf c, h, hf]

/-! ## Phases -/

theorem setPhase_chargeOnly (p : ChgPh) (s : State) : ChargeOnly s (setPhase p s) := by
  unfold setPhase
  dsimp only
  have h1 : ChargeOnly s (pulse 497 { s with chg := s.chg.enter p }) := (chargeOnly_chg _ s).trans (chargeOnly_pulse ..)
  generalize pulse 497 { s with chg := s.chg.enter p } = s1 at h1 ⊢
  have h2 : ChargeOnly s (if p = .topoff ∧ s.chg.topMin = 0 then pulse 497 { s1 with chg := s1.chg.enter .maintain } else s1) := by
    split
    · exact h1.trans ((chargeOnly_chg _ s1).trans (chargeOnly_pulse ..))
    · exact h1
  generalize (if p = .topoff ∧ s.chg.topMin = 0 then pulse 497 { s1 with chg := s1.chg.enter .maintain } else s1) = s2 at h2 ⊢
  have h3 : ChargeOnly s (if p = .qualify then requestTemp { code := 0x110, chg := true } s2 else s2) := by
    split
    · exact h2.trans (chargeOnly_requestTemp ..)
    · exact h2
  obtain ⟨h, hm⟩ := holdOfPack_moves s (if p = .qualify then requestTemp { code := 0x110, chg := true } s2 else s2)
  exact h3.trans hm.chargeOnly

/-- The charger's record in the phase that begins (R313). -/
def Chg.begun (p : ChgPh) (c : Chg) : Chg := if p = .topoff ∧ c.topMin = 0 then (c.enter p).enter .maintain else c.enter p

theorem setPhase_phase (p : ChgPh) (s : State) : (setPhase p s).chg.phase = (s.chg.begun p).phase := by
  unfold setPhase
  dsimp only
  obtain ⟨h, hm⟩ := holdOfPack_moves s (if p = .qualify then requestTemp { code := 0x110, chg := true }
      (if p = .topoff ∧ s.chg.topMin = 0 then
        pulse 497 { pulse 497 { s with chg := s.chg.enter p } with chg := (pulse 497 { s with chg := s.chg.enter p }).chg.enter .maintain }
      else pulse 497 { s with chg := s.chg.enter p })
    else if p = .topoff ∧ s.chg.topMin = 0 then
        pulse 497 { pulse 497 { s with chg := s.chg.enter p } with chg := (pulse 497 { s with chg := s.chg.enter p }).chg.enter .maintain }
      else pulse 497 { s with chg := s.chg.enter p })
  rw [hm.phase, ite_chg, requestTemp_chg, ite_self, ite_chg, pulse_chg, pulse_chg]
  rfl

/-- What restarting the averages and taking the current anew change. -/
theorem retarget_is (c : Chg) : ∃ volts peak temps dvOff tgt, c.retarget =
    { c with volts := volts, peak := peak, temps := temps, dvOff := dvOff, tgt := tgt } := by
  unfold Chg.retarget
  dsimp only
  split
  · exact ⟨_, _, _, _, _, rfl⟩
  · exact ⟨_, _, _, _, _, rfl⟩

/-- The charger's record once it has been judged whether it may charge, for the cause `cause` (R319). -/
def Chg.judged (cause : Nat) (c : Chg) : Chg :=
  if c.ph = .suspended then
    if cause ≠ 0 then { c with susp := cause }
    else ({ c with ph := c.left, left := .idle, susp := 0
                   exhausted := c.exhausted && decide (c.left ≠ .fast) && decide (c.left ≠ .topoff) } : Chg).retarget
  else if c.ph.works ∧ cause ≠ 0 then ({ c with ph := .suspended, left := c.ph, susp := cause } : Chg).off.retarget
  else c

theorem judgeSusp_chargeOnly (b : Bool) (s : State) : ChargeOnly s (judgeSusp b s) := by
  unfold judgeSusp
  dsimp only
  split
  · exact ChargeOnly.refl s
  · split
    · split
      · exact chargeOnly_chg ..
      · obtain ⟨h, hm⟩ := holdOfPack_moves s (pulse 497 { s with chg := Chg.retarget { s.chg with
          ph := s.chg.left, left := .idle, susp := 0
          exhausted := s.chg.exhausted && decide (s.chg.left ≠ .fast) && decide (s.chg.left ≠ .topoff) } })
        have h1 := ((chargeOnly_chg _ s).trans (chargeOnly_pulse 497 _)).trans hm.chargeOnly
        split
        · exact h1.trans (chargeOnly_requestTemp ..)
        · exact h1
    · split
      · exact (chargeOnly_chg _ s).trans (chargeOnly_pulse ..)
      · exact ChargeOnly.refl s

theorem judgeSusp_phase (b : Bool) (s : State) : (judgeSusp b s).chg.phase =
    (if chargerStill s then s.chg else s.chg.judged (suspCause s b)).phase := by
  unfold judgeSusp Chg.judged
  dsimp only
  split
  · rfl
  · split
    · split
      · rfl
      · obtain ⟨h, hm⟩ := holdOfPack_moves s (pulse 497 { s with chg := Chg.retarget { s.chg with
          ph := s.chg.left, left := .idle, susp := 0
          exhausted := s.chg.exhausted && decide (s.chg.left ≠ .fast) && decide (s.chg.left ≠ .topoff) } })
        rw [ite_chg, requestTemp_chg, ite_self, hm.phase, pulse_chg]
    · split
      · rw [pulse_chg]
      · rfl

end Sys2Proof.Machine
end

section
/-! PROOF. The choice of the charger's source, and the loss of the module's power (R308, R312, R330, R467). -/

namespace Sys2Proof.Machine

variable {s t u : State}

/-- The charger's settings: its record without what charging changes. -/
def Chg.setup (c : Chg) : Chg := { c with
  hold := .off, switchovers := 0, flags := 0, ph := .idle, left := .idle, susp := 0, fault := 0, volts := [], peak := 0, dvOff := 0
  temps := [], ovSecs := 0, timer := 0, wall := 0, charge := 0, mA := 0, tgt := 0, inLim := false, exhausted := false, autoDue := false
  paused := false, source := .none }

theorem setup_of_phase {c d : Chg} (h : c.phase = d.phase) : c.setup = d.setup := Chg.get h Chg.setup (fun _ => rfl)

/-- A field that charging leaves. -/
theorem Chg.set {α : Type} {c d : Chg} (h : c.setup = d.setup) (f : Chg → α) (hf : ∀ c : Chg, f c.setup = f c) : f c = f d := by
  rw [← hf c, h, hf]

theorem retarget_setup (c : Chg) : c.retarget.setup = c.setup ∧ c.retarget.source = c.source := by
  obtain ⟨_, _, _, _, _, h⟩ := retarget_is c
  rw [h]
  exact ⟨rfl, rfl⟩

theorem enter_setup (p : ChgPh) (c : Chg) : (c.enter p).setup = c.setup ∧ (c.enter p).source = c.source := by
  unfold Chg.enter
  dsimp only
  obtain ⟨h1, h2⟩ := retarget_setup _
  rw [h1, h2]
  cases p <;> exact ⟨rfl, rfl⟩

theorem begun_setup (p : ChgPh) (c : Chg) : (c.begun p).setup = c.setup ∧ (c.begun p).source = c.source := by
  unfold Chg.begun
  split
  · rw [(enter_setup .maintain _).1, (enter_setup .maintain _).2]
    exact enter_setup p c
  · exact enter_setup p c

theorem judged_setup (cause : Nat) (c : Chg) : (c.judged cause).setup = c.setup ∧ (c.judged cause).source = c.source := by
  unfold Chg.judged
  split
  · split
    · exact ⟨rfl, rfl⟩
    · obtain ⟨h1, h2⟩ := retarget_setup ({ c with
        ph := c.left, left := .idle, susp := 0, exhausted := c.exhausted && decide (c.left ≠ .fast) && decide (c.left ≠ .topoff) })
      rw [h1, h2]
      exact ⟨rfl, rfl⟩
  · split
    · obtain ⟨h1, h2⟩ := retarget_setup ({ c with ph := .suspended, left := c.ph, susp := cause } : Chg).off
      rw [h1, h2]
      exact ⟨rfl, rfl⟩
    · exact ⟨rfl, rfl⟩

theorem setPhase_setup (p : ChgPh) (s : State) : (setPhase p s).chg.setup = s.chg.setup ∧ (setPhase p s).chg.source = s.chg.source := by
  obtain ⟨h1, h2⟩ := begun_setup p s.chg
  exact ⟨(setup_of_phase (setPhase_phase p s)).trans h1, (Chg.get (setPhase_phase p s) Chg.source (fun _ => rfl)).trans h2⟩

theorem judgeSusp_setup (b : Bool) (s : State) : (judgeSusp b s).chg.setup = s.chg.setup ∧ (judgeSusp b s).chg.source = s.chg.source := by
  have h := judgeSusp_phase b s
  rw [setup_of_phase h, Chg.get h Chg.source (fun _ => rfl)]
  split
  · exact ⟨rfl, rfl⟩
  · exact judged_setup ..

/-! ## Power -/

theorem stopManager_lost (s : State) : (stopManager s).pwr.lost = s.pwr.lost := by
  unfold stopManager
  dsimp only
  have h : (discardCommands (cutShort s)).pwr.core = s.pwr.core := by rw [discardCommands_pwrcore, cutShort_pwrcore]
  split
  · rw [recheckActive_pwr]
    exact Pwr.get h Pwr.lost (fun _ => rfl)
  · exact Pwr.get h Pwr.lost (fun _ => rfl)

/-- VIN has gone, and no source of the charger feeds the module (R330). -/
def GoesDark (s : State) : Prop := s.land.vinLow = true ∧ s.chg.source = .none ∧ s.pwr.lost = false

theorem powerCheck_dark (h : GoesDark s) : powerCheck s = losePower (stopManager s) := if_pos h

theorem powerCheck_stays (h : ¬ GoesDark s) : powerCheck s = s := if_neg h

theorem powerCheck_mayGoDark (s : State) : MayGoDark s (powerCheck s) := by
  refine ⟨powerCheck_cells s, powerCheck_rails s, powerCheck_crease s, fun h => ?_, fun h => ?_⟩
  · by_cases hd : GoesDark s
    · rw [powerCheck_dark hd] at h
      exact absurd (hd.2.2 ▸ h) Bool.noConfusion
    · rw [powerCheck_stays hd]
  · by_cases hd : GoesDark s
    · rw [powerCheck_dark hd]
      unfold losePower
      dsimp only
      rw [stopManager_dom]
    · rw [powerCheck_stays hd] at h
      exact absurd rfl h

theorem powerCheck_lost (s : State) (hl : s.land.vinLow = true) (hs : s.chg.source = .none) : (powerCheck s).pwr.lost = true := by
  by_cases hd : s.pwr.lost = false
  · rw [powerCheck_dark ⟨hl, hs, hd⟩]
    rfl
  · rw [powerCheck_stays fun h => hd h.2.2]
    exact eq_true_of_ne_false hd

theorem MayGoDark.of_eq {s' : State} (h : MayGoDark s' t) (he : Elsewhere s s') (hp : s'.pwr.lost = s.pwr.lost) : MayGoDark s t := by
  obtain ⟨hc, hr, hf, hd, hd'⟩ := h
  obtain ⟨ec, er, ed, ef⟩ := he
  rw [hp, ed] at hd hd'
  exact ⟨hc.trans ec, hr.trans er, hf.trans ef, hd, hd'⟩

/-! ## The choice of the source -/

/-- The source is chosen anew: the charger takes it, and the module goes dark without any (R312, R330). -/
theorem reselect_is (s : State) : ∃ u, reselect s = powerCheck u ∧ ChargeOnly s u ∧ u.pwr.core = s.pwr.core ∧
    u.chg.source = chooseSource s ∧ u.chg.setup = s.chg.setup := by
  unfold reselect
  extract_lets src c s1 s2
  split
  case isTrue h => exact ⟨s, rfl, ChargeOnly.refl s, rfl, h.symm, rfl⟩
  case isFalse =>
    have h1 : ChargeOnly s s1 := chargeOnly_chg ..
    have hsetup : s1.chg.setup = s.chg.setup := by
      change ({ c with source := src } : Chg).setup = s.chg.setup
      unfold c
      split <;> rfl
    refine ⟨_, rfl, ?_, ?_, ?_, ?_⟩
    · split
      · split
        · exact h1.trans ((chargeOnly_chg _ s1).trans (setPhase_chargeOnly ..))
        · exact h1.trans ((chargeOnly_chg _ s1).trans (judgeSusp_chargeOnly ..))
      · exact h1.trans (judgeSusp_chargeOnly ..)
    · split
      · split
        · rw [setPhase_pwrcore]
        · rw [judgeSusp_pwrcore]
      · rw [judgeSusp_pwrcore]
    · split
      · split
        · exact (setPhase_setup ..).2
        · exact (judgeSusp_setup ..).2
      · exact (judgeSusp_setup ..).2
    · split
      · split
        · exact (setPhase_setup ..).1.trans hsetup
        · exact (judgeSusp_setup ..).1.trans hsetup
      · exact (judgeSusp_setup ..).1.trans hsetup

theorem reselect_mayGoDark (s : State) : MayGoDark s (reselect s) := by
  obtain ⟨u, h, honly, hp, -, -⟩ := reselect_is s
  rw [h]
  exact (powerCheck_mayGoDark u).of_eq honly.elsewhere (Pwr.get hp Pwr.lost (fun _ => rfl))

theorem reselect_source (s : State) : (reselect s).chg.source = chooseSource s := by
  obtain ⟨u, h, -, -, hs, -⟩ := reselect_is s
  rw [h, powerCheck_chg, hs]

theorem reselect_setup (s : State) : (reselect s).chg.setup = s.chg.setup := by
  obtain ⟨u, h, -, -, -, hs⟩ := reselect_is s
  rw [h, powerCheck_chg, hs]

theorem reselect_lost (hl : s.land.vinLow = true) (hs : chooseSource s = .none) : (reselect s).pwr.lost = true := by
  obtain ⟨u, h, honly, -, hsrc, -⟩ := reselect_is s
  rw [h]
  exact powerCheck_lost u (by rw [honly.land, hl]) (hsrc.trans hs)

/-- While VIN is there, the module keeps its power. -/
theorem reselect_powered (hl : s.land.vinLow = false) : (reselect s).pwr.core = s.pwr.core ∧ (reselect s).dom = s.dom := by
  obtain ⟨u, h, honly, hp, -, -⟩ := reselect_is s
  have hstay : ¬ GoesDark u := fun hd => by
    have hlow := hd.1
    rw [honly.land, hl] at hlow
    exact Bool.false_ne_true hlow
  rw [h, powerCheck_stays hstay]
  exact ⟨hp, honly.elsewhere.2.2.1⟩

theorem reselect_therm (s : State) : ∃ l, (reselect s).therm = { s.therm with queue := l } := by
  obtain ⟨u, h, honly, -, -, -⟩ := reselect_is s
  rw [h, powerCheck_therm]
  exact ⟨_, honly.therm⟩

end Sys2Proof.Machine
end

section
/-! PROOF. O40: the supply is lost and returns (R21, R75, R78, R210, R212, R238, R244, R293, R294, R301). -/

namespace Sys2Proof.Machine

variable {s t u : State}

/-! ## The rails and the domain without VIN -/

theorem MayGoDark.st (h : MayGoDark s t) : t.dom.st = s.dom.st ∧ t.dom.vinMem = s.dom.vinMem := by
  obtain ⟨-, -, -, hd, hd'⟩ := h
  by_cases hp : t.pwr.lost = s.pwr.lost
  · rw [hd hp]
    exact ⟨rfl, rfl⟩
  · rw [hd' hp]
    exact ⟨rfl, rfl⟩

theorem domLoseVin_latched (h : s.dom.st = .latched) : domLoseVin s = s := if_pos h

theorem domLoseVin_down (h : s.dom.st ≠ .latched) : (domLoseVin s).dom.st = .down ∧
    ((domLoseVin s).dom.vinMem = true ↔ s.dom.st = .rising ∨ s.dom.st = .up ∨ s.dom.vinMem = true) := by
  have hm : (decide (s.dom.st = .rising) || decide (s.dom.st = .up) || s.dom.vinMem) = true ↔
      s.dom.st = .rising ∨ s.dom.st = .up ∨ s.dom.vinMem = true := by
    simp only [Bool.or_eq_true, decide_eq_true_eq, or_assoc]
  unfold domLoseVin
  rw [if_neg h]
  dsimp only
  split
  case isTrue hd => exact ⟨hd, hm⟩
  case isFalse =>
    refine ⟨enterDom_st .., ?_⟩
    rw [Dom.get (enterDom_domcore ..) Dom.vinMem (fun _ => rfl)]
    exact hm

theorem leaveRails_off (r : Fin 48) (s : State) : (leaveRails (fun x => x.st.runs) .off s).rails[r].st =
    if s.rails[r].st = .latchedOff then .latchedOff else .off := by
  rw [Rail.get (leaveRails_base ..) Rail.st (fun _ => rfl)]
  generalize s.rails[r] = x
  cases h : x.st <;> simp [RailSt.runs, h, Rail.leave]

theorem stopSwitching_cell (c : Fin 256) (s : State) : (stopSwitching s).cells[c] =
    if s.cells[c].st = .retired then s.cells[c] else s.cells[c].turnOff := by
  have h : (stopSwitching s).cells = (changeCells s (fun _ c => c.turnOff)).cells := by
    unfold stopSwitching
    dsimp only
    rw [domLoseVin_cells, offEvents_cells, stopAllArming_cells, leaveRails_cells, abortProbe_cells]
  exact (congrArg (fun v : Vector Cell 256 => v[c]) h).trans (changeCells_get ..)

theorem stopSwitching_rail (r : Fin 48) (s : State) : (stopSwitching s).rails[r].st =
    if s.rails[r].st = .latchedOff then .latchedOff else .off := by
  have h : (stopSwitching s).rails = (leaveRails (fun x => x.st.runs) .off (abortProbe (changeCells s (fun _ c => c.turnOff)))).rails := by
    unfold stopSwitching
    dsimp only
    rw [domLoseVin_rails, offEvents_rails, stopAllArming_rails]
  have h0 : (abortProbe (changeCells s (fun _ c => c.turnOff))).rails[r] = s.rails[r] :=
    rail_of_rails (by rw [abortProbe_rails, changeCells_rails]) r
  rw [rail_of_rails h, leaveRails_off, h0]

theorem stopSwitching_dom (s : State) : (s.dom.st = .latched → (stopSwitching s).dom.st = .latched) ∧
    (s.dom.st ≠ .latched → (stopSwitching s).dom.st = .down ∧
      ((stopSwitching s).dom.vinMem = true ↔ s.dom.st = .rising ∨ s.dom.st = .up ∨ s.dom.vinMem = true)) := by
  unfold stopSwitching
  dsimp only
  generalize hu : offEvents s (stopAllArming (leaveRails (fun x => x.st.runs) .off (abortProbe (changeCells s (fun _ c => c.turnOff))))) = u
  have hd : u.dom = s.dom := by
    rw [← hu, offEvents_dom, stopAllArming_dom, leaveRails_dom, abortProbe_dom, changeCells_dom]
  rw [← hd]
  exact ⟨fun h => by rw [domLoseVin_latched h]; exact h, domLoseVin_down⟩

/-! ## Undervoltage -/

/-- The state in which the converters' supply has gone, before the charger's source is chosen anew (R293, R301). -/
def vinGone (s : State) : State :=
  let s1 := stopSwitching (landSet 0x400000 s)
  let s2 := capture 0x0B 0 s1
  let s3 := holdOffVin (sendEcho 3 (lastSeq s1 s2) s2)
  { s3 with chg := { s3.chg with vinOk := false } }

theorem undervoltage_eq (s : State) : undervoltage s = reselect (vinGone s) := rfl

theorem vinGone_land (s : State) : (vinGone s).land = { s.land with flags := s.land.flags ||| 0x400000 } := by
  unfold vinGone
  dsimp only
  rw [holdOffVin_land, sendEcho_land, capture_land, stopSwitching_land, landSet_land]

theorem vinGone_unpowered (s : State) : Unpowered s (vinGone s) := by
  have hcells : (vinGone s).cells = (stopSwitching (landSet 0x400000 s)).cells := by
    unfold vinGone
    dsimp only
    rw [holdOffVin_cells, sendEcho_cells, capture_cells]
  have hrails : (vinGone s).rails = (stopSwitching (landSet 0x400000 s)).rails := by
    unfold vinGone
    dsimp only
    rw [holdOffVin_rails, sendEcho_rails, capture_rails]
  have hdom : (vinGone s).dom.core = (stopSwitching (landSet 0x400000 s)).dom.core := by
    unfold vinGone
    dsimp only
    rw [holdOffVin_dom, sendEcho_domcore, capture_domcore]
  obtain ⟨hlatched, hdown⟩ := stopSwitching_dom (landSet 0x400000 s)
  rw [landSet_dom] at hlatched hdown
  refine ⟨by rw [vinGone_land], fun c => ?_, fun r => ?_, fun h => ?_, fun h => ?_⟩
  · rw [congrArg (fun v : Vector Cell 256 => v[c]) hcells]
    have hc : (landSet 0x400000 s).cells[c] = s.cells[c] := congrArg (fun v : Vector Cell 256 => v[c]) (landSet_cells ..)
    exact (stopSwitching_cell ..).trans (by rw [hc])
  · rw [rail_of_rails hrails, stopSwitching_rail, rail_of_rails (landSet_rails ..)]
  · rw [Dom.get hdom Dom.st (fun _ => rfl)]
    exact hlatched h
  · rw [Dom.get hdom Dom.st (fun _ => rfl), Dom.get hdom Dom.vinMem (fun _ => rfl)]
    exact hdown h

theorem vinGone_chg (s : State) : (vinGone s).chg.vinOk = false ∧ (vinGone s).chg.auxOk = s.chg.auxOk ∧ (vinGone s).chg.seamChg = s.chg.seamChg := by
  unfold vinGone
  extract_lets s1 s2 s3
  have hp : s3.chg.phase = s.chg.phase := by
    obtain ⟨h, hm⟩ := holdOffVin_moves (sendEcho 3 (lastSeq s1 s2) s2)
    rw [hm.phase, sendEcho_chg, capture_chg, stopSwitching_chg, landSet_chg]
  clear_value s3
  exact ⟨rfl, Chg.get hp Chg.auxOk (fun _ => rfl), Chg.get hp Chg.seamChg (fun _ => rfl)⟩

theorem vinGone_pwrcore (s : State) : (vinGone s).pwr.core = s.pwr.core := by
  unfold vinGone
  dsimp only
  rw [holdOffVin_pwrcore, sendEcho_pwrcore, capture_pwrcore, stopSwitching_pwrcore, landSet_pwrcore]

theorem vinGone_therm (s : State) : (vinGone s).therm = s.therm := by
  unfold vinGone
  dsimp only
  rw [holdOffVin_therm, sendEcho_therm, capture_therm, stopSwitching_therm, landSet_therm]

theorem Unpowered.dark (h : Unpowered s t) (hm : MayGoDark t u) (hl : u.land = t.land) : Unpowered s u := by
  obtain ⟨hflags, hcells, hrails, hlatched, hdown⟩ := h
  obtain ⟨hst, hmem⟩ := hm.st
  obtain ⟨hc, hr, -, -, -⟩ := hm
  refine ⟨by rw [hl, hflags], fun c => ?_, fun r => ?_, fun h => hst.trans (hlatched h), fun h => ?_⟩
  · rw [congrArg (fun v : Vector Cell 256 => v[c]) hc, hcells]
  · rw [rail_of_rails hr, hrails]
  · rw [hst, hmem]
    exact hdown h

theorem Unpowered.congr {s' : State} (h : Unpowered s' t) (hl : s'.land.flags = s.land.flags) (hc : ∀ c : Fin 256, s'.cells[c] = s.cells[c])
    (hr : ∀ r : Fin 48, s'.rails[r] = s.rails[r]) (hd : s'.dom = s.dom) : Unpowered s t := by
  unfold Unpowered at h ⊢
  rw [hl, hd] at h
  simp only [hc, hr] at h
  exact h

theorem undervoltage_unpowered (s : State) : Unpowered s (undervoltage s) := by
  rw [undervoltage_eq]
  exact (vinGone_unpowered s).dark (reselect_mayGoDark _) (reselect_land _)

theorem undervoltage_land (s : State) : (undervoltage s).land = { s.land with flags := s.land.flags ||| 0x400000 } := by
  rw [undervoltage_eq, reselect_land, vinGone_land]

theorem undervoltage_lost (hl : s.land.vinLow = true) (ha : s.chg.auxOk = false) (hs : s.chg.seamChg = false) :
    (undervoltage s).pwr.lost = true := by
  obtain ⟨h1, h2, h3⟩ := vinGone_chg s
  rw [undervoltage_eq]
  refine reselect_lost (by rw [vinGone_land]; exact hl) ?_
  unfold chooseSource
  rw [h1, h2, h3, ha, hs]
  rfl

/-! ## VIN falls, and the hardware shutdown -/

theorem vinUv_falls (hl : s.land.vinLow = false) (ht : s.therm.tsdNow = false) : ∃ t, exec .vinUv s = .next t ∧ Unpowered s t ∧
    t.land.vinLow = true ∧ (s.chg.auxOk = false → s.chg.seamChg = false → t.pwr.lost = true) := by
  have hx : exec .vinUv s = .next (undervoltage { s with land := { s.land with vinLow := true, vinWait := false } }) :=
    congrArg Host.Outcome.next ((if_neg (ne_true_of_eq_false hl)).trans (if_neg (ne_true_of_eq_false ht)))
  have hun : ∀ u : State, u = { s with land := { s.land with vinLow := true, vinWait := false } } → Unpowered s (undervoltage u) ∧
      (undervoltage u).land.vinLow = true ∧ (s.chg.auxOk = false → s.chg.seamChg = false → (undervoltage u).pwr.lost = true) := fun u hu => by
    refine ⟨(undervoltage_unpowered u).congr (by rw [hu]) (fun c => by subst hu; rfl) (fun r => by subst hu; rfl) (by rw [hu]), ?_,
      fun ha hs => undervoltage_lost (by rw [hu]) (by rw [hu]; exact ha) (by rw [hu]; exact hs)⟩
    rw [undervoltage_land, hu]
  exact ⟨_, hx, hun _ rfl⟩

theorem vinUv_shut (hl : s.land.vinLow = false) (ht : s.therm.tsdNow = true) : ∃ t, exec .vinUv s = .next t ∧ t.land.vinLow = true ∧
    t.land.flags = s.land.flags ||| 0x400000 ∧ MayGoDark s t := by
  refine ⟨_, congrArg Host.Outcome.next ((if_neg (ne_true_of_eq_false hl)).trans (if_pos ht)), ?_, ?_, ?_⟩
  · rw [reselect_land, abortProbe_land, landSet_land]
  · rw [reselect_land, abortProbe_land, landSet_land]
  · refine (reselect_mayGoDark _).of_eq ⟨?_, ?_, ?_, ?_⟩ ?_
    · rw [abortProbe_cells, landSet_cells]
    · rw [abortProbe_rails, landSet_rails]
    · rw [abortProbe_dom, landSet_dom]
    · rw [abortProbe_crease, landSet_crease]
    · refine Pwr.get ?_ Pwr.lost (fun _ => rfl)
      rw [abortProbe_pwrcore, landSet_pwrcore]

/-- The state in which the hardware shutdown is noted (R294). -/
def tsdNoted (s : State) : State := setLine 484 true (thermSet 0x80 { s with therm := { s.therm with tsdNow := true } })

theorem tsdNoted_only (s : State) : ∃ router seam pwr clk, tsdNoted s = { s with
    therm := { s.therm with tsdNow := true, flags := s.therm.flags ||| 0x80 }, router := router, seam := seam, pwr := pwr, clk := clk } ∧
    pwr.core = s.pwr.core := by
  have hp : (tsdNoted s).pwr.core = s.pwr.core := by
    unfold tsdNoted
    rw [setLine_pwrcore]
    rfl
  refine ⟨(tsdNoted s).router, (tsdNoted s).seam, (tsdNoted s).pwr, (tsdNoted s).clk, ?_, hp⟩
  conv => lhs; unfold tsdNoted; rw [setLine_only]
  rfl

theorem tsd_shuts {k : Fin 16} (ht : s.therm.tsdNow = false) (hb : s.therm.dieBad.getLsbD k.val = false) :
    ∃ t, exec (.tsd k) s = .next t ∧ t.therm.tsdNow = true ∧ t.therm.flags = s.therm.flags ||| 0x80 ∧
      t.land.flags = s.land.flags ||| 0x400000 ∧ (s.land.vinLow = false → Unpowered s t ∧ t.pwr.lost = s.pwr.lost) := by
  have hno : ¬ (s.therm.tsdNow = true ∨ s.therm.dieBad.getLsbD k.val = true) := by
    rw [ht, hb]
    decide
  obtain ⟨router, seam, pwr, clk, hu, hp⟩ := tsdNoted_only s
  have hx : exec (.tsd k) s = .next (if s.land.vinLow then landSet 0x400000 (tsdNoted s) else undervoltage (tsdNoted s)) :=
    congrArg Host.Outcome.next (if_neg hno)
  generalize tsdNoted s = u at hx hu
  have htherm : u.therm = { s.therm with tsdNow := true, flags := s.therm.flags ||| 0x80 } := by rw [hu]
  have hland : u.land = s.land := by rw [hu]
  by_cases hl : s.land.vinLow = true
  · rw [if_pos hl] at hx
    refine ⟨_, hx, ?_, ?_, ?_, fun h => absurd hl (ne_true_of_eq_false h)⟩
    · rw [landSet_therm, htherm]
    · rw [landSet_therm, htherm]
    · rw [landSet_land, hland]
  · rw [if_neg hl] at hx
    have hl := eq_false_of_ne_true hl
    obtain ⟨l, hr⟩ := reselect_therm (vinGone u)
    refine ⟨_, hx, ?_, ?_, ?_, fun _ => ⟨?_, ?_⟩⟩
    · rw [undervoltage_eq, hr, vinGone_therm, htherm]
    · rw [undervoltage_eq, hr, vinGone_therm, htherm]
    · rw [undervoltage_land, hland]
    · exact (undervoltage_unpowered u).congr (by rw [hland]) (fun c => by subst hu; rfl) (fun r => by subst hu; rfl) (by rw [hu])
    · rw [undervoltage_eq, Pwr.get (reselect_powered (by rw [vinGone_land, hland]; exact hl)).1 Pwr.lost (fun _ => rfl), Pwr.get (vinGone_pwrcore _) Pwr.lost (fun _ => rfl), hu]
      exact Pwr.get hp Pwr.lost (fun _ => rfl)

end Sys2Proof.Machine
end

section
/-! PROOF. O40, continued: the supply returns, and VIN rises too far (R21, R75, R78, R212, R244). -/

namespace Sys2Proof.Machine

variable {s t u : State}

/-! ## The return of the supply -/

theorem tsdClear_returns (ht : s.therm.tsdNow = true) : ∃ t, exec .tsdClear s = .next t ∧ t = { s with
      therm := { s.therm with tsdNow := false }, dom := t.dom, land := t.land, free := t.free
      router := t.router, seam := t.seam, pwr := t.pwr, clk := t.clk } ∧
    (s.land.vinLow = true → t.dom = s.dom ∧ t.land = s.land) ∧
    (s.land.vinLow = false → (t.dom = { s.dom with restartDue := s.dom.vinMem } ∧ t.land = s.land) ∨
      (t.dom = s.dom ∧ t.land = { s.land with vinWait := true })) := by
  generalize hu : setLine 484 false { s with therm := { s.therm with tsdNow := false } } = u
  have honly : u = { s with therm := { s.therm with tsdNow := false }, router := u.router, seam := u.seam, pwr := u.pwr, clk := u.clk } := by
    rw [← hu]
    exact setLine_only ..
  have hx : exec .tsdClear s = .next (if s.land.vinLow then u
      else if Config.freeBool s.free then restartDue (bump u) else bump { u with land := { u.land with vinWait := true } }) := by
    rw [← hu]
    exact congrArg Host.Outcome.next (if_neg (ne_false_of_eq_true ht))
  by_cases hl : s.land.vinLow = true
  · rw [if_pos hl] at hx
    refine ⟨u, hx, ?_, fun _ => by rw [honly]; exact ⟨rfl, rfl⟩, fun h => absurd hl (ne_true_of_eq_false h)⟩
    rw [honly]
  · rw [if_neg hl] at hx
    refine ⟨_, hx, ?_, fun h => absurd h hl, fun _ => ?_⟩
    · split
      · rw [honly]
        rfl
      · rw [honly]
        rfl
    · split
      · rw [honly]
        exact .inl ⟨rfl, rfl⟩
      · rw [honly]
        exact .inr ⟨rfl, rfl⟩

theorem vinRestart_idle (h : s.dom.restartDue = false ∨ s.proto.running = false ∨ s.land.vinLow = true ∨ s.therm.tsdNow = true ∨
    s.land.vinWait = true ∨ s.map.probe = .running ∨ s.proto.cfg = .applying) : exec .vinRestart s = .next s := by
  refine congrArg Host.Outcome.next (if_pos ?_)
  unfold State.undervolt
  simpa only [Bool.or_eq_true, or_assoc] using h

theorem vinRestart_due (hd : s.dom.restartDue = true) (hrun : s.proto.running = true) (hl : s.land.vinLow = false) (ht : s.therm.tsdNow = false)
    (hw : s.land.vinWait = false) (hp : s.map.probe ≠ .running) (hc : s.proto.cfg ≠ .applying) : exec .vinRestart s = .next
      (if s.dom.vinRestart = true ∧ (s.dom.upSrc ≠ 1 ∨ s.dom.en.getLsbD s.dom.enPin.val = true) then pinUp s else cancelRestart s) := by
  refine congrArg Host.Outcome.next (if_neg ?_)
  unfold State.undervolt
  rw [hd, hrun, hl, ht, hw]
  simp [hp, hc]

/-- The state in which a restart begins the rise (R244). -/
def restarting (s : State) : State := cancelRestart { s with dom := { s.dom with upWait := false } }

theorem enterRising_restart (h : s.dom.restartDue = false) (hu : s.undervolt = false) (hp : s.proto.running = true)
    (h2 : s.dom.role ≠ 2) (h3 : s.dom.role ≠ 3) : (enterRising s).dom.restartDue = false ∧ (enterRising s).cells = s.cells ∧
      ((∀ j : Fin 16, s.dom.slots[j].used = false) → (enterRising s).dom.st = .up) ∧
      ∀ j : Fin 16, s.dom.slots[j].used = true → (∀ i : Fin 16, i < j → s.dom.slots[i].used = false) →
        (enterRising s).dom.st = .rising ∧ (enterRising s).dom.cur = some j.val := by
  by_cases hj : ∃ j : Fin 16, s.dom.slots[j].used = true
  · obtain ⟨j, hj, hi⟩ := exists_first_used _ hj
    have hdom := enterRising_first hu hp (.inl ⟨h2, h3⟩) hj hi
    refine ⟨by rw [hdom]; rfl, enterRising_cells s, fun hno => absurd hj (ne_true_of_eq_false (hno j)), fun k hk hki => ?_⟩
    rw [enterRising_first hu hp (.inl ⟨h2, h3⟩) hk hki]
    exact ⟨rfl, rfl⟩
  · have hno : ∀ j : Fin 16, s.dom.slots[j].used = false := fun j => eq_false_of_ne_true fun hu => hj ⟨j, hu⟩
    have hcore := enterRising_none hu hp (.inl ⟨h2, h3⟩) hno
    exact ⟨(Dom.get hcore Dom.restartDue (fun _ => rfl)).trans rfl, enterRising_cells s, fun _ => (Dom.get hcore Dom.st (fun _ => rfl)).trans rfl,
      fun j hj' => absurd ⟨j, hj'⟩ hj⟩

/-! ## VIN above 16.5 V -/

theorem markRewrites_get (before after : State) (r : Fin 48) : (markRewrites before after).rails[r] =
    if (after.members r.val).any (fun n => decide ((after.cell n).st = .isolated) && decide ((before.cell n).st ≠ .isolated)) then
      { after.rails[r] with rewriteDue := true } else after.rails[r] := mapRails_get ..

/-- What a cell becomes when VIN rises above 16.5 V (R21). -/
def Cell.overVin (c : Cell) : Cell := if c.st = .isolated then c else c.isolated 7

/-- The state in which the cells are isolated, before the rest of the module is looked at (R21, R75). -/
def overIsolated (s : State) : State := abortProbe (changeCells s (fun _ c => c.overVin))

/-- The state in which VIN is noted as too high. -/
def overNoted (s : State) : State := landSet 0x800000 { s with land := { s.land with vinHigh := true, vinOver := true } }

theorem overNoted_land (s : State) : (overNoted s).land = { s.land with
    vinHigh := true, vinOver := true, flags := s.land.flags ||| 0x800000 } := landSet_land ..

theorem overIsolated_cell (c : Fin 256) (s : State) : (overIsolated s).cells[c] =
    if s.cells[c].st = .retired then s.cells[c] else s.cells[c].overVin := by
  unfold overIsolated
  rw [congrArg (fun v : Vector Cell 256 => v[c]) (abortProbe_cells _)]
  exact changeCells_get ..

theorem overIsolated_memberSet (s : State) (r : Nat) : (overIsolated s).memberSet r = s.memberSet r := by
  have h : (overIsolated s).map.active = s.map.active := by
    unfold overIsolated
    rw [abortProbe_active, changeCells_map]
  unfold State.memberSet State.entry
  rw [h]

/-- The state in which HOLD has been judged after the rise of VIN (R301). -/
def overVin (s : State) : State :=
  holdOffVin (if allRailsOff s then markRewrites (overNoted s) (overIsolated (overNoted s))
    else faultRun 0xFF (markRewrites (overNoted s) (overIsolated (overNoted s))))

theorem vinOv_rises (h : s.land.vinOver = false) : exec .vinOv s = .next (reselect { overVin s with
    chg := { (overVin s).chg with vinOk := false } }) := congrArg Host.Outcome.next (if_neg (ne_true_of_eq_false h))

theorem overVin_cell_of (c : Cell) : (c.st = .isolated → c.overVin = c) ∧
    (c.st ≠ .isolated → c.overVin.st = .isolated ∧ c.overVin.isoCause = 7 ∧ c.overVin.isoSw = false) := by
  unfold Cell.overVin
  exact ⟨fun h => if_pos h, fun h => by rw [if_neg h]; exact ⟨rfl, rfl, rfl⟩⟩

/-- The state in which the rewrites of the ranks are due (R75). -/
def overMarked (s : State) : State := markRewrites (overNoted s) (overIsolated (overNoted s))

theorem overNoted_cell (c : Fin 256) (s : State) : (overNoted s).cells[c] = s.cells[c] :=
  congrArg (fun v : Vector Cell 256 => v[c]) (landSet_cells ..)

theorem overMarked_cell (c : Fin 256) (s : State) : (overMarked s).cells[c] =
    if s.cells[c].st = .retired then s.cells[c] else s.cells[c].overVin := by
  unfold overMarked
  rw [congrArg (fun v : Vector Cell 256 => v[c]) (markRewrites_cells ..), overIsolated_cell, overNoted_cell]

theorem overMarked_rail (r : Fin 48) (s : State) : (overMarked s).rails[r] =
    if ((overIsolated (overNoted s)).members r.val).any (fun n =>
      decide (((overIsolated (overNoted s)).cell n).st = .isolated) && decide (((overNoted s).cell n).st ≠ .isolated)) then
      { s.rails[r] with rewriteDue := true } else s.rails[r] := by
  have h : (overIsolated (overNoted s)).rails[r] = s.rails[r] := by
    refine rail_of_rails ?_ r
    unfold overIsolated overNoted
    rw [abortProbe_rails, changeCells_rails, landSet_rails]
  unfold overMarked
  rw [markRewrites_get, h]

theorem lostMember_iff (r : Fin 48) (s : State) : ((overIsolated (overNoted s)).members r.val).any (fun n =>
      decide (((overIsolated (overNoted s)).cell n).st = .isolated) && decide (((overNoted s).cell n).st ≠ .isolated)) = true ↔
    ∃ c : Fin 256, (s.memberSet r.val).getLsbD c.val = true ∧ s.cells[c].st ≠ .retired ∧ s.cells[c].st ≠ .isolated := by
  have hset : (overIsolated (overNoted s)).memberSet r.val = s.memberSet r.val := by
    rw [overIsolated_memberSet]
    unfold State.memberSet State.entry overNoted
    rw [landSet_map]
  have hcell (c : Fin 256) : ((overIsolated (overNoted s)).cell c.val).st = .isolated ∧ ((overNoted s).cell c.val).st ≠ .isolated ↔
      s.cells[c].st ≠ .retired ∧ s.cells[c].st ≠ .isolated := by
    rw [cell_val, cell_val, overIsolated_cell, overNoted_cell]
    by_cases hr : s.cells[c].st = .retired
    · rw [if_pos hr, hr]
      decide
    · rw [if_neg hr]
      exact ⟨fun ⟨_, h⟩ => ⟨hr, h⟩, fun ⟨_, h⟩ => ⟨((overVin_cell_of _).2 h).1, h⟩⟩
  simp only [List.any_eq_true, Bool.and_eq_true, decide_eq_true_eq, mem_members, hset]
  constructor
  · rintro ⟨n, ⟨hn, hm⟩, h⟩
    exact ⟨⟨n, hn⟩, hm, (hcell ⟨n, hn⟩).mp h⟩
  · rintro ⟨c, hm, h⟩
    exact ⟨c.val, ⟨c.isLt, hm⟩, (hcell c).mpr h⟩

theorem overVin_eq (s : State) : overVin s = holdOffVin (if allRailsOff s then overMarked s else faultRun 0xFF (overMarked s)) := rfl

theorem overVin_stopped (h : allRailsOff s = true) : (overVin s).cells = (overMarked s).cells ∧ (overVin s).rails = (overMarked s).rails ∧
    (overVin s).dom = s.dom := by
  rw [overVin_eq, if_pos h]
  refine ⟨holdOffVin_cells _, holdOffVin_rails _, ?_⟩
  rw [holdOffVin_dom, overMarked, markRewrites_dom, overIsolated, abortProbe_dom, changeCells_dom, overNoted, landSet_dom]

theorem overVin_latched (h : allRailsOff s = false) : (overVin s).cells = (shutOff (overMarked s)).cells ∧ (overVin s).dom.st = .latched ∧
    (overVin s).dom.fnDrive = true := by
  rw [overVin_eq, if_neg (ne_true_of_eq_false h)]
  obtain ⟨hst, hfn, -⟩ := faultRun_dom 0xFF (overMarked s)
  rw [holdOffVin_cells, holdOffVin_dom]
  refine ⟨?_, hst, hfn⟩
  unfold faultRun
  rw [sendEcho_cells, capture_cells]

theorem overVin_land (s : State) : (overVin s).land = { s.land with vinHigh := true, vinOver := true, flags := s.land.flags ||| 0x800000 } := by
  have hm : (overMarked s).land = { s.land with vinHigh := true, vinOver := true, flags := s.land.flags ||| 0x800000 } := by
    rw [overMarked, markRewrites_land, overIsolated, abortProbe_land, changeCells_land, overNoted_land]
  rw [overVin_eq, holdOffVin_land, ite_land, faultRun_land, ite_self, hm]

/-- What becomes of a cell when VIN rises above 16.5 V (R21, R210). -/
def OverCell (c d : Cell) : Prop :=
  (c.st = .retired → d = c) ∧ (c.st = .isolated → d.st = .isolated ∧ d.isoCause = c.isoCause) ∧
  (c.st ≠ .retired → c.st ≠ .isolated → d.st = .isolated ∧ d.isoCause = 7 ∧ d.isoSw = false)

theorem overCell_overVin (c : Cell) : OverCell c (if c.st = .retired then c else c.overVin) := by
  obtain ⟨hiso, hnot⟩ := overVin_cell_of c
  refine ⟨fun h => if_pos h, fun h => ?_, fun h h' => ?_⟩
  · rw [if_neg (by rw [h]; decide), hiso h]
    exact ⟨h, rfl⟩
  · rw [if_neg h]
    exact hnot h'

theorem OverCell.turnedOff {c d : Cell} (h : OverCell c d) : OverCell c (if d.st = .retired then d else d.turnOff) := by
  obtain ⟨hr, hi, hn⟩ := h
  have hoff (hd : d.st = .isolated) : (if d.st = .retired then d else d.turnOff).st = .isolated ∧
      (if d.st = .retired then d else d.turnOff).isoCause = d.isoCause ∧ (if d.st = .retired then d else d.turnOff).isoSw = false := by
    rw [if_neg (by rw [hd]; decide)]
    exact ⟨(if_neg (by rw [hd]; decide)).trans hd, rfl, rfl⟩
  refine ⟨fun h => ?_, fun h => ?_, fun h h' => ?_⟩
  · rw [hr h, if_pos h]
  · obtain ⟨h1, h2, -⟩ := hoff (hi h).1
    exact ⟨h1, h2.trans (hi h).2⟩
  · obtain ⟨h1, h2, h3⟩ := hoff (hn h h').1
    exact ⟨h1, h2.trans (hn h h').2.1, h3⟩

theorem overVin_cell (c : Fin 256) (s : State) : OverCell s.cells[c] (overVin s).cells[c] := by
  by_cases h : allRailsOff s = true
  · rw [congrArg (fun v : Vector Cell 256 => v[c]) (overVin_stopped h).1, overMarked_cell]
    exact overCell_overVin _
  · rw [congrArg (fun v : Vector Cell 256 => v[c]) (overVin_latched (eq_false_of_ne_true h)).1, shutOff_cell, overMarked_cell]
    exact (overCell_overVin _).turnedOff

/-- The rise of VIN above 16.5 V (R21, R75, R210, R238). -/
theorem vinOv_isolates (h : s.land.vinOver = false) : ∃ t, exec .vinOv s = .next t ∧ t.land.vinHigh = true ∧ t.land.vinOver = true ∧
    t.land.flags = s.land.flags ||| 0x800000 ∧ (∀ c : Fin 256, OverCell s.cells[c] t.cells[c]) ∧
    (allRailsOff s = true → (∀ r : Fin 48, t.rails[r] = { s.rails[r] with rewriteDue := t.rails[r].rewriteDue } ∧
        (t.rails[r].rewriteDue = true ↔ s.rails[r].rewriteDue = true ∨ ∃ c : Fin 256, (s.memberSet r.val).getLsbD c.val = true ∧
          s.cells[c].st ≠ .retired ∧ s.cells[c].st ≠ .isolated)) ∧ t.dom = { s.dom with fnDrive := t.dom.fnDrive } ∧
      (s.land.vinLow = false → t.dom = s.dom)) ∧
    (allRailsOff s = false → t.dom.st = .latched ∧ (s.land.vinLow = false → t.dom.fnDrive = true)) := by
  generalize hu : ({ overVin s with chg := { (overVin s).chg with vinOk := false } } : State) = u
  have hcells : u.cells = (overVin s).cells := by rw [← hu]
  have hrails : u.rails = (overVin s).rails := by rw [← hu]
  have hdom : u.dom = (overVin s).dom := by rw [← hu]
  have hland : u.land = { s.land with vinHigh := true, vinOver := true, flags := s.land.flags ||| 0x800000 } := by
    rw [← hu]
    exact overVin_land s
  have hdark := reselect_mayGoDark u
  have hpow : s.land.vinLow = false → (reselect u).dom = u.dom := fun hl => (reselect_powered (by rw [hland]; exact hl)).2
  refine ⟨reselect u, hu ▸ vinOv_rises h, ?_, ?_, ?_, fun c => ?_, fun ho => ⟨fun r => ?_, ?_, fun hl => ?_⟩, fun ho => ⟨?_, fun hl => ?_⟩⟩
  · rw [reselect_land, hland]
  · rw [reselect_land, hland]
  · rw [reselect_land, hland]
  · rw [congrArg (fun v : Vector Cell 256 => v[c]) ((reselect_cells u).trans hcells)]
    exact overVin_cell c s
  · rw [rail_of_rails (((reselect_rails u).trans hrails).trans (overVin_stopped ho).2.1), overMarked_rail]
    have hiff := lostMember_iff r s
    split
    case isTrue hm => exact ⟨rfl, iff_of_true rfl (.inr (hiff.mp hm))⟩
    case isFalse hm => exact ⟨rfl, (or_iff_left (mt hiff.mpr hm)).symm⟩
  · obtain ⟨-, -, -, hd, hd'⟩ := hdark
    rw [hdom, (overVin_stopped ho).2.2] at hd hd'
    by_cases hp : (reselect u).pwr.lost = u.pwr.lost
    · rw [hd hp]
    · rw [hd' hp]
  · rw [hpow hl, hdom, (overVin_stopped ho).2.2]
  · rw [hdark.st.1, hdom]
    exact (overVin_latched ho).2.1
  · rw [hpow hl, hdom]
    exact (overVin_latched ho).2.2

/-- Settles O40: the fall of VIN and the shutdown, their return, and VIN risen too far, each stated above. -/
theorem supplyLossAndReturn : Obligations.SupplyLossAndReturn := by
  intro s
  refine ⟨fun h => congrArg Host.Outcome.next (if_pos h), vinUv_falls, vinUv_shut, fun k => ⟨fun h => congrArg Host.Outcome.next (if_pos h), tsd_shuts⟩,
    fun h => congrArg Host.Outcome.next (if_pos h), tsdClear_returns, fun hl hw => ?_, fun h => ?_, vinRestart_idle,
    fun hd hrun hl ht hw hp hc => ⟨fun h => ?_, fun hv hsrc hcyc hst hsafe hag hbad h2 h3 => ?_⟩, fun h => congrArg Host.Outcome.next (if_pos h),
    fun h => ?_, fun h => congrArg Host.Outcome.next (if_pos h), fun h => ?_⟩
  case refine_1 =>
    refine congrArg Host.Outcome.next (if_neg ?_)
    rw [hl, hw]
    decide
  case refine_2 =>
    refine congrArg Host.Outcome.next ((if_pos h).trans ?_)
    split <;> rfl
  case refine_3 =>
    rw [vinRestart_due hd hrun hl ht hw hp hc, if_neg]
    · rfl
    · rintro ⟨hv, hsrc⟩
      obtain h | ⟨h1, h2⟩ := h
      · exact ne_true_of_eq_false h hv
      · exact hsrc.elim (fun hn => hn h1) (fun he => ne_true_of_eq_false h2 he)
  case refine_4 =>
    have hu : (restarting s).undervolt = false := by
      change (s.land.vinLow || s.therm.tsdNow) = false
      rw [hl, ht]
      rfl
    have hx := vinRestart_due hd hrun hl ht hw hp hc
    rw [if_pos ⟨hv, hsrc⟩, pinUp_rises hst hsafe hcyc hag hp hbad hc] at hx
    exact ⟨_, hx, enterRising_restart (s := restarting s) rfl hu hrun h2 h3⟩
  case refine_5 =>
    obtain ⟨t, hx, hhigh, hover, hflags, hcells, hoff, hlat⟩ := vinOv_isolates h
    exact ⟨t, hx, hhigh, hover, hflags, hcells, hoff, hlat⟩
  case refine_6 =>
    refine ⟨_, congrArg Host.Outcome.next (if_neg (ne_false_of_eq_true h)), changeCells_land .., changeCells_rails .., changeCells_dom .., fun c => ?_⟩
    refine (changeCells_get ..).trans ?_
    by_cases hr : s.cells[c].st = .retired
    · refine (if_pos hr).trans (if_neg ?_).symm
      rw [hr]
      rintro ⟨h, -⟩
      cases h
    · exact if_neg hr

end Sys2Proof.Machine
end

section
/-! PROOF. O41: commands of HOLD and the charger (R302-R304, R313-R315, R322, R325, R328, R331, R332, R469, R473). -/

namespace Sys2Proof.Machine

variable {q : Req} {s t u : State}

/-! ## Phases entered and left -/

/-- The charger's record without HOLD, the averages and the current asked for. -/
def Chg.base (c : Chg) : Chg := { c with
  hold := .off, switchovers := 0, flags := 0, volts := [], peak := 0, temps := [], dvOff := 0, tgt := 0 }

/-- A field of the base. -/
theorem Chg.getBase {α : Type} {c d : Chg} (h : c.base = d.base) (f : Chg → α) (hf : ∀ c : Chg, f c.base = f c) : f c = f d := by
  rw [← hf c, h, hf]

theorem base_of_phase {c d : Chg} (h : c.phase = d.phase) : c.base = d.base := Chg.get h Chg.base (fun _ => rfl)

theorem retarget_base (c : Chg) : c.retarget.base = c.base := by
  obtain ⟨_, _, _, _, _, h⟩ := retarget_is c
  rw [h]
  rfl

/-- The charger's record that enters a phase (R313). -/
def Chg.entered (p : ChgPh) (c : Chg) : Chg :=
  let c1 := { c with ph := p, left := .idle, susp := 0, timer := 0, wall := 0, ovSecs := 0, paused := false }
  match p with
  | .qualify => ({ c1 with charge := 0, volts := [], fault := 0 }).off
  | .fast => { c1 with peak := 0, temps := [], dvOff := c.dvHold * 10, exhausted := false }
  | .topoff => { c1 with exhausted := false }
  | .idle | .fault => c1.off
  | _ => c1

theorem enter_base (p : ChgPh) (c : Chg) : (c.enter p).base = (c.entered p).base := retarget_base _

theorem setPhase_base {p : ChgPh} (h : ¬ (p = .topoff ∧ s.chg.topMin = 0)) : (setPhase p s).chg.base = (s.chg.entered p).base := by
  have hb : s.chg.begun p = s.chg.enter p := if_neg h
  rw [base_of_phase (setPhase_phase p s), hb, enter_base]

theorem chgIdle_chargeOnly (s : State) : ChargeOnly s (chgIdle s) := by
  unfold chgIdle
  dsimp only
  split
  · exact chargeOnly_chg ..
  · exact ((chargeOnly_chg _ s).trans (setPhase_chargeOnly ..)).trans (chargeOnly_chg ..)

theorem idle_not_topoff {n : Nat} : ¬ (ChgPh.idle = .topoff ∧ n = 0) := fun h => nomatch h.1

theorem fault_not_topoff {n : Nat} : ¬ (ChgPh.fault = .topoff ∧ n = 0) := fun h => nomatch h.1

theorem qualify_not_topoff {n : Nat} : ¬ (ChgPh.qualify = .topoff ∧ n = 0) := fun h => nomatch h.1

/-- The charger's record in IDLE (R322). -/
theorem chgIdle_base (s : State) : (chgIdle s).chg.base = (if s.chg.ph = ChgPh.idle then ({ s.chg with autoDue := false } : Chg)
    else ({ ({ s.chg with autoDue := false } : Chg).entered ChgPh.idle with fault := 0 } : Chg)).base := by
  unfold chgIdle
  dsimp only
  split
  · rfl
  · have h := setPhase_base (s := { s with chg := { s.chg with autoDue := false } }) idle_not_topoff
    exact Chg.getBase h (fun c => ({ c with fault := 0 } : Chg).base) (fun _ => rfl)

theorem chgFault_chargeOnly (n : Nat) (s : State) : ChargeOnly s (chgFault n s) :=
  (setPhase_chargeOnly ..).trans (chargeOnly_chg ..)

/-- The charger's record in FAULT (R323). -/
theorem chgFault_base (n : Nat) (s : State) : (chgFault n s).chg.base = ({ s.chg.entered .fault with fault := n } : Chg).base :=
  Chg.getBase (setPhase_base (s := s) fault_not_topoff) (fun c => ({ c with fault := n } : Chg).base) (fun _ => rfl)

/-! ## CHARGER_CONFIG -/

theorem setup_of_base {c d : Chg} (h : c.base = d.base) : c.setup = d.setup := Chg.getBase h Chg.setup (fun _ => rfl)

theorem chgIdle_setup (s : State) : (chgIdle s).chg.setup = s.chg.setup := by
  by_cases h : s.chg.ph = .idle
  · rw [setup_of_base (chgIdle_base s), if_pos h]
    rfl
  · rw [setup_of_base (chgIdle_base s), if_neg h]
    rfl

theorem unconfigured_chargeOnly (s : State) : ChargeOnly s (unconfigured s) := by
  unfold unconfigured
  split
  · split
    · exact ChargeOnly.refl s
    · exact chgIdle_chargeOnly s
  · exact ChargeOnly.refl s

theorem unconfigured_setup (s : State) : (unconfigured s).chg.setup = s.chg.setup := by
  unfold unconfigured
  split
  · split
    · rfl
    · exact chgIdle_setup s
  · rfl

theorem MayGoDark.charged (h : MayGoDark s t) (hc : ChargeOnly t u) (hp : u.pwr.core = t.pwr.core) : MayGoDark s u := by
  obtain ⟨h1, h2, h3, h4, h5⟩ := h
  obtain ⟨e1, e2, e3, e4⟩ := hc.elsewhere
  have hl : u.pwr.lost = t.pwr.lost := Pwr.get hp Pwr.lost (fun _ => rfl)
  rw [← hl, ← e3] at h4 h5
  exact ⟨e1.trans h1, e2.trans h2, e4.trans h3, h4, h5⟩

theorem mayGoDark_arrived (q : Req) (s : State) : MayGoDark s (arrived q s) :=
  ⟨arrived_cells q s, arrived_rails q s, arrived_crease q s, fun _ => arrived_dom q s,
    fun h => absurd (Pwr.get (arrived_pwrcore q s) Pwr.lost (fun _ => rfl)) h⟩

theorem elsewhere_arrived (q : Req) (s : State) : Elsewhere s (arrived q s) :=
  ⟨arrived_cells q s, arrived_rails q s, arrived_dom q s, arrived_crease q s⟩

/-- The phases in which a configuration and a start are taken (R313, R315). -/
def ChgPh.rests (p : ChgPh) : Prop := p = .idle ∨ p = .maintain ∨ p = .fault

theorem chargerConfigOp_refuses (h : ¬ s.chg.ph.rests) : chargerConfigOp.run q s = refuseChg s := by
  unfold ChgPh.rests at h
  unfold chargerConfigOp
  dsimp only
  split
  case h_4 => rfl
  all_goals exact absurd (by simp [*]) h

theorem chargerConfigOp_rests (h : s.chg.ph.rests) : chargerConfigOp.run q s = if thresholdsOk q.params then
    done (holdOfPack s (reselect (unconfigured { s with chg := (seamWait s.chg (chgConfig q.params s.chg)).retarget }))) [0]
    else noted s [1] := by
  unfold chargerConfigOp
  dsimp only
  obtain h | h | h := h <;> rw [h]

theorem chargerStartOp_refuses (h : ¬ s.chg.ph.rests) : chargerStartOp.run q s = refuseChg s := by
  unfold ChgPh.rests at h
  unfold chargerStartOp
  dsimp only
  split
  case h_4 => rfl
  all_goals exact absurd (by simp [*]) h

theorem chargerStartOp_rests (h : s.chg.ph.rests) : chargerStartOp.run q s =
    if s.chg.nCells = 0 ∨ s.chg.cap = 0 ∨ s.land.bthOpen then absent s 0xFFFF else done0 (judgeSusp false (setPhase .qualify s)) := by
  unfold chargerStartOp
  dsimp only
  obtain h | h | h := h <;> rw [h]

theorem thresholdsOk_iff (p : List Byte) : thresholdsOk p = true ↔
    s16At p 16 < s16At p 18 ∧ s16At p 18 < s16At p 20 ∧ s16At p 20 < s16At p 22 := by
  simp only [thresholdsOk, Bool.and_eq_true, decide_eq_true_eq, and_assoc]

theorem seamWait_setup (old new : Chg) : ({ seamWait old new with seamOk := false } : Chg) = { new with seamOk := false } := rfl

/-- The charger's record once a configuration has been taken (R313). -/
def configured (q : Req) (s : State) : State := { s with chg := (seamWait s.chg (chgConfig q.params s.chg)).retarget }

/-- A configuration taken (R313, R314). -/
theorem configured_is (q : Req) (s : State) : MayGoDark s (holdOfPack s (reselect (unconfigured (configured q s)))) ∧
    (holdOfPack s (reselect (unconfigured (configured q s)))).chg.setup = (seamWait s.chg (chgConfig q.params s.chg)).setup := by
  obtain ⟨h, hm⟩ := holdOfPack_moves s (reselect (unconfigured (configured q s)))
  have h1 : ChargeOnly s (unconfigured (configured q s)) := (chargeOnly_chg _ s).trans (unconfigured_chargeOnly _)
  have hp : (unconfigured (configured q s)).pwr.core = s.pwr.core := unconfigured_pwrcore _
  refine ⟨((reselect_mayGoDark _).of_eq h1.elsewhere (Pwr.get hp Pwr.lost (fun _ => rfl))).charged hm.chargeOnly (holdOfPack_pwrcore ..), ?_⟩
  rw [setup_of_phase hm.phase, reselect_setup, unconfigured_setup]
  exact (retarget_setup _).1

theorem chargerConfig_takes (hr : Ready 0x0A01 q s) (hl : q.params.length = 32) (h : s.chg.ph.rests)
    (h1 : s16At q.params 16 < s16At q.params 18) (h2 : s16At q.params 18 < s16At q.params 20) (h3 : s16At q.params 20 < s16At q.params 22) :
    Completes (.chargerConfig q) 0x0A01 q s .done [0] (fun t => MayGoDark s t ∧
      t.chg.setup = (seamWait s.chg (chgConfig q.params s.chg)).setup) := by
  have hph : (arrived q s).chg.ph.rests := by
    rw [arrived_chg]
    exact h
  have hrun := (chargerConfigOp_rests (q := q) hph).trans (if_pos ((thresholdsOk_iff _).mpr ⟨h1, h2, h3⟩))
  obtain ⟨hdark, hsetup⟩ := configured_is q (arrived q s)
  have hw : (chargerConfigOp.run q (arrived q s)).1.store.waiting = [] := chargerConfigOp_waiting q (by
    change (arrived q s).proto.waiting = []
    rw [arrived_proto]
    exact hr.empty)
  rw [hrun] at hw
  refine completes_of_reply (o := chargerConfigOp) rfl hr (fixed_paramCheck (n := 32) (by decide) (by decide) rfl hl rfl) hrun hw ⟨?_, ?_⟩
  · exact hdark.of_eq (elsewhere_arrived q s) (Pwr.get (arrived_pwrcore q s) Pwr.lost (fun _ => rfl))
  · rw [arrived_chg] at hsetup
    exact hsetup

/-! ## CHARGER_START and CHARGER_STOP -/

theorem suspCause_unjudged (h : s.chg.ph ≠ .suspended) : suspCause s false = if s.chg.source = .none then 1 else 0 := by
  unfold suspCause
  dsimp only
  split
  · rfl
  · exact if_pos ⟨rfl, h⟩

/-- A start qualifies the pack, or is suspended without a source (R315, R319). -/
theorem chargerStart_state (s : State) : ChargeOnly s (judgeSusp false (setPhase .qualify s)) ∧
    (judgeSusp false (setPhase .qualify s)).chg.base = (if s.chg.source = .none ∧ chargerStill s = false then
      ({ s.chg.entered .qualify with ph := .suspended, left := .qualify, susp := 1 } : Chg) else s.chg.entered .qualify).base := by
  refine ⟨(setPhase_chargeOnly ..).trans (judgeSusp_chargeOnly ..), ?_⟩
  have hb : (setPhase .qualify s).chg.base = (s.chg.entered .qualify).base := setPhase_base qualify_not_topoff
  have hstill : chargerStill (setPhase .qualify s) = chargerStill s := by
    have hp := setPhase_pwrcore .qualify s
    unfold chargerStill State.off
    rw [Pwr.get hp Pwr.lost (fun _ => rfl), Pwr.get hp Pwr.st (fun _ => rfl), Pwr.get hp Pwr.entering (fun _ => rfl)]
  have hph : (setPhase .qualify s).chg.ph = .qualify := (Chg.getBase hb Chg.ph (fun _ => rfl)).trans rfl
  have hsrc : (setPhase .qualify s).chg.source = s.chg.source := (Chg.getBase hb Chg.source (fun _ => rfl)).trans rfl
  rw [base_of_phase (judgeSusp_phase ..), hstill, suspCause_unjudged (by rw [hph]; decide), hsrc]
  generalize (setPhase .qualify s).chg = c at hb hph
  have hworks : c.ph.works = true := by rw [hph]; rfl
  by_cases hs : chargerStill s = true
  · rw [if_pos hs, if_neg (fun h => ne_true_of_eq_false h.2 hs), hb]
  · rw [if_neg hs]
    by_cases hn : s.chg.source = .none
    · rw [if_pos hn, if_pos ⟨hn, eq_false_of_ne_true hs⟩]
      unfold Chg.judged
      rw [if_neg (by rw [hph]; decide), if_pos ⟨hworks, by decide⟩, retarget_base, hph]
      exact Chg.getBase hb (fun c => ({ c with ph := .suspended, left := .qualify, susp := 1 } : Chg).off.base) (fun _ => rfl)
    · rw [if_neg hn, if_neg (fun h => hn h.1)]
      unfold Chg.judged
      rw [if_neg (by rw [hph]; decide), if_neg (fun h => h.2 rfl), hb]

end Sys2Proof.Machine
end

section
/-! PROOF. O41, continued: HOLD_RAIL_SET, SHIP_ENTER and the obligation (R302-R304, R331, R332, R469, R473). -/

namespace Sys2Proof.Machine

variable {q : Req} {s t u : State}

/-! ## HOLD_RAIL_SET -/

/-- The record HOLD_RAIL_SET writes (R302). -/
def holdWritten (b : List Byte) (s : State) : State := { s with chg := { s.chg with
  vHold := clampNat 1800 5500 (fieldAt b 0 2), iHold := clampNat 100 2000 (fieldAt b 2 2), enable := natBit (byteAt b 4) 0
  packOk := natBit (byteAt b 4) 1 } }

/-- A value that was held to its span (R302). -/
def holdNote (b : List Byte) : Bool :=
  decide (clampNat 1800 5500 (fieldAt b 0 2) ≠ fieldAt b 0 2) || decide (clampNat 100 2000 (fieldAt b 2 2) ≠ fieldAt b 2 2)

theorem writeHold_eq (b : List Byte) (s : State) : writeHold b s =
    (if natBit (byteAt b 4) 0 = false ∨ s.pwr.st = .ship then setHold .off (holdWritten b s)
      else if s.chg.hold = .off then setHold (holdChoice (holdWritten b s)) (holdWritten b s) else holdWritten b s, holdNote b) := rfl

theorem clampNat_ne_iff (lo hi n : Nat) : clampNat lo hi n ≠ n ↔ ¬ (lo ≤ n ∧ n ≤ hi) := by
  unfold clampNat
  split
  · omega
  · split <;> omega

theorem holdNote_status (b : List Byte) : (if holdNote b then Status.doneWithNote else .done) =
    if 1800 ≤ fieldAt b 0 2 ∧ fieldAt b 0 2 ≤ 5500 ∧ 100 ≤ fieldAt b 2 2 ∧ fieldAt b 2 2 ≤ 2000 then .done else .doneWithNote := by
  have hn : holdNote b = true ↔ ¬ (1800 ≤ fieldAt b 0 2 ∧ fieldAt b 0 2 ≤ 5500 ∧ 100 ≤ fieldAt b 2 2 ∧ fieldAt b 2 2 ≤ 2000) := by
    unfold holdNote
    simp only [Bool.or_eq_true, decide_eq_true_eq, clampNat_ne_iff]
    omega
  by_cases h : holdNote b = true
  · rw [if_pos h, if_neg (hn.mp h)]
  · rw [if_neg h, if_pos (not_not.mp (mt hn.mpr h))]

theorem holdRailSetOp_run (q : Req) (s : State) : holdRailSetOp.run q s = ((writeHold q.params s).1,
    .reply (if (writeHold q.params s).2 then .doneWithNote else .done)
      (le16 (writeHold q.params s).1.chg.vHold ++ [byte (writeHold q.params s).1.chg.hold.code])) := rfl

/-- HOLD_RAIL_SET of a ready command, told by the state in which HOLD has moved. -/
theorem holdRailSet_completes (hr : Ready 0x0A06 q s) (hl : q.params.length = 8) {h : HoldSt}
    (hw : (writeHold q.params (arrived q s)).1 = setHold h (holdWritten q.params (arrived q s))) (P : State → Prop)
    (hP : P (setHold h (holdWritten q.params (arrived q s)))) : Completes (.holdRailSet q) 0x0A06 q s
      (if 1800 ≤ fieldAt q.params 0 2 ∧ fieldAt q.params 0 2 ≤ 5500 ∧ 100 ≤ fieldAt q.params 2 2 ∧ fieldAt q.params 2 2 ≤ 2000 then
        .done else .doneWithNote) (le16 (clampNat 1800 5500 (fieldAt q.params 0 2)) ++ [byte h.code]) P := by
  have hm := setHold_moves h (holdWritten q.params (arrived q s))
  have hv : (setHold h (holdWritten q.params (arrived q s))).chg.vHold = clampNat 1800 5500 (fieldAt q.params 0 2) :=
    Chg.get hm.phase Chg.vHold (fun _ => rfl)
  refine completes_of_reply (o := holdRailSetOp) rfl hr (fixed_paramCheck (n := 8) (by decide) (by decide) rfl hl rfl) (t := _) ?_ ?_ hP
  · rw [holdRailSetOp_run, hw, hv, hm.hold, ← holdNote_status]
    rfl
  · rw [hm.chargeOnly.proto]
    change (arrived q s).proto.waiting = []
    rw [arrived_proto]
    exact hr.empty

theorem setHold_self (s : State) : setHold s.chg.hold s = s := if_pos rfl

/-- The facts of HOLD once it has moved after HOLD_RAIL_SET. -/
theorem holdWritten_moves (h : HoldSt) (q : Req) (s : State) :
    Elsewhere s (setHold h (holdWritten q.params (arrived q s))) ∧
    (setHold h (holdWritten q.params (arrived q s))).chg.hold = h ∧
    (setHold h (holdWritten q.params (arrived q s))).chg.phase = (holdWritten q.params (arrived q s)).chg.phase := by
  have hm := setHold_moves h (holdWritten q.params (arrived q s))
  refine ⟨?_, hm.hold, hm.phase⟩
  exact (elsewhere_arrived q s).trans ((chargeOnly_chg _ _).trans hm.chargeOnly).elsewhere

theorem vinUsable_arrived (q : Req) (s : State) : vinUsable (arrived q s) = vinUsable s := by
  unfold vinUsable
  rw [arrived_land, arrived_therm]

theorem Ready.not_ship {op : Nat} (hr : Ready op q s) : s.pwr.st ≠ .ship := fun h => by
  have hon := hr.on
  unfold State.off at hon
  rw [h, decide_eq_true rfl, Bool.or_true] at hon
  cases hon

/-! ## SHIP_ENTER -/

theorem permits_arrived (q : Req) (s : State) (i : Nat) : permits (arrived q s) i = permits s i := by
  have hoff : allRailsOff (arrived q s) = allRailsOff s := by
    unfold allRailsOff State.rail
    rw [arrived_rails]
  unfold permits fwBusy
  simp only [hoff, arrived_dom, arrived_chg, arrived_therm, arrived_fw, arrived_proto, arrived_map, arrived_tlm, arrived_seam, arrived_votes]

theorem refusersOf_arrived (q : Req) (s : State) (n : Nat) : refusersOf (arrived q s) n = refusersOf s n := by
  unfold refusersOf
  simp only [permits_arrived]

theorem askRefusers_none {n : Nat} (h : refusersOf s n = []) : askRefusers n s = s := by
  unfold askRefusers
  rw [h]
  rfl

theorem askRefusers_some {n : Nat} (h : refusersOf s n ≠ []) : askRefusers n s = psSet 0x1 (countRefusals (refusersOf s n) s) := by
  unfold askRefusers
  exact if_neg (fun he => h (List.isEmpty_iff.mp he))

theorem countRefusals_get (n : Nat) (s : State) (i : Fin 16) : (countRefusals (refusersOf s n) s).hem.refusals[i] =
    if permits s i.val < n then satInc 0xFFFFFFFF s.hem.refusals[i] else s.hem.refusals[i] := by
  have hc : (refusersOf s n).contains i.val = true ↔ permits s i.val < n := by
    rw [List.contains_iff_mem]
    unfold refusersOf
    rw [List.mem_filter, mem_upto, decide_eq_true_eq, and_iff_right i.isLt]
  refine (mapIdx_get ..).trans ?_
  by_cases h : permits s i.val < n
  · rw [if_pos h, if_pos (hc.mpr h)]
  · rw [if_neg h, if_neg (mt hc.mp h)]

theorem shipEnterOp_run (q : Req) (s : State) : shipEnterOp.run q s = if (refusersOf s 3).isEmpty then
    done0 { askRefusers 3 s with
      chg := { (askRefusers 3 s).chg with shipArmed := true }
      hem := { (askRefusers 3 s).hem with wakeHold := clampNat 20 5000 (fieldAt q.params 0 2), shipDelay := max 1 (byteAt q.params 2) } }
    else refuse (askRefusers 3 s) 6 s.pwr.st.code 0xFF := rfl

theorem psBit (b : BitVec 16) : (b ||| 0x1).getLsbD 0 = true := by
  rw [BitVec.getLsbD_or]
  exact Bool.or_true _

/-- Settles O41: each command is its handler on the state as it arrives, and the phases it leads to are read off the charger's record. -/
theorem chargerAndHoldCommands : Obligations.ChargerAndHoldCommands := by
  intro q s
  have hempty : ∀ {op}, Ready op q s → (arrived q s).proto.waiting = [] := fun hr => by rw [arrived_proto]; exact hr.empty
  have hph : (arrived q s).chg.ph = s.chg.ph := by rw [arrived_chg]
  refine ⟨fun hr hl => ⟨fun h1 h2 h3 => ?_, fun h => ⟨fun hn => ?_, fun h1 h2 h3 => ?_⟩⟩,
    fun hr hp => ⟨fun h1 h2 h3 => ?_, fun h => ⟨fun hn => ?_, fun h1 h2 h3 => ?_⟩⟩, fun hr hp => ?_,
    fun hr hl => ⟨fun he => ?_, fun he hv hh => ?_⟩, fun hr hl => ⟨fun h => ?_, fun h => ?_⟩⟩
  case refine_1 =>
    refine completes_of_reply (o := chargerConfigOp) (t := arrived q s) rfl hr (fixed_paramCheck (n := 32) (by decide) (by decide) rfl hl rfl) ?_
      (hempty hr) rfl
    rw [chargerConfigOp_refuses (by rw [hph]; exact not_or.mpr ⟨h1, not_or.mpr ⟨h2, h3⟩⟩), refuseChg, hph]
    rfl
  case refine_2 =>
    refine completes_of_reply (o := chargerConfigOp) (t := arrived q s) rfl hr (fixed_paramCheck (n := 32) (by decide) (by decide) rfl hl rfl) ?_
      (hempty hr) rfl
    exact (chargerConfigOp_rests (by rw [hph]; exact h)).trans (if_neg (mt (thresholdsOk_iff _).mp hn))
  case refine_3 =>
    obtain ⟨t, hx, hdark, hs⟩ := chargerConfig_takes hr hl h h1 h2 h3
    exact ⟨t, hx, hdark, Chg.set hs Chg.nCells (fun _ => rfl), Chg.set hs Chg.auto (fun _ => rfl), Chg.set hs Chg.dtdtEn (fun _ => rfl), Chg.set hs Chg.dvEn (fun _ => rfl), Chg.set hs Chg.seamChg (fun _ => rfl),
      Chg.set hs Chg.cap (fun _ => rfl), Chg.set hs Chg.fastI (fun _ => rfl), Chg.set hs Chg.dv (fun _ => rfl), Chg.set hs Chg.dtdt (fun _ => rfl), Chg.set hs Chg.preMin (fun _ => rfl), Chg.set hs Chg.topMin (fun _ => rfl),
      Chg.set hs Chg.dvHold (fun _ => rfl), Chg.set hs Chg.redPct (fun _ => rfl), Chg.set hs Chg.maintI (fun _ => rfl), Chg.set hs Chg.tSuspLo (fun _ => rfl), Chg.set hs Chg.tRedLo (fun _ => rfl),
      Chg.set hs Chg.tRedHi (fun _ => rfl), Chg.set hs Chg.tSuspHi (fun _ => rfl), Chg.set hs Chg.rechgMv (fun _ => rfl), Chg.set hs Chg.vcutMv (fun _ => rfl), Chg.set hs Chg.vinIlim (fun _ => rfl), Chg.set hs Chg.noidIlim (fun _ => rfl)⟩
  case refine_4 =>
    refine completes_of_reply (o := chargerStartOp) (t := arrived q s) rfl hr (nil_paramCheck hp (by decide) rfl rfl) ?_ (hempty hr) rfl
    rw [chargerStartOp_refuses (by rw [hph]; exact not_or.mpr ⟨h1, not_or.mpr ⟨h2, h3⟩⟩), refuseChg, hph]
    rfl
  case refine_5 =>
    refine completes_of_reply (o := chargerStartOp) (t := arrived q s) rfl hr (nil_paramCheck hp (by decide) rfl rfl) ?_ (hempty hr) rfl
    rw [chargerStartOp_rests (by rw [hph]; exact h), if_pos (by rw [arrived_chg, arrived_land]; exact hn)]
    rfl
  case refine_6 =>
    obtain ⟨honly, hb⟩ := chargerStart_state (arrived q s)
    have hstill : chargerStill (arrived q s) = chargerStill s := by
      have hp := arrived_pwrcore q s
      unfold chargerStill State.off
      rw [Pwr.get hp Pwr.lost (fun _ => rfl), Pwr.get hp Pwr.st (fun _ => rfl), Pwr.get hp Pwr.entering (fun _ => rfl)]
    rw [arrived_chg, hstill] at hb
    refine completes_of_reply (o := chargerStartOp) (t := judgeSusp false (setPhase .qualify (arrived q s))) rfl hr
      (nil_paramCheck hp (by decide) rfl rfl) ?_ (by rw [honly.proto]; exact hempty hr) ⟨(elsewhere_arrived q s).trans honly.elsewhere, ?_⟩
    · rw [chargerStartOp_rests (by rw [hph]; exact h), if_neg]
      · rfl
      · rw [arrived_chg, arrived_land, h3]
        exact fun hn => hn.elim h1 fun hn => hn.elim h2 Bool.false_ne_true
    · by_cases hn : s.chg.source = .none ∧ chargerStill s = false
      · rw [if_pos hn] at hb
        exact ⟨Chg.getBase hb Chg.fault (fun _ => rfl), Chg.getBase hb Chg.charge (fun _ => rfl), Chg.getBase hb Chg.timer (fun _ => rfl), Chg.getBase hb Chg.source (fun _ => rfl),
          fun h => absurd hn.1 h, fun _ _ => ⟨Chg.getBase hb Chg.ph (fun _ => rfl), Chg.getBase hb Chg.left (fun _ => rfl), Chg.getBase hb Chg.susp (fun _ => rfl)⟩⟩
      · rw [if_neg hn] at hb
        exact ⟨Chg.getBase hb Chg.fault (fun _ => rfl), Chg.getBase hb Chg.charge (fun _ => rfl), Chg.getBase hb Chg.timer (fun _ => rfl), Chg.getBase hb Chg.source (fun _ => rfl),
          fun _ => Chg.getBase hb Chg.ph (fun _ => rfl), fun h1 h2 => absurd ⟨h1, h2⟩ hn⟩
  case refine_7 =>
    by_cases h : s.chg.ph = .idle
    · refine completes_of_reply (o := chargerStopOp) (t := arrived q s) rfl hr (nil_paramCheck hp (by decide) rfl rfl) ?_ (hempty hr)
        ⟨fun _ => rfl, fun hn => absurd h hn⟩
      exact congrArg done0 (if_pos (hph.trans h))
    · have hb := chgIdle_base (arrived q s)
      rw [if_neg (by rw [hph]; exact h)] at hb
      have honly := chgIdle_chargeOnly (arrived q s)
      refine completes_of_reply (o := chargerStopOp) (t := chgIdle (arrived q s)) rfl hr (nil_paramCheck hp (by decide) rfl rfl) ?_
        (by rw [honly.proto]; exact hempty hr) ⟨fun hi => absurd hi h, fun _ => ⟨(elsewhere_arrived q s).trans honly.elsewhere,
          Chg.getBase hb Chg.ph (fun _ => rfl), Chg.getBase hb Chg.autoDue (fun _ => rfl), Chg.getBase hb Chg.mA (fun _ => rfl)⟩⟩
      exact congrArg done0 (if_neg (by rw [hph]; exact h))
  case refine_8 =>
    obtain ⟨helse, hhold, hphase⟩ := holdWritten_moves .off q s
    refine holdRailSet_completes (h := .off) hr hl (congrArg Prod.fst (writeHold_eq ..) |>.trans (if_pos (.inl he))) _ ⟨helse, hhold,
      (Chg.get hphase Chg.enable (fun _ => rfl)).trans he, Chg.get hphase Chg.vHold (fun _ => rfl), Chg.get hphase Chg.iHold (fun _ => rfl), Chg.get hphase Chg.packOk (fun _ => rfl)⟩
  case refine_9 =>
    obtain ⟨helse, hhold, hphase⟩ := holdWritten_moves .onVin q s
    have hno : ¬ (natBit (byteAt q.params 4) 0 = false ∨ (arrived q s).pwr.st = .ship) := by
      rw [he, arrived_st]
      exact fun h => h.elim Bool.noConfusion hr.not_ship
    refine holdRailSet_completes (h := .onVin) hr hl (congrArg Prod.fst (writeHold_eq ..) |>.trans ((if_neg hno).trans ?_)) _ ⟨helse, hhold,
      (Chg.get hphase Chg.enable (fun _ => rfl)).trans he⟩
    by_cases ho : (arrived q s).chg.hold = .off
    · have hchoice : holdChoice (holdWritten q.params (arrived q s)) = .onVin := if_pos ((vinUsable_arrived q s).trans hv)
      rw [if_pos ho, hchoice]
    · have hon : (holdWritten q.params (arrived q s)).chg.hold = .onVin := by
        rw [arrived_chg] at ho
        change (arrived q s).chg.hold = .onVin
        rw [arrived_chg]
        exact hh.resolve_left ho
      rw [if_neg ho, ← hon, setHold_self]
  case refine_10 =>
    have hnone : refusersOf (arrived q s) 3 = [] := by rw [refusersOf_arrived, h]
    refine completes_of_reply (o := shipEnterOp) rfl hr (fixed_paramCheck (n := 4) (by decide) (by decide) rfl hl rfl)
      ((shipEnterOp_run ..).trans (if_pos (by rw [hnone]; rfl))) ?_ ?_
    · rw [askRefusers_none hnone]
      exact hempty hr
    · rw [askRefusers_none hnone, arrived_chg, arrived_hem]
  case refine_11 =>
    have hsome : refusersOf (arrived q s) 3 ≠ [] := by rw [refusersOf_arrived]; exact h
    have hrun := (shipEnterOp_run q (arrived q s)).trans (if_neg fun he => hsome (List.isEmpty_iff.mp he))
    rw [askRefusers_some hsome, arrived_st] at hrun
    refine completes_of_reply (o := shipEnterOp) rfl hr (fixed_paramCheck (n := 4) (by decide) (by decide) rfl hl rfl) hrun (hempty hr)
      ⟨elsewhere_arrived q s, arrived_chg q s, psBit _, fun i => ?_⟩
    refine (countRefusals_get 3 (arrived q s) i).trans ?_
    have hh : (arrived q s).hem.refusals[i] = s.hem.refusals[i] := congrArg (fun x : Hem => x.refusals[i]) (arrived_hem q s)
    rw [permits_arrived, hh]

end Sys2Proof.Machine
end

section
/-! PROOF. O42: what happens at HOLD, at the pack and at the sources (R303-R312, R330, R467, R472). -/

namespace Sys2Proof.Machine

variable {s t u : State}

/-! ## HOLD -/

theorem holdReturn_iff (s : State) : (vinUsable { s with land := { s.land with vinOver := false } } = true ∧ (s.chg.hold = .onPack ∨ s.chg.hold = .lost)) ↔
    s.undervolt = false ∧ (s.chg.hold = .onPack ∨ s.chg.hold = .lost) := by
  refine and_congr_left fun _ => ?_
  unfold vinUsable State.undervolt
  dsimp only
  cases s.land.vinLow <;> cases s.therm.tsdNow <;> decide

theorem holdReturnVin_stays (h : s.undervolt = true ∨ (s.chg.hold ≠ .onPack ∧ s.chg.hold ≠ .lost)) : exec .holdReturnVin s = .next s := by
  refine congrArg Host.Outcome.next (if_neg fun hr => ?_)
  obtain ⟨hu, hh⟩ := (holdReturn_iff s).mp hr
  obtain h | ⟨h1, h2⟩ := h
  · exact ne_true_of_eq_false hu h
  · exact hh.elim h1 h2

theorem holdReturnVin_returns (hu : s.undervolt = false) (hh : s.chg.hold = .onPack ∨ s.chg.hold = .lost) : ∃ t, exec .holdReturnVin s = .next t ∧
    HoldMoves { s with land := { s.land with vinOver := false } } t .onVin :=
  ⟨_, congrArg Host.Outcome.next (if_pos ((holdReturn_iff s).mpr ⟨hu, hh⟩)), setHold_moves ..⟩

theorem packExhausted_loses (h : s.chg.hold = .onPack) : ∃ t, exec .packExhausted s = .next t ∧ Elsewhere s t ∧ t.chg.hold = .lost ∧
    t.chg.exhausted = true ∧ t.chg.flags = s.chg.flags ||| 0x8 := by
  generalize hu : pulseIf (!s.chg.exhausted) 498 { s with chg := { s.chg with exhausted := true } } = u
  have hx : exec .packExhausted s = .next (setHold .lost u) := by
    rw [← hu]
    exact congrArg Host.Outcome.next (if_pos h)
  have honly := pulseIf_only (!s.chg.exhausted) 498 { s with chg := { s.chg with exhausted := true } }
  rw [hu] at honly
  have hm := setHold_moves .lost u
  have hc : u.chg = { s.chg with exhausted := true } := by rw [honly]
  refine ⟨_, hx, Elsewhere.trans (t := u) (by rw [honly]; exact ⟨rfl, rfl, rfl, rfl⟩) hm.chargeOnly.elsewhere, hm.hold, ?_, ?_⟩
  · rw [Chg.get hm.phase Chg.exhausted (fun _ => rfl), hc]
  · rw [setHold_lost_flags (by rw [hc]; exact h), hc]

/-! ## Flags that stay set -/

/-- The charger's flags are only set. -/
def ChgFlags (s t : State) : Prop := ∃ m, t.chg.flags = s.chg.flags ||| m

theorem ChgFlags.refl (h : t.chg.flags = s.chg.flags) : ChgFlags s t := ⟨0, by rw [h]; exact BitVec.or_zero.symm⟩

theorem ChgFlags.trans (h : ChgFlags s t) (h' : ChgFlags t u) : ChgFlags s u := by
  obtain ⟨m, hm⟩ := h
  obtain ⟨n, hn⟩ := h'
  exact ⟨m ||| n, by rw [hn, hm, BitVec.or_assoc]⟩

theorem ChgFlags.bit (h : ChgFlags s t) {k : Nat} (hk : s.chg.flags.getLsbD k = true) : t.chg.flags.getLsbD k = true := by
  obtain ⟨m, hm⟩ := h
  rw [hm, BitVec.getLsbD_or, hk]
  rfl

theorem setHold_chgFlags (h : HoldSt) (s : State) : ChgFlags s (setHold h s) := by
  have hmoved : (holdMoved h s).chg.flags = s.chg.flags := by rw [holdMoved_chg]
  rw [setHold_eq]
  split
  · exact .refl rfl
  · split
    · exact ⟨_, by rw [pwrSet_flags, hmoved]⟩
    · split
      · exact ⟨_, by rw [pwrSet_flags, hmoved]⟩
      · exact .refl hmoved

theorem holdOfPack_chgFlags (b s : State) : ChgFlags s (holdOfPack b s) := by
  unfold holdOfPack
  split
  · split
    · exact .refl rfl
    · exact setHold_chgFlags ..
  · split
    · exact setHold_chgFlags ..
    · exact .refl rfl
  · exact .refl rfl

theorem retarget_flags (c : Chg) : c.retarget.flags = c.flags := by
  obtain ⟨_, _, _, _, _, h⟩ := retarget_is c
  rw [h]

theorem enter_flags (p : ChgPh) (c : Chg) : (c.enter p).flags = c.flags := by
  refine (retarget_flags _).trans ?_
  cases p <;> rfl

theorem setPhase_chgFlags (p : ChgPh) (s : State) : ChgFlags s (setPhase p s) := by
  unfold setPhase
  dsimp only
  refine ChgFlags.trans (.refl ?_) (holdOfPack_chgFlags ..)
  rw [ite_chg, requestTemp_chg, ite_self, ite_chg, pulse_chg, pulse_chg]
  split
  · dsimp only
    rw [enter_flags, enter_flags]
  · exact enter_flags ..

theorem chgIdle_chgFlags (s : State) : ChgFlags s (chgIdle s) := by
  unfold chgIdle
  dsimp only
  split
  · exact .refl rfl
  · exact setPhase_chgFlags .idle { s with chg := { s.chg with autoDue := false } }

/-! ## The pack -/

/-- The readings' marks of a pack that is gone (R306). -/
def Chg.unpacked (c : Chg) : Chg :=
  { c with exhausted := false, packGood := false, redLo := false, redHi := false, suspLo := false, suspHi := false }

theorem removePack_eq (s : State) : removePack s =
    holdOfPack s { chgIdle (pwrSet 0x4 s) with chg := (chgIdle (pwrSet 0x4 s)).chg.unpacked } := rfl

theorem pwrSet_chargeOnly (m : BitVec 16) (s : State) : ChargeOnly s (pwrSet m s) := by
  unfold ChargeOnly
  have h := pwrSet_only m s
  generalize pwrSet m s = u at h ⊢
  rw [h]

/-- A pack removed idles the charger (R306, R322). -/
theorem removePack_is (s : State) : ChargeOnly s (removePack s) ∧ (removePack s).chg.ph = .idle ∧ (removePack s).chg.exhausted = false ∧
    (removePack s).chg.packGood = false ∧ (removePack s).chg.flags.getLsbD 2 = true := by
  obtain ⟨h, hm⟩ := holdOfPack_moves s { chgIdle (pwrSet 0x4 s) with chg := (chgIdle (pwrSet 0x4 s)).chg.unpacked }
  have hidle : (chgIdle (pwrSet 0x4 s)).chg.ph = .idle := by
    rw [Chg.getBase (chgIdle_base _) Chg.ph (fun _ => rfl)]
    split
    case isTrue h => exact h
    case isFalse => rfl
  have hflag : (chgIdle (pwrSet 0x4 s)).chg.flags.getLsbD 2 = true := by
    refine (chgIdle_chgFlags _).bit ?_
    rw [pwrSet_flags, BitVec.getLsbD_or]
    exact Bool.or_true _
  have hgrow := holdOfPack_chgFlags s { chgIdle (pwrSet 0x4 s) with chg := (chgIdle (pwrSet 0x4 s)).chg.unpacked }
  rw [removePack_eq]
  refine ⟨(((pwrSet_chargeOnly 0x4 s).trans (chgIdle_chargeOnly _)).trans (chargeOnly_chg _ _)).trans hm.chargeOnly, ?_, ?_, ?_, hgrow.bit hflag⟩
  · exact (Chg.get hm.phase Chg.ph (fun _ => rfl)).trans hidle
  · exact (Chg.get hm.phase Chg.exhausted (fun _ => rfl)).trans rfl
  · exact (Chg.get hm.phase Chg.packGood (fun _ => rfl)).trans rfl

/-- The state in which an inserted pack has been judged (R306). -/
def packJudged (s : State) : State := holdOfPack s { bump s with chg := { s.chg with
  packGood := decide (s.chg.nCells ≠ 0) && decide ((((s.chg.vcutMv + 100) * s.chg.nCells : Nat) : Int) < Config.conversion s.free 0xC3) } }

theorem packInserted_eq (hb : s.land.bthOpen = false) (hp : s.pwr.st ≠ .ship) :
    exec .packInserted s = .next (if autoStarts (packJudged s) then setPhase .qualify (packJudged s) else packJudged s) := by
  refine congrArg Host.Outcome.next (if_neg ?_)
  rw [hb]
  exact fun h => h.elim Bool.false_ne_true hp

theorem packInserted_judges (hb : s.land.bthOpen = false) (hp : s.pwr.st ≠ .ship) : ∃ t, exec .packInserted s = .next t ∧ Elsewhere s t ∧
    t.free = s.free + 1 ∧ (s.chg.nCells = 0 → t.chg.packGood = false) ∧
    t.chg.ph = if chargerStill s = false ∧ s.chg.auto = true ∧ s.chg.nCells ≠ 0 ∧ s.chg.cap ≠ 0 ∧ s.chg.source ≠ .none ∧ s.chg.ph = .idle then .qualify
      else s.chg.ph := by
  obtain ⟨h, hm⟩ := holdOfPack_moves s { bump s with chg := { s.chg with
    packGood := decide (s.chg.nCells ≠ 0) && decide ((((s.chg.vcutMv + 100) * s.chg.nCells : Nat) : Int) < Config.conversion s.free 0xC3) } }
  have hx := packInserted_eq hb hp
  have hcore : (packJudged s).pwr.core = s.pwr.core := holdOfPack_pwrcore ..
  have hphase := hm.phase
  have hone := hm.chargeOnly
  change (packJudged s).chg.phase = _ at hphase
  change ChargeOnly _ (packJudged s) at hone
  generalize packJudged s = u at hx hcore hphase hone
  have helse : Elsewhere s u := hone.elsewhere
  have hgood : s.chg.nCells = 0 → u.chg.packGood = false := fun h0 => by
    rw [Chg.get hphase Chg.packGood (fun _ => rfl)]
    dsimp only
    rw [h0]
    rfl
  have hauto : autoStarts u = true ↔
      chargerStill s = false ∧ s.chg.auto = true ∧ s.chg.nCells ≠ 0 ∧ s.chg.cap ≠ 0 ∧ s.chg.source ≠ .none ∧ s.chg.ph = .idle := by
    have hland : u.land.bthOpen = false := by rw [hone.land]; exact hb
    unfold autoStarts chargerStill State.off
    rw [hland, Pwr.get hcore Pwr.lost (fun _ => rfl), Pwr.get hcore Pwr.st (fun _ => rfl), Pwr.get hcore Pwr.entering (fun _ => rfl), Chg.get hphase Chg.auto (fun _ => rfl), Chg.get hphase Chg.nCells (fun _ => rfl),
      Chg.get hphase Chg.cap (fun _ => rfl), Chg.get hphase Chg.source (fun _ => rfl), Chg.get hphase Chg.ph (fun _ => rfl)]
    simp [and_assoc]
  by_cases ha : autoStarts u = true
  · rw [if_pos ha] at hx
    rw [if_pos (hauto.mp ha)]
    have hb' : (setPhase .qualify u).chg.base = (u.chg.entered .qualify).base := setPhase_base qualify_not_topoff
    have hc := setPhase_chargeOnly .qualify u
    refine ⟨_, hx, helse.trans hc.elsewhere, ?_, fun h0 => ?_, (Chg.getBase hb' Chg.ph (fun _ => rfl)).trans rfl⟩
    · rw [hc.free, hone.free]
      rfl
    · rw [Chg.getBase hb' Chg.packGood (fun _ => rfl)]
      exact hgood h0
  · rw [if_neg ha] at hx
    rw [if_neg (mt hauto.mpr ha)]
    refine ⟨_, hx, helse, ?_, hgood, Chg.get hphase Chg.ph (fun _ => rfl)⟩
    rw [hone.free]
    rfl

end Sys2Proof.Machine
end

section
/-! PROOF. O42, continued: the sources, and what the charger does each second (R308-R324). -/

namespace Sys2Proof.Machine

variable {s t u : State}

/-! ## Sources -/

/-- The source chosen anew, in a module that nothing else has touched. -/
theorem reselected (he : Elsewhere s u) (hp : u.pwr.lost = s.pwr.lost) : MayGoDark s (reselect u) ∧ (reselect u).chg.setup = u.chg.setup ∧
    (reselect u).chg.source = chooseSource u :=
  ⟨(reselect_mayGoDark u).of_eq he hp, reselect_setup u, reselect_source u⟩

theorem chooseSource_auxin (h : s.chg.auxOk = false) : chooseSource s ≠ .auxin := by
  unfold chooseSource
  rw [h]
  split
  · decide
  · split
    · contradiction
    · split <;> decide

theorem chooseSource_aux (hv : s.chg.vinOk = false) (ha : s.chg.auxOk = true) (hs : s.chg.auxServes = true) : chooseSource s = .auxin := by
  unfold chooseSource
  rw [hv, ha, hs]
  rfl

theorem sourceChange_vin (p : Port) (s : State) : ∃ t, exec (.sourceChange ⟨.vin, p⟩) s = .next t ∧ MayGoDark s t ∧ t.chg.vinOk = !s.undervolt ∧
    (s.undervolt = false → t.chg.source = .vin) := by
  have hv : vinUsable { s with land := { s.land with vinOver := false } } = !s.undervolt := by
    unfold vinUsable State.undervolt
    dsimp only
    cases s.land.vinLow <;> cases s.therm.tsdNow <;> rfl
  generalize hu : ({ s with land := { s.land with vinOver := false }
                            chg := { s.chg with vinOk := vinUsable { s with land := { s.land with vinOver := false } } } } : State) = u
  have hx : exec (.sourceChange ⟨.vin, p⟩) s = .next (reselect u) := by rw [← hu]; rfl
  have hok : u.chg.vinOk = !s.undervolt := by rw [← hu, ← hv]
  have hus : vinUsable u = !s.undervolt := by rw [← hu, ← hv]; rfl
  obtain ⟨hdark, hset, hsrc⟩ := reselected (s := s) (u := u) (by rw [← hu]; exact ⟨rfl, rfl, rfl, rfl⟩) (by rw [← hu])
  refine ⟨_, hx, hdark, by rw [Chg.set hset Chg.vinOk (fun _ => rfl), hok], fun h => ?_⟩
  rw [hsrc]
  refine if_pos ?_
  rw [hok, hus, h]
  rfl

theorem sourceChange_auxin (p : Port) (hv : s.chg.vinOk = false) (ha : s.chg.auxServes = true) :
    ∃ t, exec (.sourceChange ⟨.auxin, p⟩) s = .next t ∧ MayGoDark s t ∧ t.chg.source = .auxin := by
  obtain ⟨hdark, -, hsrc⟩ := reselected (s := s) (u := { s with chg := { s.chg with auxOk := s.chg.auxServes } }) ⟨rfl, rfl, rfl, rfl⟩ rfl
  exact ⟨_, rfl, hdark, hsrc.trans (chooseSource_aux hv ha ha)⟩

theorem sourceChange_seam (p : Port) (hv : s.chg.vinOk = false) (ha : s.chg.auxOk = false) (hs : s.chg.seamChg = true) :
    ∃ t, exec (.sourceChange ⟨.seam, p⟩) s = .next t ∧ MayGoDark s t ∧ t.chg.source = .seam ∧ (p = .a → t.chg.phantomIn.1 = true) ∧
      (p = .b → t.chg.phantomIn.2 = true) := by
  obtain ⟨hdark, hset, hsrc⟩ := reselected (s := s) (u := { s with chg := { s.chg with
    phantomIn := (s.chg.phantomIn.1 || decide (p = .a), s.chg.phantomIn.2 || decide (p = .b)), seamOk := s.chg.seamChg } }) ⟨rfl, rfl, rfl, rfl⟩ rfl
  have hin := Chg.set hset Chg.phantomIn (fun _ => rfl)
  refine ⟨_, rfl, hdark, hsrc.trans ?_, fun h => ?_, fun h => ?_⟩
  · have hany : ((s.chg.phantomIn.1 || decide (p = .a)) || (s.chg.phantomIn.2 || decide (p = .b))) = true := by
      cases p <;> simp
    unfold chooseSource
    dsimp only
    rw [hv, ha, hs, hany]
    rfl
  · refine (congrArg Prod.fst hin).trans ?_
    rw [h]
    exact Bool.or_true _
  · refine (congrArg Prod.snd hin).trans ?_
    rw [h]
    exact Bool.or_true _

theorem phantomPowerLost_is (p : Port) (s : State) : ∃ t, exec (.phantomPowerLost p) s = .next t ∧ MayGoDark s t ∧
    t.chg.phantomIn = (s.chg.phantomIn.1 && decide (p ≠ .a), s.chg.phantomIn.2 && decide (p ≠ .b)) := by
  obtain ⟨hdark, hset, -⟩ := reselected (s := s) (u := { s with chg := { s.chg with
    phantomIn := (s.chg.phantomIn.1 && decide (p ≠ .a), s.chg.phantomIn.2 && decide (p ≠ .b))
    seamOk := s.chg.seamOk && ((s.chg.phantomIn.1 && decide (p ≠ .a)) || (s.chg.phantomIn.2 && decide (p ≠ .b))) } }) ⟨rfl, rfl, rfl, rfl⟩ rfl
  exact ⟨_, rfl, hdark, Chg.set hset Chg.phantomIn (fun _ => rfl)⟩

theorem auxinRange_is (x : AuxCond) (s : State) : ∃ t, exec (.auxinRange x) s = .next t ∧ MayGoDark s t ∧ (t.chg.auxIn = true ↔ x = .inRange) ∧
    (t.chg.auxPresent = true ↔ x = .inRange ∨ x = .outOfRange) ∧ (t.land.auxRange = true ↔ x = .outOfRange) ∧
    (x ≠ .inRange → t.chg.auxOk = false ∧ t.chg.source ≠ .auxin) := by
  generalize hv : ({ s with
    land := { s.land with auxRange := decide (x = .outOfRange) }
    chg := { s.chg with
      auxIn := decide (x = .inRange), auxPresent := decide (x = .inRange) || decide (x = .outOfRange)
      auxOk := s.chg.auxOk && decide (x = .inRange)
      auxId := if decide (x = .inRange) || decide (x = .outOfRange) then s.chg.auxId else 7 } } : State) = v
  generalize hu : pulseIf (decide (x = .outOfRange) && !s.land.auxRange) 569 v = u
  have hx : exec (.auxinRange x) s = .next (reselect u) := by rw [← hu, ← hv]; rfl
  have hone : u = { v with router := u.router, seam := u.seam, pwr := u.pwr, clk := u.clk } := by
    rw [← hu]
    exact pulseIf_only ..
  have hcore : u.pwr.core = v.pwr.core := by rw [← hu, pulseIf_pwrcore]
  have hchg : u.chg = v.chg := by rw [hone]
  have hland : u.land = v.land := by rw [hone]
  obtain ⟨hdark, hset, hsrc⟩ := reselected (s := s) (u := u) (by rw [hone, ← hv]; exact ⟨rfl, rfl, rfl, rfl⟩)
    ((Pwr.get hcore Pwr.lost (fun _ => rfl)).trans (by rw [← hv]))
  rw [hchg] at hset
  refine ⟨_, hx, hdark, ?_, ?_, ?_, fun hne => ⟨?_, ?_⟩⟩
  · rw [Chg.set hset Chg.auxIn (fun _ => rfl), ← hv, decide_eq_true_eq]
  · rw [Chg.set hset Chg.auxPresent (fun _ => rfl), ← hv, Bool.or_eq_true, decide_eq_true_eq, decide_eq_true_eq]
  · rw [reselect_land, hland, ← hv, decide_eq_true_eq]
  · rw [Chg.set hset Chg.auxOk (fun _ => rfl), ← hv, decide_eq_false hne]
    exact Bool.and_false _
  · rw [hsrc]
    refine chooseSource_auxin ?_
    rw [hchg, ← hv, decide_eq_false hne]
    exact Bool.and_false _

theorem auxidRead_takes {v : Nat} (hp : s.chg.auxPresent = true) (hv : auxCode v ≠ s.chg.auxId) : ∃ t, exec (.auxidRead v) s = .next t ∧
    MayGoDark s t ∧ t.chg.auxId = auxCode v ∧ t.chg.auxOk = false ∧ t.chg.source ≠ .auxin := by
  obtain ⟨hdark, hset, hsrc⟩ := reselected (s := s) (u := { s with chg := { s.chg with auxId := auxCode v, auxOk := false } }) ⟨rfl, rfl, rfl, rfl⟩ rfl
  refine ⟨_, congrArg Host.Outcome.next (if_neg ?_), hdark, Chg.set hset Chg.auxId (fun _ => rfl), Chg.set hset Chg.auxOk (fun _ => rfl), ?_⟩
  · exact fun h => h.elim (ne_false_of_eq_true hp) hv
  · rw [hsrc]
    exact chooseSource_auxin rfl

/-! ## What a second of charging decides -/

theorem judgeSecond_faults (h : (s.chg.ph = .precharge ∨ s.chg.ph = .fast) ∧ (2 ≤ s.chg.ovSecs ∨ s.land.bthShort = true)) :
    judgeSecond s = chgFault (if 2 ≤ s.chg.ovSecs then 4 else 6) s := if_pos h

/-- The flags of the end of charge (R318). -/
def endFlags (c : Chg) : BitVec 16 := BitVec.ofNat 16 (b2n c.endDv + b2n c.endDt * 2)

theorem judgeSecond_ends (h : ¬ ((s.chg.ph = .precharge ∨ s.chg.ph = .fast) ∧ (2 ≤ s.chg.ovSecs ∨ s.land.bthShort = true)))
    (he : (s.chg.endDv || s.chg.endDt) = true) : judgeSecond s = setPhase .topoff (pwrSet (endFlags s.chg) s) :=
  (if_neg h).trans (if_pos he)

/-- A second that neither faults nor ends the charge. -/
theorem judgeSecond_goes (h : ¬ ((s.chg.ph = .precharge ∨ s.chg.ph = .fast) ∧ (2 ≤ s.chg.ovSecs ∨ s.land.bthShort = true)))
    (he : ¬ (s.chg.endDv || s.chg.endDt) = true) : judgeSecond s = if s.chg.ph = .precharge ∧ 10000 ≤ s.chg.v16 then setPhase .fast s
      else { judgeSusp (s.chg.ph ≠ .qualify) s with chg := (judgeSusp (s.chg.ph ≠ .qualify) s).chg.retarget } :=
  (if_neg h).trans (if_neg he)

theorem judgeSecond_chargeOnly (s : State) : ChargeOnly s (judgeSecond s) := by
  by_cases h : (s.chg.ph = .precharge ∨ s.chg.ph = .fast) ∧ (2 ≤ s.chg.ovSecs ∨ s.land.bthShort = true)
  · rw [judgeSecond_faults h]
    exact chgFault_chargeOnly ..
  · by_cases he : (s.chg.endDv || s.chg.endDt) = true
    · rw [judgeSecond_ends h he]
      exact (pwrSet_chargeOnly ..).trans (setPhase_chargeOnly ..)
    · rw [judgeSecond_goes h he]
      split
      · exact setPhase_chargeOnly ..
      · exact (judgeSusp_chargeOnly ..).trans (chargeOnly_chg ..)

theorem pwrSet_phase (m : BitVec 16) (s : State) : (pwrSet m s).chg.phase = s.chg.phase := by
  rw [congrArg State.chg (pwrSet_only m s)]
  rfl

theorem chgFault_setup (n : Nat) (s : State) : (chgFault n s).chg.setup = s.chg.setup :=
  (setup_of_base (chgFault_base n s)).trans rfl

theorem judgeSecond_setup (s : State) : (judgeSecond s).chg.setup = s.chg.setup := by
  by_cases h : (s.chg.ph = .precharge ∨ s.chg.ph = .fast) ∧ (2 ≤ s.chg.ovSecs ∨ s.land.bthShort = true)
  · rw [judgeSecond_faults h]
    exact chgFault_setup ..
  · by_cases he : (s.chg.endDv || s.chg.endDt) = true
    · rw [judgeSecond_ends h he, (setPhase_setup ..).1]
      exact setup_of_phase (pwrSet_phase ..)
    · rw [judgeSecond_goes h he]
      split
      · exact (setPhase_setup ..).1
      · exact (retarget_setup _).1.trans (judgeSusp_setup ..).1

/-- Top-off begun, or MAINTAIN where it has no time (R317). -/
theorem topoff_base (s : State) : (setPhase .topoff s).chg.ph = (if s.chg.topMin = 0 then .maintain else .topoff) ∧
    (setPhase .topoff s).chg.mA = s.chg.mA := by
  have hp := setPhase_phase .topoff s
  rw [Chg.get hp Chg.ph (fun _ => rfl), Chg.get hp Chg.mA (fun _ => rfl)]
  unfold Chg.begun
  by_cases h : s.chg.topMin = 0
  · rw [if_pos ⟨rfl, h⟩, if_pos h]
    exact ⟨(Chg.getBase (enter_base .maintain _) Chg.ph (fun _ => rfl)).trans rfl,
      (Chg.getBase (enter_base .maintain _) Chg.mA (fun _ => rfl)).trans ((Chg.getBase (enter_base .topoff _) Chg.mA (fun _ => rfl)).trans rfl)⟩
  · rw [if_neg (fun h' => h h'.2), if_neg h]
    exact ⟨(Chg.getBase (enter_base .topoff _) Chg.ph (fun _ => rfl)).trans rfl, (Chg.getBase (enter_base .topoff _) Chg.mA (fun _ => rfl)).trans rfl⟩

theorem chgFault_is (n : Nat) (s : State) : (chgFault n s).chg.ph = .fault ∧ (chgFault n s).chg.fault = n ∧ (chgFault n s).chg.mA = 0 ∧
    (chgFault n s).chg.inLim = false := by
  have hb := chgFault_base n s
  exact ⟨Chg.getBase hb Chg.ph (fun _ => rfl), Chg.getBase hb Chg.fault (fun _ => rfl), Chg.getBase hb Chg.mA (fun _ => rfl), Chg.getBase hb Chg.inLim (fun _ => rfl)⟩

/-- The current while the charger is judged: it stays where the phase works on. -/
theorem judged_current {cause : Nat} {c : Chg} (h : c.phaseOf ≠ .fault) : (c.judged cause).ph ≠ .fault ∧
    ((c.judged cause).ph ≠ .suspended → (c.judged cause).mA = c.mA) := by
  unfold Chg.phaseOf at h
  unfold Chg.judged
  by_cases hs : c.ph = .suspended
  · rw [if_pos hs] at h ⊢
    split
    · exact ⟨fun hf => (nomatch hs.symm.trans hf), fun hn => absurd hs hn⟩
    · have hb := retarget_base { c with
        ph := c.left, left := .idle, susp := 0, exhausted := c.exhausted && decide (c.left ≠ .fast) && decide (c.left ≠ .topoff) }
      rw [Chg.getBase hb Chg.ph (fun _ => rfl), Chg.getBase hb Chg.mA (fun _ => rfl)]
      exact ⟨h, fun _ => rfl⟩
  · rw [if_neg hs] at h ⊢
    split
    · have hb := retarget_base ({ c with ph := .suspended, left := c.ph, susp := cause } : Chg).off
      rw [Chg.getBase hb Chg.ph (fun _ => rfl), Chg.getBase hb Chg.mA (fun _ => rfl)]
      exact ⟨fun hf => (by cases hf), fun hn => absurd rfl hn⟩
    · exact ⟨h, fun _ => rfl⟩

theorem judgeSusp_current (b : Bool) (h : s.chg.phaseOf ≠ .fault) : (judgeSusp b s).chg.ph ≠ .fault ∧
    ((judgeSusp b s).chg.ph ≠ .suspended → (judgeSusp b s).chg.mA = s.chg.mA) := by
  have hp := judgeSusp_phase b s
  rw [Chg.get hp Chg.ph (fun _ => rfl), Chg.get hp Chg.mA (fun _ => rfl)]
  split
  · refine ⟨fun hf => ?_, fun _ => rfl⟩
    unfold Chg.phaseOf at h
    rw [if_neg (by rw [hf]; decide)] at h
    exact h hf
  · exact judged_current h

/-- The current after a second (R316-R324). -/
theorem judgeSecond_current (h : s.chg.phaseOf ≠ .fault) :
    ((judgeSecond s).chg.ph ≠ .fault → (judgeSecond s).chg.ph ≠ .suspended → (judgeSecond s).chg.mA = s.chg.mA) ∧
    ((judgeSecond s).chg.ph = .fault → (judgeSecond s).chg.mA = 0 ∧ (judgeSecond s).chg.inLim = false) := by
  by_cases hf : (s.chg.ph = .precharge ∨ s.chg.ph = .fast) ∧ (2 ≤ s.chg.ovSecs ∨ s.land.bthShort = true)
  · rw [judgeSecond_faults hf]
    obtain ⟨h1, -, h3, h4⟩ := chgFault_is (if 2 ≤ s.chg.ovSecs then 4 else 6) s
    exact ⟨fun hn => absurd h1 hn, fun _ => ⟨h3, h4⟩⟩
  · by_cases he : (s.chg.endDv || s.chg.endDt) = true
    · rw [judgeSecond_ends hf he]
      obtain ⟨h1, h2⟩ := topoff_base (pwrSet (endFlags s.chg) s)
      rw [Chg.get (pwrSet_phase ..) Chg.mA (fun _ => rfl)] at h2
      refine ⟨fun _ _ => h2, fun hn => ?_⟩
      rw [h1] at hn
      split at hn <;> cases hn
    · rw [judgeSecond_goes hf he]
      split
      · have hb := setPhase_base (s := s) (p := .fast) (fun h => by cases h.1)
        rw [Chg.getBase hb Chg.ph (fun _ => rfl), Chg.getBase hb Chg.mA (fun _ => rfl)]
        exact ⟨fun _ _ => rfl, fun hn => by cases hn⟩
      · obtain ⟨h1, h2⟩ := judgeSusp_current (decide (s.chg.ph ≠ .qualify)) h
        have hb := retarget_base (judgeSusp (s.chg.ph ≠ .qualify) s).chg
        rw [Chg.getBase hb Chg.ph (fun _ => rfl), Chg.getBase hb Chg.mA (fun _ => rfl), Chg.getBase hb Chg.inLim (fun _ => rfl)]
        exact ⟨fun _ => h2, fun hn => absurd hn h1⟩

end Sys2Proof.Machine
end

section
/-! PROOF. O42, continued: the charger's second, its timers and the obligation (R313-R324). -/

namespace Sys2Proof.Machine

variable {s t u : State}

/-! ## A second while the phases work -/

/-- The readings of a second (R316, R321). -/
def Chg.secondly (packMv : Nat) (mA : Int) (lim : Bool) (c : Chg) : Chg :=
  let c1 := (c.readPack packMv).second mA lim
  let c2 := if c1.ph.works ∧ c1.ph ≠ .qualify then c1.readings packMv else c1
  if c2.ph = .qualify then c2 else c2.windows

theorem windows_base (c : Chg) : ∃ a b x y, c.windows = { c with suspLo := a, suspHi := b, redLo := x, redHi := y } := by
  unfold Chg.windows
  split
  · exact ⟨_, _, _, _, rfl⟩
  · exact ⟨_, _, _, _, rfl⟩

/-- What of the charger's record a second's readings leave. -/
def Chg.steady (c : Chg) : ChgPh × ChgPh × ChgSource × Nat := (c.ph, c.left, c.source, c.topMin)

theorem secondly_steady (packMv : Nat) (mA : Int) (lim : Bool) (c : Chg) : (c.secondly packMv mA lim).steady = c.steady ∧
    (c.secondly packMv mA lim).packMv = packMv ∧ (c.secondly packMv mA lim).mA = mA := by
  unfold Chg.secondly
  dsimp only
  have h2 : ∀ c1 : Chg, (if c1.ph.works ∧ c1.ph ≠ .qualify then c1.readings packMv else c1).steady = c1.steady ∧
      (if c1.ph.works ∧ c1.ph ≠ .qualify then c1.readings packMv else c1).packMv = c1.packMv ∧
      (if c1.ph.works ∧ c1.ph ≠ .qualify then c1.readings packMv else c1).mA = c1.mA := fun c1 => by
    split <;> exact ⟨rfl, rfl, rfl⟩
  obtain ⟨hs, hp, hm⟩ := h2 ((c.readPack packMv).second mA lim)
  generalize (if ((c.readPack packMv).second mA lim).ph.works ∧ ((c.readPack packMv).second mA lim).ph ≠ .qualify then
    ((c.readPack packMv).second mA lim).readings packMv else (c.readPack packMv).second mA lim) = c2 at hs hp hm
  split
  · exact ⟨hs, hp, hm⟩
  · obtain ⟨a, b, x, y, hw⟩ := windows_base c2
    rw [hw]
    exact ⟨hs, hp, hm⟩

theorem secondly_fast {packMv : Nat} {mA : Int} {lim : Bool} {c : Chg} (h : c.ph = .fast) :
    c.secondly packMv mA lim = (((c.readPack packMv).second mA lim).readings packMv).windows := by
  have hph : ((c.readPack packMv).second mA lim).ph = .fast := h
  have hph' : (((c.readPack packMv).second mA lim).readings packMv).ph = .fast := h
  have hworks : ((c.readPack packMv).second mA lim).ph.works = true ∧ ((c.readPack packMv).second mA lim).ph ≠ .qualify := by
    rw [hph]
    decide
  unfold Chg.secondly
  dsimp only
  rw [if_pos hworks, if_neg (by rw [hph']; decide)]

/-- The state in which a second's readings have been taken (R316). -/
def secondRead (packMv : Nat) (mA : Int) (lim : Bool) (s : State) : State :=
  requestTemp { code := 0x110, chg := true } (holdOfPack s { s with chg := s.chg.secondly packMv mA lim })

theorem chargerSecond_works {packMv : Nat} {mA : Int} {lim : Bool} (hi : s.chg.phaseOf ≠ .idle) (hf : s.chg.phaseOf ≠ .fault)
    (hs : chargerStill s = false) : exec (.chargerSecond packMv mA lim) s = .next (judgeSecond (secondRead packMv mA lim s)) := by
  have hoff : s.off ≠ true := fun h => by
    unfold chargerStill at hs
    rw [h] at hs
    cases hs
  exact congrArg Host.Outcome.next ((if_neg hoff).trans ((if_neg (ne_true_of_eq_false hs)).trans (if_neg (not_or.mpr ⟨hi, hf⟩))))

theorem secondRead_is (packMv : Nat) (mA : Int) (lim : Bool) (s : State) : ChargeOnly s (secondRead packMv mA lim s) ∧
    (secondRead packMv mA lim s).chg.phase = (s.chg.secondly packMv mA lim).phase ∧
    (secondRead packMv mA lim s).pwr.core = s.pwr.core := by
  obtain ⟨h, hm⟩ := holdOfPack_moves s { s with chg := s.chg.secondly packMv mA lim }
  refine ⟨((chargeOnly_chg _ s).trans hm.chargeOnly).trans (chargeOnly_requestTemp ..), ?_, ?_⟩
  · unfold secondRead
    rw [requestTemp_chg]
    exact hm.phase
  · unfold secondRead
    rw [requestTemp_pwr, holdOfPack_pwrcore]

theorem chargerStill_congr (h : t.pwr.core = s.pwr.core) : chargerStill t = chargerStill s := by
  unfold chargerStill State.off
  rw [Pwr.get h Pwr.lost (fun _ => rfl), Pwr.get h Pwr.st (fun _ => rfl), Pwr.get h Pwr.entering (fun _ => rfl)]

/-- A second of FAST, by the readings it takes (R317, R318, R323). -/
theorem judgeSecond_fast {c : Chg} (hc : s.chg.phase = c.phase) (hph : c.ph = .fast) (hstill : chargerStill s = false) :
    (2 ≤ c.ovSecs → (judgeSecond s).chg.ph = .fault ∧ (judgeSecond s).chg.fault = 4) ∧
    (c.ovSecs < 2 → s.land.bthShort = true → (judgeSecond s).chg.ph = .fault ∧ (judgeSecond s).chg.fault = 6) ∧
    (c.ovSecs < 2 → s.land.bthShort = false → c.endDv = true ∨ c.endDt = true →
      (judgeSecond s).chg.ph = if c.topMin = 0 then .maintain else .topoff) ∧
    (c.ovSecs < 2 → s.land.bthShort = false → c.endDv = false → c.endDt = false → c.source = .none →
      (judgeSecond s).chg.ph = .suspended ∧ (judgeSecond s).chg.susp = 1 ∧ (judgeSecond s).chg.left = .fast) := by
  have hph' : s.chg.ph = .fast := (Chg.get hc Chg.ph (fun _ => rfl)).trans hph
  have hov : s.chg.ovSecs = c.ovSecs := Chg.get hc Chg.ovSecs (fun _ => rfl)
  have hdv : s.chg.endDv = c.endDv := Chg.get hc Chg.endDv (fun _ => rfl)
  have hdt : s.chg.endDt = c.endDt := Chg.get hc Chg.endDt (fun _ => rfl)
  refine ⟨fun h => ?_, fun h hb => ?_, fun h hb he => ?_, fun h hb h1 h2 hn => ?_⟩
  · rw [judgeSecond_faults ⟨.inr hph', .inl (hov ▸ h)⟩, if_pos (hov ▸ h)]
    obtain ⟨h1, h2, -⟩ := chgFault_is 4 s
    exact ⟨h1, h2⟩
  · rw [judgeSecond_faults ⟨.inr hph', .inr hb⟩, if_neg (by omega)]
    obtain ⟨h1, h2, -⟩ := chgFault_is 6 s
    exact ⟨h1, h2⟩
  · have hno : ¬ ((s.chg.ph = .precharge ∨ s.chg.ph = .fast) ∧ (2 ≤ s.chg.ovSecs ∨ s.land.bthShort = true)) := fun ⟨_, hf⟩ =>
      hf.elim (by omega) (ne_true_of_eq_false hb)
    rw [judgeSecond_ends hno (by rw [hdv, hdt]; exact Bool.or_eq_true_iff.mpr he), (topoff_base _).1,
      Chg.get (pwrSet_phase ..) Chg.topMin (fun _ => rfl), Chg.get hc Chg.topMin (fun _ => rfl)]
  · have hno : ¬ ((s.chg.ph = .precharge ∨ s.chg.ph = .fast) ∧ (2 ≤ s.chg.ovSecs ∨ s.land.bthShort = true)) := fun ⟨_, hf⟩ =>
      hf.elim (by omega) (ne_true_of_eq_false hb)
    have hend : ¬ (s.chg.endDv || s.chg.endDt) = true := by
      rw [hdv, hdt, h1, h2]
      decide
    have hpre : ¬ (s.chg.ph = .precharge ∧ 10000 ≤ s.chg.v16) := fun hp => by
      rw [hph'] at hp
      cases hp.1
    rw [judgeSecond_goes hno hend, if_neg hpre]
    have hcause : suspCause s (decide (s.chg.ph ≠ .qualify)) = 1 := if_pos ((Chg.get hc Chg.source (fun _ => rfl)).trans hn)
    have hj := base_of_phase (judgeSusp_phase (decide (s.chg.ph ≠ .qualify)) s)
    rw [if_neg (ne_true_of_eq_false hstill), hcause] at hj
    unfold Chg.judged at hj
    rw [if_neg (by rw [hph']; decide), if_pos ⟨by rw [hph']; decide, by decide⟩, retarget_base] at hj
    have hb' := (retarget_base (judgeSusp (decide (s.chg.ph ≠ .qualify)) s).chg).trans hj
    exact ⟨Chg.getBase hb' Chg.ph (fun _ => rfl), Chg.getBase hb' Chg.susp (fun _ => rfl), (Chg.getBase hb' Chg.left (fun _ => rfl)).trans hph'⟩

theorem phaseOf_steady {c d : Chg} (h : c.steady = d.steady) : c.phaseOf = d.phaseOf := by
  obtain ⟨h1, h2⟩ := Prod.mk.inj h
  obtain ⟨h2, -⟩ := Prod.mk.inj h2
  unfold Chg.phaseOf
  rw [h1, h2]

theorem chargerSecond_charges (packMv : Nat) (mA : Int) (lim : Bool) (hi : s.chg.phaseOf ≠ .idle) (hf : s.chg.phaseOf ≠ .fault)
    (hs : chargerStill s = false) : ∃ t, exec (.chargerSecond packMv mA lim) s = .next t ∧ Elsewhere s t ∧ t.chg.packMv = packMv ∧
      (t.chg.ph ≠ .fault → t.chg.ph ≠ .suspended → t.chg.mA = mA) ∧ (t.chg.ph = .fault → t.chg.mA = 0 ∧ t.chg.inLim = false) ∧
      ∀ c : Chg, s.chg.ph = .fast → c = (((s.chg.readPack packMv).second mA lim).readings packMv).windows →
        (2 ≤ c.ovSecs → t.chg.ph = .fault ∧ t.chg.fault = 4) ∧
        (c.ovSecs < 2 → s.land.bthShort = true → t.chg.ph = .fault ∧ t.chg.fault = 6) ∧
        (c.ovSecs < 2 → s.land.bthShort = false → c.endDv = true ∨ c.endDt = true →
          t.chg.ph = if s.chg.topMin = 0 then .maintain else .topoff) ∧
        (c.ovSecs < 2 → s.land.bthShort = false → c.endDv = false → c.endDt = false → s.chg.source = .none →
          t.chg.ph = .suspended ∧ t.chg.susp = 1 ∧ t.chg.left = .fast) := by
  obtain ⟨honly, hphase, hcore⟩ := secondRead_is packMv mA lim s
  obtain ⟨hsteady, hmv, hma⟩ := secondly_steady packMv mA lim s.chg
  have hx := chargerSecond_works (packMv := packMv) (mA := mA) (lim := lim) hi hf hs
  have hread : (secondRead packMv mA lim s).chg.phaseOf ≠ .fault := by
    rw [Chg.get hphase Chg.phaseOf (fun _ => rfl), phaseOf_steady hsteady]
    exact hf
  have hstill : chargerStill (secondRead packMv mA lim s) = false := (chargerStill_congr hcore).trans hs
  have hland := honly.land
  generalize secondRead packMv mA lim s = u at honly hphase hx hread hstill hland
  obtain ⟨hcur, hcut⟩ := judgeSecond_current hread
  rw [Chg.get hphase Chg.mA (fun _ => rfl), hma] at hcur
  refine ⟨_, hx, honly.elsewhere.trans (judgeSecond_chargeOnly u).elsewhere, ?_, hcur, hcut, fun c hfast hc => ?_⟩
  · rw [Chg.set (judgeSecond_setup u) Chg.packMv (fun _ => rfl), Chg.get hphase Chg.packMv (fun _ => rfl), hmv]
  · have hsec : s.chg.secondly packMv mA lim = c := (secondly_fast hfast).trans hc.symm
    rw [hsec] at hphase hsteady
    obtain ⟨h1, h2⟩ := Prod.mk.inj hsteady
    obtain ⟨-, h2⟩ := Prod.mk.inj h2
    obtain ⟨h3, h4⟩ := Prod.mk.inj h2
    obtain ⟨hov, hshort, hend, hsusp⟩ := judgeSecond_fast hphase (h1.trans hfast) hstill
    rw [hland] at hshort hend hsusp
    rw [h4] at hend
    rw [h3] at hsusp
    exact ⟨hov, hshort, hend, hsusp⟩

/-! ## A second while nothing is charged -/

theorem holdOfPack_usable {b : State} (hb : packUsable b = true) (hs : packUsable s = true) : holdOfPack b s = s := by
  unfold holdOfPack
  split
  · exact if_pos hs
  · exact if_neg fun h => ne_true_of_eq_false h.1 hb
  · rfl

theorem holdOfPack_feeds {b : State} (hh : s.chg.hold = .lost) (hb : packUsable b = false) (hv : vinUsable s = false) (hf : packFeeds s = true) :
    holdOfPack b s = setHold .onPack s := by
  unfold holdOfPack
  rw [hh]
  exact if_pos ⟨hb, hv, hf⟩

/-- The state in which the wall time has passed and the pack has been judged (R306, R320). -/
def packRead (packMv : Nat) (s : State) : State := { s with chg := { s.chg.readPack packMv with wall := s.chg.wall + 1 } }

theorem chargerSecond_rests {packMv : Nat} {mA : Int} {lim : Bool} (hs : chargerStill s = false)
    (h : s.chg.phaseOf = .idle ∨ s.chg.phaseOf = .fault) : exec (.chargerSecond packMv mA lim) s = .next (holdOfPack s (packRead packMv s)) := by
  have hoff : s.off ≠ true := fun h => by
    unfold chargerStill at hs
    rw [h] at hs
    cases hs
  exact congrArg Host.Outcome.next ((if_neg hoff).trans ((if_neg (ne_true_of_eq_false hs)).trans (if_pos h)))

theorem packUsable_read (packMv : Nat) (s : State) : packUsable (packRead packMv s) =
    (decide (s.chg.nCells ≠ 0) && !s.land.bthOpen && s.chg.psw && !s.chg.exhausted &&
      (s.chg.packGood || decide (s.chg.nCells ≠ 0) && decide ((s.chg.vcutMv + 100) * s.chg.nCells < packMv))) := rfl

theorem packUsable_reading {packMv : Nat} (h : packUsable s = true) : packUsable (packRead packMv s) = true := by
  rw [packUsable_read]
  unfold packUsable at h
  simp only [Bool.and_eq_true] at h ⊢
  obtain ⟨h, hg⟩ := h
  exact ⟨h, by rw [hg]; rfl⟩

theorem chargerSecond_judges (packMv : Nat) (mA : Int) (lim : Bool) (hs : chargerStill s = false)
    (h : s.chg.phaseOf = .idle ∨ s.chg.phaseOf = .fault) : ∃ t, exec (.chargerSecond packMv mA lim) s = .next t ∧
      HoldMoves (packRead packMv s) t t.chg.hold ∧
      (packUsable s = false → (s.chg.vcutMv + 100) * s.chg.nCells < packMv → s.chg.nCells ≠ 0 → s.land.bthOpen = false →
        s.chg.psw = true → s.chg.exhausted = false → s.chg.packOk = true → vinUsable s = false → s.chg.hold = .lost → t.chg.hold = .onPack) ∧
      (packUsable s = true → t.chg.hold = s.chg.hold) := by
  obtain ⟨h', hm⟩ := holdOfPack_moves s (packRead packMv s)
  refine ⟨_, chargerSecond_rests hs h, by rw [hm.hold]; exact hm, fun hu hv hn hb hp he hok hvin hl => ?_, fun hu => ?_⟩
  · have hfeeds : packFeeds (packRead packMv s) = true := by
      unfold packFeeds
      rw [packUsable_read, hb, hp, he, decide_eq_true hv, decide_eq_true hn]
      change (s.chg.packOk && _) = true
      rw [hok]
      cases s.chg.packGood <;> rfl
    rw [holdOfPack_feeds (s := packRead packMv s) hl hu hvin hfeeds]
    exact (setHold_moves ..).hold
  · rw [holdOfPack_usable hu (packUsable_reading hu)]
    rfl

/-! ## Qualifying, the timers and the recharge -/

/-- The state in which a pack has been read for its qualifying (R315). -/
def qualifyRead (packMv : Nat) (s : State) : State := holdOfPack s { s with chg := (s.chg.readPack packMv).windows }

theorem qualifyDone_reads {packMv : Nat} (h : s.chg.ph = .qualify) : exec (.qualifyDone packMv) s = .next
    (if packMv < 500 * s.chg.nCells ∨ 1750 * s.chg.nCells < packMv then chgFault 5 (qualifyRead packMv s)
      else if s.land.bthShort then chgFault 6 (qualifyRead packMv s)
      else if suspCause (qualifyRead packMv s) true ≠ 0 then judgeSusp true (qualifyRead packMv s)
      else setPhase (if packMv < 1000 * s.chg.nCells then .precharge else .fast) (qualifyRead packMv s)) :=
  congrArg Host.Outcome.next (if_neg (not_not.mpr h))

theorem suspCause_congr (b : Bool) (hp : t.chg.phase = s.chg.phase) (hh : t.hem = s.hem) : suspCause t b = suspCause s b := by
  have hst : tempStale t = tempStale s := by
    unfold tempStale
    rw [Chg.get hp Chg.bth (fun _ => rfl), Chg.get hp Chg.bthAt (fun _ => rfl), hh]
  unfold suspCause
  dsimp only
  rw [hst, Chg.get hp Chg.phaseOf (fun _ => rfl), Chg.get hp Chg.maintI (fun _ => rfl), Chg.get hp Chg.source (fun _ => rfl), Chg.get hp Chg.ph (fun _ => rfl), Chg.get hp Chg.suspLo (fun _ => rfl), Chg.get hp Chg.suspHi (fun _ => rfl)]

theorem qualifyDone_judges {packMv : Nat} (h : s.chg.ph = .qualify) : ∃ t, exec (.qualifyDone packMv) s = .next t ∧ Elsewhere s t ∧
    t.chg.packMv = packMv ∧
    (packMv < 500 * s.chg.nCells ∨ 1750 * s.chg.nCells < packMv → t.chg.ph = .fault ∧ t.chg.fault = 5) ∧
    (500 * s.chg.nCells ≤ packMv → packMv ≤ 1750 * s.chg.nCells → s.land.bthShort = true → t.chg.ph = .fault ∧ t.chg.fault = 6) ∧
    (500 * s.chg.nCells ≤ packMv → packMv ≤ 1750 * s.chg.nCells → s.land.bthShort = false →
      suspCause { s with chg := (s.chg.readPack packMv).windows } true = 0 →
      t.chg.ph = (if packMv < 1000 * s.chg.nCells then .precharge else .fast) ∧ t.chg.timer = 0 ∧ t.chg.wall = 0) := by
  have hx := qualifyDone_reads (packMv := packMv) h
  obtain ⟨h', hm⟩ := holdOfPack_moves s { s with chg := (s.chg.readPack packMv).windows }
  have honly : ChargeOnly s (qualifyRead packMv s) := (chargeOnly_chg _ s).trans hm.chargeOnly
  have hcause : suspCause (qualifyRead packMv s) true = suspCause { s with chg := (s.chg.readPack packMv).windows } true :=
    suspCause_congr true hm.phase hm.chargeOnly.hem
  have hmv : (qualifyRead packMv s).chg.packMv = packMv := by
    obtain ⟨a, b, x, y, hw⟩ := windows_base (s.chg.readPack packMv)
    refine (Chg.get hm.phase Chg.packMv (fun _ => rfl)).trans ?_
    dsimp only
    rw [hw]
    rfl
  generalize qualifyRead packMv s = u at hx honly hcause hmv
  have hfault (n : Nat) : Elsewhere s (chgFault n u) ∧ (chgFault n u).chg.packMv = packMv ∧ (chgFault n u).chg.ph = .fault ∧
      (chgFault n u).chg.fault = n := by
    obtain ⟨h1, h2, -⟩ := chgFault_is n u
    exact ⟨honly.elsewhere.trans (chgFault_chargeOnly n u).elsewhere, (Chg.set (chgFault_setup n u) Chg.packMv (fun _ => rfl)).trans hmv, h1, h2⟩
  by_cases hv : packMv < 500 * s.chg.nCells ∨ 1750 * s.chg.nCells < packMv
  · rw [if_pos hv] at hx
    obtain ⟨h1, h2, h3, h4⟩ := hfault 5
    exact ⟨_, hx, h1, h2, fun _ => ⟨h3, h4⟩, fun h1 h2 => absurd hv (by omega), fun h1 h2 => absurd hv (by omega)⟩
  · rw [if_neg hv] at hx
    by_cases hb : s.land.bthShort = true
    · rw [if_pos hb] at hx
      obtain ⟨h1, h2, h3, h4⟩ := hfault 6
      exact ⟨_, hx, h1, h2, fun hn => absurd hn hv, fun _ _ _ => ⟨h3, h4⟩, fun _ _ hn => absurd hb (ne_true_of_eq_false hn)⟩
    · rw [if_neg hb] at hx
      by_cases hc : suspCause u true ≠ 0
      · rw [if_pos hc] at hx
        exact ⟨_, hx, honly.elsewhere.trans (judgeSusp_chargeOnly true u).elsewhere, (Chg.set (judgeSusp_setup true u).1 Chg.packMv (fun _ => rfl)).trans hmv,
          fun hn => absurd hn hv, fun _ _ hn => absurd hn hb, fun _ _ _ hn => absurd (hcause.trans hn) hc⟩
      · rw [if_neg hc] at hx
        have hnot : ¬ ((if packMv < 1000 * s.chg.nCells then ChgPh.precharge else .fast) = .topoff ∧ u.chg.topMin = 0) := fun ⟨hp, _⟩ => by
          split at hp <;> cases hp
        have hbase := setPhase_base hnot
        refine ⟨_, hx, honly.elsewhere.trans (setPhase_chargeOnly _ u).elsewhere, (Chg.set (setPhase_setup _ u).1 Chg.packMv (fun _ => rfl)).trans hmv,
          fun hn => absurd hn hv, fun _ _ hn => absurd hn hb, fun _ _ _ _ => ?_⟩
        rw [Chg.getBase hbase Chg.ph (fun _ => rfl), Chg.getBase hbase Chg.timer (fun _ => rfl), Chg.getBase hbase Chg.wall (fun _ => rfl)]
        split <;> exact ⟨rfl, rfl, rfl⟩

theorem phaseTimer_expires {wall : Bool} (h : if wall = true then 3 * s.chg.nominal ≤ s.chg.wall * 1000 else s.chg.nominal ≤ s.chg.timer) :
    exec (.phaseTimerExpired wall) s = .next (match s.chg.ph with
      | .precharge => chgFault (if wall then 2 else 3) s
      | .fast => chgFault (if wall then 2 else 1) s
      | .topoff => setPhase .maintain s
      | _ => s) := by
  refine congrArg Host.Outcome.next (if_neg ?_)
  cases wall
  · exact ne_false_of_eq_true (decide_eq_true h)
  · exact ne_false_of_eq_true (decide_eq_true h)

theorem phaseTimer_moves {wall : Bool} (h : if wall = true then 3 * s.chg.nominal ≤ s.chg.wall * 1000 else s.chg.nominal ≤ s.chg.timer) :
    ∃ t, exec (.phaseTimerExpired wall) s = .next t ∧ Elsewhere s t ∧
      (s.chg.ph = .precharge → t.chg.ph = .fault ∧ t.chg.fault = if wall = true then 2 else 3) ∧
      (s.chg.ph = .fast → t.chg.ph = .fault ∧ t.chg.fault = if wall = true then 2 else 1) ∧
      (s.chg.ph = .topoff → t.chg.ph = .maintain) ∧
      (s.chg.ph ≠ .precharge → s.chg.ph ≠ .fast → s.chg.ph ≠ .topoff → t = s) := by
  have hx := phaseTimer_expires h
  cases hp : s.chg.ph
  case precharge =>
    rw [hp] at hx
    obtain ⟨h1, h2, -⟩ := chgFault_is (if wall then 2 else 3) s
    exact ⟨_, hx, (chgFault_chargeOnly ..).elsewhere, fun _ => ⟨h1, h2⟩, fun h => (nomatch h), fun h => (nomatch h), fun h => absurd rfl h⟩
  case fast =>
    rw [hp] at hx
    obtain ⟨h1, h2, -⟩ := chgFault_is (if wall then 2 else 1) s
    exact ⟨_, hx, (chgFault_chargeOnly ..).elsewhere, fun h => (nomatch h), fun _ => ⟨h1, h2⟩, fun h => (nomatch h), fun _ h => absurd rfl h⟩
  case topoff =>
    rw [hp] at hx
    have hb := setPhase_base (s := s) (p := .maintain) (fun h => nomatch h.1)
    exact ⟨_, hx, (setPhase_chargeOnly ..).elsewhere, fun h => (nomatch h), fun h => (nomatch h), fun _ => Chg.getBase hb Chg.ph (fun _ => rfl),
      fun _ _ h => absurd rfl h⟩
  all_goals
    rw [hp] at hx
    exact ⟨s, hx, Elsewhere.refl s, fun h => (nomatch h), fun h => (nomatch h), fun h => (nomatch h), fun _ _ _ => rfl⟩

/-- The state in which a pack in MAINTAIN has been read (R324). -/
def rechargeRead (packMv : Nat) (s : State) : State :=
  holdOfPack s { s with chg := { s.chg.readPack packMv with volts := [(s.chg.readPack packMv).cellV packMv] } }

theorem rechargeCheck_reads {packMv : Nat} (hp : s.chg.ph = .maintain) (hs : chargerStill s = false) : exec (.rechargeCheck packMv) s = .next
    (if packMv < s.chg.rechgMv * s.chg.nCells then setPhase .qualify { rechargeRead packMv s with
      chg := { (rechargeRead packMv s).chg with recharges := satInc 255 (rechargeRead packMv s).chg.recharges } }
    else rechargeRead packMv s) :=
  congrArg Host.Outcome.next (if_neg (not_or.mpr ⟨not_not.mpr hp, ne_true_of_eq_false hs⟩))

theorem rechargeCheck_judges {packMv : Nat} (hp : s.chg.ph = .maintain) (hs : chargerStill s = false) : ∃ t, exec (.rechargeCheck packMv) s = .next t ∧
    Elsewhere s t ∧ t.chg.packMv = packMv ∧
    (packMv < s.chg.rechgMv * s.chg.nCells → t.chg.ph = .qualify ∧ t.chg.recharges = satInc 255 s.chg.recharges) ∧
    (s.chg.rechgMv * s.chg.nCells ≤ packMv → t.chg.ph = .maintain ∧ t.chg.recharges = s.chg.recharges) := by
  have hx := rechargeCheck_reads (packMv := packMv) hp hs
  obtain ⟨h', hm⟩ := holdOfPack_moves s { s with chg := { s.chg.readPack packMv with volts := [(s.chg.readPack packMv).cellV packMv] } }
  have honly : ChargeOnly s (rechargeRead packMv s) := (chargeOnly_chg _ s).trans hm.chargeOnly
  have hmv : (rechargeRead packMv s).chg.packMv = packMv := Chg.get hm.phase Chg.packMv (fun _ => rfl)
  have hrec : (rechargeRead packMv s).chg.recharges = s.chg.recharges := Chg.get hm.phase Chg.recharges (fun _ => rfl)
  have hph : (rechargeRead packMv s).chg.ph = .maintain := (Chg.get hm.phase Chg.ph (fun _ => rfl)).trans hp
  generalize rechargeRead packMv s = u at hx honly hmv hrec hph
  by_cases hv : packMv < s.chg.rechgMv * s.chg.nCells
  · rw [if_pos hv] at hx
    have hb := setPhase_base (s := { u with chg := { u.chg with recharges := satInc 255 u.chg.recharges } }) (p := .qualify) qualify_not_topoff
    have hc := setPhase_chargeOnly .qualify { u with chg := { u.chg with recharges := satInc 255 u.chg.recharges } }
    refine ⟨_, hx, honly.elsewhere.trans hc.elsewhere, (Chg.getBase hb Chg.packMv (fun _ => rfl)).trans hmv, fun _ => ⟨Chg.getBase hb Chg.ph (fun _ => rfl), ?_⟩, fun h => by omega⟩
    rw [Chg.getBase hb Chg.recharges (fun _ => rfl), ← hrec]
    rfl
  · rw [if_neg hv] at hx
    exact ⟨_, hx, honly.elsewhere, hmv, fun h => absurd h hv, fun _ => ⟨hph, hrec⟩⟩

/-! ## The land of the battery sensor -/

/-- The state in which the battery sensor's fault has been noted (R306). -/
def bthNoted (c : BthCond) (s : State) : State :=
  pulseIf ((decide (c = .opened) && !s.land.bthOpen) || (decide (c = .shorted) && !s.land.bthShort)) 569
    { s with land := { s.land with bthOpen := decide (c = .opened), bthShort := decide (c = .shorted) } }

theorem bthNoted_is (c : BthCond) (s : State) : Elsewhere s (bthNoted c s) ∧ (bthNoted c s).chg = s.chg ∧
    (bthNoted c s).land = { s.land with bthOpen := decide (c = .opened), bthShort := decide (c = .shorted) } := by
  have h := pulseIf_only ((decide (c = .opened) && !s.land.bthOpen) || (decide (c = .shorted) && !s.land.bthShort)) 569
    { s with land := { s.land with bthOpen := decide (c = .opened), bthShort := decide (c = .shorted) } }
  unfold bthNoted
  rw [h]
  exact ⟨⟨rfl, rfl, rfl, rfl⟩, rfl, rfl⟩

theorem bthOpen_opened (s : State) : ∃ t, exec (.bthOpen .opened) s = .next t ∧ Elsewhere s t ∧ t.land.bthOpen = true ∧ t.land.bthShort = false ∧
    (s.land.bthOpen = false → s.pwr.st ≠ .ship → t.chg.ph = .idle ∧ t.chg.packGood = false) := by
  obtain ⟨helse, -, hland⟩ := bthNoted_is .opened s
  have hx : exec (.bthOpen .opened) s = .next (if s.pwr.st = .ship then bthNoted .opened s
      else if (!s.land.bthOpen) = true then removePack (bthNoted .opened s) else bthNoted .opened s) := rfl
  obtain ⟨honly, hidle, -, hgood, -⟩ := removePack_is (bthNoted .opened s)
  by_cases hp : s.pwr.st = .ship
  · rw [if_pos hp] at hx
    exact ⟨_, hx, helse, by rw [hland]; rfl, by rw [hland]; rfl, fun _ h => absurd hp h⟩
  · rw [if_neg hp] at hx
    by_cases hb : s.land.bthOpen = true
    · rw [hb, if_neg (by decide)] at hx
      exact ⟨_, hx, helse, by rw [hland]; rfl, by rw [hland]; rfl, fun h => absurd hb (ne_true_of_eq_false h)⟩
    · rw [eq_false_of_ne_true hb, if_pos (by decide)] at hx
      exact ⟨_, hx, helse.trans honly.elsewhere, by rw [honly.land, hland]; rfl, by rw [honly.land, hland]; rfl, fun _ _ => ⟨hidle, hgood⟩⟩

theorem bthOpen_shorted (s : State) : ∃ t, exec (.bthOpen .shorted) s = .next t ∧ Elsewhere s t ∧ t.land.bthOpen = false ∧ t.land.bthShort = true ∧
    (s.pwr.st ≠ .ship → s.chg.ph = .qualify ∨ s.chg.ph = .precharge ∨ s.chg.ph = .fast → t.chg.ph = .fault ∧ t.chg.fault = 6) := by
  obtain ⟨helse, -, hland⟩ := bthNoted_is .shorted s
  have hx : exec (.bthOpen .shorted) s = .next (if s.pwr.st = .ship then bthNoted .shorted s
      else if (decide (s.chg.ph = .qualify) || decide (s.chg.ph = .precharge) || decide (s.chg.ph = .fast)) = true then
        chgFault 6 (bthNoted .shorted s) else bthNoted .shorted s) := rfl
  have hiff : (decide (s.chg.ph = .qualify) || decide (s.chg.ph = .precharge) || decide (s.chg.ph = .fast)) = true ↔
      s.chg.ph = .qualify ∨ s.chg.ph = .precharge ∨ s.chg.ph = .fast := by
    simp only [Bool.or_eq_true, decide_eq_true_eq, or_assoc]
  obtain ⟨h1, h2, -⟩ := chgFault_is 6 (bthNoted .shorted s)
  have honly := chgFault_chargeOnly 6 (bthNoted .shorted s)
  by_cases hp : s.pwr.st = .ship
  · rw [if_pos hp] at hx
    exact ⟨_, hx, helse, by rw [hland]; rfl, by rw [hland]; rfl, fun h => absurd hp h⟩
  · rw [if_neg hp] at hx
    by_cases hb : (decide (s.chg.ph = .qualify) || decide (s.chg.ph = .precharge) || decide (s.chg.ph = .fast)) = true
    · rw [if_pos hb] at hx
      exact ⟨_, hx, helse.trans honly.elsewhere, by rw [honly.land, hland]; rfl, by rw [honly.land, hland]; rfl, fun _ _ => ⟨h1, h2⟩⟩
    · rw [if_neg hb] at hx
      exact ⟨_, hx, helse, by rw [hland]; rfl, by rw [hland]; rfl, fun _ h => absurd (hiff.mpr h) hb⟩

/-- Settles O42: HOLD's moves, the pack and the sources, and what a second, a timer or a reading decides, each stated above. -/
theorem chargerAndHoldHappenings : Obligations.ChargerAndHoldHappenings := by
  intro s
  refine ⟨fun h => congrArg Host.Outcome.next (if_neg h), fun h => ⟨_, congrArg Host.Outcome.next (if_pos h), setHold_moves ..⟩,
    holdReturnVin_stays, holdReturnVin_returns, fun h1 h2 => congrArg Host.Outcome.next (if_neg (not_or.mpr ⟨h1, h2⟩)),
    fun h => ⟨_, congrArg Host.Outcome.next (if_pos h), setHold_moves .., setHold_retry_flags ?_⟩,
    fun h => congrArg Host.Outcome.next (if_neg h), fun h => ⟨_, congrArg Host.Outcome.next (if_pos h), setHold_moves ..⟩,
    fun h => congrArg Host.Outcome.next (if_neg h), packExhausted_loses, fun h => congrArg Host.Outcome.next (if_neg ?_), fun hp hn => ?_,
    fun h => congrArg Host.Outcome.next (if_pos h), packInserted_judges, bthOpen_opened s, bthOpen_shorted s,
    fun p => ⟨sourceChange_vin p s, sourceChange_auxin p, sourceChange_seam p⟩, fun p => phantomPowerLost_is p s, fun x => auxinRange_is x s,
    fun v => ⟨fun h => congrArg Host.Outcome.next (if_pos h), auxidRead_takes⟩,
    fun packMv mA lim => ⟨fun h => congrArg Host.Outcome.next (if_pos h), fun ho hs => ?_, fun hs h => ?_,
      fun hi hf hs => chargerSecond_charges packMv mA lim hi hf hs⟩,
    fun packMv => ⟨fun h => congrArg Host.Outcome.next (if_pos h), qualifyDone_judges⟩,
    fun wall => ⟨phaseTimer_moves, fun h => congrArg Host.Outcome.next (if_pos ?_)⟩,
    fun packMv => ⟨fun h => congrArg Host.Outcome.next (if_pos h), rechargeCheck_judges⟩,
    fun h => congrArg Host.Outcome.next (if_pos h), fun h1 h2 => ?_⟩
  case refine_1 =>
    obtain h | h := h <;> rw [h] <;> decide
  case refine_2 =>
    rintro ⟨hp, hn⟩
    obtain h | ⟨h1, h2⟩ := h
    · exact hp h
    · exact hn.elim (fun h => h h1) (ne_true_of_eq_false h2)
  case refine_3 =>
    obtain ⟨honly, h1, h2, h3, h4⟩ := removePack_is s
    exact ⟨_, congrArg Host.Outcome.next (if_pos ⟨hp, hn⟩), honly.elsewhere, h1, h2, h3, h4⟩
  case refine_4 => exact congrArg Host.Outcome.next ((if_neg (ne_true_of_eq_false ho)).trans (if_pos hs))
  case refine_5 =>
    obtain ⟨t, hx, hm, hfeeds, hkeeps⟩ := chargerSecond_judges packMv mA lim hs h
    exact ⟨t, hx, hm, hfeeds, hkeeps⟩
  case refine_6 =>
    cases wall
    · exact decide_eq_false h
    · exact decide_eq_false h
  case refine_7 =>
    obtain ⟨hph, hfault, -⟩ := chgFault_is 7 s
    exact ⟨_, congrArg Host.Outcome.next (if_neg (not_or.mpr ⟨h1, h2⟩)), (chgFault_chargeOnly 7 s).elsewhere, hph, hfault⟩

end Sys2Proof.Machine
end

section
/-! PROOF. The commands of Hem: the count, its form, the alarms, the periodic wake, the backup memory and the discipline (R333-R349). -/

namespace Sys2Proof.Machine

variable {s t : State} {q : Req}

/-! ## What the operations of the count leave in Hem -/

theorem hemSet_hem (m : BitVec 16) (s : State) : (hemSet m s).hem = { s.hem with flags := s.hem.flags ||| m } := pulseIf_hem ..

theorem almSet_hem (k : Fin 2) (s : State) : (almSet k s).hem = { s.hem with flags := s.hem.flags ||| (if k = 0 then 0x8 else 0x10) } :=
  setLine_hem ..

/-- The discipline's correction in a state it enters (R344). -/
def Hem.driftIn (d : DiscSt) (h : Hem) : Int :=
  match d with
  | .off => 0
  | .tracking => h.discV
  | _ => h.discF

theorem setDisc_hem (d : DiscSt) (s : State) : (setDisc d s).hem = { s.hem with disc := d, edges := 0, discV := s.hem.driftIn d } :=
  pulseIf_hem ..

theorem clearSuspect_hem (s : State) : (clearSuspect s).hem = { s.hem with suspect := false } := setLine_hem ..

/-- A time set takes a discipline that tracks back to its acquisition, and lets it begin anew (R336, R344). -/
theorem restartDisc_hem (s : State) : ∃ e v, (restartDisc s).hem = { s.hem with
    disc := if s.hem.disc = .tracking then .acquire else s.hem.disc, edges := e, discV := v } := by
  unfold restartDisc leaveTracking
  cases h : s.hem.disc <;> simp only [reduceCtorEq, if_true, if_false]
  case tracking => exact ⟨_, _, setDisc_hem ..⟩
  case acquire => exact ⟨_, _, setDisc_hem ..⟩
  all_goals
    rw [← h]
    exact ⟨_, _, rfl⟩

theorem applyRtc_hem (n : Nat) (s : State) : ∃ e v a, (applyRtc n s).hem = { s.hem with
    count := n, heldSet := none, suspect := false, alarms := a
    disc := if s.hem.disc = .tracking then .acquire else s.hem.disc, edges := e, discV := v } := by
  unfold applyRtc
  dsimp only
  obtain ⟨e, v, h⟩ := restartDisc_hem (clearSuspect { s with hem := { s.hem with
    count := n, heldSet := none, alarms := s.hem.alarms.map (fun a => a.rearm s.hem.calendar n) } })
  rw [clearSuspect_hem] at h
  exact ⟨e, v, _, h⟩

theorem applyRtc_elsewhere (n : Nat) (s : State) : Elsewhere s (applyRtc n s) :=
  ⟨applyRtc_cells .., applyRtc_rails .., applyRtc_dom .., applyRtc_crease ..⟩

/-! ## RTC_SET and RTC_MODE -/

theorem rtcSetOp_held (h : s.hem.heldSet ≠ none) : rtcSetOp.run q s = busy s 0 :=
  if_pos (Option.isSome_iff_ne_none.mpr h)

theorem rtcSetOp_count (h : s.hem.heldSet = none) : rtcSetOp.run q s = (match countOf s.hem.calendar (q.params.take 8) with
    | none => noted s [1]
    | some n => if natBit (byteAt q.params 8) 0 then ({ s with hem := { s.hem with heldSet := some n } }, .reply .started [0])
      else done (applyRtc n s) [0]) :=
  if_neg (by rw [h]; exact Bool.false_ne_true)

/-- The count a set of the time names, in the form it has (R335). -/
theorem countOf_of_form {cal : Bool} {p : List Byte} {n : Nat}
    (h : cal = true ∧ calendarCount (p.take 8) = some n ∨ cal = false ∧ fieldAt p 0 8 = n) : countOf cal (p.take 8) = some n := by
  obtain ⟨rfl, h⟩ | ⟨rfl, rfl⟩ := h
  · exact h
  · rfl

theorem rtcSet_applies (hr : Ready 0x0B01 q s) (hl : q.params.length = 9) (hn : s.hem.heldSet = none) {n : Nat}
    (hc : countOf s.hem.calendar (q.params.take 8) = some n) (hb : natBit (byteAt q.params 8) 0 = false) :
    Completes (.rtcSet q) 0x0B01 q s .done [0] (fun t => Elsewhere s t ∧ t.hem.count = n ∧ t.hem.suspect = false ∧
      t.hem.ticks = s.hem.ticks ∧ t.hem.backup = s.hem.backup ∧
      t.hem.disc = if s.hem.disc = .tracking then .acquire else s.hem.disc) := by
  have hh : (arrived q s).hem = s.hem := arrived_hem ..
  obtain ⟨e, v, a, ha⟩ := applyRtc_hem n (arrived q s)
  rw [hh] at ha
  refine completes_of_reply (o := rtcSetOp) (t := applyRtc n (arrived q s)) rfl hr (fixed_paramCheck (n := 9) (by decide) (by decide) rfl hl rfl) ?_
    (by rw [applyRtc_proto, arrived_proto]; exact hr.empty) ⟨(elsewhere_arrived q s).trans (applyRtc_elsewhere ..), ?_⟩
  · rw [rtcSetOp_count (by rw [hh]; exact hn), hh, hc]
    dsimp only
    rw [if_neg (by rw [hb]; exact Bool.false_ne_true)]
    rfl
  · rw [ha]
    exact ⟨rfl, rfl, rfl, rfl, rfl⟩

theorem rtcModeOp_run (q : Req) (s : State) : rtcModeOp.run q s = done0 (if decide (byteAt q.params 0 = 1) = s.hem.calendar then s
    else { s with hem := { s.hem with
      calendar := decide (byteAt q.params 0 = 1), alarms := s.hem.alarms.map (fun a => { a with enable := false }) } }) := rfl

/-! ## ALARM_SET, PERIODIC_SET and BACKUP_WRITE -/

theorem get2 {k : Fin 2} {n : Nat} (h : n = k.val) : Fin.ofNat 2 n = k := by
  subst h
  exact Fin.ext (Nat.mod_eq_of_lt k.isLt)

theorem alarmSetOp_run {k : Fin 2} (h : byteAt q.params 0 = k.val) : alarmSetOp.run q s = done0 { s with hem := { s.hem with
    alarms := upd s.hem.alarms k { enable := natBit (byteAt q.params 4) 0, mask := byteAt q.params 5
                                   time := (q.params.drop 8).take 8, repeats := fieldAt q.params 16 4
                                   setIn := some (hundredth s.hem.count) } } } := by
  have h0 : byteAt (q.params.drop 4) 0 = byteAt q.params 4 := byteAt_drop ..
  have h1 : byteAt (q.params.drop 4) 1 = byteAt q.params 5 := byteAt_drop ..
  have h12 : fieldAt (q.params.drop 4) 12 4 = fieldAt q.params 16 4 := fieldAt_drop ..
  have ht : ((q.params.drop 4).drop 4).take 8 = (q.params.drop 8).take 8 := by rw [List.drop_drop]
  unfold alarmSetOp
  dsimp only
  rw [get2 h, h0, h1, h12, ht]

theorem alarmSetOp_paramCheck {k : Fin 2} (hl : q.params.length = 20) (h : byteAt q.params 0 = k.val) : alarmSetOp.paramCheck 2 q.params = none := by
  refine fixed_paramCheck (n := 20) (by decide) (by decide) rfl hl ?_
  have hok : fieldAt q.params 0 1 ≤ 1 := by
    rw [fieldAt_one]
    omega
  simp [alarmSetOp, firstBad, hok]

/-- The backup memory as it is written (R341). -/
def backupWritten (q : Req) (m : Vector Byte 64) : Vector Byte 64 :=
  mapIdx m (fun k b => if byteAt q.params 0 ≤ k ∧ k < byteAt q.params 0 + byteAt q.params 1 then q.params.getD (2 + k - byteAt q.params 0) 0 else b)

theorem backupWriteOp_paramCheck (hl : q.params.length = 2 + byteAt q.params 1) (h1 : 1 ≤ byteAt q.params 1)
    (h2 : byteAt q.params 0 + byteAt q.params 1 ≤ 64) (h3 : byteAt q.params 0 < 64) : backupWriteOp.paramCheck 2 q.params = none := by
  have hn : ¬ 496 < q.params.length := by omega
  have hplen : Plen.expected (.counted 2 1 1) q.params = none := by
    unfold Plen.expected
    dsimp only
    rw [if_neg (by omega), if_pos (by omega)]
  have ha : fieldAt q.params 0 1 ≤ 63 := by
    rw [fieldAt_one]
    omega
  have hb : 1 ≤ fieldAt q.params 1 1 ∧ fieldAt q.params 1 1 ≤ 64 := by
    rw [fieldAt_one]
    omega
  have hs : ¬ 64 < byteAt q.params 0 + byteAt q.params 1 := by omega
  have hbad : backupBad 2 q.params = none := by simp [backupBad, firstBad, ha, hb, hs]
  simp [OpSpec.paramCheck, backupWriteOp, plenLimit, hn, hplen, hbad]

/-! ## PPS_CONFIG -/

/-- Hem with the discipline's settings (R343). -/
def Hem.disciplined (p : List Byte) (h : Hem) : Hem :=
  let preset := natBit (byteAt p 0) 1
  let qual := max 2 (byteAt p 1)
  let tau := clampNat 16 4096 (fieldAt p 2 2)
  let f := if preset then clampDisc (s32At p 8) else h.discF
  let restart := decide (tau ≠ h.tau) || decide (qual ≠ h.ppsQual)
  { h with
    ppsQual := qual, tau := tau, ppsStep := clampNat 100 500000 (fieldAt p 4 4), discF := f
    discV := if h.disc = .acquire ∨ h.disc = .holdover then f else h.discV
    edges := if restart then 0 else h.edges
    n := if preset || restart then 0 else h.n
    eStartDue := h.eStartDue || (decide (h.disc = .tracking) && (preset || restart)) }

theorem ppsWrite_eq (p : List Byte) (s : State) : ppsWrite p s =
    if natBit (byteAt p 0) 0 = false then setDisc .off { s with hem := s.hem.disciplined p }
    else if s.hem.disc = .off then setDisc .acquire { s with hem := s.hem.disciplined p } else { s with hem := s.hem.disciplined p } := rfl

/-- What PPS_CONFIG leaves of Hem (R343, R344). -/
theorem ppsWrite_hem (p : List Byte) (s : State) : ∃ d e v, (ppsWrite p s).hem = { s.hem.disciplined p with disc := d, edges := e, discV := v } ∧
    (natBit (byteAt p 0) 0 = false → d = .off ∧ v = 0) ∧
    (natBit (byteAt p 0) 0 = true → d = if s.hem.disc = .off then .acquire else s.hem.disc) := by
  rw [ppsWrite_eq]
  by_cases hb : natBit (byteAt p 0) 0 = false
  · rw [if_pos hb]
    exact ⟨_, _, _, setDisc_hem .., fun _ => ⟨rfl, rfl⟩, fun h => absurd (hb.symm.trans h) Bool.false_ne_true⟩
  · rw [if_neg hb]
    by_cases ho : s.hem.disc = .off
    · rw [if_pos ho]
      exact ⟨_, _, _, setDisc_hem .., fun h => absurd h hb, fun _ => (if_pos ho).symm⟩
    · rw [if_neg ho]
      exact ⟨_, _, _, rfl, fun h => absurd h hb, fun _ => (if_neg ho).symm⟩

theorem ppsConfig_takes (hr : Ready 0x0B08 q s) (hl : q.params.length = 12) : Completes (.ppsConfig q) 0x0B08 q s .done [] (fun t => Elsewhere s t ∧
    t.hem.ppsQual = max 2 (byteAt q.params 1) ∧ t.hem.tau = clampNat 16 4096 (fieldAt q.params 2 2) ∧
    t.hem.ppsStep = clampNat 100 500000 (fieldAt q.params 4 4) ∧ t.hem.count = s.hem.count ∧ t.hem.alarms = s.hem.alarms ∧
    t.hem.discF = (if natBit (byteAt q.params 0) 1 = true then clampInt (-20000) 20000 (s32At q.params 8) else s.hem.discF) ∧
    (natBit (byteAt q.params 0) 0 = false → t.hem.disc = .off ∧ t.hem.discV = 0) ∧
    (natBit (byteAt q.params 0) 0 = true → t.hem.disc = if s.hem.disc = .off then .acquire else s.hem.disc)) := by
  obtain ⟨d, e, v, h, hoff, hon⟩ := ppsWrite_hem q.params (arrived q s)
  rw [arrived_hem] at h hon
  refine completes_of_reply (o := ppsConfigOp) (t := ppsWrite q.params (arrived q s)) rfl hr
    (fixed_paramCheck (n := 12) (by decide) (by decide) rfl hl rfl) rfl (by rw [ppsWrite_proto, arrived_proto]; exact hr.empty)
    ⟨(elsewhere_arrived q s).trans ⟨ppsWrite_cells .., ppsWrite_rails .., ppsWrite_dom .., ppsWrite_crease ..⟩, ?_⟩
  rw [h]
  exact ⟨rfl, rfl, rfl, rfl, rfl, rfl, hoff, hon⟩

end Sys2Proof.Machine
end

section
/-! PROOF. O43, continued: PPS edges, alarms, the wraps of the count and Hem's supply (R336-R349, R356, R357). -/

namespace Sys2Proof.Machine

variable {s t : State}

/-! ## A step of the count -/

theorem fireAlarm_hem (k : Fin 2) (s : State) : (fireAlarm k s).hem = { s.hem with
    alarms := upd s.hem.alarms k (s.hem.alarms[k].fire s.hem.calendar s.hem.count)
    flags := s.hem.flags ||| (if k = 0 then 0x8 else 0x10) } := almSet_hem ..

/-- Hem without its flags and the alarms. -/
def Hem.timing (h : Hem) : Hem := { h with flags := 0, alarms := Vector.replicate 2 {} }

theorem Hem.getTiming {α : Type} {c d : Hem} (h : c.timing = d.timing) (f : Hem → α) (hf : ∀ c : Hem, f c.timing = f c) : f c = f d := by
  rw [← hf c, h, hf]

theorem hemSet_timing (m : BitVec 16) (s : State) : (hemSet m s).hem.timing = s.hem.timing := by rw [hemSet_hem]; rfl

theorem fireAlarm_timing (k : Fin 2) (s : State) : (fireAlarm k s).hem.timing = s.hem.timing := by rw [fireAlarm_hem]; rfl

theorem wrapOver_timing (n : Nat) (s : State) : (wrapOver n s).hem.timing = s.hem.timing := by
  unfold wrapOver
  split
  · exact hemSet_timing ..
  · rfl

theorem stepCount_timing (d : Int) (s : State) : (stepCount d s).hem.timing = (s.hem.shift d).timing := by
  unfold stepCount
  extract_lets hits h s1 s2 s3
  have h1 : s1.hem.timing = h.timing := wrapOver_timing ..
  have h2 : s2.hem.timing = s1.hem.timing := by
    by_cases hh : hits 0 = true
    · rw [show s2 = fireAlarm 0 s1 from if_pos hh, fireAlarm_timing]
    · rw [show s2 = s1 from if_neg hh]
  have h3 : s3.hem.timing = s2.hem.timing := by
    by_cases hh : hits 1 = true
    · rw [show s3 = fireAlarm 1 s2 from if_pos hh, fireAlarm_timing]
    · rw [show s3 = s2 from if_neg hh]
  split
  · rw [hemSet_timing, h3, h2, h1]
  · rw [h3, h2, h1]

/-- A step by the phase leaves a whole second (R347). -/
theorem shift_phase (h : Hem) : (h.shift (-h.phase)).count % 65536 = 0 := by
  have hp : (h.count : Int) - h.phase = (h.count : Int) - h.count % 65536 ∨ (h.count : Int) - h.phase = (h.count : Int) - h.count % 65536 + 65536 := by
    unfold Hem.phase ofCode
    split <;> omega
  have hc : (h.shift (-h.phase)).count = (((h.count : Int) + -h.phase) % 18446744073709551616).toNat := rfl
  rw [hc]
  omega

/-- A PPS edge too far from the second steps the count, and says so (R347). -/
theorem ppsStepNow_hem (s : State) : (ppsStepNow s).hem.timing = (s.hem.shift (-s.hem.phase)).timing ∧ (ppsStepNow s).hem.flags.getLsbD 6 = true := by
  refine ⟨(hemSet_timing ..).trans (stepCount_timing ..), ?_⟩
  rw [show ppsStepNow s = hemSet 0x40 (stepCount (-s.hem.phase) s) from rfl, hemSet_hem]
  rw [BitVec.getLsbD_or]
  exact Bool.or_true _

/-! ## PPS edges -/

/-- The state in which a PPS edge is judged: PPS is present. -/
def ppsSeen (s : State) : State := { s with hem := { s.hem with ppsAbsent := false } }

theorem ppsEdge_accepted (s : State) : exec (.ppsEdge true) s = .next (acceptEdge (ppsSeen s)) := rfl

theorem acceptEdge_elsewhere (s : State) : Elsewhere s (acceptEdge s) :=
  ⟨acceptEdge_cells .., acceptEdge_rails .., acceptEdge_dom .., acceptEdge_crease ..⟩

theorem acceptEdge_unheld (hn : s.hem.heldSet = none) : acceptEdge s = (match s.hem.disc with
    | .off => s
    | .acquire => acquireEdge s
    | .tracking => trackEdge s
    | .holdover => acquireEdge (setDisc .acquire s)) := by
  unfold acceptEdge
  split
  case h_1 n h => exact nomatch hn.symm.trans h
  case h_2 => rfl

/-- A held set is applied at the edge (R335). -/
theorem acceptEdge_held {n : Nat} (h : s.hem.heldSet = some n) : (acceptEdge s).hem.count = n / 65536 * 65536 ∧ (acceptEdge s).hem.heldSet = none ∧
    (acceptEdge s).hem.suspect = false ∧ (acceptEdge s).hem.ppsAbsent = s.hem.ppsAbsent := by
  have hd : acceptEdge s = pulse 515 (applyRtc (n / 65536 * 65536) (if s.hem.disc = .holdover then setDisc .acquire s else s)) := by
    unfold acceptEdge
    rw [h]
  obtain ⟨e, v, a, ha⟩ := applyRtc_hem (n / 65536 * 65536) (if s.hem.disc = .holdover then setDisc .acquire s else s)
  have hp : (if s.hem.disc = .holdover then setDisc .acquire s else s).hem.ppsAbsent = s.hem.ppsAbsent := by
    split
    · rw [setDisc_hem]
    · rfl
  rw [hd, pulse_hem, ha]
  exact ⟨rfl, rfl, rfl, hp⟩

/-- In TRACKING an edge too far away steps the count (R347). -/
theorem trackEdge_steps (hm : s.hem.mustStep = true) : (trackEdge s).hem.count % 65536 = 0 ∧ (trackEdge s).hem.flags.getLsbD 6 = true ∧
    (trackEdge s).hem.disc = s.hem.disc := by
  have ht : trackEdge s = { ppsStepNow s with hem := { (ppsStepNow s).hem with
      eStart := 0, n := 0, eStartDue := false, discV := (ppsStepNow s).hem.discF } } := if_pos hm
  obtain ⟨h1, h2⟩ := ppsStepNow_hem s
  have hc : (ppsStepNow s).hem.count = (s.hem.shift (-s.hem.phase)).count := Hem.getTiming h1 Hem.count (fun _ => rfl)
  have hd : (ppsStepNow s).hem.disc = s.hem.disc := Hem.getTiming h1 Hem.disc (fun _ => rfl)
  rw [ht]
  refine ⟨?_, h2, hd⟩
  exact (congrArg (· % 65536) hc).trans (shift_phase s.hem)

theorem ppsEdge_steps (hn : s.hem.heldSet = none) (hd : s.hem.disc = .tracking) (hm : s.hem.ppsStep * 65536 ≤ s.hem.phase.natAbs * 1000000) :
    ∃ t, exec (.ppsEdge true) s = .next t ∧ Elsewhere s t ∧ t.hem.count % 65536 = 0 ∧ t.hem.flags.getLsbD 6 = true ∧ t.hem.disc = .tracking := by
  have ha : acceptEdge (ppsSeen s) = trackEdge (ppsSeen s) := by
    rw [acceptEdge_unheld (s := ppsSeen s) hn, show (ppsSeen s).hem.disc = .tracking from hd]
  obtain ⟨h1, h2, h3⟩ := trackEdge_steps (s := ppsSeen s) (decide_eq_true hm)
  refine ⟨_, ppsEdge_accepted s, acceptEdge_elsewhere (ppsSeen s), ?_⟩
  rw [ha]
  exact ⟨h1, h2, h3.trans hd⟩

theorem ppsEdge_acquires (hn : s.hem.heldSet = none) (hd : s.hem.disc = .acquire) (he : s.hem.edges + 1 < s.hem.ppsQual) :
    exec (.ppsEdge true) s = .next { s with hem := { s.hem with ppsAbsent := false, edges := s.hem.edges + 1 } } := by
  rw [ppsEdge_accepted, acceptEdge_unheld (s := ppsSeen s) hn, show (ppsSeen s).hem.disc = .acquire from hd]
  exact congrArg Host.Outcome.next (if_pos he)

/-- An edge out of range is noted, and an acquisition begins anew (R345). -/
theorem ppsEdge_out (s : State) : ∃ t, exec (.ppsEdge false) s = .next t ∧ Elsewhere s t ∧ t.land.flags = s.land.flags ||| 0x8000 ∧
    t.hem.count = s.hem.count ∧ t.hem.edges = if s.hem.disc = .acquire then 0 else s.hem.edges := by
  have hs : Elsewhere s (landSet 0x8000 (ppsSeen s)) := ⟨landSet_cells .., landSet_rails .., landSet_dom .., landSet_crease ..⟩
  have hl : (landSet 0x8000 (ppsSeen s)).land.flags = s.land.flags ||| 0x8000 := by rw [landSet_land]; rfl
  have hh : (landSet 0x8000 (ppsSeen s)).hem = (ppsSeen s).hem := landSet_hem ..
  have hc : (landSet 0x8000 (ppsSeen s)).hem.count = s.hem.count := (congrArg Hem.count hh :)
  have he : (landSet 0x8000 (ppsSeen s)).hem.edges = s.hem.edges := (congrArg Hem.edges hh :)
  by_cases hd : s.hem.disc = .acquire
  · refine ⟨{ landSet 0x8000 (ppsSeen s) with hem := { (landSet 0x8000 (ppsSeen s)).hem with edges := 0 } },
      congrArg Host.Outcome.next (if_pos hd), hs, hl, hc, (if_pos hd).symm⟩
  · refine ⟨landSet 0x8000 (ppsSeen s), congrArg Host.Outcome.next (if_neg hd), hs, hl, hc, he.trans (if_neg hd).symm⟩

/-- The state in which PPS is found absent, the held set given up (R335, R346). -/
def ppsLost (s : State) : State :=
  pulseIf s.hem.heldSet.isSome 516 { s with hem := { s.hem with ppsAbsent := true, heldSet := none } }

theorem ppsLost_hem (s : State) : (ppsLost s).hem = { s.hem with ppsAbsent := true, heldSet := none } := pulseIf_hem ..

theorem ppsLost_elsewhere (s : State) : Elsewhere s (ppsLost s) := ⟨pulseIf_cells .., pulseIf_rails .., pulseIf_dom .., pulseIf_crease ..⟩

theorem setDisc_elsewhere (d : DiscSt) (s : State) : Elsewhere s (setDisc d s) :=
  ⟨setDisc_cells .., setDisc_rails .., setDisc_dom .., setDisc_crease ..⟩

theorem ppsAbsent_completes (s : State) : ∃ t, exec .ppsAbsent s = .next t ∧ Elsewhere s t ∧ t.hem.ppsAbsent = true ∧ t.hem.heldSet = none ∧
    t.hem.count = s.hem.count ∧ t.hem.disc = if s.hem.disc = .tracking then .holdover else s.hem.disc := by
  have hx : exec .ppsAbsent s = .next (match s.hem.disc with
      | .tracking => setDisc .holdover (ppsLost s)
      | .acquire => { ppsLost s with hem := { (ppsLost s).hem with edges := 0 } }
      | _ => ppsLost s) := rfl
  have hh := ppsLost_hem s
  have he := ppsLost_elsewhere s
  generalize ppsLost s = u at hx hh he
  refine ⟨_, hx, ?_⟩
  cases hd : s.hem.disc <;> dsimp only
  case tracking =>
    rw [setDisc_hem, hh]
    exact ⟨he.trans (setDisc_elsewhere ..), rfl, rfl, rfl, rfl⟩
  case acquire =>
    rw [hh]
    exact ⟨he, rfl, rfl, rfl, hd⟩
  all_goals
    rw [hh]
    exact ⟨he, rfl, rfl, rfl, hd⟩

/-! ## Alarms, the periodic wake and the calendar -/

theorem alarmFire_stays {k : Fin 2} (h : s.hem.alarms[k].due s.hem.calendar s.hem.count = false) : exec (.alarmFire k) s = .next s :=
  congrArg Host.Outcome.next (if_neg (by rw [h]; exact Bool.false_ne_true))

theorem due_disabled {a : Alarm} (h : a.enable = false) (cal : Bool) (n : Nat) : a.due cal n = false := by
  unfold Alarm.due
  rw [h]
  rfl

theorem due_early {a : Alarm} {n : Nat} (h : n < leNat a.time) : a.due false n = false := by
  have hn : decide (a.at ≤ n) = false := decide_eq_false (Nat.not_le.mpr h)
  unfold Alarm.due
  rw [if_neg Bool.false_ne_true, hn, Bool.and_false, Bool.false_and]

theorem due_reached {a : Alarm} {n : Nat} (he : a.enable = true) (hs : a.skipped = false) (hf : a.firedAt = none) (h : leNat a.time ≤ n) :
    a.due false n = true := by
  have hn : decide (a.at ≤ n) = true := decide_eq_true h
  unfold Alarm.due
  rw [if_neg Bool.false_ne_true, he, hs, hf, hn]
  rfl

theorem fire_enable (a : Alarm) (n : Nat) (he : a.enable = true) : (a.repeats = 0 → (a.fire false n).enable = false) ∧
    (a.repeats ≠ 0 → (a.fire false n).enable = true) := by
  unfold Alarm.fire
  dsimp only
  rw [if_neg Bool.false_ne_true]
  refine ⟨fun h => by rw [if_pos h], fun h => ?_⟩
  rw [if_neg h]
  unfold Alarm.advance
  dsimp only
  split <;> exact he

theorem alarmBit (k : Fin 2) : (if k = 0 then 0x8 else 0x10 : BitVec 16).getLsbD (3 + k.val) = true := by
  decide +revert

theorem alarmFire_fires {k : Fin 2} (hc : s.hem.calendar = false) (he : s.hem.alarms[k].enable = true) (hs : s.hem.alarms[k].skipped = false)
    (hf : s.hem.alarms[k].firedAt = none) (ht : leNat s.hem.alarms[k].time ≤ s.hem.count) : ∃ t, exec (.alarmFire k) s = .next t ∧ Elsewhere s t ∧
      t.hem.flags.getLsbD (3 + k.val) = true ∧ t.hem.count = s.hem.count ∧ (s.hem.alarms[k].repeats = 0 → t.hem.alarms[k].enable = false) ∧
      (s.hem.alarms[k].repeats ≠ 0 → t.hem.alarms[k].enable = true) ∧ ∀ j : Fin 2, j ≠ k → t.hem.alarms[j] = s.hem.alarms[j] := by
  have hh := fireAlarm_hem k s
  rw [hc] at hh
  have hx : exec (.alarmFire k) s = .next (fireAlarm k s) := congrArg Host.Outcome.next (if_pos (by
    rw [hc]
    exact due_reached he hs hf ht))
  have hel : Elsewhere s (fireAlarm k s) := ⟨fireAlarm_cells .., fireAlarm_rails .., fireAlarm_dom .., fireAlarm_crease ..⟩
  generalize fireAlarm k s = t at hh hx hel
  have ha : t.hem.alarms = upd s.hem.alarms k (s.hem.alarms[k].fire false s.hem.count) := congrArg Hem.alarms hh
  have hself : t.hem.alarms[k] = s.hem.alarms[k].fire false s.hem.count := by
    rw [ha]
    exact upd_self ..
  obtain ⟨h0, h1⟩ := fire_enable s.hem.alarms[k] s.hem.count he
  have hct : t.hem.count = s.hem.count := (congrArg Hem.count hh :)
  have hf : t.hem.flags = s.hem.flags ||| (if k = 0 then 0x8 else 0x10) := (congrArg Hem.flags hh :)
  refine ⟨t, hx, hel, ?_, hct, fun hr => ?_, fun hr => ?_, fun j hj => ?_⟩
  · rw [hf, BitVec.getLsbD_or, alarmBit, Bool.or_true]
  · rw [hself]
    exact h0 hr
  · rw [hself]
    exact h1 hr
  · rw [ha]
    exact upd_other _ _ _ _ (Ne.symm hj)

/-- A wake recorded is not replaced (R470). -/
theorem wakeReq_keeps {x : WakeSource} (w : WakeSource) (h : s.pwr.wake = some x) : (wakeReq w s).pwr.wake = some x := by
  unfold wakeReq
  split
  · exact h
  · exact (if_neg (fun hn => by rw [h] at hn; exact nomatch hn.2)).trans h

theorem eventWake_keeps {x : WakeSource} (e : Fin 1024) (b : Bool) (h : s.pwr.wake = some x) : (eventWake e b s).pwr.wake = some x := by
  unfold eventWake
  split
  · split
    · exact wakeReq_keeps _ h
    · exact h
  · exact h

theorem pulse_keeps_wake {x : WakeSource} (e : Fin 1024) (h : s.pwr.wake = some x) : (pulse e s).pwr.wake = some x := by
  unfold pulse
  split
  · unfold evChange
    exact eventWake_keeps _ _ (eventWake_keeps _ _ h)
  · exact h

/-- A wake asked for in HIBERNATE is recorded where none is (R470). -/
theorem wakeReq_wakes (w : WakeSource) (ho : s.off = false) (hst : s.pwr.st = .hibernate) (hw : s.pwr.wake = none) :
    (wakeReq w s).pwr.wake = some w := by
  unfold wakeReq
  rw [if_neg (by rw [ho]; exact Bool.false_ne_true)]
  exact if_pos ⟨.inl hst, hw⟩

theorem periodicWake_wakes (hp : s.hem.periodic ≠ 0) (ho : s.off = false) : ∃ t, exec .periodicWake s = .next t ∧
    t = { s with router := t.router, seam := t.seam, pwr := t.pwr, clk := t.clk } ∧
    (s.pwr.st = .hibernate → s.pwr.wake = none → t.pwr.wake = some .periodic) := by
  refine ⟨pulse 514 (wakeReq .periodic s), ?_, ?_, fun hst hw => pulse_keeps_wake _ (wakeReq_wakes _ ho hst hw)⟩
  · exact congrArg Host.Outcome.next (if_neg (fun hn => hn.elim hp (fun h => Bool.false_ne_true (ho.symm.trans h))))
  · have h1 := pulse_only 514 (wakeReq .periodic s)
    have h2 := wakeReq_only .periodic s
    generalize pulse 514 (wakeReq .periodic s) = t at h1
    rw [h2] at h1
    exact h1

/-! ## Hem's supply -/

theorem pulse_lost (e : Fin 1024) (h : s.pwr.lost = true) : pulse e s = s := by
  have hl : lineLive s e.val = false := by
    unfold lineLive
    rw [h]
    rfl
  unfold pulse
  rw [hl, Bool.and_false]
  exact if_neg Bool.false_ne_true

theorem pulseIf_lost (c : Bool) (e : Fin 1024) (h : s.pwr.lost = true) : pulseIf c e s = s := by
  cases c
  · rfl
  · exact pulse_lost e h

theorem setLine_lost (e : Fin 1024) (b : Bool) (h : s.pwr.lost = true) : setLine e b s = s :=
  if_pos (by
    unfold lineLive
    rw [h]
    rfl)

/-- A module without an address sends no notice (R426). -/
theorem notify_unaddressed {x : Seam} (h : x.addr = none) (l : List (Nat × List Byte)) : x.notify l = x := by
  unfold Seam.notify
  induction l with
  | nil => rfl
  | cons n l ih =>
    rw [List.foldl_cons, show x.originate 3 0 n.1 0 n.2 none none = x by
      unfold Seam.originate
      rw [h]]
    exact ih

theorem evChange_unaddressed (f : Ev → Ev) (k : Ev → Bool) (e : Fin 1024) (h : s.seam.addr = none) : (evChange f k e s).seam.addr = none := by
  unfold evChange
  dsimp only
  rw [eventWake_seam, eventWake_seam]
  unfold settle
  dsimp only
  split
  · rw [notify_unaddressed h]
    exact h
  · exact h

theorem setLine_unaddressed (e : Fin 1024) (b : Bool) (h : s.seam.addr = none) : (setLine e b s).seam.addr = none := by
  unfold setLine
  split
  · exact h
  · split
    · exact evChange_unaddressed _ _ _ h
    · exact h

theorem pulseIf_unaddressed (c : Bool) (e : Fin 1024) (h : s.seam.addr = none) : (pulseIf c e s).seam.addr = none := by
  unfold pulseIf pulse
  split
  · split
    · exact evChange_unaddressed _ _ _ h
    · exact h
  · exact h

theorem stopManager_stopped (s : State) : (stopManager s).proto.running = false := by
  have h : (discardCommands (cutShort s)).proto.running = false := rfl
  unfold stopManager
  extract_lets u _ v
  have hv : v.proto.running = false := by
    by_cases hb : u.map.probe = .running
    · rw [show v = _ from if_pos hb, recheckActive_proto]
      exact h
    · rw [show v = u from if_neg hb]
      exact h
  clear_value v
  dsimp only
  split <;> exact hv

/-- Hem, the port and the link as Hem's supply finds them, of the state `u` (R356). -/
def hemReset (s u : State) : State := { u with
  hem := { ticks := s.hem.ticks, wdStart := s.hem.ticks, flags := s.hem.flags &&& 0x0002 }
  dom := { u.dom with vinMem := false, restartDue := false }
  hp := { u.hp with ctl := 7, tScl := 0x19, tSda := 0x19 }
  seam := { u.seam with addr := none, addrNext := none, seq := leNat (uniqueId s) % 65536 } }

/-- The lines that Hem's supply takes back (R356). -/
def hemLines (s : State) : State := setLine 513 false (setLine 512 false (setLine 518 true (hemSet 0x2 s)))

theorem hemPor_eq (s : State) : exec .hemPor s = .next (hemLines (hemReset s (if s.onAux then s else losePower (stopManager s)))) := rfl

theorem hemLines_hem (s : State) : (hemLines s).hem = { s.hem with flags := s.hem.flags ||| 0x2 } := by
  unfold hemLines
  rw [setLine_hem, setLine_hem, setLine_hem, hemSet_hem]

theorem hemLines_unaddressed (h : s.seam.addr = none) : (hemLines s).seam.addr = none :=
  setLine_unaddressed _ _ (setLine_unaddressed _ _ (setLine_unaddressed _ _ (pulseIf_unaddressed _ _ h)))

/-- Without power no line of Hem acts (R467). -/
theorem hemLines_lost (h : s.pwr.lost = true) : hemLines s = { s with hem := { s.hem with flags := s.hem.flags ||| 0x2 } } := by
  have hs : hemSet 0x2 s = { s with hem := { s.hem with flags := s.hem.flags ||| 0x2 } } := pulseIf_lost _ _ h
  unfold hemLines
  rw [hs]
  generalize hu : ({ s with hem := { s.hem with flags := s.hem.flags ||| 0x2 } } : State) = u
  have hl : u.pwr.lost = true := by
    subst hu
    exact h
  rw [setLine_lost _ _ hl, setLine_lost _ _ hl, setLine_lost _ _ hl]

theorem onlyCorrupt (b : BitVec 16) : b &&& 0x2 ||| 0x2 = 0x2 := by
  refine BitVec.eq_of_getLsbD_eq fun i _ => ?_
  rw [BitVec.getLsbD_or, BitVec.getLsbD_and]
  cases BitVec.getLsbD 0x2#16 i
  · rw [Bool.and_false, Bool.or_false]
  · exact Bool.or_true _

theorem hemPor_resets (s : State) : ∃ t, exec .hemPor s = .next t ∧ t.hem = { ticks := s.hem.ticks, wdStart := s.hem.ticks, flags := 2 } ∧
    t.dom.vinMem = false ∧ t.dom.restartDue = false ∧ t.hp.ctl = 7 ∧ t.hp.tScl = 0x19 ∧ t.hp.tSda = 0x19 ∧ t.seam.addr = none ∧
    (s.onAux = false → t.pwr.lost = true ∧ t.proto.running = false ∧ t.seam.seq = leNat (uniqueId s) % 65536) ∧
    (s.onAux = true → t.pwr.lost = s.pwr.lost ∧ t.pwr.st = s.pwr.st ∧ t.proto = s.proto) ∧ t.cells = s.cells ∧ t.rails = s.rails := by
  have hx := hemPor_eq s
  have hr : ∀ u : State, (hemLines (hemReset s u)).hem = { ticks := s.hem.ticks, wdStart := s.hem.ticks, flags := 2 } := fun u => by
    rw [hemLines_hem]
    exact congrArg (fun b => ({ ticks := s.hem.ticks, wdStart := s.hem.ticks, flags := b } : Hem)) (onlyCorrupt s.hem.flags)
  by_cases ha : s.onAux = true
  · rw [if_pos ha] at hx
    have hp : (hemLines (hemReset s s)).pwr.core = s.pwr.core := by
      unfold hemLines
      rw [setLine_pwrcore, setLine_pwrcore, setLine_pwrcore, hemSet_pwrcore]
      rfl
    have hc : (hemLines (hemReset s s)).cells = s.cells ∧ (hemLines (hemReset s s)).rails = s.rails ∧
        (hemLines (hemReset s s)).proto = s.proto ∧ (hemLines (hemReset s s)).dom = (hemReset s s).dom ∧
        (hemLines (hemReset s s)).hp = (hemReset s s).hp := by
      unfold hemLines
      simp only [setLine_cells, setLine_rails, setLine_proto, setLine_dom, setLine_hp, hemSet_cells, hemSet_rails, hemSet_proto, hemSet_dom, hemSet_hp]
      exact ⟨rfl, rfl, rfl, trivial, trivial⟩
    obtain ⟨hcells, hrails, hproto, hdom, hhp⟩ := hc
    refine ⟨_, hx, hr s, ?_, ?_, ?_, ?_, ?_, hemLines_unaddressed rfl, fun h => absurd (h.symm.trans ha) Bool.false_ne_true,
      fun _ => ⟨Pwr.get hp Pwr.lost (fun _ => rfl), Pwr.get hp Pwr.st (fun _ => rfl), hproto⟩, hcells, hrails⟩
    · rw [hdom]; rfl
    · rw [hdom]; rfl
    · rw [hhp]; rfl
    · rw [hhp]; rfl
    · rw [hhp]; rfl
  · rw [if_neg ha] at hx
    have hh := hr (losePower (stopManager s))
    have hlines := hemLines_lost (s := hemReset s (losePower (stopManager s))) rfl
    generalize hemLines (hemReset s (losePower (stopManager s))) = t at hx hh hlines
    refine ⟨t, hx, hh, ?_⟩
    subst hlines
    refine ⟨rfl, rfl, rfl, rfl, rfl, rfl, fun _ => ⟨rfl, ?_, rfl⟩, fun h => absurd h ha, ?_, ?_⟩
    · exact stopManager_stopped s
    · exact (losePower_cells _).trans (stopManager_cells s)
    · exact (losePower_rails _).trans (stopManager_rails s)

/-- Settles O43: the commands write the count, its form, the alarms, the backup memory and the discipline, and PPS edges, alarms and Hem's
supply act by their rules. -/
theorem timeIsKeptAndSet : Obligations.TimeIsKeptAndSet := by
  intro q s
  have hh : (arrived q s).hem = s.hem := arrived_hem ..
  have hempty : ∀ {op}, Ready op q s → (arrived q s).proto.waiting = [] := fun hr => by rw [arrived_proto]; exact hr.empty
  refine ⟨fun hr hl => ⟨fun h => ?_, fun hn hc hb => ?_, fun n hn hc => ⟨fun hb => ?_, fun hb => rtcSet_applies hr hl hn (countOf_of_form hc) hb⟩⟩,
    fun hr hl => ?_, fun k hr hl hk => ?_, fun hr hl => ?_, fun hr hl h1 h2 h3 => ?_, fun hr hl => ppsConfig_takes hr hl, fun hd hn => ?_,
    fun n hn => ?_, fun hn hd he => ppsEdge_acquires hn hd he, fun hn hd hm => ppsEdge_steps hn hd hm, ppsEdge_out s, ppsAbsent_completes s,
    fun k => ⟨fun h => alarmFire_stays (due_disabled h ..), fun hc h => alarmFire_stays (by rw [hc]; exact due_early h),
      fun hc he hs hf ht => alarmFire_fires hc he hs hf ht⟩, fun h => congrArg Host.Outcome.next (if_pos h), fun hp ho => periodicWake_wakes hp ho,
    fun h => ?_, fun hc hs hz => ?_, ?_, ?_, fun low => rfl⟩
  case refine_1 =>
    exact completes_of_reply (o := rtcSetOp) (t := arrived q s) rfl hr (fixed_paramCheck (n := 9) (by decide) (by decide) rfl hl rfl)
      (rtcSetOp_held (by rw [hh]; exact h)) (hempty hr) rfl
  case refine_2 =>
    refine completes_of_reply (o := rtcSetOp) (t := arrived q s) rfl hr (fixed_paramCheck (n := 9) (by decide) (by decide) rfl hl rfl) ?_
      (hempty hr) rfl
    rw [rtcSetOp_count (by rw [hh]; exact hn), hh, hc, show countOf true (q.params.take 8) = none from hb]
    rfl
  case refine_3 =>
    refine completes_of_reply (o := rtcSetOp) (t := { arrived q s with hem := { s.hem with heldSet := some n } }) rfl hr
      (fixed_paramCheck (n := 9) (by decide) (by decide) rfl hl rfl) ?_ (hempty hr) rfl
    rw [rtcSetOp_count (by rw [hh]; exact hn), hh, countOf_of_form hc]
    dsimp only
    rw [if_pos hb]
  case refine_4 =>
    have hp := fixed_paramCheck (o := rtcModeOp) (p := q.params) (n := 1) (by decide) (by decide) rfl hl rfl
    by_cases hm : s.hem.calendar = decide (byteAt q.params 0 = 1)
    · refine completes_of_reply (o := rtcModeOp) (t := arrived q s) rfl hr hp ?_ (hempty hr) ⟨fun _ => rfl, fun h => absurd hm h⟩
      rw [rtcModeOp_run, if_pos (by rw [hh]; exact hm.symm)]
      rfl
    · refine completes_of_reply (o := rtcModeOp) (t := { arrived q s with hem := { s.hem with
        calendar := decide (byteAt q.params 0 = 1), alarms := s.hem.alarms.map (fun a => { a with enable := false }) } }) rfl hr hp ?_ (hempty hr)
        ⟨fun h => absurd h hm, fun _ => ⟨rfl, fun k => Vector.getElem_map ..⟩⟩
      rw [rtcModeOp_run, hh, if_neg (fun h => hm h.symm)]
      rfl
  case refine_5 =>
    refine completes_of_reply (o := alarmSetOp) rfl hr (alarmSetOp_paramCheck hl hk) (alarmSetOp_run hk) (hempty hr) ?_
    rw [hh]
  case refine_6 =>
    refine completes_of_reply (o := periodicSetOp) (t := { arrived q s with hem := { s.hem with periodic := min (fieldAt q.params 0 4) 5529600 } })
      rfl hr (fixed_paramCheck (n := 4) (by decide) (by decide) rfl hl rfl) ?_ (hempty hr) rfl
    rw [← hh]
    exact congrArg (fun st => (_, Ans.reply st [])) (if_congr decide_eq_true_iff rfl rfl)
  case refine_7 =>
    refine completes_of_reply (o := backupWriteOp) (t := { arrived q s with hem := { s.hem with
      backup := backupWritten q s.hem.backup, check := byte (crc8 (backupWritten q s.hem.backup).toList) } }) rfl hr
      (backupWriteOp_paramCheck hl h1 h2 h3) ?_ (hempty hr) ⟨rfl, fun k => mapIdx_get ..⟩
    rw [← hh]
    rfl
  case refine_8 =>
    rw [ppsEdge_accepted, acceptEdge_unheld (s := ppsSeen s) hn, show (ppsSeen s).hem.disc = .off from hd]
    rfl
  case refine_9 =>
    obtain ⟨hc, hs, hu, ha⟩ := acceptEdge_held (s := ppsSeen s) hn
    exact ⟨_, ppsEdge_accepted s, acceptEdge_elsewhere (ppsSeen s), hc, hs, hu, ha⟩
  case refine_10 =>
    refine congrArg Host.Outcome.next (if_neg fun hn => ?_)
    obtain ⟨hc, hs, hz⟩ := hn
    exact h.elim (fun h => Bool.false_ne_true (h.symm.trans hc)) fun h => h.elim (fun h => Nat.not_le.mpr h hs) fun h => h hz
  case refine_11 =>
    exact ⟨hemSet 0x80 s, congrArg Host.Outcome.next (if_pos ⟨hc, hs, hz⟩), ⟨hemSet_cells .., hemSet_rails .., hemSet_dom .., hemSet_crease ..⟩,
      hemSet_hem ..⟩
  case refine_12 =>
    refine ⟨_, rfl, ⟨(checkBackup_cells _).trans (setLine_cells ..), (checkBackup_rails _).trans (setLine_rails ..),
      (checkBackup_dom _).trans (setLine_dom ..), (checkBackup_crease _).trans (setLine_crease ..)⟩, ?_⟩
    unfold checkBackup
    rw [setLine_hem]
    rfl
  case refine_13 =>
    obtain ⟨t, hx, hem, hrest⟩ := hemPor_resets s
    exact ⟨t, hx, hem, by rw [hem], by rw [hem], by rw [hem], hrest⟩

end Sys2Proof.Machine
end

section
/-! PROOF. O44: the watchdog (R350-R355). -/

namespace Sys2Proof.Machine

variable {s t : State} {q : Req}

/-! ## WDOG_CONFIG and ROLLCALL_CONFIG -/

theorem wdLocked_iff (h : Hem) : h.wdLocked = true ↔ h.wd.enable = true ∧ h.wd.lock = true := Bool.and_eq_true_iff

theorem not_wdLocked {h : Hem} (hn : h.wd.enable = false ∨ h.wd.lock = false) : ¬ h.wdLocked = true := fun hl => by
  obtain ⟨he, hk⟩ := (wdLocked_iff h).mp hl
  exact hn.elim (fun hf => Bool.false_ne_true (hf.symm.trans he)) fun hf => Bool.false_ne_true (hf.symm.trans hk)

/-- The watchdog a record asks for, its times held to their ranges (R350). -/
def wdogAsked (p : List Byte) (mask : BitVec 16) : WdogCfg :=
  { t := clampNat 328 1966080 (fieldAt p 0 4)
    c := min (fieldAt p 4 4) (clampNat 328 1966080 (fieldAt p 0 4) - 4)
    wdoMs := clampNat 1 1000 (fieldAt p 8 2), enable := natBit (byteAt p 10) 0, lock := natBit (byteAt p 10) 1, mask := mask }

theorem wdogOf_status (p : List Byte) (mask : BitVec 16) : (if (wdogOf p mask).2 then Status.doneWithNote else .done) =
    if (wdogAsked p mask).t = fieldAt p 0 4 ∧ (wdogAsked p mask).c = fieldAt p 4 4 ∧ (wdogAsked p mask).wdoMs = fieldAt p 8 2
    then .done else .doneWithNote := by
  have h2 : (wdogOf p mask).2 = (decide ((wdogAsked p mask).t ≠ fieldAt p 0 4) || decide ((wdogAsked p mask).c ≠ fieldAt p 4 4) ||
    decide ((wdogAsked p mask).wdoMs ≠ fieldAt p 8 2)) := rfl
  rw [h2]
  by_cases ht : (wdogAsked p mask).t = fieldAt p 0 4
  · by_cases hc : (wdogAsked p mask).c = fieldAt p 4 4
    · by_cases hw : (wdogAsked p mask).wdoMs = fieldAt p 8 2
      · simp [ht, hc, hw]
      · simp [hw]
    · simp [hc]
  · simp [ht]

theorem wdogConfigOp_locked (h : s.hem.wdLocked = true) : wdogConfigOp.run q s = locked s 0 := if_pos h

theorem wdogConfigOp_writes (h : ¬ s.hem.wdLocked = true) : wdogConfigOp.run q s =
    ({ s with hem := s.hem.writeWdog (wdogAsked q.params s.hem.wdLast.mask) },
      .reply (if (wdogOf q.params s.hem.wdLast.mask).2 then Status.doneWithNote else .done) []) := if_neg h

/-- What a configuration does by the watchdog's state (R350). -/
theorem writeWdog_cases (c : WdogCfg) (h : Hem) :
    (h.wdSt = .disabled → c.enable = true →
      h.writeWdog c = { h with wd := c, wdNext := none, wdSt := .first, wdStart := h.ticks + 1, checkins := [] }) ∧
    (h.wdSt = .disabled → c.enable = false → h.writeWdog c = { h with wdNext := some c }) ∧
    (h.wdSt = .pulse → h.writeWdog c = { h with wdNext := some c }) ∧
    (h.wdSt ≠ .disabled → h.wdSt ≠ .pulse → c.enable = true → h.writeWdog c = { h with wdNext := some c }) ∧
    (h.wdSt ≠ .disabled → h.wdSt ≠ .pulse → c.enable = false →
      h.writeWdog c = { h with wd := { h.wd with enable := false }, wdNext := some c, wdSt := .disabled }) := by
  unfold Hem.writeWdog
  dsimp only
  cases hs : h.wdSt with
  | disabled =>
    refine ⟨fun _ he => if_pos he, fun _ he => if_neg (by rw [he]; exact Bool.false_ne_true), ?_, fun hn => absurd rfl hn, fun hn => absurd rfl hn⟩
    exact fun hn => nomatch hn
  | pulse =>
    exact ⟨fun hn => (nomatch hn), fun hn => (nomatch hn), fun _ => rfl, fun _ hn => absurd rfl hn, fun _ hn => absurd rfl hn⟩
  | first | closed | opened =>
    exact ⟨fun hn => (nomatch hn), fun hn => (nomatch hn), fun hn => (nomatch hn), fun _ _ he => if_pos he,
      fun _ _ he => if_neg (by rw [he]; exact Bool.false_ne_true)⟩

/-! ## TASK_CHECKIN -/

theorem checkIn_mem (k : Nat) (h : Hem) : (k, h.ticks) ∈ (h.checkIn k).checkins := List.mem_append_right _ (List.mem_singleton_self _)

theorem checkIn_others (k : Nat) (h : Hem) {x : Nat × Nat} (hx : x.1 ≠ k) : x ∈ (h.checkIn k).checkins ↔ x ∈ h.checkins := by
  have hc : (h.checkIn k).checkins = h.checkins.filter (fun x => decide (x.1 ≠ k)) ++ (h.checkins.filter (fun x => decide (x.1 = k))).take 1 ++
    [(k, h.ticks)] := rfl
  rw [hc, List.mem_append, List.mem_append, List.mem_filter, List.mem_singleton]
  constructor
  · rintro ((⟨hm, -⟩ | hm) | rfl)
    · exact hm
    · exact (List.mem_filter.mp (List.mem_of_mem_take hm)).1
    · exact absurd rfl hx
  · exact fun hm => .inl (.inl ⟨hm, decide_eq_true hx⟩)

theorem taskCheckinOp_run {k : Fin 16} (h : byteAt q.params 0 = k.val) : taskCheckinOp.run q s =
    if s.hem.wd.mask.getLsbD k.val = false then noted s []
    else if s.hem.wdSt = .pulse then done0 s else done0 { s with hem := s.hem.checkIn k.val } := by
  unfold taskCheckinOp
  dsimp only
  rw [h]

theorem byteAt_one {n : Nat} (h : n < 256) : byteAt [byte n] 0 = n := by
  exact Nat.mod_eq_of_lt h

theorem taskCheckinOp_paramCheck {k : Fin 16} (h : q.params = [byte k.val]) : taskCheckinOp.paramCheck 2 q.params = none := by
  have hk : byteAt q.params 0 = k.val := by
    rw [h]
    exact byteAt_one (by omega)
  refine fixed_paramCheck (n := 1) (by decide) (by decide) rfl (by rw [h]; rfl) ?_
  have hok : fieldAt q.params 0 1 ≤ 15 := by
    rw [fieldAt_one]
    omega
  simp [taskCheckinOp, firstBad, hok]

/-! ## A change of WDI -/

theorem wdiChange_moves {level : Bool} (stamp : Nat) (h : level ≠ s.hem.wdi) :
    exec (.wdiChange level stamp) s = .next { s with hem := Hem.judgeWdi stamp { s.hem with wdi := level } } :=
  congrArg Host.Outcome.next (if_neg h)

theorem judgeWdi_rest {stamp : Nat} {h : Hem} (hs : h.wdSt = .disabled ∨ h.wdSt = .pulse) : h.judgeWdi stamp = h := by
  unfold Hem.judgeWdi
  obtain hs | hs := hs <;> rw [hs]

theorem judgeWdi_first {stamp : Nat} {h : Hem} (hs : h.wdSt = .first) : h.judgeWdi stamp =
    if h.wdStart ≤ stamp ∧ stamp < h.wdEnd ∧ h.rollOk stamp then h.service stamp else h := by
  unfold Hem.judgeWdi
  rw [hs]

theorem judgeWdi_window {stamp : Nat} {h : Hem} (hs : h.wdSt = .closed ∨ h.wdSt = .opened) : h.judgeWdi stamp =
    if stamp < h.wdStart + h.wd.c then h.expire
    else if stamp < h.wdStart + h.wd.t ∧ h.rollOk stamp then h.service stamp
    else h := by
  have he : h.wdEnd = h.wdStart + h.wd.t := by
    unfold Hem.wdEnd
    obtain hs | hs := hs <;> rw [hs] <;> rfl
  unfold Hem.judgeWdi
  rw [he]
  obtain hs | hs := hs <;> rw [hs]

/-- Settles O44: a configuration, a check-in and a change of WDI act by the watchdog's state, and its windows and its pulse end by the ticks. -/
theorem watchdogServicesAndPulses : Obligations.WatchdogServicesAndPulses := by
  intro q s
  have hh : (arrived q s).hem = s.hem := arrived_hem ..
  have hempty : ∀ {op}, Ready op q s → (arrived q s).proto.waiting = [] := fun hr => by rw [arrived_proto]; exact hr.empty
  refine ⟨fun hr hl => ⟨fun he hk => ?_, fun c hn hc => ?_⟩, fun hr hl => ⟨fun he hk => ?_, fun hn => ?_⟩,
    fun k hr hp => ⟨fun hm => ?_, fun hm hs => ?_, fun hm hs => ?_⟩,
    fun level stamp => ⟨fun h => congrArg Host.Outcome.next (if_pos h), fun h => ⟨fun hs => ?_, fun hs hc => ?_, fun hs hc hw => ?_, fun hk hw => ?_⟩⟩,
    rfl, ?_, fun h => congrArg Host.Outcome.next (if_pos h), fun hs ht => ?_⟩
  case refine_1 =>
    exact completes_of_reply (o := wdogConfigOp) (t := arrived q s) rfl hr (fixed_paramCheck (n := 12) (by decide) (by decide) rfl hl rfl)
      (wdogConfigOp_locked (by rw [hh]; exact (wdLocked_iff _).mpr ⟨he, hk⟩)) (hempty hr) rfl
  case refine_2 =>
    have hc' : c = wdogAsked q.params s.hem.wdLast.mask := hc
    refine completes_of_reply (o := wdogConfigOp) (t := { arrived q s with hem := s.hem.writeWdog c }) rfl hr
      (fixed_paramCheck (n := 12) (by decide) (by decide) rfl hl rfl) ?_ (hempty hr) ⟨rfl, writeWdog_cases c s.hem⟩
    rw [wdogConfigOp_writes (by rw [hh]; exact not_wdLocked hn), hh, wdogOf_status, hc']
  case refine_3 =>
    exact completes_of_reply (o := rollcallConfigOp) (t := arrived q s) rfl hr (fixed_paramCheck (n := 2) (by decide) (by decide) rfl hl rfl)
      (if_pos (by rw [hh]; exact (wdLocked_iff _).mpr ⟨he, hk⟩)) (hempty hr) rfl
  case refine_4 =>
    refine completes_of_reply (o := rollcallConfigOp) (t := { arrived q s with hem := s.hem.writeMask (BitVec.ofNat 16 (fieldAt q.params 0 2)) }) rfl hr
      (fixed_paramCheck (n := 2) (by decide) (by decide) rfl hl rfl) ?_ (hempty hr) rfl
    rw [← hh]
    exact if_neg (by rw [hh]; exact not_wdLocked hn)
  case refine_5 =>
    refine completes_of_reply (o := taskCheckinOp) (t := arrived q s) rfl hr (taskCheckinOp_paramCheck hp) ?_ (hempty hr) rfl
    rw [taskCheckinOp_run (by rw [hp]; exact byteAt_one (by omega)), if_pos (by rw [hh]; exact hm)]
    rfl
  case refine_6 =>
    refine completes_of_reply (o := taskCheckinOp) (t := arrived q s) rfl hr (taskCheckinOp_paramCheck hp) ?_ (hempty hr) rfl
    rw [taskCheckinOp_run (by rw [hp]; exact byteAt_one (by omega)), if_neg (by rw [hh, hm]; exact Bool.noConfusion), hh, if_pos hs]
    rfl
  case refine_7 =>
    refine completes_of_reply (o := taskCheckinOp) (t := { arrived q s with hem := s.hem.checkIn k.val }) rfl hr (taskCheckinOp_paramCheck hp) ?_
      (hempty hr) ⟨rfl, checkIn_mem k.val s.hem, fun x hx => checkIn_others k.val s.hem hx⟩
    rw [taskCheckinOp_run (by rw [hp]; exact byteAt_one (by omega)), if_neg (by rw [hh, hm]; exact Bool.noConfusion), hh, if_neg hs]
    rfl
  case refine_8 =>
    rw [wdiChange_moves stamp h, judgeWdi_rest (h := { s.hem with wdi := level }) hs]
  case refine_9 =>
    rw [wdiChange_moves stamp h, judgeWdi_window (h := { s.hem with wdi := level }) hs, if_pos hc]
    rfl
  case refine_10 =>
    rw [wdiChange_moves stamp h, judgeWdi_window (h := { s.hem with wdi := level }) hs, if_neg (Nat.not_lt.mpr hc), if_neg]
    exact fun hn => hw.elim (fun hw => Nat.not_lt.mpr hw hn.1) fun hw => Bool.false_ne_true (hw.symm.trans hn.2)
  case refine_11 =>
    rw [wdiChange_moves stamp h]
    obtain ⟨hs, hlo, hhi⟩ | ⟨hs, hlo, hhi⟩ := hw
    · have he : ({ s.hem with wdi := level } : Hem).wdEnd = s.hem.wdStart + 8 * s.hem.wd.t := congrArg (s.hem.wdStart + ·) (if_pos hs)
      rw [judgeWdi_first (h := { s.hem with wdi := level }) hs, if_pos ⟨hlo, he ▸ hhi, hk⟩]
      rfl
    · rw [judgeWdi_window (h := { s.hem with wdi := level }) hs, if_neg (Nat.not_lt.mpr hlo), if_pos ⟨hhi, hk⟩]
      rfl
  case refine_12 =>
    refine congrArg Host.Outcome.next (if_congr ?_ rfl rfl)
    unfold Hem.wdEnd
    by_cases hf : s.hem.wdSt = .first
    · rw [if_pos hf, hf]
      simp
    · rw [if_neg hf]
      simp [hf]
  case refine_13 =>
    refine (congrArg Host.Outcome.next (if_neg fun hn => hn.elim (fun hn => hn hs) fun hn => Nat.not_le.mpr hn ht)).trans ?_
    by_cases he : (s.hem.wdNext.getD s.hem.wd).enable = true
    · exact congrArg Host.Outcome.next ((if_pos he).trans (by rw [if_pos he]; rfl))
    · exact congrArg Host.Outcome.next ((if_neg he).trans (by rw [if_neg he]))

end Sys2Proof.Machine
end

section
/-! PROOF. O45: the two-wire port writes the W1C bits of a cell, but not of a RETIRED one (R213, R397). -/

namespace Sys2Proof.Machine

/-- A RETIRED cell keeps its flags (R213). -/
theorem clearCell_retired {c : Fin 256} {s : State} (m : Nat) (h : s.cells[c].st = .retired) : clearCell c m s = s := if_pos h

/-- A W1C byte for a RETIRED cell is acknowledged and changes no cell. -/
theorem w1cWrite_retired {c : Fin 256} {s : State} (b : Byte) (hw : portWrites s = true) (hp : s.hp.ptr = 0x40C + 16 * c.val)
    (hr : s.cells[c].st = .retired) : exec (.w1cWrite b) s = .next (ackByte s) := by
  have hlt := c.isLt
  have hc : fin256 ((s.hp.ptr - 0x400) / 16) = c := by
    rw [hp, show (0x40C + 16 * c.val - 0x400) / 16 = c.val by omega]
    exact fin256_val c
  have hat : w1cAt s.hp.ptr b s = some s := by
    unfold w1cAt
    rw [if_neg (by omega), if_neg (by omega), if_pos (by omega), hc, clearCell_retired _ hr]
  have hx : exec (.w1cWrite b) s = .next (if portWrites s then
      match w1cAt s.hp.ptr b s with
      | some t => ackByte t
      | none => s
    else s) := rfl
  rw [hx, if_pos hw, hat]

/-- The reset state with cell 0 RETIRED, its saturation flag set, and the port in a transaction that points at its flags. -/
def retiredFlagged : State :=
  { modCell State.reset 0 (fun x => { x with st := .retired, flags := 1 }) with hp := { ptr := 0x40C, txn := true, await := false } }

theorem retiredFlagged_cell : retiredFlagged.cells[(0 : Fin 256)] = { ({} : Cell) with st := .retired, flags := 1 } := by
  have hself := modCell_self State.reset 0 (fun x : Cell => { x with st := .retired, flags := 1 })
  have hreset : State.reset.cells[(0 : Fin 256)] = ({} : Cell) := Vector.getElem_replicate ..
  rw [hreset] at hself
  exact hself

/-- Refutes O45: its clause of the cells' W1C bits does not exclude a RETIRED cell. With cell 0 RETIRED, its flags 0x0001 and the pointer at
0x040C, writing 0x01 leaves the flags 0x0001, where the clause says 0. -/
theorem not_hostPortBytesAreWritten : ¬ Obligations.HostPortBytesAreWritten := by
  intro h
  obtain ⟨-, -, hwrites⟩ := h retiredFlagged
  obtain ⟨-, -, -, -, hbytes⟩ := hwrites rfl rfl rfl rfl
  obtain ⟨-, -, -, -, hcell, -⟩ := hbytes rfl 1
  obtain ⟨t, ht, hflags, -⟩ := hcell 0 0 (by decide) rfl
  have hx := w1cWrite_retired (c := 0) (s := retiredFlagged) 1 rfl rfl (by rw [retiredFlagged_cell])
  obtain rfl : t = ackByte retiredFlagged := Host.Outcome.next.inj (ht.symm.trans hx)
  have hkept : (ackByte retiredFlagged).cells[(0 : Fin 256)] = retiredFlagged.cells[(0 : Fin 256)] := rfl
  rw [hkept, retiredFlagged_cell] at hflags
  exact absurd hflags (by decide)

end Sys2Proof.Machine
end

section
/-! PROOF. O46: what the two-wire port does by itself (R395, R403, R405, R409-R411). -/

namespace Sys2Proof.Machine

variable {s t : State}

/-! ## Replies -/

theorem replyReady_places {n : Nat} {r : Reply} {rest : List (Nat × Reply)} (ho : s.proto.outbox = (n, r) :: rest) (hb : s.hp.st = .busy) :
    exec .replyReady s = .next { s with
      hp := { s.hp with st := .replyReady, rpl := r.bytes, rplLen := r.bytes.length, untaken := s.hp.untaken ++ [n] }
      proto := { s.proto with outbox := rest } } := by
  have hx : exec .replyReady s = execReplyReady s := rfl
  rw [hx, execReplyReady, ho]
  exact congrArg Host.Outcome.next (if_pos hb)

theorem replyReady_stays (h : s.proto.outbox = [] ∨ s.hp.st ≠ .busy) : exec .replyReady s = .next s := by
  have hx : exec .replyReady s = execReplyReady s := rfl
  rw [hx, execReplyReady]
  cases ho : s.proto.outbox with
  | nil => rfl
  | cons r rest => exact congrArg Host.Outcome.next (if_neg (h.resolve_left (by rw [ho]; exact List.cons_ne_nil _ _)))

/-- The address that waited takes effect, or the link is left (R411, R443). -/
theorem adoptAddress_is (s : State) : ∃ a n, adoptAddress s = { s with seam := { s.seam with addr := a, addrNext := n } } := by
  unfold adoptAddress
  split
  · split
    · exact ⟨_, _, rfl⟩
    · exact ⟨s.seam.addr, s.seam.addrNext, rfl⟩
  · exact ⟨s.seam.addr, s.seam.addrNext, rfl⟩

theorem adoptAddress_none (h : s.seam.addrNext = none) : adoptAddress s = s := by
  unfold adoptAddress
  rw [h]

theorem adoptAddress_some {a n : Nat} (h : s.seam.addrNext = some (a, n)) (hl : replyLeft n s = true) :
    adoptAddress s = { s with seam := { s.seam with addr := some a, addrNext := none } } := by
  unfold adoptAddress
  rw [h]
  exact if_pos hl

theorem replyLeft_of {n : Nat} (ho : ∀ x ∈ s.proto.outbox, x.1 ≠ n) (hu : n ∉ s.hp.untaken) (ha : s.seam.a.replyOut n = false)
    (hb : s.seam.b.replyOut n = false) (hd : ∀ x ∈ s.seam.bcastDue, x.2.2 ≠ n) : replyLeft n s = true := by
  have h1 : s.proto.outbox.any (fun x => decide (x.1 = n)) = false := List.any_eq_false.mpr fun x hx => mt of_decide_eq_true (ho x hx)
  have h2 : s.hp.untaken.contains n = false := Bool.eq_false_of_not_eq_true fun h => hu (List.contains_iff_mem.mp h)
  have h3 : s.seam.bcastDue.any (fun x => decide (x.2.2 = n)) = false := List.any_eq_false.mpr fun x hx => mt of_decide_eq_true (hd x hx)
  unfold replyLeft
  rw [h1, h2, h3, ha, hb]
  rfl

theorem replyTakeTimeout_leaves {n : Nat} {rest : List Nat} (h : s.hp.untaken = n :: rest) : ∃ t, exec .replyTakeTimeout s = .next t ∧
    t = { s with hp := { s.hp with untaken := rest }, seam := { s.seam with addr := t.seam.addr, addrNext := t.seam.addrNext } } ∧
    (s.seam.addrNext = none → t.seam = s.seam) ∧
    ∀ a, s.seam.addrNext = some (a, n) → n ∉ rest → (∀ x ∈ s.proto.outbox, x.1 ≠ n) →
      s.seam.a.replyOut n = false → s.seam.b.replyOut n = false → (∀ x ∈ s.seam.bcastDue, x.2.2 ≠ n) →
      t.seam = { s.seam with addr := some a, addrNext := none } := by
  refine ⟨adoptAddress { s with hp := { s.hp with untaken := rest } }, ?_, ?_, fun hn => ?_, fun a ha hr ho hpa hpb hd => ?_⟩
  · have hx : exec .replyTakeTimeout s = .next (if s.hp.untaken = [] then s else
        adoptAddress { s with hp := { s.hp with untaken := s.hp.untaken.tail } }) := rfl
    rw [hx, if_neg (by rw [h]; exact List.cons_ne_nil _ _), h]
    rfl
  · obtain ⟨a, m, ha⟩ := adoptAddress_is { s with hp := { s.hp with untaken := rest } }
    rw [ha]
  · rw [adoptAddress_none (s := { s with hp := { s.hp with untaken := rest } }) hn]
  · rw [adoptAddress_some (s := { s with hp := { s.hp with untaken := rest } }) ha (replyLeft_of ho hr hpa hpb hd)]

/-! ## Time-outs and wakes -/

theorem portHears_iff : portHears s = true ↔ s.hp.engine = true ∧ s.off = false ∧ s.hp.await = false := by
  simp [portHears, portLive, and_assoc]

theorem portAnswers_iff : portAnswers s = true ↔ s.hp.engine = true ∧ s.off = false ∧ s.hp.await = false ∧ s.hp.deaf = false := by
  simp [portAnswers, portHears, portLive, and_assoc]

theorem portLive_iff : portLive s = true ↔ s.hp.engine = true ∧ s.off = false := by
  simp [portLive]

theorem not_portHears (h : s.hp.engine = false ∨ s.off = true ∨ s.hp.await = true) : portHears s = false := by
  refine Bool.eq_false_of_not_eq_true fun hp => ?_
  obtain ⟨he, ho, ha⟩ := portHears_iff.mp hp
  rw [he, ho, ha] at h
  simp at h

/-- A reset of the port with its flag (R409, R410). -/
theorem portReset_of (m : BitVec 16) (s : State) : PortReset s (hpSet m { s with hp := s.hp.resetPort }) m := by
  have h := hpSet_only m { s with hp := s.hp.resetPort }
  generalize hpSet m { s with hp := s.hp.resetPort } = t at h
  exact h

theorem resetPort_heard {h : Hp} (hd : h.deaf = false) : h.resetPort = { h with txn := false, await := true, nacked := false, snap := none } := by
  obtain ⟨⟩ := h
  dsimp only at hd
  subst hd
  rfl

/-- Settles O46: each happening of the port is its guard and one change of the port, with the flag set. -/
theorem hostPortRepliesTimeoutsAndWakes : Obligations.HostPortRepliesTimeoutsAndWakes := by
  intro s
  refine ⟨replyReady_stays, fun n r rest => replyReady_places, fun h => congrArg Host.Outcome.next (if_pos h), fun n rest => replyTakeTimeout_leaves,
    fun h => ⟨?_, ?_, ?_⟩, fun h => ?_, fun h => ?_, fun he ho ha => ⟨fun hh => ?_, fun hd => ?_, ?_⟩, fun h => ?_, fun he ho h => ?_,
    fun h => ⟨?_, ?_⟩, fun he ho => ?_, fun he ho hst => ?_, fun he ho hst => ⟨fun hh => ?_, fun hh hd => ?_, fun hh hd => ?_⟩,
    fun h => ?_, fun h => ?_⟩
  case refine_1 => exact congrArg Host.Outcome.next (if_neg fun hn => Bool.false_ne_true ((not_portHears h).symm.trans hn.1))
  case refine_2 =>
    refine congrArg Host.Outcome.next (if_neg fun hn => ?_)
    obtain ⟨he, ho, ha, -⟩ := portAnswers_iff.mp hn
    exact Bool.false_ne_true ((not_portHears h).symm.trans (portHears_iff.mpr ⟨he, ho, ha⟩))
  case refine_3 => exact congrArg Host.Outcome.next (if_neg fun hn => Bool.false_ne_true ((not_portHears h).symm.trans hn))
  case refine_4 => exact congrArg Host.Outcome.next (if_neg fun hn => Bool.false_ne_true (hn.2.symm.trans h))
  case refine_5 =>
    refine congrArg Host.Outcome.next (if_neg fun hn => ?_)
    exact Bool.false_ne_true ((portAnswers_iff.mp hn).2.2.2.symm.trans h)
  case refine_6 => exact ⟨_, congrArg Host.Outcome.next (if_pos ⟨portHears_iff.mpr ⟨he, ho, ha⟩, hh⟩), portReset_of ..⟩
  case refine_7 => exact ⟨_, congrArg Host.Outcome.next (if_pos (portAnswers_iff.mpr ⟨he, ho, ha, hd⟩)), portReset_of ..⟩
  case refine_8 => exact ⟨_, congrArg Host.Outcome.next (if_pos (portHears_iff.mpr ⟨he, ho, ha⟩)), portReset_of ..⟩
  case refine_9 =>
    refine congrArg Host.Outcome.next (if_neg fun hn => ?_)
    obtain ⟨hl, haw⟩ := hn
    obtain ⟨he, ho⟩ := portLive_iff.mp hl
    rw [he, ho] at h
    simp only [Bool.true_eq_false, Bool.false_eq_true, false_or] at h
    exact haw.elim (fun ha => Bool.false_ne_true (h.1.symm.trans ha)) fun ha => Bool.false_ne_true (h.2.symm.trans ha)
  case refine_10 => exact ⟨_, congrArg Host.Outcome.next (if_pos ⟨portLive_iff.mpr ⟨he, ho⟩, h⟩), hpSet_only ..⟩
  case refine_11 =>
    exact congrArg Host.Outcome.next (if_neg fun hn => h.elim (fun h => Bool.false_ne_true (hn.1.symm.trans h)) fun h => Bool.false_ne_true (hn.2.symm.trans h))
  case refine_12 =>
    exact congrArg Host.Outcome.next (if_neg fun hn => h.elim (fun h => Bool.false_ne_true (hn.1.symm.trans h)) fun h => Bool.false_ne_true (hn.2.1.symm.trans h))
  case refine_13 =>
    refine ⟨_, congrArg Host.Outcome.next (if_pos ⟨he, ho⟩), wakeReq_only .., fun hst hw => ?_⟩
    exact wakeReq_wakes _ ho hst hw
  case refine_14 => exact congrArg Host.Outcome.next (if_neg fun hn => hn.2.2 hst)
  case refine_15 =>
    refine (congrArg Host.Outcome.next (if_pos ⟨he, ho, hst⟩)).trans ?_
    exact congrArg Host.Outcome.next (if_pos hh)
  case refine_16 =>
    refine (congrArg Host.Outcome.next (if_pos ⟨he, ho, hst⟩)).trans ?_
    refine (congrArg Host.Outcome.next (if_neg (by rw [hh]; exact Bool.false_ne_true))).trans ?_
    exact congrArg (fun h => Host.Outcome.next { s with hp := h }) (if_pos hd)
  case refine_17 =>
    refine (congrArg Host.Outcome.next (if_pos ⟨he, ho, hst⟩)).trans ?_
    refine (congrArg Host.Outcome.next (if_neg (by rw [hh]; exact Bool.false_ne_true))).trans ?_
    refine (congrArg (fun h => Host.Outcome.next { s with hp := h }) (if_neg (ne_true_of_eq_false hd))).trans ?_
    rw [resetPort_heard (h := { s.hp with engine := true }) hd]
  case refine_18 => exact congrArg Host.Outcome.next (if_neg (by rw [h]; exact Bool.false_ne_true))
  case refine_19 => exact ⟨_, congrArg Host.Outcome.next (if_pos h), hpSet_only ..⟩

end Sys2Proof.Machine
end

section
/-! PROOF. What an event's notices, and the states of the link, leave of the Seam ports (R416-R437, R461). -/

namespace Sys2Proof.Machine

/-! ## Frames queued by the ports -/

theorem PortSame.refl (x : PortSt) : PortSame x x := rfl

theorem PortSame.trans {x y z : PortSt} (h : PortSame x y) (h' : PortSame y z) : PortSame x z := by
  unfold PortSame at *
  rw [h] at h'
  exact h'

/-- A field other than the queue and the frame being sent. -/
theorem PortSame.get {α : Type} {x y : PortSt} (h : PortSame x y) (f : PortSt → α)
    (hf : ∀ (z : PortSt) q r, f { z with queue := q, sending := r } = f z) : f y = f x := by
  rw [h, hf]

theorem put_same (t : PortSt) (q : QFrame) : PortSame t (t.put q).1 := by
  unfold PortSt.put
  split
  · rfl
  · split
    · rfl
    · split
      · rfl
      · split
        · rfl
        · split <;> rfl

/-- The link after frames were queued: the ports keep all but their queues, a port that is not UP altogether. -/
def Seam.Told (x y : Seam) : Prop :=
  y = { x with a := y.a, b := y.b, seq := y.seq, fwdDrops := y.fwdDrops, gaps := y.gaps, v1Drops := y.v1Drops } ∧
    ∀ p : Port, PortSame (x.port p) (y.port p) ∧ ((x.port p).link ≠ .up → y.port p = x.port p)

theorem Seam.Told.refl (x : Seam) : x.Told x := ⟨rfl, fun _ => ⟨rfl, fun _ => rfl⟩⟩

theorem Seam.Told.trans {x y z : Seam} (h : x.Told y) (h' : y.Told z) : x.Told z := by
  obtain ⟨h1, h2⟩ := h
  obtain ⟨h1', h2'⟩ := h'
  refine ⟨?_, fun p => ⟨(h2 p).1.trans (h2' p).1, fun hl => ?_⟩⟩
  · rw [h1] at h1'
    exact h1'
  · rw [(h2' p).2 (by rw [(h2 p).1.get PortSt.link (fun _ _ _ => rfl)]; exact hl), (h2 p).2 hl]

/-- The link without its ports and their counts. -/
def Seam.core (x : Seam) : Seam := { x with a := {}, b := {}, seq := 0, fwdDrops := 0, gaps := 0, v1Drops := 0 }

/-- A field that the core keeps. -/
theorem Seam.get {α : Type} {x y : Seam} (h : x.core = y.core) (f : Seam → α) (hf : ∀ z : Seam, f z.core = f z) : f x = f y := by
  rw [← hf x, h, hf]

theorem Seam.Told.core {x y : Seam} (h : x.Told y) : y.core = x.core := by
  rw [h.1]
  rfl

@[simp] theorem modPort_self (x : Seam) (p : Port) (f : PortSt → PortSt) : (x.modPort p f).port p = f (x.port p) := by
  cases p <;> rfl

@[simp] theorem modPort_other (x : Seam) (p : Port) (f : PortSt → PortSt) : (x.modPort p f).port (Port.other p) = x.port (Port.other p) := by
  cases p <;> rfl

theorem onPort_told (x : Seam) (p : Port) (q : QFrame) : x.Told (x.onPort p q) := by
  unfold Seam.onPort
  extract_lets _ q
  clear_value q
  by_cases hl : (x.port p).link = .up
  · rw [if_neg (not_not.mpr hl)]
    by_cases hc : (x.port p).canCarry q.frame = true
    · rw [if_pos hc]
      cases p with
      | a =>
        refine ⟨rfl, fun r => ?_⟩
        cases r with
        | a => exact ⟨put_same .., fun hn => absurd hl hn⟩
        | b => exact ⟨rfl, fun _ => rfl⟩
      | b =>
        refine ⟨rfl, fun r => ?_⟩
        cases r with
        | a => exact ⟨rfl, fun _ => rfl⟩
        | b => exact ⟨put_same .., fun hn => absurd hl hn⟩
    · rw [if_neg hc]
      exact ⟨rfl, fun r => by cases r <;> exact ⟨rfl, fun _ => rfl⟩⟩
  · rw [if_pos hl]
    exact .refl x

theorem told_seq (x : Seam) (n : Nat) : x.Told { x with seq := n } := ⟨rfl, fun p => by cases p <;> exact ⟨rfl, fun _ => rfl⟩⟩

theorem originate_told (x : Seam) (ftype : Nat) (fl : BitVec 8) (dst dom : Nat) (payload : List Byte) (r : Option Nat) (st : Option (Fin 4)) :
    x.Told (x.originate ftype fl dst dom payload r st) := by
  unfold Seam.originate
  split
  · exact .refl x
  · exact ((onPort_told x .a _).trans (onPort_told _ .b _)).trans (told_seq ..)

theorem originateHop_told (x : Seam) (p : Port) (rem : Nat) (payload : List Byte) (n : Nat) : x.Told (x.originateHop p rem payload n) :=
  (onPort_told x p _).trans (told_seq ..)

theorem notify_told (x : Seam) (l : List (Nat × List Byte)) : x.Told (x.notify l) := by
  unfold Seam.notify
  induction l generalizing x with
  | nil => exact .refl x
  | cons n l ih => exact (originate_told x ..).trans (ih _)

/-! ## Notices of events -/

variable {s t u : State}

/-- No channel notifies a host over the link (R461). -/
def Unsubscribed (s : State) : Prop := ∀ c : Fin 4, s.router.ch[c].sub = none

/-- The link after events, which notify hosts by frames where a channel is subscribed. -/
def Told (s t : State) : Prop := s.seam.Told t.seam ∧ (Unsubscribed s → Unsubscribed t ∧ t.seam = s.seam)

theorem Told.refl (s : State) : Told s s := ⟨.refl _, fun h => ⟨h, rfl⟩⟩

theorem Told.trans (h : Told s t) (h' : Told t u) : Told s u := by
  refine ⟨h.1.trans h'.1, fun hs => ?_⟩
  obtain ⟨ht, he⟩ := h.2 hs
  obtain ⟨hu, he'⟩ := h'.2 ht
  exact ⟨hu, he'.trans he⟩

theorem settleCh_sub (old new : Router) (c : Fin 4) : (settleCh old new c).1.sub = new.ch[c].sub := by
  unfold settleCh
  split
  · rfl
  · split
    · rfl
    · split <;> rfl

theorem notice_unsubscribed {x : Chan × Option (Fin 1024)} (h : x.1.sub = none) (c : Nat) (rtc : List Byte) : notice x c rtc = [] := by
  unfold notice
  rw [h]
  cases x.2 <;> rfl

theorem settle_sub (s : State) (new : Router) (c : Fin 4) : (settle s new).router.ch[c].sub = new.ch[c].sub := by
  have h : (settle s new).router.ch = #v[(settleCh s.router new 0).1, (settleCh s.router new 1).1, (settleCh s.router new 2).1,
    (settleCh s.router new 3).1] := rfl
  have hs := settleCh_sub s.router new
  rw [h]
  generalize settleCh s.router new = g at hs
  match c with
  | 0 => exact hs 0
  | 1 => exact hs 1
  | 2 => exact hs 2
  | 3 => exact hs 3

theorem settle_told {new : Router} (h : ∀ c : Fin 4, new.ch[c].sub = s.router.ch[c].sub) : Told s (settle s new) := by
  refine ⟨?_, fun hs => ⟨fun c => by rw [settle_sub, h, hs c], ?_⟩⟩
  · unfold settle
    dsimp only
    split
    · exact notify_told ..
    · exact .refl _
  · have hn : ∀ c : Fin 4, (settleCh s.router new c).1.sub = none := fun c => by rw [settleCh_sub, h, hs c]
    unfold settle
    dsimp only
    rw [notice_unsubscribed (hn 0), notice_unsubscribed (hn 1), notice_unsubscribed (hn 2), notice_unsubscribed (hn 3)]
    exact ite_self _

theorem noteRearm_ch (a b : Bool) (r : Router) : (r.noteRearm a b).ch = r.ch := by
  unfold Router.noteRearm
  split
  · rfl
  · rfl

theorem evChange_told (f : Ev → Ev) (k : Ev → Bool) (e : Fin 1024) (s : State) : Told s (evChange f k e s) := by
  have h := settle_told (s := s) (new := Router.noteRearm (s.router.ev[e].enable && s.router.ev[e].claim.isSome && k s.router.ev[e]) (lineLive s 574)
    { s.router with ev := upd s.router.ev e (f s.router.ev[e]) }) fun c => by rw [noteRearm_ch]
  unfold evChange
  dsimp only
  generalize settle s _ = t at h
  unfold Told Unsubscribed at h ⊢
  rw [eventWake_seam, eventWake_seam, eventWake_router, eventWake_router]
  exact h

theorem pulse_told (e : Fin 1024) (s : State) : Told s (pulse e s) := by
  unfold pulse
  split
  · exact evChange_told ..
  · exact .refl s

theorem pulseIf_told (k : Bool) (e : Fin 1024) (s : State) : Told s (pulseIf k e s) := by
  unfold pulseIf
  split
  · exact pulse_told ..
  · exact .refl s

theorem setLine_told (e : Fin 1024) (b : Bool) (s : State) : Told s (setLine e b s) := by
  unfold setLine
  split
  · exact .refl s
  · split
    · exact evChange_told ..
    · exact .refl s

/-! ## The core of the link, which events leave -/

@[simp] theorem originate_core (x : Seam) (ftype : Nat) (fl : BitVec 8) (dst dom : Nat) (payload : List Byte) (r : Option Nat) (st : Option (Fin 4)) :
    (x.originate ftype fl dst dom payload r st).core = x.core := (originate_told ..).core

@[simp] theorem notify_core (x : Seam) (l : List (Nat × List Byte)) : (x.notify l).core = x.core := (notify_told ..).core

@[simp] theorem evChange_seamcore (f : Ev → Ev) (k : Ev → Bool) (e : Fin 1024) (s : State) : (evChange f k e s).seam.core = s.seam.core :=
  (evChange_told ..).1.core

@[simp] theorem pulse_seamcore (e : Fin 1024) (s : State) : (pulse e s).seam.core = s.seam.core := (pulse_told ..).1.core

@[simp] theorem pulseIf_seamcore (k : Bool) (e : Fin 1024) (s : State) : (pulseIf k e s).seam.core = s.seam.core :=
  (pulseIf_told ..).1.core

@[simp] theorem setLine_seamcore (e : Fin 1024) (b : Bool) (s : State) : (setLine e b s).seam.core = s.seam.core :=
  (setLine_told ..).1.core

end Sys2Proof.Machine
end

section
/-! PROOF. What each operation of the model leaves of the link's core. -/

namespace Sys2Proof.Machine

/-! ## `seamcore` -/

theorem ite_seamcore (k : Prop) [Decidable k] (s t : State) :
    (if k then s else t).seam.core = if k then s.seam.core else t.seam.core := apply_ite (fun s : State => s.seam.core) ..
theorem foldl_seamcore {α : Type} (f : State → α → State) (h : ∀ s x, (f s x).seam.core = s.seam.core) (l : List α) (s : State) :
    (l.foldl f s).seam.core = s.seam.core := by
  induction l generalizing s with
  | nil => rfl
  | cons x xs ih => rw [List.foldl_cons, ih, h]
@[simp] theorem sendWaitingNotices_seamcore (s : State) : (sendWaitingNotices s).seam.core = s.seam.core := by
  unfold sendWaitingNotices; simp
@[simp] theorem landSet_seamcore (m : BitVec 32) (s : State) : (landSet m s).seam.core = s.seam.core := by unfold landSet; simp
@[simp] theorem seqSet_seamcore (m : BitVec 16) (s : State) : (seqSet m s).seam.core = s.seam.core := by unfold seqSet; simp
@[simp] theorem pwrSet_seamcore (m : BitVec 16) (s : State) : (pwrSet m s).seam.core = s.seam.core := by unfold pwrSet; simp
@[simp] theorem hemSet_seamcore (m : BitVec 16) (s : State) : (hemSet m s).seam.core = s.seam.core := by unfold hemSet; simp
@[simp] theorem almSet_seamcore (k : Fin 2) (s : State) : (almSet k s).seam.core = s.seam.core := by unfold almSet; simp
@[simp] theorem serveTemps_seamcore (s : State) : (serveTemps s).seam.core = s.seam.core := by unfold serveTemps; simp
@[simp] theorem joinTemp_seamcore (r : TempReq) (s : State) : (joinTemp r s).seam.core = s.seam.core := by unfold joinTemp; simp
@[simp] theorem requestTemp_seamcore (r : TempReq) (s : State) : (requestTemp r s).seam.core = s.seam.core := by unfold requestTemp; simp
@[simp] theorem post_seamcore (ms : List Msg) (s : State) : (post ms s).seam.core = s.seam.core := by unfold post; simp
@[simp] theorem spurEval_seamcore (s : State) : (spurEval s).seam.core = s.seam.core := by unfold spurEval; simp [ite_seamcore]
@[simp] theorem recheckActive_seamcore (s : State) : (recheckActive s).seam.core = s.seam.core := by unfold recheckActive; simp
@[simp] theorem pulses_seamcore (es : List Nat) (s : State) : (pulses es s).seam.core = s.seam.core := by
  unfold pulses; simp [foldl_seamcore]
@[simp] theorem changeCells_seamcore (s : State) (f : Nat → Cell → Cell) : (changeCells s f).seam.core = s.seam.core := by
  unfold changeCells; simp [ite_seamcore]
@[simp] theorem capture_seamcore (cause : Nat) (index : Nat) (s : State) : (capture cause index s).seam.core = s.seam.core := by
  unfold capture; simp [ite_seamcore]
@[simp] theorem enterDom_seamcore (d : DomSt) (s : State) : (enterDom d s).seam.core = s.seam.core := by
  unfold enterDom; repeat' split
  all_goals simp
@[simp] theorem cancelRestart_seamcore (s : State) : (cancelRestart s).seam.core = s.seam.core := by unfold cancelRestart; simp
@[simp] theorem enterLatched_seamcore (s : State) : (enterLatched s).seam.core = s.seam.core := by
  unfold enterLatched; repeat' split
  all_goals simp
@[simp] theorem domLoseVin_seamcore (s : State) : (domLoseVin s).seam.core = s.seam.core := by
  unfold domLoseVin; repeat' split
  all_goals simp
@[simp] theorem sendPhase_seamcore (r : Nat) (before : PhaseCtx) (s0 : State) : (sendPhase r before s0).seam.core = s0.seam.core := by
  unfold sendPhase; simp [ite_seamcore]
@[simp] theorem leaveRails_seamcore (out : Rail → Bool) (st : RailSt) (s : State) : (leaveRails out st s).seam.core = s.seam.core := by
  unfold leaveRails; simp [foldl_seamcore]
@[simp] theorem abortProbe_seamcore (s : State) : (abortProbe s).seam.core = s.seam.core := by unfold abortProbe; simp [ite_seamcore]
@[simp] theorem stopAllArming_seamcore (s : State) : (stopAllArming s).seam.core = s.seam.core := by unfold stopAllArming; simp
@[simp] theorem shutOff_seamcore (s : State) : (shutOff s).seam.core = s.seam.core := by
  unfold shutOff; repeat' split
  all_goals simp
@[simp] theorem nextUp_seamcore (k : Nat) (s : State) : (nextUp k s).seam.core = s.seam.core := by
  unfold nextUp; repeat' split
  all_goals simp
@[simp] theorem beginUp_seamcore (s : State) : (beginUp s).seam.core = s.seam.core := by
  unfold beginUp; repeat' split
  all_goals simp
@[simp] theorem enterRising_seamcore (s : State) : (enterRising s).seam.core = s.seam.core := by
  unfold enterRising; repeat' split
  all_goals simp
@[simp] theorem fuseChecks_seamcore (full : Bool) (s : State) : (fuseChecks full s).seam.core = s.seam.core := by
  unfold fuseChecks; simp [ite_seamcore]
@[simp] theorem startProbe_seamcore (s : State) : (startProbe s).seam.core = s.seam.core := by unfold startProbe; simp
@[simp] theorem faultIn_seamcore (index : Nat) (s : State) : (faultIn index s).seam.core = s.seam.core := by
  unfold faultIn; repeat' split
  all_goals simp
@[simp] theorem setHold_seamcore (h : HoldSt) (s : State) : (setHold h s).seam.core = s.seam.core := by unfold setHold; simp [ite_seamcore]
@[simp] theorem holdOfPack_seamcore (before : State) (s : State) : (holdOfPack before s).seam.core = s.seam.core := by
  unfold holdOfPack; repeat' split
  all_goals simp
@[simp] theorem setPhase_seamcore (p : ChgPh) (s : State) : (setPhase p s).seam.core = s.seam.core := by
  unfold setPhase; repeat' split
  all_goals simp
@[simp] theorem judgeSusp_seamcore (judgeTemp : Bool) (s : State) : (judgeSusp judgeTemp s).seam.core = s.seam.core := by
  unfold judgeSusp; repeat' split
  all_goals simp [ite_seamcore]
@[simp] theorem fireAlarm_seamcore (k : Fin 2) (s : State) : (fireAlarm k s).seam.core = s.seam.core := by unfold fireAlarm; simp
@[simp] theorem wrapOver_seamcore (old : Nat) (s : State) : (wrapOver old s).seam.core = s.seam.core := by
  unfold wrapOver; simp [ite_seamcore]
@[simp] theorem stepCount_seamcore (d : Int) (s : State) : (stepCount d s).seam.core = s.seam.core := by
  unfold stepCount; simp [ite_seamcore]
@[simp] theorem setDisc_seamcore (d : DiscSt) (s : State) : (setDisc d s).seam.core = s.seam.core := by unfold setDisc; simp
@[simp] theorem leaveTracking_seamcore (s : State) : (leaveTracking s).seam.core = s.seam.core := by
  unfold leaveTracking; simp [ite_seamcore]
@[simp] theorem startEvents_seamcore (revert : Bool) (s : State) : (startEvents revert s).seam.core = s.seam.core := by
  unfold startEvents; simp [ite_seamcore]
@[simp] theorem resetStuck_seamcore (s : State) : (resetStuck s).seam.core = s.seam.core := by unfold resetStuck; simp [ite_seamcore]
@[simp] theorem startWork_seamcore (s : State) : (startWork s).seam.core = s.seam.core := by unfold startWork; simp [ite_seamcore]

end Sys2Proof.Machine
end

section
/-! PROOF. O47: the link states of a port (R416-R420, R430, R435-R437, R448). -/

namespace Sys2Proof.Machine

variable {s t u : State} {p : Port}

/-! ## What a change of one port leaves -/

/-- `OnePort`, made to compose: channels that notify no host still notify none. -/
def PortStep (p : Port) (s t : State) : Prop :=
  PortSame (s.seam.port (Port.other p)) (t.seam.port (Port.other p)) ∧
    (Unsubscribed s → Unsubscribed t ∧ t.seam.port (Port.other p) = s.seam.port (Port.other p)) ∧
    Elsewhere s t ∧ t.proto = s.proto ∧ t.hem = s.hem ∧ t.chg = s.chg

theorem PortStep.onePort (h : PortStep p s t) : OnePort p s t := by
  obtain ⟨h1, h2, h3⟩ := h
  exact ⟨h1, fun hs => (h2 hs).2, h3⟩

theorem PortStep.refl (p : Port) (s : State) : PortStep p s s := ⟨rfl, fun h => ⟨h, rfl⟩, .refl s, rfl, rfl, rfl⟩

theorem PortStep.trans (h : PortStep p s t) (h' : PortStep p t u) : PortStep p s u := by
  obtain ⟨h1, h2, h3, h4, h5, h6⟩ := h
  obtain ⟨h1', h2', h3', h4', h5', h6'⟩ := h'
  refine ⟨h1.trans h1', fun hs => ?_, h3.trans h3', h4'.trans h4, h5'.trans h5, h6'.trans h6⟩
  obtain ⟨ht, he⟩ := h2 hs
  obtain ⟨hu, he'⟩ := h2' ht
  exact ⟨hu, he'.trans he⟩

theorem portStep_seam {x : Seam} (h : x.port (Port.other p) = s.seam.port (Port.other p)) : PortStep p s { s with seam := x } :=
  ⟨by rw [h]; rfl, fun hs => ⟨hs, h⟩, ⟨rfl, rfl, rfl, rfl⟩, rfl, rfl, rfl⟩

theorem portStep_modPort (p : Port) (f : PortSt → PortSt) (s : State) : PortStep p s (modPort p f s) := portStep_seam (modPort_other ..)

theorem portStep_pulseIf (p : Port) (k : Bool) (e : Fin 1024) (s : State) : PortStep p s (pulseIf k e s) := by
  obtain ⟨h1, h2⟩ := pulseIf_told k e s
  refine ⟨(h1.2 _).1, fun hs => ⟨(h2 hs).1, by rw [(h2 hs).2]⟩, ⟨pulseIf_cells .., pulseIf_rails .., pulseIf_dom .., pulseIf_crease ..⟩,
    pulseIf_proto .., pulseIf_hem .., pulseIf_chg ..⟩

theorem portStep_seamSet (p : Port) (m : BitVec 16) (s : State) : PortStep p s (seamSet m s) :=
  (portStep_seam (by cases p <;> rfl)).trans (portStep_pulseIf ..)

theorem portStep_adoptAddress (p : Port) (s : State) : PortStep p s (adoptAddress s) := by
  obtain ⟨a, n, h⟩ := adoptAddress_is s
  rw [h]
  exact portStep_seam (by cases p <;> rfl)

/-! ## A link enters a state -/

/-- The port in its new link state, which ends a link or not, in HIBERNATE or not (R416, R448). -/
def PortSt.linked (leaves : Bool) (st : LinkSt) (hib : Bool) (t : PortSt) : PortSt :=
  let z := if leaves then t.flush else t
  { z with
    link := st, ver := if st = .up then t.ver else 0, powered := t.powered && !(decide (st = .down) && hib)
    burst := t.burst && !(decide (st = .down) && hib) }

/-- Whether a link ends by the state it enters. -/
def leavesUp (p : Port) (st : LinkSt) (s : State) : Bool := decide ((s.seam.port p).link = .up) && decide (st ≠ .up)

/-- The port moved, and the frames lost with its link counted (R430). -/
def linkMoved (p : Port) (st : LinkSt) (s : State) : State :=
  modPort p (PortSt.linked (leavesUp p st s) st (decide (s.pwr.st = .hibernate))) s

def framesLost (p : Port) (s u : State) : State :=
  countDrops ((s.seam.port p).queue ++ (s.seam.port p).sending.toList).length
    { u with seam := u.seam.markGaps ((s.seam.port p).queue ++ (s.seam.port p).sending.toList) }

/-- The flag of a lost link (R448). -/
def lostFlag (p : Port) : BitVec 16 := if p = .a then 0x2 else 0x4

theorem setLink_eq (p : Port) (st : LinkSt) (s : State) : setLink p st s = pulseIf (decide ((s.seam.port p).link ≠ st)) (portEvent p)
    (if leavesUp p st s then seamSet (lostFlag p) (adoptAddress (framesLost p s (linkMoved p st s))) else linkMoved p st s) := by
  have he : setLink p st s = pulseIf (decide ((s.seam.port p).link ≠ st)) (portEvent p)
      (if leavesUp p st s then seamSet (lostFlag p) (if leavesUp p st s then adoptAddress (framesLost p s (linkMoved p st s)) else linkMoved p st s)
      else if leavesUp p st s then adoptAddress (framesLost p s (linkMoved p st s)) else linkMoved p st s) := rfl
  rw [he]
  by_cases h : leavesUp p st s = true
  · rw [if_pos h, if_pos h, if_pos h]
  · rw [if_neg h, if_neg h, if_neg h]

theorem portStep_framesLost (p : Port) (s u : State) : PortStep p u (framesLost p s u) := portStep_seam (by cases p <;> rfl)

theorem portStep_setLink (p : Port) (st : LinkSt) (s : State) : PortStep p s (setLink p st s) := by
  rw [setLink_eq]
  refine .trans ?_ (portStep_pulseIf ..)
  have hm : PortStep p s (linkMoved p st s) := portStep_modPort ..
  split
  · exact ((hm.trans (portStep_framesLost ..)).trans (portStep_adoptAddress ..)).trans (portStep_seamSet ..)
  · exact hm

theorem seamSet_told (m : BitVec 16) (s : State) : Seam.Told { s.seam with flags := s.seam.flags ||| m } (seamSet m s).seam :=
  (pulseIf_told _ 531 { s with seam := { s.seam with flags := s.seam.flags ||| m } }).1

theorem port_withFlags (x : Seam) (m : BitVec 16) (p : Port) : ({ x with flags := m } : Seam).port p = x.port p := by cases p <;> rfl

theorem adoptAddress_port (s : State) (p : Port) : (adoptAddress s).seam.port p = s.seam.port p ∧ (adoptAddress s).seam.flags = s.seam.flags := by
  obtain ⟨a, n, h⟩ := adoptAddress_is s
  rw [h]
  cases p <;> exact ⟨rfl, rfl⟩

/-- The link before the notices of the state entered. -/
theorem setLink_seam (p : Port) (st : LinkSt) (s : State) : ∃ x : Seam, x.Told (setLink p st s).seam ∧
    x.port p = (s.seam.port p).linked (leavesUp p st s) st (decide (s.pwr.st = .hibernate)) ∧
    x.flags = s.seam.flags ||| if leavesUp p st s then lostFlag p else 0 := by
  rw [setLink_eq]
  by_cases h : leavesUp p st s = true
  · rw [if_pos h]
    refine ⟨_, (seamSet_told ..).trans (pulseIf_told ..).1, ?_, ?_⟩
    · rw [port_withFlags, (adoptAddress_port _ p).1]
      unfold framesLost linkMoved
      cases p <;> rfl
    · dsimp only
      rw [(adoptAddress_port _ p).2, if_pos h]
      unfold framesLost linkMoved
      cases p <;> rfl
  · rw [if_neg h]
    refine ⟨_, (pulseIf_told ..).1, modPort_self .., ?_⟩
    rw [if_neg h]
    unfold linkMoved
    cases p <;> exact BitVec.or_zero.symm

theorem setLink_port (p : Port) (st : LinkSt) (s : State) :
    PortSame ((s.seam.port p).linked (leavesUp p st s) st (decide (s.pwr.st = .hibernate))) ((setLink p st s).seam.port p) := by
  obtain ⟨x, hx, hp, -⟩ := setLink_seam p st s
  rw [← hp]
  exact (hx.2 p).1

theorem setLink_link (p : Port) (st : LinkSt) (s : State) : ((setLink p st s).seam.port p).link = st :=
  (setLink_port p st s).get PortSt.link (fun _ _ _ => rfl)

/-- A port that is not UP has nothing to send but what it held before. -/
theorem setLink_port_eq {st : LinkSt} (h : st ≠ .up) (s : State) :
    (setLink p st s).seam.port p = (s.seam.port p).linked (leavesUp p st s) st (decide (s.pwr.st = .hibernate)) := by
  obtain ⟨x, hx, hp, -⟩ := setLink_seam p st s
  rw [← hp]
  exact (hx.2 p).2 (by rw [hp]; exact h)

theorem setLink_flags (p : Port) (st : LinkSt) (s : State) :
    (setLink p st s).seam.flags = s.seam.flags ||| if leavesUp p st s then lostFlag p else 0 := by
  obtain ⟨x, hx, -, hf⟩ := setLink_seam p st s
  rw [Seam.get hx.core Seam.flags (fun _ => rfl), hf]

theorem leavesUp_true {st : LinkSt} (h : (s.seam.port p).link = .up) (hs : st ≠ .up) : leavesUp p st s = true := by
  unfold leavesUp
  rw [decide_eq_true h, decide_eq_true hs]
  rfl

theorem leavesUp_false {st : LinkSt} (h : (s.seam.port p).link ≠ .up) : leavesUp p st s = false := by
  unfold leavesUp
  rw [decide_eq_false h, Bool.false_and]

theorem setLink_flags_kept {st : LinkSt} (h : (s.seam.port p).link ≠ .up) : (setLink p st s).seam.flags = s.seam.flags := by
  rw [setLink_flags, leavesUp_false h, if_neg Bool.false_ne_true]
  exact BitVec.or_zero

theorem linked_fields (b : Bool) (st : LinkSt) (hib : Bool) (t : PortSt) : (t.linked b st hib).sync = t.sync ∧
    (t.linked b st hib).dlyOk = t.dlyOk ∧ (t.linked b st hib).verWait = t.verWait ∧ (st = .up → (t.linked b st hib).ver = t.ver) := by
  cases b <;> exact ⟨rfl, rfl, rfl, fun h => if_pos h⟩

/-! ## Training, loss and failure -/

theorem portStep_startTraining (p : Port) (s : State) : PortStep p s (startTraining p s) :=
  (portStep_modPort ..).trans (portStep_setLink ..)

/-- The port as training begins (R418). -/
def PortSt.fresh (y : PortSt) : PortSt := { y with
  lastWord := none, ack := false, marked := false, markNow := false, echoNow := false, echoIn := 0, dlyOk := false, burst := false, pattern := false }

theorem startTraining_eq (p : Port) (s : State) : startTraining p s = setLink p .training (modPort p PortSt.fresh s) := rfl

theorem startTraining_port (p : Port) (s : State) : ((startTraining p s).seam.port p).link = .training ∧
    ((startTraining p s).seam.port p).sync = (s.seam.port p).sync ∧ ((startTraining p s).seam.port p).dlyOk = false ∧
    ((startTraining p s).seam.port p).verWait = (s.seam.port p).verWait := by
  have h := setLink_port p .training (modPort p PortSt.fresh s)
  have hm : (modPort p PortSt.fresh s).seam.port p = (s.seam.port p).fresh := modPort_self ..
  rw [hm] at h
  obtain ⟨h1, h2, h3, -⟩ := linked_fields (leavesUp p .training (modPort p PortSt.fresh s)) .training
    (decide ((modPort p PortSt.fresh s).pwr.st = .hibernate)) (s.seam.port p).fresh
  rw [startTraining_eq]
  exact ⟨setLink_link .., (h.get PortSt.sync (fun _ _ _ => rfl)).trans h1, (h.get PortSt.dlyOk (fun _ _ _ => rfl)).trans h2, (h.get PortSt.verWait (fun _ _ _ => rfl)).trans h3⟩

theorem modPort_flags (p : Port) (f : PortSt → PortSt) (s : State) : (modPort p f s).seam.flags = s.seam.flags := by cases p <;> rfl

theorem modPort_port (p : Port) (f : PortSt → PortSt) (s : State) : (modPort p f s).seam.port p = f (s.seam.port p) := modPort_self ..

theorem loseLink_stays (h : ¬ ((s.seam.port p).link = .training ∨ (s.seam.port p).link = .up)) :
    loseLink p s = modPort p (fun y => { y with sync := false }) s := if_neg h

theorem loseLink_down (h : (s.seam.port p).link = .training ∨ (s.seam.port p).link = .up) :
    loseLink p s = setLink p .down (modPort p (fun y => { y with sync := false }) s) := if_pos h

/-- Loss of synchronisation takes a link down (R417, R430). -/
theorem loseLink_loses (h : (s.seam.port p).link = .training ∨ (s.seam.port p).link = .up) : PortStep p s (loseLink p s) ∧
    ((loseLink p s).seam.port p).link = .down ∧ ((loseLink p s).seam.port p).sync = false ∧
    ((s.seam.port p).link = .up → ((loseLink p s).seam.port p).queue = [] ∧ ((loseLink p s).seam.port p).sending = none ∧
      (loseLink p s).seam.flags = s.seam.flags ||| (if p = .a then 0x2 else 0x4)) := by
  have hm := modPort_port p (fun y => { y with sync := false }) s
  have hf := modPort_flags p (fun y => { y with sync := false }) s
  rw [loseLink_down h]
  refine ⟨(portStep_modPort ..).trans (portStep_setLink ..), setLink_link .., ?_, fun hu => ?_⟩
  · exact ((setLink_port ..).get PortSt.sync (fun _ _ _ => rfl)).trans ((linked_fields ..).1.trans (by rw [hm]))
  · have hu' : ((modPort p (fun y => { y with sync := false }) s).seam.port p).link = .up := by
      rw [hm]
      exact hu
    have hl : leavesUp p .down (modPort p (fun y => { y with sync := false }) s) = true := leavesUp_true hu' (by decide)
    rw [setLink_port_eq (by decide), setLink_flags, hf, hl]
    exact ⟨rfl, rfl, rfl⟩

theorem setLink_faulty (hu : (s.seam.port p).link = .up) : PortStep p s (seamSet 0x8 (setLink p .faulty s)) ∧
    ((seamSet 0x8 (setLink p .faulty s)).seam.port p).link = .faulty ∧
    (seamSet 0x8 (setLink p .faulty s)).seam.flags = s.seam.flags ||| (if p = .a then 0xA else 0xC) := by
  have ht := seamSet_told 0x8 (setLink p .faulty s)
  refine ⟨(portStep_setLink ..).trans (portStep_seamSet ..), ?_, ?_⟩
  · rw [(ht.2 p).1.get PortSt.link (fun _ _ _ => rfl), port_withFlags, setLink_link]
  · rw [Seam.get ht.core Seam.flags (fun _ => rfl), setLink_flags, if_pos (leavesUp_true hu (by decide)), BitVec.or_assoc]
    cases p <;> rfl

/-! ## Link words -/

theorem linkWord_training {w : BitVec 16} {rt : Nat} {x : PortSt} (hx : x = (s.seam.port p).takeWord w rt) (h : (s.seam.port p).link = .training) :
    exec (.linkWord p w rt) s = .next (if x.steady then
        match commonVersion w with
        | none => setLink p .down (seamSet 0x10 (modPort p (fun y => { y with verWait := true }) (modPort p (fun _ => x) s)))
        | some v =>
          if w.getLsbD 8 && x.dlyOk then sendHeldWake p (setLink p .up (modPort p (fun y => { y with ver := v }) (modPort p (fun _ => x) s)))
          else modPort p (fun _ => x) s
      else modPort p (fun _ => x) s) := by
  have he : exec (.linkWord p w rt) s = execLinkWord p w rt s := rfl
  rw [he, execLinkWord, h, ← hx] <;> rfl

theorem linkWord_up {w : BitVec 16} {rt : Nat} (h : (s.seam.port p).link = .up) : exec (.linkWord p w rt) s = .next (loseLink p s) := by
  have he : exec (.linkWord p w rt) s = execLinkWord p w rt s := rfl
  rw [he, execLinkWord, h]

theorem linkWord_stays {w : BitVec 16} {rt : Nat} (h : (s.seam.port p).link = .down ∨ (s.seam.port p).link = .faulty) :
    exec (.linkWord p w rt) s = .next s := by
  have he : exec (.linkWord p w rt) s = execLinkWord p w rt s := rfl
  rw [he, execLinkWord]
  obtain h | h := h <;> rw [h]

/-- The frames held for the link go to its queue. -/
def wakesSent (p : Port) (l : List Frame) (x : Seam) : Seam :=
  l.foldl (fun x f => x.onPort p { cls := 1, frame := f, reply := none, stream := none }) x

theorem onPort_other (x : Seam) (p : Port) (q : QFrame) : (x.onPort p q).port (Port.other p) = x.port (Port.other p) := by
  unfold Seam.onPort
  extract_lets _ q
  split
  · rfl
  · split
    · cases p <;> rfl
    · cases p <;> rfl

theorem wakesSent_told (p : Port) (l : List Frame) (x : Seam) : x.Told (wakesSent p l x) ∧
    (wakesSent p l x).port (Port.other p) = x.port (Port.other p) := by
  unfold wakesSent
  induction l generalizing x with
  | nil => exact ⟨.refl x, rfl⟩
  | cons f l ih =>
    obtain ⟨h1, h2⟩ := ih (x.onPort p { cls := 1, frame := f, reply := none, stream := none })
    exact ⟨(onPort_told ..).trans h1, h2.trans (onPort_other ..)⟩

theorem sendHeldWake_is (p : Port) (s : State) : PortStep p s (sendHeldWake p s) ∧
    ((sendHeldWake p s).seam.port p).link = (s.seam.port p).link ∧ ((sendHeldWake p s).seam.port p).ver = (s.seam.port p).ver := by
  have he : sendHeldWake p s = { s with
    seam := wakesSent p (s.seam.port p).heldWake (s.seam.modPort p (fun y => { y with heldWake := [] })) } := rfl
  obtain ⟨h1, h2⟩ := wakesSent_told p (s.seam.port p).heldWake (s.seam.modPort p (fun y => { y with heldWake := [] }))
  rw [he]
  refine ⟨portStep_seam (h2.trans (modPort_other ..)), ?_, ?_⟩
  · exact ((h1.2 p).1.get PortSt.link (fun _ _ _ => rfl)).trans (by rw [modPort_self])
  · exact ((h1.2 p).1.get PortSt.ver (fun _ _ _ => rfl)).trans (by rw [modPort_self])

/-- A common version and a measured delay bring the link UP (R418, R419). -/
theorem linkUp_is (p : Port) (v : Nat) (s : State) : PortStep p s (sendHeldWake p (setLink p .up (modPort p (fun y => { y with ver := v }) s))) ∧
    ((sendHeldWake p (setLink p .up (modPort p (fun y => { y with ver := v }) s))).seam.port p).link = .up ∧
    ((sendHeldWake p (setLink p .up (modPort p (fun y => { y with ver := v }) s))).seam.port p).ver = v := by
  obtain ⟨h1, h2, h3⟩ := sendHeldWake_is p (setLink p .up (modPort p (fun y => { y with ver := v }) s))
  refine ⟨((portStep_modPort ..).trans (portStep_setLink ..)).trans h1, h2.trans (setLink_link ..), h3.trans ?_⟩
  exact ((setLink_port ..).get PortSt.ver (fun _ _ _ => rfl)).trans (((linked_fields ..).2.2.2 rfl).trans (by rw [modPort_port]))

/-- Without a common version training fails (R419). -/
theorem linkFails_is (p : Port) (s : State) (h : (s.seam.port p).link ≠ .up) :
    PortStep p s (setLink p .down (seamSet 0x10 (modPort p (fun y => { y with verWait := true }) s))) ∧
    ((setLink p .down (seamSet 0x10 (modPort p (fun y => { y with verWait := true }) s))).seam.port p).link = .down ∧
    ((setLink p .down (seamSet 0x10 (modPort p (fun y => { y with verWait := true }) s))).seam.port p).verWait = true ∧
    (setLink p .down (seamSet 0x10 (modPort p (fun y => { y with verWait := true }) s))).seam.flags = s.seam.flags ||| 0x10 := by
  have hm := modPort_port p (fun y => { y with verWait := true }) s
  have hf := modPort_flags p (fun y => { y with verWait := true }) s
  have ht := seamSet_told 0x10 (modPort p (fun y => { y with verWait := true }) s)
  have hp := (ht.2 p).1
  rw [port_withFlags, hm] at hp
  refine ⟨((portStep_modPort ..).trans (portStep_seamSet ..)).trans (portStep_setLink ..), setLink_link .., ?_, ?_⟩
  · exact ((setLink_port ..).get PortSt.verWait (fun _ _ _ => rfl)).trans ((linked_fields ..).2.2.1.trans (hp.get PortSt.verWait (fun _ _ _ => rfl)))
  · rw [setLink_flags_kept (by rw [hp.get PortSt.link (fun _ _ _ => rfl)]; exact h), Seam.get ht.core Seam.flags (fun _ => rfl), hf]

end Sys2Proof.Machine
end

section
/-! PROOF. O47, continued: time-outs, phantom power, held wakes and the obligation. -/

namespace Sys2Proof.Machine

variable {s t u : State} {p : Port}

/-! ## Retries, overloads and held wakes -/

theorem linkSync_trains (ho : s.off = false) (hp : (s.seam.port p).powered = true) (hl : (s.seam.port p).link = .down)
    (hv : (s.seam.port p).verWait = false) : ∃ t, exec (.linkSync p) s = .next t ∧ OnePort p s t ∧
      (t.seam.port p).link = .training ∧ (t.seam.port p).sync = true ∧ (t.seam.port p).dlyOk = false := by
  have hx : exec (.linkSync p) s = .next (startTraining p (modPort p (fun y => { y with sync := true }) s)) :=
    (congrArg Host.Outcome.next (if_neg (by rw [ho, hp]; decide))).trans (congrArg Host.Outcome.next (if_pos ⟨hl, hv⟩))
  obtain ⟨h1, h2, h3, -⟩ := startTraining_port p (modPort p (fun y => { y with sync := true }) s)
  exact ⟨_, hx, ((portStep_modPort ..).trans (portStep_startTraining ..)).onePort, h1, h2.trans (by rw [modPort_port]), h3⟩

theorem verRetry_is (p : Port) (s : State) : ∃ t, exec (.verRetry p) s = .next t ∧ OnePort p s t ∧ (t.seam.port p).verWait = false ∧
    (t.seam.port p).link = if (s.seam.port p).verWait = true ∧ (s.seam.port p).link = .down ∧ (s.seam.port p).sync = true ∧
      (s.seam.port p).powered = true then .training else (s.seam.port p).link := by
  have hm := modPort_port p (fun y => { y with verWait := false }) s
  by_cases h : (s.seam.port p).verWait = true ∧ (s.seam.port p).link = .down ∧ (s.seam.port p).sync = true ∧ (s.seam.port p).powered = true
  · obtain ⟨h1, -, -, h4⟩ := startTraining_port p (modPort p (fun y => { y with verWait := false }) s)
    rw [if_pos h]
    exact ⟨_, congrArg Host.Outcome.next (if_pos h), ((portStep_modPort ..).trans (portStep_startTraining ..)).onePort,
      h4.trans (by rw [hm]), h1⟩
  · rw [if_neg h]
    exact ⟨_, congrArg Host.Outcome.next (if_neg h), (portStep_modPort ..).onePort, by rw [hm], by rw [hm]⟩

theorem faultySeen_trains (h : (s.seam.port p).link = .faulty) : ∃ t, exec (.faultySeen p) s = .next t ∧ OnePort p s t ∧
    (t.seam.port p).link = .training ∧ t.seam.flags = s.seam.flags := by
  have hm := modPort_port p PortSt.fresh s
  refine ⟨_, congrArg Host.Outcome.next (if_pos h), (portStep_startTraining ..).onePort, (startTraining_port ..).1, ?_⟩
  rw [startTraining_eq, setLink_flags_kept, modPort_flags]
  rw [hm, show (s.seam.port p).fresh.link = _ from h]
  decide

theorem phantomOn_iff : phantomOn s p = true ↔ vinUsable s = true ∧ (s.seam.port p).phOver = false := by
  simp [phantomOn]

theorem phOverload_is (h : phantomOn s p = true) : ∃ t, exec (.phOverload p) s = .next t ∧ OnePort p s t ∧
    PortSame { s.seam.port p with phOver := true } (t.seam.port p) ∧ t.seam.flags = s.seam.flags ||| 0x20 := by
  have ht := seamSet_told 0x20 (modPort p (fun y => { y with phOver := true }) s)
  have hm := modPort_port p (fun y => { y with phOver := true }) s
  refine ⟨_, congrArg Host.Outcome.next (if_pos h), ((portStep_modPort ..).trans (portStep_seamSet ..)).onePort, ?_, ?_⟩
  · have hp := (ht.2 p).1
    rw [port_withFlags, hm] at hp
    exact hp
  · rw [Seam.get ht.core Seam.flags (fun _ => rfl), modPort_flags]

/-- A port after a held WAKE was given up (R437). -/
def PortSt.unheld (hib : Bool) (y : PortSt) : PortSt := { y with
  heldWake := y.heldWake.tail, pattern := y.pattern && !y.heldWake.tail.isEmpty
  powered := y.powered && !(y.heldWake.tail.isEmpty && decide (y.link = .down) && hib) }

theorem wakeForwardTimeout_eq (h : (s.seam.port p).heldWake ≠ []) :
    exec (.wakeForwardTimeout p) s = .next (countDrops 1 (modPort p (PortSt.unheld (decide (s.pwr.st = .hibernate))) s)) :=
  congrArg Host.Outcome.next (if_neg h)

theorem countDrops_port (n : Nat) (s : State) (p : Port) : (countDrops n s).seam.port p = s.seam.port p := by cases p <;> rfl

theorem wakeForwardTimeout_drops (h : (s.seam.port p).heldWake ≠ []) : ∃ t, exec (.wakeForwardTimeout p) s = .next t ∧
    t = { s with seam := t.seam } ∧ OnePort p s t ∧
    t.seam.port p = { s.seam.port p with
      heldWake := (s.seam.port p).heldWake.tail, pattern := (t.seam.port p).pattern, powered := (t.seam.port p).powered } ∧
    ((s.seam.port p).heldWake.tail = [] → (t.seam.port p).pattern = false) ∧
    ((s.seam.port p).heldWake.tail ≠ [] ∨ s.pwr.st ≠ .hibernate → (t.seam.port p).powered = (s.seam.port p).powered) ∧
    t.seam.fwdDrops = min (s.seam.fwdDrops + 1) 65535 := by
  have hp : (countDrops 1 (modPort p (PortSt.unheld (decide (s.pwr.st = .hibernate))) s)).seam.port p =
      (s.seam.port p).unheld (decide (s.pwr.st = .hibernate)) := by rw [countDrops_port, modPort_port]
  refine ⟨_, wakeForwardTimeout_eq h, rfl, ((portStep_modPort ..).trans (portStep_seam (by cases p <;> rfl))).onePort, ?_, fun ht => ?_,
    fun ht => ?_, by cases p <;> rfl⟩
  · rw [hp]
    rfl
  · rw [hp]
    unfold PortSt.unheld
    dsimp only
    rw [ht]
    exact Bool.and_false _
  · rw [hp]
    unfold PortSt.unheld
    dsimp only
    obtain ht | ht := ht
    · rw [List.isEmpty_eq_false_iff.mpr ht]
      exact Bool.and_true _
    · rw [decide_eq_false ht, Bool.and_false]
      exact Bool.and_true _

/-- Settles O47: each happening of a port is its guard, a change of that port and the events of the link state entered. -/
theorem seamPortsTrainAndFail : Obligations.SeamPortsTrainAndFail := by
  intro p s
  refine ⟨fun h => congrArg Host.Outcome.next (if_pos (h.imp_right id)), fun ho hp => ⟨fun hl hv => linkSync_trains ho hp hl hv, fun h => ?_⟩,
    fun h => ?_, fun h => ?_, fun w rt x hx => ⟨fun h => linkWord_stays h, fun h => ?_, fun h => ⟨fun hs => ?_, fun hs hc => ?_, fun v hs hc hw hd => ?_,
      fun v hs hc hn => ?_⟩⟩, fun h => congrArg Host.Outcome.next (if_neg h), fun h => ?_, verRetry_is p s,
    fun h => congrArg Host.Outcome.next (if_neg h), fun h => ?_, fun h => congrArg Host.Outcome.next (if_neg h), fun h => faultySeen_trains h,
    fun h => ?_, fun hl hp ho => congrArg Host.Outcome.next (if_pos ⟨hl, hp, ho⟩), fun h => ?_, fun hv hp => phOverload_is (phantomOn_iff.mpr ⟨hv, hp⟩),
    rfl, fun h => congrArg Host.Outcome.next (if_pos h), fun h => wakeForwardTimeout_drops h, fun h => ?_, fun hp ho => ?_, fun h => ?_,
    fun h ha => ?_, fun f hf hh hb q hq => ?_⟩
  case refine_1 =>
    have hn : ¬ ((s.seam.port p).link = .down ∧ (s.seam.port p).verWait = false) := fun hn => h.elim (fun h => h hn.1) fun h =>
      Bool.false_ne_true (hn.2.symm.trans h)
    exact (congrArg Host.Outcome.next (if_neg (by rw [ho, hp]; decide))).trans (congrArg Host.Outcome.next (if_neg hn))
  case refine_2 =>
    refine congrArg Host.Outcome.next (loseLink_stays fun hn => ?_)
    obtain h | h := h <;> rw [h] at hn <;> exact absurd hn (by decide)
  case refine_3 =>
    obtain ⟨h1, h2, h3, h4⟩ := loseLink_loses h
    exact ⟨_, rfl, h1.onePort, h2, h3, h4⟩
  case refine_4 =>
    obtain ⟨h1, h2, -⟩ := loseLink_loses (p := p) (.inr h)
    exact ⟨_, linkWord_up h, h1.onePort, h2⟩
  case refine_5 => exact (linkWord_training hx h).trans (congrArg Host.Outcome.next (if_neg (by rw [hs]; exact Bool.false_ne_true)))
  case refine_6 =>
    have hm : ((modPort p (fun _ => x) s).seam.port p).link ≠ .up := by
      rw [modPort_port, hx, show ((s.seam.port p).takeWord w rt).link = (s.seam.port p).link from rfl, h]
      decide
    obtain ⟨h1, h2, h3, h4⟩ := linkFails_is p (modPort p (fun _ => x) s) hm
    refine ⟨_, (linkWord_training hx h).trans ?_, ((portStep_modPort ..).trans h1).onePort, h2, h3, h4.trans (by rw [modPort_flags])⟩
    rw [if_pos hs, hc]
  case refine_7 =>
    obtain ⟨h1, h2, h3⟩ := linkUp_is p v (modPort p (fun _ => x) s)
    refine ⟨_, (linkWord_training hx h).trans ?_, ((portStep_modPort ..).trans h1).onePort, h2, h3⟩
    rw [if_pos hs, hc]
    exact congrArg Host.Outcome.next (if_pos (by rw [hw, hd]; rfl))
  case refine_8 =>
    rw [linkWord_training hx h, if_pos hs, hc]
    refine congrArg Host.Outcome.next (if_neg fun hb => ?_)
    obtain ⟨h1, h2⟩ := Bool.and_eq_true_iff.mp hb
    exact hn.elim (fun hn => Bool.false_ne_true (hn.symm.trans h1)) fun hn => Bool.false_ne_true (hn.symm.trans h2)
  case refine_9 => exact ⟨_, congrArg Host.Outcome.next (if_pos h), (portStep_setLink ..).onePort, setLink_link ..⟩
  case refine_10 =>
    obtain ⟨h1, h2, h3⟩ := setLink_faulty h
    exact ⟨_, congrArg Host.Outcome.next (if_pos h), h1.onePort, h2, h3⟩
  case refine_11 =>
    refine congrArg Host.Outcome.next (if_neg fun hn => ?_)
    obtain ⟨h1, h2, h3⟩ := hn
    exact h.elim (fun h => h h1) fun h => h.elim (fun h => Bool.false_ne_true (h.symm.trans h2)) fun h => Bool.false_ne_true (h3.symm.trans h)
  case refine_12 =>
    refine congrArg Host.Outcome.next (if_neg fun hn => ?_)
    obtain ⟨h1, h2⟩ := phantomOn_iff.mp hn
    exact h.elim (fun h => Bool.false_ne_true (h.symm.trans h1)) fun h => Bool.false_ne_true (h2.symm.trans h)
  case refine_13 =>
    refine congrArg Host.Outcome.next (if_neg fun hn => ?_)
    exact h.elim (fun h => Bool.false_ne_true (hn.1.symm.trans h)) fun h => Bool.false_ne_true (hn.2.symm.trans h)
  case refine_14 =>
    exact ⟨_, congrArg Host.Outcome.next (if_pos ⟨hp, ho⟩), wakeReq_only .., fun hst hw => wakeReq_wakes _ ho hst hw⟩
  case refine_15 => exact congrArg Host.Outcome.next (if_neg (by rw [h]; exact Bool.false_ne_true))
  case refine_16 =>
    refine (congrArg Host.Outcome.next (if_pos (Option.isSome_iff_ne_none.mpr h))).trans ?_
    rw [adoptAddress_none (by cases p <;> exact ha)]
    rfl
  case refine_17 =>
    unfold QFrame.stamped
    rw [hq, if_pos ⟨hf, hb, hh⟩]

end Sys2Proof.Machine
end

section
/-! PROOF. O48: a frame for the module alone is judged, heard and acted on by its type (R421-R431). -/

namespace Sys2Proof.Machine

variable {s t u : State} {p : Port} {w : Wire} {f : Frame}

/-! ## A frame for this module -/

/-- The frame as the module takes it, one hop further (R422). -/
def oneHop (f : Frame) : Frame := { f with hops := (f.hops + 1) % 4096 }

/-- The sources heard with this frame (R427). -/
def heardOf (f : Frame) (s : State) : State :=
  { bump s with seam := (s.seam.judgeSeq (Frame.srcAddr f) f.seq s.hem.ticks).2 }

/-- The state in which a frame for the module acts: heard, the clock awake (R434). -/
def wokenBy (p : Port) (f : Frame) (s : State) : State := wakeReq (.seamFrame p) (heardOf f s)

theorem taken_two (hv : (s.seam.port p).ver = 2) (f : Frame) : Frame.taken s p f = (oneHop f) := by
  unfold Frame.taken oneHop
  rw [if_neg (by rw [hv]; decide)]

/-- From a source not yet heard, a frame is new (R427). -/
theorem judgeSeq_fresh {x : Seam} {src : Nat} (h : ∀ d ∈ x.dups, d.1 ≠ src) (seq now : Nat) :
    ∃ l, x.judgeSeq src seq now = (true, { x with dups := (src, seq, 1, now) :: l }) := by
  have hn : (x.dups.filter (fun d => decide (now ≤ d.2.2.2 + 10 * oneSecond))).find? (fun d => decide (d.1 = src)) = none := by
    refine List.find?_eq_none.mpr fun d hd => ?_
    exact mt of_decide_eq_true (h d (List.mem_filter.mp hd).1)
  unfold Seam.judgeSeq
  dsimp only
  rw [hn]
  exact ⟨_, rfl⟩

theorem heardOf_is (h : ForUs p w f s) : ∃ l, heardOf f s = { bump s with seam := { s.seam with
    dups := (Frame.srcAddr f, f.seq, 1, s.hem.ticks) :: l } } := by
  obtain ⟨l, hl⟩ := judgeSeq_fresh h.fresh f.seq s.hem.ticks
  refine ⟨l, ?_⟩
  unfold heardOf
  rw [hl]

theorem plain_flags (h : f.fflags = 0) : Frame.bcast f = false ∧ Frame.domscope f = false ∧ Frame.hopr f = false := by
  unfold Frame.bcast Frame.domscope Frame.hopr
  rw [h]
  exact ⟨rfl, rfl, rfl⟩

theorem flagsOk_plain (h : f.fflags = 0) : Frame.flagsOk f = true := by
  obtain ⟨h1, h2, h3⟩ := plain_flags h
  unfold Frame.flagsOk
  rw [h1, h2, h3]
  rfl

/-- The form of a frame of version 2 (R424). -/
theorem exists_two (h1 : 1 ≤ f.ftype) (h7 : f.ftype ≤ 7) (hp : f.ftype = 7 → f.payload = []) (hf : Frame.flagsOk f = true) :
    Frame.exists_ 2 f = true := by
  have hpay : (decide (f.ftype ≠ 7) || f.payload.isEmpty) = true := by
    by_cases h : f.ftype = 7
    · rw [hp h]
      exact Bool.or_true _
    · rw [decide_eq_true h]
      rfl
  unfold Frame.exists_
  rw [decide_eq_true h1, decide_eq_true h7, hf, hpay]
  rfl

/-- A frame for the module alone is delivered to it and goes no further (R421, R422, R427). -/
theorem arrive_forUs (h : ForUs p w f s) (he : Frame.exists_ 2 f = true) (hr : Frame.reservedTime f = false) (phase resid : Nat) :
    arrive p w phase resid s = deliverFrame p (oneHop f) (found p (oneHop f) phase s) true (heardOf f s) := by
  obtain ⟨hb, hd, hh⟩ := plain_flags h.plain
  obtain ⟨l, hl⟩ := judgeSeq_fresh h.fresh f.seq s.hem.ticks
  have hj : s.seam.judgeSeq (Frame.srcAddr (oneHop f)) (oneHop f).seq s.hem.ticks = s.seam.judgeSeq (Frame.srcAddr f) f.seq s.hem.ticks := rfl
  have hun : Frame.unjudged (oneHop f) = false := by
    have hu : Frame.unjudged (oneHop f) = (Frame.hopr f || Frame.srcNone f) := rfl
    rw [hu, hh, h.source]
    rfl
  have hown : ¬ s.seam.addr = some (Frame.srcAddr (oneHop f)) := by
    rw [h.dst]
    exact fun hn => h.other (Option.some.inj hn)
  unfold arrive
  rw [if_neg (by rw [h.on, h.up]; decide), h.good]
  dsimp only
  rw [taken_two h.version, h.version, if_neg (by rw [he]; decide), if_neg (by rw [show Frame.reservedTime (oneHop f) = Frame.reservedTime f from rfl, hr]; decide),
    if_neg (by rw [hun]; decide), if_neg hown, if_pos (by rw [hj, hl])]
  have hme : Frame.forMe (heardOf f s) (oneHop f) = true := by
    have hm : Frame.forMe (heardOf f s) (oneHop f) = (decide ((heardOf f s).seam.addr = some f.dst) && !Frame.bcast f && !Frame.domscope f) := rfl
    have ha : (heardOf f s).seam.addr = some f.dst := by
      unfold heardOf
      rw [hl]
      exact h.dst
    rw [hm, hb, hd, decide_eq_true ha]
    rfl
  have hhere : Frame.here (heardOf f s) (oneHop f) = true := by
    have ha : decide ((heardOf f s).seam.addr = some (oneHop f).dst) = true := by
      have hm := hme
      unfold Frame.forMe at hm
      rw [Bool.and_eq_true, Bool.and_eq_true] at hm
      exact hm.1.1
    unfold Frame.here
    rw [if_neg (by rw [show Frame.hopr (oneHop f) = Frame.hopr f from rfl, hh]; exact Bool.false_ne_true), ha]
    simp
  have honward : ∀ c, Frame.onward (heardOf f s) (oneHop f) c = none := fun c => by
    unfold Frame.onward
    rw [if_neg (by rw [show Frame.hopr (oneHop f) = Frame.hopr f from rfl, hh]; exact Bool.false_ne_true), hme]
    rfl
  have hs : ({ bump s with seam := (s.seam.judgeSeq (Frame.srcAddr (oneHop f)) (oneHop f).seq s.hem.ticks).2 } : State) = heardOf f s := rfl
  rw [hs]
  unfold route
  rw [honward, hhere, hme, Bool.or_true]
  rfl

theorem deliverFrame_wake (hf : f.ftype = 7) (ofs : Int) (s : State) : deliverFrame p f ofs true s = wakeReq (.seamFrame p) s := by
  unfold deliverFrame
  dsimp only
  rw [Bool.true_or, if_pos hf]
  exact if_pos rfl

theorem deliverFrame_acts (hf : f.ftype ≠ 7) (hr : s.proto.running = true) (ofs : Int) :
    deliverFrame p f ofs true s = actFrame p f s.hem.ticks ofs (wakeReq (.seamFrame p) s) := by
  unfold deliverFrame
  dsimp only
  rw [Bool.true_or, if_neg hf, if_pos rfl, if_pos hr]

theorem deliverFrame_buffers (hf : f.ftype ≠ 7) (hr : s.proto.running = false) (hb : s.seam.rxBuf.length < 8) (ofs : Int) :
    deliverFrame p f ofs true s = { wakeReq (.seamFrame p) s with seam := { (wakeReq (.seamFrame p) s).seam with
      rxBuf := (wakeReq (.seamFrame p) s).seam.rxBuf ++ [(p, f, s.hem.ticks, ofs)] } } := by
  unfold deliverFrame
  dsimp only
  rw [Bool.true_or, if_neg hf, if_pos rfl, if_neg (by rw [hr]; exact Bool.false_ne_true), if_pos hb]

/-- What the heard frame leaves: the module's clock awake, its source noted. -/
theorem wokenBy_is (h : ForUs p w f s) : ∃ l, wokenBy p f s = { s with
    free := s.free + 1, seam := { s.seam with dups := (Frame.srcAddr f, f.seq, 1, s.hem.ticks) :: l }
    pwr := (wokenBy p f s).pwr, clk := (wokenBy p f s).clk } := by
  obtain ⟨l, hl⟩ := heardOf_is h
  have ho := wakeReq_only (.seamFrame p) (heardOf f s)
  refine ⟨l, ?_⟩
  unfold wokenBy
  generalize wakeReq (.seamFrame p) (heardOf f s) = u at ho
  rw [hl] at ho
  exact ho

theorem heard_with (h : ForUs p w f s) (x : Proto) : Heard f s { wokenBy p f s with proto := x } := by
  obtain ⟨l, hl⟩ := wokenBy_is h
  generalize wokenBy p f s = u at hl
  refine ⟨?_, ?_⟩
  · rw [hl]
  · rw [hl]
    exact List.mem_cons_self ..

theorem wokenBy_proto (p : Port) (f : Frame) (s : State) : (wokenBy p f s).proto = s.proto := wakeReq_proto ..

theorem heard_wokenBy (h : ForUs p w f s) : Heard f s (wokenBy p f s) := by
  have hw := heard_with h (wokenBy p f s).proto
  exact hw

/-- A frame for the module acts by its type while the manager runs. -/
theorem arrive_acts (h : ForUs p w f s) (he : Frame.exists_ 2 f = true) (hr : Frame.reservedTime f = false) (h7 : f.ftype ≠ 7)
    (hrun : s.proto.running = true) (phase resid : Nat) :
    arrive p w phase resid s = actFrame p (oneHop f) s.hem.ticks (found p (oneHop f) phase s) (wokenBy p f s) := by
  rw [arrive_forUs h he hr, deliverFrame_acts (f := oneHop f) (s := heardOf f s) h7 hrun]
  rfl

theorem reservedTime_other (h : f.ftype ≠ 4) : Frame.reservedTime f = false := by
  unfold Frame.reservedTime
  rw [decide_eq_false h, Bool.false_and]

theorem reservedTime_low (h : byteAt f.payload 0 < 2) : Frame.reservedTime f = false := by
  unfold Frame.reservedTime
  rw [decide_eq_false (Nat.not_le.mpr h), Bool.and_false]

end Sys2Proof.Machine
end

section
/-! PROOF. O48, continued: what each type of frame does (R421-R442). -/

namespace Sys2Proof.Machine

variable {s t u : State} {p : Port} {w : Wire} {f : Frame}

theorem wokenBy_elsewhere (p : Port) (f : Frame) (s : State) : Elsewhere s (wokenBy p f s) :=
  ⟨wakeReq_cells .., wakeReq_rails .., wakeReq_dom .., wakeReq_crease ..⟩

theorem wokenBy_hem (p : Port) (f : Frame) (s : State) : (wokenBy p f s).hem = s.hem := wakeReq_hem ..

theorem wokenBy_seam (h : ForUs p w f s) : ∃ l, (wokenBy p f s).seam = { s.seam with dups := (Frame.srcAddr f, f.seq, 1, s.hem.ticks) :: l } := by
  obtain ⟨l, hl⟩ := wokenBy_is h
  exact ⟨l, by rw [hl]⟩

theorem wokenBy_dups (h : ForUs p w f s) : (Frame.srcAddr f, f.seq, 1, s.hem.ticks) ∈ (wokenBy p f s).seam.dups := by
  obtain ⟨l, hl⟩ := wokenBy_seam h
  rw [hl]
  exact List.mem_cons_self ..

/-! ## The frame's type -/

theorem actFrame_command (h : f.ftype = 1) (a : Nat) (o : Int) (s : State) : actFrame p f a o s = actCommand p f a s := by
  simp only [actFrame, h]

theorem actFrame_reply (h : f.ftype = 2) (a : Nat) (o : Int) (s : State) : actFrame p f a o s = actReply f s := by
  simp only [actFrame, h]

theorem actFrame_time (h : f.ftype = 4) (a : Nat) (o : Int) (s : State) : actFrame p f a o s =
    if byteAt f.payload 0 = 0 then actSync f a o s else if byteAt f.payload 0 = 1 then actAnnounce f s else s := by
  simp only [actFrame, h]

theorem actFrame_fault (h : f.ftype = 6) (a : Nat) (o : Int) (s : State) : actFrame p f a o s = actFaultEcho f a (decide (o = 1)) s := by
  simp only [actFrame, h]

/-- EVENT and TELEMETRY are for hosts (R428, R429). -/
theorem actFrame_host (h : f.ftype = 3 ∨ f.ftype = 5) (a : Nat) (o : Int) (s : State) : actFrame p f a o s = s := by
  obtain h | h := h <;> simp only [actFrame, h]

/-! ## COMMAND -/

/-- A command that passes its checks waits behind others that pass theirs (R369, R431). -/
theorem receive_waits {src : Source} {rx : Nat} {bs : List Byte} (hl : s.proto.waiting.length < 8) (hw : ∀ x ∈ s.proto.waiting, x.fail = none)
    (hc : receiveCheck bs = none) : receive src false rx bs s = { s with proto := { s.proto with
      waiting := s.proto.waiting ++ [{ src := src, op := fieldAt bs 2 2, ver := byteAt bs 0, tag := byteAt bs 1
                                       params := (bs.drop 6).take (fieldAt bs 4 2), rx := rx, bcast := false }] } } := by
  have hp : packetOf src false rx bs = { src := src, op := fieldAt bs 2 2, ver := byteAt bs 0, tag := byteAt bs 1,
                                         params := (bs.drop 6).take (fieldAt bs 4 2), rx := rx, bcast := false } := by
    unfold packetOf
    rw [hc]
  unfold receive
  dsimp only
  rw [if_pos hl, hp]
  refine serveFailed_head fun x hx => ?_
  obtain hx | hx := List.mem_append.mp (List.mem_of_mem_head? hx)
  · exact hw x hx
  · rw [List.mem_singleton.mp hx]

theorem source_plain (h : ForUs p w f s) : Frame.source p (oneHop f) = .seam (Frame.srcAddr f) :=
  if_neg (by rw [show Frame.srcNone (oneHop f) = Frame.srcNone f from rfl, h.source]; exact Bool.false_ne_true)

theorem actCommand_eq (h : ForUs p w f s) (rx : Nat) (u : State) :
    actCommand p (oneHop f) rx u = receive (.seam (Frame.srcAddr f)) false rx f.payload (resume u) := by
  obtain ⟨hb, hd, -⟩ := plain_flags h.plain
  have hbc : (Frame.bcast (oneHop f) || Frame.domscope (oneHop f)) = (Frame.bcast f || Frame.domscope f) := rfl
  unfold actCommand
  rw [source_plain h, hbc, hb, hd]
  rfl

theorem command_waits (h : ForUs p w f s) (hrun : s.proto.running = true) (hf : f.ftype = 1) (hl : s.proto.waiting.length < 8)
    (hw : ∀ x ∈ s.proto.waiting, x.fail = none) (hc : receiveCheck f.payload = none) : ∃ t, exec (.command p w) s = .next t ∧ Elsewhere s t ∧
      (Frame.srcAddr f, f.seq, 1, s.hem.ticks) ∈ t.seam.dups ∧ t.proto = { s.proto with waiting := s.proto.waiting ++
        [{ src := .seam (Frame.srcAddr f), op := fieldAt f.payload 2 2, ver := byteAt f.payload 0, tag := byteAt f.payload 1,
           params := (f.payload.drop 6).take (fieldAt f.payload 4 2), rx := s.hem.ticks, bcast := false }] } := by
  have ha : arrive p w 0 0 s = actFrame p (oneHop f) s.hem.ticks (found p (oneHop f) 0 s) (wokenBy p f s) :=
    arrive_acts h (exists_two (by omega) (by omega) (by omega) (flagsOk_plain h.plain)) (reservedTime_other (by omega)) (by omega) hrun 0 0
  have hact : actFrame p (oneHop f) s.hem.ticks (found p (oneHop f) 0 s) (wokenBy p f s) = actCommand p (oneHop f) s.hem.ticks (wokenBy p f s) :=
    actFrame_command (f := oneHop f) hf ..
  have hproto := wokenBy_proto p f s
  have hel := wokenBy_elsewhere p f s
  have hd := wokenBy_dups h
  have hx : exec (.command p w) s = .next (arrive p w 0 0 s) := rfl
  rw [ha, hact, actCommand_eq h] at hx
  generalize wokenBy p f s = u at hx hproto hel hd
  rw [receive_waits (s := resume u) (by rw [resume_proto, hproto]; exact hl) (by rw [resume_proto, hproto]; exact hw) hc] at hx
  refine ⟨_, hx, hel, hd, ?_⟩
  rw [resume_proto, hproto]

/-! ## SYNC -/

/-- The link and the count as a time frame finds them (R438, R439). -/
def syncTaken (ofs : Int) (at_ : Nat) (s : State) : State :=
  { s with seam := { s.seam with ofs := ofs, lastSync := some at_ }, hem := { s.hem with slewLeft := 0 } }

theorem actSync_master (h : isMaster s = true) (f : Frame) (at_ : Nat) (ofs : Int) : actSync f at_ ofs s = s := if_pos h

theorem actSync_slave (h : isMaster s = false) (f : Frame) (at_ : Nat) (ofs : Int) : actSync f at_ ofs s =
    if 65536 < ofs.natAbs then
      if decide (byteAt f.payload 1 % 2 = 0) then clearSuspect (domainStep (-ofs) (syncTaken ofs at_ s)) else domainStep (-ofs) (syncTaken ofs at_ s)
    else if s.hem.disc = .tracking ∧ roundDiv ofs 65536 ≠ 0 then
      if decide (byteAt f.payload 1 % 2 = 0) then clearSuspect (domainStep (-(roundDiv ofs 65536 * 65536)) (syncTaken ofs at_ s))
      else domainStep (-(roundDiv ofs 65536 * 65536)) (syncTaken ofs at_ s)
    else if ofs.natAbs ≤ 2 ∧ decide (byteAt f.payload 1 % 2 = 0) then
      clearSuspect (if s.hem.disc = .tracking then syncTaken ofs at_ s
        else { syncTaken ofs at_ s with hem := { (syncTaken ofs at_ s).hem with slewLeft := -ofs } })
    else if s.hem.disc = .tracking then syncTaken ofs at_ s
      else { syncTaken ofs at_ s with hem := { (syncTaken ofs at_ s).hem with slewLeft := -ofs } } :=
  if_neg (by rw [h]; exact Bool.false_ne_true)

theorem clearSuspect_elsewhere (s : State) : Elsewhere s (clearSuspect s) :=
  ⟨clearSuspect_cells .., clearSuspect_rails .., clearSuspect_dom .., clearSuspect_crease ..⟩

theorem clearSuspect_core (s : State) : (clearSuspect s).seam.core = s.seam.core := by
  rw [clearSuspect, setLine_seamcore]

theorem leaveTracking_count (s : State) : (leaveTracking s).hem.count = s.hem.count := by
  unfold leaveTracking
  split
  · rw [setDisc_hem]
  · rfl

/-- A step of the count by the domain's time (R439). -/
theorem domainStep_is (d : Int) (s : State) : Elsewhere s (domainStep d s) ∧
    (domainStep d s).seam.core = ({ s.seam with flags := s.seam.flags ||| 0x200 } : Seam).core ∧
    (domainStep d s).hem.count = (s.hem.shift d).count := by
  refine ⟨⟨domainStep_cells .., domainStep_rails .., domainStep_dom .., domainStep_crease ..⟩, ?_, ?_⟩
  · have h := (seamSet_told 0x200 (leaveTracking (stepCount d s))).core
    have hc : (leaveTracking (stepCount d s)).seam.core = s.seam.core := by rw [leaveTracking_seamcore, stepCount_seamcore]
    unfold domainStep
    rw [h]
    generalize (leaveTracking (stepCount d s)).seam = x at hc
    have hf : x.flags = s.seam.flags := Seam.get hc Seam.flags (fun _ => rfl)
    rw [hf]
    exact congrArg (fun y : Seam => { y with flags := s.seam.flags ||| 0x200 }) hc
  · unfold domainStep
    rw [seamSet_hem, leaveTracking_count]
    exact Hem.getTiming (stepCount_timing d s) Hem.count (fun _ => rfl)

/-- A SYNC of the master sets the offset, and slews or steps the count (R438, R439). -/
theorem actSync_is (h : isMaster s = false) (f : Frame) (at_ : Nat) (o : Int) : Elsewhere s (actSync f at_ o s) ∧
    (actSync f at_ o s).seam.ofs = o ∧ (actSync f at_ o s).seam.lastSync = some at_ ∧
    (s.hem.disc ≠ .tracking → o.natAbs ≤ 65536 → (actSync f at_ o s).hem.count = s.hem.count ∧ (actSync f at_ o s).hem.slewLeft = -o) ∧
    (65536 < o.natAbs → (actSync f at_ o s).hem.count = (((s.hem.count : Int) - o) % (2 ^ 64 : Int)).toNat ∧
      (actSync f at_ o s).seam.flags.getLsbD 9 = true) := by
  have hstep : ∀ d : Int, ∀ u, u = domainStep d (syncTaken o at_ s) ∨ u = clearSuspect (domainStep d (syncTaken o at_ s)) →
      Elsewhere s u ∧ u.seam.ofs = o ∧ u.seam.lastSync = some at_ ∧ u.hem.count = (s.hem.shift d).count ∧ u.seam.flags.getLsbD 9 = true := by
    intro d u hu
    obtain ⟨h1, h2, h3⟩ := domainStep_is d (syncTaken o at_ s)
    have h1' : Elsewhere s (domainStep d (syncTaken o at_ s)) := h1
    have h3' : (domainStep d (syncTaken o at_ s)).hem.count = (s.hem.shift d).count := h3
    generalize domainStep d (syncTaken o at_ s) = v at *
    have hv : u.seam.core = v.seam.core ∧ Elsewhere s u ∧ u.hem.count = v.hem.count := by
      obtain rfl | rfl := hu
      · exact ⟨rfl, h1', rfl⟩
      · exact ⟨clearSuspect_core v, h1'.trans (clearSuspect_elsewhere v), by rw [clearSuspect_hem]⟩
    obtain ⟨hc, he, hn⟩ := hv
    have hcore := hc.trans h2
    refine ⟨he, Seam.get hcore Seam.ofs (fun _ => rfl), Seam.get hcore Seam.lastSync (fun _ => rfl), hn.trans h3', ?_⟩
    rw [Seam.get hcore Seam.flags (fun _ => rfl), BitVec.getLsbD_or]
    exact Bool.or_true _
  rw [actSync_slave h]
  by_cases hbig : 65536 < o.natAbs
  · rw [if_pos hbig]
    obtain ⟨h1, h2, h3, h4, h5⟩ := hstep (-o) (if decide (byteAt f.payload 1 % 2 = 0) then clearSuspect (domainStep (-o) (syncTaken o at_ s))
      else domainStep (-o) (syncTaken o at_ s)) (by split; exacts [.inr rfl, .inl rfl])
    exact ⟨h1, h2, h3, fun _ hs => absurd hbig (Nat.not_lt.mpr hs), fun _ => ⟨h4, h5⟩⟩
  · rw [if_neg hbig]
    by_cases hsec : s.hem.disc = .tracking ∧ roundDiv o 65536 ≠ 0
    · rw [if_pos hsec]
      obtain ⟨h1, h2, h3, -, -⟩ := hstep (-(roundDiv o 65536 * 65536)) (if decide (byteAt f.payload 1 % 2 = 0) then
        clearSuspect (domainStep (-(roundDiv o 65536 * 65536)) (syncTaken o at_ s)) else domainStep (-(roundDiv o 65536 * 65536)) (syncTaken o at_ s))
        (by split; exacts [.inr rfl, .inl rfl])
      exact ⟨h1, h2, h3, fun hn _ => absurd hsec.1 hn, fun hb => absurd hb hbig⟩
    · rw [if_neg hsec]
      have hslew : ∀ v : State, v = (if s.hem.disc = .tracking then syncTaken o at_ s
          else { syncTaken o at_ s with hem := { (syncTaken o at_ s).hem with slewLeft := -o } }) →
          Elsewhere s v ∧ v.seam.ofs = o ∧ v.seam.lastSync = some at_ ∧ v.hem.count = s.hem.count ∧
          (s.hem.disc ≠ .tracking → v.hem.slewLeft = -o) := by
        rintro v rfl
        split
        · exact ⟨⟨rfl, rfl, rfl, rfl⟩, rfl, rfl, rfl, fun hn => absurd ‹_› hn⟩
        · exact ⟨⟨rfl, rfl, rfl, rfl⟩, rfl, rfl, rfl, fun _ => rfl⟩
      obtain ⟨h1, h2, h3, h4, h5⟩ := hslew _ rfl
      generalize (if s.hem.disc = .tracking then syncTaken o at_ s
          else { syncTaken o at_ s with hem := { (syncTaken o at_ s).hem with slewLeft := -o } }) = v at *
      split
      · have hc := clearSuspect_core v
        refine ⟨h1.trans (clearSuspect_elsewhere v), (Seam.get hc Seam.ofs (fun _ => rfl)).trans h2,
          (Seam.get hc Seam.lastSync (fun _ => rfl)).trans h3, fun hn _ => ?_, fun hb => absurd hb hbig⟩
        rw [clearSuspect_hem]
        exact ⟨h4, h5 hn⟩
      · exact ⟨h1, h2, h3, fun hn _ => ⟨h4, h5 hn⟩, fun hb => absurd hb hbig⟩

theorem isMaster_wokenBy (h : ForUs p w f s) : isMaster (wokenBy p f s) = isMaster s := by
  obtain ⟨l, hl⟩ := wokenBy_seam h
  unfold isMaster
  rw [hl]

/-- A time frame for the module acts as a SYNC (R438). -/
theorem sync_acts (h : ForUs p w f s) (hrun : s.proto.running = true) (hf : f.ftype = 4) (h0 : byteAt f.payload 0 = 0) (phase resid : Nat) :
    exec (.sync p w phase resid) s = .next (actSync (oneHop f) s.hem.ticks (syncOffset s p f phase) (wokenBy p f s)) := by
  have hx : exec (.sync p w phase resid) s = .next (arrive p w phase resid s) := rfl
  have ha : arrive p w phase resid s = actFrame p (oneHop f) s.hem.ticks (found p (oneHop f) phase s) (wokenBy p f s) :=
    arrive_acts h (exists_two (by omega) (by omega) (by omega) (flagsOk_plain h.plain)) (reservedTime_low (by omega)) (by omega) hrun phase resid
  have hfd : found p (oneHop f) phase s = syncOffset s p f phase := by
    unfold found
    rw [if_neg (by rw [show (oneHop f).ftype = f.ftype from rfl, hf]; decide), if_pos (show (oneHop f).ftype = 4 from hf)]
    rfl
  rw [hx, ha, hfd, actFrame_time (f := oneHop f) hf]
  exact congrArg Host.Outcome.next (if_pos h0)

theorem sync_slaves (h : ForUs p w f s) (hrun : s.proto.running = true) (hf : f.ftype = 4) (h0 : byteAt f.payload 0 = 0) {phase resid : Nat} {o : Int}
    (hm : isMaster s = false) (ho : o = syncOffset s p f phase) : ∃ t, exec (.sync p w phase resid) s = .next t ∧ Elsewhere s t ∧ t.seam.ofs = o ∧
      t.seam.lastSync = some s.hem.ticks ∧
      (s.hem.disc ≠ .tracking → o.natAbs ≤ 65536 → t.hem.count = s.hem.count ∧ t.hem.slewLeft = -o) ∧
      (65536 < o.natAbs → t.hem.count = (((s.hem.count : Int) - o) % (2 ^ 64 : Int)).toNat ∧ t.seam.flags.getLsbD 9 = true) := by
  have hx := sync_acts h hrun hf h0 phase resid
  have hmw := isMaster_wokenBy h
  have hel := wokenBy_elsewhere p f s
  have hh := wokenBy_hem p f s
  rw [← ho] at hx
  generalize wokenBy p f s = u at hx hmw hel hh
  obtain ⟨h1, h2, h3, h4, h5⟩ := actSync_is (hmw.trans hm) (oneHop f) s.hem.ticks o
  rw [hh] at h4 h5
  exact ⟨_, hx, hel.trans h1, h2, h3, h4, h5⟩

end Sys2Proof.Machine
end

section
/-! PROOF. O48, continued: announcements, fault echoes, frames that do not act, and the obligation (R421-R442). -/

namespace Sys2Proof.Machine

variable {s t u : State} {p : Port} {w : Wire} {f : Frame}

/-! ## REPLY, EVENT, TELEMETRY and WAKE -/

theorem reply_noted (h : ForUs p w f s) (hrun : s.proto.running = true) (hf : f.ftype = 2) : ∃ t, exec (.reply p w) s = .next t ∧ Heard f s t ∧
    t.proto = { s.proto with versions := t.proto.versions } ∧ (helloVersion f.payload = none → t.proto = s.proto) ∧
    ∀ v, helloVersion f.payload = some v → t.proto.versions = noteVersion (.seam (Frame.srcAddr f)) v true s.proto.versions := by
  have ha : arrive p w 0 0 s = actFrame p (oneHop f) s.hem.ticks (found p (oneHop f) 0 s) (wokenBy p f s) :=
    arrive_acts h (exists_two (by omega) (by omega) (by omega) (flagsOk_plain h.plain)) (reservedTime_other (by omega)) (by omega) hrun 0 0
  have hx : exec (.reply p w) s = .next (actReply (oneHop f) (wokenBy p f s)) :=
    congrArg Host.Outcome.next (ha.trans (actFrame_reply (f := oneHop f) hf ..))
  have hp := wokenBy_proto p f s
  have hh := heard_with h
  generalize wokenBy p f s = u at hx hp hh
  cases hv : helloVersion f.payload with
  | none =>
    have hr : actReply (oneHop f) u = u := by
      unfold actReply
      rw [show helloVersion (oneHop f).payload = none from hv]
    exact ⟨u, by rw [hx, hr], hh u.proto, by rw [hp], fun _ => hp, fun v hn => (nomatch hn)⟩
  | some v =>
    have hr : actReply (oneHop f) u = { u with proto := { u.proto with
        versions := noteVersion (.seam (Frame.srcAddr f)) v true u.proto.versions } } := by
      unfold actReply
      rw [show helloVersion (oneHop f).payload = some v from hv]
      rfl
    refine ⟨{ u with proto := { u.proto with versions := noteVersion (.seam (Frame.srcAddr f)) v true u.proto.versions } }, by rw [hx, hr], hh _, ?_,
      fun hn => (nomatch hn), fun v' hv' => ?_⟩
    · rw [hp]
    · obtain rfl := Option.some.inj hv'
      rw [hp]

theorem host_ignores (h : ForUs p w f s) (hrun : s.proto.running = true) (hf : f.ftype = 3 ∨ f.ftype = 5) :
    arrive p w 0 0 s = wokenBy p f s := by
  rw [arrive_acts h (exists_two (by omega) (by omega) (by omega) (flagsOk_plain h.plain)) (reservedTime_other (by omega)) (by omega) hrun 0 0]
  exact actFrame_host (f := oneHop f) hf ..

theorem wake_wakes (h : ForUs p w f s) (hf : f.ftype = 7) (hp : f.payload = []) : exec (.wake p w) s = .next (wokenBy p f s) := by
  have hx : exec (.wake p w) s = .next (arrive p w 0 0 s) := rfl
  rw [hx, arrive_forUs h (exists_two (by omega) (by omega) (fun _ => hp) (flagsOk_plain h.plain)) (reservedTime_other (by omega)),
    deliverFrame_wake (f := oneHop f) hf]
  rfl

theorem wokenBy_wakes (h : ForUs p w f s) (hst : s.pwr.st = .hibernate) (hw : s.pwr.wake = none) : (wokenBy p f s).pwr.wake = some (.seamFrame p) :=
  wakeReq_wakes (s := heardOf f s) _ h.on hst hw

/-! ## ANNOUNCE -/

theorem announce_keeps (h : ForUs p w f s) (hrun : s.proto.running = true) (hf : f.ftype = 4) (h1 : byteAt f.payload 0 = 1)
    (hd : fieldAt f.payload 4 2 % 4096 ≠ s.seam.domain) : ∃ t, exec (.announce p w) s = .next t ∧
      t = { s with free := s.free + 1, seam := { s.seam with dups := t.seam.dups, members := t.seam.members }, pwr := t.pwr, clk := t.clk } ∧
      t.seam.members = memberOf f s.hem.ticks :: s.seam.members.filter (fun x => decide (x.addr ≠ Frame.srcAddr f)) := by
  have ha : arrive p w 0 0 s = actFrame p (oneHop f) s.hem.ticks (found p (oneHop f) 0 s) (wokenBy p f s) :=
    arrive_acts h (exists_two (by omega) (by omega) (by omega) (flagsOk_plain h.plain)) (reservedTime_low (by omega)) (by omega) hrun 0 0
  have hact := actFrame_time (p := p) (f := oneHop f) hf s.hem.ticks (found p (oneHop f) 0 s) (wokenBy p f s)
  rw [if_neg (by rw [show (oneHop f).payload = f.payload from rfl, h1]; decide), if_pos (show byteAt (oneHop f).payload 0 = 1 from h1)] at hact
  have hx : exec (.announce p w) s = .next (actAnnounce (oneHop f) (wokenBy p f s)) := congrArg Host.Outcome.next (ha.trans hact)
  obtain ⟨l, hl⟩ := wokenBy_is h
  generalize wokenBy p f s = u at hx hl
  have hdom : u.seam.domain = s.seam.domain := by rw [hl]
  have hother : (memberOf (oneHop f) u.hem.ticks).domain ≠ u.seam.domain := by
    rw [hdom]
    exact hd
  have hkeep : actAnnounce (oneHop f) u = { u with seam := { u.seam with
      members := memberOf (oneHop f) u.hem.ticks :: u.seam.members.filter (fun x => decide (x.addr ≠ (memberOf (oneHop f) u.hem.ticks).addr)) } } := by
    unfold actAnnounce
    dsimp only
    rw [decide_eq_false hother, Bool.and_false, Bool.false_and, Bool.false_and, if_neg Bool.false_ne_true, if_neg Bool.false_ne_true]
  rw [hkeep] at hx
  refine ⟨_, hx, ?_, ?_⟩
  · rw [hl]
  · rw [hl]
    rfl

/-! ## Fault echoes -/

/-- The echo kept, of which copies are not acted on (R442). -/
def echoKept (f : Frame) (at_ : Nat) (s : State) : State :=
  { s with seam := { s.seam with echoes := [(Frame.srcAddr f, byteAt f.payload 1, at_)] } }

theorem actFaultEcho_reserved (h : byteAt f.payload 0 = 0 ∨ 3 < byteAt f.payload 0) (a : Nat) (b : Bool) : actFaultEcho f a b s = s := if_pos h

theorem actFaultEcho_first (he : s.seam.echoes = []) (h : ¬ (byteAt f.payload 0 = 0 ∨ 3 < byteAt f.payload 0)) (a : Nat) (b : Bool) :
    actFaultEcho f a b s = actEcho (byteAt f.payload 0) b (echoKept f a s) := by
  unfold actFaultEcho
  dsimp only
  rw [if_neg h, he]
  rfl

/-- A fault echo for the module is acted on with what is known of FAULT_N (R442). -/
theorem faultEcho_acts (h : ForUs p w f s) (hrun : s.proto.running = true) (hf : f.ftype = 6) : exec (.faultEcho p w) s =
    .next (actFaultEcho (oneHop f) s.hem.ticks (faultNRecent s) (wokenBy p f s)) := by
  have ha : arrive p w 0 0 s = actFrame p (oneHop f) s.hem.ticks (found p (oneHop f) 0 s) (wokenBy p f s) :=
    arrive_acts h (exists_two (by omega) (by omega) (by omega) (flagsOk_plain h.plain)) (reservedTime_other (by omega)) (by omega) hrun 0 0
  have hr : decide (found p (oneHop f) 0 s = 1) = faultNRecent s := by
    unfold found
    rw [if_pos (show (oneHop f).ftype = 6 from hf)]
    cases faultNRecent s <;> rfl
  have hx : exec (.faultEcho p w) s = .next (arrive p w 0 0 s) := rfl
  rw [hx, ha, actFrame_fault (f := oneHop f) hf, hr]

theorem faultNRecent_true {x : Nat} (h : s.dom.fnAt = some x) (ht : s.hem.ticks ≤ x + 2) : faultNRecent s = true := by
  unfold faultNRecent
  rw [h]
  dsimp only
  rw [decide_eq_true ht, Bool.true_or]

theorem faultNRecent_false (h : ∀ x, s.dom.fnAt = some x → x + 4 < s.hem.ticks) : faultNRecent s = false := by
  unfold faultNRecent
  cases hx : s.dom.fnAt with
  | none => rfl
  | some x =>
    have hlt := h x hx
    dsimp only
    rw [decide_eq_false (by omega), decide_eq_false (by omega)]
    rfl

theorem actEcho_one (b : Bool) (s : State) : actEcho 1 b s = if b then s else faultIn 1 (seqSet 0x10 s) := rfl

theorem actEcho_two (b : Bool) (s : State) : actEcho 2 b s =
    if s.dom.st = .down then enterLatched (capture 0x0A 2 s) else enterFalling true (capture 0x0A 2 s) := rfl

theorem actEcho_three (b : Bool) (s : State) : actEcho 3 b s = enterFalling false (capture 0x0A 3 s) := rfl

/-- The module shut off by a fault of another (R238). -/
theorem faultIn_is (n : Nat) (s : State) : (faultIn n s).dom.st = .latched ∧ (faultIn n s).armQ = [] ∧
    (∀ c : Fin 256, (faultIn n s).cells[c] = if s.cells[c].st = .retired then s.cells[c] else s.cells[c].turnOff) := by
  have h : (faultIn n s).dom.core = (shutOff s).dom.core ∧ (faultIn n s).armQ = (shutOff s).armQ ∧ (faultIn n s).cells = (shutOff s).cells := by
    unfold faultIn
    split
    · exact ⟨rfl, rfl, rfl⟩
    · exact ⟨capture_domcore .., capture_armQ .., capture_cells ..⟩
  obtain ⟨hd, ha, hc⟩ := h
  refine ⟨(Dom.get hd Dom.st (fun _ => rfl)).trans (Dom.get (shutOff_domcore s) Dom.st (fun _ => rfl)), ha.trans (shutOff_armQ s), fun c => ?_⟩
  rw [← shutOff_cell c s]
  exact congrArg (fun v : Vector Cell 256 => v[c]) hc

theorem enterLatched_st (s : State) : (enterLatched s).dom.st = .latched := Dom.get (enterLatched_domcore s) Dom.st (fun _ => rfl)

theorem enterFalling_stays {latch : Bool} (h1 : s.dom.st ≠ .rising) (h2 : s.dom.st ≠ .up) :
    (enterFalling latch s).dom.st = s.dom.st ∧ (enterFalling latch s).cells = s.cells := by
  unfold enterFalling
  split
  · exact ⟨rfl, rfl⟩
  · rw [if_neg (fun hn => hn.elim h1 h2)]
    exact ⟨rfl, rfl⟩

theorem echoKept_wokenBy (h : ForUs p w f s) (he : s.seam.echoes = []) (h1 : byteAt f.payload 0 ≠ 0) (h3 : byteAt f.payload 0 ≤ 3) (b : Bool) :
    actFaultEcho (oneHop f) s.hem.ticks b (wokenBy p f s) = actEcho (byteAt f.payload 0) b (echoKept f s.hem.ticks (wokenBy p f s)) := by
  obtain ⟨l, hl⟩ := wokenBy_seam h
  exact actFaultEcho_first (f := oneHop f) (by rw [hl]; exact he) (fun hn => hn.elim h1 fun hn => Nat.not_lt.mpr h3 hn) ..

theorem faultEcho_shuts (h : ForUs p w f s) (hrun : s.proto.running = true) (hf : f.ftype = 6) (he : s.seam.echoes = [])
    (hk : byteAt f.payload 0 = 1) (hn : ∀ x, s.dom.fnAt = some x → x + 4 < s.hem.ticks) : ∃ t, exec (.faultEcho p w) s = .next t ∧
      t.dom.st = .latched ∧ t.armQ = [] ∧ (∀ c : Fin 256, t.cells[c] = if s.cells[c].st = .retired then s.cells[c] else s.cells[c].turnOff) ∧
      (Frame.srcAddr f, byteAt f.payload 1, s.hem.ticks) ∈ t.seam.echoes := by
  have hx := faultEcho_acts h hrun hf
  rw [faultNRecent_false hn, echoKept_wokenBy h he (by omega) (by omega), hk, actEcho_one, if_neg Bool.false_ne_true] at hx
  have hc : (seqSet 0x10 (echoKept f s.hem.ticks (wokenBy p f s))).cells = s.cells := by
    rw [seqSet_cells]
    exact wakeReq_cells ..
  have hs : (faultIn 1 (seqSet 0x10 (echoKept f s.hem.ticks (wokenBy p f s)))).seam.core = (echoKept f s.hem.ticks (wokenBy p f s)).seam.core := by
    rw [faultIn_seamcore, seqSet_seamcore]
  have hm : (Frame.srcAddr f, byteAt f.payload 1, s.hem.ticks) ∈ (echoKept f s.hem.ticks (wokenBy p f s)).seam.echoes := List.mem_cons_self ..
  obtain ⟨h1, h2, h3⟩ := faultIn_is 1 (seqSet 0x10 (echoKept f s.hem.ticks (wokenBy p f s)))
  rw [hc] at h3
  refine ⟨_, hx, h1, h2, h3, ?_⟩
  rw [Seam.get hs Seam.echoes (fun _ => rfl)]
  exact hm

end Sys2Proof.Machine
end

section
/-! PROOF. O48, concluded: frames that are refused, repeated, spoiled or sent on, and the obligation (R421-R431). -/

namespace Sys2Proof.Machine

variable {s t u : State} {p : Port} {w : Wire} {f : Frame}

theorem arrive_dark (h : s.off = true ∨ (s.seam.port p).link ≠ .up) (phase resid : Nat) : arrive p w phase resid s = s := if_pos h

theorem on_up {P : Prop} (ho : s.off = false) (hu : (s.seam.port p).link = .up) (h : s.off = true ∨ (s.seam.port p).link ≠ .up) : P :=
  absurd h fun hn => hn.elim (fun hn => Bool.false_ne_true (ho.symm.trans hn)) fun hn => hn hu

theorem arrive_badForm (ho : s.off = false) (hu : (s.seam.port p).link = .up) (hr : Wire.read w = .badForm) :
    arrive p w 0 0 s = { s with seam := { s.seam with rxBad := sat16 s.seam.rxBad 1 } } := by
  unfold arrive
  dsimp only
  rw [if_neg (on_up ho hu), hr]

theorem arrive_badCrc (ho : s.off = false) (hu : (s.seam.port p).link = .up) (hr : Wire.read w = .badCrc f) : arrive p w 0 0 s =
    spoilCopy p (Frame.taken s p f) (modPort p (fun y => { y with crcErrs := sat16 y.crcErrs 1 }) s) := by
  unfold arrive
  dsimp only
  rw [if_neg (on_up ho hu), hr]

/-- A frame whose bytes are in order is judged by its form, its source and its sequence (R424, R427). -/
theorem arrive_good (ho : s.off = false) (hu : (s.seam.port p).link = .up) (hv : (s.seam.port p).ver = 2) (hr : Wire.read w = .good f) :
    arrive p w 0 0 s =
      if Frame.exists_ 2 f = false then { s with seam := { s.seam with rxBad := sat16 s.seam.rxBad 1 } }
      else if Frame.reservedTime (oneHop f) then s
      else if Frame.unjudged (oneHop f) then route p (oneHop f) (found p (oneHop f) 0 s) ((s.seam.port p).dly + 0) (bump s)
      else if s.seam.addr = some (Frame.srcAddr (oneHop f)) then ownFrame p (oneHop f) s
      else if (s.seam.judgeSeq (Frame.srcAddr (oneHop f)) (oneHop f).seq s.hem.ticks).1 then
        route p (oneHop f) (found p (oneHop f) 0 s) ((s.seam.port p).dly + 0)
          { bump s with seam := (s.seam.judgeSeq (Frame.srcAddr (oneHop f)) (oneHop f).seq s.hem.ticks).2 }
      else { s with seam := (s.seam.judgeSeq (Frame.srcAddr (oneHop f)) (oneHop f).seq s.hem.ticks).2 } := by
  unfold arrive
  dsimp only
  rw [if_neg (on_up ho hu), hr]
  dsimp only
  rw [taken_two hv, hv]

theorem exists_bad (h : f.ftype = 0 ∨ 7 < f.ftype ∨ (f.ftype = 7 ∧ f.payload ≠ []) ∨ Frame.flagsOk f = false) : Frame.exists_ 2 f = false := by
  refine Bool.eq_false_of_not_eq_true fun he => ?_
  unfold Frame.exists_ at he
  simp only [Bool.and_eq_true, decide_eq_true_eq, Bool.or_eq_true, List.isEmpty_iff] at he
  obtain ⟨⟨⟨⟨h1, h7⟩, hf⟩, hp⟩, -⟩ := he
  obtain h | h | ⟨h, hn⟩ | h := h
  · omega
  · omega
  · exact hp.elim (fun hp => hp h) hn
  · exact Bool.false_ne_true (h.symm.trans hf)

/-- A frame heard before is not new (R427). -/
theorem judgeSeq_repeated {x : Seam} {src seq now : Nat} {m : BitVec 64} (h : x.dups = [(src, seq, m, now)]) (hm : m.getLsbD 0 = true) :
    ∃ l, x.judgeSeq src seq now = (false, { x with dups := l }) := by
  unfold Seam.judgeSeq
  dsimp only
  have hlive : x.dups.filter (fun d => decide (now ≤ d.2.2.2 + 10 * oneSecond)) = [(src, seq, m, now)] := by
    rw [h]
    exact List.filter_cons_of_pos (decide_eq_true (Nat.le_add_right ..))
  have ha : (seq + 65536 - seq) % 65536 = 0 := by omega
  have hfind : List.find? (fun d => decide (d.1 = src)) [(src, seq, m, now)] = some (src, seq, m, now) :=
    List.find?_cons_of_pos (decide_eq_true (rfl : src = src))
  rw [hlive, hfind]
  dsimp only
  rw [ha, if_neg (by omega), if_pos (by omega), hm]
  exact ⟨_, rfl⟩

/-! ## A frame for another -/

theorem onward_other (ha : s.seam.addr ≠ some f.dst) (hh : Frame.hopr f = false) (hr : 1 < f.rem) (hf : f.ftype = 3) (c : Nat) :
    Frame.onward s (oneHop f) c = some { f with hops := (f.hops + 1) % 4096, rem := f.rem - 1 } := by
  have hme : Frame.forMe s (oneHop f) = false := by
    have hm : Frame.forMe s (oneHop f) = (decide (s.seam.addr = some f.dst) && !Frame.bcast f && !Frame.domscope f) := rfl
    rw [hm, decide_eq_false ha]
    rfl
  have hcorr : addCorr (oneHop f) c = oneHop f := if_neg fun hn => by
    have h4 : f.ftype = 4 := hn.1
    omega
  unfold Frame.onward
  rw [if_neg (by rw [show Frame.hopr (oneHop f) = Frame.hopr f from rfl, hh]; exact Bool.false_ne_true), hme, hcorr,
    if_neg (by rw [Bool.false_or]; exact mt of_decide_eq_true (Nat.not_le.mpr hr))]
  rfl

/-- A port that is UP takes the frame given it (R422). -/
theorem onPort_puts {x : Seam} {r : Port} (q : QFrame) (hu : (x.port r).link = .up) (hv : (x.port r).ver ≠ 1) :
    (x.onPort r q).port r = ((x.port r).put q).1 := by
  have hcan : (x.port r).canCarry q.frame = true := by
    unfold PortSt.canCarry
    rw [decide_eq_true hv, Bool.true_or]
  have hon : x.onPort r q = ({ x.modPort r (fun t => (t.put q).1) with fwdDrops := sat16 x.fwdDrops ((x.port r).put q).2 }).markGaps
      ((x.port r).loses q).toList := by
    unfold Seam.onPort
    dsimp only
    rw [if_neg hv, if_neg (not_not.mpr hu), if_pos hcan]
  have hport : (x.onPort r q).port r = (x.modPort r (fun t => (t.put q).1)).port r := by
    rw [hon]
    cases r <;> rfl
  rw [hport, modPort_self]

theorem put_free {y : PortSt} (q : QFrame) (hs : y.sending = none) : (y.put q).1.sending = some q := by
  unfold PortSt.put
  rw [hs]

/-- A fault echo goes before whatever its port sends (R422). -/
theorem put_urgent {y : PortSt} {q : QFrame} (hc : q.cls = 0) : (y.put q).1.sending = some q := by
  unfold PortSt.put
  split
  · rfl
  · rw [if_pos hc]

theorem onPort_sends {x : Seam} {r : Port} (q : QFrame) (hu : (x.port r).link = .up) (hv : (x.port r).ver ≠ 1) (hs : (x.port r).sending = none) :
    ((x.onPort r q).port r).sending = some q := by rw [onPort_puts q hu hv, put_free q hs]

theorem portStep_onPort (r : Port) (q : QFrame) (s : State) : PortStep r s { s with seam := s.seam.onPort r q } := portStep_seam (onPort_other ..)

/-- The frame sent on by the other port (R422). -/
def sentOn (p : Port) (m : Frame) (s : State) : State :=
  { s with seam := s.seam.onPort (Port.other p) { cls := 2, frame := m, reply := none, stream := none } }

theorem unjudged_unaddressed (h : Frame.srcNone f = true) : Frame.unjudged (oneHop f) = true := by
  have hu : Frame.unjudged (oneHop f) = (Frame.hopr f || Frame.srcNone f) := rfl
  rw [hu, h, Bool.or_true]

theorem route_sends (ha : s.seam.addr ≠ some f.dst) (hp : f.fflags = 0) (hr : 1 < f.rem) (hf : f.ftype = 3) (ofs : Int) (c : Nat) :
    route p (oneHop f) ofs c s = sentOn p { f with hops := (f.hops + 1) % 4096, rem := f.rem - 1 } s := by
  obtain ⟨hb, hd, hh⟩ := plain_flags hp
  have hhere : Frame.here s (oneHop f) = false := by
    unfold Frame.here
    rw [if_neg (by rw [show Frame.hopr (oneHop f) = Frame.hopr f from rfl, hh]; exact Bool.false_ne_true),
      show Frame.bcast (oneHop f) = Frame.bcast f from rfl, show Frame.domscope (oneHop f) = Frame.domscope f from rfl, hb, hd,
      decide_eq_false (show ¬ s.seam.addr = some (oneHop f).dst from ha)]
    rfl
  have hcls : classOf f.ftype f.payload = 2 := by rw [hf]; rfl
  have hfw : ∀ m : Frame, m.ftype = f.ftype → m.payload = f.payload → forward (Port.other p) m s = sentOn p m s := fun m ht hpay => by
    unfold forward sentOn
    rw [if_neg fun hn => absurd ((ht.trans hf).symm.trans hn.1) (by decide), ht, hpay, hcls]
  unfold route
  rw [hhere, onward_other ha hh hr hf, if_neg Bool.false_ne_true]
  exact hfw _ rfl rfl

/-- A copy that fails its check, once begun on the other port, is spoiled there (R424). -/
theorem spoilCopy_sends (ha : s.seam.addr ≠ some f.dst) (hp : f.fflags = 0) (hr : 1 < f.rem) (hf : f.ftype = 3) (hsn : Frame.srcNone f = true)
    (hv : (s.seam.port p).ver = 2) (hs : (s.seam.port (Port.other p)).sending = none) : spoilCopy p (oneHop f) s = { s with
      seam := s.seam.onPort (Port.other p) { cls := 2, frame := { f with hops := (f.hops + 1) % 4096, rem := f.rem - 1 }, reply := none
                                             stream := none, spoiled := true } } := by
  obtain ⟨-, -, hh⟩ := plain_flags hp
  have hex : Frame.exists_ 2 (oneHop f) = true := exists_two (f := oneHop f) (by rw [show (oneHop f).ftype = 3 from hf]; decide)
    (by rw [show (oneHop f).ftype = 3 from hf]; decide) (fun hn => by rw [show (oneHop f).ftype = 3 from hf] at hn; exact absurd hn (by decide))
    (flagsOk_plain (f := oneHop f) hp)
  have hres : Frame.reservedTime (oneHop f) = false := reservedTime_other (f := oneHop f) (by rw [show (oneHop f).ftype = 3 from hf]; decide)
  have hcls : classOf (oneHop f).ftype (oneHop f).payload = 2 := by rw [show (oneHop f).ftype = 3 from hf]; rfl
  unfold spoilCopy
  dsimp only
  rw [onward_other ha hh hr hf, hv, hex, hres, unjudged_unaddressed hsn, hcls]
  exact if_pos ⟨rfl, .inl (by rw [hs]; rfl)⟩

/-- Whatever a spoiled copy does, it does to the other port's frames (R424). -/
theorem spoilCopy_told (p : Port) (f : Frame) (s : State) : ∃ x, spoilCopy p f s = { s with seam := x } ∧ s.seam.Told x ∧
    x.port p = s.seam.port p := by
  unfold spoilCopy
  dsimp only
  split
  · split
    · refine ⟨_, rfl, onPort_told .., ?_⟩
      have ho := onPort_other s.seam (Port.other p)
      rw [show Port.other (Port.other p) = p by cases p <;> rfl] at ho
      exact ho _
    · exact ⟨s.seam, rfl, .refl _, rfl⟩
  · exact ⟨s.seam, rfl, .refl _, rfl⟩

/-- Settles O48: a frame is judged by its form, its source and its sequence, and acts by its type or goes on. -/
theorem framesAreDelivered : Obligations.FramesAreDelivered := by
  intro p w f s
  refine ⟨fun h hrun => ⟨fun hf hl hw hc => command_waits h hrun hf hl hw hc, fun hf => reply_noted h hrun hf, fun hf => ?_, fun hf => ?_,
      fun hf hp => ?_, fun phase resid hf h0 => ⟨fun hm => ?_, fun o hm ho => sync_slaves h hrun hf h0 hm ho⟩,
      fun hf h1 hd => announce_keeps h hrun hf h1 hd,
      fun hf he => ⟨fun hk => ?_, fun x hk hx ht => ?_, fun hk hn => faultEcho_shuts h hrun hf he hk hn, fun hk hd => ?_, fun hk h1 h2 => ?_⟩⟩,
    fun h hf hrun hb => ?_, fun h => ⟨congrArg Host.Outcome.next (arrive_dark h ..), congrArg Host.Outcome.next (arrive_dark h ..)⟩,
    fun ho hu hv => ⟨fun h => ?_, fun hr hf h2 hfl => ?_, fun m hr hf hfl hh hsn ha hm hd => ?_, fun hr => ?_,
      fun m hf hp hsn ha hrem hu' hv' hs' hm => ⟨fun hr => ?_, fun hr => ?_⟩⟩⟩
  case refine_1 => exact ⟨_, congrArg Host.Outcome.next (host_ignores h hrun (.inl hf)), heard_wokenBy h, wokenBy_proto ..⟩
  case refine_2 => exact ⟨_, congrArg Host.Outcome.next (host_ignores h hrun (.inr hf)), heard_wokenBy h, wokenBy_proto ..⟩
  case refine_3 => exact ⟨_, wake_wakes h hf hp, heard_wokenBy h, wokenBy_proto .., fun hst hw => wokenBy_wakes h hst hw⟩
  case refine_4 =>
    have hx := sync_acts h hrun hf h0 phase resid
    rw [actSync_master (by rw [isMaster_wokenBy h]; exact hm)] at hx
    exact ⟨_, hx, heard_wokenBy h, wokenBy_proto ..⟩
  case refine_5 =>
    have hx := faultEcho_acts h hrun hf
    rw [actFaultEcho_reserved (f := oneHop f) hk] at hx
    exact ⟨_, hx, heard_wokenBy h, wokenBy_proto ..⟩
  case refine_6 =>
    have hx' := faultEcho_acts h hrun hf
    rw [faultNRecent_true hx ht, echoKept_wokenBy h he (by omega) (by omega), hk, actEcho_one, if_pos rfl] at hx'
    exact ⟨_, hx', wokenBy_elsewhere p f s, wokenBy_proto ..⟩
  case refine_7 =>
    have hx := faultEcho_acts h hrun hf
    have hst : (echoKept f s.hem.ticks (wokenBy p f s)).dom.st = .down := by
      rw [show (echoKept f s.hem.ticks (wokenBy p f s)).dom = s.dom from wakeReq_dom ..]
      exact hd
    rw [echoKept_wokenBy h he (by omega) (by omega), hk, actEcho_two, if_pos hst] at hx
    refine ⟨_, hx, enterLatched_st .., ?_⟩
    rw [enterLatched_cells, capture_cells]
    exact wakeReq_cells ..
  case refine_8 =>
    have hx := faultEcho_acts h hrun hf
    have hst : (capture 0x0A 3 (echoKept f s.hem.ticks (wokenBy p f s))).dom.st = s.dom.st := by
      have hc := capture_domcore 0x0A 3 (echoKept f s.hem.ticks (wokenBy p f s))
      rw [show (echoKept f s.hem.ticks (wokenBy p f s)).dom = s.dom from wakeReq_dom ..] at hc
      exact Dom.get hc Dom.st (fun _ => rfl)
    have hcells : (capture 0x0A 3 (echoKept f s.hem.ticks (wokenBy p f s))).cells = s.cells := by
      rw [capture_cells]
      exact wakeReq_cells ..
    rw [echoKept_wokenBy h he (by omega) (by omega), hk, actEcho_three] at hx
    generalize capture 0x0A 3 (echoKept f s.hem.ticks (wokenBy p f s)) = u at hx hst hcells
    obtain ⟨h3, h4⟩ := enterFalling_stays (latch := false) (by rw [hst]; exact h1) (by rw [hst]; exact h2)
    exact ⟨_, hx, h3.trans hst, h4.trans hcells⟩
  case refine_9 =>
    have hx : exec (.command p w) s = .next (arrive p w 0 0 s) := rfl
    rw [arrive_forUs h (exists_two (by omega) (by omega) (by omega) (flagsOk_plain h.plain)) (reservedTime_other (by omega))] at hx
    obtain ⟨l, hl⟩ := heardOf_is h
    have hrx : (heardOf f s).seam.rxBuf = s.seam.rxBuf := by rw [hl]
    have hfound : found p (oneHop f) 0 s = 0 := by
      unfold found
      rw [if_neg (by rw [show (oneHop f).ftype = 1 from hf]; decide), if_neg (by rw [show (oneHop f).ftype = 1 from hf]; decide)]
    rw [deliverFrame_buffers (f := oneHop f) (s := heardOf f s) (by rw [show (oneHop f).ftype = 1 from hf]; decide) hrun (by rw [hrx]; exact hb), hfound] at hx
    refine ⟨_, hx, ?_, wakeReq_proto .., wakeReq_cells .., wakeReq_rails .., wakeReq_dom .., wakeReq_crease ..⟩
    dsimp only
    rw [wakeReq_seam, hrx]
    rfl
  case refine_10 =>
    have hx : exec (.event p w) s = .next (arrive p w 0 0 s) := rfl
    obtain hr | ⟨hr, hbad⟩ := h
    · rw [hx, arrive_badForm ho hu hr]
      rfl
    · rw [hx, arrive_good ho hu hv hr, if_pos (exists_bad hbad)]
      rfl
  case refine_11 =>
    have hx : exec (.announce p w) s = .next (arrive p w 0 0 s) := rfl
    have hres : Frame.reservedTime (oneHop f) = true := by
      have hr' : Frame.reservedTime (oneHop f) = (decide (f.ftype = 4) && decide (2 ≤ byteAt f.payload 0)) := rfl
      rw [hr', decide_eq_true hf, decide_eq_true h2]
      rfl
    rw [hx, arrive_good ho hu hv hr, if_neg (by rw [exists_two (by omega) (by omega) (by omega) hfl]; decide), if_pos hres]
  case refine_12 =>
    have hx : exec (.event p w) s = .next (arrive p w 0 0 s) := rfl
    have hun : Frame.unjudged (oneHop f) = false := by
      have hu' : Frame.unjudged (oneHop f) = (Frame.hopr f || Frame.srcNone f) := rfl
      rw [hu', hh, hsn]
      rfl
    obtain ⟨l, hj⟩ := judgeSeq_repeated (x := s.seam) (src := Frame.srcAddr f) (seq := f.seq) (now := s.hem.ticks) hd hm
    rw [arrive_good ho hu hv hr, if_neg (by rw [exists_two (by omega) (by omega) (by omega) hfl]; decide),
      if_neg (by rw [reservedTime_other (f := oneHop f) (by rw [show (oneHop f).ftype = 3 from hf]; decide)]; decide), if_neg (by rw [hun]; decide),
      if_neg (show ¬ s.seam.addr = some (Frame.srcAddr (oneHop f)) from ha), show s.seam.judgeSeq (Frame.srcAddr (oneHop f)) (oneHop f).seq s.hem.ticks = (false, { s.seam with dups := l }) from hj,
      if_neg Bool.false_ne_true] at hx
    exact ⟨_, hx, rfl⟩
  case refine_13 =>
    have hx : exec (.event p w) s = .next (arrive p w 0 0 s) := rfl
    rw [arrive_badCrc ho hu hr] at hx
    have hm := modPort_port p (fun y => { y with crcErrs := sat16 y.crcErrs 1 }) s
    have ho' := modPort_other s.seam p (fun y => { y with crcErrs := sat16 y.crcErrs 1 })
    have hd : (modPort p (fun y => { y with crcErrs := sat16 y.crcErrs 1 }) s).seam.dups = s.seam.dups := by cases p <;> rfl
    obtain ⟨x, he, htold, hport⟩ := spoilCopy_told p (Frame.taken s p f) (modPort p (fun y => { y with crcErrs := sat16 y.crcErrs 1 }) s)
    rw [he] at hx
    refine ⟨_, hx, rfl, hport.trans hm, (Seam.get htold.core Seam.dups (fun _ => rfl)).trans hd, ?_⟩
    have hsame := (htold.2 (Port.other p)).1
    rw [show (modPort p (fun y => { y with crcErrs := sat16 y.crcErrs 1 }) s).seam.port (Port.other p) = s.seam.port (Port.other p) from ho'] at hsame
    exact hsame
  case refine_14 =>
    have hx : exec (.event p w) s = .next (arrive p w 0 0 s) := rfl
    rw [arrive_good ho hu hv hr, if_neg (by rw [exists_two (by omega) (by omega) (by omega) (flagsOk_plain hp)]; decide),
      if_neg (by rw [reservedTime_other (f := oneHop f) (by rw [show (oneHop f).ftype = 3 from hf]; decide)]; decide),
      if_pos (unjudged_unaddressed hsn), route_sends (s := bump s) ha hp hrem hf, ← hm] at hx
    exact ⟨_, hx, (portStep_onPort (Port.other p) _ s).onePort, onPort_sends _ hu' hv' hs'⟩
  case refine_15 =>
    have hx : exec (.event p w) s = .next (arrive p w 0 0 s) := rfl
    have ho' := modPort_other s.seam p (fun y => { y with crcErrs := sat16 y.crcErrs 1 })
    have haddr : (modPort p (fun y => { y with crcErrs := sat16 y.crcErrs 1 }) s).seam.addr = s.seam.addr := by cases p <;> rfl
    have hver : ((modPort p (fun y => { y with crcErrs := sat16 y.crcErrs 1 }) s).seam.port p).ver = 2 := by
      rw [modPort_port]
      exact hv
    have hother : (modPort p (fun y => { y with crcErrs := sat16 y.crcErrs 1 }) s).seam.port (Port.other p) = s.seam.port (Port.other p) := ho'
    rw [arrive_badCrc ho hu hr, taken_two hv] at hx
    generalize modPort p (fun y => { y with crcErrs := sat16 y.crcErrs 1 }) s = u at hx haddr hver hother
    rw [spoilCopy_sends (by rw [haddr]; exact ha) hp hrem hf hsn hver (by rw [hother]; exact hs'), ← hm] at hx
    exact ⟨_, hx, onPort_sends _ (by rw [hother]; exact hu') (by rw [hother]; exact hv') (by rw [hother]; exact hs')⟩

end Sys2Proof.Machine
end

section
/-! PROOF. O49: what a module says of its domain, and how it judges it (R426-R450). -/

namespace Sys2Proof.Machine

variable {s t u : State} {p : Port} {q : Req}

/-! ## Frames of the module's own -/

/-- The frame a module at address `m` makes (R421). -/
def ownMade (m ftype : Nat) (fl : BitVec 8) (dst dom : Nat) (pay : List Byte) (reply : Option Nat) (stream : Option (Fin 4)) (x : Seam) : QFrame :=
  { cls := classOf ftype pay, reply := reply, stream := stream
    frame := { ftype := ftype, fflags := fl, dst := dst, src := BitVec.ofNat 16 m, rem := 4095, hops := 0, domain := dom, seq := x.seq, payload := pay } }

theorem originate_at {x : Seam} {m : Nat} (ha : x.addr = some m) (ftype : Nat) (fl : BitVec 8) (dst dom : Nat) (pay : List Byte) (r : Option Nat)
    (k : Option (Fin 4)) : x.originate ftype fl dst dom pay r k =
      { (x.onPort .a (ownMade m ftype fl dst dom pay r k x)).onPort .b (ownMade m ftype fl dst dom pay r k x) with seq := (x.seq + 1) % 65536 } := by
  unfold Seam.originate
  rw [ha]
  rfl

theorem originate_without {x : Seam} (ha : x.addr = none) (ftype : Nat) (fl : BitVec 8) (dst dom : Nat) (pay : List Byte) (r : Option Nat)
    (k : Option (Fin 4)) : x.originate ftype fl dst dom pay r k = x := by
  unfold Seam.originate
  rw [ha]

/-- What the first port does with a frame made is what it does with that frame alone. -/
theorem originate_a {x : Seam} {m : Nat} (ha : x.addr = some m) (ftype : Nat) (fl : BitVec 8) (dst dom : Nat) (pay : List Byte) (r : Option Nat)
    (k : Option (Fin 4)) : (x.originate ftype fl dst dom pay r k).a = (x.onPort .a (ownMade m ftype fl dst dom pay r k x)).a := by
  rw [originate_at ha]
  exact onPort_other (x.onPort .a (ownMade m ftype fl dst dom pay r k x)) .b _

theorem originate_seq {x : Seam} {m : Nat} (ha : x.addr = some m) (ftype : Nat) (fl : BitVec 8) (dst dom : Nat) (pay : List Byte) (r : Option Nat)
    (k : Option (Fin 4)) : (x.originate ftype fl dst dom pay r k).seq = (x.seq + 1) % 65536 := by
  rw [originate_at ha]

theorem originate_sends {x : Seam} {m : Nat} (ha : x.addr = some m) (ftype : Nat) (fl : BitVec 8) (dst dom : Nat) (pay : List Byte) (r : Option Nat)
    (k : Option (Fin 4)) (hu : x.a.link = .up) (hv : x.a.ver ≠ 1) (hs : x.a.sending = none) :
    (x.originate ftype fl dst dom pay r k).a.sending = some (ownMade m ftype fl dst dom pay r k x) := by
  rw [originate_a ha]
  exact onPort_sends (r := .a) _ hu hv hs

/-- A fault echo is sent at once, whatever the port sends (R422). -/
theorem originate_echoes {x : Seam} {m : Nat} (ha : x.addr = some m) (fl : BitVec 8) (dst dom : Nat) (pay : List Byte) (r : Option Nat)
    (k : Option (Fin 4)) (hu : x.a.link = .up) (hv : x.a.ver ≠ 1) :
    (x.originate 6 fl dst dom pay r k).a.sending = some (ownMade m 6 fl dst dom pay r k x) := by
  rw [originate_a ha]
  exact (congrArg PortSt.sending (onPort_puts (r := .a) _ hu hv)).trans (put_urgent rfl)

/-! ## Who speaks -/

theorem speaks_iff : speaks s = true ↔ s.proto.running = true ∧ s.pwr.st ≠ .hibernate ∧ s.off = false := by
  simp [speaks, and_assoc]

theorem silent_of (h : s.proto.running = false ∨ s.pwr.st = .hibernate ∨ s.off = true) : ¬ speaks s = true := fun hs => by
  obtain ⟨hr, hh, ho⟩ := speaks_iff.mp hs
  obtain h | h | h := h
  · exact Bool.false_ne_true (h.symm.trans hr)
  · exact hh h
  · exact Bool.false_ne_true (ho.symm.trans h)

theorem not_master_without (h : s.seam.addr = none) : isMaster s = false := by
  unfold isMaster
  rw [h]
  rfl

theorem announceDue_silent (h : ¬ speaks s = true ∨ s.seam.addr = none) : exec .announceDue s = .next s := by
  refine congrArg Host.Outcome.next ?_
  by_cases hs : speaks s = true
  · rw [if_pos hs, originate_without (h.resolve_left (not_not.mpr hs))]
  · exact if_neg hs

theorem syncDue_silent (h : ¬ speaks s = true ∨ isMaster s = false) : exec .syncDue s = .next s :=
  congrArg Host.Outcome.next (if_neg fun ⟨hs, hm⟩ => h.elim (fun h => h hs) fun h => Bool.false_ne_true (h.symm.trans hm))

/-! ## Agreement -/

/-- The judgement of the domain: its causes and the master it follows (R443). -/
theorem setAgree_core (a : AgreeSt) (causes : Nat) (s : State) : (setAgree a causes s).seam.agree = a ∧ (setAgree a causes s).seam.causes = causes ∧
    (setAgree a causes s).seam.master = s.seam.master ∧ (setAgree a causes s).seam.domain = s.seam.domain ∧
    (setAgree a causes s).seam.domainStored = s.seam.domainStored := by
  unfold setAgree
  dsimp only
  generalize hu : ({ s with seam := { s.seam with agree := a, causes := causes, flags := (if a = .disagree ∧ s.seam.agree ≠ .disagree then
    s.seam.flags ||| 0x80 else s.seam.flags) } } : State) = u
  have h := (pulseIf_told (decide (a = .disagree) && decide (s.seam.agree ≠ .disagree)) 530 u).1.core
  subst hu
  exact ⟨Seam.get h Seam.agree (fun _ => rfl), Seam.get h Seam.causes (fun _ => rfl), Seam.get h Seam.master (fun _ => rfl),
    Seam.get h Seam.domain (fun _ => rfl), Seam.get h Seam.domainStored (fun _ => rfl)⟩

/-- A waiting rise goes on without another judgement of the domain (R230). -/
theorem pinUp_judged (s : State) : (pinUp s).seam.agree = s.seam.agree ∧ (pinUp s).seam.causes = s.seam.causes ∧
    (pinUp s).seam.master = s.seam.master := by
  have hr : ∀ u : State, u.seam = s.seam → (enterRising (cancelRestart u)).seam.agree = s.seam.agree ∧
      (enterRising (cancelRestart u)).seam.causes = s.seam.causes ∧ (enterRising (cancelRestart u)).seam.master = s.seam.master := fun u hu => by
    have h : (enterRising (cancelRestart u)).seam.core = s.seam.core := by rw [enterRising_seamcore, cancelRestart_seamcore, hu]
    exact ⟨Seam.get h Seam.agree (fun _ => rfl), Seam.get h Seam.causes (fun _ => rfl), Seam.get h Seam.master (fun _ => rfl)⟩
  unfold pinUp
  split
  · exact ⟨rfl, rfl, rfl⟩
  · split
    · exact ⟨rfl, rfl, rfl⟩
    · split
      · exact ⟨rfl, rfl, rfl⟩
      · have h := (seamSet_told 0x100 (cancelRestart { s with dom := { s.dom with upWait := false } })).core
        exact ⟨Seam.get h Seam.agree (fun _ => rfl), Seam.get h Seam.causes (fun _ => rfl), Seam.get h Seam.master (fun _ => rfl)⟩
      · dsimp only
        split
        · exact ⟨rfl, rfl, rfl⟩
        · exact hr _ rfl

theorem endWait_judged (s : State) : (endWait s).seam.agree = s.seam.agree ∧ (endWait s).seam.causes = s.seam.causes ∧
    (endWait s).seam.master = s.seam.master := by
  unfold endWait
  split
  · exact pinUp_judged s
  · exact ⟨rfl, rfl, rfl⟩

theorem endWait_still (h : s.dom.upWait = false) : endWait s = s := if_neg fun hn => Bool.false_ne_true (h.symm.trans hn.1)

theorem evalAgreement_alone (h : s.seam.addr = none ∨ s.seam.domain = 0) :
    (evalAgreement s).seam.agree = .alone ∧ (evalAgreement s).seam.master = none := by
  have hs := setAgree_core .alone 0 { s with seam := { s.seam with master := none, subst := false, members := heardNow s } }
  have he : evalAgreement s = setAgree .alone 0 { s with seam := { s.seam with master := none, subst := false, members := heardNow s } } := by
    unfold evalAgreement
    split
    · rfl
    · next ha => exact if_pos (h.resolve_left (by rw [ha]; exact Option.some_ne_none _))
  rw [he]
  exact ⟨hs.1, hs.2.2.1⟩

/-- A module of a domain gathers until its time, and then judges what it heard (R443, R444). -/
theorem evalAgreement_domain (ha : s.seam.addr ≠ none) (hd : s.seam.domain ≠ 0) :
    (s.hem.ticks < s.seam.gatherEnd → (evalAgreement s).seam.agree = .gathering) ∧
    (s.seam.gatherEnd ≤ s.hem.ticks → (evalAgreement s).seam.agree = (if disagreeCauses s = 0 then .agreed else .disagree) ∧
      (evalAgreement s).seam.causes = disagreeCauses s) := by
  obtain ⟨m, hm⟩ := Option.ne_none_iff_exists'.mp ha
  unfold evalAgreement
  rw [hm]
  dsimp only
  rw [if_neg hd]
  refine ⟨fun ht => ?_, fun ht => ?_⟩
  · rw [if_pos ht]
    exact (setAgree_core ..).1
  · rw [if_neg (Nat.not_lt.mpr ht)]
    exact ⟨(setAgree_core ..).1, (setAgree_core ..).2.1⟩

/-! ## The commands -/

/-- The module in the domain it is given (R426). -/
def domainJoined (n : Nat) (s : State) : State := startGathering { s with seam := { s.seam with domain := n, domainStored := n } }

theorem setAgree_elsewhere (a : AgreeSt) (causes : Nat) (s : State) : Elsewhere s (setAgree a causes s) ∧
    (setAgree a causes s).proto = s.proto := by
  refine ⟨⟨?_, ?_, ?_, ?_⟩, ?_⟩
  · exact setAgree_cells ..
  · exact setAgree_rails ..
  · exact setAgree_dom ..
  · exact setAgree_crease ..
  · exact setAgree_proto ..

theorem domainJoined_is (n : Nat) (s : State) : Elsewhere s (domainJoined n s) ∧ (domainJoined n s).proto = s.proto ∧ (domainJoined n s).seam.domain = n ∧
    (domainJoined n s).seam.domainStored = n ∧ (domainJoined n s).seam.agree = if n = 0 ∨ s.seam.addr = none then .alone else .gathering := by
  unfold domainJoined startGathering
  dsimp only
  split
  · next h =>
    obtain ⟨h1, -, -, h2, h3⟩ := setAgree_core .alone 0 { s with seam := { s.seam with
      domain := n, domainStored := n, gatherEnd := s.hem.ticks + hearing, master := none, subst := false } }
    obtain ⟨he, hp⟩ := setAgree_elsewhere .alone 0 { s with seam := { s.seam with
      domain := n, domainStored := n, gatherEnd := s.hem.ticks + hearing, master := none, subst := false } }
    exact ⟨he, hp, h2, h3, h1⟩
  · next h =>
    obtain ⟨h1, -, -, h2, h3⟩ := setAgree_core .gathering 0 { s with seam := { s.seam with
      domain := n, domainStored := n, gatherEnd := s.hem.ticks + hearing } }
    obtain ⟨he, hp⟩ := setAgree_elsewhere .gathering 0 { s with seam := { s.seam with
      domain := n, domainStored := n, gatherEnd := s.hem.ticks + hearing } }
    exact ⟨he, hp, h2, h3, h1⟩

theorem domainJoinOp_busy (h : domIdle s = false) : domainJoinOp.run q s = refuseDom s := if_pos h

theorem domainJoinOp_gathering (h : domIdle s = true) (hg : s.seam.agree = .gathering) : domainJoinOp.run q s = refuse s 10 1 0xFF :=
  (if_neg (by rw [h]; decide)).trans (if_pos hg)

theorem domainJoinOp_joins (h : domIdle s = true) (hg : s.seam.agree ≠ .gathering) :
    domainJoinOp.run q s = done0 (domainJoined (fieldAt q.params 0 2 % 4096) s) :=
  (if_neg (by rw [h]; decide)).trans (if_neg hg)

theorem seamAddressSetOp_busy (h : domIdle s = false) : seamAddressSetOp.run q s = refuseDom s := if_neg (by rw [h]; decide)

theorem seamAddressSetOp_sets (h : domIdle s = true) : seamAddressSetOp.run q s =
    done0 { s with seam := { s.seam with addrNext := some (fieldAt q.params 0 2 % 4096, s.proto.replyNo) } } := if_pos h

/-- Settles O49: frames of the module's own go out at once by a free port, and a domain is judged by what was heard. -/
theorem domainsAreJoinedAndJudged : Obligations.DomainsAreJoinedAndJudged := by
  intro s
  refine ⟨fun h => ?_, fun a r n rest h => ?_, fun h => ?_, fun h => syncDue_silent (.inr h), fun m hr hh ho ha => ⟨?_, fun hm => ?_⟩, fun h => ?_,
    fun pay rest h => ?_, fun h => congrArg Host.Outcome.next (if_neg (silent_of h)), fun hr hh ho => ?_, fun q => ⟨fun hr hl => ⟨fun h1 h2 => ?_,
      fun hst hg => ?_, fun hst hg => ?_⟩, fun hr hl => ⟨fun h1 h2 => ?_, fun hst => ?_⟩, fun hr hl => ?_⟩⟩
  case refine_1 =>
    refine congrArg Host.Outcome.next ?_
    dsimp only
    rw [h]
  case refine_2 =>
    have hx : exec .bcastReplyDue s = .next { s with seam := ({ s.seam with bcastDue := rest } : Seam).originate 2 0 a 0 r.bytes (some n) none } := by
      refine congrArg Host.Outcome.next ?_
      dsimp only
      rw [h]
    have hc := (originate_told ({ s.seam with bcastDue := rest } : Seam) 2 0 a 0 r.bytes (some n) none).core
    refine ⟨_, hx, rfl, Seam.get hc Seam.bcastDue (fun _ => rfl), fun m ha => ⟨originate_seq (x := { s.seam with bcastDue := rest }) ha .., fun hu hv hs => ?_⟩⟩
    exact ⟨_, originate_sends (x := { s.seam with bcastDue := rest }) ha _ _ _ _ _ _ _ hu hv hs, rfl, rfl, rfl, rfl, rfl⟩
  case refine_3 =>
    obtain h | h | h | h := h
    · exact ⟨announceDue_silent (.inl (silent_of (.inl h))), syncDue_silent (.inl (silent_of (.inl h)))⟩
    · exact ⟨announceDue_silent (.inl (silent_of (.inr (.inl h)))), syncDue_silent (.inl (silent_of (.inr (.inl h))))⟩
    · exact ⟨announceDue_silent (.inl (silent_of (.inr (.inr h)))), syncDue_silent (.inl (silent_of (.inr (.inr h))))⟩
    · exact ⟨announceDue_silent (.inr h), syncDue_silent (.inr (not_master_without h))⟩
  case refine_4 =>
    have hx : exec .announceDue s = .next { s with seam := s.seam.originate 4 1 0 0 (announcePayload s) none none } :=
      congrArg Host.Outcome.next (if_pos (speaks_iff.mpr ⟨hr, hh, ho⟩))
    exact ⟨_, hx, rfl, originate_seq ha .., fun hu hv hs => ⟨_, originate_sends ha _ _ _ _ _ _ _ hu hv hs, rfl, rfl, rfl, rfl⟩⟩
  case refine_5 =>
    have hx : exec .syncDue s = .next { s with seam := (s.seam.originate 4 2 0 s.seam.domain
          ([0, byte (b2n s.hem.suspect), 0, 0] ++ leBytes 8 s.hem.count ++ List.replicate 12 0) none none) } :=
      congrArg Host.Outcome.next (if_pos ⟨speaks_iff.mpr ⟨hr, hh, ho⟩, hm⟩)
    exact ⟨_, hx, rfl, originate_seq ha .., fun hu hv hs => ⟨_, originate_sends ha _ _ _ _ _ _ _ hu hv hs, rfl, rfl, rfl, rfl⟩⟩
  case refine_6 =>
    refine congrArg Host.Outcome.next ?_
    dsimp only
    rw [h]
  case refine_7 =>
    have hx : exec .echoRepeat s = .next { s with
        dom := { s.dom with echoSecond := rest }, seam := s.seam.originate 6 2 0 s.seam.domain pay none none } := by
      refine congrArg Host.Outcome.next ?_
      dsimp only
      rw [h]
    exact ⟨_, hx, rfl, fun m ha => ⟨originate_seq ha .., fun hu hv _ => ⟨_, originate_echoes ha _ _ _ _ _ _ hu hv, rfl, rfl, rfl⟩⟩⟩
  case refine_8 =>
    have hx : exec .agreementEval s = .next (endWait (evalAgreement s)) := congrArg Host.Outcome.next (if_pos (speaks_iff.mpr ⟨hr, hh, ho⟩))
    obtain ⟨hga, hgc, hgm⟩ := endWait_judged (evalAgreement s)
    refine ⟨_, hx, by rw [endWait_cells, evalAgreement_cells], fun hw => ?_, fun h => ?_, fun ha hd ht => ?_, fun ha hd ht => ?_⟩
    · rw [endWait_still (by rw [evalAgreement_dom]; exact hw)]
      exact ⟨evalAgreement_dom s, evalAgreement_rails s⟩
    · exact ⟨hga.trans (evalAgreement_alone h).1, hgm.trans (evalAgreement_alone h).2⟩
    · exact hga.trans ((evalAgreement_domain ha hd).1 ht)
    · exact ⟨hga.trans ((evalAgreement_domain ha hd).2 ht).1, hgc.trans ((evalAgreement_domain ha hd).2 ht).2⟩
  case refine_9 =>
    refine completes_of_reply rfl hr (fixed_paramCheck (n := 4) (by decide) (by decide) rfl hl rfl) (t := arrived q s) ?_ (by rw [arrived_proto]; exact hr.empty) rfl
    rw [← refuseDom_arrived]
    exact domainJoinOp_busy (domIdle_false (by rw [arrived_dom]; exact h1) (by rw [arrived_dom]; exact h2))
  case refine_10 =>
    exact completes_of_reply rfl hr (fixed_paramCheck (n := 4) (by decide) (by decide) rfl hl rfl)
      (domainJoinOp_gathering (domIdle_iff.mpr (by rw [arrived_dom]; exact hst)) (by rw [arrived_seam]; exact hg)) (by rw [arrived_proto]; exact hr.empty) rfl
  case refine_11 =>
    obtain ⟨he, hp, hd, hds, hag⟩ := domainJoined_is (fieldAt q.params 0 2 % 4096) (arrived q s)
    refine completes_of_reply rfl hr (fixed_paramCheck (n := 4) (by decide) (by decide) rfl hl rfl)
      (domainJoinOp_joins (domIdle_iff.mpr (by rw [arrived_dom]; exact hst)) (by rw [arrived_seam]; exact hg))
      (by rw [hp, arrived_proto]; exact hr.empty) ⟨(elsewhere_arrived q s).trans he, hd, hds, ?_⟩
    rw [hag, arrived_seam]
  case refine_12 =>
    refine completes_of_reply rfl hr (fixed_paramCheck (n := 2) (by decide) (by decide) rfl hl rfl) (t := arrived q s) ?_ (by rw [arrived_proto]; exact hr.empty) rfl
    rw [← refuseDom_arrived]
    exact seamAddressSetOp_busy (domIdle_false (by rw [arrived_dom]; exact h1) (by rw [arrived_dom]; exact h2))
  case refine_13 =>
    have hrun := seamAddressSetOp_sets (q := q) (s := arrived q s) (domIdle_iff.mpr (by rw [arrived_dom]; exact hst))
    refine completes_of_reply rfl hr (fixed_paramCheck (n := 2) (by decide) (by decide) rfl hl rfl) hrun ((arrived_waiting q s).trans hr.empty) ?_
    rw [arrived_seam, show (arrived q s).proto.replyNo = s.proto.replyNo from congrArg Proto.replyNo (arrived_proto q s)]
  case refine_14 =>
    have hrun : timeMasterOp.run q (arrived q s) = done0 { arrived q s with seam := { (arrived q s).seam with
        tm := if fieldAt q.params 0 2 = 0xFFFF then fieldAt q.params 0 2 else fieldAt q.params 0 2 % 4096 } } := rfl
    have htm : (if fieldAt q.params 0 2 = 0xFFFF then fieldAt q.params 0 2 else fieldAt q.params 0 2 % 4096) =
        if fieldAt q.params 0 2 = 0xFFFF then 0xFFFF else fieldAt q.params 0 2 % 4096 := by
      split
      · next h => exact h
      · rfl
    rw [arrived_seam, htm] at hrun
    exact completes_of_reply rfl hr (fixed_paramCheck (n := 2) (by decide) (by decide) rfl hl rfl) hrun
      ((arrived_waiting q s).trans hr.empty) rfl

end Sys2Proof.Machine
end

section
/-! PROOF. O50: events configured, claimed, raised and presented (R451-R463). -/

namespace Sys2Proof.Machine

variable {s t : State} {q : Req}

/-! ## What an event and a channel keep -/

theorem settle_elsewhere (s : State) (x : Router) : Elsewhere s (settle s x) :=
  ⟨settle_cells .., settle_rails .., settle_dom .., settle_crease ..⟩

theorem evChange_elsewhere (f : Ev → Ev) (k : Ev → Bool) (e : Fin 1024) (s : State) : Elsewhere s (evChange f k e s) :=
  ⟨evChange_cells .., evChange_rails .., evChange_dom .., evChange_crease ..⟩

theorem setLine_elsewhere (e : Fin 1024) (b : Bool) (s : State) : Elsewhere s (setLine e b s) :=
  ⟨setLine_cells .., setLine_rails .., setLine_dom .., setLine_crease ..⟩

theorem noteRearm_keeps (a b : Bool) (r : Router) : (r.noteRearm a b).soak = r.soak ∧ (r.noteRearm a b).spurious = r.spurious := by
  unfold Router.noteRearm
  split <;> exact ⟨rfl, rfl⟩

/-- An event that changes silences no channel and reports no spurious claim. -/
theorem evChange_keeps (f : Ev → Ev) (k : Ev → Bool) (e : Fin 1024) (s : State) : (evChange f k e s).router.soak = s.router.soak ∧
    (evChange f k e s).router.spurious = s.router.spurious := by
  unfold evChange
  dsimp only
  rw [eventWake_router, eventWake_router]
  exact noteRearm_keeps (s.router.ev[e].enable && s.router.ev[e].claim.isSome && k s.router.ev[e]) (lineLive s 574)
    { s.router with ev := upd s.router.ev e (f s.router.ev[e]) }

theorem evChange_sub (f : Ev → Ev) (k : Ev → Bool) (e : Fin 1024) (s : State) (c : Fin 4) :
    (evChange f k e s).router.ch[c].sub = s.router.ch[c].sub := by
  unfold evChange
  dsimp only
  rw [eventWake_router, eventWake_router, settle_sub, noteRearm_ch]

/-- A line that moves ends no claim's notice and no report of a spurious claim. -/
theorem setLine_keeps (e : Fin 1024) (b : Bool) (s : State) (c : Fin 4) : (setLine e b s).router.ch[c].sub = s.router.ch[c].sub ∧
    (setLine e b s).router.spurious = s.router.spurious := by
  unfold setLine
  split
  · exact ⟨rfl, rfl⟩
  · split
    · exact ⟨evChange_sub .., (evChange_keeps ..).2⟩
    · exact ⟨rfl, rfl⟩

/-- A spurious claim moves its line alone (R457). -/
theorem setSpurious_keeps (s : State) (c : Fin 4) : Elsewhere s (setSpurious s) ∧ (setSpurious s).proto = s.proto ∧
    (setSpurious s).router.ch[c].sub = s.router.ch[c].sub ∧ (setSpurious s).router.spurious = true := by
  unfold setSpurious
  obtain ⟨hsub, hsp⟩ := setLine_keeps 572 true { s with router := { s.router with spurious := true } } c
  refine ⟨?_, ?_, hsub, hsp⟩
  · exact setLine_elsewhere 572 true { s with router := { s.router with spurious := true } }
  · exact setLine_proto ..

/-- The event changed is its change, but for REARMED, which a counted edge may raise (R454). -/
theorem evChange_ev_self (f : Ev → Ev) (k : Ev → Bool) {e : Fin 1024} (s : State) (he : e ≠ 574) :
    (evChange f k e s).router.ev[e] = f s.router.ev[e] := by
  simp only [evChange, eventWake_router, settle_ev]
  rw [noteRearm_ev_other _ _ _ he, upd_self]

/-- An event that is not claimed counts no edge. -/
theorem evChange_unclaimed_ev (f : Ev → Ev) (k : Ev → Bool) {e : Fin 1024} {s : State} (hc : s.router.ev[e].claim = none) :
    (evChange f k e s).router.ev = upd s.router.ev e (f s.router.ev[e]) := by
  simp only [evChange, eventWake_router, settle_ev]
  rw [hc, Option.isSome_none, Bool.and_false, Bool.false_and, noteRearm_not_counted]

/-! ## Configuration -/

theorem Ev.configure_keeps {x : Ev} {b : Bool} {n m : Nat} (hb : b = true) (he : x.enable = true) (hs : x.sensing = n) :
    x.configure b n m = { x with mask := m } := by
  subst hb hs
  unfold Ev.configure
  rw [he, decide_eq_true rfl]
  rfl

theorem Ev.configure_clears {x : Ev} {b : Bool} {n m : Nat} (h : b = false ∨ x.enable = false ∨ x.sensing ≠ n) : x.configure b n m =
    { x with enable := b, sensing := n, mask := m, pending := b && decide (n = 1) && x.level, claim := none, rearm := false } := by
  have hk : (b && x.enable && decide (n = x.sensing)) = false := by
    obtain h | h | h := h
    · rw [h, Bool.false_and, Bool.false_and]
    · rw [h, Bool.and_false, Bool.false_and]
    · rw [decide_eq_false h.symm, Bool.and_false]
  unfold Ev.configure
  rw [hk]
  rfl

theorem eventConfigOp_paramCheck {p : List Byte} (hlen : p.length = 4) (hf : fieldAt p 0 2 ≤ 1023) : eventConfigOp.paramCheck 2 p = none := by
  simp [OpSpec.paramCheck, eventConfigOp, plenLimit, Plen.expected, firstBad, hlen, hf]

/-- The change EVENT_CONFIG makes of its event (R451). -/
def eventConfigured (p : List Byte) (x : Ev) : Ev := x.configure (natBit (byteAt p 2) 0) (byteAt p 2 / 2 % 4) (byteAt p 3 % 16)

theorem eventConfigOp_sets {e : Fin 1024} (he : fieldAt q.params 0 2 = e.val) (hx : eventExists e.val = true) :
    eventConfigOp.run q s = done0 (evChange (eventConfigured q.params) (fun _ => false) e s) := by
  have h : eventConfigOp.run q s = done0 (evChange (eventConfigured q.params) (fun _ => false) (evt (fieldAt q.params 0 2)) s) :=
    if_pos (by rw [he]; exact hx)
  rw [h, he, evt_val]

theorem eventConfigOp_notes {e : Fin 1024} (he : fieldAt q.params 0 2 = e.val) (hx : eventExists e.val = false) :
    eventConfigOp.run q s = noted s [] := if_neg (by rw [he, hx]; decide)

/-! ## Claims -/

/-- The router with its channel's claimant noted (R457). -/
def claimedBy (src : Source) (c : Fin 4) (r : Router) : Router :=
  { r with ch := upd r.ch c { r.ch[c] with sub := subscriberOf src } }

theorem claimedBy_sub (src : Source) (c : Fin 4) (r : Router) : (claimedBy src c r).ch[c].sub = subscriberOf src :=
  congrArg Chan.sub (upd_self ..)

theorem lowest_some {r : Router} {c : Nat} {e : Fin 1024} (he : r.claimable c e = true) (hd : ∀ d : Fin 1024, d < e → r.claimable c d = false) :
    r.lowest c = some e := by
  refine List.find?_eq_some_iff_getElem.mpr ⟨he, e.val, by simp, by simp, fun j hj => ?_⟩
  rw [List.getElem_finRange, hd _ hj]
  rfl

theorem lowest_none {r : Router} {c : Nat} (h : ∀ e : Fin 1024, r.claimable c e = false) : r.lowest c = none :=
  List.find?_eq_none.mpr fun e _ => by rw [h e]; decide

theorem lowest_isSome {r : Router} {c : Nat} {e : Fin 1024} (h : r.claimable c e = true) : ∃ d, r.lowest c = some d :=
  Option.isSome_iff_exists.mp (List.find?_isSome.mpr ⟨e, List.mem_finRange e, h⟩)

theorem channel_val {n : Nat} {c : Fin 4} (h : n % 4 = c.val) : Fin.ofNat 4 n = c := Fin.ext h

theorem eventClaimOp_claims {c : Fin 4} {e : Fin 1024} (hc : byteAt q.params 0 % 4 = c.val) (hl : s.router.lowest c.val = some e) :
    eventClaimOp.run q s = done (settle s { claimedBy q.src c s.router with
      ev := upd s.router.ev e { s.router.ev[e] with claim := some c.val } }) (le16 e.val) := by
  obtain rfl := channel_val hc
  have hl' : (claimedBy q.src (Fin.ofNat 4 (byteAt q.params 0)) s.router).lowest (Fin.ofNat 4 (byteAt q.params 0)).val = some e := hl
  unfold eventClaimOp
  dsimp only
  split
  · next d hd =>
    obtain rfl : d = e := Option.some.inj (hd.symm.trans hl')
    rfl
  · next hd => exact absurd (hl'.symm.trans hd) (Option.some_ne_none _)

theorem eventClaimOp_spurious {c : Fin 4} (hc : byteAt q.params 0 % 4 = c.val) (hl : s.router.lowest c.val = none) :
    eventClaimOp.run q s = done (if s.router.soak then { s with router := claimedBy q.src c s.router }
      else setSpurious { s with router := claimedBy q.src c s.router }) [0xFF, 3] := by
  obtain rfl := channel_val hc
  have hl' : (claimedBy q.src (Fin.ofNat 4 (byteAt q.params 0)) s.router).lowest (Fin.ofNat 4 (byteAt q.params 0)).val = none := hl
  unfold eventClaimOp
  dsimp only
  split
  · next d hd => exact absurd (hd.symm.trans hl') (Option.some_ne_none _)
  · rfl

theorem moderationSetOp_sets {c : Fin 4} (hc : byteAt q.params 0 % 4 = c.val) : moderationSetOp.run q s = done0 { s with router := { s.router with
    ch := upd s.router.ch c { s.router.ch[c] with minInt := fieldAt q.params 2 2 } } } := by
  obtain rfl := channel_val hc
  rfl

/-! ## Lines -/

theorem lineLive_runs (hl : s.pwr.lost = false) (hst : s.pwr.st = .run) (n : Nat) : lineLive s n = true := by
  unfold lineLive
  rw [hl, hst]
  rfl

/-- An event's own line that rises, or its pulse, as its change (R452, R453). -/
theorem eventLineEdge_up {e : Fin 1024} (hx : eventExists e.val = true) (hl : s.pwr.lost = false) (hst : s.pwr.st = .run)
    (he : s.router.ev[e].enable = true) : exec (.eventLineEdge e true) s = .next (if conditionLine e.val = true then
      evChange (fun x => x.line true) (fun x => x.edge true) e s else evChange Ev.pulse (fun x => decide (x.sensing ≠ 1)) e s) := by
  have hlive := lineLive_runs hl hst e.val
  have hset : setLine e true s = evChange (fun x => x.line true) (fun x => x.edge true) e s := by
    unfold setLine
    rw [if_neg (by rw [hlive]; decide), if_pos he]
  have hpulse : pulseIf true e s = evChange Ev.pulse (fun x => decide (x.sensing ≠ 1)) e s := by
    have hp : pulseIf true e s = pulse e s := rfl
    rw [hp]
    unfold pulse
    rw [he, hlive]
    rfl
  rw [← hset, ← hpulse]
  exact congrArg Host.Outcome.next (if_neg (by rw [hx]; decide))

theorem Ev.pulse_unclaimed {x : Ev} (he : x.enable = true) (hc : x.claim = none) : x.pulse = { x with pending := true } := by
  unfold Ev.pulse
  rw [he, hc]
  rfl

theorem Ev.line_unclaimed {x : Ev} (he : x.enable = true) (hc : x.claim = none) (hs : (x.sensing = 0 ∧ x.level = false) ∨ x.sensing = 1) :
    x.line true = { x with level := true, pending := true } := by
  unfold Ev.line Ev.edge
  rw [he, hc]
  obtain ⟨hs, hv⟩ | hs := hs
  · rw [hs, hv]
    simp
  · rw [hs]
    simp

theorem Ev.pulse_claimed {x : Ev} (he : x.enable = true) (hc : x.claim ≠ none) (hs : x.sensing = 0) : x.pulse = { x with rearm := true } := by
  obtain ⟨k, hk⟩ := Option.ne_none_iff_exists'.mp hc
  unfold Ev.pulse
  rw [he, hk, hs]
  rfl

theorem Ev.line_claimed {x : Ev} (he : x.enable = true) (hc : x.claim ≠ none) (hs : x.sensing = 0) (hv : x.level = false) :
    x.line true = { x with level := true, rearm := true } := by
  obtain ⟨k, hk⟩ := Option.ne_none_iff_exists'.mp hc
  unfold Ev.line Ev.edge
  rw [he, hk, hs, hv]
  simp

/-! ## Presentation -/

theorem settle_channel (s : State) (x : Router) (c : Fin 4) : (settle s x).router.ch[c] = (settleCh s.router x c).1 := by
  have h : (settle s x).router.ch = #v[(settleCh s.router x 0).1, (settleCh s.router x 1).1, (settleCh s.router x 2).1,
    (settleCh s.router x 3).1] := rfl
  rw [h]
  generalize settleCh s.router x = g
  match c with
  | 0 => rfl
  | 1 => rfl
  | 2 => rfl
  | 3 => rfl

theorem settleCh_silent {old new : Router} {c : Fin 4} (h : new.lowest c.val = none) :
    (settleCh old new c).1 = { new.ch[c] with presenting := false } := by
  unfold settleCh
  rw [h]

/-- A channel whose interval has ended presents what is claimable (R461, R463). -/
theorem settleCh_presents {old new : Router} {c : Fin 4} {e : Fin 1024} (h : new.lowest c.val = some e) (ht : new.ch[c].timing = false) :
    (settleCh old new c).1 = if new.ch[c].presenting then new.ch[c]
      else { new.ch[c] with presenting := true, timing := decide (new.ch[c].minInt ≠ 0) } := by
  unfold settleCh
  rw [h, ht]
  dsimp only
  split
  · rfl
  · rw [if_pos (by rw [Bool.not_false, Bool.or_true])]

/-- The router when a channel's interval has ended. -/
def intervalEnded (c : Fin 4) (r : Router) : Router := { r with ch := upd r.ch c { r.ch[c] with timing := false } }

theorem intervalEnded_ch (c : Fin 4) (r : Router) : (intervalEnded c r).ch[c] = { r.ch[c] with timing := false } := upd_self ..

theorem moderationDue_settles (h : s.off = false) (c : Fin 4) : exec (.moderationDue c) s = .next (settle s (intervalEnded c s.router)) :=
  congrArg Host.Outcome.next (if_neg (by rw [h]; decide))

/-- Settles O50: an event changed leaves every other as it was, and a channel is settled by its lowest claimable event. -/
theorem eventsAreConfiguredRaisedAndClaimed : Obligations.EventsAreConfiguredRaisedAndClaimed := by
  intro q s
  refine ⟨fun e hr hl he => ⟨fun hx => ?_, fun hx => ?_⟩, fun c hr hl hc => ⟨fun e he hd => ?_, fun he => ?_⟩, fun hr hl => ?_, fun c hr hl hc => ?_,
    fun e level => ⟨fun hx => ?_, fun hx h => ?_, fun hx hlost hst hen => ⟨fun hv hc h => ?_, fun hv hc hlev hs he => ?_⟩⟩, fun c => ⟨fun h => ?_, fun h => ?_⟩⟩
  case refine_1 =>
    exact completes_of_run (o := eventConfigOp) rfl hr (eventConfigOp_paramCheck hl (by omega)) (eventConfigOp_notes he hx) rfl rfl
  case refine_2 =>
    have hev := evChange_uncounted_ev (eventConfigured q.params) e (arrived q s)
    have hself : (evChange (eventConfigured q.params) (fun _ => false) e (arrived q s)).router.ev[e] = eventConfigured q.params s.router.ev[e] := by
      rw [hev, upd_self, arrived_router]
    refine completes_of_run (o := eventConfigOp) rfl hr (eventConfigOp_paramCheck hl (by omega)) (eventConfigOp_sets he hx) (evChange_proto ..)
      ⟨(elsewhere_arrived q s).trans (evChange_elsewhere ..), fun d hd => ?_, by rw [(evChange_keeps ..).1, arrived_router], fun hb hen hs => ?_, fun h => ?_⟩
    · rw [hev, upd_other _ _ _ _ hd.symm, arrived_router]
    · rw [hself]
      exact Ev.configure_keeps hb hen hs
    · rw [hself]
      exact Ev.configure_clears h
  case refine_3 =>
    have hrun := eventClaimOp_claims (q := q) (s := arrived q s) (e := e) hc (by rw [arrived_router]; exact lowest_some he hd)
    refine completes_of_run (o := eventClaimOp) rfl hr (fixed_paramCheck (n := 1) (by decide) (by decide) rfl hl rfl) hrun (settle_proto ..)
      ⟨(elsewhere_arrived q s).trans (settle_elsewhere ..), ?_, fun d hd => ?_, ?_⟩
    · rw [settle_ev, upd_self, arrived_router]
    · rw [settle_ev, upd_other _ _ _ _ hd.symm, arrived_router]
    · rw [settle_sub]
      exact claimedBy_sub ..
  case refine_4 =>
    have hrun := eventClaimOp_spurious (q := q) (s := arrived q s) hc (by rw [arrived_router]; exact lowest_none he)
    have hrt := arrived_router q s
    by_cases hs : s.router.soak = true
    · rw [if_pos (by rw [hrt]; exact hs)] at hrun
      refine completes_of_run (o := eventClaimOp) rfl hr (fixed_paramCheck (n := 1) (by decide) (by decide) rfl hl rfl) hrun rfl
        ⟨elsewhere_arrived q s, claimedBy_sub .., fun hn => absurd (hs.symm.trans hn) (by decide), fun _ =>
          ⟨(congrArg Router.ev hrt :), (congrArg Router.spurious hrt :)⟩⟩
    · rw [if_neg (by rw [hrt]; exact hs)] at hrun
      obtain ⟨he', hp, hsub, hsp⟩ := setSpurious_keeps { arrived q s with router := claimedBy q.src c (arrived q s).router } c
      refine completes_of_run (o := eventClaimOp) rfl hr (fixed_paramCheck (n := 1) (by decide) (by decide) rfl hl rfl) hrun hp
        ⟨(elsewhere_arrived q s).trans he', hsub.trans (claimedBy_sub ..), fun _ _ => hsp, fun hn => absurd hn hs⟩
  case refine_5 =>
    have hrun : soakSetOp.run q (arrived q s) = done0 (settle (arrived q s) { (arrived q s).router with soak := natBit (byteAt q.params 0) 0 }) := rfl
    refine completes_of_run (o := soakSetOp) rfl hr (fixed_paramCheck (n := 1) (by decide) (by decide) rfl hl rfl) hrun (settle_proto ..)
      ⟨(elsewhere_arrived q s).trans (settle_elsewhere ..), rfl, (congrArg Router.ev (arrived_router q s) :), fun hb c => ?_⟩
    rw [settle_channel, settleCh_silent (lowest_none fun e => ?_)]
    have hcl : ∀ (r : Router), r.soak = true → r.claimable c.val e = false := fun r hr => by
      unfold Router.claimable
      rw [hr, Bool.not_true, Bool.and_false]
    exact hcl _ hb
  case refine_6 =>
    have hrun := moderationSetOp_sets (q := q) (s := arrived q s) hc
    refine completes_of_run (o := moderationSetOp) rfl hr (fixed_paramCheck (n := 4) (by decide) (by decide) rfl hl rfl) hrun rfl ?_
    rw [arrived_router]
  case refine_7 => exact congrArg Host.Outcome.next (if_pos hx)
  case refine_8 =>
    by_cases hx' : eventExists e.val = false
    · exact congrArg Host.Outcome.next (if_pos hx')
    · refine congrArg Host.Outcome.next ((if_neg hx').trans ((if_neg (by rw [hx]; decide)).trans ?_))
      obtain h | h := h
      · rw [h]
        rfl
      · have hp : pulse e s = s := if_neg (by rw [h, Bool.false_and]; decide)
        unfold pulseIf
        rw [hp, ite_self]
  case refine_9 =>
    subst hv
    have hexec := eventLineEdge_up hx hlost hst hen
    by_cases hcond : conditionLine e.val = true
    · rw [if_pos hcond] at hexec
      have hev := evChange_unclaimed_ev (fun x => x.line true) (fun x => x.edge true) hc
      have hself : (evChange (fun x => x.line true) (fun x => x.edge true) e s).router.ev[e] =
          { s.router.ev[e] with level := true, pending := true } := by
        rw [hev, upd_self]
        exact Ev.line_unclaimed hen hc (h.resolve_left (by rw [hcond]; decide))
      refine ⟨_, hexec, evChange_elsewhere .., by rw [hself], by rw [hself], fun d hd => ?_⟩
      rw [hev, upd_other _ _ _ _ hd.symm]
    · rw [if_neg hcond] at hexec
      have hev := evChange_unclaimed_ev Ev.pulse (fun x => decide (x.sensing ≠ 1)) hc
      have hself : (evChange Ev.pulse (fun x => decide (x.sensing ≠ 1)) e s).router.ev[e] = { s.router.ev[e] with pending := true } := by
        rw [hev, upd_self]
        exact Ev.pulse_unclaimed hen hc
      refine ⟨_, hexec, evChange_elsewhere .., by rw [hself], by rw [hself], fun d hd => ?_⟩
      rw [hev, upd_other _ _ _ _ hd.symm]
  case refine_10 =>
    subst hv
    have hexec := eventLineEdge_up hx hlost hst hen
    by_cases hcond : conditionLine e.val = true
    · rw [if_pos hcond] at hexec
      have hself := (evChange_ev_self (fun x => x.line true) (fun x => x.edge true) s he).trans (Ev.line_claimed hen hc hs hlev)
      exact ⟨_, hexec, evChange_elsewhere .., by rw [hself], by rw [hself]⟩
    · rw [if_neg hcond] at hexec
      have hself := (evChange_ev_self Ev.pulse (fun x => decide (x.sensing ≠ 1)) s he).trans (Ev.pulse_claimed hen hc hs)
      exact ⟨_, hexec, evChange_elsewhere .., by rw [hself], by rw [hself]⟩
  case refine_11 => exact congrArg Host.Outcome.next (if_pos h)
  case refine_12 =>
    have hch := settle_channel s (intervalEnded c s.router) c
    refine ⟨_, moderationDue_settles h c, rfl, rfl, fun hn => ?_, fun ⟨e, he⟩ => ?_⟩
    · rw [hch, settleCh_silent (lowest_none (r := intervalEnded c s.router) hn), intervalEnded_ch]
      exact ⟨rfl, rfl⟩
    · obtain ⟨d, hd⟩ := lowest_isSome (r := intervalEnded c s.router) (c := c.val) he
      rw [hch, settleCh_presents hd (by rw [intervalEnded_ch]), intervalEnded_ch]
      split
      · next hp => exact ⟨hp, fun hn => absurd (hp.symm.trans hn) (by decide)⟩
      · exact ⟨rfl, fun _ => rfl⟩

end Sys2Proof.Machine
end

section
/-! PROOF. O52, begun: STATE_ENTER and STATE_ACCOUNTING (R468-R473). -/

namespace Sys2Proof.Machine

variable {s t : State} {q : Req} {n : Nat}

/-! ## Refusers -/

theorem refusersOf_nil_iff : refusersOf s n = [] ↔ ∀ i : Nat, i < 16 → n ≤ permits s i := by
  unfold refusersOf
  rw [List.filter_eq_nil_iff]
  refine ⟨fun h i hi => ?_, fun h i hi => ?_⟩
  · exact Nat.not_lt.mp fun hn => h i (mem_upto.mpr hi) (decide_eq_true hn)
  · exact fun hn => Nat.not_lt.mpr (h i (mem_upto.mp hi)) (of_decide_eq_true hn)

theorem foldl_min_le (f : Nat → Nat) (l : List Nat) : ∀ (a i : Nat), i ∈ l → l.foldl (fun a i => min a (f i)) a ≤ f i ∧
    l.foldl (fun a i => min a (f i)) a ≤ a := by
  have hle : ∀ (l : List Nat) (a : Nat), l.foldl (fun a i => min a (f i)) a ≤ a := fun l => by
    induction l with
    | nil => exact fun a => Nat.le_refl a
    | cons x xs ih => exact fun a => (ih _).trans (Nat.min_le_left ..)
  induction l with
  | nil => exact fun a i hi => absurd hi List.not_mem_nil
  | cons x xs ih =>
    intro a i hi
    refine ⟨?_, hle _ a⟩
    obtain rfl | hi := List.mem_cons.mp hi
    · exact (hle xs _).trans (Nat.min_le_right ..)
    · exact (ih _ i hi).1

theorem foldl_min_all (f : Nat → Nat) (l : List Nat) (h : ∀ i ∈ l, n ≤ f i) : l.foldl (fun a i => min a (f i)) n = n := by
  induction l with
  | nil => rfl
  | cons x xs ih =>
    rw [List.foldl_cons, Nat.min_eq_left (h x (List.mem_cons_self ..))]
    exact ih fun i hi => h i (List.mem_cons_of_mem _ hi)

/-- What every refuser permits is granted (R470). -/
theorem granted_all (h : ∀ i : Nat, i < 16 → n ≤ permits s i) : granted s n = n := foldl_min_all _ _ fun i hi => h i (mem_upto.mp hi)

theorem granted_none (h : ∃ i : Nat, i < 16 ∧ permits s i = 0) : granted s n = 0 := by
  obtain ⟨i, hi, h0⟩ := h
  have hle := (foldl_min_le (permits s) (upto 16) n i (mem_upto.mpr hi)).1
  rw [h0] at hle
  exact Nat.le_zero.mp hle

theorem permits_disarmed (s : State) (i : Nat) : permits (disarmShip s) i = permits s i := rfl

theorem refusersOf_disarmed (s : State) (n : Nat) : refusersOf (disarmShip s) n = refusersOf s n := rfl

theorem permits_after (q : Req) (s : State) (i : Nat) : permits (disarmShip (arrived q s)) i = permits s i :=
  (permits_disarmed ..).trans (permits_arrived ..)

theorem refuserMap_none (h : refusersOf s n = []) : refuserMap s n = 0 := by
  unfold refuserMap
  rw [h]
  rfl

theorem refuserMap_congr (h : refusersOf t n = refusersOf s n) : refuserMap t n = refuserMap s n := by
  unfold refuserMap
  rw [h]

/-! ## STATE_ENTER -/

/-- A command that has its turn, and that SAFE HOLD allows, replies (R478). -/
theorem completes_of_turn {i : Instr} {o : OpSpec} {st : Status} {l : List Byte} {P : State → Prop} (hi : exec i s = runOp o q s)
    (h : Turn o.op q s) (hv : q.ver = 2) (hsh : o.sh = true) (happ : o.app = false) (hp : o.paramCheck 2 q.params = none)
    (hr : o.run q (arrived q s) = (t, .reply st l)) (hw : t.proto.waiting = []) (hP : P t) : Completes i o.op q s st l P := by
  have hk : keptFor (arrived q s) (Req.packet q o.op s) = none := (keptFor_arrived ..).trans h.fresh
  have hg : o.gate (arrived q s) = none := by
    unfold OpSpec.gate
    rw [hsh, happ, if_neg fun hn => absurd hn.2 (by decide), if_neg fun hn => absurd hn.2 (by decide)]
  have hver : (Req.packet q o.op s).ver = 2 := hv
  have hproc : o.process (Req.packet q o.op s) (arrived q s) = .next (answer (Req.packet q o.op s) st l t) := by
    unfold OpSpec.process
    rw [hk, hver, show o.paramCheck 2 (Req.packet q o.op s).params = none from hp, hg]
    dsimp only
    have hq : ({ src := (Req.packet q o.op s).src, ver := 2, tag := (Req.packet q o.op s).tag, params := (Req.packet q o.op s).params } : Req) = q := by
      rw [← hv]
      rfl
    rw [hq, hr]
    unfold OpSpec.finish
    dsimp only
    rw [hver, if_neg (show ¬ (2 : Nat) = 1 by decide), ite_self]
  exact ⟨t, hi.trans (runOp_turn_next h hproc ((answer_waiting ..).trans hw)), hP⟩

/-- STATE_ENTER of a state no deeper than the one in force enters it at once (R470). -/
theorem stateEnterOp_wakes (hs : s.pwr.st ≠ .safeHold) (h : byteAt q.params 0 = 0) :
    stateEnterOp.run q s = (enterAwake .run (disarmShip s), .reply .done [0, 0, 0, 0]) := by
  unfold stateEnterOp
  dsimp only
  rw [if_neg hs, h, if_neg (by decide), if_pos (Nat.zero_le _)]
  rfl

theorem stateEnterOp_beyond (hs : s.pwr.st ≠ .safeHold) (h : 4 ≤ byteAt q.params 0) :
    stateEnterOp.run q s = (s, .reply .doneWithNote [byte s.pwr.st.code, 0, 0, 0]) := by
  have hc : s.pwr.st.code ≠ byteAt q.params 0 := fun hn => by
    have h4 : s.pwr.st.code < 4 := by
      cases hst : s.pwr.st with
      | safeHold => exact absurd hst hs
      | run => decide
      | doze => decide
      | hibernate => decide
      | ship => decide
    omega
  unfold stateEnterOp
  dsimp only
  rw [if_neg hs, if_pos h]
  unfold stateAnswer doneOr
  rw [decide_eq_true hc]
  rfl

/-- A state granted in full to a module that may enter it (R470). -/
theorem stateEnterOp_dozes (hs : s.pwr.st = .run) (h : byteAt q.params 0 = 1) (hp : ∀ i : Nat, i < 16 → 1 ≤ permits s i) :
    stateEnterOp.run q s = (enterAwake .doze (disarmShip s), .reply .done [1, 0, 0, 0]) := by
  have hr : refusersOf (disarmShip s) 1 = [] := refusersOf_nil_iff.mpr hp
  unfold stateEnterOp
  dsimp only
  rw [h, hs, if_neg (by decide), if_neg (by decide), if_neg (by decide), askRefusers_none hr, refuserMap_none hr, granted_all (s := disarmShip s) hp, if_neg (by decide)]
  rfl

theorem stateEnterOp_hibernates (hs : s.pwr.st = .run ∨ s.pwr.st = .doze) (h : byteAt q.params 0 = 2) (hp : ∀ i : Nat, i < 16 → 2 ≤ permits s i) :
    stateEnterOp.run q s = ({ disarmShip s with pwr := { s.pwr with hibDue := some s.proto.replyNo } }, .reply .done [2, 0, 0, 0]) := by
  have hr : refusersOf (disarmShip s) 2 = [] := refusersOf_nil_iff.mpr hp
  have hsh : s.pwr.st ≠ .safeHold ∧ s.pwr.st.code < 2 := by
    obtain hs | hs := hs <;> rw [hs] <;> decide
  unfold stateEnterOp
  dsimp only
  rw [h, if_neg hsh.1, if_neg (by decide), if_neg (Nat.not_le.mpr hsh.2), askRefusers_none hr, refuserMap_none hr, granted_all (s := disarmShip s) hp, if_neg (by decide)]
  rfl

theorem stateEnterOp_arms (hs : s.pwr.st = .run ∨ s.pwr.st = .doze) (h : byteAt q.params 0 = 3) (hp : ∀ i : Nat, i < 16 → 3 ≤ permits s i) :
    stateEnterOp.run q s = ({ disarmShip s with chg := { s.chg with shipArmed := true } }, .reply .doneWithNote [byte s.pwr.st.code, 0, 0, 0]) := by
  have hr : refusersOf (disarmShip s) 3 = [] := refusersOf_nil_iff.mpr hp
  have hsh : s.pwr.st ≠ .safeHold ∧ s.pwr.st.code < 3 := by
    obtain hs | hs := hs <;> rw [hs] <;> decide
  unfold stateEnterOp
  dsimp only
  rw [h, if_neg hsh.1, if_neg (by decide), if_neg (Nat.not_le.mpr hsh.2), askRefusers_none hr, refuserMap_none hr, if_pos rfl, if_pos rfl]
  unfold stateAnswer doneOr
  rw [decide_eq_true (Nat.ne_of_lt hsh.2)]
  rfl

theorem stateEnterOp_refused (hs : s.pwr.st = .run) (h : byteAt q.params 0 = 2) (hp : ∃ i : Nat, i < 16 ∧ permits s i = 0) :
    stateEnterOp.run q s = (psSet 0x1 (countRefusals (refusersOf s 2) (disarmShip s)), .reply .doneWithNote ([0, 0] ++ le16 (refuserMap s 2))) := by
  have hr : refusersOf (disarmShip s) 2 ≠ [] := fun hn => by
    obtain ⟨i, hi, h0⟩ := hp
    have := refusersOf_nil_iff.mp hn i hi
    rw [permits_disarmed, h0] at this
    omega
  unfold stateEnterOp
  dsimp only
  rw [h, hs, if_neg (by decide), if_neg (by decide), if_neg (by decide), askRefusers_some hr, refuserMap_congr (refusersOf_disarmed ..), granted_none (s := disarmShip s) hp, if_neg (by decide)]
  rfl

/-! ## What entering RUN or DOZE leaves -/

theorem setPwr_st (x : PwrSt) (s : State) : (setPwr x s).pwr.st = x := by
  have h := pulseIf_pwrcore (decide (x ≠ s.pwr.st)) 571 { s with pwr := { s.pwr with st := x } }
  exact Pwr.get h Pwr.st (fun _ => rfl)

theorem enterAwake_pwr (x : PwrSt) (s : State) : (enterAwake x s).pwr.st = x ∧ (enterAwake x s).pwr.hibDue = none := by
  unfold enterAwake
  dsimp only
  rw [moveLevel_pwr]
  exact ⟨setPwr_st x s, rfl⟩

theorem enterAwake_elsewhere (x : PwrSt) (s : State) : Elsewhere s (enterAwake x s) :=
  ⟨enterAwake_cells .., enterAwake_rails .., enterAwake_dom .., enterAwake_crease ..⟩

end Sys2Proof.Machine
end

section
/-! PROOF. O52, concluded: HIBERNATE and SHIP entered and left, and the obligation (R325, R466-R478). -/

namespace Sys2Proof.Machine

variable {s t u : State} {q : Req}

/-! ## Events of a module that is awake -/

/-- A module in RUN that enters no deeper state. -/
def AwakeRun (s : State) : Prop := s.pwr.st = .run ∧ s.pwr.entering = false

theorem eventWake_awake (e : Fin 1024) (b : Bool) (h : AwakeRun s) : eventWake e b s = s := by
  unfold eventWake
  split
  · exact if_neg fun hn => hn.2.2.elim (fun hn => hn h.1) fun hn => Bool.false_ne_true (h.2.symm.trans hn)
  · rfl

/-- An event of a module that is awake asks for no wake (R456). -/
theorem evChange_awake (f : Ev → Ev) (k : Ev → Bool) (e : Fin 1024) (h : AwakeRun s) : (evChange f k e s).pwr = s.pwr := by
  unfold evChange
  dsimp only
  generalize hu : settle s _ = u
  have hp : u.pwr = s.pwr := by rw [← hu, settle_pwr]
  have hw : AwakeRun u := by
    unfold AwakeRun
    rw [hp]
    exact h
  rw [eventWake_awake _ _ hw, eventWake_awake _ _ hw, hp]

theorem setLine_awake (e : Fin 1024) (b : Bool) (h : AwakeRun s) : (setLine e b s).pwr = s.pwr := by
  unfold setLine
  split
  · rfl
  · split
    · exact evChange_awake _ _ _ h
    · rfl

theorem pulseIf_awake (c : Bool) (e : Fin 1024) (h : AwakeRun s) : (pulseIf c e s).pwr = s.pwr := by
  unfold pulseIf pulse
  split
  · split
    · exact evChange_awake _ _ _ h
    · rfl
  · rfl

theorem releaseLines_awake (h : AwakeRun s) : (releaseLines s).pwr = s.pwr := by
  unfold releaseLines
  generalize heldLines s = l
  have hall : ∀ u : State, u.pwr = s.pwr → (l.foldl (fun t x => if t.router.ev[evt x.1].level = x.2 then t else setLine (evt x.1) x.2 t) u).pwr = s.pwr := by
    induction l with
    | nil => exact fun u hu => hu
    | cons x xs ih =>
      intro u hu
      refine ih _ ?_
      dsimp only
      split
      · exact hu
      · rw [setLine_awake _ _ (by unfold AwakeRun; rw [hu]; exact h), hu]
  exact hall s rfl

theorem startQual_awake (h : AwakeRun s) : (startQual s).pwr = s.pwr := by
  unfold startQual setRef
  exact pulseIf_awake _ _ h

/-! ## HIBERNATE -/

/-- The module as it wakes, before its reference is judged anew (R474). -/
def roused (u : State) : State := { u with
  clk := { (setSupply u.clk 720 100 .on) with
    level := if u.clk.xoBad then .coast else .l2, levelReq := .l2, changing := false, switching := none }
  chg := ({ u.chg with paused := false } : Chg).retarget
  fw := { u.fw with causeNext := 10 }
  seam := { u.seam with a := { u.seam.a with powered := true }, b := { u.seam.b with powered := true } } }

/-- The lines released and RUN announced as the module wakes (R474). -/
def runAgain (s : State) : State := releaseLines (setPwr .run { s with pwr := { s.pwr with wake := none, entering := false } })

theorem leaveHibernate_eq (s : State) : leaveHibernate s =
    if (roused (runAgain s)).clk.edges ∧ (roused (runAgain s)).clk.xoBad = false then startQual (roused (runAgain s)) else roused (runAgain s) := by
  unfold leaveHibernate roused runAgain
  dsimp only

theorem runAgain_pwr (s : State) : (runAgain s).pwr = { s.pwr with wake := none, entering := false, st := .run } := by
  have hw : AwakeRun { s with pwr := { s.pwr with wake := none, entering := false, st := .run } } := ⟨rfl, rfl⟩
  have hp : (setPwr .run { s with pwr := { s.pwr with wake := none, entering := false } }).pwr =
      { s.pwr with wake := none, entering := false, st := .run } := pulseIf_awake _ _ hw
  unfold runAgain
  rw [releaseLines_awake (by unfold AwakeRun; rw [hp]; exact ⟨rfl, rfl⟩), hp]

theorem leaveHibernate_elsewhere (s : State) : Elsewhere s (leaveHibernate s) :=
  ⟨leaveHibernate_cells .., leaveHibernate_rails .., leaveHibernate_dom .., leaveHibernate_crease ..⟩

theorem startQual_ports (s : State) (p : Port) : PortSame (s.seam.port p) ((startQual s).seam.port p) := by
  unfold startQual setRef
  exact ((pulseIf_told _ 465 _).1.2 p).1

theorem roused_pwr (u : State) : (roused u).pwr = u.pwr := rfl

theorem roused_is (u : State) : (roused u).fw.causeNext = 10 ∧ ((roused u).seam.a).powered = true ∧ ((roused u).seam.b).powered = true :=
  ⟨rfl, rfl, rfl⟩

theorem roused_wakes (u : State) : (startQual (roused u)).fw.causeNext = 10 ∧ ((startQual (roused u)).seam.a).powered = true ∧
    ((startQual (roused u)).seam.b).powered = true := by
  refine ⟨by rw [startQual_fw]; rfl, ?_, ?_⟩
  · exact (startQual_ports (roused u) .a).get PortSt.powered (fun _ _ _ => rfl)
  · exact (startQual_ports (roused u) .b).get PortSt.powered (fun _ _ _ => rfl)

theorem leaveHibernate_is (s : State) : (leaveHibernate s).pwr = { s.pwr with wake := none, entering := false, st := .run } ∧
    (leaveHibernate s).fw.causeNext = 10 ∧ ((leaveHibernate s).seam.a).powered = true ∧ ((leaveHibernate s).seam.b).powered = true := by
  have hp := runAgain_pwr s
  have ha : AwakeRun (roused (runAgain s)) := by
    unfold AwakeRun
    rw [roused_pwr, hp]
    exact ⟨rfl, rfl⟩
  rw [leaveHibernate_eq]
  split
  · exact ⟨(startQual_awake ha).trans ((roused_pwr _).trans hp), roused_wakes _⟩
  · exact ⟨(roused_pwr _).trans hp, roused_is _⟩

/-- A port without its phantom power while its link is down (R475). -/
def PortSt.asleep (p : PortSt) : PortSt := if p.link = .down then { p with powered := false, burst := false } else p

theorem asleep_powered (p : PortSt) : p.asleep.powered = (p.powered && decide (p.link ≠ .down)) := by
  unfold PortSt.asleep
  split
  · next h => rw [decide_eq_false (not_not.mpr h), Bool.and_false]
  · next h => rw [decide_eq_true h, Bool.and_true]

theorem setPwr_ports (x : PwrSt) (s : State) (p : Port) : PortSame (s.seam.port p) ((setPwr x s).seam.port p) := ((pulseIf_told _ 571 _).1.2 p).1

theorem setPwr_entering (x : PwrSt) (s : State) : (setPwr x s).pwr.entering = s.pwr.entering :=
  Pwr.get (pulseIf_pwrcore (decide (x ≠ s.pwr.st)) 571 { s with pwr := { s.pwr with st := x } }) Pwr.entering (fun _ => rfl)

/-- The module in HIBERNATE (R475). -/
def hibernating (u : State) : State := { u with
  clk := u.clk.retain, hp := { u.hp with engine := false }, seam := { u.seam with a := u.seam.a.asleep, b := u.seam.b.asleep } }

theorem hibernateEntered_eq (he : s.pwr.entering = true) (ho : s.off = false) : exec .hibernateEntered s =
    .next (hibernating (setPwr .hibernate { s with pwr := { s.pwr with entering := false } })) := congrArg Host.Outcome.next (if_pos ⟨he, ho⟩)

theorem setPwr_elsewhere (x : PwrSt) (s : State) : Elsewhere s (setPwr x s) := ⟨setPwr_cells .., setPwr_rails .., setPwr_dom .., setPwr_crease ..⟩

theorem hibernating_ports (s : State) (p : Port) : ((hibernating (setPwr .hibernate { s with pwr := { s.pwr with entering := false } })).seam.port p).powered =
    ((s.seam.port p).powered && decide ((s.seam.port p).link ≠ .down)) := by
  have h := setPwr_ports .hibernate { s with pwr := { s.pwr with entering := false } } p
  have hp : ∀ u : State, ((hibernating u).seam.port p).powered = (u.seam.port p).asleep.powered := fun u => by cases p <;> rfl
  rw [hp, asleep_powered, h.get PortSt.powered (fun _ _ _ => rfl), h.get PortSt.link (fun _ _ _ => rfl)]

/-- The module without its reference, its manager stopped for HIBERNATE (R474). -/
def stilled (s : State) : State := releaseAll (stopManager (setRef .absent 0 (setTb (if s.clk.xoBad then .coast else .free) s)))

theorem stilled_rails (s : State) : (stilled s).rails = s.rails := by
  unfold stilled
  rw [releaseAll_rails, stopManager_rails, setRef_rails, setTb_rails]

theorem stilled_chg (s : State) : (stilled s).chg = s.chg := by
  unfold stilled
  rw [releaseAll_chg, stopManager_chg, setRef_chg, setTb_chg]

theorem stilled_ref (s : State) : (stilled s).clk.ref = .absent := by
  unfold stilled
  generalize setTb _ s = u
  have hr : (setRef .absent 0 u).clk.core = ({ u.clk with ref := .absent, qualLeft := 0 } : Clk).core := pulseIf_clkcore ..
  have h : (releaseAll (stopManager (setRef .absent 0 u))).clk.core = ({ u.clk with ref := .absent, qualLeft := 0 } : Clk).core := by
    rw [releaseAll_clkcore, stopManager_clkcore, hr]
  exact Clk.get h Clk.ref (fun _ => rfl)

/-- The module that enters HIBERNATE (R474). -/
def hibernateBegun (u : State) : State := { u with
  pwr := { u.pwr with hibDue := none, entering := true, wake := none, gated := false }
  clk := if u.clk.xoBad then u.clk else { (setSupply u.clk 720 100 .on) with level := .l2, changing := false, switching := none }
  rails := u.rails.map (fun x => { x with offFrom := none })
  tlm := { u.tlm with
    seqs := u.tlm.seqs.map (fun x => { x with running := false, delayed := false, waiting := false, converting := false, stopping := false })
    busy := Vector.replicate 4 none }
  chg := if u.chg.ph = .maintain then ({ u.chg with paused := true } : Chg).off.retarget else u.chg }

theorem beginHibernate_eq (s : State) : beginHibernate s = hibernateBegun (stilled s) := by
  unfold beginHibernate
  extract_lets s1
  have h1 : s1 = stilled s := rfl
  rw [h1]
  rfl

theorem setSupply_ref (c : Clk) (mv : Nat) (bias : Int) (a : Assist) : (setSupply c mv bias a).ref = c.ref := by
  unfold setSupply
  split <;> rfl

theorem retarget_paused {c : Chg} (h : c.ph = .maintain) : c.retarget.paused = c.paused := by
  unfold Chg.retarget
  rw [if_neg fun hn => by rw [h] at hn; exact nomatch hn.2]

theorem hibernateBegun_is (u : State) : (∀ r : Fin 48, (hibernateBegun u).rails[r] = { u.rails[r] with offFrom := none }) ∧
    (hibernateBegun u).pwr.entering = true ∧ (hibernateBegun u).pwr.hibDue = none ∧ (hibernateBegun u).pwr.wake = none ∧
    (hibernateBegun u).proto = u.proto ∧ (hibernateBegun u).clk.ref = u.clk.ref ∧ (∀ k : Fin 8, (hibernateBegun u).tlm.seqs[k].running = false) ∧
    (hibernateBegun u).fw = u.fw ∧ (u.chg.ph = .maintain → (hibernateBegun u).chg.paused = true) := by
  refine ⟨fun r => Vector.getElem_map .., rfl, rfl, rfl, rfl, ?_, fun k => congrArg TSeq.running (Vector.getElem_map ..), rfl, fun hm => ?_⟩
  · unfold hibernateBegun
    dsimp only
    split
    · rfl
    · exact setSupply_ref ..
  · unfold hibernateBegun
    dsimp only
    rw [if_pos hm]
    exact retarget_paused hm

theorem stilled_stopped (s : State) : (stilled s).proto.running = false ∧ ∀ k : Fin 6, (stilled s).fw.mux[k] = none := by
  unfold stilled
  generalize setRef .absent 0 _ = u
  rw [releaseAll_proto]
  exact ⟨stopManager_stopped u, fun k => Vector.getElem_replicate ..⟩

theorem hibernateEntry_begins {n : Nat} (hd : s.pwr.hibDue = some n) : exec .hibernateEntry s =
    .next (if replyLeft n s ∧ s.proto.exec = none ∧ s.off = false then beginHibernate s else s) := by
  refine congrArg Host.Outcome.next ?_
  rw [hd]

/-! ## SHIP -/

/-- A request refused is noted, and its refusers counted; nothing else of the module changes (R469). -/
def refusedFor (n : Nat) (u : State) : State := psSet 0x1 (countRefusals (refusersOf u n) (disarmShip u))

theorem refusedFor_is (n : Nat) (u : State) : Elsewhere u (refusedFor n u) ∧ (refusedFor n u).proto = u.proto ∧ (refusedFor n u).pwr.st = u.pwr.st ∧
    (refusedFor n u).pwr.hibDue = u.pwr.hibDue ∧ (refusedFor n u).pwr.flags.getLsbD 0 = true ∧
    (refusedFor n u).hem = (countRefusals (refusersOf (disarmShip u) n) (disarmShip u)).hem :=
  ⟨⟨rfl, rfl, rfl, rfl⟩, rfl, rfl, rfl, psBit _, rfl⟩

/-- The module as SHIP takes it down, its ports last (R325). -/
def shipDown (s : State) : State := powerDown .a (powerDown .b (releaseAll (disarmShip (setHold .off (chgIdle (stopManager s))))))

/-- The module in SHIP, but for the state named (R325). -/
def shipped (u : State) : State := { u with
  chg := { u.chg with psw := false }
  dom := { u.dom with fnDrive := false }
  hem := { u.hem with wdSt := .disabled, wd := { u.hem.wd with enable := u.hem.wdLast.enable } }
  hp := { u.hp with engine := false, held := false } }

theorem enterShip_eq (s : State) : enterShip s = setPwr .ship (shipped (shipDown s)) := by
  unfold enterShip shipped shipDown
  dsimp only

theorem shipped_is (u : State) : (shipped u).cells = u.cells ∧ (shipped u).rails = u.rails ∧ (shipped u).dom = { u.dom with fnDrive := false } ∧
    (shipped u).crease = u.crease ∧ (shipped u).chg = { u.chg with psw := false } ∧ (shipped u).hem.wdSt = .disabled ∧
    (shipped u).proto = u.proto ∧ (shipped u).hp.engine = false := ⟨rfl, rfl, rfl, rfl, rfl, rfl, rfl, rfl⟩

theorem shipDown_frame (s : State) : (shipDown s).cells = s.cells ∧ (shipDown s).rails = s.rails ∧ (shipDown s).dom = s.dom ∧
    (shipDown s).crease = s.crease ∧ (shipDown s).proto.running = false := by
  unfold shipDown
  refine ⟨?_, ?_, ?_, ?_, ?_⟩
  · rw [powerDown_cells, powerDown_cells, releaseAll_cells, disarmShip_cells, setHold_cells, chgIdle_cells, stopManager_cells]
  · rw [powerDown_rails, powerDown_rails, releaseAll_rails, disarmShip_rails, setHold_rails, chgIdle_rails, stopManager_rails]
  · rw [powerDown_dom, powerDown_dom, releaseAll_dom, disarmShip_dom, setHold_dom, chgIdle_dom, stopManager_dom]
  · rw [powerDown_crease, powerDown_crease, releaseAll_crease, disarmShip_crease, setHold_crease, chgIdle_crease, stopManager_crease]
  · rw [powerDown_proto, powerDown_proto, releaseAll_proto, disarmShip_proto, setHold_proto, chgIdle_proto, stopManager_stopped]

theorem chgIdle_ph (s : State) : (chgIdle s).chg.ph = .idle := by
  unfold chgIdle
  dsimp only
  split
  · next h => exact h
  · exact Chg.getBase (setPhase_base (s := { s with chg := { s.chg with autoDue := false } }) idle_not_topoff) Chg.ph (fun _ => rfl)

theorem shipDown_chg (s : State) : (shipDown s).chg.ph = .idle ∧ (shipDown s).chg.hold = .off ∧ (shipDown s).chg.shipArmed = false := by
  have h : (shipDown s).chg = { (setHold .off (chgIdle (stopManager s))).chg with shipArmed := false } := by
    unfold shipDown
    rw [powerDown_chg, powerDown_chg, releaseAll_chg]
    rfl
  have hm := setHold_moves .off (chgIdle (stopManager s))
  rw [h]
  exact ⟨(Chg.get hm.phase Chg.ph (fun _ => rfl)).trans (chgIdle_ph _), hm.hold, rfl⟩

theorem shipEntry_enters (ha : s.chg.shipArmed = true) (hs : sourceInRange s = false) (hst : s.pwr.st ≠ .ship) : exec .shipEntry s =
    .next (if (refusersOf s 3).isEmpty then enterShip s else psSet 0x2 (disarmShip (countRefusals (refusersOf s 3) s))) :=
  congrArg Host.Outcome.next (if_pos ⟨ha, hs, hst⟩)

/-- Settles O52: a request is judged by its refusers, and HIBERNATE and SHIP are known by the module they leave. -/
theorem powerStatesAreEnteredAndLeft : Obligations.PowerStatesAreEnteredAndLeft := by
  intro q s
  have hone : ∀ {op l}, Ready op q s → q.params.length = l → l = 1 → stateEnterOp.paramCheck 2 q.params = none := fun _ hl h =>
    fixed_paramCheck (n := 1) (by decide) (by decide) rfl (hl.trans h) rfl
  have hempty : ∀ {op}, Ready op q s → (arrived q s).proto.waiting = [] := fun hr => by rw [arrived_proto]; exact hr.empty
  have hst : (arrived q s).pwr.st = s.pwr.st := arrived_st q s
  refine ⟨fun ht hv hsafe hl => ?_, fun hr hl => ⟨fun h => ?_, fun h => ?_, fun h hs hp => ?_, fun h hs hp => ?_, fun h hs hp => ?_, fun h hs hp => ?_⟩,
    fun hr hl => ?_, fun h => ?_, fun n hn => ⟨fun h => ?_, fun hl he ho => ?_⟩, fun h => ?_, fun he ho => ?_, fun src => ⟨fun h => ?_, fun hw ho => ?_⟩,
    fun h => congrArg Host.Outcome.next (if_neg h), fun h => ⟨congrArg Host.Outcome.next (if_pos h), rfl⟩, fun h => ?_,
    fun ha hs hns => ⟨fun hp => ?_, fun hp => ?_⟩, fun h => congrArg Host.Outcome.next (if_pos h), fun h => ?_, ?_⟩
  case refine_1 =>
    exact completes_of_turn (o := stateEnterOp) (t := arrived q s) rfl ht hv rfl rfl (fixed_paramCheck (n := 1) (by decide) (by decide) rfl hl rfl)
      (if_pos (hst.trans hsafe)) (by rw [arrived_proto]; exact ht.empty) rfl
  case refine_2 =>
    have hrun := stateEnterOp_beyond (q := q) (s := arrived q s) (by rw [hst]; exact hr.awake) h
    rw [hst] at hrun
    exact completes_of_reply rfl hr (hone hr hl rfl) hrun (hempty hr) rfl
  case refine_3 =>
    refine completes_of_reply rfl hr (hone hr hl rfl) (stateEnterOp_wakes (by rw [hst]; exact hr.awake) h)
      (by rw [enterAwake_proto, disarmShip_proto]; exact hempty hr) ⟨?_, (enterAwake_pwr ..).1, (enterAwake_pwr ..).2, by rw [enterAwake_chg]; rfl⟩
    exact (elsewhere_arrived q s).trans (enterAwake_elsewhere .run (disarmShip (arrived q s)))
  case refine_4 =>
    refine completes_of_reply rfl hr (hone hr hl rfl) (stateEnterOp_dozes (by rw [hst]; exact hs) h fun i hi => by rw [permits_arrived]; exact hp i hi)
      (by rw [enterAwake_proto, disarmShip_proto]; exact hempty hr) ⟨?_, (enterAwake_pwr ..).1, by rw [enterAwake_chg]; rfl⟩
    exact (elsewhere_arrived q s).trans (enterAwake_elsewhere .doze (disarmShip (arrived q s)))
  case refine_5 =>
    refine completes_of_reply rfl hr (hone hr hl rfl) (stateEnterOp_hibernates (by rw [hst]; exact hs) h fun i hi => by rw [permits_arrived]; exact hp i hi)
      (hempty hr) ⟨elsewhere_arrived q s, hst, congrArg some (congrArg Proto.replyNo (arrived_proto q s)), rfl⟩
  case refine_6 =>
    have hrun := stateEnterOp_arms (q := q) (s := arrived q s) (by rw [hst]; exact hs) h fun i hi => by rw [permits_arrived]; exact hp i hi
    rw [hst] at hrun
    exact completes_of_reply rfl hr (hone hr hl rfl) hrun (hempty hr) ⟨elsewhere_arrived q s, hst, rfl⟩
  case refine_7 =>
    have hrun := stateEnterOp_refused (q := q) (s := arrived q s) (by rw [hst]; exact hs) h
      (hp.imp fun i hi => ⟨hi.1, (permits_arrived ..).trans hi.2⟩)
    rw [refuserMap_congr (refusersOf_arrived q s 2)] at hrun
    obtain ⟨he, hp', hst', hd, hb, hh⟩ := refusedFor_is 2 (arrived q s)
    have hc := fun i => countRefusals_get 2 (disarmShip (arrived q s)) i
    rw [← hh, show (disarmShip (arrived q s)).hem = s.hem from arrived_hem q s] at hc
    change stateEnterOp.run q (arrived q s) = (refusedFor 2 (arrived q s), _) at hrun
    generalize refusedFor 2 (arrived q s) = u at hrun he hp' hst' hd hb hc
    refine completes_of_reply rfl hr (hone hr hl rfl) hrun (by rw [hp']; exact hempty hr) ⟨(elsewhere_arrived q s).trans he, hst'.trans (hst.trans hs),
      hd.trans (Pwr.get (arrived_pwrcore q s) Pwr.hibDue (fun _ => rfl)), hb, fun i => ?_⟩
    rw [hc i, permits_after]
  case refine_8 =>
    have hh := arrived_hem q s
    have hp : stateAccountingOp.paramCheck 2 q.params = none := fixed_paramCheck (n := 1) (by decide) (by decide) rfl hl rfl
    by_cases hb : natBit (byteAt q.params 0) 0 = true
    · have hrun : stateAccountingOp.run q (arrived q s) = done { arrived q s with hem := { (arrived q s).hem with refusals := Vector.replicate 16 0 } }
          ((arrived q s).hem.refusals.toList.flatMap le32) := if_pos hb
      rw [hh] at hrun
      refine completes_of_reply rfl hr hp hrun (hempty hr) ?_
      rw [if_pos hb]
      exact ⟨rfl, fun i => Vector.getElem_replicate ..⟩
    · have hrun : stateAccountingOp.run q (arrived q s) = done (arrived q s) ((arrived q s).hem.refusals.toList.flatMap le32) := if_neg hb
      rw [hh] at hrun
      refine completes_of_reply rfl hr hp hrun (hempty hr) ?_
      rw [if_neg hb]
  case refine_9 =>
    refine congrArg Host.Outcome.next ?_
    rw [h]
  case refine_10 =>
    refine (hibernateEntry_begins hn).trans (congrArg Host.Outcome.next (if_neg fun ⟨h1, h2, h3⟩ => ?_))
    obtain h | h | h := h
    · exact Bool.false_ne_true (h.symm.trans h1)
    · exact h h2
    · exact Bool.false_ne_true (h3.symm.trans h)
  case refine_11 =>
    obtain ⟨hr, he1, he2, he3, hp, href, hk, hf, hm⟩ := hibernateBegun_is (stilled s)
    obtain ⟨hrun, hmux⟩ := stilled_stopped s
    refine ⟨_, (hibernateEntry_begins hn).trans (congrArg Host.Outcome.next (if_pos ⟨hl, he, ho⟩)), beginHibernate_cells .., beginHibernate_dom ..,
      beginHibernate_crease .., ?_⟩
    rw [beginHibernate_eq]
    refine ⟨fun r => (hr r).trans (by rw [stilled_rails]), he1, he2, he3, by rw [hp, hrun], by rw [href, stilled_ref], hk, by rw [hf]; exact hmux, ?_⟩
    rw [stilled_chg] at hm
    exact hm
  case refine_12 =>
    refine congrArg Host.Outcome.next (if_neg fun ⟨h1, h2⟩ => ?_)
    exact h.elim (fun h => Bool.false_ne_true (h.symm.trans h1)) fun h => Bool.false_ne_true (h2.symm.trans h)
  case refine_13 =>
    refine ⟨_, hibernateEntered_eq he ho, setPwr_elsewhere .hibernate { s with pwr := { s.pwr with entering := false } }, setPwr_st .., setPwr_entering .., rfl,
      setPwr_hem .., setPwr_proto .., hibernating_ports s⟩
  case refine_14 =>
    refine congrArg Host.Outcome.next (if_neg fun ⟨h1, h2⟩ => ?_)
    exact h.elim (fun h => h h1) fun h => Bool.false_ne_true (h2.symm.trans h)
  case refine_15 =>
    have hx : exec (.hibernateExit src) s = .next (leaveHibernate (recordWake (wakeCode src).1 (wakeCode src).2 s.pwr.st.code
        (if s.pwr.entering then psSet 0x4 s else s))) := congrArg Host.Outcome.next (if_pos ⟨hw, ho⟩)
    have hu : ∀ u : State, Elsewhere s u → u.hem = s.hem →
        Elsewhere s (leaveHibernate (recordWake (wakeCode src).1 (wakeCode src).2 s.pwr.st.code u)) ∧
        (leaveHibernate (recordWake (wakeCode src).1 (wakeCode src).2 s.pwr.st.code u)).hem = { s.hem with
          wakeSrc := (wakeCode src).1, wakeLeft := s.pwr.st.code, wakeDetail := (wakeCode src).2, wakeTime := s.hem.rtc
          wakes := satInc 65535 s.hem.wakes, wakeFlags := u.pwr.flags.toNat } := fun u he hh => by
      refine ⟨he.trans (leaveHibernate_elsewhere (recordWake (wakeCode src).1 (wakeCode src).2 s.pwr.st.code u)), ?_⟩
      rw [leaveHibernate_hem]
      unfold recordWake
      rw [hh]
    have hb : Elsewhere s (if s.pwr.entering then psSet 0x4 s else s) ∧ (if s.pwr.entering then psSet 0x4 s else s).hem = s.hem := by
      split
      · exact ⟨⟨rfl, rfl, rfl, rfl⟩, rfl⟩
      · exact ⟨Elsewhere.refl s, rfl⟩
    generalize (if s.pwr.entering then psSet 0x4 s else s) = u at hx hb
    obtain ⟨he, hh⟩ := hu u hb.1 hb.2
    obtain ⟨hp, hf, hpa, hpb⟩ := leaveHibernate_is (recordWake (wakeCode src).1 (wakeCode src).2 s.pwr.st.code u)
    exact ⟨_, hx, he, by rw [hp], by rw [hp], by rw [hp], by rw [hh], by rw [hh], by rw [hh], by rw [hh], by rw [hh], hf, hpa, hpb⟩
  case refine_16 =>
    refine congrArg Host.Outcome.next (if_neg fun ⟨h1, h2, h3⟩ => ?_)
    obtain h | h | h := h
    · exact Bool.false_ne_true (h.symm.trans h1)
    · exact Bool.false_ne_true (h2.symm.trans h)
    · exact h3 h
  case refine_17 =>
    obtain ⟨hc, hr, hd, hk, hrun⟩ := shipDown_frame s
    obtain ⟨hph, hho, har⟩ := shipDown_chg s
    refine ⟨enterShip s, (shipEntry_enters ha hs hns).trans (congrArg Host.Outcome.next (if_pos (List.isEmpty_iff.mpr (refusersOf_nil_iff.mpr hp)))), ?_⟩
    rw [enterShip_eq]
    obtain ⟨h1, h2, h3, h4, h5, h6, h7, h8⟩ := shipped_is (shipDown s)
    generalize shipped (shipDown s) = u at h1 h2 h3 h4 h5 h6 h7 h8 ⊢
    generalize shipDown s = w at hc hr hd hk hrun hph hho har h1 h2 h3 h4 h5 h6 h7 h8 ⊢
    rw [setPwr_cells, setPwr_rails, setPwr_dom, setPwr_crease, setPwr_chg, setPwr_hem, setPwr_proto, setPwr_hp, h1, h2, h3, h4, h5, h6, h7, h8, hd]
    exact ⟨hc, hr, rfl, hk, setPwr_st .., hph, hho, rfl, har, rfl, hrun, rfl⟩
  case refine_18 =>
    have hne : ¬ (refusersOf s 3).isEmpty = true := fun hn => by
      obtain ⟨i, hi, hlt⟩ := hp
      exact absurd (refusersOf_nil_iff.mp (List.isEmpty_iff.mp hn) i hi) (Nat.not_le.mpr hlt)
    exact ⟨_, (shipEntry_enters ha hs hns).trans (congrArg Host.Outcome.next (if_neg hne)), ⟨rfl, rfl, rfl, rfl⟩, rfl, rfl, rfl,
      fun i => countRefusals_get 3 s i⟩
  case refine_19 =>
    have hx : exec .wakeBtn s = .next (wakeReq .wakeBtn (disarmShip { s with land := { s.land with wakeIgnored := false } })) :=
      congrArg Host.Outcome.next (if_neg h)
    refine ⟨_, hx, wakeReq_only .., fun hh hl hw => wakeReq_wakes (s := disarmShip { s with land := { s.land with wakeIgnored := false } }) .wakeBtn ?_ hh hw⟩
    have hoff : s.off = (s.pwr.lost || decide (s.pwr.st = .ship)) := rfl
    exact hoff.trans (by rw [hl, decide_eq_false h]; rfl)
  case refine_20 =>
    refine ⟨landSet 0x40000 { s with land := { s.land with wakeIgnored := true } }, rfl, ?_⟩
    have hl := landSet_land 0x40000 { s with land := { s.land with wakeIgnored := true } }
    rw [landSet_only, hl]

end Sys2Proof.Machine
end

section
/-! PROOF. O54, begun: the fuse array, row by row, and what a burn leaves of it (R481-R495). -/

namespace Sys2Proof.Machine

variable {f : Fuse} {r x : FuseRow} {l k : Nat}

/-! ## Rows of the array -/

theorem lookupRow_cons (x : Nat × FuseRow) (xs : List (Nat × FuseRow)) (n : Nat) :
    lookupRow (x :: xs) n = if x.1 = n then some x.2 else lookupRow xs n := by
  unfold lookupRow
  rw [List.find?_cons]
  by_cases h : x.1 = n
  · rw [if_pos h, decide_eq_true h]
    rfl
  · rw [if_neg h, decide_eq_false h]

theorem lookupRow_insertRow_self (n : Nat) (r : FuseRow) (rows : List (Nat × FuseRow)) : lookupRow (insertRow n r rows) n = some r := by
  induction rows with
  | nil => exact (lookupRow_cons ..).trans (if_pos rfl)
  | cons x xs ih =>
    unfold insertRow
    split
    · exact (lookupRow_cons ..).trans (if_pos rfl)
    · split
      · exact (lookupRow_cons ..).trans (if_pos rfl)
      · next h => rw [lookupRow_cons, if_neg (Ne.symm h), ih]

theorem lookupRow_insertRow_other {n m : Nat} (h : m ≠ n) (r : FuseRow) (rows : List (Nat × FuseRow)) :
    lookupRow (insertRow n r rows) m = lookupRow rows m := by
  have hn : ∀ xs, lookupRow ((n, r) :: xs) m = lookupRow xs m := fun xs => (lookupRow_cons ..).trans (if_neg h.symm)
  induction rows with
  | nil => exact hn []
  | cons x xs ih =>
    unfold insertRow
    split
    · exact hn _
    · split
      · next hx => rw [hn, lookupRow_cons, if_neg (hx ▸ h.symm)]
      · rw [lookupRow_cons, lookupRow_cons, ih]

/-- A row put is the row that stands there, and no other row changes (R481). -/
theorem put_at_self (f : Fuse) (l : Nat) (r : FuseRow) : (f.put l r).at l = some r := by
  unfold Fuse.put Fuse.at
  by_cases h : l < 2048
  · rw [if_pos h, if_pos h]
    exact lookupRow_insertRow_self ..
  · rw [if_neg h, if_neg h]
    exact lookupRow_insertRow_self ..

theorem put_at_other (f : Fuse) {l k : Nat} (h : k ≠ l) (r : FuseRow) : (f.put l r).at k = f.at k := by
  unfold Fuse.put Fuse.at
  by_cases hl : l < 2048
  · rw [if_pos hl]
    split
    · exact lookupRow_insertRow_other h ..
    · rfl
  · rw [if_neg hl]
    split
    · rfl
    · exact lookupRow_insertRow_other (by omega) ..

theorem put_frame (f : Fuse) (l : Nat) (r : FuseRow) : (f.put l r).flags = f.flags ∧ (f.put l r).seen = f.seen := by
  unfold Fuse.put
  split <;> exact ⟨rfl, rfl⟩

theorem dataAt_congr {g : Fuse} (h : g.at l = f.at l) : g.dataAt l = f.dataAt l := by
  unfold Fuse.dataAt
  rw [h]

theorem dataAt_put {g : Fuse} (h : g.at l = some r) : g.dataAt l = if l < 32 then r.loose else r.decode.2 := by
  unfold Fuse.dataAt
  rw [h]

/-! ## Rows read afresh -/

theorem lookupRow_map (g : Nat → FuseRow → FuseRow) (rows : List (Nat × FuseRow)) (n : Nat) :
    lookupRow (rows.map (fun x => (x.1, g x.1 x.2))) n = (lookupRow rows n).map (g n) := by
  induction rows with
  | nil => rfl
  | cons x xs ih =>
    rw [List.map_cons, lookupRow_cons, lookupRow_cons, ih]
    by_cases h : x.1 = n
    · rw [if_pos h, if_pos h, ← h]
      rfl
    · rw [if_neg h, if_neg h]

/-- What a row read afresh may have lost: bits of its tight margin (R485). -/
def FuseRow.Drifts (r x : FuseRow) : Prop := x.loose = r.loose ∧ x.tail = r.tail

theorem drift_drifts (c : Nat) (r : FuseRow) : r.Drifts (r.drift c) := ⟨rfl, rfl⟩

theorem drift_at (c : Nat) (p : Nat → Bool) (f : Fuse) (l : Nat) : (f.at l = none ∧ (f.drift c p).at l = none) ∨
    ∃ r x : FuseRow, f.at l = some r ∧ (f.drift c p).at l = some x ∧ r.Drifts x := by
  have hd : ∀ (b : Bool) (n : Nat) (r : FuseRow), r.Drifts (if b then r.drift n else r) := fun b n r => by
    cases b
    · exact ⟨rfl, rfl⟩
    · exact drift_drifts n r
  have hmap : ∀ (rows : List (Nat × FuseRow)) (n : Nat) (g : Nat → FuseRow → FuseRow), (∀ (m : Nat) (r : FuseRow), r.Drifts (g m r)) →
      (lookupRow rows n = none ∧ lookupRow (rows.map (fun x => (x.1, g x.1 x.2))) n = none) ∨
      ∃ r x : FuseRow, lookupRow rows n = some r ∧ lookupRow (rows.map (fun x => (x.1, g x.1 x.2))) n = some x ∧ r.Drifts x := fun rows n g hg => by
    rw [lookupRow_map]
    cases h : lookupRow rows n with
    | none => exact .inl ⟨rfl, rfl⟩
    | some r => exact .inr ⟨r, g n r, rfl, rfl, hg n r⟩
  unfold Fuse.at Fuse.drift
  split
  · exact hmap f.rows l (fun m r => if p m then r.drift (c + 2 * m) else r) fun m r => hd _ _ r
  · exact hmap f.spares (l - 2048) (fun m r => if p (2048 + m) then r.drift (c + 2 * (2048 + m)) else r) fun m r => hd _ _ r

theorem decode_drifts (h : r.Drifts x) : x.decode = r.decode := by
  unfold FuseRow.decode
  rw [h.1, h.2]

/-- A reading afresh changes no data (R484, R485). -/
theorem drift_dataAt (c : Nat) (p : Nat → Bool) (f : Fuse) (l : Nat) : (f.drift c p).dataAt l = f.dataAt l := by
  unfold Fuse.dataAt
  obtain ⟨h, h'⟩ | ⟨r, x, h, h', hd⟩ := drift_at c p f l
  · rw [h, h']
  · rw [h, h']
    dsimp only
    rw [decode_drifts hd, hd.1]

theorem drift_eccAt (c : Nat) (p : Nat → Bool) (f : Fuse) (l : Nat) : (f.drift c p).eccAt l = f.eccAt l := by
  unfold Fuse.eccAt
  obtain ⟨h, h'⟩ | ⟨r, x, h, h', hd⟩ := drift_at c p f l
  · rw [h, h']
  · rw [h, h']
    dsimp only
    rw [decode_drifts hd, hd.2]

theorem redirect_congr {g : Fuse} (h : ∀ l, g.dataAt l = f.dataAt l) (row : Nat) : g.redirect row = f.redirect row := by
  have he : ∀ k, g.darnEntry k = f.darnEntry k := fun k => by
    unfold Fuse.darnEntry Fuse.darnCopy
    simp only [h]
  unfold Fuse.redirect
  simp only [he]

theorem place_congr {g : Fuse} (h : ∀ l, g.dataAt l = f.dataAt l) (row : Nat) : g.place row = f.place row := by
  unfold Fuse.place
  rw [redirect_congr h]

theorem lcState_congr {g : Fuse} (h : ∀ l, g.dataAt l = f.dataAt l) : g.lcState = f.lcState := by
  unfold Fuse.lcState Fuse.lcStage Fuse.lcCopy
  simp only [h]

theorem sealState_congr {g : Fuse} (h : ∀ l, g.dataAt l = f.dataAt l) (c : Nat) : g.sealState c = f.sealState c := by
  unfold Fuse.sealState
  simp only [h]

/-- A row that the life cycle or a seal locks (R484). -/
def Fuse.lockedRow (f : Fuse) (row : Nat) : Bool := !rowOpenIn row f.lcState || (match regionOf row with
  | some c => decide (f.sealState c ≠ 0)
  | none => false)

/-- The status of a row without its MARGINAL bit (R484). -/
def Fuse.statusRest (f : Fuse) (row : Nat) : Nat × Nat :=
  (b2n (f.redirect row).isSome * 2 + b2n (f.lockedRow row), f.eccAt (f.place row))

theorem status_eq (f : Fuse) (row : Nat) : f.status row =
    (f.statusRest row).1 * 16 + b2n (f.marginalAt (f.place row)) * 8 + (f.statusRest row).2 := by
  have h : f.status row = b2n (f.redirect row).isSome * 32 + b2n (f.lockedRow row) * 16 + b2n (f.marginalAt (f.place row)) * 8 +
    f.eccAt (f.place row) := rfl
  unfold Fuse.statusRest
  dsimp only
  omega

theorem lockedRow_congr {g : Fuse} (h : ∀ l, g.dataAt l = f.dataAt l) (row : Nat) : g.lockedRow row = f.lockedRow row := by
  unfold Fuse.lockedRow
  rw [lcState_congr h]
  simp only [sealState_congr h]

theorem statusRest_congr {g : Fuse} (h : ∀ l, g.dataAt l = f.dataAt l) (he : ∀ l, g.eccAt l = f.eccAt l) (row : Nat) :
    g.statusRest row = f.statusRest row := by
  unfold Fuse.statusRest
  rw [redirect_congr h, lockedRow_congr h, place_congr h, he]

theorem statusRest_lt (f : Fuse) (row : Nat) : (f.statusRest row).1 < 4 ∧ (f.statusRest row).2 < 8 := by
  refine ⟨?_, ?_⟩
  · have h : ∀ b c : Bool, b2n b * 2 + b2n c < 4 := by decide
    exact h ..
  · have h : ∀ b : Bool, b2n b < 8 ∧ b2n b * 2 < 8 := by decide
    unfold Fuse.statusRest Fuse.eccAt
    dsimp only
    split
    · decide
    · split
      · split
        · exact (h _).1
        · exact (h _).2
        · decide
      · decide

/-- A status byte names its MARGINAL bit and the rest apart (R484). -/
theorem statusByte {a e : Nat} (ha : a < 4) (he : e < 8) (m m' : Bool) :
    (byte (a * 16 + b2n m * 8 + e) &&& 0xF7) = (byte (a * 16 + b2n m' * 8 + e) &&& 0xF7) ∧ (byte (a * 16 + b2n m * 8 + e)).getLsbD 3 = m := by
  have h : ∀ (a : Fin 4) (e : Fin 8) (m m' : Bool),
      (byte (a.val * 16 + b2n m * 8 + e.val) &&& 0xF7) = (byte (a.val * 16 + b2n m' * 8 + e.val) &&& 0xF7) ∧
      (byte (a.val * 16 + b2n m * 8 + e.val)).getLsbD 3 = m := by decide
  exact h ⟨a, ha⟩ ⟨e, he⟩ m m'

/-! ## Bytes burned -/

theorem orBytes_blank {d : List Byte} {n : Nat} (h : d.length = n) : orBytes (List.replicate n 0) d = d := by
  subst h
  unfold orBytes
  induction d with
  | nil => rfl
  | cons b d ih =>
    rw [List.length_cons, List.replicate_succ, List.zipWith_cons_cons, ih]
    exact congrArg (· :: d) BitVec.zero_or

theorem andBytes_orBytes (a d : List Byte) (h : a.length = d.length) : andBytes (orBytes a d) d = d := by
  induction a generalizing d with
  | nil => rw [List.eq_nil_of_length_eq_zero h.symm]; rfl
  | cons b a ih =>
    cases d with
    | nil => exact absurd h (by simp)
    | cons e d =>
      have hb : (b ||| e) &&& e = e := by
        refine BitVec.eq_of_getLsbD_eq fun i hi => ?_
        rw [BitVec.getLsbD_and, BitVec.getLsbD_or]
        cases b.getLsbD i <;> cases e.getLsbD i <;> rfl
      exact congrArg₂ List.cons hb (ih d (Nat.succ.inj h))

theorem orBytes_length (a d : List Byte) (h : a.length = d.length) : (orBytes a d).length = d.length := by
  unfold orBytes
  rw [List.length_zipWith, h, Nat.min_self]

theorem andBytes_self (d : List Byte) : andBytes d d = d := by
  unfold andBytes
  induction d with
  | nil => rfl
  | cons b d ih => rw [List.zipWith_cons_cons, ih, BitVec.and_self]

theorem andBytes_length {n : Nat} {a b : List Byte} (ha : a.length = n) (hb : b.length = n) : (andBytes a b).length = n := by
  unfold andBytes
  rw [List.length_zipWith, ha, hb, Nat.min_self]

theorem rowBytes_length (off : Nat) (bs : List Byte) : (rowBytes off bs).length = 32 := by
  unfold rowBytes
  rw [List.length_take, List.length_append, List.length_append, List.length_replicate, List.length_replicate]
  omega

theorem blank32_length : blank32.length = 32 := List.length_replicate ..

/-! ## What a burn makes of a row -/

/-- The row a burn finds at a place (R488). -/
def Fuse.found (f : Fuse) (l : Nat) : FuseRow := (f.at l).getD blankRow

/-- A row of the life cycle, a seal or the redirects takes a good burn as written (R489). -/
theorem burnt_plain {d : List Byte} (hl : x.loose.length = d.length) (ht : x.tight.length = d.length) (h32 : l < 32) :
    (x.burnt (burnTook l d .good).1 (burnTook l d .good).2).loose = orBytes x.loose d ∧
    (x.burnt (burnTook l d .good).1 (burnTook l d .good).2).verdict l d = .asWritten := by
  refine ⟨rfl, ?_⟩
  have hlo : andBytes (orBytes x.loose d) d = d := andBytes_orBytes _ _ hl
  have hand : ∀ a b c : List Byte, a.length = c.length → b.length = c.length →
      andBytes (andBytes (orBytes a c) (orBytes b c)) c = c := fun a b c ha hb => by
    induction c generalizing a b with
    | nil => simp [andBytes]
    | cons e c ih =>
      cases a with
      | nil => exact absurd ha (by simp)
      | cons y a =>
        cases b with
        | nil => exact absurd hb (by simp)
        | cons z b =>
          have he : ((y ||| e) &&& (z ||| e)) &&& e = e := by
            refine BitVec.eq_of_getLsbD_eq fun i hi => ?_
            rw [BitVec.getLsbD_and, BitVec.getLsbD_and, BitVec.getLsbD_or, BitVec.getLsbD_or]
            cases y.getLsbD i <;> cases z.getLsbD i <;> cases e.getLsbD i <;> rfl
          exact congrArg₂ List.cons he (ih a b (Nat.succ.inj ha) (Nat.succ.inj hb))
  unfold FuseRow.verdict
  rw [if_pos h32]
  exact (if_neg (not_not.mpr hlo)).trans (if_pos (hand _ _ _ ht hl))

/-- A blank row takes a good burn as it was asked for, with its check (R489, R490). -/
theorem burnt_blank {d : List Byte} (hd : d.length = 32) : blankRow.burnt (burnTook l d .good).1 (burnTook l d .good).2 =
    { loose := d, tight := d, tail := burnTail l d, tightTail := burnTail l d } := by
  have ho : orBytes blank32 d = d := orBytes_blank hd
  have hz : (0 : BitVec 16) ||| burnTail l d = burnTail l d := BitVec.zero_or
  have h : blankRow.burnt (burnTook l d .good).1 (burnTook l d .good).2 =
      { loose := orBytes blank32 d, tight := andBytes (orBytes blank32 d) (orBytes blank32 d), tail := 0 ||| burnTail l d
        tightTail := (0 ||| burnTail l d) &&& (0 ||| burnTail l d) } := rfl
  rw [h, ho, hz, andBytes_self, BitVec.and_self]

theorem written_verdict {d : List Byte} (hl : 32 ≤ l) :
    ({ loose := d, tight := d, tail := burnTail l d, tightTail := burnTail l d } : FuseRow).verdict l d = .asWritten := by
  unfold FuseRow.verdict
  have hm : ({ loose := d, tight := d, tail := burnTail l d, tightTail := burnTail l d } : FuseRow).marginal = false := by
    unfold FuseRow.marginal
    simp
  rw [if_neg (Nat.not_lt.mpr hl), if_pos ⟨hm, rfl, rfl⟩]

theorem checkOf_lt (d : List Byte) : checkOf d < 1024 := by
  unfold checkOf
  split
  · decide
  · exact Nat.mod_lt _ (by decide)

/-- A row written as asked reads as asked (R490). -/
theorem written_decode {d : List Byte} (hl : 32 ≤ l) :
    (({ loose := d, tight := d, tail := burnTail l d, tightTail := burnTail l d } : FuseRow).decode).2 = d := by
  have hc : (burnTail l d).toNat % 1024 = checkOf d := by
    have h := checkOf_lt d
    unfold burnTail
    rw [if_neg (Nat.not_lt.mpr hl), BitVec.toNat_ofNat]
    omega
  unfold FuseRow.decode
  dsimp only
  rw [hc, if_pos rfl]

end Sys2Proof.Machine
end

section
/-! PROOF. O54, concluded: rows read, burns begun and done, and the obligation (R481-R502). -/

namespace Sys2Proof.Machine

variable {s t u : State} {q : Req} {f : Fuse} {l : Nat}

/-! ## Reading -/

/-- The fuses, of which only what was noted of them is told. -/
structure FuseNoted (s t : State) : Prop where
  rows : ∃ seen flags, t.fuse = { s.fuse with seen := seen, flags := flags } ∧ ∀ l ∈ s.fuse.seen, l ∈ seen
  only : t = { s with fuse := t.fuse, router := t.router, seam := t.seam, pwr := t.pwr, clk := t.clk }

theorem FuseNoted.refl (s : State) : FuseNoted s s := ⟨⟨s.fuse.seen, s.fuse.flags, rfl, fun _ h => h⟩, rfl⟩

theorem FuseNoted.trans (h : FuseNoted s t) (h' : FuseNoted t u) : FuseNoted s u := by
  obtain ⟨⟨a, b, h1, h2⟩, h3⟩ := h
  obtain ⟨⟨c, d, h1', h2'⟩, h3'⟩ := h'
  refine ⟨⟨c, d, ?_, fun l hl => h2' l (by rw [h1]; exact h2 l hl)⟩, ?_⟩
  · rw [h1', h1]
  · rw [h3', h3]

/-- A marginal row noted for the first time (R485). -/
def rowNoted (l : Nat) (s : State) : State := { s with fuse := { s.fuse with seen := l :: s.fuse.seen, flags := s.fuse.flags ||| 0x40 } }

theorem rowNoted_noted (l : Nat) (s : State) : FuseNoted s (pulse 568 (rowNoted l s)) ∧ (pulse 568 (rowNoted l s)).fuse = (rowNoted l s).fuse := by
  refine ⟨⟨⟨l :: s.fuse.seen, s.fuse.flags ||| 0x40, pulse_fuse .., fun k hk => List.mem_cons_of_mem _ hk⟩, ?_⟩, pulse_fuse ..⟩
  rw [pulse_only]
  rfl

/-- Every marginal row named is among those seen (R485). -/
theorem noteMarginal_noted (locs : List Nat) (s : State) : FuseNoted s (noteMarginal locs s) ∧ ∀ l ∈ locs, l ∈ (noteMarginal locs s).fuse.seen := by
  have hcons : ∀ (l : Nat) (ls : List Nat) (s : State), noteMarginal (l :: ls) s =
      noteMarginal ls (if s.fuse.seen.contains l then s else pulse 568 (rowNoted l s)) := fun _ _ _ => rfl
  induction locs generalizing s with
  | nil => exact ⟨.refl s, fun l hl => absurd hl List.not_mem_nil⟩
  | cons l ls ih =>
    rw [hcons]
    have hstep : ∀ u : State, u = (if s.fuse.seen.contains l then s else pulse 568 (rowNoted l s)) → FuseNoted s u ∧ l ∈ u.fuse.seen := fun u hu => by
      rw [hu]
      split
      · next h => exact ⟨.refl s, List.contains_iff_mem.mp h⟩
      · obtain ⟨hn, hf⟩ := rowNoted_noted l s
        exact ⟨hn, by rw [hf]; exact List.mem_cons_self ..⟩
    generalize (if s.fuse.seen.contains l then s else pulse 568 (rowNoted l s)) = u at hstep ⊢
    obtain ⟨hn, hl⟩ := hstep u rfl
    obtain ⟨hn', hls⟩ := ih u
    refine ⟨hn.trans hn', fun k hk => ?_⟩
    obtain rfl | hk := List.mem_cons.mp hk
    · obtain ⟨⟨a, b, h1, h2⟩, -⟩ := hn'
      rw [h1]
      exact h2 k hl
    · exact hls k hk

/-- The fuses as one row is read afresh (R484, R485). -/
def rowRead (row : Nat) (s : State) : State := { s with
  free := s.free + driftCount, fuse := s.fuse.drift s.free [s.fuse.place row].contains }

theorem otpReadOp_reads {row : Nat} (hrow : fieldAt q.params 0 2 = row) (h1 : byteAt q.params 2 = 1) (hb : natBit (byteAt q.params 3) 0 = false) :
    otpReadOp.run q s = done (noteMarginal ([s.fuse.place row].filter (rowRead row s).fuse.marginalAt) (rowRead row s))
      ((rowRead row s).fuse.rowData row ++ [byte ((rowRead row s).fuse.status row)]) := by
  have hu : (upto (byteAt q.params 2)).map (fun k => fieldAt q.params 0 2 + k) = [row] := by
    rw [h1, hrow]
    rfl
  unfold otpReadOp
  dsimp only
  rw [hu, hb]
  exact Prod.ext rfl (congrArg (Ans.reply .done) (List.append_nil _))

theorem otpReadOp_paramCheck {p : List Byte} (hl : p.length = 4) (hr : fieldAt p 0 2 < 2048) (h1 : byteAt p 2 = 1) :
    otpReadOp.paramCheck 2 p = none := by
  refine fixed_paramCheck (n := 4) (by decide) (by decide) rfl hl ?_
  have hf : fieldAt p 2 1 = 1 := by rw [fieldAt_one, h1]
  have h0 : firstBad p [{ off := 0, width := 2, hi := 2047 }, { off := 2, lo := 1, hi := 7 }] = none := by
    unfold firstBad
    rw [if_pos ⟨Nat.zero_le _, by dsimp only; omega⟩]
    unfold firstBad
    rw [if_pos (by dsimp only; rw [hf]; decide)]
    rfl
  have hb : otpReadOp.bad 2 p = (firstBad p [{ off := 0, width := 2, hi := 2047 }, { off := 2, lo := 1, hi := 7 }]).or
      (if 2048 < fieldAt p 0 2 + byteAt p 2 then some 2 else none) := rfl
  rw [hb, h0, if_neg (by rw [h1]; omega)]
  rfl

/-- A row read gives its data and its status, and keeps both (R484). -/
theorem rowRead_is (row : Nat) (s : State) : (rowRead row s).fuse.rowData row = s.fuse.rowData row ∧
    (byte ((rowRead row s).fuse.status row) &&& 0xF7) = (byte (s.fuse.status row) &&& 0xF7) ∧
    (s.fuse.row row = none → (rowRead row s).fuse.status row = s.fuse.status row) ∧
    (byte ((rowRead row s).fuse.status row)).getLsbD 3 = (rowRead row s).fuse.marginalAt (s.fuse.place row) := by
  have hd : ∀ l, (rowRead row s).fuse.dataAt l = s.fuse.dataAt l := drift_dataAt _ _ s.fuse
  have he : ∀ l, (rowRead row s).fuse.eccAt l = s.fuse.eccAt l := drift_eccAt _ _ s.fuse
  have hp := place_congr hd row
  obtain ⟨h1, h2⟩ := statusRest_lt s.fuse row
  refine ⟨?_, ?_, fun hn => ?_, ?_⟩
  · unfold Fuse.rowData
    rw [hp, hd]
  · rw [status_eq, status_eq, statusRest_congr hd he]
    exact (statusByte h1 h2 ..).1
  · obtain ⟨-, h⟩ | ⟨r, x, h, -, -⟩ := drift_at s.free [s.fuse.place row].contains s.fuse (s.fuse.place row)
    · rw [status_eq, status_eq, statusRest_congr hd he, hp]
      unfold Fuse.marginalAt
      rw [show (rowRead row s).fuse.at (s.fuse.place row) = none from h, show s.fuse.at (s.fuse.place row) = none from hn]
    · exact absurd (hn.symm.trans h) (Option.some_ne_none _).symm
  · rw [status_eq, statusRest_congr hd he, hp]
    exact (statusByte h1 h2 _ true).2

/-! ## Burns begun -/

theorem burnRefused_congr (hl : t.land = s.land) (ht : t.therm = s.therm) (hr : t.rails = s.rails) (hf : t.fuse = s.fuse) :
    burnRefused t = burnRefused s := by
  unfold burnRefused vinUsable lowestRunning State.rail
  rw [hl, ht, hr, hf]

theorem burnRefused_arrived (q : Req) (s : State) : burnRefused (arrived q s) = burnRefused s :=
  burnRefused_congr (arrived_land ..) (arrived_therm ..) (arrived_rails ..) (arrived_fuse ..)

theorem burnRefused_vin (h : vinUsable s = false) : burnRefused s = some [8, byte s.fuse.lcState, 0xFF, 0] := if_pos h

theorem burnRefused_rail {r : Fin 48} (hv : vinUsable s = true) (hr : s.rails[r].st.runs = true)
    (hl : ∀ k : Fin 48, k < r → s.rails[k].st.runs = false) : burnRefused s = some [1, byte s.rails[r].st.code, byte r.val, 0] := by
  have hlow : lowestRunning s = some r.val := find_upto r (by rw [rail_val]; exact hr) fun k hk => by rw [rail_val]; exact hl k hk
  unfold burnRefused
  rw [if_neg (by rw [hv]; decide), hlow]
  dsimp only
  rw [rail_val]

theorem burnRefused_none (hv : vinUsable s = true) (hr : ∀ r : Fin 48, s.rails[r].st.runs = false) : burnRefused s = none := by
  have hlow : lowestRunning s = none := find_upto_none fun k => by rw [rail_val]; exact hr k
  unfold burnRefused
  rw [if_neg (by rw [hv]; decide), hlow]

theorem withBurn_refused {k : State × Ans} {rec : List Byte} (h : burnRefused s = some rec) : withBurn s k = (s, .reply .refusedState rec) := by
  unfold withBurn
  rw [h]

theorem withBurn_free {k : State × Ans} (h : burnRefused s = none) : withBurn s k = k := by
  unfold withBurn
  rw [h]

theorem otpProgramOp_paramCheck {p : List Byte} (hl : p.length = 36) (h : fieldAt p 0 2 < 2048) : otpProgramOp.paramCheck 2 p = none := by
  refine fixed_paramCheck (n := 36) (by decide) (by decide) rfl hl (if_pos ⟨Nat.zero_le _, ?_⟩)
  dsimp only
  omega

theorem otpDarnOp_paramCheck {p : List Byte} (hl : p.length = 2) (h : fieldAt p 0 2 < 2048) : otpDarnOp.paramCheck 2 p = none := by
  refine fixed_paramCheck (n := 2) (by decide) (by decide) rfl hl (if_pos ⟨Nat.zero_le _, ?_⟩)
  dsimp only
  omega

/-- A burn whose command may not be given now is refused with what forbids it (R482, R488). -/
theorem burn_refused {i : Instr} {op : Nat} {rec : List Byte} (h : burnRefused s = some rec)
    (hi : (op = 0x0F02 ∧ i = .otpProgram q ∧ q.params.length = 36 ∧ fieldAt q.params 0 2 < 2048) ∨
      (op = 0x0F03 ∧ i = .otpFinalise q ∧ q.params.length = 4) ∨ (op = 0x0F04 ∧ i = .otpDarn q ∧ q.params.length = 2 ∧ fieldAt q.params 0 2 < 2048) ∨
      (op = 0x0F05 ∧ i = .lifecycleAdvance q ∧ q.params.length = 4)) (hr : Ready op q s) :
    Completes i op q s .refusedState rec (fun t => t = arrived q s) := by
  have hb : burnRefused (arrived q s) = some rec := (burnRefused_arrived ..).trans h
  have hw : (arrived q s).proto.waiting = [] := by rw [arrived_proto]; exact hr.empty
  obtain ⟨rfl, rfl, hl, hf⟩ | ⟨rfl, rfl, hl⟩ | ⟨rfl, rfl, hl, hf⟩ | ⟨rfl, rfl, hl⟩ := hi
  · exact completes_of_reply (o := otpProgramOp) rfl hr (otpProgramOp_paramCheck hl hf) (withBurn_refused hb) hw rfl
  · exact completes_of_reply (o := otpFinaliseOp) rfl hr (fixed_paramCheck (n := 4) (by decide) (by decide) rfl hl rfl) (withBurn_refused hb) hw rfl
  · exact completes_of_reply (o := otpDarnOp) rfl hr (otpDarnOp_paramCheck hl hf) (withBurn_refused hb) hw rfl
  · exact completes_of_reply (o := lifecycleAdvanceOp) rfl hr (fixed_paramCheck (n := 4) (by decide) (by decide) rfl hl rfl) (withBurn_refused hb) hw rfl

/-! ## Burns done -/

/-- What a burn keeps of the array, and what it flags (R488, R492). -/
theorem burn_is (job : BurnJob) (r : BurnResult) (s : State) : (burn job r s).proto = s.proto ∧
    (burn job r s).fuse.at (burntRow job r s.fuse).1 = some (burntRow job r s.fuse).2 ∧
    (∀ k, k ≠ (burntRow job r s.fuse).1 → (burn job r s).fuse.at k = s.fuse.at k) ∧
    (burn job r s).fuse.flags = s.fuse.flags ||| (match burnVerdict job r s.fuse with
      | .asWritten => 0
      | .marginal => 0x40
      | .failed => 0x80) := by
  have hat : ∀ (g : Fuse) (seen : List Nat) (flags : BitVec 16) (k : Nat), ({ g with seen := seen, flags := flags } : Fuse).at k = g.at k :=
    fun _ _ _ _ => rfl
  have hput : ∀ (seen : List Nat) (flags : BitVec 16), ({ s.fuse.put (burntRow job r s.fuse).1 (burntRow job r s.fuse).2 with
        seen := seen, flags := flags } : Fuse).at (burntRow job r s.fuse).1 = some (burntRow job r s.fuse).2 ∧
      (∀ k, k ≠ (burntRow job r s.fuse).1 → ({ s.fuse.put (burntRow job r s.fuse).1 (burntRow job r s.fuse).2 with
        seen := seen, flags := flags } : Fuse).at k = s.fuse.at k) := fun seen flags =>
    ⟨(hat ..).trans (put_at_self ..), fun k hk => (hat ..).trans (put_at_other _ hk _)⟩
  have hfl := (put_frame s.fuse (burntRow job r s.fuse).1 (burntRow job r s.fuse).2).1
  unfold burn
  dsimp only
  cases hv : burnVerdict job r s.fuse with
  | asWritten => exact ⟨rfl, (hput _ _).1, (hput _ _).2, hfl.trans BitVec.or_zero.symm⟩
  | marginal =>
    rw [pulse_proto, pulse_fuse]
    exact ⟨rfl, (hput _ _).1, (hput _ _).2, congrArg (· ||| 0x40) hfl⟩
  | failed =>
    unfold fuseSet
    rw [pulseIf_proto, pulseIf_fuse]
    exact ⟨rfl, (hput _ _).1, (hput _ _).2, congrArg (· ||| 0x80) hfl⟩

theorem burn_written {job : BurnJob} {r : BurnResult} (h : burnVerdict job r s.fuse = .asWritten) : ∃ g, burn job r s = { s with fuse := g } := by
  unfold burn
  dsimp only
  rw [h]
  exact ⟨_, rfl⟩

theorem otpBurnDone_burns {p : Packet} {job : BurnJob} (h : s.proto.exec = some (p, .burn job)) (r : BurnResult) :
    exec (.otpBurnDone r) s = .next (burnDone job r s) := by
  have hx : exec (.otpBurnDone r) s = execOtpBurnDone r s := rfl
  rw [hx]
  unfold execOtpBurnDone
  rw [h]

theorem nextBurn_eq {p : Packet} {d : Deferred} (job : BurnJob) (h : s.proto.exec = some (p, d)) :
    nextBurn job s = { s with proto := { s.proto with exec := some (p, .burn job) } } := by
  unfold nextBurn
  rw [h]
  rfl

/-- A good burn of a row of the life cycle, a seal or the redirects ORs its bits into it (R489). -/
theorem burn_plain {job : BurnJob} {d : List Byte} (hplan : burnPlan s.fuse job = (l, d)) (hd : d.length = 32) (h32 : l < 32)
    (hx : ∀ x, s.fuse.at l = some x → x.loose.length = 32 ∧ x.tight.length = 32) : burnVerdict job .good s.fuse = .asWritten ∧
    (burn job .good s).fuse.dataAt l = orBytes (s.fuse.dataAt l) d := by
  have hrow : burntRow job .good s.fuse = (l, (s.fuse.found l).burnt (burnTook l d .good).1 (burnTook l d .good).2) := by
    unfold burntRow
    rw [hplan]
    rfl
  have hfound : (s.fuse.found l).loose.length = d.length ∧ (s.fuse.found l).tight.length = d.length ∧ s.fuse.dataAt l = (s.fuse.found l).loose := by
    unfold Fuse.found Fuse.dataAt
    cases h : s.fuse.at l with
    | none => exact ⟨by rw [hd]; exact blank32_length, by rw [hd]; exact blank32_length, rfl⟩
    | some x => exact ⟨by rw [hd]; exact (hx x h).1, by rw [hd]; exact (hx x h).2, if_pos h32⟩
  obtain ⟨hlo, hti, hdata⟩ := hfound
  obtain ⟨hb, hv⟩ := burnt_plain (l := l) hlo hti h32
  refine ⟨?_, ?_⟩
  · unfold burnVerdict
    rw [hrow, hplan]
    exact hv
  · have hat := (burn_is job .good s).2.1
    rw [hrow] at hat
    rw [dataAt_put hat, if_pos h32, hdata]
    exact hb

/-- A good burn of a blank row writes it as asked (R489, R490). -/
theorem burn_blank {job : BurnJob} {d : List Byte} (hplan : burnPlan s.fuse job = (l, d)) (hd : d.length = 32) (h32 : 32 ≤ l) (hn : s.fuse.at l = none) :
    burntRow job .good s.fuse = (l, { loose := d, tight := d, tail := burnTail l d, tightTail := burnTail l d }) ∧
    burnVerdict job .good s.fuse = .asWritten := by
  have hrow : burntRow job .good s.fuse = (l, { loose := d, tight := d, tail := burnTail l d, tightTail := burnTail l d }) := by
    unfold burntRow
    rw [hplan]
    dsimp only
    rw [hn]
    exact congrArg (Prod.mk l) (burnt_blank hd)
  refine ⟨hrow, ?_⟩
  unfold burnVerdict
  rw [hrow, hplan]
  exact written_verdict h32

end Sys2Proof.Machine
end

section
/-! PROOF. O54, the obligation: the commands of the fuses and their burns (R481-R502). -/

namespace Sys2Proof.Machine

variable {s t : State} {q : Req} {p : Packet}

/-! ## The commands, with burns allowed -/

theorem otpProgramOp_closed (hb : burnRefused s = none) (h : rowOpenIn (fieldAt q.params 0 2) s.fuse.lcState = false) :
    otpProgramOp.run q s = refuse s 8 s.fuse.lcState 0xFF := (withBurn_free hb).trans (if_pos h)

theorem otpProgramOp_sealed {c : Nat} (hb : burnRefused s = none) (h : rowOpenIn (fieldAt q.params 0 2) s.fuse.lcState = true)
    (hc : regionOf (fieldAt q.params 0 2) = some c) (hs : s.fuse.sealState c ≠ 0 ∨ s.fuse.blank (fieldAt q.params 0 2) = false) :
    otpProgramOp.run q s = locked s 1 := by
  refine (withBurn_free hb).trans ((if_neg (by rw [h]; decide)).trans (if_pos ?_))
  rw [hc]
  obtain hs | hs := hs
  · exact (congrArg (· || _) (decide_eq_true hs)).trans (Bool.true_or _)
  · exact (congrArg (decide _ || !·) hs).trans (Bool.or_true _)

theorem otpProgramOp_burns (hb : burnRefused s = none) (h : rowOpenIn (fieldAt q.params 0 2) s.fuse.lcState = true)
    (hs : ∀ c, regionOf (fieldAt q.params 0 2) = some c → s.fuse.sealState c = 0 ∧ s.fuse.blank (fieldAt q.params 0 2) = true) :
    otpProgramOp.run q s = (s, .defer (.burn (.program (fieldAt q.params 0 2) (q.params.drop 4)))) := by
  refine (withBurn_free hb).trans ((if_neg (by rw [h]; decide)).trans (if_neg ?_))
  cases hc : regionOf (fieldAt q.params 0 2) with
  | none => exact Bool.false_ne_true
  | some c =>
    dsimp only
    rw [(hs c hc).1, (hs c hc).2]
    decide

theorem otpFinaliseOp_reserved (hb : burnRefused s = none) (h : 5 ≤ byteAt q.params 0) : otpFinaliseOp.run q s = noted s (List.replicate 8 0) :=
  (withBurn_free hb).trans (if_pos h)

theorem otpFinaliseOp_open (hb : burnRefused s = none) (h : byteAt q.params 0 < 5) (ho : regionOpenIn (byteAt q.params 0) s.fuse.lcState = true) :
    (s.fuse.sealState (byteAt q.params 0) = 0 →
      otpFinaliseOp.run q s = (s, .defer (.burn (.finalise (byteAt q.params 0) (s.fuse.digest (byteAt q.params 0)) 0 false)))) ∧
    (s.fuse.sealState (byteAt q.params 0) = 1 → otpFinaliseOp.run q s = locked s 1) := by
  have hopen : ∀ k : State × Ans, (if 5 ≤ byteAt q.params 0 then noted s (List.replicate 8 0)
      else if regionOpenIn (byteAt q.params 0) s.fuse.lcState = false then refuse s 8 s.fuse.lcState 0xFF else k) = k := fun k =>
    (if_neg (Nat.not_le.mpr h)).trans (if_neg (by rw [ho]; decide))
  refine ⟨fun hs => ?_, fun hs => ?_⟩
  · exact (withBurn_free hb).trans ((hopen _).trans (if_pos hs))
  · exact (withBurn_free hb).trans ((hopen _).trans ((if_neg (by rw [hs]; decide)).trans (if_neg fun hn => absurd (hs.symm.trans hn.1) (by decide))))

theorem otpDarnOp_low (hb : burnRefused s = none) (hlc : s.fuse.lcState ≠ 4) (h : fieldAt q.params 0 2 < 32) : otpDarnOp.run q s = absent s 0 :=
  (withBurn_free hb).trans ((if_neg hlc).trans (if_pos h))

/-- A row that may be replaced is, by the first free spare (R493). -/
theorem otpDarnOp_high (hb : burnRefused s = none) (hlc : s.fuse.lcState ≠ 4) (h : 32 ≤ fieldAt q.params 0 2) : otpDarnOp.run q s =
    if s.fuse.blank (fieldAt q.params 0 2) ∧ s.fuse.marginalAt (s.fuse.place (fieldAt q.params 0 2)) = false then
      noted s [byte ((s.fuse.redirect (fieldAt q.params 0 2)).getD 0xFF), byte s.fuse.freeSpares.length]
    else match s.fuse.freeSpares.head? with
      | none => absent s 0xFFFF
      | some k => (s, .defer (.burn (.darn (fieldAt q.params 0 2) k (if s.fuse.unreadable (fieldAt q.params 0 2) then 1 else 0) false))) :=
  (withBurn_free hb).trans ((if_neg hlc).trans (if_neg (Nat.not_lt.mpr h)))

theorem worn_row {row : Nat} (h : s.fuse.blank row = false ∨ s.fuse.marginalAt (s.fuse.place row) = true) :
    ¬ (s.fuse.blank row = true ∧ s.fuse.marginalAt (s.fuse.place row) = false) := fun ⟨h1, h2⟩ =>
  h.elim (fun h => Bool.false_ne_true (h.symm.trans h1)) fun h => Bool.false_ne_true (h2.symm.trans h)

theorem lifecycleAdvanceOp_run (hb : burnRefused s = none) : lifecycleAdvanceOp.run q s =
    if q.params.drop 1 ≠ [0x4C, 0x43, byte (byteAt q.params 0)] then noted s []
    else if byteAt q.params 0 ≤ s.fuse.lcState ∨ 4 < byteAt q.params 0 ∨ advanceAllowed s (byteAt q.params 0) = false then refuse s 8 s.fuse.lcState 0xFF
    else (s, .defer (.burn (.advance (byteAt q.params 0) s.fuse.lcState 0 false))) := withBurn_free hb

theorem advanceAllowed_congr (h : t.fuse = s.fuse) (n : Nat) : advanceAllowed t n = advanceAllowed s n := by
  unfold advanceAllowed
  rw [h]

/-! ## The burns of a command, one after another -/

/-- The command that a burn ends, with none in execution (R495). -/
theorem burnDone_program {row : Nat} {data : List Byte} (h : s.proto.exec = some (p, .burn (.program row data))) (r : BurnResult) :
    exec (.otpBurnDone r) s = .next (serveFailed (answer p (if burnVerdict (.program row data) r s.fuse = .asWritten then .done else .doneWithNote) []
      { burn (.program row data) r s with proto := { s.proto with exec := none } })) := by
  have hp := (burn_is (.program row data) r s).1
  have hd : burnDone (.program row data) r s = complete (burnStatus (decide (burnVerdict (.program row data) r s.fuse ≠ .asWritten))) []
      (burn (.program row data) r s) := rfl
  have hst : burnStatus (decide (burnVerdict (.program row data) r s.fuse ≠ .asWritten)) =
      if burnVerdict (.program row data) r s.fuse = .asWritten then .done else .doneWithNote := by
    unfold burnStatus
    by_cases hv : burnVerdict (.program row data) r s.fuse = .asWritten
    · rw [if_pos hv, if_neg (by rw [hv]; decide)]
    · rw [if_neg hv, if_pos (decide_eq_true hv)]
  rw [otpBurnDone_burns h, hd, complete_of_exec _ _ (show (burn (.program row data) r s).proto.exec = some (p, .burn (.program row data)) by rw [hp]; exact h),
    hst, hp]

/-- A good burn that is not its command's last is followed by the next (R489). -/
theorem burnDone_next {job job' : BurnJob} (h : s.proto.exec = some (p, .burn job)) (hv : burnVerdict job .good s.fuse = .asWritten)
    (hd : burnDone job .good s = nextBurn job' (burn job .good s)) : exec (.otpBurnDone .good) s =
      .next { burn job .good s with proto := { s.proto with exec := some (p, .burn job') } } ∧
    ({ burn job .good s with proto := { s.proto with exec := some (p, .burn job') } } : State) = { s with
      fuse := (burn job .good s).fuse, proto := { s.proto with exec := some (p, .burn job') } } := by
  have hp := (burn_is job .good s).1
  obtain ⟨g, hg⟩ := burn_written hv
  refine ⟨?_, ?_⟩
  · rw [otpBurnDone_burns h, hd, nextBurn_eq job' (show (burn job .good s).proto.exec = some (p, .burn job) by rw [hp]; exact h), hp]
  · rw [hg]

theorem good_not_noted {job : BurnJob} (hv : burnVerdict job .good s.fuse = .asWritten) (note : Bool) :
    (note || decide (burnVerdict job .good s.fuse ≠ .asWritten)) = note := by
  rw [hv, decide_eq_false (not_not.mpr rfl), Bool.or_false]

/-- Settles O54: a row is found by its place, a burn ORs into it what it was asked for, and the commands are read off in the order of their checks. -/
theorem fusesAreReadAndBurned : Obligations.FusesAreReadAndBurned := by
  refine ⟨fun q s => ⟨fun row hr hl hrow hlt h1 hb => ?_, fun op i hi hr => ⟨fun hv => ?_, fun r hv hrun hlow => ?_⟩, fun hv hoff => ?_⟩, fun r s h => ?_,
    fun p s => ⟨fun row data l h hl => ⟨fun h32 hlen hn => ?_, fun r v hv => ?_⟩, fun code digest note h hc hx => ?_, fun code digest h hc hx => ?_,
      fun row k note h hn hlen => ?_, fun n stage copy note h hc hx => ?_⟩⟩
  case refine_1 =>
    have hf : (arrived q s).fuse = s.fuse := arrived_fuse q s
    obtain ⟨hdata, hmask, hnone, hbit⟩ := rowRead_is row (arrived q s)
    obtain ⟨hnoted, hseen⟩ := noteMarginal_noted ([(arrived q s).fuse.place row].filter (rowRead row (arrived q s)).fuse.marginalAt) (rowRead row (arrived q s))
    have hrun := otpReadOp_reads (q := q) (s := arrived q s) hrow h1 hb
    have hd : ∀ l, (rowRead row (arrived q s)).fuse.dataAt l = (arrived q s).fuse.dataAt l := drift_dataAt _ _ (arrived q s).fuse
    have honly : rowRead row (arrived q s) = { arrived q s with free := (rowRead row (arrived q s)).free, fuse := (rowRead row (arrived q s)).fuse } := rfl
    have hproto : (rowRead row (arrived q s)).proto = (arrived q s).proto := rfl
    generalize rowRead row (arrived q s) = u at *
    rw [hf] at hdata hmask hnone hbit hnoted hseen hrun hd
    obtain ⟨⟨seen, flags, hfuse, -⟩, htop⟩ := hnoted
    refine ⟨byte (u.fuse.status row), hmask, fun hn => congrArg byte (hnone hn), ?_⟩
    rw [hdata] at hrun
    generalize noteMarginal _ u = t at hrun hfuse htop hseen
    have hwait : t.proto.waiting = [] := by
      rw [htop]
      exact (congrArg Proto.waiting hproto).trans ((arrived_waiting q s).trans hr.empty)
    refine completes_of_reply rfl hr (otpReadOp_paramCheck hl (by omega) h1) hrun hwait ⟨?_, fun l => ?_, ?_, fun hbit' => ?_⟩
    · rw [htop, honly]
    · rw [hfuse]
      exact hd l
    · rw [hfuse, hbit]
      rfl
    · refine hseen _ (List.mem_filter.mpr ⟨List.mem_singleton.mpr rfl, ?_⟩)
      rw [← hbit, hbit']
  case refine_2 => exact burn_refused (burnRefused_vin hv) hi hr
  case refine_3 => exact burn_refused (burnRefused_rail hv hrun hlow) hi hr
  case refine_4 =>
    have hb : burnRefused (arrived q s) = none := (burnRefused_arrived ..).trans (burnRefused_none hv hoff)
    have hf : (arrived q s).fuse = s.fuse := arrived_fuse q s
    have hw : ∀ {op}, Ready op q s → (arrived q s).proto.waiting = [] := fun hr => by rw [arrived_proto]; exact hr.empty
    refine ⟨fun row hr hl hrow hlt => ⟨fun ho => ?_, fun ho => ⟨fun c hc hs => ?_, fun hs => ?_⟩⟩, fun code hr hl hcode => ⟨fun h5 => ?_, fun h5 ho hs => ?_,
        fun h5 ho hs => ?_⟩, fun row hr hl hrow hlt hlc => ⟨fun hlow => ?_, fun hhi hbl hm => ?_, fun k rest hhi hworn hk => ?_, fun hhi hworn hk => ?_⟩,
      fun n hr hl hn => ⟨fun hne => ?_, fun heq h => ?_, fun heq h1 h2 h3 => ?_⟩⟩
    case refine_1 =>
      subst hrow
      have hrun := otpProgramOp_closed (q := q) hb (by rw [hf]; exact ho)
      rw [hf] at hrun
      exact completes_of_reply rfl hr (otpProgramOp_paramCheck hl hlt) hrun (hw hr) rfl
    case refine_2 =>
      subst hrow
      exact completes_of_reply rfl hr (otpProgramOp_paramCheck hl hlt) (otpProgramOp_sealed hb (by rw [hf]; exact ho) hc (by rw [hf]; exact hs)) (hw hr) rfl
    case refine_3 =>
      subst hrow
      exact begins_of_run rfl hr (otpProgramOp_paramCheck hl hlt) (otpProgramOp_burns hb (by rw [hf]; exact ho) (by rw [hf]; exact hs)) rfl
    case refine_4 =>
      subst hcode
      exact completes_of_reply rfl hr (fixed_paramCheck (n := 4) (by decide) (by decide) rfl hl rfl) (otpFinaliseOp_reserved hb h5) (hw hr) rfl
    case refine_5 =>
      subst hcode
      have hrun := (otpFinaliseOp_open hb h5 (by rw [hf]; exact ho)).1 (by rw [hf]; exact hs)
      rw [hf] at hrun
      exact begins_of_run rfl hr (fixed_paramCheck (n := 4) (by decide) (by decide) rfl hl rfl) hrun rfl
    case refine_6 =>
      subst hcode
      exact completes_of_reply rfl hr (fixed_paramCheck (n := 4) (by decide) (by decide) rfl hl rfl)
        ((otpFinaliseOp_open hb h5 (by rw [hf]; exact ho)).2 (by rw [hf]; exact hs)) (hw hr) rfl
    case refine_7 =>
      subst hrow
      exact completes_of_reply rfl hr (otpDarnOp_paramCheck hl hlt) (otpDarnOp_low hb (by rw [hf]; exact hlc) hlow) (hw hr) rfl
    case refine_8 =>
      subst hrow
      have hrun := otpDarnOp_high (q := q) hb (by rw [hf]; exact hlc) hhi
      rw [hf, if_pos ⟨hbl, hm⟩] at hrun
      exact completes_of_reply rfl hr (otpDarnOp_paramCheck hl hlt) hrun (hw hr) rfl
    case refine_9 =>
      subst hrow
      have hrun := otpDarnOp_high (q := q) hb (by rw [hf]; exact hlc) hhi
      rw [hf, if_neg (worn_row hworn), hk] at hrun
      exact begins_of_run rfl hr (otpDarnOp_paramCheck hl hlt) hrun rfl
    case refine_10 =>
      subst hrow
      have hrun := otpDarnOp_high (q := q) hb (by rw [hf]; exact hlc) hhi
      rw [hf, if_neg (worn_row hworn), hk] at hrun
      exact completes_of_reply rfl hr (otpDarnOp_paramCheck hl hlt) hrun (hw hr) rfl
    case refine_11 =>
      subst hn
      exact completes_of_reply rfl hr (fixed_paramCheck (n := 4) (by decide) (by decide) rfl hl rfl) ((lifecycleAdvanceOp_run hb).trans (if_pos hne)) (hw hr) rfl
    case refine_12 =>
      subst hn
      have hrun := (lifecycleAdvanceOp_run (q := q) hb).trans ((if_neg (not_not.mpr heq)).trans (if_pos (by rw [hf, advanceAllowed_congr hf]; exact h)))
      rw [hf] at hrun
      exact completes_of_reply rfl hr (fixed_paramCheck (n := 4) (by decide) (by decide) rfl hl rfl) hrun (hw hr) rfl
    case refine_13 =>
      subst hn
      have hrun := (lifecycleAdvanceOp_run (q := q) hb).trans ((if_neg (not_not.mpr heq)).trans (if_neg (by
        rw [hf, advanceAllowed_congr hf, h3]
        rintro (h | h | h)
        · omega
        · omega
        · exact Bool.false_ne_true h.symm)))
      rw [hf] at hrun
      exact begins_of_run rfl hr (fixed_paramCheck (n := 4) (by decide) (by decide) rfl hl rfl) hrun rfl
  case refine_5 =>
    have hx : exec (.otpBurnDone r) s = execOtpBurnDone r s := rfl
    rw [hx]
    unfold execOtpBurnDone
    split
    · next p job hj => exact absurd hj (h p job)
    · rfl
  case refine_6 =>
    subst hl
    obtain ⟨hrow, hv⟩ := burn_blank (s := s) (job := .program row data) rfl hlen h32 hn
    rw [burnDone_program h, hv, if_pos rfl]
    have hburn : burn (.program row data) .good s = { s with
        fuse := { s.fuse.put (s.fuse.place row) { loose := data, tight := data, tail := burnTail (s.fuse.place row) data, tightTail := burnTail (s.fuse.place row) data } with
          seen := s.fuse.seen.filter (· ≠ s.fuse.place row) } } := by
      have hm : ({ loose := data, tight := data, tail := burnTail (s.fuse.place row) data, tightTail := burnTail (s.fuse.place row) data } : FuseRow).marginal = false := by
        unfold FuseRow.marginal
        simp
      unfold burn
      dsimp only
      rw [hv, hrow]
      dsimp only
      rw [hm, (put_frame ..).2]
      rfl
    rw [hburn]
  case refine_7 =>
    subst hl hv
    obtain ⟨-, hat, hother, hflags⟩ := burn_is (.program row data) r s
    refine ⟨_, burnDone_program h r, hat, hother, fun hv => ?_, fun hv => ?_, fun hv => ?_⟩
    · rw [hv] at hflags
      exact hflags.trans BitVec.or_zero
    · rw [hv] at hflags
      exact hflags
    · rw [hv] at hflags
      exact hflags
  case refine_8 =>
    obtain ⟨hv, hdata⟩ := burn_plain (s := s) (job := .finalise code digest 0 note) (l := 8 + code) rfl (rowBytes_length 0 digest) (by omega) hx
    have hd : burnDone (.finalise code digest 0 note) .good s = nextBurn (.finalise code digest 1 note) (burn (.finalise code digest 0 note) .good s) := by
      have h0 : burnDone (.finalise code digest 0 note) .good s =
        if burnVerdict (.finalise code digest 0 note) .good s.fuse = .failed ∨ (0 : Nat) = 3 then
          complete (burnStatus (note || decide (burnVerdict (.finalise code digest 0 note) .good s.fuse ≠ .asWritten))) digest (burn (.finalise code digest 0 note) .good s)
        else nextBurn (.finalise code digest 1 (note || decide (burnVerdict (.finalise code digest 0 note) .good s.fuse ≠ .asWritten)))
          (burn (.finalise code digest 0 note) .good s) := rfl
      rw [h0, good_not_noted hv, hv, if_neg (by decide)]
    obtain ⟨hx', honly⟩ := burnDone_next h hv hd
    exact ⟨_, hx', honly, rfl, hdata⟩
  case refine_9 =>
    obtain ⟨hv, hdata⟩ := burn_plain (s := s) (job := .finalise code digest 3 false) (l := 8 + code) rfl (rowBytes_length 8 [0xFF]) (by omega) hx
    have hp := (burn_is (.finalise code digest 3 false) .good s).1
    have hd : burnDone (.finalise code digest 3 false) .good s = complete .done digest (burn (.finalise code digest 3 false) .good s) := by
      have h0 : burnDone (.finalise code digest 3 false) .good s =
        if burnVerdict (.finalise code digest 3 false) .good s.fuse = .failed ∨ (3 : Nat) = 3 then
          complete (burnStatus (false || decide (burnVerdict (.finalise code digest 3 false) .good s.fuse ≠ .asWritten))) digest (burn (.finalise code digest 3 false) .good s)
        else nextBurn (.finalise code digest 4 (false || decide (burnVerdict (.finalise code digest 3 false) .good s.fuse ≠ .asWritten)))
          (burn (.finalise code digest 3 false) .good s) := rfl
      rw [h0, good_not_noted hv, if_pos (.inr rfl)]
      rfl
    refine ⟨{ burn (.finalise code digest 3 false) .good s with proto := { s.proto with exec := none } }, ?_, rfl, hdata⟩
    rw [otpBurnDone_burns h, hd, complete_of_exec _ _ (show (burn (.finalise code digest 3 false) .good s).proto.exec = _ by rw [hp]; exact h), hp]
  case refine_10 =>
    obtain ⟨hrow, hv⟩ := burn_blank (s := s) (job := .darn row k 0 note) (l := 2048 + k) rfl hlen (by omega) hn
    have hat := (burn_is (.darn row k 0 note) .good s).2.1
    rw [hrow] at hat
    have hd : burnDone (.darn row k 0 note) .good s = nextBurn (.darn row k 1 note) (burn (.darn row k 0 note) .good s) := by
      have h0 : ∀ b : Bool, b = decide (burnVerdict (.darn row k 0 note) .good s.fuse ≠ .asWritten) → b = false →
          burnDone (.darn row k 0 note) .good s = nextBurn (.darn row k 1 note) (burn (.darn row k 0 note) .good s) := fun b hb hb0 =>
        if_neg (by rw [← hb, hb0]; exact Bool.false_ne_true)
      exact h0 _ rfl (by rw [hv]; decide)
    obtain ⟨hx', honly⟩ := burnDone_next h hv hd
    refine ⟨_, hx', rfl, ?_⟩
    exact (dataAt_put hat).trans ((if_neg (by omega)).trans (written_decode (by omega)))
  case refine_11 =>
    obtain ⟨hv, hdata⟩ := burn_plain (s := s) (job := .advance n stage copy note) (l := copy) rfl (rowBytes_length stage [0xFF]) (by omega) hx
    have hd : burnDone (.advance n stage copy note) .good s = nextBurn (.advance n stage (copy + 1) note) (burn (.advance n stage copy note) .good s) := by
      have h0 : burnDone (.advance n stage copy note) .good s =
        nextBurn (.advance n stage (copy + 1) (note || decide (burnVerdict (.advance n stage copy note) .good s.fuse ≠ .asWritten)))
          (burn (.advance n stage copy note) .good s) := if_pos hc
      rw [h0, good_not_noted hv]
    obtain ⟨hx', -⟩ := burnDone_next h hv hd
    exact ⟨_, hx', rfl, hdata⟩

end Sys2Proof.Machine
end

section
/-! PROOF. O55, begun: the flash banks, and what a burst of staging leaves of them (R508-R512). -/

namespace Sys2Proof.Machine

variable {s t u : State} {f : Fw} {q : Req}

/-! ## Banks and bytes -/

theorem other_ne (f : Fw) : f.other ≠ f.bank := by
  unfold Fw.other
  split
  · next h => rw [h]; decide
  · next h => exact fun hn => h hn.symm

theorem upd_at_bank {α : Type} (v : Vector α 2) (f : Fw) (x : α) : (upd v f.other x)[f.bank] = v[f.bank] := upd_other _ _ _ _ (other_ne f)

theorem read_keep (g : Nat → Bool) (m : Mem) (a : Nat) : (Mem.keep g m).read a = if g a then m.read a else Mem.fill := by
  induction m with
  | nil => exact (ite_self _).symm
  | cons x m ih =>
    obtain ⟨b, v⟩ := x
    unfold Mem.keep
    by_cases hab : a = b
    · subst hab
      by_cases hg : g a = true
      · rw [if_pos hg, if_pos hg]
        exact (if_pos rfl).trans (if_pos rfl).symm
      · rw [if_neg hg, ih, if_neg hg, if_neg hg]
    · have hr : Mem.read ((b, v) :: m) a = Mem.read m a := if_neg hab
      rw [hr]
      split
      · exact (if_neg hab).trans ih
      · exact ih

/-- The sectors a burst erases first (R511). -/
def Fw.fresh (f : Fw) (b : Fin 2) (off n : Nat) : List Nat := (sectorsOf off n).filter (fun x => !(f.erased[b]).contains x)

theorem program_image (f : Fw) (b : Fin 2) (off : Nat) (data : List Byte) : (f.program b off data).image[b] =
    (Mem.keep (fun a => !(f.fresh b off data.length).contains (a / 4096)) f.image[b]).writes off (data.map (fun x => ~~~x)) := upd_self ..

theorem program_image_other (f : Fw) {b c : Fin 2} (h : b ≠ c) (off : Nat) (data : List Byte) : (f.program b off data).image[c] = f.image[c] :=
  upd_other _ _ _ _ h

theorem program_high (f : Fw) (b : Fin 2) (off : Nat) (data : List Byte) : (f.program b off data).high[b] = max f.high[b] (off + data.length) :=
  upd_self ..

theorem fresh_mem {b : Fin 2} {off n x : Nat} (h : (f.fresh b off n).contains x = true) : x ∉ f.erased[b] ∧ x ∈ sectorsOf off n := by
  obtain ⟨hm, hx⟩ := List.mem_filter.mp (List.contains_iff_mem.mp h)
  refine ⟨fun he => ?_, hm⟩
  rw [List.contains_iff_mem.mpr he] at hx
  exact Bool.false_ne_true hx

/-- A byte staged reads as staged; one outside the burst reads as before, or erased (R511). -/
theorem program_read {b : Fin 2} (hw : (f.image[b]).wf = true) (off : Nat) (data : List Byte) (a : Nat) : (f.program b off data).image[b].read a =
    if off ≤ a ∧ a < off + data.length then ~~~ (data.getD (a - off) 0)
    else if (f.fresh b off data.length).contains (a / 4096) then Mem.fill else f.image[b].read a := by
  rw [program_image, Mem.read_writes _ _ (Mem.wf_keep _ hw), List.length_map]
  by_cases h : off ≤ a ∧ a < off + data.length
  · rw [if_pos h, if_pos h, List.getD_eq_getElem _ _ (by rw [List.length_map]; omega), List.getElem_map, List.getD_eq_getElem _ _ (by omega)]
  · rw [if_neg h, if_neg h, read_keep]
    cases (f.fresh b off data.length).contains (a / 4096) <;> rfl

theorem program_bytes {b : Fin 2} (hw : (f.image[b]).wf = true) (off : Nat) (data : List Byte) :
    (f.program b off data).bytes b off data.length = data := by
  unfold Fw.bytes Mem.reads
  rw [List.map_map]
  refine List.ext_getElem (by rw [List.length_map]; exact List.length_range) fun k h1 h2 => ?_
  rw [List.getElem_map]
  have hk : (upto data.length)[k]'(by rw [List.length_map] at h1; exact h1) = k := List.getElem_range ..
  rw [hk]
  refine (congrArg (~~~ ·) (program_read hw off data (off + k))).trans ?_
  rw [if_pos ⟨by omega, by omega⟩, Nat.add_sub_cancel_left, List.getD_eq_getElem _ _ h2, BitVec.not_not]

theorem program_outside {b : Fin 2} (hw : (f.image[b]).wf = true) (off : Nat) (data : List Byte) {a : Nat} (h : a < off ∨ off + data.length ≤ a) :
    ~~~ (f.program b off data).image[b].read a = ~~~ f.image[b].read a ∨
      (a / 4096 ∉ f.erased[b] ∧ a / 4096 ∈ sectorsOf off data.length ∧ ~~~ (f.program b off data).image[b].read a = 0xFF) := by
  have hr := program_read hw off data a
  rw [if_neg (by omega)] at hr
  by_cases hf : (f.fresh b off data.length).contains (a / 4096) = true
  · rw [if_pos hf] at hr
    exact .inr ⟨(fresh_mem hf).1, (fresh_mem hf).2, by rw [hr]; rfl⟩
  · rw [if_neg hf] at hr
    exact .inl (by rw [hr])

/-! ## The manager stopped -/

/-- What of the manager and of the flash a stop leaves (R514, R519). -/
theorem stopManager_leaves (s : State) : (stopManager s).proto.waiting = [] ∧ (stopManager s).proto.exec = none ∧
    (stopManager s).fw = { (cutShort s).fw with st := (cutShort s).fw.st.map (fun x => if x = .verifying then .staged else x), commit := none } := by
  have hv : ∀ v : State, v = (if (discardCommands (cutShort s)).map.probe = .running then
      recheckActive { discardCommands (cutShort s) with map := { (discardCommands (cutShort s)).map with
        probe := .aborted, prev := none, words := blankWords, probing := false, storedProbe := none } }
      else discardCommands (cutShort s)) → v.proto.waiting = [] ∧ v.proto.exec = none ∧ v.fw = (cutShort s).fw := fun v h => by
    rw [h]
    split <;> exact ⟨rfl, rfl, rfl⟩
  unfold stopManager
  dsimp only
  generalize hu : (if (discardCommands (cutShort s)).map.probe = .running then _ else discardCommands (cutShort s)) = v
  obtain ⟨h1, h2, h3⟩ := hv v hu.symm
  rw [h3]
  refine ⟨?_, ?_, rfl⟩
  · split <;> exact h1
  · split <;> exact h2

theorem cutShort_bank (s : State) : (cutShort s).fw.bank = s.fw.bank := by
  unfold cutShort
  split
  · rw [cutBurn_fw]
  · rfl
  · rfl
  · rfl

theorem cutShort_idle (h : s.proto.exec = none) : cutShort s = s := by
  unfold cutShort
  rw [h]

theorem stopManager_elsewhere (s : State) : Elsewhere s (stopManager s) :=
  ⟨stopManager_cells .., stopManager_rails .., stopManager_dom .., stopManager_crease ..⟩

end Sys2Proof.Machine
end

section
/-! PROOF. O55, concluded: the commands of the firmware, its happenings, and the obligation (R508-R519). -/

namespace Sys2Proof.Machine

variable {s t u : State} {q : Req}

/-- The states of the bank in use and of the other (R508). -/
def Fw.ofBank (f : Fw) : BankSt := f.st[f.bank]
def Fw.ofOther (f : Fw) : BankSt := f.st[f.other]

/-! ## Staging -/

theorem fwStageOp_paramCheck {p : List Byte} (h5 : 5 ≤ p.length) (h492 : p.length ≤ 492) (hend : fieldAt p 0 4 + (p.length - 4) ≤ 2097152) :
    fwStageOp.paramCheck 2 p = none := by
  simp [OpSpec.paramCheck, fwStageOp, plenLimit, Plen.expected, h5, h492, Nat.not_lt.mpr hend]
  omega

/-- The bank that a block of staging opens, erased where it was not being staged (R508). -/
def stagingBank (f : Fw) : Fw := if f.st[f.other] = .staged then f
  else { f with st := upd f.st f.other .staged, verify := upd f.verify f.other 0, erased := upd f.erased f.other [], high := upd f.high f.other 0 }

/-- The flash as staging goes on (R508). -/
def stagingBegun (f : Fw) : Fw := { stagingBank f with verify := upd (stagingBank f).verify f.other 0 }

theorem stagingBegun_is (f : Fw) : (stagingBegun f).st[f.other] = .staged ∧ (stagingBegun f).st[f.bank] = f.st[f.bank] ∧
    (stagingBegun f).verify[f.other] = 0 ∧ (stagingBegun f).bank = f.bank ∧ (stagingBegun f).image = f.image := by
  have hb : (stagingBank f).st[f.other] = .staged ∧ (stagingBank f).st[f.bank] = f.st[f.bank] ∧ (stagingBank f).bank = f.bank ∧
      (stagingBank f).image = f.image := by
    unfold stagingBank
    split
    · next h => exact ⟨h, rfl, rfl, rfl⟩
    · exact ⟨upd_self .., upd_at_bank .., rfl, rfl⟩
  exact ⟨hb.1, hb.2.1, upd_self .., hb.2.2.1, hb.2.2.2⟩

theorem fwStageOp_busy (h : s.fw.st[s.fw.other] = .verifying) : fwStageOp.run q s = busy s 0 := if_pos h

theorem fwStageOp_trial (h : s.fw.st[s.fw.other] ≠ .verifying) (ht : s.fw.st[s.fw.bank] = .trial) :
    fwStageOp.run q s = refuse s 9 5 s.fw.bank.val := by
  refine (if_neg h).trans ((if_pos ht).trans ?_)
  unfold refuseBank
  rw [ht]
  rfl

theorem fwStageOp_begins (h : s.fw.st[s.fw.other] ≠ .verifying) (ht : s.fw.st[s.fw.bank] ≠ .trial) : fwStageOp.run q s =
    ({ s with fw := stagingBegun s.fw }, .defer (.stage (fieldAt q.params 0 4) (q.params.drop 4))) := by
  refine (if_neg h).trans ((if_neg ht).trans ?_)
  unfold stagingBegun stagingBank
  dsimp only
  split <;> rfl

/-- The module with a burst of staging written (R511). -/
def burstDone (off : Nat) (data : List Byte) (s : State) : State := { s with
  fw := s.fw.program s.fw.other off data, proto := { s.proto with exec := none } }

/-- The module with a burst of staging that failed (R512). -/
def burstFailed (off n : Nat) (s : State) : State := fwSet 0x4 { s with
  free := s.free + n, fw := s.fw.program s.fw.other off (freeBytes s n), proto := { s.proto with exec := none } }

theorem fwStageWriteDone_staged {p : Packet} {off : Nat} {data : List Byte} (h : s.proto.exec = some (p, .stage off data)) :
    exec (.fwStageWriteDone true) s = .next (serveFailed (answer p .done [] (burstDone off data s))) ∧
    exec (.fwStageWriteDone false) s = .next (serveFailed (answer p .doneWithNote [] (burstFailed off data.length s))) := by
  have hx : ∀ ok, exec (.fwStageWriteDone ok) s = execFwStageWriteDone ok s := fun _ => rfl
  refine ⟨?_, ?_⟩
  · rw [hx]
    unfold execFwStageWriteDone
    rw [h]
    dsimp only
    rw [if_pos rfl]
    exact congrArg Host.Outcome.next (complete_of_exec (s := { s with fw := s.fw.program s.fw.other off data }) .done [] h)
  · rw [hx]
    unfold execFwStageWriteDone
    rw [h]
    dsimp only
    rw [if_neg (by decide)]
    exact congrArg Host.Outcome.next (complete_of_exec (s := fwSet 0x4 { s with
      free := s.free + data.length, fw := s.fw.program s.fw.other off (freeBytes s data.length) }) .doneWithNote [] h)

/-! ## Verification -/

/-- The flash as a verification begins (R509). -/
def verifyBegun (f : Fw) : Fw := { f with
  st := upd f.st f.other .verifying, ver := upd f.ver f.other (if f.known f.other 128 then f.bytes f.other 0x10 3 else f.ver[f.other]) }

theorem fwVerifyOp_begins (h1 : s.fw.st[s.fw.other] ≠ .empty) (h2 : s.fw.st[s.fw.other] ≠ .verifying) :
    fwVerifyOp.run q s = started { s with fw := verifyBegun s.fw } := (if_neg h1).trans (if_neg h2)

/-- The bank as its verification ends with `r` (R509). -/
def verifiedAs (r : Nat) (f : Fw) : Fw := { f with
  verify := upd f.verify f.other r
  st := upd f.st f.other (if r = 1 then .verified else .rejected)
  keyAbsent := if r = 1 ∨ 5 ≤ r then decide (r = 5) else f.keyAbsent }

theorem fwVerifyDone_ends (hr : s.proto.running = true) (hv : s.fw.st[s.fw.other] = .verifying) : exec .fwVerifyDone s =
    .next (pulse 564 (if verifyBank s s.fw.other = 1 then bump { s with fw := verifiedAs (verifyBank s s.fw.other) s.fw }
      else fwSet 0x8 (bump { s with fw := verifiedAs (verifyBank s s.fw.other) s.fw }))) := congrArg Host.Outcome.next (if_pos ⟨hr, hv⟩)

theorem known_of_cleared {f : Fw} {b : Fin 2} (h : f.fitted[b] = false) (n : Nat) : f.known b n = true := by
  unfold Fw.known
  rw [h]
  rfl

/-- A bank whose bytes are all known is judged by its header first (R509). -/
theorem verifyBank_header {b : Fin 2} (h : s.fw.fitted[b] = false) (hm : (s.fw.bytes b 0 128).take 4 ≠ [0x48, 0x55, 0x41, 0x46]) : verifyBank s b = 2 := by
  unfold verifyBank
  dsimp only
  rw [if_neg (by rw [known_of_cleared h]; decide), if_pos (.inl hm)]

/-- An image that passes has its signature key and its hash (R509, R510). -/
theorem verifyBank_passes {b : Fin 2} (h : s.fw.fitted[b] = false) (hv : verifyBank s b = 1) : fieldAt (s.fw.bytes b 0 128) 0x0C 4 = 0x00010256 ∧
    keyUsable s = true ∧ ((s.fw.bytes b 0 128).drop 0x20).take 32 = sha256 (s.fw.bytes b 128 (fieldAt (s.fw.bytes b 0 128) 8 4)) := by
  unfold verifyBank at hv
  dsimp only at hv
  rw [if_neg (by rw [known_of_cleared h]; decide)] at hv
  split at hv
  · exact absurd hv (by decide)
  · split at hv
    · exact absurd hv (by decide)
    · split at hv
      · exact absurd hv (by decide)
      · next hkey =>
        split at hv
        · exact absurd hv (by decide)
        · next huse =>
          split at hv
          · exact absurd hv (by decide)
          · rw [if_neg (by rw [known_of_cleared h]; decide)] at hv
            split at hv
            · next hsha => exact ⟨not_not.mp hkey, by simpa using huse, hsha⟩
            · exact absurd hv (by decide)

/-- The module as a verification ends, but for its notice (R509). -/
def verifyEnded (s : State) : State := if verifyBank s s.fw.other = 1 then bump { s with fw := verifiedAs (verifyBank s s.fw.other) s.fw }
  else fwSet 0x8 (bump { s with fw := verifiedAs (verifyBank s s.fw.other) s.fw })

theorem verifyEnded_is (s : State) : verifyEnded s = { s with free := s.free + 1, fw := (verifyEnded s).fw } ∧
    (verifyEnded s).fw = { verifiedAs (verifyBank s s.fw.other) s.fw with
      flags := if verifyBank s s.fw.other = 1 then s.fw.flags else s.fw.flags ||| 0x8 } := by
  unfold verifyEnded
  split <;> exact ⟨rfl, rfl⟩

/-! ## Commits -/

theorem commitWhen_bank {hitless revert : Bool} (h : s.fw.st[s.fw.bank] ≠ .active) :
    commitWhen hitless revert s = refuse s 9 s.fw.ofBank.code s.fw.bank.val := if_pos h

theorem commitWhen_other {hitless revert : Bool} (h : s.fw.st[s.fw.bank] = .active) (ho : s.fw.st[s.fw.other] ≠ .verified) :
    commitWhen hitless revert s = refuse s 9 s.fw.ofOther.code s.fw.other.val := (if_neg (not_not.mpr h)).trans (if_pos ho)

theorem commitWhen_inDomain {hitless revert : Bool} (h : s.fw.st[s.fw.bank] = .active) (ho : s.fw.st[s.fw.other] = .verified)
    (ht : hitless = true → s.dom.st = .rising ∨ s.dom.st = .falling) (hf : hitless = false → s.dom.st ≠ .down ∧ s.dom.st ≠ .latched) :
    commitWhen hitless revert s = refuseDom s := by
  refine (if_neg (not_not.mpr h)).trans ((if_neg (not_not.mpr ho)).trans ?_)
  cases hitless with
  | true => exact if_pos ⟨rfl, ht rfl⟩
  | false => exact (if_neg fun hn => Bool.false_ne_true hn.1).trans (if_pos ⟨rfl, hf rfl⟩)

/-- A commit whose banks and domain permit it (R513). -/
theorem commitWhen_permitted {hitless revert : Bool} (h : s.fw.st[s.fw.bank] = .active) (ho : s.fw.st[s.fw.other] = .verified)
    (ht : hitless = true → s.dom.st ≠ .rising ∧ s.dom.st ≠ .falling) (hf : hitless = false → s.dom.st = .down ∨ s.dom.st = .latched)
    (hc : s.proto.cfg ≠ .applying) : commitWhen hitless revert s = if s.map.probe = .running then refuse s 2 (mapCode s) 0xFF
      else started { s with fw := { s.fw with commit := some (hitless, revert, s.proto.replyNo) } } := by
  refine (if_neg (not_not.mpr h)).trans ((if_neg (not_not.mpr ho)).trans ((if_neg ?_).trans ((if_neg ?_).trans (if_neg hc))))
  · exact fun hn => hn.2.elim (ht hn.1).1 (ht hn.1).2
  · exact fun hn => (hf hn.1).elim hn.2.1 hn.2.2

theorem commitStop_stops {hitless revert : Bool} {n : Nat} (h : s.fw.commit = some (hitless, revert, n)) : exec .commitStop s =
    .next (if replyLeft n s ∧ s.proto.exec = none ∧ s.proto.running then
      { stopManager s with fw := { (stopManager s).fw with
        switchDue := some revert, causeNext := if revert then 8 else if hitless then 6 else 7 } } else s) := by
  refine congrArg Host.Outcome.next ?_
  rw [h]

/-! ## A lockstep mismatch -/

/-- The manager stopped for a mismatch, but for what its restart is told (R519). -/
def mismatched (s : State) : State := pulse 561 (fwSet 0x2 (stopManager s))

theorem mismatched_is (s : State) : Elsewhere s (mismatched s) ∧ (mismatched s).proto = (stopManager s).proto ∧ (mismatched s).hem = s.hem ∧
    (mismatched s).fw.bank = s.fw.bank ∧ (mismatched s).fw.flags.getLsbD 1 = true := by
  have hfw : (mismatched s).fw = (fwSet 0x2 (stopManager s)).fw := pulse_fw ..
  have he : Elsewhere (stopManager s) (mismatched s) := ⟨pulse_cells .., pulse_rails .., pulse_dom .., pulse_crease ..⟩
  refine ⟨(stopManager_elsewhere s).trans he, pulse_proto .., (pulse_hem ..).trans (stopManager_hem s), ?_, ?_⟩
  · have hb : (fwSet 0x2 (stopManager s)).fw.bank = (stopManager s).fw.bank := rfl
    rw [hfw, hb, (stopManager_leaves s).2.2]
    exact cutShort_bank s
  · have hl : (fwSet 0x2 (stopManager s)).fw.flags = (stopManager s).fw.flags ||| 0x2 := rfl
    rw [hfw, hl, BitVec.getLsbD_or]
    exact Bool.or_true _

/-- Settles O55: a burst is written where it is staged and nowhere else, and each command and happening is judged by the states of the two banks. -/
theorem firmwareIsStagedVerifiedAndCommitted : Obligations.FirmwareIsStagedVerifiedAndCommitted := by
  intro q s
  have hfw : (arrived q s).fw = s.fw := arrived_fw q s
  have hbk : (arrived q s).fw.st[(arrived q s).fw.bank] = s.fw.st[s.fw.bank] := congrArg Fw.ofBank hfw
  have hot : (arrived q s).fw.st[(arrived q s).fw.other] = s.fw.st[s.fw.other] := congrArg Fw.ofOther hfw
  have hw : ∀ {op}, Ready op q s → (arrived q s).proto.waiting = [] := fun hr => by rw [arrived_proto]; exact hr.empty
  refine ⟨fun off hr h5 h492 hoff => ⟨fun hend => ?_, fun hend => ⟨fun h => ?_, fun h ht => ?_, fun h ht => ?_⟩⟩, fun p off data h hinv => ⟨?_, ?_⟩,
    fun h ok => ?_, fun hr hp => ⟨fun h => ?_, fun h => ?_, fun h1 h2 => ?_⟩, fun h => ?_, fun hrun hv => ?_, fun hitless revert i op hi hr => ?_, fun h => ?_,
    fun hitless revert n h => ⟨fun hn => ?_, fun h1 h2 h3 => ?_⟩, fun h => ?_, fun hrun ht => ?_, fun h => ?_, fun hrun ho => ?_⟩
  case refine_1 =>
    subst hoff
    refine ⟨_, (checksRefuseWithoutEffect (.fwStage q) fwStageOp q s rfl hr.toTurn hr.v2 (by omega)).2.1 0 ?_ (if_pos hend), rfl⟩
    simp [fwStageOp, Plen.expected, h5, h492]
  case refine_2 =>
    subst hoff
    exact completes_of_reply rfl hr (fwStageOp_paramCheck h5 h492 hend) (fwStageOp_busy (hot.trans h)) (hw hr) rfl
  case refine_3 =>
    subst hoff
    have hrun := fwStageOp_trial (q := q) (s := arrived q s) (fun hn => h (hot.symm.trans hn)) (hbk.trans ht)
    rw [hfw] at hrun
    exact completes_of_reply rfl hr (fwStageOp_paramCheck h5 h492 hend) hrun (hw hr) rfl
  case refine_4 =>
    subst hoff
    have hrun := fwStageOp_begins (q := q) (s := arrived q s) (fun hn => h (hot.symm.trans hn)) (fun hn => ht (hbk.symm.trans hn))
    rw [hfw] at hrun
    exact begins_of_run rfl hr (fwStageOp_paramCheck h5 h492 hend) hrun ⟨rfl, stagingBegun_is s.fw⟩
  case refine_5 =>
    refine ⟨burstDone off data s, (fwStageWriteDone_staged h).1, rfl, program_image_other _ (other_ne s.fw) _ _, program_high .., ?_, fun a ha => ?_⟩
    · exact program_bytes (hinv.banks s.fw.other) off data
    · exact program_outside (hinv.banks s.fw.other) off data ha
  case refine_6 =>
    exact ⟨burstFailed off data.length s, (fwStageWriteDone_staged h).2, rfl, program_image_other _ (other_ne s.fw) _ _⟩
  case refine_7 =>
    have hx : exec (.fwStageWriteDone ok) s = execFwStageWriteDone ok s := rfl
    rw [hx]
    unfold execFwStageWriteDone
    split
    · next p off data hj => exact absurd hj (h p off data)
    · rfl
  case refine_8 =>
    exact completes_of_reply (o := fwVerifyOp) rfl hr (nil_paramCheck hp (by decide) rfl rfl) (if_pos (hot.trans h)) (hw hr) rfl
  case refine_9 =>
    exact completes_of_reply (o := fwVerifyOp) rfl hr (nil_paramCheck hp (by decide) rfl rfl)
      ((if_neg fun hn => absurd ((hot.trans h).symm.trans hn) (by decide)).trans (if_pos (hot.trans h))) (hw hr) rfl
  case refine_10 =>
    have hrun := fwVerifyOp_begins (q := q) (s := arrived q s) (fun hn => h1 (hot.symm.trans hn)) (fun hn => h2 (hot.symm.trans hn))
    rw [hfw] at hrun
    exact completes_of_reply rfl hr (nil_paramCheck hp (by decide) rfl rfl) hrun (hw hr) ⟨rfl, rfl, upd_self .., upd_at_bank .., rfl⟩
  case refine_11 =>
    exact congrArg Host.Outcome.next (if_neg fun ⟨h1, h2⟩ => h.elim (fun h => Bool.false_ne_true (h.symm.trans h1)) fun h => h h2)
  case refine_12 =>
    obtain ⟨honly, hf⟩ := verifyEnded_is s
    have hx : exec .fwVerifyDone s = .next (pulse 564 (verifyEnded s)) := fwVerifyDone_ends hrun hv
    have hpf : (pulse 564 (verifyEnded s)).fw = _ := (pulse_fw ..).trans hf
    have hver : (pulse 564 (verifyEnded s)).fw.verify[s.fw.other] = verifyBank s s.fw.other := by
      rw [hpf]
      exact upd_self ..
    have hst : (pulse 564 (verifyEnded s)).fw.st[s.fw.other] = if verifyBank s s.fw.other = 1 then .verified else .rejected := by
      rw [hpf]
      exact upd_self ..
    have htop : pulse 564 (verifyEnded s) = { s with
        free := s.free + 1, fw := (pulse 564 (verifyEnded s)).fw, router := (pulse 564 (verifyEnded s)).router
        seam := (pulse 564 (verifyEnded s)).seam, pwr := (pulse 564 (verifyEnded s)).pwr, clk := (pulse 564 (verifyEnded s)).clk } := by
      rw [pulse_fw]
      refine (pulse_only 564 (verifyEnded s)).trans ?_
      rw [honly]
    generalize pulse 564 (verifyEnded s) = t at hx hpf hver hst htop
    refine ⟨t, hx, htop, by rw [hpf]; rfl, by rw [hpf]; rfl, by rw [hpf]; exact upd_at_bank .., fun h1 => ?_, fun h1 => ?_, fun h hfit hh => ⟨fun hm => ?_, fun h1 => ?_⟩⟩
    · rw [hver] at h1
      rw [hst, hpf, if_pos h1]
      exact ⟨rfl, if_pos h1⟩
    · rw [hver] at h1
      rw [hst, hpf, if_neg h1]
      exact ⟨rfl, if_neg h1⟩
    · subst hh
      rw [hver]
      exact verifyBank_header hfit hm
    · subst hh
      rw [hver] at h1
      exact verifyBank_passes hfit h1
  case refine_13 =>
    have hdom : (arrived q s).dom = s.dom := arrived_dom q s
    have hmap : (arrived q s).map = s.map := arrived_map q s
    have hcode : mapCode (arrived q s) = mapCode s := by
      unfold mapCode
      rw [hmap]
    have hcall : ∀ (st : Status) (l : List Byte) (t : State) (P : State → Prop), commitWhen hitless revert (arrived q s) = (t, .reply st l) →
        t.proto = (arrived q s).proto → P t → Completes i op q s st l P := fun st l t P hrun hpr hP => by
      have hwt : t.proto.waiting = [] := by
        rw [hpr]
        exact hw hr
      obtain ⟨rfl, rfl, hl, rfl, rfl⟩ | ⟨rfl, rfl, hp, rfl, rfl⟩ := hi
      · exact completes_of_reply (o := fwCommitOp) rfl hr (fixed_paramCheck (n := 1) (by decide) (by decide) rfl hl rfl) hrun hwt hP
      · exact completes_of_reply (o := fwRevertOp) rfl hr (nil_paramCheck hp (by decide) rfl rfl) hrun hwt hP
    refine ⟨fun h => ?_, fun h ho => ?_, fun h ho => ⟨fun ⟨ht, hf⟩ => ?_, fun ht hf => ⟨fun hpr => ?_, fun hpr => ?_⟩⟩⟩
    · have hrun := commitWhen_bank (s := arrived q s) (hitless := hitless) (revert := revert) (fun hn => h (hbk.symm.trans hn))
      rw [hfw] at hrun
      exact hcall _ _ _ _ hrun rfl rfl
    · have hrun := commitWhen_other (s := arrived q s) (hitless := hitless) (revert := revert) (hbk.trans h) (fun hn => ho (hot.symm.trans hn))
      rw [hfw] at hrun
      exact hcall _ _ _ _ hrun rfl rfl
    · have hrun := commitWhen_inDomain (s := arrived q s) (hitless := hitless) (revert := revert) (hbk.trans h) (hot.trans ho)
        (by rw [hdom]; exact ht) (by rw [hdom]; exact hf)
      rw [refuseDom_arrived] at hrun
      exact hcall _ _ _ _ hrun rfl rfl
    · have hrun := commitWhen_permitted (s := arrived q s) (hitless := hitless) (revert := revert) (hbk.trans h) (hot.trans ho)
        (by rw [hdom]; exact ht) (by rw [hdom]; exact hf) (by rw [arrived_proto]; exact hr.still)
      rw [hmap, if_pos hpr, hcode] at hrun
      exact hcall _ _ _ _ hrun rfl rfl
    · have hrun := commitWhen_permitted (s := arrived q s) (hitless := hitless) (revert := revert) (hbk.trans h) (hot.trans ho)
        (by rw [hdom]; exact ht) (by rw [hdom]; exact hf) (by rw [arrived_proto]; exact hr.still)
      have hrun' := hrun.trans (if_neg (by rw [hmap]; exact hpr))
      rw [hfw, show (arrived q s).proto.replyNo = s.proto.replyNo from congrArg Proto.replyNo (arrived_proto q s)] at hrun'
      exact hcall _ _ _ _ hrun' rfl rfl
  case refine_14 =>
    refine congrArg Host.Outcome.next ?_
    rw [h]
  case refine_15 =>
    refine (commitStop_stops h).trans (congrArg Host.Outcome.next (if_neg fun ⟨h1, h2, h3⟩ => ?_))
    obtain hn | hn | hn := hn
    · exact Bool.false_ne_true (hn.symm.trans h1)
    · exact hn h2
    · exact Bool.false_ne_true (hn.symm.trans h3)
  case refine_16 =>
    obtain ⟨hwait, -, hf⟩ := stopManager_leaves s
    have hrun := stopManager_stopped s
    have he := stopManager_elsewhere s
    rw [cutShort_idle h2] at hf
    have hx := (commitStop_stops h).trans (congrArg Host.Outcome.next (if_pos ⟨h1, h2, h3⟩))
    generalize stopManager s = u at hwait hf hrun he hx
    exact ⟨_, hx, he, hrun, hwait, rfl, by rw [hf], by rw [hf], rfl⟩
  case refine_17 =>
    exact congrArg Host.Outcome.next (if_neg fun ⟨h1, h2⟩ => h.elim (fun h => Bool.false_ne_true (h.symm.trans h1)) fun h => h h2)
  case refine_18 =>
    exact ⟨_, congrArg Host.Outcome.next (if_pos ⟨hrun, ht⟩), rfl, upd_self .., upd_other _ _ _ _ (other_ne s.fw).symm, rfl, rfl⟩
  case refine_19 =>
    exact congrArg Host.Outcome.next (if_neg fun ⟨h1, h2⟩ => h.elim (fun h => Bool.false_ne_true (h.symm.trans h1)) fun h =>
      Bool.false_ne_true (h2.symm.trans h))
  case refine_20 =>
    have hx : exec .lockstepMismatch s = .next { mismatched s with
        fw := { (mismatched s).fw with lockstepOk := false, causeNext := 5 }
        hem := { (mismatched s).hem with lockstep := satInc 0xFFFFFFFF (mismatched s).hem.lockstep } } :=
      congrArg Host.Outcome.next (if_pos ⟨hrun, ho⟩)
    obtain ⟨he, hp, hh, hb, hfl⟩ := mismatched_is s
    obtain ⟨hwait, hexec, -⟩ := stopManager_leaves s
    have hstop := stopManager_stopped s
    rw [← hp] at hwait hexec hstop
    generalize mismatched s = u at hx he hh hb hfl hwait hexec hstop
    exact ⟨_, hx, he, hstop, hwait, hexec, rfl, rfl, hb, hfl, by rw [hh]⟩

end Sys2Proof.Machine
end

section
/-! PROOF. O56: test lands selected and released (R523-R525). -/

namespace Sys2Proof.Machine

variable {s : State} {q : Req}

/-- The signals of a land's kind (R523). -/
def kindOf (land code : Nat) : Bool := if land < 2 then analogueCode code else digitalCode code

theorem kindOf_true {land code : Nat} (ha : land < 2 → analogueCode code = true) (hd : 2 ≤ land → digitalCode code = true) : kindOf land code = true := by
  unfold kindOf
  split
  · next h => exact ha h
  · next h => exact hd (Nat.not_lt.mp h)

theorem kindOf_false {land code : Nat} (h : 5 < land ∨ (land < 2 ∧ analogueCode code = false) ∨ (2 ≤ land ∧ digitalCode code = false)) :
    ¬ (land < 6 ∧ kindOf land code = true) := by
  rintro ⟨h6, hk⟩
  unfold kindOf at hk
  obtain h | ⟨h, hc⟩ | ⟨h, hc⟩ := h
  · omega
  · rw [if_pos h, hc] at hk
    exact Bool.false_ne_true hk
  · rw [if_neg (Nat.not_lt.mpr h), hc] at hk
    exact Bool.false_ne_true hk

/-- The lands with one of them set (R523). -/
def landDriven (k : Fin 6) (x : Option Nat) (s : State) : State := { s with fw := { s.fw with mux := upd s.fw.mux k x } }

theorem land_val {n : Nat} {k : Fin 6} (h : n = k.val) : Fin.ofNat 6 n = k := Fin.ext (by rw [h]; exact Nat.mod_eq_of_lt k.isLt)

theorem testmuxSelectOp_refused (hs : s.fuse.lcState = 3) (hp : powerCritical (fieldAt q.params 2 2) = true) :
    testmuxSelectOp.run q s = refuse s 8 3 0xFF := if_pos ⟨hs, hp⟩

theorem free_signal {f : Fuse} {c : Nat} (h : f.lcState ≠ 3 ∨ powerCritical c = false) : ¬ (f.lcState = 3 ∧ powerCritical c = true) := fun ⟨h1, h2⟩ =>
  h.elim (fun h => h h1) fun h => Bool.false_ne_true (h.symm.trans h2)

theorem testmuxSelectOp_drives {k : Fin 6} (hn : ¬ (s.fuse.lcState = 3 ∧ powerCritical (fieldAt q.params 2 2) = true)) (hk : byteAt q.params 0 = k.val)
    (hc : kindOf (byteAt q.params 0) (fieldAt q.params 2 2) = true) :
    testmuxSelectOp.run q s = done0 (landDriven k (some (fieldAt q.params 2 2)) s) := by
  have h6 : byteAt q.params 0 < 6 := hk ▸ k.isLt
  refine (if_neg hn).trans ((if_pos ⟨h6, hc⟩).trans ?_)
  obtain rfl := land_val hk
  rfl

theorem testmuxSelectOp_noted (hn : ¬ (s.fuse.lcState = 3 ∧ powerCritical (fieldAt q.params 2 2) = true))
    (hc : ¬ (byteAt q.params 0 < 6 ∧ kindOf (byteAt q.params 0) (fieldAt q.params 2 2) = true)) : testmuxSelectOp.run q s = noted s [] :=
  (if_neg hn).trans (if_neg hc)

theorem testmuxReleaseOp_one {k : Fin 6} (hk : byteAt q.params 0 = k.val) : testmuxReleaseOp.run q s = done0 (landDriven k none s) := by
  have h6 : byteAt q.params 0 < 6 := hk ▸ k.isLt
  refine (if_neg (by omega)).trans ((if_pos h6).trans ?_)
  obtain rfl := land_val hk
  rfl

/-- Settles O56: a selection of a land's kind drives it, and a release frees one land or all. -/
theorem testLandsAreSelectedAndReleased : Obligations.TestLandsAreSelectedAndReleased := by
  intro q s
  have hlc : (arrived q s).fuse.lcState = s.fuse.lcState := by rw [arrived_fuse]
  have hfw : (arrived q s).fw = s.fw := arrived_fw q s
  have hw : ∀ {op}, Ready op q s → (arrived q s).proto.waiting = [] := fun hr => by rw [arrived_proto]; exact hr.empty
  have hdriven : ∀ (k : Fin 6) (x : Option Nat), landDriven k x (arrived q s) = { arrived q s with fw := { s.fw with mux := (landDriven k x (arrived q s)).fw.mux } } ∧
      (landDriven k x (arrived q s)).fw.mux[k] = x ∧ ∀ j : Fin 6, j ≠ k → (landDriven k x (arrived q s)).fw.mux[j] = s.fw.mux[j] := fun k x => by
    unfold landDriven
    rw [hfw]
    exact ⟨rfl, upd_self .., fun j hj => upd_other _ _ _ _ hj.symm⟩
  refine ⟨fun land code hr hl hland hcode => ⟨fun hs hp => ?_, fun hs => ⟨fun k hk ha hd => ?_, fun h => ?_⟩⟩,
    fun land hr hl hland => ⟨fun k hk => ?_, fun h => ?_, fun h5 hff => ?_⟩⟩
  case refine_1 =>
    subst hland hcode
    exact completes_of_reply rfl hr (fixed_paramCheck (n := 4) (by decide) (by decide) rfl hl rfl)
      (testmuxSelectOp_refused (hlc.trans hs) hp) (hw hr) rfl
  case refine_2 =>
    subst hland hcode
    exact completes_of_reply rfl hr (fixed_paramCheck (n := 4) (by decide) (by decide) rfl hl rfl)
      (testmuxSelectOp_drives (by rw [hlc]; exact free_signal hs) hk (kindOf_true ha hd)) (hw hr) (hdriven k _)
  case refine_3 =>
    subst hland hcode
    exact completes_of_reply rfl hr (fixed_paramCheck (n := 4) (by decide) (by decide) rfl hl rfl)
      (testmuxSelectOp_noted (by rw [hlc]; exact free_signal hs) (kindOf_false h)) (hw hr) rfl
  case refine_4 =>
    subst hland
    exact completes_of_reply rfl hr (fixed_paramCheck (n := 1) (by decide) (by decide) rfl hl rfl) (testmuxReleaseOp_one hk) (hw hr) (hdriven k _)
  case refine_5 =>
    subst hland
    have hrun : testmuxReleaseOp.run q (arrived q s) = done0 (releaseAll (arrived q s)) := if_pos h
    unfold releaseAll at hrun
    rw [hfw] at hrun
    exact completes_of_reply rfl hr (fixed_paramCheck (n := 1) (by decide) (by decide) rfl hl rfl) hrun (hw hr) ⟨rfl, fun k => Vector.getElem_replicate ..⟩
  case refine_6 =>
    subst hland
    exact completes_of_reply (o := testmuxReleaseOp) rfl hr (fixed_paramCheck (n := 1) (by decide) (by decide) rfl hl rfl)
      ((if_neg hff).trans (if_neg (by omega))) (hw hr) rfl

end Sys2Proof.Machine
end

section
/-! PROOF. O57: what a reset does to the manager and the domain (R68, R228, R376, R384, R389). -/

namespace Sys2Proof.Machine

variable {s t u : State}

/-! ## The domain taken down for a full start -/

/-- A domain state left by a run that goes down and does not latch. -/
def Downward (s t : State) : Prop :=
  t.dom.fullDue = s.dom.fullDue ∧ t.dom.vinMem = s.dom.vinMem ∧ t.dom.st ≠ .rising ∧ t.dom.st ≠ .up

theorem endRun_downward (h : s.dom.latchPend = false) : Downward s (endRun s) := by
  have hc := endRun_domcore s
  rw [if_neg (by rw [h]; exact Bool.false_ne_true)] at hc
  have hst : (endRun s).dom.st = .down := Dom.get hc Dom.st (fun _ => rfl)
  refine ⟨Dom.get hc Dom.fullDue (fun _ => rfl), Dom.get hc Dom.vinMem (fun _ => rfl), ?_, ?_⟩ <;> rw [hst] <;> decide

theorem nextDown_downward (k : Nat) (hl : s.dom.latchPend = false) (hst : s.dom.st = .falling) : Downward s (nextDown k s) := by
  unfold nextDown
  split
  · refine ⟨rfl, rfl, ?_, ?_⟩ <;> dsimp only <;> rw [hst] <;> decide
  · exact endRun_downward hl

theorem beginDown_downward (hl : s.dom.latchPend = false) (hst : s.dom.st = .falling) : Downward s (beginDown s) := by
  unfold beginDown
  split
  · refine ⟨rfl, rfl, ?_, ?_⟩ <;> dsimp only <;> rw [hst] <;> decide
  split
  · refine ⟨rfl, rfl, ?_, ?_⟩ <;> dsimp only <;> rw [hst] <;> decide
  · exact nextDown_downward 16 hl hst

theorem enterFalling_downward (s : State) : Downward s (enterFalling false s) := by
  by_cases h : s.dom.st = .rising ∨ s.dom.st = .up
  · have hf := beginDown_downward (s := fallen false s) (by rw [fallen_dom]) (by rw [fallen_dom])
    rw [enterFalling_eq h]
    unfold Downward at hf ⊢
    rw [fallen_dom] at hf
    exact hf
  · obtain ⟨h1, h2⟩ := not_or.mp h
    unfold enterFalling
    split <;> exact ⟨rfl, rfl, h1, h2⟩

theorem beginFull_dom (cause : Nat) (s : State) : (beginFull cause s).dom.fullDue = some cause ∧ (beginFull cause s).dom.vinMem = s.dom.vinMem ∧
    (beginFull cause s).dom.st ≠ .rising ∧ (beginFull cause s).dom.st ≠ .up := enterFalling_downward _

theorem beginFull_stopped {cause : Nat} (h : s.dom.st = .down ∨ s.dom.st = .latched) :
    (beginFull cause s).dom.st = s.dom.st ∧ (beginFull cause s).rails = s.rails := by
  unfold beginFull enterFalling
  rw [if_neg (by dsimp only; obtain h | h := h <;> rw [h] <;> decide), if_neg (by dsimp only; obtain h | h := h <;> rw [h] <;> decide)]
  exact ⟨rfl, rfl⟩

/-! ## The manager alone stopped for a restart -/

theorem stopManager_resetDue (s : State) : (stopManager s).proto.resetDue = none := by
  unfold stopManager
  dsimp only
  generalize hu : (if (discardCommands (cutShort s)).map.probe = .running then _ else discardCommands (cutShort s)) = v
  split <;> rfl

theorem beginRestart_is (cause : Nat) (s : State) : Elsewhere s (beginRestart cause s) ∧ (beginRestart cause s).proto.running = false ∧
    (beginRestart cause s).proto.waiting = [] ∧ (beginRestart cause s).proto.exec = none ∧ (beginRestart cause s).proto.resetDue = none ∧
    (beginRestart cause s).fw.bank = s.fw.bank ∧ (beginRestart cause s).hem = s.hem ∧
    (beginRestart cause s).fw.causeNext = (if s.fw.switchDue = none then cause else s.fw.causeNext) := by
  obtain ⟨hw, he, hf⟩ := stopManager_leaves s
  refine ⟨stopManager_elsewhere s, stopManager_stopped s, hw, he, stopManager_resetDue s, ?_, stopManager_hem .., ?_⟩
  · exact (congrArg Fw.bank hf).trans (cutShort_bank s)
  · unfold beginRestart
    dsimp only
    cases s.fw.switchDue <;> rfl

/-! ## The RESET_N land -/

/-- The land is seen to go low (R388, R389). -/
def resetSeen (s : State) : State := { s with land := { s.land with resetIgnored := false, resetLow := true } }

theorem exec_resetN (s : State) : exec .resetN s = .next (if s.off then resetSeen s
    else if s.pwr.st = .hibernate ∨ s.pwr.entering ∨ s.pwr.st = .doze then wakeReq .resetN (resetSeen s)
    else if resetFull s then beginFull 2 (resetSeen s)
    else beginRestart 1 (resetSeen s)) := rfl

theorem wakeReq_elsewhere (w : WakeSource) (s : State) : Elsewhere s (wakeReq w s) :=
  ⟨wakeReq_cells .., wakeReq_rails .., wakeReq_dom .., wakeReq_crease ..⟩

theorem wakeReq_pwr (w : WakeSource) (ho : s.off = false) : (s.pwr.st = .doze → (wakeReq w s).pwr.gated = false) ∧
    (s.pwr.st = .hibernate ∨ s.pwr.entering = true → s.pwr.wake = none → (wakeReq w s).pwr.wake = some w) := by
  unfold wakeReq
  rw [if_neg (by rw [ho]; exact Bool.false_ne_true)]
  refine ⟨fun h => ?_, fun h hw => if_pos ⟨h, hw⟩⟩
  dsimp only
  rw [h, decide_eq_false (by decide), Bool.and_false]

theorem resetN_wakes (ho : s.off = false) (h : s.pwr.st = .hibernate ∨ s.pwr.entering = true ∨ s.pwr.st = .doze) :
    exec .resetN s = .next (wakeReq .resetN (resetSeen s)) := by
  rw [exec_resetN, if_neg (by rw [ho]; exact Bool.false_ne_true), if_pos h]

theorem resetN_awake (ho : s.off = false) (h1 : s.pwr.st ≠ .hibernate) (h2 : s.pwr.entering = false) (h3 : s.pwr.st ≠ .doze) :
    exec .resetN s = .next (if resetFull s then beginFull 2 (resetSeen s) else beginRestart 1 (resetSeen s)) := by
  rw [exec_resetN, if_neg (by rw [ho]; exact Bool.false_ne_true),
    if_neg (not_or.mpr ⟨h1, not_or.mpr ⟨by rw [h2]; exact Bool.false_ne_true, h3⟩⟩)]

/-! ## RESET_MODULE and the time-out of a full reset -/

/-- The command's reset has been taken up (R376). -/
def resetTaken (s : State) : State := { s with proto := { s.proto with resetDue := none } }

theorem resetModuleAct_acts {kind n : Nat} (hd : s.proto.resetDue = some (kind, n)) (hr : replyLeft n s = true) (he : s.proto.exec = none)
    (hp : s.proto.running = true) : exec .resetModuleAct s =
      .next (if kind = 1 then beginFull 4 (resetTaken s) else beginRestart 3 (resetTaken s)) := by
  have hx : exec .resetModuleAct s = execResetModuleAct s := rfl
  rw [hx, execResetModuleAct, hd]
  exact congrArg Host.Outcome.next (if_pos ⟨hr, he, hp⟩)

theorem resetModuleAct_stays {kind n : Nat} (hd : s.proto.resetDue = some (kind, n))
    (h : replyLeft n s = false ∨ s.proto.exec ≠ none ∨ s.proto.running = false) : exec .resetModuleAct s = .next s := by
  have hx : exec .resetModuleAct s = execResetModuleAct s := rfl
  rw [hx, execResetModuleAct, hd]
  refine congrArg Host.Outcome.next (if_neg ?_)
  rintro ⟨h1, h2, h3⟩
  obtain h | h | h := h
  · exact Bool.false_ne_true (h.symm.trans h1)
  · exact h h2
  · exact Bool.false_ne_true (h.symm.trans h3)

theorem domLoseVin_fullDue (s : State) : (domLoseVin s).dom.fullDue = s.dom.fullDue := by
  by_cases h : s.dom.st = .latched
  · rw [domLoseVin_latched h]
  unfold domLoseVin
  rw [if_neg h]
  dsimp only
  split
  · rfl
  · exact Dom.get (enterDom_domcore ..) Dom.fullDue (fun _ => rfl)

theorem stopSwitching_fullDue (s : State) : (stopSwitching s).dom.fullDue = s.dom.fullDue := by
  unfold stopSwitching
  dsimp only
  rw [domLoseVin_fullDue, offEvents_dom, stopAllArming_dom, leaveRails_dom, abortProbe_dom, changeCells_dom]

/-- A state in which the domain holds what another one remembers of its rise (R384). -/
def remembers (d : Dom) (u : State) : State := { u with dom := { u.dom with vinMem := d.vinMem, restartDue := d.restartDue } }

theorem fullResetTimeout_forces (hd : s.dom.fullDue ≠ none) (ho : s.off = false) :
    exec .fullResetTimeout s = .next (remembers s.dom (stopManager (stopSwitching s))) :=
  congrArg Host.Outcome.next (if_pos ⟨Option.isSome_iff_ne_none.mpr hd, ho⟩)

theorem stopManager_stopSwitching (s : State) : (stopManager (stopSwitching s)).dom.fullDue = s.dom.fullDue ∧
    (stopManager (stopSwitching s)).proto.running = false ∧ (s.dom.st = .latched → (stopManager (stopSwitching s)).dom.st = .latched) ∧
    (s.dom.st ≠ .latched → (stopManager (stopSwitching s)).dom.st = .down) ∧
    (∀ c : Fin 256, (stopManager (stopSwitching s)).cells[c] = if s.cells[c].st = .retired then s.cells[c] else s.cells[c].turnOff) ∧
    ∀ r : Fin 48, (stopManager (stopSwitching s)).rails[r].st = if s.rails[r].st = .latchedOff then .latchedOff else .off := by
  obtain ⟨hl, hn⟩ := stopSwitching_dom s
  refine ⟨?_, stopManager_stopped _, fun h => ?_, fun h => ?_, fun c => ?_, fun r => ?_⟩
  · rw [stopManager_dom, stopSwitching_fullDue]
  · rw [stopManager_dom, hl h]
  · rw [stopManager_dom, (hn h).1]
  · exact (congrArg (fun v : Vector Cell 256 => v[c]) (stopManager_cells (stopSwitching s))).trans (stopSwitching_cell c s)
  · exact (congrArg Rail.st (rail_of_rails (stopManager_rails (stopSwitching s)) r)).trans (stopSwitching_rail r s)

/-! ## The automatic rise -/

/-- The automatic rise has been taken up (R228). -/
def autoTaken (s : State) : State := { s with dom := { s.dom with autoUp := false } }

theorem exec_autoUp (hd : s.dom.autoUp = true) (hp : s.proto.running = true) (ho : s.off = false) (hm : s.map.probe ≠ .running)
    (hc : s.proto.cfg ≠ .applying) : exec .autoUp s =
      .next (if s.map.probe = .aborted ∧ enableHigh s = false then autoTaken s else pinUp (autoTaken s)) := by
  refine congrArg Host.Outcome.next (if_neg ?_)
  rintro (h | h | h | h | h)
  · exact Bool.false_ne_true (h.symm.trans hd)
  · exact Bool.false_ne_true (h.symm.trans hp)
  · exact Bool.false_ne_true (ho.symm.trans h)
  · exact hm h
  · exact hc h

theorem enterRising_up (hu : s.undervolt = false) (hp : s.proto.running = true) (h2 : s.dom.role ≠ 2) (h3 : s.dom.role ≠ 3)
    (ha : s.dom.autoUp = false) : (enterRising s).dom.autoUp = false ∧ (enterRising s).cells = s.cells ∧
      ((∀ j : Fin 16, s.dom.slots[j].used = false) → (enterRising s).dom.st = .up) ∧
      ∀ j : Fin 16, s.dom.slots[j].used = true → (∀ i : Fin 16, i < j → s.dom.slots[i].used = false) →
        (enterRising s).dom.st = .rising ∧ (enterRising s).dom.cur = some j.val := by
  have hfirst : ∀ j : Fin 16, s.dom.slots[j].used = true → (∀ i : Fin 16, i < j → s.dom.slots[i].used = false) →
      (enterRising s).dom.autoUp = false ∧ (enterRising s).dom.st = .rising ∧ (enterRising s).dom.cur = some j.val := fun j hj hi => by
    rw [enterRising_first hu hp (.inl ⟨h2, h3⟩) hj hi]
    exact ⟨ha, rfl, rfl⟩
  have hnone : (∀ j : Fin 16, s.dom.slots[j].used = false) → (enterRising s).dom.autoUp = false ∧ (enterRising s).dom.st = .up := fun hj => by
    have h := enterRising_none hu hp (.inl ⟨h2, h3⟩) hj
    exact ⟨(Dom.get h Dom.autoUp (fun _ => rfl)).trans ha, Dom.get h Dom.st (fun _ => rfl)⟩
  refine ⟨?_, enterRising_cells .., fun hj => (hnone hj).2, fun j hj hi => (hfirst j hj hi).2⟩
  by_cases hj : ∃ j : Fin 16, s.dom.slots[j].used = true
  · obtain ⟨j, hj, hi⟩ := exists_first_used _ hj
    exact (hfirst j hj hi).1
  · exact (hnone fun j => Bool.eq_false_of_not_eq_true fun h => hj ⟨j, h⟩).1

end Sys2Proof.Machine
end

section
/-! PROOF. O57: a start of the manager alone (R389, R514-R518). -/

namespace Sys2Proof.Machine

variable {s t u : State}

/-! ## The bank chosen -/

theorem bootBank_shape (s : State) : (bootBank s).fw.image = s.fw.image ∧ (bootBank s).fw.commit = none ∧
    (bootBank s).fw.starts = satInc 0xFFFFFFFF s.fw.starts := by
  unfold bootBank
  dsimp only
  split
  · exact ⟨rfl, rfl, rfl⟩
  split <;> exact ⟨rfl, rfl, rfl⟩

/-- A trial that did not confirm gives way to the other bank (R516). -/
theorem bootBank_trial (h : s.fw.st[s.fw.bank] = .trial) : (bootBank s).fw.bank = s.fw.other ∧ (bootBank s).fw.st[s.fw.bank] = .rejected ∧
    (bootBank s).fw.st[s.fw.other] = .active ∧ (bootBank s).fw.verify[s.fw.bank] = 8 ∧ (bootBank s).fw.cause = 9 ∧
    (bootBank s).fw.flags.getLsbD 0 = true := by
  have hx : bootBank s = _ := if_pos h
  have hf : (bootBank s).fw.st = upd (upd s.fw.st s.fw.bank .rejected) s.fw.other .active ∧ (bootBank s).fw.verify = upd s.fw.verify s.fw.bank 8 ∧
      (bootBank s).fw.flags = s.fw.flags ||| 0x1 ∧ (bootBank s).fw.bank = s.fw.other ∧ (bootBank s).fw.cause = 9 := by
    rw [hx]
    exact ⟨rfl, rfl, rfl, rfl, rfl⟩
  obtain ⟨h1, h2, h3, h4, h5⟩ := hf
  refine ⟨h4, ?_, ?_, ?_, h5, ?_⟩
  · rw [h1, upd_other _ _ _ _ (other_ne s.fw), upd_self]
  · rw [h1, upd_self]
  · rw [h2, upd_self]
  · rw [h3, BitVec.getLsbD_or]
    exact Bool.or_eq_true_iff.mpr (.inr rfl)

/-- A commit switches to the verified bank on trial (R514, R515). -/
theorem bootBank_switches (h : s.fw.st[s.fw.bank] ≠ .trial) (hd : s.fw.switchDue ≠ none) (hv : s.fw.st[s.fw.other] = .verified) :
    (bootBank s).fw.bank = s.fw.other ∧ (bootBank s).fw.st[s.fw.other] = .trial ∧ (bootBank s).fw.st[s.fw.bank] = .verified ∧
      (bootBank s).fw.cause = s.fw.causeNext ∧ (bootBank s).fw.trialAt = some s.hem.ticks := by
  have hx : bootBank s = _ := (if_neg h).trans (if_pos ⟨Option.isSome_iff_ne_none.mpr hd, hv⟩)
  have hf : (bootBank s).fw.st = upd (upd s.fw.st s.fw.bank .verified) s.fw.other .trial ∧ (bootBank s).fw.bank = s.fw.other ∧
      (bootBank s).fw.cause = s.fw.causeNext ∧ (bootBank s).fw.trialAt = some s.hem.ticks := by
    rw [hx]
    exact ⟨rfl, rfl, rfl, rfl⟩
  obtain ⟨h1, h2, h3, h4⟩ := hf
  refine ⟨h2, ?_, ?_, h3, h4⟩
  · rw [h1, upd_self]
  · rw [h1, upd_other _ _ _ _ (other_ne s.fw), upd_self]

theorem bootBank_keeps (h : s.fw.st[s.fw.bank] ≠ .trial) (hd : s.fw.switchDue = none ∨ s.fw.st[s.fw.other] ≠ .verified) :
    (bootBank s).fw.bank = s.fw.bank ∧ (bootBank s).fw.st = s.fw.st ∧ (bootBank s).fw.cause = s.fw.causeNext := by
  have hn : ¬ (s.fw.switchDue.isSome ∧ s.fw.st[s.fw.other] = .verified) := fun hn => hd.elim
    (fun h => Option.isSome_iff_ne_none.mp hn.1 h) (fun h => h hn.2)
  have hx : bootBank s = _ := (if_neg h).trans (if_neg hn)
  rw [hx]
  exact ⟨rfl, rfl, rfl⟩

/-! ## The manager woken -/

/-- The checks of a start, after which the manager runs (R389, R495). -/
def startChecks (s : State) : State :=
  let s0 := fuseChecks false (bootBank s)
  checkBackup (if s0.pwr.st = .safeHold then moveLevel s0 else s0)

/-- The manager runs, with its volatile memory empty (R389). -/
def woken (u : State) : State :=
  { u with
    proto := { u.proto with
      running := true, buffer := [], loaded := false, cfg := u.proto.cfg.restarted, startAt := u.hem.ticks, flags := u.proto.flags ||| 1 }
    router := { u.router with ch := u.router.ch.map (fun c => { c with sub := none }) }
    therm := { u.therm with hist := Vector.replicate 16 [], rate := Vector.replicate 16 0, queue := [] } }

/-- The events of a start sent, and the domain joined anew (R443, R516). -/
def startSigns (revert : Bool) (u : State) : State := sendWaitingNotices (startGathering (resetStuck (startEvents revert u)))

theorem exec_managerStart (hp : s.proto.running = false) (ho : s.off = false) (h1 : s.pwr.st ≠ .hibernate) (h2 : s.pwr.entering = false)
    (h3 : s.fw.causeNext ≠ 7) (h4 : s.dom.fullDue = none) : exec .managerStart s = .next (drainFrames (receiveRaw (answerDropped (judgeWaiting (pollPins
      (startSigns (decide (s.fw.switchDue = some true)) (woken (startChecks s)))))))) := by
  have hx : exec .managerStart s = execManagerStart s := rfl
  rw [hx]
  refine if_neg ?_
  rintro (h | h | h | h | h | h)
  · exact Bool.false_ne_true (hp.symm.trans h)
  · exact Bool.false_ne_true (ho.symm.trans h)
  · exact h1 h
  · exact Bool.false_ne_true (h2.symm.trans h)
  · exact h3 h
  · exact Option.isSome_iff_ne_none.mp h h4

theorem answerDropped_none (h : s.proto.dropped = []) : answerDropped s = s := by
  unfold answerDropped
  rw [h, List.foldl_nil, ← h]

theorem receiveRaw_none (h : s.proto.raw = []) : receiveRaw s = s := by
  unfold receiveRaw
  rw [h, List.foldl_nil, ← h]

theorem drainFrames_none (h : s.seam.rxBuf = []) : drainFrames s = s := by
  unfold drainFrames
  rw [h, List.foldl_nil, ← h]

/-- With nothing that waits, the start ends with its signs. -/
theorem startDrained (hr : s.proto.raw = []) (hd : s.proto.dropped = []) (hb : s.seam.rxBuf = []) (hph : s.dom.ph = .idle) :
    drainFrames (receiveRaw (answerDropped (judgeWaiting (pollPins s)))) = s := by
  rw [pollPins_idle hph, judgeWaiting_idle (by rw [hph]; decide), answerDropped_none hd, receiveRaw_none hr, drainFrames_none hb]

/-! ## What the checks and the signs leave -/

theorem fuseChecks_fw (full : Bool) (s : State) : ∃ b, (fuseChecks full s).fw = { s.fw with patched := b } := by
  unfold fuseChecks
  dsimp only
  split <;> simp only [pulse_fw, pulseIf_fw] <;> exact ⟨_, rfl⟩

theorem startChecks_fw (s : State) : ∃ b, (startChecks s).fw = { (bootBank s).fw with patched := b } := by
  obtain ⟨b, hb⟩ := fuseChecks_fw false (bootBank s)
  refine ⟨b, ?_⟩
  unfold startChecks
  dsimp only
  rw [checkBackup_fw, ite_fw, moveLevel_fw, ite_self, hb]

theorem checkBackup_hem (s : State) : (checkBackup s).hem.ticks = s.hem.ticks ∧ (checkBackup s).hem.rtc = s.hem.rtc ∧
    (checkBackup s).hem.wakes = s.hem.wakes := ⟨rfl, rfl, rfl⟩

theorem startChecks_frame (s : State) : Elsewhere s (startChecks s) ∧ (startChecks s).map = s.map ∧ (startChecks s).tlm = s.tlm ∧
    (startChecks s).chg = s.chg ∧ (startChecks s).proto = s.proto ∧ (startChecks s).hem.ticks = s.hem.ticks ∧ (startChecks s).seam.core = s.seam.core := by
  unfold startChecks Elsewhere
  dsimp only
  split
  · refine ⟨⟨?_, ?_, ?_, ?_⟩, ?_, ?_, ?_, ?_, (checkBackup_hem _).1.trans ?_, ?_⟩ <;> simp
  · refine ⟨⟨?_, ?_, ?_, ?_⟩, ?_, ?_, ?_, ?_, (checkBackup_hem _).1.trans ?_, ?_⟩ <;> simp

theorem setAgree_kept (a : AgreeSt) (causes : Nat) (s : State) : (setAgree a causes s).seam.rxBuf = s.seam.rxBuf ∧
    (setAgree a causes s).seam.addr = s.seam.addr := by
  unfold setAgree
  dsimp only
  generalize hu : ({ s with seam := { s.seam with agree := a, causes := causes, flags := (if a = .disagree ∧ s.seam.agree ≠ .disagree then
    s.seam.flags ||| 0x80 else s.seam.flags) } } : State) = u
  have h := (pulseIf_told (decide (a = .disagree) && decide (s.seam.agree ≠ .disagree)) 530 u).1.core
  subst hu
  exact ⟨Seam.get h Seam.rxBuf (fun _ => rfl), Seam.get h Seam.addr (fun _ => rfl)⟩

theorem startGathering_kept (s : State) : (startGathering s).seam.rxBuf = s.seam.rxBuf ∧ (startGathering s).seam.addr = s.seam.addr := by
  unfold startGathering
  dsimp only
  split <;> exact setAgree_kept ..

theorem startSigns_kept (revert : Bool) (u : State) : (startSigns revert u).seam.rxBuf = u.seam.rxBuf ∧ (startSigns revert u).seam.addr = u.seam.addr := by
  unfold startSigns
  have h1 := sendWaitingNotices_seamcore (startGathering (resetStuck (startEvents revert u)))
  obtain ⟨h2, h3⟩ := startGathering_kept (resetStuck (startEvents revert u))
  have h4 := (resetStuck_seamcore (startEvents revert u)).trans (startEvents_seamcore revert u)
  exact ⟨(Seam.get h1 Seam.rxBuf (fun _ => rfl)).trans (h2.trans (Seam.get h4 Seam.rxBuf (fun _ => rfl))),
    (Seam.get h1 Seam.addr (fun _ => rfl)).trans (h3.trans (Seam.get h4 Seam.addr (fun _ => rfl)))⟩

theorem startSigns_frame (revert : Bool) (u : State) : Elsewhere u (startSigns revert u) ∧ (startSigns revert u).map = u.map ∧
    (startSigns revert u).tlm = u.tlm ∧ (startSigns revert u).chg = u.chg ∧ (startSigns revert u).proto = u.proto ∧
    (startSigns revert u).therm = u.therm ∧ (startSigns revert u).fw = u.fw := by
  unfold startSigns Elsewhere
  refine ⟨⟨?_, ?_, ?_, ?_⟩, ?_, ?_, ?_, ?_, ?_, ?_⟩ <;> simp

/-- The manager started (R389). -/
def restarted (s : State) : State := startSigns (decide (s.fw.switchDue = some true)) (woken (startChecks s))

theorem restarted_frame (s : State) : Elsewhere s (restarted s) ∧ (restarted s).map = s.map ∧ (restarted s).tlm = s.tlm ∧
    (restarted s).crease = s.crease ∧ (restarted s).chg = s.chg ∧ (restarted s).therm.queue = [] ∧ (restarted s).seam.rxBuf = s.seam.rxBuf ∧
    (restarted s).proto = { s.proto with
      running := true, buffer := [], loaded := false, startAt := s.hem.ticks
      cfg := if s.proto.cfg = .loading then .empty else s.proto.cfg, flags := s.proto.flags ||| 1 } := by
  unfold restarted
  generalize decide (s.fw.switchDue = some true) = revert
  obtain ⟨he, hm, ht, hc, hp, hh, hs⟩ := startChecks_frame s
  generalize startChecks s = u at he hm ht hc hp hh hs
  obtain ⟨he', hm', ht', hc', hp', hth, -⟩ := startSigns_frame revert (woken u)
  have hr := (startSigns_kept revert (woken u)).1
  have hE : Elsewhere s (startSigns revert (woken u)) := he.trans he'
  refine ⟨hE, hm'.trans hm, ht'.trans ht, hE.2.2.2, hc'.trans hc, (congrArg Therm.queue hth :), hr.trans (Seam.get hs Seam.rxBuf (fun _ => rfl)), hp'.trans ?_⟩
  unfold woken
  dsimp only
  rw [hp, hh]
  rfl

theorem restarted_fw (s : State) : ∃ b, (restarted s).fw = { (bootBank s).fw with patched := b } := by
  obtain ⟨b, hb⟩ := startChecks_fw s
  unfold restarted
  generalize startChecks s = u at hb
  generalize bootBank s = v at hb
  obtain ⟨-, -, -, -, -, -, hf⟩ := startSigns_frame (decide (s.fw.switchDue = some true)) (woken u)
  exact ⟨b, hf.trans hb⟩

theorem managerStart_starts (hp : s.proto.running = false) (ho : s.off = false) (h1 : s.pwr.st ≠ .hibernate) (h2 : s.pwr.entering = false)
    (h3 : s.fw.causeNext ≠ 7) (h4 : s.dom.fullDue = none) (hr : s.proto.raw = []) (hd : s.proto.dropped = []) (hb : s.seam.rxBuf = [])
    (hph : s.dom.ph = .idle) : exec .managerStart s = .next (restarted s) := by
  obtain ⟨⟨-, -, hdom, -⟩, -, -, -, -, -, hs, hproto⟩ := restarted_frame s
  refine (exec_managerStart hp ho h1 h2 h3 h4).trans (congrArg Host.Outcome.next (startDrained (s := restarted s) ?_ ?_ (hs.trans hb) ?_))
  · rw [hproto]
    exact hr
  · rw [hproto]
    exact hd
  · rw [hdom]
    exact hph

end Sys2Proof.Machine
end

section
/-! PROOF. O57: a full start without map and image (R68, R384, R450, R518). -/

namespace Sys2Proof.Machine

variable {s t u : State}

/-! ## What a full start reads of the state it begins in -/

/-- Of two states the same is found by a full start: the retired cells, the time, the flash, the address and the wake count. -/
def SameStart (s v : State) : Prop :=
  v.map.retiredSet = s.map.retiredSet ∧ v.hem.ticks = s.hem.ticks ∧ v.hem.rtc = s.hem.rtc ∧ v.hem.wakes = s.hem.wakes ∧
    v.fw.image = s.fw.image ∧ v.seam.addr = s.seam.addr

theorem FullyStarted.of_same {straps : BitVec 3} {v : State} (h : FullyStarted straps v t) (hs : SameStart s v) : FullyStarted straps s t := by
  obtain ⟨h1, h2, h3, h4, h5, h6⟩ := hs
  obtain ⟨hrun, hquiet, himage, hdom, hrails, hcells, haddr, hhem, hkept, hstarts⟩ := h
  rw [h1] at hcells
  rw [h2, h3, h4] at hhem
  rw [h5, h6] at hkept
  exact ⟨hrun, hquiet, himage, hdom, hrails, hcells, haddr, hhem, hkept, hstarts⟩

/-- A state that agrees with one fully started in what a full start promises. -/
def StartKept (t u : State) : Prop :=
  u.proto = t.proto ∧ u.dom.st = t.dom.st ∧ u.rails = t.rails ∧ (∀ c : Fin 256, u.cells[c].st = t.cells[c].st) ∧
    (u.land.strap = t.land.strap ∧ u.land.twiAddr = t.land.twiAddr) ∧ u.hem = t.hem ∧ u.fw = t.fw ∧ u.seam.addr = t.seam.addr

theorem StartKept.trans (h : StartKept s t) (h' : StartKept t u) : StartKept s u := by
  obtain ⟨h1, h2, h3, h4, ⟨h5, h6⟩, h7, h8, h9⟩ := h
  obtain ⟨k1, k2, k3, k4, ⟨k5, k6⟩, k7, k8, k9⟩ := h'
  exact ⟨k1.trans h1, k2.trans h2, k3.trans h3, fun c => (k4 c).trans (h4 c), ⟨k5.trans h5, k6.trans h6⟩, k7.trans h7, k8.trans h8, k9.trans h9⟩

theorem FullyStarted.of_kept {straps : BitVec 3} (h : FullyStarted straps s t) (hk : StartKept t u) : FullyStarted straps s u := by
  obtain ⟨h1, h2, h3, h4, ⟨h5, h6⟩, h7, h8, h9⟩ := hk
  obtain ⟨hrun, hquiet, himage, hdom, hrails, hcells, haddr, hhem, hkept, hstarts⟩ := h
  refine ⟨?_, ?_, ?_, h2.trans hdom, fun r => ?_, fun c => (h4 c).trans (hcells c), ?_, ?_, ?_, ?_⟩
  · rw [h1]
    exact hrun
  · rw [h1]
    exact hquiet
  · rw [h1]
    exact himage
  · rw [h3]
    exact hrails r
  · rw [h5, h6]
    exact haddr
  · rw [h7]
    exact hhem
  · rw [h8, h9]
    exact hkept
  · rw [h8]
    exact hstarts

/-! ## The blocks at their reset -/

/-- Without a command in execution, a stop of the manager loses no flash, no fuse and no stored map. -/
theorem stopManager_idle (he : s.proto.exec = none) : (stopManager s).map.stored = s.map.stored ∧
    (stopManager s).map.retiredSet = s.map.retiredSet ∧ (stopManager s).proto.stored = s.proto.stored ∧ (stopManager s).fuse = s.fuse ∧
    (stopManager s).fw.image = s.fw.image := by
  obtain ⟨-, -, hf⟩ := stopManager_leaves s
  rw [cutShort_idle he] at hf
  have hv : ∀ v : State, v = (if (discardCommands s).map.probe = .running then
      recheckActive { discardCommands s with map := { (discardCommands s).map with
        probe := .aborted, prev := none, words := blankWords, probing := false, storedProbe := none } }
      else discardCommands s) → v.map.stored = s.map.stored ∧ v.map.retiredSet = s.map.retiredSet ∧ v.proto.stored = s.proto.stored ∧
        v.fuse = s.fuse := fun v h => by
    rw [h]
    split <;> exact ⟨rfl, rfl, rfl, rfl⟩
  refine ⟨?_, ?_, ?_, ?_, (congrArg Fw.image hf).trans rfl⟩
  all_goals
    unfold stopManager
    dsimp only
    rw [cutShort_idle he]
    generalize hu : (if (discardCommands s).map.probe = .running then _ else discardCommands s) = v
    obtain ⟨h1, h2, h3, h4⟩ := hv v hu.symm
  · exact h1
  · exact h2
  · split <;> exact h3
  · exact h4

/-- The state a full start begins its checks in: blocks at reset, none of them promised more than the fields named here. -/
structure Blank (straps : BitVec 3) (s w : State) : Prop where
  proto : w.proto.running = true ∧ w.proto.exec = none ∧ w.proto.waiting = [] ∧ w.proto.cfg = .empty ∧ w.proto.buffer = [] ∧
    w.proto.inForce = none ∧ w.proto.stored = s.proto.stored
  map : w.map.stored = s.map.stored
  domain : w.dom.st = .down
  rails : ∀ r : Fin 48, w.rails[r].st = .off
  cells : ∀ c : Fin 256, w.cells[c].st = if s.map.retiredSet.getLsbD c.val = true then .retired else .off
  land : w.land.strap = straps ∧ w.land.twiAddr = 0x58 + straps.toNat ∧ w.land.vinLow = s.land.vinLow ∧ w.land.vinOver = s.land.vinOver
  hem : w.hem.ticks = s.hem.ticks ∧ w.hem.rtc = s.hem.rtc ∧ w.hem.wakes = s.hem.wakes
  fuse : ∀ l, w.fuse.dataAt l = s.fuse.dataAt l
  kept : w.fw.image = s.fw.image ∧ w.seam.addr = s.seam.addr

theorem resetBlocks_cell (strap ext : BitVec 3) (s : State) (c : Fin 256) : (resetBlocks strap ext s).cells[c].st =
    if s.map.retiredSet.getLsbD c.val = true then .retired else .off := by
  have h : (resetBlocks strap ext s).cells[c] = _ := mapIdx_get ..
  rw [h]
  have hr : (Vector.replicate 256 ({} : Cell))[c] = {} := Vector.getElem_replicate ..
  refine (congrArg Cell.st (congrArg (fun x : Cell => if s.map.retiredSet.getLsbD c.val then { x with st := CellSt.retired } else x) hr)).trans ?_
  split <;> rfl

theorem resetBlocks_hem (strap ext : BitVec 3) (s : State) : (resetBlocks strap ext s).hem.ticks = s.hem.ticks ∧
    (resetBlocks strap ext s).hem.rtc = s.hem.rtc ∧ (resetBlocks strap ext s).hem.wakes = s.hem.wakes := by
  have h : (resetBlocks strap ext s).hem = if s.hem.wdSt = .disabled ∧ s.hem.wdLast.enable then s.hem.first s.hem.ticks else s.hem := rfl
  rw [h]
  split <;> exact ⟨rfl, rfl, rfl⟩

theorem resetBlocks_blank (strap ext : BitVec 3) (s : State) : Blank strap s (resetBlocks strap ext s) where
  proto := ⟨rfl, rfl, rfl, rfl, rfl, rfl, rfl⟩
  map := rfl
  domain := rfl
  rails r := congrArg Rail.st (Vector.getElem_replicate (a := ({} : Rail)) (n := 48) r.isLt)
  cells := resetBlocks_cell strap ext s
  land := ⟨rfl, rfl, rfl, rfl⟩
  hem := resetBlocks_hem strap ext s
  fuse _ := dataAt_congr rfl
  kept := ⟨rfl, rfl⟩

/-- The blocks a full start resets, once the manager has stopped without a command in execution. -/
theorem started_blank {strap ext : BitVec 3} (he : s.proto.exec = none) : Blank strap s (resetBlocks strap ext (stopManager s)) := by
  have hb := resetBlocks_blank strap ext (stopManager s)
  obtain ⟨h1, h2, h3, h4, h5⟩ := stopManager_idle he
  have hland := stopManager_land s
  have hhem := stopManager_hem s
  have hseam := stopManager_seam s
  generalize resetBlocks strap ext (stopManager s) = w at hb
  obtain ⟨hp, hm, hd, hr, hc, hl, hh, hf, hk⟩ := hb
  rw [h3] at hp
  rw [h1] at hm
  rw [h2] at hc
  rw [hland] at hl
  rw [hhem] at hh
  rw [h4] at hf
  rw [h5, hseam] at hk
  exact ⟨hp, hm, hd, hr, hc, hl, hh, hf, hk⟩

/-! ## The checks of a full start -/

theorem fuseChecks_dataAt (full : Bool) (s : State) (l : Nat) : (fuseChecks full s).fuse.dataAt l = s.fuse.dataAt l := by
  unfold fuseChecks
  dsimp only
  split
  all_goals
    simp only [pulse_fuse, pulseIf_fuse]
    exact (dataAt_congr (f := s.fuse.drift s.free (fun _ => true)) rfl).trans (drift_dataAt ..)

theorem bootBank_only (s : State) : bootBank s = { s with fw := (bootBank s).fw } := by
  unfold bootBank
  dsimp only
  split
  · rfl
  split <;> rfl

/-- The bank chosen, the starts counted anew, and the fuses, the backup memory and the cause of the start checked and noted. -/
def startChecked (src detail left : Nat) (w : State) : State :=
  recordWake src detail left (checkBackup (fuseChecks true { bootBank w with fw := { (bootBank w).fw with starts := 0 } }))

/-- The clock of a start: in SAFE HOLD the level is L2 (R384). -/
def startClock (u : State) : State :=
  { u with clk := if u.pwr.st = .safeHold then { (setSupply u.clk 720 100 .on) with level := .l2, levelReq := .l2 } else u.clk }

/-- What a full start does once its map and its image are loaded. -/
def startFinish (revert : Bool) (u : State) : State := reselect (startEvents revert (startGathering (resetStuck (startWork u))))

theorem fullStart_eq (strap ext : BitVec 3) (src detail left : Nat) (s : State) : fullStart strap ext src detail left s =
    match loadImage (loadMap (startClock (startChecked src detail left (overAtStart (resetBlocks strap ext (stopManager s)))))) with
    | (_, some f) => .fault f
    | (t, none) => .next (startFinish (decide (s.fw.switchDue = some true)) t) := rfl

theorem startFuses_fw (w : State) : (fuseChecks true { bootBank w with fw := { (bootBank w).fw with starts := 0 } }).fw.image = w.fw.image ∧
    (fuseChecks true { bootBank w with fw := { (bootBank w).fw with starts := 0 } }).fw.starts = 0 ∧
    (fuseChecks true { bootBank w with fw := { (bootBank w).fw with starts := 0 } }).fw.commit = none := by
  obtain ⟨h1, h2, -⟩ := bootBank_shape w
  generalize bootBank w = v at h1 h2
  obtain ⟨b, hb⟩ := fuseChecks_fw true { v with fw := { v.fw with starts := 0 } }
  rw [hb]
  exact ⟨h1, rfl, h2⟩

theorem recordWake_is (src detail left : Nat) (s : State) : (recordWake src detail left s).hem.ticks = s.hem.ticks ∧
    (recordWake src detail left s).hem.rtc = s.hem.rtc ∧ (recordWake src detail left s).hem.wakes = satInc 65535 s.hem.wakes ∧
    (recordWake src detail left s).hem.wakeSrc = src ∧ (recordWake src detail left s).hem.wakeLeft = left := ⟨rfl, rfl, rfl, rfl, rfl⟩

/-- What the checks of a full start make of blank blocks. -/
theorem startChecked_is (src detail left : Nat) (w : State) :
    (startChecked src detail left w).proto = w.proto ∧ (startChecked src detail left w).map = w.map ∧ (startChecked src detail left w).dom = w.dom ∧
    (startChecked src detail left w).rails = w.rails ∧ (startChecked src detail left w).cells = w.cells ∧
    (startChecked src detail left w).land = w.land ∧ (startChecked src detail left w).seam.addr = w.seam.addr ∧
    (∀ l, (startChecked src detail left w).fuse.dataAt l = w.fuse.dataAt l) := by
  unfold startChecked
  have hb := bootBank_only w
  generalize (bootBank w).fw = f at hb
  rw [hb]
  dsimp only
  refine ⟨?_, ?_, ?_, ?_, ?_, ?_, ?_, fun l => ?_⟩
  · rw [recordWake_proto, checkBackup_proto, fuseChecks_proto]
  · rw [recordWake_map, checkBackup_map, fuseChecks_map]
  · rw [recordWake_dom, checkBackup_dom, fuseChecks_dom]
  · rw [recordWake_rails, checkBackup_rails, fuseChecks_rails]
  · rw [recordWake_cells, checkBackup_cells, fuseChecks_cells]
  · rw [recordWake_land, checkBackup_land, fuseChecks_land]
  · have h := fuseChecks_seamcore true { w with fw := { f with starts := 0 } }
    rw [recordWake_seam, checkBackup_seam]
    exact Seam.get h Seam.addr (fun _ => rfl)
  · rw [recordWake_fuse, checkBackup_fuse, fuseChecks_dataAt]

theorem startChecked_hem (src detail left : Nat) (w : State) : (startChecked src detail left w).hem.ticks = w.hem.ticks ∧
    (startChecked src detail left w).hem.rtc = w.hem.rtc ∧ (startChecked src detail left w).hem.wakes = satInc 65535 w.hem.wakes ∧
    (startChecked src detail left w).hem.wakeSrc = src ∧ (startChecked src detail left w).hem.wakeLeft = left := by
  have hh := fuseChecks_hem true { bootBank w with fw := { (bootBank w).fw with starts := 0 } }
  unfold startChecked
  generalize fuseChecks true { bootBank w with fw := { (bootBank w).fw with starts := 0 } } = u at hh
  have hu : u.hem = w.hem := hh.trans (bootBank_hem w)
  obtain ⟨h1, h2, h3, h4, h5⟩ := recordWake_is src detail left (checkBackup u)
  obtain ⟨k1, k2, k3⟩ := checkBackup_hem u
  rw [h1, h2, h3, h4, h5, k1, k2, k3, hu]
  exact ⟨rfl, rfl, rfl, rfl, rfl⟩

theorem startChecked_fw (src detail left : Nat) (w : State) : (startChecked src detail left w).fw.image = w.fw.image ∧
    (startChecked src detail left w).fw.starts = 0 ∧ (startChecked src detail left w).fw.commit = none := by
  unfold startChecked
  rw [recordWake_fw, checkBackup_fw]
  exact startFuses_fw w

/-- Blank blocks, checked, are those of a full start; its map and its image are still to be loaded. -/
theorem Blank.checked {straps : BitVec 3} {w : State} (h : Blank straps s w) (src detail left : Nat) :
    FullyStarted straps s (startChecked src detail left w) := by
  obtain ⟨⟨p1, p2, p3, p4, p5, p6, -⟩, -, hd, hr, hc, ⟨l1, l2, -, -⟩, ⟨t1, t2, t3⟩, -, ⟨k1, k2⟩⟩ := h
  obtain ⟨hproto, -, hdom, hrails, hcells, hland, hseam, -⟩ := startChecked_is src detail left w
  obtain ⟨e1, e2, e3, -, -⟩ := startChecked_hem src detail left w
  obtain ⟨f1, f2, f3⟩ := startChecked_fw src detail left w
  generalize startChecked src detail left w = u at hproto hdom hrails hcells hland hseam e1 e2 e3 f1 f2 f3 ⊢
  refine ⟨?_, ?_, ?_, ?_, fun r => ?_, fun c => ?_, ?_, ?_, ⟨f1.trans k1, hseam.trans k2⟩, ⟨f2, f3⟩⟩
  · rw [hproto]
    exact p1
  · rw [hproto]
    exact ⟨p2, p3⟩
  · rw [hproto]
    exact ⟨p4, p5, p6⟩
  · rw [hdom]
    exact hd
  · rw [hrails]
    exact hr r
  · rw [hcells]
    exact hc c
  · rw [hland]
    exact ⟨l1, l2⟩
  · rw [e1, e2, e3, t1, t2, t3]
    exact ⟨rfl, rfl, rfl⟩

/-! ## Nothing to load -/

theorem regionBytes_congr {f g : Fuse} (h : ∀ l, g.dataAt l = f.dataAt l) (code : Nat) : g.regionBytes code = f.regionBytes code := by
  have hr : ∀ row, g.rowData row = f.rowData row := fun row => by
    unfold Fuse.rowData
    rw [place_congr h, h]
  unfold Fuse.regionBytes
  exact congrArg (fun k => (regionRows code).flatMap k) (funext hr)

theorem cconfImage_congr (h : ∀ l, t.fuse.dataAt l = s.fuse.dataAt l) : cconfImage t = cconfImage s := by
  unfold cconfImage
  rw [regionBytes_congr h]

theorem loadMap_none (hm : s.map.stored = none) (hc : cconfImage s = none) : loadMap s = s := by
  unfold loadMap
  rw [hm, hc]
  dsimp only
  split <;> rfl

theorem startImage_none (hs : s.proto.stored = none) (hc : cconfImage s = none) : startImage s = none := by
  unfold startImage
  rw [hs, hc]
  dsimp only
  split <;> rfl

theorem loadImage_none (hs : s.proto.stored = none) (hc : cconfImage s = none) : loadImage s = (s, none) := by
  unfold loadImage
  rw [startImage_none hs hc]

/-! ## The work a start begins -/

theorem startProbe_cellSt (s : State) (c : Fin 256) : (startProbe s).cells[c].st = s.cells[c].st := by
  have h : (startProbe s).cells[c] = (changeCells s (fun _ c => { c with senseLocal := true, ref := 0 })).cells[c] := rfl
  rw [h, changeCells_get]
  split <;> rfl

theorem startWork_kept (s : State) : StartKept s (startWork s) := by
  refine ⟨startWork_proto s, ?_, startWork_rails s, fun c => ?_, ?_, startWork_hem s, startWork_fw s, ?_⟩
  · unfold startWork
    dsimp only
    split
    · rfl
    split
    · rfl
    · rw [startProbe_dom]
  · unfold startWork
    dsimp only
    split
    · rfl
    split
    · rfl
    · exact startProbe_cellSt ..
  · rw [startWork_land]
    exact ⟨rfl, rfl⟩
  · exact Seam.get (startWork_seamcore s) Seam.addr (fun _ => rfl)

theorem resetStuck_kept (s : State) : StartKept s (resetStuck s) := by
  have hl : (resetStuck s).land.strap = s.land.strap ∧ (resetStuck s).land.twiAddr = s.land.twiAddr := by
    unfold resetStuck
    split
    · unfold landSet
      rw [pulseIf_land]
      exact ⟨rfl, rfl⟩
    · exact ⟨rfl, rfl⟩
  refine ⟨resetStuck_proto s, congrArg Dom.st (resetStuck_dom s), resetStuck_rails s, fun c => by rw [resetStuck_cells], hl, resetStuck_hem s, resetStuck_fw s, ?_⟩
  exact Seam.get (resetStuck_seamcore s) Seam.addr (fun _ => rfl)

theorem startGathering_startKept (s : State) : StartKept s (startGathering s) :=
  ⟨startGathering_proto s, congrArg Dom.st (startGathering_dom s), startGathering_rails s, fun c => by rw [startGathering_cells],
    by rw [startGathering_land]; exact ⟨rfl, rfl⟩, startGathering_hem s, startGathering_fw s, (startGathering_kept s).2⟩

theorem startEvents_kept (revert : Bool) (s : State) : StartKept s (startEvents revert s) :=
  ⟨startEvents_proto .., congrArg Dom.st (startEvents_dom ..), startEvents_rails .., fun c => by rw [startEvents_cells],
    by rw [startEvents_land]; exact ⟨rfl, rfl⟩, startEvents_hem .., startEvents_fw .., Seam.get (startEvents_seamcore revert s) Seam.addr (fun _ => rfl)⟩

theorem ChargeOnly.fw (h : ChargeOnly s t) : t.fw = s.fw := by
  unfold ChargeOnly at h
  rw [h]

theorem powerCheck_vin (h : s.land.vinLow = false) : powerCheck s = s := powerCheck_stays fun hd => Bool.false_ne_true (h.symm.trans hd.1)

theorem reselect_addr (hl : s.land.vinLow = false) : (reselect s).seam.addr = s.seam.addr := by
  have hset : ∀ (p : ChgPh) (u : State), u.land.vinLow = false → u.seam = s.seam → (powerCheck (setPhase p u)).seam.addr = s.seam.addr := fun p u h hu => by
    rw [powerCheck_vin (by rw [setPhase_land]; exact h)]
    exact (Seam.get (setPhase_seamcore p u) Seam.addr (fun _ => rfl)).trans (congrArg Seam.addr hu)
  have hjudge : ∀ (b : Bool) (u : State), u.land.vinLow = false → u.seam = s.seam → (powerCheck (judgeSusp b u)).seam.addr = s.seam.addr := fun b u h hu => by
    rw [powerCheck_vin (by rw [judgeSusp_land]; exact h)]
    exact (Seam.get (judgeSusp_seamcore b u) Seam.addr (fun _ => rfl)).trans (congrArg Seam.addr hu)
  unfold reselect
  dsimp only
  split
  · rw [powerCheck_vin hl]
  generalize (if s.chg.phaseOf = .fast then s.chg.restart else s.chg) = c
  split
  · split
    · exact hset _ _ hl rfl
    · exact hjudge _ _ hl rfl
  · exact hjudge _ _ hl rfl

theorem reselect_kept (hl : s.land.vinLow = false) : StartKept s (reselect s) := by
  obtain ⟨u, h, honly, -, -, -⟩ := reselect_is s
  have haddr := reselect_addr hl
  rw [powerCheck_vin (by rw [honly.land]; exact hl)] at h
  obtain ⟨hc, hr, hd, -⟩ := honly.elsewhere
  rw [h] at haddr ⊢
  refine ⟨honly.proto, congrArg Dom.st hd, hr, fun c => by rw [hc], ?_, honly.hem, honly.fw, haddr⟩
  rw [honly.land]
  exact ⟨rfl, rfl⟩

theorem startFinish_kept (revert : Bool) (hl : s.land.vinLow = false) : StartKept s (startFinish revert s) := by
  unfold startFinish
  have h1 := (startWork_kept s).trans (resetStuck_kept _)
  have hvin : (resetStuck (startWork s)).land.vinLow = false := by
    unfold resetStuck
    split
    · unfold landSet
      rw [pulseIf_land]
      exact (congrArg Land.vinLow (startWork_land s)).trans hl
    · exact (congrArg Land.vinLow (startWork_land s)).trans hl
  generalize resetStuck (startWork s) = u at h1 hvin
  have h2 := (h1.trans (startGathering_startKept u)).trans (startEvents_kept revert _)
  refine h2.trans (reselect_kept ?_)
  rw [startEvents_land, startGathering_land]
  exact hvin

/-- A full start on VIN, of a module that executes no command and holds no map and no image. -/
theorem fullStart_started {straps ext : BitVec 3} {src detail left : Nat} (hl : s.land.vinLow = false) (ho : s.land.vinOver = false)
    (he : s.proto.exec = none) (hm : s.map.stored = none) (hs : s.proto.stored = none) (hc : cconfImage s = none) :
    ∃ t, fullStart straps ext src detail left s = .next t ∧ FullyStarted straps s t ∧ t.hem.wakeSrc = src ∧ t.hem.wakeLeft = left := by
  have hb := started_blank (strap := straps) (ext := ext) he
  have heq := fullStart_eq straps ext src detail left s
  generalize resetBlocks straps ext (stopManager s) = w at hb heq
  have hover : overAtStart w = w := if_neg (by rw [hb.land.2.2.2, ho]; exact Bool.false_ne_true)
  rw [hover] at heq
  have hfull := hb.checked src detail left
  obtain ⟨hproto, hmap, -, -, -, hland, -, hfuse⟩ := startChecked_is src detail left w
  obtain ⟨-, -, -, hsrc, hleft⟩ := startChecked_hem src detail left w
  generalize startChecked src detail left w = u at heq hfull hproto hmap hland hfuse hsrc hleft
  have hclock : StartKept u (startClock u) := ⟨rfl, rfl, rfl, fun _ => rfl, ⟨rfl, rfl⟩, rfl, rfl, rfl⟩
  have hconf : cconfImage (startClock u) = none := (cconfImage_congr fun l => (hfuse l).trans (hb.fuse l)).trans hc
  have hstored : (startClock u).map.stored = none := (congrArg MapState.stored hmap).trans (hb.map.trans hm)
  have himage : (startClock u).proto.stored = none := by
    obtain ⟨-, -, -, -, -, -, hp⟩ := hb.proto
    exact (congrArg Proto.stored hproto).trans (hp.trans hs)
  rw [loadMap_none hstored hconf, loadImage_none himage hconf] at heq
  have hvin : (startClock u).land.vinLow = false := (congrArg Land.vinLow hland).trans (hb.land.2.2.1.trans hl)
  have hk := hclock.trans (startFinish_kept (decide (s.fw.switchDue = some true)) hvin)
  refine ⟨_, heq, hfull.of_kept hk, ?_, ?_⟩
  all_goals
    obtain ⟨-, -, -, -, -, hhem, -, -⟩ := hk
    rw [hhem]
  · exact hsrc
  · exact hleft

end Sys2Proof.Machine
end

section
/-! PROOF. O57: resets and starts (R68, R228, R327, R376, R384, R389, R475, R476, R510, R514-R518). -/

namespace Sys2Proof.Machine

variable {s t u : State}

/-! ## The full start of the module -/

/-- The state whose blocks a full start resets: two values drawn, and the cause of the start noted. -/
def fullDrawn (s : State) : State := { bump (bump s) with fw := startCause s }

theorem fullDrawn_same (s : State) : SameStart s (fullDrawn s) := by
  have h : (startCause s).image = s.fw.image := by
    unfold startCause
    split
    · unfold Fw.cutMark
      split
      · rfl
      split <;> rfl
    · rfl
  exact ⟨rfl, rfl, rfl, rfl, h, rfl⟩

theorem fullStart_ignored {straps ext : BitVec 3}
    (h : s.pwr.st = .ship ∨ supplied s = false ∨ (s.dom.fullDue ≠ none ∧ s.dom.st ≠ .down ∧ s.dom.st ≠ .latched ∧ s.pwr.lost = false)) :
    exec (.fullStart straps ext) s = .next s :=
  if_pos (h.imp_right (Or.imp_right fun hn => ⟨Option.isSome_iff_ne_none.mpr hn.1, hn.2⟩))

theorem fullStart_begins {straps ext : BitVec 3} (hs : s.pwr.st ≠ .ship) (hl : s.land.vinLow = false)
    (hd : s.dom.fullDue = none ∨ s.dom.st = .down ∨ s.dom.st = .latched ∨ s.pwr.lost = true) : exec (.fullStart straps ext) s =
      fullStart straps ext (startRecord s).1 (startRecord s).2.1 (startRecord s).2.2 (fullDrawn s) := by
  refine if_neg ?_
  rintro (h | h | ⟨h, h1, h2, h3⟩)
  · exact hs h
  · unfold supplied at h
    rw [hl] at h
    exact Bool.noConfusion h
  · obtain hd | hd | hd | hd := hd
    · exact Option.isSome_iff_ne_none.mp h hd
    · exact h1 hd
    · exact h2 hd
    · exact Bool.false_ne_true (h3.symm.trans hd)

theorem fullStart_completes {straps ext : BitVec 3} (hs : s.pwr.st ≠ .ship)
    (hd : s.dom.fullDue = none ∨ s.dom.st = .down ∨ s.dom.st = .latched ∨ s.pwr.lost = true) (hl : s.land.vinLow = false)
    (ho : s.land.vinOver = false) (he : s.proto.exec = none) (hm : s.map.stored = none) (hp : s.proto.stored = none) (hc : cconfImage s = none) :
    ∃ t, exec (.fullStart straps ext) s = .next t ∧ FullyStarted straps s t := by
  obtain ⟨t, ht, hfull, -, -⟩ := fullStart_started (s := fullDrawn s) (straps := straps) (ext := ext) (src := (startRecord s).1)
    (detail := (startRecord s).2.1) (left := (startRecord s).2.2) hl ho he hm hp hc
  exact ⟨t, (fullStart_begins hs hl hd).trans ht, hfull.of_same (fullDrawn_same s)⟩

/-! ## Out of SHIP -/

/-- The switch of the pack is closed once more (R327). -/
def shipSwitched (src : ShipWake) (s : State) : State := bump { appear src s with chg := { (appear src s).chg with psw := true } }

theorem shipSwitched_same (src : ShipWake) (s : State) : SameStart s (shipSwitched src s) ∧ (shipSwitched src s).land.vinOver = s.land.vinOver ∧
    (shipSwitched src s).proto = s.proto ∧ (shipSwitched src s).map = s.map ∧ (shipSwitched src s).fuse = s.fuse ∧
    (src = .vin ∨ s.land.vinLow = false → (shipSwitched src s).land.vinLow = false) := by
  cases src
  case vin => exact ⟨⟨rfl, rfl, rfl, rfl, rfl, rfl⟩, rfl, rfl, rfl, rfl, fun _ => rfl⟩
  all_goals exact ⟨⟨rfl, rfl, rfl, rfl, rfl, rfl⟩, rfl, rfl, rfl, rfl, fun h => h.resolve_left (by decide)⟩

theorem shipExit_ignored {src : ShipWake} {straps ext : BitVec 3} (h : s.pwr.st ≠ .ship ∨ (src = .button ∧ s.land.wakeIgnored = true)) :
    exec (.shipExit ⟨src, straps, ext⟩) s = .next s := if_pos h

theorem shipExit_leaves {src : ShipWake} {straps ext : BitVec 3} (hs : s.pwr.st = .ship) (hb : src ≠ .button ∨ s.land.wakeIgnored = false) :
    exec (.shipExit ⟨src, straps, ext⟩) s = if supplied (shipSwitched src s) then
        fullStart straps ext (shipCode src).1 (shipCode src).2 3 (shipSwitched src s)
      else .next (recordWake (shipCode src).1 (shipCode src).2 3 (losePower { shipSwitched src s with pwr := { (shipSwitched src s).pwr with st := .run } })) := by
  refine if_neg ?_
  rintro (h | ⟨h, h'⟩)
  · exact h hs
  · exact hb.elim (fun hn => hn h) (fun hn => Bool.false_ne_true (hn.symm.trans h'))

theorem supplied_vin (h : s.land.vinLow = false) : supplied s = true := by
  unfold supplied
  rw [h]
  rfl

theorem shipExit_starts {src : ShipWake} {straps ext : BitVec 3} (hs : s.pwr.st = .ship) (hb : src ≠ .button ∨ s.land.wakeIgnored = false)
    (hl : src = .vin ∨ s.land.vinLow = false) (ho : s.land.vinOver = false) (he : s.proto.exec = none) (hm : s.map.stored = none)
    (hp : s.proto.stored = none) (hc : cconfImage s = none) : ∃ t, exec (.shipExit ⟨src, straps, ext⟩) s = .next t ∧ FullyStarted straps s t ∧
      t.hem.wakeSrc = (if src = .button then 5 else 7) ∧ t.hem.wakeLeft = 3 := by
  have hx := shipExit_leaves (straps := straps) (ext := ext) hs hb
  obtain ⟨hsame, h1, h2, h3, h4, h5⟩ := shipSwitched_same src s
  generalize shipSwitched src s = v at hx hsame h1 h2 h3 h4 h5
  rw [supplied_vin (h5 hl)] at hx
  obtain ⟨t, ht, hfull, hsrc, hleft⟩ := fullStart_started (s := v) (straps := straps) (ext := ext) (src := (shipCode src).1)
    (detail := (shipCode src).2) (left := 3) (h5 hl) (by rw [h1]; exact ho) (by rw [h2]; exact he) (by rw [h3]; exact hm) (by rw [h2]; exact hp)
    ((cconfImage_congr fun l => by rw [h4]).trans hc)
  refine ⟨t, hx.trans ht, hfull.of_same hsame, hsrc.trans ?_, hleft⟩
  cases src <;> rfl

theorem shipExit_unsupplied {straps ext : BitVec 3} (hs : s.pwr.st = .ship) (hw : s.land.wakeIgnored = false) (hn : supplied s = false) :
    exec (.shipExit ⟨.button, straps, ext⟩) s =
      .next (recordWake 5 0 3 (losePower { shipSwitched .button s with pwr := { (shipSwitched .button s).pwr with st := .run } })) := by
  have hsup : supplied (shipSwitched .button s) = supplied s := rfl
  refine (shipExit_leaves hs (.inr hw)).trans (if_neg ?_)
  rw [hsup, hn]
  exact Bool.false_ne_true

/-! ## The clauses together -/

/-- Settles O57: each happening is evaluated to its state, and what a reset, a start of the manager and a full start leave is stated once, over
all states. -/
theorem resetsAndStarts : Obligations.ResetsAndStarts := by
  intro s
  refine ⟨?_, fun ho => ⟨fun h => ?_, fun h1 h2 h3 hf => ?_, fun h1 h2 h3 hf => ?_⟩, ?_, fun kind n hd => ⟨resetModuleAct_stays hd, fun hr he hp => ⟨fun hk => ?_, fun hk => ?_⟩⟩,
    ?_, fun hd ho => ?_, ?_, fun hp ho h1 h2 h3 h4 hr hd hb hph => ?_, fun straps ext => ⟨fullStart_ignored, fun hs hd hl ho he hm hp hc => ?_⟩,
    fun src straps ext => ⟨shipExit_ignored, fun hs hb => ⟨fun hsrc hn => ?_, fun hl ho he hm hp hc => ?_⟩⟩, ?_, fun hd hp ho hc hcyc hu => ⟨fun hab hen => ?_, ?_⟩⟩
  case refine_1 =>
    intro ho
    exact (exec_resetN s).trans (congrArg Host.Outcome.next (if_pos ho))
  case refine_2 =>
    obtain ⟨hg, hw⟩ := wakeReq_pwr (s := resetSeen s) .resetN ho
    exact ⟨_, resetN_wakes ho h, wakeReq_elsewhere .resetN (resetSeen s), wakeReq_proto .resetN (resetSeen s), wakeReq_fw .resetN (resetSeen s), hg, hw⟩
  case refine_3 =>
    refine ⟨_, (resetN_awake ho h1 h2 h3).trans (congrArg Host.Outcome.next (if_neg (by rw [hf]; exact Bool.false_ne_true))), ?_⟩
    obtain ⟨he, hrun, hw, hx, -, hbank, hhem, hcause⟩ := beginRestart_is 1 (resetSeen s)
    exact ⟨he, hrun, hw, hx, hbank, hhem, hcause⟩
  case refine_4 =>
    refine ⟨_, (resetN_awake ho h1 h2 h3).trans (congrArg Host.Outcome.next (if_pos hf)), ?_⟩
    obtain ⟨hfull, hmem, hr, hu⟩ := beginFull_dom 2 (resetSeen s)
    exact ⟨hfull, hmem, beginFull_cells 2 (resetSeen s), hr, hu, beginFull_stopped (s := resetSeen s)⟩
  case refine_5 =>
    intro hd
    have hx : exec .resetModuleAct s = execResetModuleAct s := rfl
    rw [hx, execResetModuleAct, hd]
  case refine_6 =>
    refine ⟨_, (resetModuleAct_acts hd hr he hp).trans (congrArg Host.Outcome.next (if_neg hk)), ?_⟩
    obtain ⟨hel, hrun, hw, -, hdue, hbank, -, hcause⟩ := beginRestart_is 3 (resetTaken s)
    exact ⟨hel, hrun, hw, hdue, hcause, hbank⟩
  case refine_7 =>
    refine ⟨_, (resetModuleAct_acts hd hr he hp).trans (congrArg Host.Outcome.next (if_pos hk)), ?_⟩
    obtain ⟨hfull, hmem, h1, h2⟩ := beginFull_dom 4 (resetTaken s)
    exact ⟨hfull, hmem, congrArg Proto.resetDue (beginFull_proto 4 (resetTaken s)), beginFull_cells 4 (resetTaken s), h1, h2⟩
  case refine_8 =>
    intro h
    refine congrArg Host.Outcome.next (if_neg ?_)
    rintro ⟨h1, h2⟩
    exact h.elim (Option.isSome_iff_ne_none.mp h1) fun h => Bool.false_ne_true (h2.symm.trans h)
  case refine_9 =>
    obtain ⟨h1, h2, h3, h4, h5, h6⟩ := stopManager_stopSwitching s
    have hx := fullResetTimeout_forces hd ho
    generalize stopManager (stopSwitching s) = u at h1 h2 h3 h4 h5 h6 hx
    exact ⟨_, hx, h1, rfl, h2, h3, h4, h5, h6⟩
  case refine_10 =>
    intro h
    exact if_pos (h.imp_right (Or.imp_right (Or.imp_right (Or.imp_right (Or.imp_right Option.isSome_iff_ne_none.mpr)))))
  case refine_11 =>
    obtain ⟨hel, hm, ht, hcr, hch, hq, -, hproto⟩ := restarted_frame s
    obtain ⟨himg, -, hstarts⟩ := bootBank_shape s
    obtain ⟨b, hfw⟩ := restarted_fw s
    refine ⟨_, managerStart_starts hp ho h1 h2 h3 h4 hr hd hb hph, hel, hm, ht, hcr, hch, hproto, hq, ?_⟩
    generalize restarted s = u at hfw
    rw [hfw]
    exact ⟨hstarts, himg, bootBank_trial, bootBank_switches, bootBank_keeps⟩
  case refine_12 => exact fullStart_completes hs hd hl ho he hm hp hc
  case refine_13 =>
    subst hsrc
    have hw : s.land.wakeIgnored = false := hb.resolve_left fun h => h rfl
    exact ⟨_, shipExit_unsupplied hs hw hn, rfl, rfl, rfl, rfl, rfl, rfl, rfl, rfl, rfl, rfl⟩
  case refine_14 => exact shipExit_starts hs hb hl ho he hm hp hc
  case refine_15 =>
    intro h
    exact congrArg Host.Outcome.next (if_pos h)
  case refine_16 =>
    refine (exec_autoUp hd hp ho (by rw [hab]; decide) hc).trans (congrArg Host.Outcome.next (if_pos ⟨hab, hen⟩))
  case refine_17 =>
    intro hprobe hst hsafe hag hbad h2 h3
    have hnot : s.map.probe ≠ .running ∧ s.map.probe ≠ .aborted := by
      obtain h | h := hprobe <;> rw [h] <;> decide
    have hx := (exec_autoUp hd hp ho hnot.1 hc).trans (congrArg Host.Outcome.next (if_neg fun h => hnot.2 h.1))
    rw [pinUp_rises (s := autoTaken s) hst hsafe hcyc hag hnot.1 hbad hc] at hx
    obtain ⟨hauto, hcells, hnone, hfirst⟩ := enterRising_up (s := cancelRestart { autoTaken s with dom := { (autoTaken s).dom with upWait := false } })
      hu hp h2 h3 rfl
    exact ⟨_, hx, hauto, hcells, hnone, hfirst⟩

end Sys2Proof.Machine
end

section
/-! PROOF. What a record of bytes holds at an offset, and the records of the status commands (R93, R134, R260, R298, R385-R387). -/

namespace Sys2Proof.Machine

variable {s t u : State}

/-! ## Numbers as bytes -/

@[simp] theorem leBytes_length (k n : Nat) : (leBytes k n).length = k := by
  induction k generalizing n with
  | zero => rfl
  | succ k ih => simp [leBytes, ih]

@[simp] theorem le16_length (n : Nat) : (le16 n).length = 2 := leBytes_length 2 n

@[simp] theorem le32_length (n : Nat) : (le32 n).length = 4 := leBytes_length 4 n

theorem leNat_leBytes (k n : Nat) : leNat (leBytes k n) = n % 256 ^ k := by
  induction k generalizing n with
  | zero => simp [leBytes, leNat, Nat.mod_one]
  | succ k ih =>
    have hb : (byte n).toNat = n % 256 := BitVec.toNat_ofNat ..
    have hp : 256 ^ (k + 1) = 256 * 256 ^ k := Nat.pow_succ'
    rw [leBytes, leNat, ih, hb, hp, Nat.mod_mul]

/-- A field past the bytes that stand before it. -/
theorem fieldAt_skip {a : List Byte} {n : Nat} (h : a.length = n) (b : List Byte) (o k : Nat) : fieldAt (a ++ b) (n + o) k = fieldAt b o k := by
  unfold fieldAt
  rw [← List.drop_drop, List.drop_left' h]

theorem byteAt_skip {a : List Byte} {n : Nat} (h : a.length = n) (b : List Byte) (o : Nat) : byteAt (a ++ b) (n + o) = byteAt b o := by
  unfold byteAt
  rw [List.getD_append_right _ _ _ _ (by omega), h, Nat.add_sub_cancel_left]

/-- The number in front. -/
theorem fieldAt_front (k n : Nat) (b : List Byte) : fieldAt (leBytes k n ++ b) 0 k = n % 256 ^ k := by
  unfold fieldAt
  rw [List.drop_zero, List.take_left' (leBytes_length k n), leNat_leBytes]

theorem fieldAt_le16 (n : Nat) (b : List Byte) : fieldAt (le16 n ++ b) 0 2 = n % 65536 := fieldAt_front 2 n b

theorem fieldAt_le32 (n : Nat) (b : List Byte) : fieldAt (le32 n ++ b) 0 4 = n % 2 ^ 32 := fieldAt_front 4 n b

theorem byteAt_byte (n : Nat) (b : List Byte) : byteAt (byte n :: b) 0 = n % 256 := BitVec.toNat_ofNat ..

theorem byteAt_byte_of_lt {n : Nat} (h : n < 256) (b : List Byte) : byteAt (byte n :: b) 0 = n := (byteAt_byte n b).trans (Nat.mod_eq_of_lt h)

/-! ## Records of equal length one after another -/

theorem drop_flatMap {α : Type} {f : α → List Byte} {c : Nat} (xs : List α) (h : ∀ x ∈ xs, (f x).length = c) (k : Nat) :
    (xs.flatMap f).drop (c * k) = (xs.drop k).flatMap f := by
  induction k generalizing xs with
  | zero => rfl
  | succ k ih =>
    cases xs with
    | nil => simp
    | cons x xs =>
      have hx : (f x).length = c := h x List.mem_cons_self
      rw [List.flatMap_cons, Nat.mul_succ, Nat.add_comm, ← List.drop_drop, List.drop_left' hx, ih xs fun y hy => h y (List.mem_cons_of_mem x hy)]
      rfl

theorem length_flatMap {α : Type} {f : α → List Byte} {c : Nat} (xs : List α) (h : ∀ x ∈ xs, (f x).length = c) :
    (xs.flatMap f).length = xs.length * c := by
  induction xs with
  | nil => simp
  | cons x xs ih =>
    rw [List.flatMap_cons, List.length_append, h x List.mem_cons_self, ih fun y hy => h y (List.mem_cons_of_mem x hy), List.length_cons]
    ring

theorem upto_length (n : Nat) : (upto n).length = n := List.length_range

theorem length_records {f : Nat → List Byte} {c : Nat} (n : Nat) (h : ∀ k, (f k).length = c) : ((upto n).flatMap f).length = n * c := by
  rw [length_flatMap _ fun k _ => h k, upto_length]

/-- The record of number `k` begins after those before it. -/
theorem drop_records {f : Nat → List Byte} {c n k : Nat} (h : ∀ k, (f k).length = c) (hk : k < n) :
    ∃ l, ((upto n).flatMap f).drop (c * k) = f k ++ l := by
  have hlen : k < (upto n).length := by rw [upto_length]; exact hk
  rw [drop_flatMap _ fun k _ => h k, List.drop_eq_getElem_cons hlen, List.flatMap_cons]
  have hget : (upto n)[k] = k := List.getElem_range hlen
  rw [hget]
  exact ⟨_, rfl⟩

theorem take_record {f : Nat → List Byte} {c n k : Nat} (h : ∀ k, (f k).length = c) (hk : k < n) :
    (((upto n).flatMap f).drop (c * k)).take c = f k := by
  obtain ⟨l, hl⟩ := drop_records h hk
  rw [hl, List.take_left' (h k)]

theorem fieldAt_record {f : Nat → List Byte} {c n k : Nat} (h : ∀ k, (f k).length = c) (hk : k < n) {o w : Nat} (ho : o + w ≤ c) :
    fieldAt ((upto n).flatMap f) (c * k + o) w = fieldAt (f k) o w := by
  obtain ⟨l, hl⟩ := drop_records h hk
  unfold fieldAt
  rw [← List.drop_drop, hl, List.drop_append_of_le_length (by rw [h]; omega), List.take_append_of_le_length (by rw [List.length_drop, h]; omega)]

/-- Records of two bytes, after what stands before them. -/
theorem fieldAt_words {f : Nat → Nat} {n k : Nat} (hk : k < n) : fieldAt ((upto n).flatMap (fun k => le16 (f k))) (2 * k) 2 = f k % 65536 := by
  have h := fieldAt_record (f := fun k => le16 (f k)) (o := 0) (w := 2) (fun _ => le16_length _) hk (by omega)
  exact h.trans ((congrArg (fun l => fieldAt l 0 2) (List.append_nil (le16 (f k))).symm).trans (fieldAt_le16 ..))

theorem fieldAt_longs {f : Nat → Nat} {n k : Nat} (hk : k < n) (b : List Byte) :
    fieldAt ((upto n).flatMap (fun k => le32 (f k)) ++ b) (4 * k) 4 = f k % 2 ^ 32 := by
  obtain ⟨l, hl⟩ := drop_records (f := fun k => le32 (f k)) (fun _ => le32_length _) hk
  have hlen := length_records (f := fun k => le32 (f k)) n fun _ => le32_length _
  unfold fieldAt
  rw [List.drop_append_of_le_length (by rw [hlen]; omega), hl, List.append_assoc, ← List.drop_zero (l := le32 (f k) ++ (l ++ b))]
  exact fieldAt_le32 ..

/-! ## Flags as bits -/

/-- A sum of powers by flags has the flags as its bits. -/
theorem natBit_flags (p : Nat → Bool) {m r : Nat} (h : r < m) (w : Nat) (hw : m ≤ w) :
    natBit ((upto m).foldl (fun a r => a + b2n (p r) * 2 ^ r) 0 % 2 ^ w) r = p r := by
  have hf : (fun (a r : Nat) => a + b2n (p r) * 2 ^ r) = fun a r => if p r then a + 2 ^ r else a := by
    funext a r
    cases p r <;> simp [b2n]
  obtain ⟨hlt, hbit⟩ := testBit_foldl p m
  rw [hf, Nat.mod_eq_of_lt (hlt.trans_le (Nat.pow_le_pow_right (by decide) hw)), natBit_eq_testBit, hbit, decide_eq_true h, Bool.true_and]

/-- A flag of three in a byte. -/
theorem natBit_three (a b c : Bool) : natBit (b2n a + b2n b * 2 + b2n c * 4) 0 = a ∧ natBit (b2n a + b2n b * 2 + b2n c * 4) 1 = b ∧
    natBit (b2n a + b2n b * 2 + b2n c * 4) 2 = c ∧ b2n a + b2n b * 2 + b2n c * 4 < 256 := by
  cases a <;> cases b <;> cases c <;> decide

end Sys2Proof.Machine
end

section
/-! PROOF. The records of the status commands: their lengths and the fields they show (R385-R387). -/

namespace Sys2Proof.Machine

variable {s : State}

/-! ## Bytes by their place -/

/-- A byte after those that stand before it. -/
theorem byteAt_nth (a : List Byte) {n m : Nat} (h : a.length = n) (hm : m < 256) (b : List Byte) : byteAt (a ++ byte m :: b) n = m :=
  (byteAt_skip h (byte m :: b) 0).trans (byteAt_byte_of_lt hm b)

theorem byteAt_map_upto (f : Nat → Byte) {n k : Nat} (h : k < n) : byteAt ((upto n).map f) k = (f k).toNat := by
  unfold byteAt upto
  rw [List.getD_eq_getElem _ _ (by rw [List.length_map, List.length_range]; exact h), List.getElem_map, List.getElem_range]

/-! ## Codes fit a byte -/

theorem pwrSt_code_lt (x : PwrSt) : x.code < 256 := by cases x <;> decide
theorem domSt_code_lt (x : DomSt) : x.code < 256 := by cases x <;> decide
theorem chgPh_code_lt (x : ChgPh) : x.code < 256 := by cases x <;> decide
theorem bankSt_code_lt (x : BankSt) : x.code < 256 := by cases x <;> decide
theorem linkSt_code_lt (x : LinkSt) : x.code < 256 := by cases x <;> decide
theorem wdogSt_code_lt (x : WdogSt) : x.code < 256 := by cases x <;> decide

/-! ## The status of the module -/

theorem statusRecord_length (s : State) : (statusRecord s).length = 32 := by
  simp [statusRecord]

theorem statusRecord_states (s : State) : byteAt (statusRecord s) 0 = s.pwr.st.code ∧ byteAt (statusRecord s) 1 = s.dom.st.code := by
  have h : ∃ l, statusRecord s = byte s.pwr.st.code :: byte s.dom.st.code :: l := by
    unfold statusRecord
    exact ⟨_, rfl⟩
  obtain ⟨l, hl⟩ := h
  rw [hl]
  exact ⟨byteAt_byte_of_lt (pwrSt_code_lt _) _, byteAt_nth [byte s.pwr.st.code] rfl (domSt_code_lt _) l⟩

theorem statusRecord_running (s : State) (r : Fin 48) : natBit (fieldAt (statusRecord s) 0x0C 6) r.val = s.rails[r].st.runs := by
  have h : ∃ a b : List Byte, a.length = 12 ∧ statusRecord s = a ++ (leBytes 6 (railMap48 s RailSt.runs) ++ b) := by
    refine ⟨[byte s.pwr.st.code, byte s.dom.st.code, byte s.proto.cfg.code, byte (mapCode s)] ++ le32 s.land.word ++
      le16 (globWord s) ++ [byte s.proto.waiting.length, byte (min 255 s.proto.notes)],
      leBytes 6 (railMap48 s (fun x => decide (x = .latchedOff))) ++ (le16 (s.proto.firstNote.getD 0xFFFF) ++ ([0, 0] ++
        le32 ((s.hem.ticks - s.proto.startAt) / oneSecond))), by simp, ?_⟩
    unfold statusRecord
    simp only [List.append_assoc]
  obtain ⟨a, b, ha, hl⟩ := h
  rw [hl, fieldAt_skip (o := 0) ha, fieldAt_front]
  refine (natBit_flags (fun k => (s.rail k).st.runs) r.isLt 48 (Nat.le_refl _)).trans ?_
  rw [rail_val]

/-! ## The clock, the domain and the temperatures -/

theorem clockRecord_length (s : State) : (clockRecord s).length = 32 := by
  simp [clockRecord]

theorem domRecord_length (s : State) : (domRecord s).length = 72 := by
  simp [domRecord]

theorem domRecord_state (s : State) : byteAt (domRecord s) 0 = s.dom.st.code := by
  have h : ∃ l, domRecord s = byte s.dom.st.code :: l := by
    unfold domRecord
    exact ⟨_, rfl⟩
  obtain ⟨l, hl⟩ := h
  rw [hl]
  exact byteAt_byte_of_lt (domSt_code_lt _) _

theorem domRecord_pg (s : State) (r : Fin 48) : natBit (fieldAt (domRecord s) 0x40 8) r.val = s.rails[r].pgRaw := by
  have h : ∃ a : List Byte, a.length = 64 ∧ domRecord s = a ++ (leBytes 8 ((upto 48).foldl (fun a r => a + b2n (s.rail r).pgRaw * 2 ^ r) 0) ++ []) := by
    refine ⟨[byte s.dom.st.code, byte s.dom.role] ++ le16 s.dom.word ++ [byte (s.dom.cur.getD 0xFF), byte (domPins s)] ++
      le16 s.dom.slotQual.toNat ++ le32 (newestSeq s) ++ [0, 0, 0, 0] ++ s.rails.toList.map (fun x => byte x.chatter), by simp, ?_⟩
    unfold domRecord
    rw [List.append_nil]
  obtain ⟨a, ha, hl⟩ := h
  rw [hl, fieldAt_skip (o := 0) ha, fieldAt_front]
  refine (natBit_flags (fun k => (s.rail k).pgRaw) r.isLt 64 (by decide)).trans ?_
  rw [rail_val]

theorem thermRecord_length (s : State) : (thermRecord s).length = 64 := by
  have hdie : (s.therm.die.toList.flatMap (fun x => le16 x.toNat)).length = 32 := by
    rw [length_flatMap _ fun x _ => le16_length x.toNat, Vector.length_toList]
  unfold thermRecord
  cases hottestDie s <;> simp [hdie, upto_length]

theorem chargerRecord_length (s : State) : (chargerRecord s).length = 48 := by
  simp [chargerRecord]

theorem chargerRecord_phase (s : State) : byteAt (chargerRecord s) 0 = s.chg.ph.code := by
  have h : ∃ l, chargerRecord s = byte s.chg.ph.code :: l := by
    unfold chargerRecord
    exact ⟨_, rfl⟩
  obtain ⟨l, hl⟩ := h
  rw [hl]
  exact byteAt_byte_of_lt (chgPh_code_lt _) _

/-! ## Events, fuses, firmware and Seam -/

theorem pendingBitmap_length (s : State) : (pendingBitmap s).length = 128 := by
  unfold pendingBitmap
  rw [List.length_map, upto_length]

theorem pendingBitmap_bit (s : State) (e : Fin 1024) :
    natBit (byteAt (pendingBitmap s) (e.val / 8)) (e.val % 8) = s.router.ev[e].pending := by
  have hk : e.val / 8 < 128 := by omega
  have hb : byteAt (pendingBitmap s) (e.val / 8) =
      (upto 8).foldl (fun a j => a + b2n s.router.ev[evt (8 * (e.val / 8) + j)].pending * 2 ^ j) 0 % 2 ^ 8 :=
    (byteAt_map_upto _ hk).trans (BitVec.toNat_ofNat ..)
  have he : evt (8 * (e.val / 8) + e.val % 8) = e := Fin.ext (by
    have h : (evt (8 * (e.val / 8) + e.val % 8)).val = (8 * (e.val / 8) + e.val % 8) % 1024 := rfl
    omega)
  rw [hb]
  refine (natBit_flags (fun j => s.router.ev[evt (8 * (e.val / 8) + j)].pending) (Nat.mod_lt _ (by decide)) 8 (Nat.le_refl _)).trans ?_
  exact congrArg (fun x : Fin 1024 => s.router.ev[x].pending) he

theorem healthRecord_length (s : State) : (healthRecord s).length = 16 := by
  simp [healthRecord, upto_length]

theorem firmwareRecord_banks (s : State) : byteAt (firmwareRecord s) 0 = s.fw.bank.val ∧ byteAt (firmwareRecord s) 1 = (s.fw.st[(0 : Fin 2)]).code ∧
    byteAt (firmwareRecord s) 2 = (s.fw.st[(1 : Fin 2)]).code := by
  have h : ∃ l, firmwareRecord s = byte s.fw.bank.val :: byte (s.fw.st[(0 : Fin 2)]).code :: byte (s.fw.st[(1 : Fin 2)]).code :: l := by
    unfold firmwareRecord
    exact ⟨_, rfl⟩
  obtain ⟨l, hl⟩ := h
  rw [hl]
  exact ⟨byteAt_byte_of_lt (s.fw.bank.isLt.trans (by decide)) _, byteAt_nth [byte s.fw.bank.val] rfl (bankSt_code_lt _) _,
    byteAt_nth [byte s.fw.bank.val, byte (s.fw.st[(0 : Fin 2)]).code] rfl (bankSt_code_lt _) l⟩

theorem seamRecord_length (s : State) : (seamRecord s).length = 32 := by
  simp [seamRecord]

theorem seamRecord_link (s : State) : byteAt (seamRecord s) 0 = s.seam.a.link.code := by
  have h : ∃ l, seamRecord s = byte s.seam.a.link.code :: l := by
    unfold seamRecord
    exact ⟨_, rfl⟩
  obtain ⟨l, hl⟩ := h
  rw [hl]
  exact byteAt_byte_of_lt (linkSt_code_lt _) _

theorem identityRecord_family (s : State) : (identityRecord s).take 8 = [0x50, 0x59, 0x41, 0x2D, 0x32, 0x35, 0x36, 0x4D] := by
  unfold identityRecord
  rfl

/-! ## Rails, sequences, coverage and the map -/

theorem regulationRecord_length (x : Rail) : (regulationRecord x).length = 16 := by
  simp [regulationRecord]

theorem phaseRecord_length (s : State) (r : Nat) : (phaseRecord s r).length = 16 := by
  simp [phaseRecord]

theorem resultRecord_length (x : TSeq) : (resultRecord x).length = 76 := by
  have h := length_records (f := fun i => le32 (if i < x.entriesN then toCode 32 (x.results.getD i 0) else 0)) 16 fun _ => le32_length _
  unfold resultRecord
  rw [List.length_append, h]
  rfl

theorem coverageRecord_length (s : State) (r : Nat) : (coverageRecord s r).length = 12 := by
  simp [coverageRecord]

theorem coverageFlags_lt (s : State) : coverageFlags s < 256 := by
  have h : ∀ a b c d e : Bool, b2n a * 16 + b2n b * 8 + b2n c * 4 + b2n d * 2 + b2n e < 256 := by decide
  exact h ..

theorem membershipRecord_length (s : State) (r : Nat) : (membershipRecord s r).length = 8 := by
  simp [membershipRecord]

theorem entry_bytes_length (e : MapEntry) : e.bytes.length = 40 := by
  simp [MapEntry.bytes]

theorem mapCode_lt (s : State) : mapCode s < 256 := by
  have h : mapState s.map ≤ 2 := by
    unfold mapState
    split
    · omega
    split <;> omega
  have hp : s.map.probe.code ≤ 3 := by cases s.map.probe <;> decide
  unfold mapCode
  omega

end Sys2Proof.Machine
end

section
/-! PROOF. O58: the commands that read one record (R93, R134, R167, R170, R189, R222, R274, R349, R357). -/

namespace Sys2Proof.Machine

variable {s : State} {q : Req}

/-! ## The records as the command arrives -/

/-- Of what a record shows, only the supply of the clock differs as a command arrives. -/
theorem arrived_shape (q : Req) (s : State) : ∃ p v b a h, arrived q s =
    { s with pwr := p, clk := { s.clk with supply := v, bias := b, assist := a }, hp := h } := by
  have hr : ∃ p v b a, resume s = { s with pwr := p, clk := { s.clk with supply := v, bias := b, assist := a } } := by
    unfold resume setSupply
    split
    · split <;> exact ⟨_, _, _, _, rfl⟩
    · exact ⟨_, s.clk.supply, s.clk.bias, s.clk.assist, rfl⟩
  obtain ⟨p, v, b, a, hr⟩ := hr
  rw [arrived_only, hr]
  exact ⟨p, v, b, a, _, rfl⟩

/-- What depends on nothing that changes as a command arrives. -/
theorem read_arrived {α : Type} (f : State → α) (q : Req) (s : State)
    (h : ∀ p v b a h, f { s with pwr := p, clk := { s.clk with supply := v, bias := b, assist := a }, hp := h } = f s) : f (arrived q s) = f s := by
  obtain ⟨p, v, b, a, x, hx⟩ := arrived_shape q s
  rw [hx]
  exact h p v b a x

theorem mapCode_arrived : mapCode (arrived q s) = mapCode s := read_arrived mapCode q s fun _ _ _ _ _ => rfl

theorem membershipRecord_arrived (r : Nat) : membershipRecord (arrived q s) r = membershipRecord s r :=
  read_arrived (membershipRecord · r) q s fun _ _ _ _ _ => rfl

theorem phaseRecord_arrived (r : Nat) : phaseRecord (arrived q s) r = phaseRecord s r :=
  read_arrived (phaseRecord · r) q s fun _ _ _ _ _ => rfl

theorem coverageRecord_arrived (r : Nat) : coverageRecord (arrived q s) r = coverageRecord s r :=
  read_arrived (coverageRecord · r) q s fun _ _ _ _ _ => rfl

theorem coverageFlags_arrived : coverageFlags (arrived q s) = coverageFlags s := read_arrived coverageFlags q s fun _ _ _ _ _ => rfl

theorem railKeeps_arrived (r u : Nat) : railKeeps (arrived q s) r u = railKeeps s r u :=
  read_arrived (railKeeps · r u) q s fun _ _ _ _ _ => rfl

theorem lastKeep_arrived (r base n : Nat) : lastKeep (arrived q s) r base n = lastKeep s r base n := by
  induction n with
  | zero => rfl
  | succ n ih => rw [lastKeep, lastKeep, ih, railKeeps_arrived]

theorem hemWord_arrived : hemWord (arrived q s) = hemWord s := read_arrived hemWord q s fun _ _ _ _ _ => rfl

theorem railCap_arrived (r : Nat) : railCap (arrived q s) r = railCap s r := read_arrived (railCap · r) q s fun _ _ _ _ _ => rfl

theorem hMax_arrived (r : Nat) : hMax (arrived q s) r = hMax s r := by
  have h := arrived_clkcore q s
  have hafter : (arrived q s).clk.uAfter 0 = s.clk.uAfter 0 := Clk.get h (Clk.uAfter · 0) (fun _ => rfl)
  have htop : (arrived q s).clk.uTop = s.clk.uTop := Clk.get h Clk.uTop (fun _ => rfl)
  have href : (arrived q s).clk.uRef = s.clk.uRef := Clk.get h Clk.uRef (fun _ => rfl)
  have hho : (arrived q s).clk.dHo = s.clk.dHo := Clk.get h Clk.dHo (fun _ => rfl)
  have hentry : (arrived q s).entry r = s.entry r := read_arrived (State.entry · r) q s fun _ _ _ _ _ => rfl
  unfold hMax
  dsimp only
  rw [hafter, htop, href, hho, hentry, railKeeps_arrived, railKeeps_arrived, lastKeep_arrived]

theorem checkU_arrived (mode h : Nat) : checkU (arrived q s) mode h = checkU s mode h :=
  read_arrived (checkU · mode h) q s fun _ _ _ _ _ => rfl

/-! ## A command without parameters -/

theorem record_completes {i : Instr} {o : OpSpec} {t : State} {l : List Byte} (hi : exec i s = runOp o q s) (hr : Ready o.op q s) (hq : q.params = [])
    (hv : o.v ≤ 2) (ho : o.plen = .fixed 0) (hb : o.bad = fun _ _ => none) (hrun : o.run q (arrived q s) = done t l)
    (ht : t = { arrived q s with free := t.free }) : Completes i o.op q s .done l (fun t => t = { arrived q s with free := t.free }) :=
  completes_of_reply hi hr (nil_paramCheck hq hv ho hb) hrun (by rw [ht]; exact (arrived_waiting q s).trans hr.empty) ht

theorem plainRecords {i : Instr} {op : Nat} {r : State → List Byte} (hmem : (i, op, r) ∈ ([(.identify q, 0x0002, identityRecord),
      (.getStatus q, 0x0003, statusRecord), (.domainStatus q, 0x0708, domRecord),
      (.thermalStatus q, 0x0904, thermRecord), (.chargerStatus q, 0x0A04, chargerRecord), (.eventPendingRead q, 0x0D06, pendingBitmap),
      (.lastWake q, 0x0E04, wakeRecord), (.otpHealth q, 0x0F06, healthRecord), (.fwStatus q, 0x1004, firmwareRecord),
      (.seamStatus q, 0x1101, seamRecord), (.domainAgreeStatus q, 0x1103, agreeRecord)] : List (Instr × Nat × (State → List Byte))))
    (hr : Ready op q s) (hq : q.params = []) : Completes i op q s .done (r (arrived q s)) (fun t => t = { arrived q s with free := t.free }) := by
  simp only [List.mem_cons, List.not_mem_nil, or_false, Prod.mk.injEq] at hmem
  obtain ⟨rfl, rfl, rfl⟩ | ⟨rfl, rfl, rfl⟩ | ⟨rfl, rfl, rfl⟩ | ⟨rfl, rfl, rfl⟩ | ⟨rfl, rfl, rfl⟩ | ⟨rfl, rfl, rfl⟩ | ⟨rfl, rfl, rfl⟩ |
    ⟨rfl, rfl, rfl⟩ | ⟨rfl, rfl, rfl⟩ | ⟨rfl, rfl, rfl⟩ | ⟨rfl, rfl, rfl⟩ := hmem
  · exact record_completes (o := identifyOp) rfl hr hq (by decide) rfl rfl rfl rfl
  · exact record_completes (o := getStatusOp) rfl hr hq (by decide) rfl rfl rfl rfl
  · exact record_completes (o := domainStatusOp) rfl hr hq (by decide) rfl rfl rfl rfl
  · exact record_completes (o := thermalStatusOp) rfl hr hq (by decide) rfl rfl rfl rfl
  · exact record_completes (o := chargerStatusOp) (t := bump (arrived q s)) rfl hr hq (by decide) rfl rfl rfl rfl
  · exact record_completes (o := eventPendingReadOp) rfl hr hq (by decide) rfl rfl rfl rfl
  · exact record_completes (o := lastWakeOp) rfl hr hq (by decide) rfl rfl rfl rfl
  · exact record_completes (o := otpHealthOp) rfl hr hq (by decide) rfl rfl rfl rfl
  · exact record_completes (o := fwStatusOp) (t := bump (arrived q s)) rfl hr hq (by decide) rfl rfl rfl rfl
  · exact record_completes (o := seamStatusOp) (t := bump (arrived q s)) rfl hr hq (by decide) rfl rfl rfl rfl
  · exact record_completes (o := domainAgreeStatusOp) rfl hr hq (by decide) rfl rfl rfl rfl

/-! ## A command that changes nothing -/

theorem reading_completes {i : Instr} {o : OpSpec} {st : Status} {l : List Byte} (hi : exec i s = runOp o q s) (hr : Ready o.op q s)
    (hp : o.paramCheck 2 q.params = none) (hrun : o.run q (arrived q s) = (arrived q s, .reply st l)) :
    Completes i o.op q s st l (fun t => t = arrived q s) :=
  completes_of_reply hi hr hp hrun ((arrived_waiting q s).trans hr.empty) rfl

/-! ## The digests of the images -/

theorem configDigest_paramCheck (hl : q.params.length = 1) : configDigestOp.paramCheck 2 q.params = none :=
  fixed_paramCheck (n := 1) (by decide) (by decide) rfl hl rfl

theorem configDigest_reads (hr : Ready 0x0104 q s) (hl : q.params.length = 1) :
    (byteAt q.params 0 = 0 → bufferHolds s = true → headerOk (bufferImage s) = true →
      Completes (.configDigest q) 0x0104 q s .done (digestRecord (imageInfo (bufferImage s))) (fun t => t = arrived q s)) ∧
    (∀ img, byteAt q.params 0 = 1 → s.proto.stored = some img →
      Completes (.configDigest q) 0x0104 q s .done (digestRecord (imageInfo img)) (fun t => t = arrived q s)) ∧
    (∀ x, byteAt q.params 0 = 2 → s.proto.inForce = some x →
      Completes (.configDigest q) 0x0104 q s .done (digestRecord x) (fun t => t = arrived q s)) ∧
    (byteAt q.params 0 = 2 → s.proto.inForce = none →
      Completes (.configDigest q) 0x0104 q s .done (List.replicate 24 0) (fun t => t = arrived q s)) ∧
    ((byteAt q.params 0 = 0 ∧ bufferHolds s = false) ∨ (byteAt q.params 0 = 1 ∧ s.proto.stored = none) →
      Completes (.configDigest q) 0x0104 q s .notPresent [0xFF, 0xFF] (fun t => t = arrived q s)) := by
  have hp := configDigest_paramCheck (q := q) hl
  have hholds : bufferHolds (arrived q s) = bufferHolds s := read_arrived bufferHolds q s fun _ _ _ _ _ => rfl
  have himg : bufferImage (arrived q s) = bufferImage s := read_arrived bufferImage q s fun _ _ _ _ _ => rfl
  have hproto := arrived_proto q s
  have hrun : ∀ {st l}, configDigestOp.run q (arrived q s) = (arrived q s, .reply st l) →
      Completes (.configDigest q) 0x0104 q s st l (fun t => t = arrived q s) := fun h => reading_completes (o := configDigestOp) rfl hr hp h
  refine ⟨fun h0 hb hh => hrun ?_, fun img h0 hs => hrun ?_, fun x h0 hf => hrun ?_, fun h0 hf => hrun ?_, fun h => hrun ?_⟩
  · dsimp only [configDigestOp]
    rw [h0, hholds, hb, himg, hh]
    rfl
  · dsimp only [configDigestOp]
    rw [h0, hproto, hs]
    rfl
  · dsimp only [configDigestOp]
    rw [h0, hproto, hf]
    rfl
  · dsimp only [configDigestOp]
    rw [h0, hproto, hf]
    rfl
  · dsimp only [configDigestOp]
    obtain ⟨h0, hb⟩ | ⟨h0, hs⟩ := h
    · rw [h0, hholds, hb]
      rfl
    · rw [h0, hproto, hs]
      rfl

end Sys2Proof.Machine
end

section
/-! PROOF. O58: the commands that read a run of records (R93, R134, R167, R170, R189, R198, R222). -/

namespace Sys2Proof.Machine

variable {s : State} {q : Req}

/-! ## The rail map -/

theorem range_none {p : List Byte} {a b hi : Nat} (h1 : 1 ≤ byteAt p b) (hb : byteAt p b ≤ hi) (hsum : byteAt p a + byteAt p b ≤ 48) :
    rangeBad p a b hi = none := by
  have ha : byteAt p a ≤ 47 := by omega
  simp [rangeBad, firstBad, fieldAt_one, ha, h1, hb, Nat.not_lt.mpr hsum]

theorem railmapGet_paramCheck (hl : q.params.length = 3) (h1 : 1 ≤ byteAt q.params 2) (hsum : byteAt q.params 1 + byteAt q.params 2 ≤ 48)
    (hc : byteAt q.params 0 = 2 ∨ byteAt q.params 2 ≤ 12) : railmapGetOp.paramCheck 2 q.params = none := by
  refine fixed_paramCheck (n := 3) (by decide) (by decide) rfl hl (range_none h1 ?_ hsum)
  split
  · omega
  · exact hc.resolve_left ‹_›

/-- A run of records after the state of the map. -/
theorem mapRecords {f g : Nat → List Byte} {c first count : Nat} {P : List Byte → Prop} (hlen : ∀ k, (f k).length = c)
    (hfg : ∀ k, g k = f k) (hP : P (byte (mapCode s) :: ((upto count).map (fun k => first + k)).flatMap g)) :
    ∃ l : List Byte, l.length = 1 + c * count ∧ byteAt l 0 = mapCode s ∧ (∀ k : Nat, k < count → (l.drop (1 + c * k)).take c = f (first + k)) ∧ P l := by
  have hlen' : ∀ k, (f (first + k)).length = c := fun k => hlen _
  refine ⟨_, ?_, byteAt_byte_of_lt (mapCode_lt s) _, fun k hk => ?_, hP⟩
  · rw [funext hfg, List.flatMap_map, List.length_cons, length_records count hlen']
    ring
  · rw [funext hfg, List.flatMap_map, Nat.add_comm 1, List.drop_succ_cons]
    exact take_record hlen' hk

/-- The record RAILMAP_GET shows of a rail, by its source (R93). -/
def mapRecord (s : State) (sel r : Nat) : List Byte :=
  if sel = 0 then (s.map.staged[fin48 r]).bytes
  else if sel = 1 then (s.entry r).bytes
  else if sel = 2 then membershipRecord s r
  else (entryOf (leBytes 40 (Config.freeNat (s.free + r)))).bytes

theorem mapRecord_reserved {sel : Nat} (h : 3 ≤ sel) (s : State) (r : Nat) :
    mapRecord s sel r = (entryOf (leBytes 40 (Config.freeNat (s.free + r)))).bytes := by
  unfold mapRecord
  rw [if_neg (by omega), if_neg (by omega), if_neg (by omega)]

theorem railmapGetOp_run (s : State) : railmapGetOp.run q s = done { s with free := s.free + 48 } ([byte (mapCode s)] ++
    ((upto (byteAt q.params 2)).map (fun k => byteAt q.params 1 + k)).flatMap (mapRecord s (byteAt q.params 0))) := by
  dsimp only [railmapGetOp]
  generalize byteAt q.params 0 = sel
  match sel with
  | 0 => rfl
  | 1 => rfl
  | 2 => rfl
  | n + 3 =>
    rw [funext fun r => mapRecord_reserved (Nat.le_add_left 3 n) s r]
    rfl

theorem railmapGet_reads {f : Nat → List Byte} {c : Nat} (hr : Ready 0x0202 q s) (hl : q.params.length = 3) (h1 : 1 ≤ byteAt q.params 2)
    (hsum : byteAt q.params 1 + byteAt q.params 2 ≤ 48) (hc : byteAt q.params 0 = 2 ∨ byteAt q.params 2 ≤ 12) (hlen : ∀ k, (f k).length = c)
    (hf : ∀ k, mapRecord (arrived q s) (byteAt q.params 0) k = f k) :
    ∃ l : List Byte, l.length = 1 + c * byteAt q.params 2 ∧ byteAt l 0 = mapCode s ∧
      (∀ k : Nat, k < byteAt q.params 2 → (l.drop (1 + c * k)).take c = f (byteAt q.params 1 + k)) ∧
      Completes (.railmapGet q) 0x0202 q s .done l (fun t => t = { arrived q s with free := t.free }) := by
  have hrun := railmapGetOp_run (q := q) (arrived q s)
  rw [mapCode_arrived] at hrun
  exact mapRecords hlen hf (completes_of_reply (o := railmapGetOp) rfl hr (railmapGet_paramCheck hl h1 hsum hc) hrun
    ((arrived_waiting q s).trans hr.empty) rfl)

/-! ## The tack probe's result -/

theorem tackResult_paramCheck (hl : q.params.length = 1) : tackResultOp.paramCheck 2 q.params = none :=
  fixed_paramCheck (n := 1) (by decide) (by decide) rfl hl rfl

theorem tackResult_words (hr : Ready 0x0204 q s) (hl : q.params.length = 1) (h : byteAt q.params 0 = 1 ∨ byteAt q.params 0 = 2) :
    ∃ l : List Byte, l.length = 256 ∧ (∀ k : Nat, k < 128 → fieldAt l (2 * k) 2 =
        (s.map.words[fin256 (128 * (byteAt q.params 0 - 1) + k)]).word % 65536) ∧
      Completes (.tackResult q) 0x0204 q s .done l (fun t => t = arrived q s) := by
  refine ⟨(upto 128).flatMap (fun k => le16 (s.map.words[fin256 (128 * (byteAt q.params 0 - 1) + k)]).word), ?_, fun k hk => ?_, ?_⟩
  · exact length_records 128 fun _ => le16_length _
  · exact fieldAt_words (f := fun k => (s.map.words[fin256 (128 * (byteAt q.params 0 - 1) + k)]).word) hk
  · refine reading_completes (o := tackResultOp) rfl hr (tackResult_paramCheck hl) ?_
    have hx : tackResultOp.run q (arrived q s) = _ := if_pos h
    rw [hx, arrived_map]
    rfl

/-- The record of TACK_RESULT that shows the active map (R93). -/
def capRecord (s : State) : List Byte := [byte (mapCode s)] ++ codeBytes s.map.activeChk ++ (upto 48).flatMap (fun r => le16 (railCap s r))

theorem codeBytes_length (v : Vector Nat 48) : (codeBytes v).length = 48 := by
  unfold codeBytes
  rw [List.length_map, Vector.length_toList]

theorem byteAt_codeBytes (v : Vector Nat 48) (r : Fin 48) (l : List Byte) : byteAt (codeBytes v ++ l) r.val = v[r] % 256 := by
  have hr : r.val < (codeBytes v).length := by rw [codeBytes_length]; exact r.isLt
  have hb : (codeBytes v)[r.val] = byte v[r] := by simp [codeBytes]
  unfold byteAt
  rw [List.getD_append _ _ _ _ hr, List.getD_eq_getElem _ _ hr, hb]
  exact BitVec.toNat_ofNat ..

theorem capRecord_fields (s : State) : (capRecord s).length = 145 ∧ byteAt (capRecord s) 0 = mapCode s ∧
    ∀ r : Fin 48, byteAt (capRecord s) (1 + r.val) = s.map.activeChk[r] % 256 ∧ fieldAt (capRecord s) (49 + 2 * r.val) 2 = railCap s r.val % 65536 := by
  have hcaps : ((upto 48).flatMap (fun r => le16 (railCap s r))).length = 96 := length_records 48 fun _ => le16_length _
  have hfield : ∀ r : Fin 48, fieldAt ((upto 48).flatMap (fun r => le16 (railCap s r))) (2 * r.val) 2 = railCap s r.val % 65536 :=
    fun r => fieldAt_words (f := railCap s) r.isLt
  unfold capRecord
  generalize (upto 48).flatMap (fun r => le16 (railCap s r)) = caps at hcaps hfield
  refine ⟨?_, ?_, fun r => ⟨?_, ?_⟩⟩
  · rw [List.length_append, List.length_append, codeBytes_length, hcaps]
    rfl
  · exact byteAt_byte_of_lt (mapCode_lt s) _
  · rw [List.append_assoc, byteAt_skip (n := 1) rfl, byteAt_codeBytes]
  · rw [fieldAt_skip (n := 49) (by rw [List.length_append, codeBytes_length]; rfl), hfield]

theorem capRecord_arrived : capRecord (arrived q s) = capRecord s := by
  unfold capRecord
  rw [mapCode_arrived, arrived_map, funext fun r => congrArg le16 (railCap_arrived (q := q) (s := s) r)]

theorem tackResult_caps (hr : Ready 0x0204 q s) (hl : q.params.length = 1) (h1 : byteAt q.params 0 ≠ 1) (h2 : byteAt q.params 0 ≠ 2) :
    Completes (.tackResult q) 0x0204 q s .done (capRecord s) (fun t => t = arrived q s) := by
  refine reading_completes (o := tackResultOp) rfl hr (tackResult_paramCheck hl) ?_
  have hx : tackResultOp.run q (arrived q s) = (arrived q s, .reply .done (capRecord (arrived q s))) := if_neg (not_or.mpr ⟨h1, h2⟩)
  rw [hx, capRecord_arrived]

/-! ## A rail, a context and a sequence -/

theorem railGetState_reads {r : Fin 48} (hr : Ready 0x0308 q s) (hl : q.params.length = 1) (h0 : byteAt q.params 0 = r.val) :
    Completes (.railGetState q) 0x0308 q s .done (regulationRecord s.rails[r]) (fun t => t = arrived q s) := by
  refine reading_completes (o := railGetStateOp) rfl hr (fixed_paramCheck (n := 1) (by decide) (by decide) rfl hl (railBad_none (v := 2) h0)) ?_
  have hx : railGetStateOp.run q (arrived q s) = (arrived q s, .reply .done (regulationRecord ((arrived q s).rail (railOp q.params)))) := rfl
  rw [hx, railOp_eq h0, rail_val, rail_of_rails (arrived_rails q s)]

theorem phaseStatus_reads {r : Fin 48} (hr : Ready 0x0406 q s) (hl : q.params.length = 1) (h0 : byteAt q.params 0 = r.val) :
    Completes (.phaseStatus q) 0x0406 q s .done (phaseRecord s r.val) (fun t => t = arrived q s) := by
  refine reading_completes (o := phaseStatusOp) rfl hr (fixed_paramCheck (n := 1) (by decide) (by decide) rfl hl (railBad_none (v := 2) h0)) ?_
  have hx : phaseStatusOp.run q (arrived q s) = (arrived q s, .reply .done (phaseRecord (arrived q s) (railOp q.params))) := rfl
  rw [hx, railOp_eq h0, phaseRecord_arrived]

theorem creaseBad_none {v : Nat} {p : List Byte} {k : Fin 8} (h : byteAt p 0 = k.val) : creaseBad v p = none := by
  have hk : k.val ≤ 7 := by omega
  simp [creaseBad, firstBad, fieldAt_one, h, hk]

theorem creaseReadOp_run {k : Fin 8} (h0 : byteAt q.params 0 = k.val) (s : State) : creaseReadOp.run q s =
    (if 1 ≤ byteAt q.params 1 ∧ byteAt q.params 1 ≤ 16 then
      done s ((upto 64).flatMap (fun j => le16 (s.crease[k].cur.getD (64 * (byteAt q.params 1 - 1) + j) 0) ++
        le16 (toCode 16 (s.crease[k].cor.getD (64 * (byteAt q.params 1 - 1) + j) 0))))
    else done s (creaseRecord s.crease[k])) := by
  have hk : Fin.ofNat 8 (byteAt q.params 0) = k := Fin.ext ((congrArg (· % 8) h0).trans (Nat.mod_eq_of_lt k.isLt))
  have hx : ∀ x : Fin 8, x = k → (if 1 ≤ byteAt q.params 1 ∧ byteAt q.params 1 ≤ 16 then
      done s ((upto 64).flatMap (fun j => le16 (s.crease[x].cur.getD (64 * (byteAt q.params 1 - 1) + j) 0) ++
        le16 (toCode 16 (s.crease[x].cor.getD (64 * (byteAt q.params 1 - 1) + j) 0))))
    else done s (creaseRecord s.crease[x])) = (if 1 ≤ byteAt q.params 1 ∧ byteAt q.params 1 ≤ 16 then
      done s ((upto 64).flatMap (fun j => le16 (s.crease[k].cur.getD (64 * (byteAt q.params 1 - 1) + j) 0) ++
        le16 (toCode 16 (s.crease[k].cor.getD (64 * (byteAt q.params 1 - 1) + j) 0))))
    else done s (creaseRecord s.crease[k])) := fun x hx => by rw [hx]
  exact hx _ hk

theorem creaseRead_paramCheck {k : Fin 8} (hl : q.params.length = 2) (h0 : byteAt q.params 0 = k.val) : creaseReadOp.paramCheck 2 q.params = none :=
  fixed_paramCheck (n := 2) (by decide) (by decide) rfl hl (creaseBad_none (v := 2) h0)

theorem creaseRead_table {k : Fin 8} (hr : Ready 0x0404 q s) (hl : q.params.length = 2) (h0 : byteAt q.params 0 = k.val) (h1 : 1 ≤ byteAt q.params 1)
    (h16 : byteAt q.params 1 ≤ 16) : ∃ l : List Byte, l.length = 256 ∧
      (∀ j : Nat, j < 64 → fieldAt l (4 * j) 2 = s.crease[k].cur.getD (64 * (byteAt q.params 1 - 1) + j) 0 % 65536) ∧
      Completes (.creaseRead q) 0x0404 q s .done l (fun t => t = arrived q s) := by
  refine ⟨(upto 64).flatMap (fun j => le16 (s.crease[k].cur.getD (64 * (byteAt q.params 1 - 1) + j) 0) ++
    le16 (toCode 16 (s.crease[k].cor.getD (64 * (byteAt q.params 1 - 1) + j) 0))), ?_, fun j hj => ?_, ?_⟩
  · exact length_records (c := 4) 64 fun _ => by simp
  · refine (fieldAt_record (c := 4) (o := 0) (w := 2) (fun _ => by simp) hj (by decide)).trans ?_
    exact fieldAt_le16 ..
  · refine reading_completes (o := creaseReadOp) rfl hr (creaseRead_paramCheck hl h0) ?_
    rw [creaseReadOp_run h0, if_pos ⟨h1, h16⟩, arrived_crease]
    rfl

theorem creaseRead_record {k : Fin 8} (hr : Ready 0x0404 q s) (hl : q.params.length = 2) (h0 : byteAt q.params 0 = k.val)
    (h : byteAt q.params 1 = 0 ∨ 16 < byteAt q.params 1) :
    Completes (.creaseRead q) 0x0404 q s .done (creaseRecord s.crease[k]) (fun t => t = arrived q s) := by
  refine reading_completes (o := creaseReadOp) rfl hr (creaseRead_paramCheck hl h0) ?_
  rw [creaseReadOp_run h0, if_neg (by omega), arrived_crease]
  rfl

theorem tseqRead_reads {k : Fin 8} (hr : Ready 0x0807 q s) (hl : q.params.length = 1) (h0 : byteAt q.params 0 = k.val) :
    Completes (.tseqRead q) 0x0807 q s .done (resultRecord s.tlm.seqs[k]) (fun t => t = arrived q s) := by
  refine reading_completes (o := tseqReadOp) rfl hr (fixed_paramCheck (n := 1) (by decide) (by decide) rfl hl (creaseBad_none (v := 2) h0)) ?_
  have hx : tseqReadOp.run q (arrived q s) = (arrived q s, .reply .done (resultRecord (arrived q s).tlm.seqs[Fin.ofNat 8 (byteAt q.params 0)])) := rfl
  have hk : Fin.ofNat 8 (byteAt q.params 0) = k := Fin.ext ((congrArg (· % 8) h0).trans (Nat.mod_eq_of_lt k.isLt))
  rw [hx, arrived_tlm]
  exact congrArg (fun x : Fin 8 => (arrived q s, Ans.reply .done (resultRecord s.tlm.seqs[x]))) hk

/-! ## The spur plan and the coverage -/

/-- The record of SPUR_PLAN_CHECK (R198). -/
def spurRecord (s : State) (u : Nat) (vs : List (Nat × Nat × Comp)) : List Byte :=
  [byte (b2n (!vs.isEmpty)), byte (min 255 vs.length), 0, 0] ++ le32 u ++ (upto 48).flatMap (fun r => le32 (hMax s r)) ++ violRecords vs

theorem spurPlanCheckOp_run (s : State) : spurPlanCheckOp.run q s =
    (s, .reply (if (planViols s s.clk.bands (checkU s (byteAt q.params 0) (fieldAt q.params 4 4))).isEmpty then .done else .planImpossible)
      (spurRecord s (checkU s (byteAt q.params 0) (fieldAt q.params 4 4))
        (planViols s s.clk.bands (checkU s (byteAt q.params 0) (fieldAt q.params 4 4))))) := rfl

theorem spurRecord_arrived (u : Nat) (vs : List (Nat × Nat × Comp)) : spurRecord (arrived q s) u vs = spurRecord s u vs := by
  unfold spurRecord
  rw [funext fun r => congrArg le32 (hMax_arrived (q := q) (s := s) r)]

theorem spurPlanCheck_answers {u : Nat} (hr : Ready 0x0504 q s) (hl : q.params.length = 8) (hu : u = checkU s (byteAt q.params 0) (fieldAt q.params 4 4)) :
    Completes (.spurPlanCheck q) 0x0504 q s (if (planViols s s.clk.bands u).isEmpty then .done else .planImpossible)
      (spurRecord s u (planViols s s.clk.bands u)) (fun t => t = arrived q s) := by
  refine reading_completes (o := spurPlanCheckOp) rfl hr (fixed_paramCheck (n := 8) (by decide) (by decide) rfl hl rfl) ?_
  have hbands : (arrived q s).clk.bands = s.clk.bands := Clk.get (arrived_clkcore q s) Clk.bands (fun _ => rfl)
  rw [spurPlanCheckOp_run, checkU_arrived, hbands, planViols_arrived, ← hu, spurRecord_arrived]

theorem spurRecord_fields (s : State) (u : Nat) (vs : List (Nat × Nat × Comp)) : fieldAt (spurRecord s u vs) 4 4 = u % 2 ^ 32 ∧
    (∀ r : Fin 48, fieldAt (spurRecord s u vs) (8 + 4 * r.val) 4 = hMax s r.val % 2 ^ 32) ∧ (spurRecord s u vs).drop 200 = violRecords vs := by
  have hmax : ((upto 48).flatMap (fun r => le32 (hMax s r))).length = 192 := length_records 48 fun _ => le32_length _
  have hx : spurRecord s u vs = [byte (b2n (!vs.isEmpty)), byte (min 255 vs.length), 0, 0] ++
      (le32 u ++ ((upto 48).flatMap (fun r => le32 (hMax s r)) ++ violRecords vs)) := by
    unfold spurRecord
    simp only [List.append_assoc]
  refine ⟨?_, fun r => ?_, ?_⟩
  · rw [hx, fieldAt_skip (n := 4) (o := 0) rfl]
    exact fieldAt_le32 ..
  · rw [hx, ← List.append_assoc, fieldAt_skip (n := 8) (by simp)]
    exact fieldAt_longs r.isLt _
  · unfold spurRecord
    exact List.drop_left' (by simp [hmax])

theorem coverageReport_reads (hr : Ready 0x0606 q s) (hl : q.params.length = 2) (h1 : 1 ≤ byteAt q.params 1) (h24 : byteAt q.params 1 ≤ 24)
    (hsum : byteAt q.params 0 + byteAt q.params 1 ≤ 48) : ∃ l : List Byte, l.length = 4 + 12 * byteAt q.params 1 ∧ byteAt l 0 = coverageFlags s ∧
      (∀ k : Nat, k < byteAt q.params 1 → (l.drop (4 + 12 * k)).take 12 = coverageRecord s (byteAt q.params 0 + k)) ∧
      Completes (.coverageReport q) 0x0606 q s .done l (fun t => t = arrived q s) := by
  have hlen : ∀ k, (coverageRecord s (byteAt q.params 0 + k)).length = 12 := fun k => coverageRecord_length ..
  refine ⟨[byte (coverageFlags s), 0, 0, 0] ++ (upto (byteAt q.params 1)).flatMap (fun k => coverageRecord s (byteAt q.params 0 + k)), ?_,
    byteAt_byte_of_lt (coverageFlags_lt s) _, fun k hk => ?_, ?_⟩
  · rw [List.length_append, length_records _ hlen, Nat.mul_comm 12]
    rfl
  · rw [← List.drop_drop]
    exact take_record hlen hk
  · refine reading_completes (o := coverageReportOp) rfl hr (fixed_paramCheck (n := 2) (by decide) (by decide) rfl hl (range_none h1 h24 hsum)) ?_
    have hx : coverageReportOp.run q (arrived q s) = (arrived q s, .reply .done ([byte (coverageFlags (arrived q s)), 0, 0, 0] ++
      (upto (byteAt q.params 1)).flatMap (fun k => coverageRecord (arrived q s) (byteAt q.params 0 + k)))) := rfl
    rw [hx, coverageFlags_arrived, funext fun k => coverageRecord_arrived (q := q) (s := s) (byteAt q.params 0 + k)]

end Sys2Proof.Machine
end

section
/-! PROOF. O58: the time, the backup memory and the watchdog are read (R348, R349,
R357). -/

namespace Sys2Proof.Machine

variable {s : State} {q : Req}

/-! ## The time and the backup memory -/

/-- The record of RTC_GET (R349). -/
def timeRecord (s : State) : List Byte :=
  s.hem.rtc ++ (le16 (hemWord s) ++ byte (b2n s.hem.calendar) :: byte s.hem.disc.code :: (le32 (toCode 32 s.hem.discV) ++
    (le32 (toCode 32 s.hem.discF) ++ (le16 (Config.freeNat (s.free + 1)) ++ [0, 0]))))

theorem rtcGetOp_run (s : State) : rtcGetOp.run q s = done { s with free := s.free + 2 } (timeRecord s) := by
  have hx : rtcGetOp.run q s = done { s with free := s.free + 2 } (s.hem.rtc ++ le16 (hemWord s) ++ [byte (b2n s.hem.calendar), byte s.hem.disc.code] ++
    le32 (toCode 32 s.hem.discV) ++ le32 (toCode 32 s.hem.discF) ++ le16 (Config.freeNat (s.free + 1)) ++ [0, 0]) := rfl
  rw [hx]
  unfold timeRecord
  simp only [List.append_assoc, List.cons_append, List.nil_append]

theorem timeRecord_arrived : timeRecord (arrived q s) = timeRecord s := by
  unfold timeRecord
  rw [hemWord_arrived, arrived_hem, arrived_free]

theorem timeRecord_fields (s : State) : (timeRecord s).take s.hem.rtc.length = s.hem.rtc ∧ (timeRecord s).length = s.hem.rtc.length + 16 ∧
    fieldAt ((timeRecord s).drop s.hem.rtc.length) 0 2 = hemWord s % 65536 ∧ byteAt ((timeRecord s).drop s.hem.rtc.length) 2 = b2n s.hem.calendar := by
  unfold timeRecord
  refine ⟨List.take_left, ?_, ?_, ?_⟩
  · simp
  · rw [List.drop_left]
    exact fieldAt_le16 ..
  · rw [List.drop_left]
    exact byteAt_nth (le16 (hemWord s)) (le16_length _) (Nat.lt_of_le_of_lt (b2n_le _) (by decide)) _

theorem backup_paramCheck (hl : q.params.length = 2) (h1 : 1 ≤ byteAt q.params 1) (hsum : byteAt q.params 0 + byteAt q.params 1 ≤ 64) :
    backupReadOp.paramCheck 2 q.params = none := by
  have h0 : byteAt q.params 0 ≤ 63 := by omega
  have h64 : byteAt q.params 1 ≤ 64 := by omega
  have hb : backupBad 2 q.params = none := by simp [backupBad, firstBad, fieldAt_one, h0, h1, h64, Nat.not_lt.mpr hsum]
  exact fixed_paramCheck (n := 2) (by decide) (by decide) rfl hl hb

/-- The record of BACKUP_READ (R348). -/
def backupRecord (h : Hem) (first count : Nat) : List Byte :=
  (h.backup.toList.drop first).take count ++ [byte (b2n (decide (crc8 h.backup.toList ≠ h.check.toNat)))]

theorem backupRead_reads (hr : Ready 0x0B07 q s) (hl : q.params.length = 2) (h1 : 1 ≤ byteAt q.params 1)
    (hsum : byteAt q.params 0 + byteAt q.params 1 ≤ 64) : Completes (.backupRead q) 0x0B07 q s .done
      (backupRecord s.hem (byteAt q.params 0) (byteAt q.params 1)) (fun t => t = { arrived q s with hem := { s.hem with bkpBad := t.hem.bkpBad } }) := by
  have hx : backupReadOp.run q (arrived q s) = done (checkBackup (arrived q s)) (backupRecord (arrived q s).hem (byteAt q.params 0) (byteAt q.params 1)) := rfl
  have hh := arrived_hem q s
  rw [hh] at hx
  refine completes_of_reply (o := backupReadOp) rfl hr (backup_paramCheck hl h1 hsum) hx ((arrived_waiting q s).trans hr.empty) ?_
  unfold checkBackup
  rw [hh]

theorem backupRecord_bytes {h : Hem} {first count : Nat} (hsum : first + count ≤ 64) : (backupRecord h first count).length = count + 1 ∧
    (∀ k : Nat, k < count → ∀ j : Fin 64, j.val = first + k → (backupRecord h first count).getD k 0 = h.backup[j]) ∧
    byteAt (backupRecord h first count) count = (if crc8 h.backup.toList = h.check.toNat then 0 else 1) := by
  have hlen : ((h.backup.toList.drop first).take count).length = count := by
    rw [List.length_take, List.length_drop, Vector.length_toList]
    omega
  unfold backupRecord
  refine ⟨?_, fun k hk j hj => ?_, ?_⟩
  · rw [List.length_append, hlen]
    rfl
  · have hk' : k < ((h.backup.toList.drop first).take count).length := by rw [hlen]; exact hk
    rw [List.getD_append _ _ _ _ hk', List.getD_eq_getElem _ _ hk', List.getElem_take, List.getElem_drop]
    simp [← hj]
  · refine (byteAt_nth _ hlen (Nat.lt_of_le_of_lt (b2n_le _) (by decide)) []).trans ?_
    by_cases hc : crc8 h.backup.toList = h.check.toNat
    · rw [if_pos hc, decide_eq_false (not_not.mpr hc)]
      rfl
    · rw [if_neg hc, decide_eq_true hc]
      rfl

/-! ## The watchdog -/

/-- The check-ins of the period as the bits of a number (R357). -/
def checkinBits (h : Hem) : Nat := (upto 16).foldl (fun a k => a + (if h.checkins.any (fun x => decide (x.1 = k)) then 2 ^ k else 0)) 0

/-- The record of WDOG_STATUS (R357). -/
def wdogRecord (h : Hem) : List Byte :=
  byte h.wdSt.code :: byte (b2n h.wd.enable + b2n h.wd.lock * 2 + b2n h.wdi * 4) :: (le16 h.wd.mask.toNat ++ (le16 (checkinBits h) ++ (0 :: 0 ::
    (le32 (h.ticks - h.wdStart) ++ (le32 h.wd.t ++ (le32 h.wd.c ++ (le16 h.wd.wdoMs ++ [])))))))

theorem wdogStatusOp_run (s : State) : wdogStatusOp.run q s = done s (wdogRecord s.hem) := by
  have hx : wdogStatusOp.run q s = done s ([byte s.hem.wdSt.code, byte (b2n s.hem.wd.enable + b2n s.hem.wd.lock * 2 + b2n s.hem.wdi * 4)] ++
    le16 s.hem.wd.mask.toNat ++ le16 (checkinBits s.hem) ++ [0, 0] ++ le32 (s.hem.ticks - s.hem.wdStart) ++ le32 s.hem.wd.t ++ le32 s.hem.wd.c ++
    le16 s.hem.wd.wdoMs) := rfl
  rw [hx]
  unfold wdogRecord
  simp only [List.append_assoc, List.cons_append, List.nil_append, List.append_nil]

theorem checkinBits_bit (h : Hem) (k : Fin 16) : natBit (checkinBits h % 65536) k.val = h.checkins.any (fun x => decide (x.1 = k.val)) := by
  have hf : (fun (a k : Nat) => a + (if h.checkins.any (fun x => decide (x.1 = k)) then 2 ^ k else 0)) =
      fun a k => a + b2n (h.checkins.any (fun x => decide (x.1 = k))) * 2 ^ k := by
    funext a k
    cases h.checkins.any (fun x => decide (x.1 = k)) <;> simp [b2n]
  unfold checkinBits
  rw [hf]
  exact natBit_flags (fun k => h.checkins.any (fun x => decide (x.1 = k))) k.isLt 16 (Nat.le_refl _)

theorem wdogRecord_bytes (h : Hem) : byteAt (wdogRecord h) 0 = h.wdSt.code ∧ natBit (byteAt (wdogRecord h) 1) 0 = h.wd.enable ∧
    natBit (byteAt (wdogRecord h) 1) 1 = h.wd.lock ∧ natBit (byteAt (wdogRecord h) 1) 2 = h.wdi := by
  obtain ⟨h0, h1, h2, hlt⟩ := natBit_three h.wd.enable h.wd.lock h.wdi
  have hb : byteAt (wdogRecord h) 1 = b2n h.wd.enable + b2n h.wd.lock * 2 + b2n h.wdi * 4 := byteAt_nth [byte h.wdSt.code] rfl hlt _
  rw [hb]
  exact ⟨byteAt_byte_of_lt (wdogSt_code_lt _) _, h0, h1, h2⟩

/-- The fields of the record after its two bytes. -/
theorem wdogRecord_fields (h : Hem) : fieldAt (wdogRecord h) 2 2 = h.wd.mask.toNat ∧ fieldAt (wdogRecord h) 4 2 = checkinBits h % 65536 ∧
    fieldAt (wdogRecord h) 8 4 = (h.ticks - h.wdStart) % 2 ^ 32 ∧ fieldAt (wdogRecord h) 12 4 = h.wd.t % 2 ^ 32 ∧
    fieldAt (wdogRecord h) 16 4 = h.wd.c % 2 ^ 32 ∧ fieldAt (wdogRecord h) 20 2 = h.wd.wdoMs % 65536 := by
  have hmask : h.wd.mask.toNat % 65536 = h.wd.mask.toNat := Nat.mod_eq_of_lt h.wd.mask.isLt
  unfold wdogRecord
  generalize hx : byte h.wdSt.code = x
  generalize hy : byte (b2n h.wd.enable + b2n h.wd.lock * 2 + b2n h.wdi * 4) = y
  refine ⟨?_, ?_, ?_, ?_, ?_, ?_⟩
  · exact (fieldAt_skip (a := [x, y]) (n := 2) rfl _ 0 2).trans ((fieldAt_le16 ..).trans hmask)
  · exact (fieldAt_skip (a := x :: y :: le16 h.wd.mask.toNat) (n := 4) rfl _ 0 2).trans (fieldAt_le16 ..)
  · exact (fieldAt_skip (a := x :: y :: (le16 h.wd.mask.toNat ++ (le16 (checkinBits h) ++ [0, 0]))) (n := 8) rfl _ 0 4).trans (fieldAt_le32 ..)
  · exact (fieldAt_skip (a := x :: y :: (le16 h.wd.mask.toNat ++ (le16 (checkinBits h) ++ (0 :: 0 :: le32 (h.ticks - h.wdStart))))) (n := 12) rfl _ 0 4).trans
      (fieldAt_le32 ..)
  · exact (fieldAt_skip (a := x :: y :: (le16 h.wd.mask.toNat ++ (le16 (checkinBits h) ++ (0 :: 0 :: (le32 (h.ticks - h.wdStart) ++ le32 h.wd.t)))))
      (n := 16) rfl _ 0 4).trans (fieldAt_le32 ..)
  · exact (fieldAt_skip (a := x :: y :: (le16 h.wd.mask.toNat ++ (le16 (checkinBits h) ++ (0 :: 0 :: (le32 (h.ticks - h.wdStart) ++
      (le32 h.wd.t ++ le32 h.wd.c)))))) (n := 20) rfl _ 0 2).trans (fieldAt_le16 ..)

end Sys2Proof.Machine
end

section
/-! PROOF. O58: status commands return their records and change nothing else (R93, R134, R167, R170, R189, R198, R222, R260, R274, R298, R330,
R349, R357, R385-R387, R447, R449, R465, R476, R504, R520). -/

namespace Sys2Proof.Machine

variable {s : State} {q : Req}

theorem clockStatus_reads (hr : Ready 0x0505 q s) (hq : q.params = []) :
    Completes (.clockStatus q) 0x0505 q s .done (clockRecord (holdOffset (arrived q s))) (fun t =>
      t = { arrived q s with free := t.free, clk := { (arrived q s).clk with offNow := t.clk.offNow, offAt := t.clk.offAt } }) :=
  completes_of_reply (o := clockStatusOp) (t := holdOffset (arrived q s)) rfl hr (nil_paramCheck hq (by decide) rfl rfl) rfl
    ((arrived_waiting q s).trans hr.empty) rfl

theorem rtcGet_reads (hr : Ready 0x0B02 q s) (hq : q.params = []) :
    Completes (.rtcGet q) 0x0B02 q s .done (timeRecord s) (fun t => t = { arrived q s with free := t.free }) :=
  completes_of_reply (o := rtcGetOp) (t := { arrived q s with free := (arrived q s).free + 2 }) rfl hr (nil_paramCheck hq (by decide) rfl rfl) ((rtcGetOp_run _).trans (by rw [timeRecord_arrived]; rfl))
    ((arrived_waiting q s).trans hr.empty) rfl

theorem wdogStatus_reads (hr : Ready 0x0C04 q s) (hq : q.params = []) :
    Completes (.wdogStatus q) 0x0C04 q s .done (wdogRecord s.hem) (fun t => t = arrived q s) :=
  reading_completes (o := wdogStatusOp) rfl hr (nil_paramCheck hq (by decide) rfl rfl) ((wdogStatusOp_run _).trans (by rw [arrived_hem]; rfl))

/-- Settles O58: each command is its record, laid out by the lengths of its fields; what it shows depends on nothing that an arriving command
changes. -/
theorem statusRecordsAreRead : Obligations.StatusRecordsAreRead := by
  refine ⟨fun q s i op r hmem hr hq => plainRecords hmem hr hq, fun s => ?_, fun q s => ⟨configDigest_reads, fun first count hr hl hf hc h1 hsum => ?_,
    clockStatus_reads, fun hr hl => ⟨tackResult_words hr hl, fun h1 h2 => ?_⟩, fun r hl h0 => ⟨fun hr => ?_, fun hr => ?_⟩, fun k hr hl h0 => ⟨?_, creaseRead_record hr hl h0⟩,
    fun u hr hl hu => ?_, fun first count hr hl hf hc h1 h24 hsum => ?_, fun k hr hl h0 => ⟨resultRecord_length _, tseqRead_reads hr hl h0⟩, fun hr hq => ?_,
    fun first count hr hl hf hc h1 hsum => ?_, fun hr hq => ?_⟩⟩
  case refine_1 =>
    obtain ⟨hst, hdom⟩ := statusRecord_states s
    obtain ⟨hb, hb0, hb1⟩ := firmwareRecord_banks s
    exact ⟨identityRecord_family s, statusRecord_length s, hst, hdom, statusRecord_running s, clockRecord_length s, domRecord_length s, domRecord_state s,
      domRecord_pg s, thermRecord_length s, chargerRecord_length s, chargerRecord_phase s, pendingBitmap_length s, pendingBitmap_bit s,
      healthRecord_length s, hb, hb0, hb1, seamRecord_length s, seamRecord_link s⟩
  case refine_2 =>
    subst hf hc
    refine ⟨fun h0 h12 => ?_, fun h0 h12 => ?_, fun h0 => ?_, fun h0 h12 => ?_⟩
    · refine railmapGet_reads (f := fun r => (s.map.staged[fin48 r]).bytes) hr hl h1 hsum (.inr h12) (fun _ => entry_bytes_length _) fun r => ?_
      rw [h0]
      exact read_arrived (fun s => (s.map.staged[fin48 r]).bytes) q s fun _ _ _ _ _ => rfl
    · refine railmapGet_reads (f := fun r => (s.entry r).bytes) hr hl h1 hsum (.inr h12) (fun _ => entry_bytes_length _) fun r => ?_
      rw [h0]
      exact read_arrived (fun s => (s.entry r).bytes) q s fun _ _ _ _ _ => rfl
    · refine railmapGet_reads hr hl h1 hsum (.inl h0) (membershipRecord_length s) fun r => ?_
      rw [h0]
      exact membershipRecord_arrived r
    · obtain ⟨l, hlen, hcode, hrec, hx⟩ := railmapGet_reads hr hl h1 hsum (.inr h12) (fun _ => entry_bytes_length _) (mapRecord_reserved h0 _)
      exact ⟨l, hlen, hcode, fun k hk => ⟨_, hrec k hk⟩, hx⟩
  case refine_3 =>
    obtain ⟨hlen, hcode, hf⟩ := capRecord_fields s
    exact ⟨capRecord s, hlen, hcode, hf, tackResult_caps hr hl h1 h2⟩
  case refine_4 => exact ⟨regulationRecord_length _, railGetState_reads hr hl h0⟩
  case refine_5 => exact ⟨phaseRecord_length .., phaseStatus_reads hr hl h0⟩
  case refine_6 =>
    intro sel hsel h1 h16
    subst hsel
    exact creaseRead_table hr hl h0 h1 h16
  case refine_7 =>
    have hx := spurPlanCheck_answers hr hl hu
    obtain ⟨hfu, hmax, hdrop⟩ := spurRecord_fields s u (planViols s s.clk.bands u)
    generalize planViols s s.clk.bands u = vs at hx hfu hmax hdrop
    refine ⟨fun hv => ?_, fun hv => ?_⟩
    · subst hv
      refine ⟨_, ?_, rfl, hfu, hmax, hx⟩
      have h := congrArg List.length hdrop
      have hlen : ((upto 48).flatMap (fun r => le32 (hMax s r))).length = 192 := length_records 48 fun _ => le32_length _
      simp [spurRecord, hlen, violRecords]
    · have he : vs.isEmpty = false := List.isEmpty_eq_false_iff.mpr hv
      rw [he] at hx
      refine ⟨_, ?_, ?_, hfu, hdrop, hx⟩
      · unfold spurRecord
        rw [he]
        rfl
      · exact byteAt_nth [byte (b2n (!vs.isEmpty))] rfl (by omega) _
  case refine_8 =>
    subst hf hc
    exact coverageReport_reads hr hl h1 h24 hsum
  case refine_9 =>
    obtain ⟨htake, hlen, hword, hcal⟩ := timeRecord_fields s
    exact ⟨timeRecord s, htake, hlen, hword, hcal, rtcGet_reads hr hq⟩
  case refine_10 =>
    subst hf hc
    obtain ⟨hlen, hbytes, hlast⟩ := backupRecord_bytes (h := s.hem) hsum
    exact ⟨_, hlen, hbytes, hlast, backupRead_reads hr hl h1 hsum⟩
  case refine_11 =>
    obtain ⟨hst, hen, hlock, hwdi⟩ := wdogRecord_bytes s.hem
    obtain ⟨hmask, hset, hsince, ht, hc, hms⟩ := wdogRecord_fields s.hem
    refine ⟨_, hst, hen, hlock, hwdi, hmask, fun k => ?_, hsince, ht, hc, hms, wdogStatus_reads hr hq⟩
    rw [hset]
    exact checkinBits_bit s.hem k

end Sys2Proof.Machine
end
